-- ==== Sys2Proof/Word.lean ====
section
/-!
DEFINITION. Words and byte sequences: the widths of 00_scope.md and little-endian and big-endian reading (R7).
-/

namespace Sys2Proof

abbrev Byte := BitVec 8
abbrev Word := BitVec 32
abbrev DWord := BitVec 64
abbrev Bytes := List Byte

/-- The number that bytes spell, least significant byte first (R7: structures in memory). -/
def Bytes.le : Bytes → Nat
  | [] => 0
  | b :: bs => b.toNat + 256 * Bytes.le bs

/-- The number that bytes spell, most significant byte first (R7: frames). -/
def Bytes.be (bs : Bytes) : Nat := bs.foldl (fun a b => a * 256 + b.toNat) 0

/-- n bytes of v, least significant first. -/
def leBytes : Nat → Nat → Bytes
  | 0, _ => []
  | n + 1, v => BitVec.ofNat 8 v :: leBytes n (v / 256)

/-- n bytes of v, most significant first. -/
def beBytes (n v : Nat) : Bytes := (leBytes n v).reverse

/-- n bytes of bs from offset off; a byte beyond the end reads 0. -/
def Bytes.slice (bs : Bytes) (off n : Nat) : Bytes :=
  (List.range n).map fun i => bs.getD (off + i) 0#8

/-- Little-endian field of n bytes at offset off. -/
def Bytes.leAt (bs : Bytes) (off n : Nat) : Nat := Bytes.le ((bs.drop off).take n)

/-- Big-endian field of n bytes at offset off. -/
def Bytes.beAt (bs : Bytes) (off n : Nat) : Nat := Bytes.be ((bs.drop off).take n)

def Bytes.u8 (bs : Bytes) (off : Nat) : Nat := (bs.getD off 0#8).toNat
def Bytes.u16 (bs : Bytes) (off : Nat) : Nat := Bytes.leAt bs off 2
def Bytes.u32 (bs : Bytes) (off : Nat) : Nat := Bytes.leAt bs off 4
def Bytes.u64 (bs : Bytes) (off : Nat) : Nat := Bytes.leAt bs off 8

/-- Every byte is 0. -/
def Bytes.isZero (bs : Bytes) : Bool := bs.all (· == 0#8)

/-- Bits hi down to lo of a number. -/
def bitsOf (v hi lo : Nat) : Nat := v / 2 ^ lo % 2 ^ (hi - lo + 1)

/-- Bit k of a number. -/
def bitOf (v k : Nat) : Bool := v / 2 ^ k % 2 == 1

/-- Signed reading of the low n bits (two's complement). -/
def sgn (n v : Nat) : Int :=
  let m := v % 2 ^ n
  if n = 0 then 0 else if m < 2 ^ (n - 1) then (m : Int) else (m : Int) - (2 ^ n : Nat)

/-- Two's complement of an integer in n bits. -/
def unsgn (n : Nat) (i : Int) : Nat := (i % (2 ^ n : Nat)).toNat

/-- Addition that stops at a maximum (a saturating counter). -/
def satAdd (max a b : Nat) : Nat := min max (a + b)

/-- Ceiling of a quotient. -/
def ceilDiv (a b : Nat) : Nat := (a + b - 1) / b

end Sys2Proof
end

