-- ==== Sys2Proof/Syntax.lean ====
section
/-!
DEFINITION. The commands of the S7: one constructor per row of spec/opcode_table.json, and the operand types.
Each docstring is the rule the row names and the row's summary.
-/

namespace Sys2Proof

/-- Requester of a register access (R14): SOURCE 0 to 3 of GLB_ACCERR. -/
inductive Requester where
  | supervisor
  | application (core : Nat)
  | engService
  | cmp
  deriving DecidableEq, Repr

/-- General register number of an application core, g0 to g31 (R80). -/
abbrev GReg := BitVec 5

/-- Shift of SHK, K[7:6] (R86). -/
inductive ShiftKind where
  | shl | shr | sar
  deriving DecidableEq, Repr

/-- What one group ADC sweep measured (R198): channel, terminal millivolts and channel current in microamperes;
then group, reading of the 2.5 V reference and of the 0 V reference, in millivolts; then field supply and its
millivolts; then group and its current in milliamperes (Tables 8.10 and 8.11). -/
structure SweepMeas where
  chans : List (Nat × Int × Int)
  refs : List (Nat × Int × Int)
  supplies : List (Nat × Nat)
  groups : List (Nat × Nat)
  deriving DecidableEq, Repr

/-- A CAN frame on the wire (R278, R286): identifier with its format, remote frame, FD format, bit-rate switch, error
state indicator, DLC, data bytes, and the low word of ship time at its start-of-frame edge. -/
structure CanFrame where
  ext : Bool
  id : BitVec 29
  rtr : Bool
  fd : Bool
  brs : Bool
  esi : Bool
  dlc : BitVec 4
  data : Bytes
  sof : BitVec 32
  deriving DecidableEq, Repr

/-- Kind of a CAN error (R298). -/
inductive CanErrKind where
  | stuff | form | ack | bit1 | bit0 | crc
  deriving DecidableEq, Repr

/-- How a CAN error counts (R298, the rules of ISO 11898-1 it names). -/
inductive CanErrEffect where
  | transmit | receive | receiveDominantAfter | noCount
  deriving DecidableEq, Repr

/-- Where a CAN error strikes (R298): in the data phase or not, and, where the frame sent had passed its data phase
bit rate switch, the loop delays measured before the error (R282). -/
structure CanErrPlace where
  dataPhase : Bool
  echoes : Option (List Nat)
  deriving DecidableEq, Repr

/-- A moment of an arbitration (R287, R291): the frame is offered, at its start of frame; it wins, or it loses. -/
inductive CanArbitration where
  | start | won | lost
  deriving DecidableEq, Repr

/-- What the receiver says of an Ethernet frame: whether its FCS is right (R310), and how many ns its start-of-frame
delimiter lies back (R318). -/
structure EthRxStatus where
  fcsOk : Bool
  ageNs : Nat
  deriving DecidableEq, Repr

/-- A Nymil packet as received: the fields of Table 13.3, 256 payload bytes and the PCRC. -/
structure NymilPacket where
  ptype : BitVec 8
  epoch : BitVec 16
  pktNo : BitVec 16
  vlen : BitVec 8
  credit : BitVec 8
  payload : Bytes
  pcrc : BitVec 32
  deriving DecidableEq, Repr

/-- What arrives on the Nymil link: a packet, or an ordered-set block that returns credits (R327, R328). -/
inductive NymilArrival where
  | packet (x : NymilPacket)
  | credits (count : BitVec 8)
  deriving DecidableEq, Repr

/-- Three samples of the 18 strap pins at reset release (R442). -/
structure StrapSamples where
  a : BitVec 18
  b : BitVec 18
  c : BitVec 18
  deriving DecidableEq, Repr

/-- A send entry (R334): its table index, and the credits that come back before its END (R328). -/
structure NymilSend where
  entry : Nat
  returned : Nat
  deriving DecidableEq, Repr

/-- What key agreement installs on a plant port (R312, R313): a SAK under an association number. -/
structure SakInstall where
  port : Nat
  an : BitVec 2
  sak : Bytes
  deriving DecidableEq, Repr

/-- Steps 2 to 4 of a settings write (R449): MAGIC cleared, the body, MAGIC written. -/
inductive SettingsStep where
  | clear | body | commit
  deriving DecidableEq, Repr

/-- What the memory made of a settings write (R449): every page taken, a page of a step not ready within 10 ms, or bytes
held that differ from those sent. -/
inductive SettingsOutcome where
  | ok
  | timeout (step : SettingsStep)
  | verifyFailed
  deriving DecidableEq, Repr

/-- What came back of a loopback item before the next one is sent (R474, Table 20.1): nothing; a frame or packet, with or
without a protocol error; or what was measured in the item's step, in the units that `lbMeasured` names. -/
inductive LbOutcome where
  | lost
  | frame (item : Bytes) (error : Bool)
  | measured (values : List Int)
  deriving DecidableEq, Repr

/-- PTP message a port sends at its interval (R318). -/
inductive PtpTxKind where
  | sync | announce | pdelayReq
  deriving DecidableEq, Repr


/-- The commands (spec/opcode_table.json). Operands carry what the row's spec text takes from outside the state:
the requester of an access, the unit, the operands of an instruction, a measured or received value. -/
inductive Instr where
  /-- REGISTER_WRITE, R10: A 32-bit write to a register that has no row of its own; refused fields, RWS fields and reserved offsets are handled and recorded in GLB_ACCERR. -/
  | registerWrite (req : Requester) (addr value : BitVec 32) (nbytes : Nat)
  /-- GLB_ACCERR_WRITE, R14: A write to GLB_ACCERR clears its W1C flags and COUNT, then records any refused part of the same write. -/
  | glbAccerrWrite (req : Requester) (value : BitVec 32)
  /-- STITCH_BOUNDARY, R35: Ship time passes the next multiple of the stitch period P and the module generates a stitch boundary; the stitch counter advances. -/
  | stitchBoundary
  /-- CORE_SEG, R82: A cyclic task segment starts on its core at its START tick with its registers initialised. -/
  | coreSeg (core entry : Nat)
  /-- SELV_SEG, R106: A selvedge run A or run B starts at its START tick and builds a write signature. -/
  | selvSeg (core entry : Nat)
  /-- EVT_SLOT, R122: At the START tick the event slot takes the oldest waiting trigger and runs one activation, or does nothing. -/
  | evtSlot (core entry : Nat)
  /-- LOOP_GRP, R135: A loop lane computes the channels of a group entry in ascending order from its START tick. -/
  | loopGrp (lane entry : Nat)
  /-- QP_START, R184: The solver starts a context solve at its QP_START tick: it takes the input, builds the unconstrained start and rebuilds any warm start. -/
  | qpStart (entry : Nat)
  /-- OUT_APPLY, R25: At the output apply point the I/O sequencer applies the published output halves and selvedge outputs to the field. -/
  | outApply
  /-- RETAIN_COMMIT, R127: The retained runs and the bank header are written to the uncommitted retain bank; the header write is the bank switch. -/
  | retainCommit
  /-- SELFTEST, R476: A scheduled self-test entry runs the test that its OBJECT names. -/
  | selftest (agent entry : Nat) (pass : Bool)
  /-- BUDGET_EXCEEDED, R49: An entry's engine spends more cycles than BUDGET_CYC, a CAUSE 0 overrun, and the policy of Table 2.5 applies. -/
  | budgetExceeded (agent : Nat)
  /-- END_TICK_OVERRUN, R49: An entry is not complete at the beginning of tick END, a CAUSE 1 overrun. -/
  | endTickOverrun (agent : Nat)
  /-- CAN_SLOT_START, R290: A CAN FD scheduled transmit slot takes its frame at START, and the frame becomes pending 0.4 µs later, or no data is counted. -/
  | canSlotStart (ctrl entry : Nat)
  /-- CAN_SLOT_END, R291: At the END tick a pending slot frame that has not won arbitration is withdrawn. -/
  | canSlotEnd (ctrl : Nat)
  /-- ETH_SLOT_START, R308: A plant-port NET_TX entry takes its filled frame and sends it 1.0 µs after START, or counts no data. -/
  | ethSlotStart (port entry : Nat)
  /-- NYMIL_SEND_ENTRY, R334: A Nymil send entry sends the Lining items of its slot as DATA packets, and the end-mark entry also sends the END_MARK. -/
  | nymilSendEntry (send : NymilSend)
  /-- NYMIL_APPLY_ENTRY, R337: A Nymil apply entry writes a newly committed epoch's items to their own addresses. -/
  | nymilApplyEntry (entry : Nat)
  /-- ADD, R89: Integer add, wrapping, with a .32 form. -/
  | add (core : Nat) (w32 : Bool) (d a b : GReg)
  /-- SUB, R89: Integer subtract, wrapping, with a .32 form. -/
  | sub (core : Nat) (w32 : Bool) (d a b : GReg)
  /-- AND, R86: Bitwise AND of two registers. -/
  | and (core : Nat) (d a b : GReg)
  /-- IOR, R86: Bitwise inclusive OR of two registers. -/
  | ior (core : Nat) (d a b : GReg)
  /-- XOR, R86: Bitwise exclusive OR of two registers. -/
  | xor (core : Nat) (d a b : GReg)
  /-- SHL, R89: Shift left by the unsigned amount in b. -/
  | shl (core : Nat) (w32 : Bool) (d a b : GReg)
  /-- SHR, R89: Logical shift right by the unsigned amount in b. -/
  | shr (core : Nat) (w32 : Bool) (d a b : GReg)
  /-- SAR, R89: Arithmetic shift right by the unsigned amount in b. -/
  | sar (core : Nat) (w32 : Bool) (d a b : GReg)
  /-- CMPLT, R86: Signed less-than compare that writes 0 or 1. -/
  | cmplt (core : Nat) (d a b : GReg)
  /-- CMPLTU, R86: Unsigned less-than compare that writes 0 or 1. -/
  | cmpltu (core : Nat) (d a b : GReg)
  /-- CMPEQ, R86: Equality compare that writes 0 or 1. -/
  | cmpeq (core : Nat) (d a b : GReg)
  /-- MIN, R86: Signed integer minimum. -/
  | min (core : Nat) (d a b : GReg)
  /-- MAX, R86: Signed integer maximum. -/
  | max (core : Nat) (d a b : GReg)
  /-- MUL, R86: Low 64 bits of the integer product, or the sign-extended 32-bit product in the .32 form. -/
  | mul (core : Nat) (w32 : Bool) (d a b : GReg)
  /-- MULHS, R86: High 64 bits of the signed product. -/
  | mulhs (core : Nat) (d a b : GReg)
  /-- MULHU, R86: High 64 bits of the unsigned product. -/
  | mulhu (core : Nat) (d a b : GReg)
  /-- DIVS, R89: Signed integer quotient, with the divide-by-zero and overflow flags. -/
  | divs (core : Nat) (w32 : Bool) (d a b : GReg)
  /-- DIVU, R89: Unsigned integer quotient. -/
  | divu (core : Nat) (w32 : Bool) (d a b : GReg)
  /-- MODS, R89: Signed integer remainder. -/
  | mods (core : Nat) (w32 : Bool) (d a b : GReg)
  /-- MODU, R89: Unsigned integer remainder. -/
  | modu (core : Nat) (w32 : Bool) (d a b : GReg)
  /-- GETS, R81: Read a special register by number. -/
  | gets (core : Nat) (d : GReg) (k : BitVec 14)
  /-- PUTS, R81: Write a writable special register by number. -/
  | puts (core : Nat) (a : GReg) (k : BitVec 14)
  /-- ADDK, R86: Add a sign-extended constant. -/
  | addk (core : Nat) (d a : GReg) (k : BitVec 14)
  /-- ANDK, R86: AND with a zero-extended constant. -/
  | andk (core : Nat) (d a : GReg) (k : BitVec 14)
  /-- IORK, R86: OR with a zero-extended constant. -/
  | iork (core : Nat) (d a : GReg) (k : BitVec 14)
  /-- XORK, R86: XOR with a zero-extended constant. -/
  | xork (core : Nat) (d a : GReg) (k : BitVec 14)
  /-- CMPLTK, R86: Signed compare of a register against a constant. -/
  | cmpltk (core : Nat) (d a : GReg) (k : BitVec 14)
  /-- SHK, R89: Shift by a constant amount, left, right or arithmetic. -/
  | shk (core : Nat) (kind : ShiftKind) (w32 : Bool) (d a : GReg) (amount : BitVec 6)
  /-- LIH, R86: Load a sign-extended constant shifted left by 13. -/
  | lih (core : Nat) (d : GReg) (k : BitVec 19)
  /-- FADD, R90: Floating-point add in binary32 or binary64. -/
  | fadd (core : Nat) (f64 : Bool) (d a b : GReg)
  /-- FSUB, R90: Floating-point subtract. -/
  | fsub (core : Nat) (f64 : Bool) (d a b : GReg)
  /-- FMUL, R90: Floating-point multiply. -/
  | fmul (core : Nat) (f64 : Bool) (d a b : GReg)
  /-- FMIN, R90: Floating-point minimum, with −0 ordered below +0 and the stated NaN rules. -/
  | fmin (core : Nat) (f64 : Bool) (d a b : GReg)
  /-- FMAX, R90: Floating-point maximum, with the stated NaN rules. -/
  | fmax (core : Nat) (f64 : Bool) (d a b : GReg)
  /-- FNEG, R90: Invert the sign bit and set no flag. -/
  | fneg (core : Nat) (f64 : Bool) (d a : GReg)
  /-- FABS, R90: Clear the sign bit and set no flag. -/
  | fabs (core : Nat) (f64 : Bool) (d a : GReg)
  /-- FCMPEQ, R90: Quiet floating-point equality compare. -/
  | fcmpeq (core : Nat) (f64 : Bool) (d a b : GReg)
  /-- FCMPLT, R90: Floating-point less-than compare that sets INVALID for a NaN operand. -/
  | fcmplt (core : Nat) (f64 : Bool) (d a b : GReg)
  /-- FCMPLE, R90: Floating-point less-or-equal compare that sets INVALID for a NaN operand. -/
  | fcmple (core : Nat) (f64 : Bool) (d a b : GReg)
  /-- FDIV, R90: Floating-point divide. -/
  | fdiv (core : Nat) (f64 : Bool) (d a b : GReg)
  /-- FSQRT, R90: Floating-point square root. -/
  | fsqrt (core : Nat) (f64 : Bool) (d a : GReg)
  /-- FMA, R90: Fused multiply-add a × b + c with one rounding. -/
  | fma (core : Nat) (f64 : Bool) (d a b c : GReg)
  /-- FMS, R90: Fused multiply-subtract a × b − c. -/
  | fms (core : Nat) (f64 : Bool) (d a b c : GReg)
  /-- FNMA, R90: Fused negative multiply-add −(a × b) + c. -/
  | fnma (core : Nat) (f64 : Bool) (d a b c : GReg)
  /-- F64_F32, R90: Convert binary32 to binary64. -/
  | f64F32 (core : Nat) (d a : GReg)
  /-- F32_F64, R90: Convert binary64 to binary32. -/
  | f32F64 (core : Nat) (d a : GReg)
  /-- F64_I64, R90: Convert a 64-bit integer to binary64. -/
  | f64I64 (core : Nat) (d a : GReg)
  /-- F32_I64, R90: Convert a 64-bit integer to binary32. -/
  | f32I64 (core : Nat) (d a : GReg)
  /-- I64_F64T, R90: Convert binary64 to an integer, truncating. -/
  | i64F64t (core : Nat) (d a : GReg)
  /-- I64_F32T, R90: Convert binary32 to an integer, truncating. -/
  | i64F32t (core : Nat) (d a : GReg)
  /-- I64_F64N, R90: Convert binary64 to an integer, rounding to nearest even. -/
  | i64F64n (core : Nat) (d a : GReg)
  /-- I64_F32N, R90: Convert binary32 to an integer, rounding to nearest even. -/
  | i64F32n (core : Nat) (d a : GReg)
  /-- L_8S, R87: Local load of a sign-extended byte. -/
  | l8s (core : Nat) (d a : GReg) (k : BitVec 14)
  /-- L_8U, R87: Local load of a zero-extended byte. -/
  | l8u (core : Nat) (d a : GReg) (k : BitVec 14)
  /-- L_16S, R87: Local load of a sign-extended halfword. -/
  | l16s (core : Nat) (d a : GReg) (k : BitVec 14)
  /-- L_16U, R87: Local load of a zero-extended halfword. -/
  | l16u (core : Nat) (d a : GReg) (k : BitVec 14)
  /-- L_32S, R87: Local load of a sign-extended word. -/
  | l32s (core : Nat) (d a : GReg) (k : BitVec 14)
  /-- L_32U, R87: Local load of a zero-extended word. -/
  | l32u (core : Nat) (d a : GReg) (k : BitVec 14)
  /-- L_64, R87: Local load of a doubleword. -/
  | l64 (core : Nat) (d a : GReg) (k : BitVec 14)
  /-- S_8, R87: Local store of a byte. -/
  | s8 (core : Nat) (t a : GReg) (k : BitVec 14)
  /-- S_16, R87: Local store of a halfword. -/
  | s16 (core : Nat) (t a : GReg) (k : BitVec 14)
  /-- S_32, R87: Local store of a word. -/
  | s32 (core : Nat) (t a : GReg) (k : BitVec 14)
  /-- S_64, R87: Local store of a doubleword. -/
  | s64 (core : Nat) (t a : GReg) (k : BitVec 14)
  /-- LS_8S, R84: Shared SRAM load of a sign-extended byte. -/
  | ls8s (core : Nat) (d a : GReg) (k : BitVec 14)
  /-- LS_8U, R84: Shared SRAM load of a zero-extended byte. -/
  | ls8u (core : Nat) (d a : GReg) (k : BitVec 14)
  /-- LS_16S, R84: Shared SRAM load of a sign-extended halfword. -/
  | ls16s (core : Nat) (d a : GReg) (k : BitVec 14)
  /-- LS_16U, R84: Shared SRAM load of a zero-extended halfword. -/
  | ls16u (core : Nat) (d a : GReg) (k : BitVec 14)
  /-- LS_32S, R84: Shared SRAM load of a sign-extended word. -/
  | ls32s (core : Nat) (d a : GReg) (k : BitVec 14)
  /-- LS_32U, R84: Shared SRAM load of a zero-extended word. -/
  | ls32u (core : Nat) (d a : GReg) (k : BitVec 14)
  /-- LS_64, R84: Shared SRAM load of a doubleword. -/
  | ls64 (core : Nat) (d a : GReg) (k : BitVec 14)
  /-- SS_8, R84: Shared SRAM store of a byte. -/
  | ss8 (core : Nat) (t a : GReg) (k : BitVec 14)
  /-- SS_16, R84: Shared SRAM store of a halfword. -/
  | ss16 (core : Nat) (t a : GReg) (k : BitVec 14)
  /-- SS_32, R84: Shared SRAM store of a word. -/
  | ss32 (core : Nat) (t a : GReg) (k : BitVec 14)
  /-- SS_64, R84: Shared SRAM store of a doubleword. -/
  | ss64 (core : Nat) (t a : GReg) (k : BitVec 14)
  /-- BMV, R86: Block move of 1 to 32,768 bytes between the data scratchpad and shared SRAM. -/
  | bmv (core : Nat) (toShared : Bool) (countM1 : BitVec 15) (sharedReg localReg : GReg)
  /-- BC_EQ, R88: Branch if a = b. -/
  | bcEq (core : Nat) (a b : GReg) (off : BitVec 14)
  /-- BC_NE, R88: Branch if a ≠ b. -/
  | bcNe (core : Nat) (a b : GReg) (off : BitVec 14)
  /-- BC_LTS, R88: Branch if a < b, signed. -/
  | bcLts (core : Nat) (a b : GReg) (off : BitVec 14)
  /-- BC_GES, R88: Branch if a ≥ b, signed. -/
  | bcGes (core : Nat) (a b : GReg) (off : BitVec 14)
  /-- BC_LTU, R88: Branch if a < b, unsigned. -/
  | bcLtu (core : Nat) (a b : GReg) (off : BitVec 14)
  /-- BC_GEU, R88: Branch if a ≥ b, unsigned. -/
  | bcGeu (core : Nat) (a b : GReg) (off : BitVec 14)
  /-- GO, R86: Jump to a PC-relative target. -/
  | go (core : Nat) (off : BitVec 24)
  /-- GOR, R86: Jump to a register plus an offset. -/
  | gor (core : Nat) (a : GReg) (k : BitVec 14)
  /-- CALL, R86: Call a PC-relative target with the link in g30. -/
  | call (core : Nat) (off : BitVec 24)
  /-- CALLR, R86: Call a register target with the link in g30. -/
  | callr (core : Nat) (a : GReg) (k : BitVec 14)
  /-- RET, R86: Return to the address in g30. -/
  | ret (core : Nat)
  /-- CALLB, R93: Block call: push the return address and IB, set IB and jump. -/
  | callb (core : Nat) (a : GReg) (off : BitVec 19)
  /-- RETB, R93: Block return: restore PC and IB from the stack. -/
  | retb (core : Nat)
  /-- END, R113: End the slot entry; a task's last segment publishes its output half. -/
  | endEntry (core : Nat)
  /-- ILLEGAL_ENCODING, R86: Execution of an undefined encoding, including an all-zero word, raises ILLEGAL. -/
  | illegalEncoding (core : Nat) (word : BitVec 32)
  /-- SYS_BAD, R95: A SYS with a service number that Table 4.9 does not list raises SYS_BAD. -/
  | sysBad (core : Nat) (service : BitVec 9) (arg : BitVec 15)
  /-- Q_PUT, R96: Put an element into a queue, or fail if the queue is full. -/
  | qPut (core : Nat) (arg : BitVec 15)
  /-- Q_GET, R96: Take the oldest element of a queue, or return empty. -/
  | qGet (core : Nat) (arg : BitVec 15)
  /-- Q_STAT, R95: Return a queue's fill and its overflow count. -/
  | qStat (core : Nat) (arg : BitVec 15)
  /-- EVT_RAISE, R96: Post an application trigger to an event task's trigger queue. -/
  | evtRaise (core : Nat) (arg : BitVec 15)
  /-- EVT_ARG, R95: Return the argument and source code of the current event trigger. -/
  | evtArg (core : Nat) (arg : BitVec 15)
  /-- REG_RD, R97: Read a register through a grant after the grant check. -/
  | regRd (core : Nat) (arg : BitVec 15)
  /-- REG_WR, R97: Write a register through a grant after the grant check. -/
  | regWr (core : Nat) (arg : BitVec 15)
  /-- REC_RAISE, R95: Raise an application-range event with two payload words. -/
  | recRaise (core : Nat) (arg : BitVec 15)
  /-- TIME_RD, R95: Return the ship time of the stitch edge and the stitch counter. -/
  | timeRd (core : Nat) (arg : BitVec 15)
  /-- SCRUB_STEP, R103: Every 2 µs an array's scrubber reads the next repair-queue or sweep word and writes back a corrected word. -/
  | scrubStep (array : Nat)
  /-- SCRUB_LATE, R105: An array has not completed a sweep within 1 s. -/
  | scrubLate (array : Nat)
  /-- COLD_RESTART_TO_RUN, R124: Cold restart from STOP to RUN. -/
  | coldRestartToRun (req : Requester)
  /-- WARM_RESTART_TO_RUN, R124: Warm restart from STOP to RUN from the committed retain bank. -/
  | warmRestartToRun (req : Requester)
  /-- COLD_RESTART_TO_TACKING, R124: Cold restart from STOP to TACKING. -/
  | coldRestartToTacking (req : Requester)
  /-- WARM_RESTART_TO_TACKING, R124: Warm restart from STOP to TACKING. -/
  | warmRestartToTacking (req : Requester)
  /-- STOP, R123: Stop command from RUN or TACKING, effective at the next boundary. -/
  | stop (req : Requester)
  /-- LEAVE_TACKING_FOR_RUN, R123: Move from TACKING to RUN at the next boundary, refused while forces are set. -/
  | leaveTackingForRun (req : Requester)
  /-- ENTER_TACKING_FROM_RUN, R123: Move from RUN to TACKING at the next boundary. -/
  | enterTackingFromRun (req : Requester)
  /-- AUTO_START, R125: After boot reaches STOP the module applies the Pattern's AUTO_START restart choice. -/
  | autoStart
  /-- FORCE_SET, R130: Set or replace a force on a forceable symbol in TACKING. -/
  | forceSet (req : Requester)
  /-- FORCE_RELEASE, R130: Release the force on one symbol. -/
  | forceRelease (req : Requester)
  /-- RELEASE_ALL, R131: Release every force. -/
  | releaseAll (req : Requester)
  /-- VERIFY, R67: Start verification of the shadow container. -/
  | verify (req : Requester)
  /-- VERIFICATION_END, R67: Verification of the shadow container ends, and SHADOW_STATE becomes VERIFIED or REFUSED with its CODE and DETAIL. -/
  | verificationEnd
  /-- ACTIVATE, R70: Full activation of the verified shadow: journal rotation, re-verification, load, then STOP. -/
  | activate (req : Requester)
  /-- PATTERN_LOAD_END, R70: Re-verification and load of a newly active Pattern complete, and the station enters STOP or UNPATTERNED. -/
  | patternLoadEnd
  /-- PREPARE, R75: First phase of an on-line change: check the conditions and start loading the new generation. -/
  | prepare (req : Requester)
  /-- PREPARE_LOAD_END, R75: The on-line change load completes and OLC_STATE becomes READY, or FAILED. -/
  | prepareLoadEnd (loaded : Bool)
  /-- PREPARE_TIMEOUT, R75: The prepare load is not complete within 60 s and OLC_STATE becomes FAILED. -/
  | prepareTimeout
  /-- COMMIT, R76: Set the commit boundary N_c from PAT_OLC_AT and enter COMMITTING. -/
  | commit (req : Requester)
  /-- ABORT, R78: Discard the prepared on-line change and set OLC_STATE to ABORTED. -/
  | abort (req : Requester)
  /-- REVERT, R68: Exchange the active and previous slots, then re-verify and load. -/
  | revert (req : Requester)
  /-- CLEAR, R68: Mark no slot active; the station becomes UNPATTERNED. -/
  | clear (req : Requester)
  /-- HOLD, R152: Loop channel command HOLD, carried out at the next unskipped due sample. -/
  | hold (req : Requester) (channel : BitVec 8)
  /-- CLOSE, R154: Loop channel command CLOSE, a bumpless closing sample if the bank is valid. -/
  | close (req : Requester) (channel : BitVec 8)
  /-- SWAP, R156: Banked channel command SWAP to the inactive bank if it is valid. -/
  | swap (req : Requester) (channel : BitVec 8)
  /-- STORE_WINDOW_WRITE, R155: A write to a coefficient word through the channel store window, accepted only for a held channel or an inactive bank. -/
  | storeWindowWrite (req : Requester) (offset : Nat) (value : BitVec 32)
  /-- ARM, R164: Arm a Bobbin capture and injection to start at stitch N. -/
  | arm (req : Requester)
  /-- LPE_BOB_STOP, R166: Stop the Bobbin capture and injection. -/
  | lpeBobStop (req : Requester)
  /-- BOBBIN_CLEAR, R164: Return the Bobbin to IDLE and set it to 0. -/
  | bobbinClear (req : Requester)
  /-- DISABLE, R191: Disable a solver context and start the copy of its problem data. -/
  | qpDisable (req : Requester) (ctx : BitVec 3)
  /-- DISABLE_COPY_END, R191: The supervisor's copy of H and the constraint matrices completes and the context becomes DISABLED. -/
  | disableCopyEnd (ctx : Nat)
  /-- ENABLE, R191: Make a disabled context LOAD_PENDING. -/
  | qpEnable (req : Requester) (ctx : BitVec 3)
  /-- CLEAR_WARM, R191: Clear a context's warm start. -/
  | qpClearWarm (req : Requester) (ctx : BitVec 3)
  /-- SOLVE_END, R175: A solve ends and the solver publishes the result, the export block and the descriptor. -/
  | solveEnd
  /-- QP_DEADLINE, R187: At the deadline boundary a running solve is abandoned and the miss delivery is published. -/
  | qpDeadline
  /-- PROBLEM_WINDOW_WRITE, R192: A write to the problem-data window, allowed only while the context is DISABLED. -/
  | problemWindowWrite (req : Requester) (offset : Nat) (value : BitVec 32)
  /-- SWEEP, R198: The group ADC converts the voltage and current of its channels before the stitch edge. -/
  | sweep (meas : SweepMeas)
  /-- TEST_PULSE, R206: A dark test pulse of an output begins in the 200 ms test cycle. -/
  | testPulse (ch : Nat)
  /-- TEST_SAMPLE, R207: The pulsed channel is sampled 20 µs before the pulse ends and passes or declares TEST_FAIL. -/
  | testSample (ch : Nat) (mv ua : Int) (inputUa : List (Nat × Int))
  /-- GROUP_TEST, R210: The safety monitor opens a group disconnect for 400 µs. -/
  | groupTest (g : Nat)
  /-- GROUP_TEST_SAMPLE, R210: The group bus is sampled 20 µs before the disconnect closes, and DISC_FAULT is declared on failure. -/
  | groupTestSample (g : Nat) (busMv currentMa : Nat)
  /-- SHORT_GND, R211: Switch thermal shutdown or current limit held 10 ms switches the output off and latches it. -/
  | shortGnd (ch : Nat)
  /-- GRP_OVERLOAD, R211: Group current over the limit for 5 ms latches all the group's outputs off. -/
  | grpOverload (g : Nat) (currentMa : Nat)
  /-- FS_LOW, R215: A field supply crosses 19.2 V and FS_LOW is set or cleared. -/
  | fsLow (supply : Nat) (mv : Nat)
  /-- FS_CUTOFF, R215: A field supply below 16.0 V for 2 ms switches off its groups' outputs and sets CUTOFF. -/
  | fsCutoff (supply : Nat)
  /-- FS_RETURN, R216: A supply at or above 19.2 V for 100 ms ends the cut-off. -/
  | fsReturn (supply : Nat)
  /-- CLO_READBACK, R222: The readback path converts each output's loop current before the stitch edge. -/
  | cloReadback (conv : List (Option (BitVec 32))) (terminalMv : List Nat) (tempC : List Int)
  /-- CLO_STARTED, R221: A sink channel finishes charging its storage capacitor, clears STARTING and starts regulating. -/
  | cloStarted (out : Nat)
  /-- COMPLIANCE, R223: Readback differs from the set value by more than 0.12 mA for 5 ms. -/
  | compliance (out : Nat)
  /-- THERMAL, R224: An output stage reaches 150 °C and folds its current back, or leaves fold-back below 140 °C. -/
  | thermal (out : Nat) (tempC : Int)
  /-- LINK_LOST, R225: No valid transfer for 1 ms, so the isolated side applies the off value. -/
  | linkLost (out : Nat)
  /-- DISCREPANCY, R234: A dual input's disagreement count reaches D and the input latches DISCREPANCY. -/
  | discrepancy (input : Nat)
  /-- RESET_HELD, R244: A reset input stays CLOSED beyond 3 s. -/
  | resetHeld (rst : Nat)
  /-- DISCONNECT_DROP, R228: The disconnect drive stops toggling for 100 µs and the group disconnect opens by hardware. -/
  | disconnectDrop (g : Nat)
  /-- SUPPLY_FAIL, R248: An internal rail leaves ±5 %, a module-wide cause. -/
  | supplyFail (rail : Nat)
  /-- CLOCK_VOTE, R250: In each 10 µs window the monitor votes the three oscillators and acts on a failed one. -/
  | clockVote (refHz monHz rcHz : Nat)
  /-- MONITOR_SELFTEST, R248: The monitor's periodic ROM CRC and memory test, failing module-wide. -/
  | monitorSelftest (test : Nat) (pass : Bool)
  /-- CONFIRM, R256: Check the entered check value and open the 60 s acknowledge window. -/
  | confirm (req : Requester)
  /-- CLEAR_HALT, R254: Leave SAFE_HALT for STOP if no module-wide cause is present. -/
  | clearHalt (req : Requester)
  /-- SAF_CANCEL, R256: Close the acknowledge window. -/
  | safCancel (req : Requester)
  /-- CHECK_WINDOW_EXPIRED, R256: The 60 s window ends without an accepted acknowledge pulse. -/
  | checkWindowExpired
  /-- PD_COPY, R265: A paired-delivery copy becomes image-ready and is discarded, held or resolved. -/
  | pdCopy (port set : Nat) (record : Bytes)
  /-- PD_SINGLE, R266: Latch L1 + W − 1 passes without the other copy and the held copy resolves SINGLE. -/
  | pdSingle (set : Nat)
  /-- PD_STALE, R267: TIMEOUT latches pass without a delivery and the item takes its substitute. -/
  | pdStale (set : Nat)
  /-- TP_MESSAGE, R269: A Terpaene message is checked and processed by the producer or consumer state machine. -/
  | tpMessage (conn path : Nat) (message : Bytes)
  /-- TP_TIMEOUT, R272: WD latches pass without an acknowledgement or acceptance, and the connection enters FAILED. -/
  | tpTimeout (conn : Nat)
  /-- TP_CRC_LIMIT, R274: CRC_ERR rises by CRC_LIMIT since the last acceptance and the consumer enters FAILED. -/
  | tpCrcLimit (conn : Nat)
  /-- RECOVER, R299: Start bus-off recovery of a CAN controller. -/
  | recover (req : Requester) (ctrl : Nat)
  /-- CLEAR_COUNTS, R299: Set the CAN error and traffic statistic counters to 0. -/
  | clearCounts (req : Requester) (ctrl : Nat)
  /-- CAN_ARBITRATION, R287: At bus idle the controller offers a pending slot frame or the FIFO head for arbitration. -/
  | canArbitration (ctrl : Nat) (moment : CanArbitration)
  /-- CAN_FRAME_SENT, R291: A frame is sent without error and removed or counted. -/
  | canFrameSent (ctrl : Nat) (echoes : List Nat)
  /-- CAN_FRAME_RECEIVED, R293: A received frame goes to a mailbox, the receive FIFO or nowhere. -/
  | canFrameReceived (ctrl : Nat) (frame : CanFrame) (own : Bool)
  /-- CAN_ERROR, R298: A CAN error updates TEC and REC and the fault confinement state. -/
  | canError (ctrl : Nat) (kind : CanErrKind) (effect : CanErrEffect) (place : CanErrPlace)
  /-- BUS_OFF_RECOVERY_END, R299: 128 occurrences of 11 recessive bits complete recovery to error-active. -/
  | busOffRecoveryEnd (ctrl : Nat)
  /-- INTEGRATION_END, R284: 11 consecutive recessive bits end integration and the controller may take part. -/
  | integrationEnd (ctrl : Nat)
  /-- CAN_PROTOCOL_EXC, R300: A recessive res bit raises the protocol exception. -/
  | canProtocolExc (ctrl : Nat)
  /-- MB_LOCK_WRITE, R295: A write to CANn_MB_LOCK locks or unlocks a mailbox and moves a shadow frame. -/
  | mbLockWrite (req : Requester) (ctrl : Nat) (value : BitVec 32)
  /-- ETH_FRAME_RECEIVED, R310: A plant port sorts a received frame into its class or drops it. -/
  | ethFrameReceived (port : Nat) (frame : Bytes) (status : EthRxStatus)
  /-- ETH_LINK_UP, R301: A port link comes up at its configured speed, or SPEED_FAULT is set. -/
  | ethLinkUp (port : Nat) (speed : Nat) (full matched : Bool)
  /-- ETH_LINK_DOWN, R301: A port link goes down. -/
  | ethLinkDown (port : Nat)
  /-- UNSCHEDULED_SEND, R309: A port starts an unscheduled frame if it ends before the next NET_TX entry. -/
  | unscheduledSend (port : Nat)
  /-- ETH_MACSEC_SECURED, R313: MKA installs a SAK on a port. -/
  | ethMacsecSecured (install : SakInstall)
  /-- ETH_MACSEC_LOST, R313: Every SAK of a port lapses. -/
  | ethMacsecLost (port : Nat)
  /-- PTP_SYNC, R319: At each Sync the servo writes PTP_INCR, may request a step and updates LOCKED. -/
  | ptpSync (port : Nat) (offsetNs : Int) (delayNs : Nat) (incr : BitVec 36)
  /-- PTP_ANNOUNCE_TIMEOUT, R319: No instance in SLAVE for ANN_TIMEOUT intervals clears LOCKED. -/
  | ptpAnnounceTimeout
  /-- PTP_INCR_LO_WRITE, R314: A value written to PTP_INCR_LO is held apart until the high word. -/
  | ptpIncrLoWrite (req : Requester) (value : BitVec 32)
  /-- PTP_INCR_HI_WRITE, R314: Writing PTP_INCR_HI commits or refuses the new increment. -/
  | ptpIncrHiWrite (req : Requester) (value : BitVec 32)
  /-- STEP, R315: A ship-time step command, decided at once and applied at the next boundary. -/
  | step (req : Requester)
  /-- REBASE, R316: A REBASE command, accepted only in STOP. -/
  | rebase (req : Requester)
  /-- PTP_CANCEL, R315: Withdraw the pending STEP or REBASE. -/
  | ptpCancel (req : Requester)
  /-- PTP_TRIGGER, R320: A trigger's compare time is reached and it fires, or it is postponed without LOCKED. -/
  | ptpTrigger (k : Nat)
  /-- CAPTURE, R321: A capture input edge or CAN start-of-frame is stamped into the channel FIFO. -/
  | capture (ch : Nat) (rising : Bool) (ageNs : Nat)
  /-- CAPTURE_READ, R321: A read of PTP_CAPc_HI returns and removes the oldest capture. -/
  | captureRead (req : Requester) (ch : Nat)
  /-- OWN_SENSE_EDGE, R325: The filtered OWN_SENSE level changes, which is recorded for the boundary's CHANGE. -/
  | ownSenseEdge (level : Bool)
  /-- NYMIL_LINK_UP, R326: 1,024 good blocks on both lanes make the link UP and reset the credits. -/
  | nymilLinkUp
  /-- NYMIL_LINK_LOST, R326: A lane loses block lock or alignment for 2 µs and the link is LOST. -/
  | nymilLinkLost (lane : Nat)
  /-- NYMIL_PACKET, R327: A Nymil packet arrives; its PCRC is checked and it is taken by type; also the ordered
  set that returns credits between packets. -/
  | nymilPacket (pkt : NymilArrival)
  /-- EPOCH_DISCARD, R336: No good END_MARK by the END of the end-mark entry, and the epoch is discarded. -/
  | epochDiscard
  /-- PARTNER_READY_LOST, R339: No good health report within 3 epochs clears PARTNER_READY. -/
  | partnerReadyLost
  /-- PAIR_MESSAGE, R330: A pair message (heartbeat, witness query, probe or reply) is received and handled. -/
  | pairMessage (port station : Nat) (msg : Bytes)
  /-- WITNESS_PROBE_TIMEOUT, R342: A witness hears no PROBE_REPLY for 4 ms and answers SILENT. -/
  | witnessProbeTimeout (station qpos qseq : Nat)
  /-- WIT_WAIT_EXPIRY, R343: WIT_WAIT passes and the querier decides on the replies it has. -/
  | witWaitExpiry
  /-- ISOLATED_ROUND, R343: An ISOLATED module repeats the witness round every 1 s. -/
  | isolatedRound
  /-- CLAIM, R343: Make an ISOLATED module ACTIVE at the next boundary. -/
  | claim (req : Requester)
  /-- RELEASE, R341: Release ownership at the boundary after the next committed epoch's apply entries. -/
  | release (req : Requester)
  /-- WITNESS, R342: Start a new witness round in ISOLATED. -/
  | witness (req : Requester)
  /-- EVENT_RAISE, R355: A raise enters the recorder unit and is staged, suppressed by its bucket or dropped. -/
  | eventRaise (code source : BitVec 16) (payload : List (BitVec 32))
  /-- RECORD_COMMIT, R353: The supervisor takes a staged raise and commits its record in three MRAM writes. -/
  | recordCommit
  /-- TIME_MARK, R362: Raise a TIME_MARK record with cause MANUAL. -/
  | timeMark (req : Requester)
  /-- TIME_MARK_PERIODIC, R362: floor(60 s / P) boundaries pass and a periodic time mark is raised. -/
  | timeMarkPeriodic
  /-- PANEL_RENDER, R379: Every 250 ms the supervisor renders the screen and requests an update if it differs. -/
  | panelRender
  /-- PANEL_UPDATE_START, R381: An update starts: target written, journal ACTIVE and power-on sequence. -/
  | panelUpdateStart (ntcQuarterC : Int)
  /-- PANEL_FRAME, R372: One 12 ms panel drive frame is scanned. -/
  | panelFrame
  /-- PANEL_UPDATE_COMMIT, R381: After the discharge sequence the journal word is written IDLE with DISP flipped. -/
  | panelUpdateCommit
  /-- PNL_RAIL_FAULT, R376: A rail leaves tolerance or holds its limit and the update is stopped and discharged. -/
  | pnlRailFault (rail : Nat)
  /-- RAIL_FAULT_RETRY, R376: 1 s after a rail fault the update is retried as a recovery. -/
  | railFaultRetry
  /-- REFRESH, R379: Request a full panel refresh. -/
  | refresh (req : Requester)
  /-- REFRESH_INTERVAL, R379: REFRESH_S elapses and a full refresh is requested. -/
  | refreshInterval
  /-- PNL_DISABLE, R376: Disable the panel after any running update. -/
  | pnlDisable (req : Requester)
  /-- PNL_ENABLE, R376: Enable the panel from FAILED or DISABLED. -/
  | pnlEnable (req : Requester)
  /-- WATCH, R392: Request watch mode. -/
  | watch (req : Requester)
  /-- WATCH_CANCEL, R399: Set the CANCEL wake cause during preparation or entry. -/
  | watchCancel (req : Requester)
  /-- WATCH_PREPARATION, R393: At the seam boundary the station stops, triggers are disarmed, the panel and recorder finish and votes are withdrawn. -/
  | watchPreparation (wakeBits : BitVec 6)
  /-- WATCH_ENTRY, R394: The four entry steps run with their abort points. -/
  | watchEntry (wakeAt : List (BitVec 6)) (offFailed : Option Nat)
  /-- WATCH_SAMPLE, R398: Every PERIOD the sampler excites and samples the watch inputs and FS_A. -/
  | watchSample (inputMv : List Nat) (fsaMv : Nat)
  /-- WAKE_PIN, R399: WAKE high for 1 ms sets the PIN wake cause. -/
  | wakePin
  /-- WAKE_ALARM, R399: The ledger reaches ALARM_S. -/
  | wakeAlarm
  /-- WAKE_FEED, R399: A returned feed stays above 18 V for 10 ms. -/
  | wakeFeed
  /-- WAKE, R401: The wake controller restores regulator, clocks, retention and timebase, and the station reaches STOP. -/
  | wake (extraTicks : Nat)
  /-- WAKE_REG_RETRY, R402: The regulator is not ready within 2.0 ms and is retried with soft-start. -/
  | wakeRegRetry
  /-- WAKE_REG_RESET, R402: The retry is not ready within 10.0 ms and the core domain is power-cycled. -/
  | wakeRegReset
  /-- REFCLK_LOST, R403: The reference oscillator is not ready within 5.0 ms and the main clocks run from the RC oscillator. -/
  | refclkLost
  /-- WAKE_TIME_SET, R404: After PTP acquisition or its wait, the supervisor REBASEs the time after a wake. -/
  | wakeTimeSet (master : Option (BitVec 64))
  /-- WATCH_BROWNOUT, R390: Load over 30 mA for 50 µs in low-power mode causes a full reset. -/
  | watchBrownout
  /-- PWR_VOTE_WRITE, R387: A core's domain vote write, effective at the next boundary. -/
  | pwrVoteWrite (req : Requester) (core : Nat) (value : BitVec 32)
  /-- PWR_DOMAIN_FAULT, R389: A domain fails to report ON within 2.0 ms or OFF within 1.0 ms. -/
  | pwrDomainFault (domain : Nat) (offFailed : Bool)
  /-- BEGIN, R424: Begin an update of a region. -/
  | updBegin (req : Requester) (region : BitVec 2)
  /-- RESUME, R426: Report NEXT_BLOCK of a receiving update. -/
  | updResume (req : Requester) (region : BitVec 2)
  /-- FINISH, R427: Start the whole-image check once every block is verified. -/
  | updFinish (req : Requester) (region : BitVec 2)
  /-- UPD_VERIFY_END, R427: The whole-image check ends VERIFIED or FAILED. -/
  | updVerifyEnd (region : Nat)
  /-- UPD_ARM, R429: Schedule activation at UPD_AT through a PTP trigger. -/
  | updArm (req : Requester) (region : BitVec 2)
  /-- DISARM, R429: Return an armed region to VERIFIED. -/
  | updDisarm (req : Requester) (region : BitVec 2)
  /-- ACTIVATE_NOW, R431: Activate a verified update at once. -/
  | updActivateNow (req : Requester) (region : BitVec 2)
  /-- UPD_CANCEL, R428: Cancel the update of a region. -/
  | updCancel (req : Requester) (region : BitVec 2)
  /-- UPD_BLOCK, R425: A block message is programmed, read back and marked verified. -/
  | updBlock (message : Bytes) (readBack : Bytes)
  /-- ENROL, R419: Enrol the owner key. -/
  | enrol (req : Requester) (wakeMs : Nat)
  /-- ROTATE, R420: Replace the owner key. -/
  | rotate (req : Requester)
  /-- DBG_CHALLENGE, R433: Place a debug nonce. -/
  | dbgChallenge (req : Requester)
  /-- DBG_UNLOCK, R433: Unlock debug with a signed scope. -/
  | dbgUnlock (req : Requester)
  /-- LOCK, R433: Lock debug access again. -/
  | lock (req : Requester)
  /-- NONCE_EXPIRY, R433: A debug nonce expires after 300 s. -/
  | nonceExpiry
  /-- CAK_SET, R434: Install a MACsec CAK for a port. -/
  | cakSet (req : Requester)
  /-- CAK_CLEAR, R434: Remove a port's CAK. -/
  | cakClear (req : Requester)
  /-- SESSION_CONNECT, R421: An engineering-service TLS connection is authenticated or refused. -/
  | sessionConnect (signedByOwner proofOfPossession dateOk : Bool)
  /-- AUTH_LOCKOUT_END, R421: The 60 s refusal of new connections after five failures ends. -/
  | authLockoutEnd
  /-- TRNG_FAIL, R409: A TRNG health test fails and reseeding stops. -/
  | trngFail (test : Nat)
  /-- FEED_RISE, R436: A main feed at or above 18.0 V for 10 ms starts the module from OFF. -/
  | feedRise (feed mv : Nat)
  /-- RESET_RELEASE, R445: The internal reset is released and the boot sequence runs to STOP or UNPATTERNED. -/
  | resetRelease (straps : StrapSamples) (refOk : Bool)
  /-- RST_PIN, R437: RST_N low for 10 µs causes a full reset. -/
  | rstPin (low : Bool)
  /-- FEED_LOSS, R438: Both feeds fall below 16 V: PWR_GOOD drops and hold-up actions start. -/
  | feedLoss (mvA mvB : Nat)
  /-- HOLD_UP_END, R460: Hold-up ends in a reset when the store is exhausted or the actions are complete. -/
  | holdUpEnd (storeExhausted : Bool)
  /-- SUPERVISOR_WDT, R440: The supervisor watchdog is not served for 250 ms and the module resets. -/
  | supervisorWdt
  /-- BROWNOUT, R440: A core rail falls below its reset threshold and the module resets. -/
  | brownout
  /-- VIO_LOST, R456: VIO leaves its range, J1 outputs go high-impedance and CAN goes off. -/
  | vioLost
  /-- VIO_RESTORED, R456: VIO has been in range for 1 ms and the CAN controllers may leave off. -/
  | vioRestored
  /-- SETTINGS_WRITE, R452: Write a new settings image. -/
  | settingsWrite (req : Requester) (len : Nat)
  /-- BLANK, R452: Write a settings image with no items. -/
  | settingsBlank (req : Requester)
  /-- SETTINGS_WRITE_END, R449: The settings write and its read-back complete or fail. -/
  | settingsWriteEnd (outcome : SettingsOutcome)
  /-- RESET, R452: Commit staged events and reset with cause SOFTWARE. -/
  | resetCmd (req : Requester)
  /-- CMP_READ, R462: A carrier management port READ transaction returns register values. -/
  | cmpRead (addr : BitVec 32) (count : Nat)
  /-- CMP_WRITE, R463: A carrier management port WRITE transaction writes the mailbox or is refused. -/
  | cmpWrite (addr : BitVec 32) (data : Bytes)
  /-- IN_POST, R465: The port posts an inbound mailbox message. -/
  | inPost (req : Requester) (len : BitVec 7)
  /-- IN_TAKE, R465: The module side takes the inbound message. -/
  | inTake (req : Requester) (postSameCycle : Bool)
  /-- OUT_POST, R465: The module side posts an outbound message. -/
  | outPost (req : Requester) (len : BitVec 7)
  /-- OUT_TAKE, R465: The port takes the outbound message. -/
  | outTake (req : Requester) (postSameCycle : Bool)
  /-- TEMP_HIGH, R467: The base plate reaches 85 °C. -/
  | tempHigh (baseQuarterC : Int) (dieC : Int)
  /-- TEMP_LIMIT, R467: The base plate reaches 95 °C. -/
  | tempLimit (baseQuarterC : Int) (dieC : Int)
  /-- THERMAL_SHUTDOWN, R467: A junction at 135 °C shuts the core regulators down with a BROWNOUT reset. -/
  | thermalShutdown
  /-- THERMAL_RESTART, R467: The junction cools below 120 °C and the regulators start again. -/
  | thermalRestart
  /-- LOOPBACK_START, R470: Start a loopback test of a target at a depth. -/
  | loopbackStart (req : Requester) (target depth count : Nat)
  /-- LOOPBACK_STOP, R474: Stop the running loopback test. -/
  | loopbackStop (req : Requester)
  /-- LOOPBACK_ITEM, R474: At each item interval the returned item is judged and the next is sent, or the test ends. -/
  | loopbackItem (outcome : LbOutcome)
  /-- ECC_INJECT, R478: Flip data bits or fold check bits of one SRAM word. -/
  | eccInject (req : Requester)
  /-- TAP_INSTRUCTION, R479: A TAP instruction is loaded; scan instructions open the disconnects, and leaving them resets. -/
  | tapInstruction (code : BitVec 8)
  /-- PTEST_ENTRY, R480: PTEST loaded at reset release enters production test mode, with authentication after enrolment. -/
  | ptestEntry
  /-- PT_AUTH, R480: Deliver the owner signature for production test entry. -/
  | ptAuth (sigR sigS : Bytes)
  /-- PT_FLASH, R480: Write a firmware image into a slot in production test mode. -/
  | ptFlash (slot : Nat) (image : Bytes)
  /-- REGISTER_READ, R8: A 32-bit register read by the supervisor or the engineering service; a low-word read that latches its high word captures it, and a narrow or misaligned read is refused, returns 0 and sets BAD_WIDTH in GLB_ACCERR. -/
  | registerRead (req : Requester) (addr : BitVec 32) (nbytes : Nat)
  /-- TEST_CYCLE_END, R208: At ship time k × 200 ms a test cycle ends; an output on for a whole cycle without a passed pulse declares TEST_FAIL and DIO_TP_CYCLES counts the cycle. -/
  | testCycleEnd
  /-- RTC_CRYSTAL_STOPPED, R406: The low-power crystal monitor finds the RTC crystal stopped and the ledger, sampler and alarm continue from the AON RC oscillator, marked APPROXIMATE. -/
  | rtcCrystalStopped
  /-- PTEST_AUTH_TIMEOUT, R480: The 60 s wait for PT_AUTH after enrolment ends without a signature, so the boot ROM notes AUTH_FAIL and boots normally. -/
  | ptestAuthTimeout
  /-- TEMP_BELOW_THRESHOLD, R467: The base-plate temperature falls below a threshold, clearing HIGH or LIMIT in GLB_TEMP, and 3 K below it re-arms the event. -/
  | tempBelowThreshold (baseQuarterC : Int) (dieC : Int)
  /-- PTP_MESSAGE_INTERVAL, R318: A PTP instance's sync, announce or delay request interval elapses and it sends its Sync, Announce, Delay_Req or Pdelay_Req message. -/
  | ptpMessageInterval (port : Nat) (kind : PtpTxKind)
  /-- DOMAIN_REPORTS_ON, R388: A switched-on power domain reports ON within 1.0 ms and its units start from reset. -/
  | domainReportsOn (domain : Nat)
  deriving DecidableEq, Repr

end Sys2Proof
end

