-- ==== Sys2Proof/Decode.lean ====
section
/-!
DEFINITION. Decoding. The command table gives its rows no bits, so no word spells a command of the block. Below it,
the decoder and the encoder of stitch code words (R85, R86), which the module itself applies to code images (R86, R109,
R360).
-/

namespace Sys2Proof

/-- The command a word of the table's bits spells: the table gives no bits to any row. -/
def decodeTableWord (_nbits _w : Nat) : Option Instr := none

/-! ### Stitch code words (Table 4.4, Table 4.5) -/

/-- Fields of a stitch code word. -/
def opOf (w : BitVec 32) : Nat := (w.extractLsb' 0 8).toNat
def fldD (w : BitVec 32) : GReg := w.extractLsb' 8 5
def fldA (w : BitVec 32) : GReg := w.extractLsb' 13 5
def fldB (w : BitVec 32) : GReg := w.extractLsb' 18 5
def fldC (w : BitVec 32) : GReg := w.extractLsb' 23 5
def fldFnR (w : BitVec 32) : Nat := (w.extractLsb' 23 9).toNat
def fldFnT (w : BitVec 32) : Nat := (w.extractLsb' 28 4).toNat
def fldK (w : BitVec 32) : BitVec 14 := w.extractLsb' 18 14
def fldH (w : BitVec 32) : BitVec 19 := w.extractLsb' 13 19
def fldN (w : BitVec 32) : BitVec 24 := w.extractLsb' 8 24

/-- The services of Table 4.9. -/
def knownService (n : Nat) : Bool :=
  n == 1 || n == 2 || n == 3 || n == 0x10 || n == 0x11 || n == 0x20 || n == 0x21 || n == 0x30 || n == 0x40

/-- R-format integer instructions, OP 0x01 (FN 0 to 12; bit 8 the .32 form of ADD, SUB, SHL, SHR, SAR). -/
def decodeAlu (c : Nat) (w : BitVec 32) : Option Instr :=
  match fldFnR w with
  | 0 => some (.add c false (fldD w) (fldA w) (fldB w))
  | 0x100 => some (.add c true (fldD w) (fldA w) (fldB w))
  | 1 => some (.sub c false (fldD w) (fldA w) (fldB w))
  | 0x101 => some (.sub c true (fldD w) (fldA w) (fldB w))
  | 2 => some (.and c (fldD w) (fldA w) (fldB w))
  | 3 => some (.ior c (fldD w) (fldA w) (fldB w))
  | 4 => some (.xor c (fldD w) (fldA w) (fldB w))
  | 5 => some (.shl c false (fldD w) (fldA w) (fldB w))
  | 0x105 => some (.shl c true (fldD w) (fldA w) (fldB w))
  | 6 => some (.shr c false (fldD w) (fldA w) (fldB w))
  | 0x106 => some (.shr c true (fldD w) (fldA w) (fldB w))
  | 7 => some (.sar c false (fldD w) (fldA w) (fldB w))
  | 0x107 => some (.sar c true (fldD w) (fldA w) (fldB w))
  | 8 => some (.cmplt c (fldD w) (fldA w) (fldB w))
  | 9 => some (.cmpltu c (fldD w) (fldA w) (fldB w))
  | 10 => some (.cmpeq c (fldD w) (fldA w) (fldB w))
  | 11 => some (.min c (fldD w) (fldA w) (fldB w))
  | 12 => some (.max c (fldD w) (fldA w) (fldB w))
  | _ => none

/-- OP 0x02 and 0x03. -/
def decodeMulDiv (c : Nat) (w : BitVec 32) : Option Instr :=
  if opOf w = 2 then
    match fldFnR w with
    | 0 => some (.mul c false (fldD w) (fldA w) (fldB w))
    | 0x100 => some (.mul c true (fldD w) (fldA w) (fldB w))
    | 1 => some (.mulhs c (fldD w) (fldA w) (fldB w))
    | 2 => some (.mulhu c (fldD w) (fldA w) (fldB w))
    | _ => none
  else
    match fldFnR w with
    | 0 => some (.divs c false (fldD w) (fldA w) (fldB w))
    | 1 => some (.divu c false (fldD w) (fldA w) (fldB w))
    | 2 => some (.mods c false (fldD w) (fldA w) (fldB w))
    | 3 => some (.modu c false (fldD w) (fldA w) (fldB w))
    | 0x100 => some (.divs c true (fldD w) (fldA w) (fldB w))
    | 0x101 => some (.divu c true (fldD w) (fldA w) (fldB w))
    | 0x102 => some (.mods c true (fldD w) (fldA w) (fldB w))
    | 0x103 => some (.modu c true (fldD w) (fldA w) (fldB w))
    | _ => none

/-- OP 0x10 and 0x11: binary32 and binary64. FSQRT, FNEG and FABS have b = 0. -/
def decodeFp (c : Nat) (f64 : Bool) (w : BitVec 32) : Option Instr :=
  match fldFnR w with
  | 0 => some (.fadd c f64 (fldD w) (fldA w) (fldB w))
  | 1 => some (.fsub c f64 (fldD w) (fldA w) (fldB w))
  | 2 => some (.fmul c f64 (fldD w) (fldA w) (fldB w))
  | 3 => some (.fmin c f64 (fldD w) (fldA w) (fldB w))
  | 4 => some (.fmax c f64 (fldD w) (fldA w) (fldB w))
  | 5 => if fldB w = 0 then some (.fneg c f64 (fldD w) (fldA w)) else none
  | 6 => if fldB w = 0 then some (.fabs c f64 (fldD w) (fldA w)) else none
  | 7 => some (.fcmpeq c f64 (fldD w) (fldA w) (fldB w))
  | 8 => some (.fcmplt c f64 (fldD w) (fldA w) (fldB w))
  | 9 => some (.fcmple c f64 (fldD w) (fldA w) (fldB w))
  | 16 => some (.fdiv c f64 (fldD w) (fldA w) (fldB w))
  | 17 => if fldB w = 0 then some (.fsqrt c f64 (fldD w) (fldA w)) else none
  | _ => none

/-- OP 0x12 and 0x13: fused multiply-add and conversions (b = 0). -/
def decodeFma (c : Nat) (w : BitVec 32) : Option Instr :=
  match fldFnT w with
  | 0 => some (.fma c false (fldD w) (fldA w) (fldB w) (fldC w))
  | 1 => some (.fms c false (fldD w) (fldA w) (fldB w) (fldC w))
  | 2 => some (.fnma c false (fldD w) (fldA w) (fldB w) (fldC w))
  | 4 => some (.fma c true (fldD w) (fldA w) (fldB w) (fldC w))
  | 5 => some (.fms c true (fldD w) (fldA w) (fldB w) (fldC w))
  | 6 => some (.fnma c true (fldD w) (fldA w) (fldB w) (fldC w))
  | _ => none

def decodeCvt (c : Nat) (w : BitVec 32) : Option Instr :=
  if fldB w ≠ 0 then none else
  match fldFnR w with
  | 0 => some (.f64F32 c (fldD w) (fldA w))
  | 1 => some (.f32F64 c (fldD w) (fldA w))
  | 2 => some (.f64I64 c (fldD w) (fldA w))
  | 3 => some (.f32I64 c (fldD w) (fldA w))
  | 4 => some (.i64F64t c (fldD w) (fldA w))
  | 5 => some (.i64F32t c (fldD w) (fldA w))
  | 6 => some (.i64F64n c (fldD w) (fldA w))
  | 7 => some (.i64F32n c (fldD w) (fldA w))
  | _ => none

/-- SHK: K[5:0] amount, K[7:6] kind, K[8] .32 form, K[13:9] zero. -/
def decodeShk (c : Nat) (w : BitVec 32) : Option Instr :=
  let k := fldK w
  if k.extractLsb' 9 5 ≠ 0#5 then none else
  match (k.extractLsb' 6 2).toNat with
  | 0 => some (.shk c .shl (k.getLsbD 8) (fldD w) (fldA w) (k.extractLsb' 0 6))
  | 1 => some (.shk c .shr (k.getLsbD 8) (fldD w) (fldA w) (k.extractLsb' 0 6))
  | 2 => some (.shk c .sar (k.getLsbD 8) (fldD w) (fldA w) (k.extractLsb' 0 6))
  | _ => none

/-- SYS: the service in bits 31:23, ARG in bits 22:8. -/
def decodeSys (c : Nat) (w : BitVec 32) : Option Instr :=
  let arg : BitVec 15 := w.extractLsb' 8 15
  match (w.extractLsb' 23 9).toNat with
  | 0x001 => some (.qPut c arg)
  | 0x002 => some (.qGet c arg)
  | 0x003 => some (.qStat c arg)
  | 0x010 => some (.evtRaise c arg)
  | 0x011 => some (.evtArg c arg)
  | 0x020 => some (.regRd c arg)
  | 0x021 => some (.regWr c arg)
  | 0x030 => some (.recRaise c arg)
  | 0x040 => some (.timeRd c arg)
  | _ => some (.sysBad c (w.extractLsb' 23 9) arg)

/-- OP 0x04 to 0x0E: special registers and immediates. -/
def decodeImm (c : Nat) (w : BitVec 32) : Option Instr :=
  match opOf w with
  | 0x04 => if fldA w = 0 then some (.gets c (fldD w) (fldK w)) else none
  | 0x05 => if fldD w = 0 then some (.puts c (fldA w) (fldK w)) else none
  | 0x08 => some (.addk c (fldD w) (fldA w) (fldK w))
  | 0x09 => some (.andk c (fldD w) (fldA w) (fldK w))
  | 0x0A => some (.iork c (fldD w) (fldA w) (fldK w))
  | 0x0B => some (.xork c (fldD w) (fldA w) (fldK w))
  | 0x0C => some (.cmpltk c (fldD w) (fldA w) (fldK w))
  | 0x0D => decodeShk c w
  | 0x0E => some (.lih c (fldD w) (fldH w))
  | _ => none

/-- OP 0x20 to 0x3F: loads, stores, block move. -/
def decodeMem (c : Nat) (w : BitVec 32) : Option Instr :=
  match opOf w with
  | 0x20 => some (.l8s c (fldD w) (fldA w) (fldK w))
  | 0x21 => some (.l8u c (fldD w) (fldA w) (fldK w))
  | 0x22 => some (.l16s c (fldD w) (fldA w) (fldK w))
  | 0x23 => some (.l16u c (fldD w) (fldA w) (fldK w))
  | 0x24 => some (.l32s c (fldD w) (fldA w) (fldK w))
  | 0x25 => some (.l32u c (fldD w) (fldA w) (fldK w))
  | 0x26 => some (.l64 c (fldD w) (fldA w) (fldK w))
  | 0x28 => some (.s8 c (fldD w) (fldA w) (fldK w))
  | 0x29 => some (.s16 c (fldD w) (fldA w) (fldK w))
  | 0x2A => some (.s32 c (fldD w) (fldA w) (fldK w))
  | 0x2B => some (.s64 c (fldD w) (fldA w) (fldK w))
  | 0x30 => some (.ls8s c (fldD w) (fldA w) (fldK w))
  | 0x31 => some (.ls8u c (fldD w) (fldA w) (fldK w))
  | 0x32 => some (.ls16s c (fldD w) (fldA w) (fldK w))
  | 0x33 => some (.ls16u c (fldD w) (fldA w) (fldK w))
  | 0x34 => some (.ls32s c (fldD w) (fldA w) (fldK w))
  | 0x35 => some (.ls32u c (fldD w) (fldA w) (fldK w))
  | 0x36 => some (.ls64 c (fldD w) (fldA w) (fldK w))
  | 0x38 => some (.ss8 c (fldD w) (fldA w) (fldK w))
  | 0x39 => some (.ss16 c (fldD w) (fldA w) (fldK w))
  | 0x3A => some (.ss32 c (fldD w) (fldA w) (fldK w))
  | 0x3B => some (.ss64 c (fldD w) (fldA w) (fldK w))
  | 0x3C => some (.bmv c false (BitVec.append 0#1 (fldK w)) (fldA w) (fldD w))
  | 0x3D => some (.bmv c true (BitVec.append 0#1 (fldK w)) (fldA w) (fldD w))
  | 0x3E => some (.bmv c false (BitVec.append 1#1 (fldK w)) (fldA w) (fldD w))
  | 0x3F => some (.bmv c true (BitVec.append 1#1 (fldK w)) (fldA w) (fldD w))
  | _ => none

/-- OP 0x40 to 0x50: control flow and system calls. -/
def decodeFlow (c : Nat) (w : BitVec 32) : Option Instr :=
  match opOf w with
  | 0x40 => some (.bcEq c (fldD w) (fldA w) (fldK w))
  | 0x41 => some (.bcNe c (fldD w) (fldA w) (fldK w))
  | 0x42 => some (.bcLts c (fldD w) (fldA w) (fldK w))
  | 0x43 => some (.bcGes c (fldD w) (fldA w) (fldK w))
  | 0x44 => some (.bcLtu c (fldD w) (fldA w) (fldK w))
  | 0x45 => some (.bcGeu c (fldD w) (fldA w) (fldK w))
  | 0x48 => some (.go c (fldN w))
  | 0x49 => if fldD w = 0 then some (.gor c (fldA w) (fldK w)) else none
  | 0x4A => some (.call c (fldN w))
  | 0x4B => if fldD w = 0 then some (.callr c (fldA w) (fldK w)) else none
  | 0x4C => if fldN w = 0 then some (.ret c) else none
  | 0x4D => some (.callb c (fldD w) (fldH w))
  | 0x4E => if fldN w = 0 then some (.retb c) else none
  | 0x4F => if fldN w = 0 then some (.endEntry c) else none
  | 0x50 => decodeSys c w
  | _ => none

/-- The instruction that a stitch code word spells for core c; none for an encoding that raises ILLEGAL (R86). -/
def decodeStitch (c : Nat) (w : BitVec 32) : Option Instr :=
  let op := opOf w
  if op = 0x01 then decodeAlu c w
  else if op = 0x02 ∨ op = 0x03 then decodeMulDiv c w
  else if op = 0x10 then decodeFp c false w
  else if op = 0x11 then decodeFp c true w
  else if op = 0x12 then decodeFma c w
  else if op = 0x13 then decodeCvt c w
  else if op < 0x10 then decodeImm c w
  else if op < 0x40 then decodeMem c w
  else decodeFlow c w

/-! ### The encoder, from the same tables -/

/-- Words of the formats of Table 4.4. -/
def encR (op : BitVec 8) (fn : BitVec 9) (b a d : GReg) : BitVec 32 := fn ++ b ++ a ++ d ++ op
def encT (op : BitVec 8) (fn : BitVec 4) (c b a d : GReg) : BitVec 32 := fn ++ c ++ b ++ a ++ d ++ op
def encK (op : BitVec 8) (k : BitVec 14) (a d : GReg) : BitVec 32 := k ++ a ++ d ++ op
def encH (op : BitVec 8) (k : BitVec 19) (d : GReg) : BitVec 32 := k ++ d ++ op
def encN (op : BitVec 8) (n : BitVec 24) : BitVec 32 := n ++ op
def encSys (service : BitVec 9) (arg : BitVec 15) : BitVec 32 := service ++ arg ++ 0x50#8

/-- FN with bit 8 for the .32 form. -/
def fn32 (w32 : Bool) (fn : BitVec 8) : BitVec 9 := (if w32 then 1#1 else 0#1) ++ fn

def opFp (f64 : Bool) : BitVec 8 := if f64 then 0x11 else 0x10
def shiftCode : ShiftKind → BitVec 2
  | .shl => 0
  | .shr => 1
  | .sar => 2

/-- The word of a stitch code instruction; none for a command that is none. -/
def encodeStitch : Instr → Option (BitVec 32)
  | .add _ w d a b => some (encR 1 (fn32 w 0) b a d)
  | .sub _ w d a b => some (encR 1 (fn32 w 1) b a d)
  | .and _ d a b => some (encR 1 2 b a d)
  | .ior _ d a b => some (encR 1 3 b a d)
  | .xor _ d a b => some (encR 1 4 b a d)
  | .shl _ w d a b => some (encR 1 (fn32 w 5) b a d)
  | .shr _ w d a b => some (encR 1 (fn32 w 6) b a d)
  | .sar _ w d a b => some (encR 1 (fn32 w 7) b a d)
  | .cmplt _ d a b => some (encR 1 8 b a d)
  | .cmpltu _ d a b => some (encR 1 9 b a d)
  | .cmpeq _ d a b => some (encR 1 10 b a d)
  | .min _ d a b => some (encR 1 11 b a d)
  | .max _ d a b => some (encR 1 12 b a d)
  | .mul _ w d a b => some (encR 2 (fn32 w 0) b a d)
  | .mulhs _ d a b => some (encR 2 1 b a d)
  | .mulhu _ d a b => some (encR 2 2 b a d)
  | .divs _ w d a b => some (encR 3 (fn32 w 0) b a d)
  | .divu _ w d a b => some (encR 3 (fn32 w 1) b a d)
  | .mods _ w d a b => some (encR 3 (fn32 w 2) b a d)
  | .modu _ w d a b => some (encR 3 (fn32 w 3) b a d)
  | .gets _ d k => some (encK 0x04 k 0 d)
  | .puts _ a k => some (encK 0x05 k a 0)
  | .addk _ d a k => some (encK 0x08 k a d)
  | .andk _ d a k => some (encK 0x09 k a d)
  | .iork _ d a k => some (encK 0x0A k a d)
  | .xork _ d a k => some (encK 0x0B k a d)
  | .cmpltk _ d a k => some (encK 0x0C k a d)
  | .shk _ kind w d a n => some (encK 0x0D (0#5 ++ (if w then 1#1 else 0#1) ++ shiftCode kind ++ n) a d)
  | .lih _ d k => some (encH 0x0E k d)
  | .fadd _ f d a b => some (encR (opFp f) 0 b a d)
  | .fsub _ f d a b => some (encR (opFp f) 1 b a d)
  | .fmul _ f d a b => some (encR (opFp f) 2 b a d)
  | .fmin _ f d a b => some (encR (opFp f) 3 b a d)
  | .fmax _ f d a b => some (encR (opFp f) 4 b a d)
  | .fneg _ f d a => some (encR (opFp f) 5 0 a d)
  | .fabs _ f d a => some (encR (opFp f) 6 0 a d)
  | .fcmpeq _ f d a b => some (encR (opFp f) 7 b a d)
  | .fcmplt _ f d a b => some (encR (opFp f) 8 b a d)
  | .fcmple _ f d a b => some (encR (opFp f) 9 b a d)
  | .fdiv _ f d a b => some (encR (opFp f) 16 b a d)
  | .fsqrt _ f d a => some (encR (opFp f) 17 0 a d)
  | .fma _ f d a b c => some (encT 0x12 (if f then 4 else 0) c b a d)
  | .fms _ f d a b c => some (encT 0x12 (if f then 5 else 1) c b a d)
  | .fnma _ f d a b c => some (encT 0x12 (if f then 6 else 2) c b a d)
  | .f64F32 _ d a => some (encR 0x13 0 0 a d)
  | .f32F64 _ d a => some (encR 0x13 1 0 a d)
  | .f64I64 _ d a => some (encR 0x13 2 0 a d)
  | .f32I64 _ d a => some (encR 0x13 3 0 a d)
  | .i64F64t _ d a => some (encR 0x13 4 0 a d)
  | .i64F32t _ d a => some (encR 0x13 5 0 a d)
  | .i64F64n _ d a => some (encR 0x13 6 0 a d)
  | .i64F32n _ d a => some (encR 0x13 7 0 a d)
  | .l8s _ d a k => some (encK 0x20 k a d)
  | .l8u _ d a k => some (encK 0x21 k a d)
  | .l16s _ d a k => some (encK 0x22 k a d)
  | .l16u _ d a k => some (encK 0x23 k a d)
  | .l32s _ d a k => some (encK 0x24 k a d)
  | .l32u _ d a k => some (encK 0x25 k a d)
  | .l64 _ d a k => some (encK 0x26 k a d)
  | .s8 _ t a k => some (encK 0x28 k a t)
  | .s16 _ t a k => some (encK 0x29 k a t)
  | .s32 _ t a k => some (encK 0x2A k a t)
  | .s64 _ t a k => some (encK 0x2B k a t)
  | .ls8s _ d a k => some (encK 0x30 k a d)
  | .ls8u _ d a k => some (encK 0x31 k a d)
  | .ls16s _ d a k => some (encK 0x32 k a d)
  | .ls16u _ d a k => some (encK 0x33 k a d)
  | .ls32s _ d a k => some (encK 0x34 k a d)
  | .ls32u _ d a k => some (encK 0x35 k a d)
  | .ls64 _ d a k => some (encK 0x36 k a d)
  | .ss8 _ t a k => some (encK 0x38 k a t)
  | .ss16 _ t a k => some (encK 0x39 k a t)
  | .ss32 _ t a k => some (encK 0x3A k a t)
  | .ss64 _ t a k => some (encK 0x3B k a t)
  | .bmv _ dir n sh lo =>
    some (encK (if dir then (if n.getLsbD 14 then 0x3F else 0x3D) else if n.getLsbD 14 then 0x3E else 0x3C)
      (n.extractLsb' 0 14) sh lo)
  | .bcEq _ a b o => some (encK 0x40 o b a)
  | .bcNe _ a b o => some (encK 0x41 o b a)
  | .bcLts _ a b o => some (encK 0x42 o b a)
  | .bcGes _ a b o => some (encK 0x43 o b a)
  | .bcLtu _ a b o => some (encK 0x44 o b a)
  | .bcGeu _ a b o => some (encK 0x45 o b a)
  | .go _ n => some (encN 0x48 n)
  | .gor _ a k => some (encK 0x49 k a 0)
  | .call _ n => some (encN 0x4A n)
  | .callr _ a k => some (encK 0x4B k a 0)
  | .ret _ => some (encN 0x4C 0)
  | .callb _ a o => some (encH 0x4D o a)
  | .retb _ => some (encN 0x4E 0)
  | .endEntry _ => some (encN 0x4F 0)
  | .qPut _ arg => some (encSys 0x001 arg)
  | .qGet _ arg => some (encSys 0x002 arg)
  | .qStat _ arg => some (encSys 0x003 arg)
  | .evtRaise _ arg => some (encSys 0x010 arg)
  | .evtArg _ arg => some (encSys 0x011 arg)
  | .regRd _ arg => some (encSys 0x020 arg)
  | .regWr _ arg => some (encSys 0x021 arg)
  | .recRaise _ arg => some (encSys 0x030 arg)
  | .timeRd _ arg => some (encSys 0x040 arg)
  | .sysBad _ service arg => if knownService service.toNat then none else some (encSys service arg)
  | _ => none

end Sys2Proof
end

