-- ==== Sys2Proof/Machine/Aes.lean ====
section
/-!
DEFINITION. AES-256 and its Galois/Counter Mode (FIPS 197 and SP 800-38D), the cipher suite GCM-AES-256 that R312 names.
-/

namespace Sys2Proof.Machine

namespace Aes

/-- Times x in the byte field of AES. -/
def xtime (a : Byte) : Byte := (a <<< 1) ^^^ (if a.msb then 0x1B#8 else 0#8)

/-- Product in the byte field. -/
def mul (a b : Byte) : Byte :=
  ((List.range 8).foldl (fun (r : Byte × Byte) i => (if b.getLsbD i then r.1 ^^^ r.2 else r.1, xtime r.2)) (0#8, a)).1

/-- Inverse in the byte field, 0 for 0: the power 254. -/
def inv (a : Byte) : Byte :=
  let a2 := mul a a
  let a3 := mul a2 a
  let a12 := mul (mul a3 a3) (mul a3 a3)
  let a15 := mul a12 a3
  let sq (x : Byte) : Byte := mul x x
  mul (sq (sq (sq (sq a15)))) (mul a12 a2)

/-- The substitution box: the inverse, then the affine map. -/
def sub (a : Byte) : Byte :=
  let b := inv a
  b ^^^ b.rotateLeft 1 ^^^ b.rotateLeft 2 ^^^ b.rotateLeft 3 ^^^ b.rotateLeft 4 ^^^ 0x63#8

def xorBytes (a b : Bytes) : Bytes := List.zipWith (· ^^^ ·) a b

/-- The next four-byte word of the key schedule, word i, from the words before it. -/
def nextWord (w : List Bytes) (i : Nat) : Bytes :=
  let t := w.getD (i - 1) []
  let t := if i % 8 = 0 then
      xorBytes ((t.drop 1 ++ t.take 1).map sub) [1#8 <<< (i / 8 - 1), 0, 0, 0]
    else if i % 8 = 4 then t.map sub else t
  xorBytes (w.getD (i - 8) []) t

/-- The 15 round keys of 16 bytes of a 32-byte key. -/
def roundKeys (key : Bytes) : List Bytes :=
  let w := (List.range 52).foldl (fun w k => w ++ [nextWord w (k + 8)])
    ((List.range 8).map (fun k => key.slice (4 * k) 4))
  (List.range 15).map (fun r => ((w.drop (4 * r)).take 4).flatten)

/-- Row r of the state, whose columns lie one after the other, moves left by r. -/
def shiftRows (s : Bytes) : Bytes := (List.range 16).map (fun k => s.getD ((k + 4 * (k % 4)) % 16) 0#8)

def mixColumn (c : Bytes) : Bytes :=
  (List.range 4).map (fun k =>
    xtime (c.getD k 0#8) ^^^ mul 3#8 (c.getD ((k + 1) % 4) 0#8) ^^^ c.getD ((k + 2) % 4) 0#8 ^^^ c.getD ((k + 3) % 4) 0#8)

def mixColumns (s : Bytes) : Bytes := ((List.range 4).map (fun k => mixColumn (s.slice (4 * k) 4))).flatten

/-- One block of 16 bytes under the round keys. -/
def cipher (ks : List Bytes) (block : Bytes) : Bytes :=
  let s := xorBytes block (ks.getD 0 [])
  let s := (List.range 13).foldl (fun s r => xorBytes (mixColumns (shiftRows (s.map sub))) (ks.getD (r + 1) [])) s
  xorBytes (shiftRows (s.map sub)) (ks.getD 14 [])

/-- Product in the field of GHASH, whose first bit is the most significant. -/
def ghashMul (x y : BitVec 128) : BitVec 128 :=
  ((List.range 128).foldl (fun (r : BitVec 128 × BitVec 128) i =>
    (if x.getMsbD i then r.1 ^^^ r.2 else r.1,
      (r.2 >>> 1) ^^^ (if r.2.getLsbD 0 then 0xE1000000000000000000000000000000#128 else 0#128))) (0#128, y)).1

/-- Bytes filled up with zeros to whole blocks. -/
def pad16 (b : Bytes) : Bytes := b ++ List.replicate ((16 - b.length % 16) % 16) 0#8

/-- The hash of additional data and ciphertext under the hash key. -/
def ghash (h : BitVec 128) (aad c : Bytes) : BitVec 128 :=
  let m := pad16 aad ++ pad16 c ++ beBytes 8 (8 * aad.length) ++ beBytes 8 (8 * c.length)
  (List.range (m.length / 16)).foldl (fun y k => ghashMul (y ^^^ BitVec.ofNat 128 (m.beAt (16 * k) 16)) h) 0#128

/-- Counter mode from a block counter on; encryption and decryption alike. -/
def ctr (ks : List Bytes) (iv : Bytes) (n : Nat) (m : Bytes) : Bytes :=
  ((List.range (ceilDiv m.length 16)).map (fun k =>
    xorBytes ((m.drop (16 * k)).take 16) (cipher ks (iv ++ beBytes 4 (n + k))))).flatten

/-- The tag of a ciphertext and its additional data under a 12-byte IV. -/
def gcmTag (ks : List Bytes) (iv aad c : Bytes) : Bytes :=
  let h := BitVec.ofNat 128 (Bytes.be (cipher ks (List.replicate 16 0#8)))
  xorBytes (beBytes 16 (ghash h aad c).toNat) (cipher ks (iv ++ beBytes 4 1))

end Aes

/-- AES key wrap (RFC 3394) of a key of whole 8-byte blocks. -/
def keyWrap (kek key : Bytes) : Bytes :=
  let ks := Aes.roundKeys kek
  let n := key.length / 8
  let r := (List.range (6 * n)).foldl (fun (x : Bytes × List Bytes) t =>
      let b := Aes.cipher ks (x.1 ++ x.2.getD (t % n) [])
      (Aes.xorBytes (b.take 8) (beBytes 8 (t + 1)), x.2.set (t % n) (b.drop 8)))
    (List.replicate 8 0xA6#8, (List.range n).map (fun i => key.slice (8 * i) 8))
  r.1 ++ r.2.flatten

/-- GCM-AES-256: ciphertext and tag of a message. -/
def gcmSeal (key iv aad m : Bytes) : Bytes × Bytes :=
  let ks := Aes.roundKeys key
  let c := Aes.ctr ks iv 2 m
  (c, Aes.gcmTag ks iv aad c)

/-- GCM-AES-256: the message, where the tag verifies. -/
def gcmOpen (key iv aad c tag : Bytes) : Option Bytes :=
  let ks := Aes.roundKeys key
  if Aes.gcmTag ks iv aad c = tag then some (Aes.ctr ks iv 2 c) else none

end Sys2Proof.Machine
end

