-- ==== Sys2Proof/Config.lean ====
section
/-!
DEFINITION. What the spec leaves open: opaque constants that nothing can evaluate, so that a claim holds for every
value of them.
-/

namespace Sys2Proof.Config

/-- A number the spec leaves open; the step applies it to a counter of State (log 4). -/
opaque freeNat : Nat → Nat

/-- Number by which an event's payload names one of several things (an oscillator, a reason, a cause, a part) to which
the spec gives no numbers, by event code and place in the spec's list of them (log 74). -/
opaque payloadCode : Nat → Nat → Nat

/-- Number in bits 11:0 of SOURCE for an event that is of no one channel or port, by event code and unit (log 75). -/
opaque sourceIndex : Nat → Nat → Nat

/-- Is tininess detected before rounding? IEEE 754, which R90 names, lets the implementation choose (log 6). -/
opaque tinyBeforeRounding : Bool

/-- Does a fused multiply-add of zero times infinity and a quiet NaN set INVALID? IEEE 754, which R90 names, leaves
it to the implementation (log 6). -/
opaque fmaNanInvalid : Bool

/-- Byte i of the identity sector, which production wrote, and where an item lies in it and how long it is: 0 the identity
certificate, 1 the device CA certificate, 2 the root key, 3 and 4 the MAC addresses of the plant ports. The spec gives
neither the layout nor the values, which are the chip's own (logs 10, 41, 50). -/
opaque identityByte : Nat → BitVec 8
opaque identityAt : Nat → Nat × Nat

/-- Byte i of the rendered image of a screen of given content on a panel of W by H pixels: the spec names what each
screen shows (Table 15.5) and no glyph or place (log 40). -/
opaque screenByte : List (BitVec 8) → List Nat → Nat → Nat → Nat → BitVec 8

/-- Device secret of the OTP (R408): its value is the chip's own (log 41). -/
opaque deviceSecret : Bytes

/-- Firmware signing keys whose digests the mask ROM holds, by index (R408): X and Y, 48 bytes each (log 41). -/
opaque firmwareKey : Nat → Bytes

/-- Serial number of the module (R408, R420): the identity sector holds it (log 41). -/
opaque serial : BitVec 64

/-- What an Announce message of the module says of its clock beside Table 12.6, by byte: flags (2), UTC offset (2), time
source, clock accuracy, offset variance (2); the spec gives none of them (log 47). -/
opaque ptpAnnounce : Nat → BitVec 8

/-- Does a selvedge segment of a SELVEDGE section read the shared SRAM bytes `off` to `off + len - 1`? R260 rule 2 asks,
and the spec does not say how verification tells it from the code (log 43). -/
opaque selvReads : Bytes → Nat → Nat → Bool

/-- Identity of the module (R408): its private key, below the group order (log 41). -/
opaque identityKey : Nat

/-- SHA-384 of the Asresy root key in mask ROM (R408, log 41). -/
opaque rootKeyHash : Bytes

/-- What an X.509 certificate holds, whose format is outside the spec (R435): the bytes that are signed, the signature R
and S (48 bytes each), its public key (X and Y, 48 bytes each), its serial number (log 50). -/
opaque certBody : Bytes → Bytes
opaque certSigR : Bytes → Bytes
opaque certSigS : Bytes → Bytes
opaque certKey : Bytes → Bytes
opaque certSerial : Bytes → BitVec 64

/-- Component of a type of the firmware image that production left in a slot (log 8). -/
opaque factoryComponent : Nat → Bytes

end Sys2Proof.Config
end

