-- ==== Sys2Proof/Machine/Float.lean ====
section
/-!
DEFINITION. IEEE 754 binary32 and binary64 arithmetic as R90 uses it: every operation is computed exactly and rounded
once to nearest even; subnormals in full; NaN results are the canonical quiet NaN; conditions are reported as flags.
Numbers are bit patterns.
-/

namespace Sys2Proof.Machine

/-- A binary format: precision p (with the hidden bit) and width of the exponent field. -/
structure FFmt where
  p : Nat
  ebits : Nat
  deriving DecidableEq, Repr

def f32 : FFmt := ⟨24, 8⟩
def f64 : FFmt := ⟨53, 11⟩

/-- Exponent of the lowest subnormal bit. -/
def FFmt.emin (f : FFmt) : Int := 2 - 2 ^ (f.ebits - 1) - ((f.p : Int) - 1)

/-- Bit pattern of plus infinity, of the sign bit, and of the canonical quiet NaN (R90). -/
def FFmt.inf (f : FFmt) : Nat := (2 ^ f.ebits - 1) * 2 ^ (f.p - 1)
def FFmt.signBit (f : FFmt) : Nat := 2 ^ (f.p - 1 + f.ebits)
def FFmt.qnan (f : FFmt) : Nat := f.inf + 2 ^ (f.p - 2)

/-- A datum: not a number, infinity, or a sign and m times 2^e. -/
inductive FVal where
  | nan (signalling : Bool)
  | inf (neg : Bool)
  | fin (neg : Bool) (m : Nat) (e : Int)
  deriving DecidableEq, Repr

/-- The flags of an operation, bits as in FST (Table 4.2). -/
def flInexact : Nat := 1
def flUnderflow : Nat := 2
def flOverflow : Nat := 4
def flDivZero : Nat := 8
def flInvalid : Nat := 16

/-- A bit pattern read as a datum. -/
def FFmt.unpack (f : FFmt) (b : Nat) : FVal :=
  let neg := b / f.signBit % 2 == 1
  let ex := b / 2 ^ (f.p - 1) % 2 ^ f.ebits
  let fr := b % 2 ^ (f.p - 1)
  if ex = 2 ^ f.ebits - 1 then
    if fr = 0 then .inf neg else .nan (fr < 2 ^ (f.p - 2))
  else if ex = 0 then .fin neg fr f.emin
  else .fin neg (fr + 2 ^ (f.p - 1)) (f.emin + (ex - 1 : Nat))

/-- Sign bit for a sign. -/
def FFmt.sg (f : FFmt) (neg : Bool) : Nat := if neg then f.signBit else 0

/-- m times 2^-d rounded to nearest, ties to even; whether bits were lost. -/
def rne (m d : Nat) : Nat × Bool :=
  let q := m / 2 ^ d
  let r := m % 2 ^ d
  let up := 2 ^ d < 2 * r || (2 ^ d == 2 * r && q % 2 == 1)
  (if up then q + 1 else q, r != 0)

/-- Rounds sign, m, e (m times 2^e) to the format: bit pattern and flags. -/
def FFmt.round (f : FFmt) (neg : Bool) (m : Nat) (e : Int) : Nat × Nat :=
  if m = 0 then (f.sg neg, 0) else
  let top : Int := e + Nat.log2 m
  let q : Int := max (top - (f.p - 1)) f.emin
  let (r, inexact) := if q ≤ e then (m * 2 ^ (e - q).toNat, false) else rne m (q - e).toNat
  let bits := (q - f.emin).toNat * 2 ^ (f.p - 1) + r
  if f.inf ≤ bits then (f.sg neg + f.inf, flOverflow + flInexact) else
  let tinyBefore := top < f.emin + (f.p - 1)
  let d := Nat.log2 m - (f.p - 1)
  let tinyAfter := tinyBefore && (e + d + Nat.log2 (rne m d).1 < f.emin + (f.p - 1))
  let under := inexact && (tinyAfter || (tinyBefore && Config.tinyBeforeRounding))
  (f.sg neg + bits, (if inexact then flInexact else 0) + (if under then flUnderflow else 0))

def FFmt.isNan (f : FFmt) (b : Nat) : Bool :=
  match f.unpack b with
  | .nan _ => true
  | _ => false

def FFmt.isSNan (f : FFmt) (b : Nat) : Bool :=
  match f.unpack b with
  | .nan true => true
  | _ => false

/-- Is the bit pattern a finite number? -/
def FFmt.isFinite (f : FFmt) (b : Nat) : Bool :=
  match f.unpack b with
  | .fin _ _ _ => true
  | _ => false

/-- INVALID for a signalling operand. -/
def nanFlags (x : FVal) : Nat :=
  match x with
  | .nan true => flInvalid
  | _ => 0

/-- Signed integer of a sign and a magnitude. -/
def signed (neg : Bool) (m : Nat) : Int := if neg then -(m : Int) else m

/-- Exact sum of two finite data: a signed integer times 2^e. -/
def exactSum (n1 : Bool) (m1 : Nat) (e1 : Int) (n2 : Bool) (m2 : Nat) (e2 : Int) : Int × Int :=
  let e := min e1 e2
  (signed n1 (m1 * 2 ^ (e1 - e).toNat) + signed n2 (m2 * 2 ^ (e2 - e).toNat), e)

/-- Rounds an exact signed result; an exact zero takes the given sign. -/
def FFmt.roundSigned (f : FFmt) (v e : Int) (zeroNeg : Bool) : Nat × Nat :=
  if v = 0 then (f.sg zeroNeg, 0) else f.round (v < 0) v.natAbs e

/-- Sum of two data. -/
def FFmt.addVal (f : FFmt) (x y : FVal) : Nat × Nat :=
  match x, y with
  | .nan s, y => (f.qnan, (if s then flInvalid else nanFlags y))
  | _, .nan s => (f.qnan, if s then flInvalid else 0)
  | .inf a, .inf b => if a = b then (f.sg a + f.inf, 0) else (f.qnan, flInvalid)
  | .inf a, .fin _ _ _ => (f.sg a + f.inf, 0)
  | .fin _ _ _, .inf b => (f.sg b + f.inf, 0)
  | .fin n1 m1 e1, .fin n2 m2 e2 =>
    let r := exactSum n1 m1 e1 n2 m2 e2
    f.roundSigned r.1 r.2 (n1 && n2)

/-- The datum with its sign inverted. -/
def FVal.neg : FVal → FVal
  | .nan s => .nan s
  | .inf a => .inf (!a)
  | .fin n m e => .fin (!n) m e

def FFmt.add (f : FFmt) (a b : Nat) : Nat × Nat := f.addVal (f.unpack a) (f.unpack b)
def FFmt.sub (f : FFmt) (a b : Nat) : Nat × Nat := f.addVal (f.unpack a) (f.unpack b).neg

/-- Product. -/
def FFmt.mul (f : FFmt) (a b : Nat) : Nat × Nat :=
  match f.unpack a, f.unpack b with
  | .nan s, y => (f.qnan, (if s then flInvalid else nanFlags y))
  | _, .nan s => (f.qnan, if s then flInvalid else 0)
  | .inf a, .inf b => (f.sg (xor a b) + f.inf, 0)
  | .inf a, .fin b m _ => if m = 0 then (f.qnan, flInvalid) else (f.sg (xor a b) + f.inf, 0)
  | .fin a m _, .inf b => if m = 0 then (f.qnan, flInvalid) else (f.sg (xor a b) + f.inf, 0)
  | .fin n1 m1 e1, .fin n2 m2 e2 => f.round (xor n1 n2) (m1 * m2) (e1 + e2)

/-- Fused multiply-add of data: x times y plus z, one rounding. -/
def FFmt.fmaVal (f : FFmt) (x y z : FVal) : Nat × Nat :=
  let nanZ := match z with
    | .nan _ => true
    | _ => false
  let sn := nanFlags x ||| nanFlags y ||| nanFlags z
  match x, y with
  | .nan _, _ => (f.qnan, sn)
  | _, .nan _ => (f.qnan, sn)
  | .inf a, .inf b =>
    match z with
    | .nan _ => (f.qnan, sn)
    | .inf c => if xor a b = c then (f.sg c + f.inf, 0) else (f.qnan, flInvalid)
    | .fin _ _ _ => (f.sg (xor a b) + f.inf, 0)
  | .inf a, .fin b m _ =>
    if m = 0 then (f.qnan, if nanZ && sn == 0 then (if Config.fmaNanInvalid then flInvalid else 0) else flInvalid) else
    match z with
    | .nan _ => (f.qnan, sn)
    | .inf c => if xor a b = c then (f.sg c + f.inf, 0) else (f.qnan, flInvalid)
    | .fin _ _ _ => (f.sg (xor a b) + f.inf, 0)
  | .fin a m _, .inf b =>
    if m = 0 then (f.qnan, if nanZ && sn == 0 then (if Config.fmaNanInvalid then flInvalid else 0) else flInvalid) else
    match z with
    | .nan _ => (f.qnan, sn)
    | .inf c => if xor a b = c then (f.sg c + f.inf, 0) else (f.qnan, flInvalid)
    | .fin _ _ _ => (f.sg (xor a b) + f.inf, 0)
  | .fin n1 m1 e1, .fin n2 m2 e2 =>
    match z with
    | .nan _ => (f.qnan, sn)
    | .inf c => (f.sg c + f.inf, 0)
    | .fin n3 m3 e3 =>
      let r := exactSum (xor n1 n2) (m1 * m2) (e1 + e2) n3 m3 e3
      f.roundSigned r.1 r.2 (xor n1 n2 && n3)

def FFmt.fma (f : FFmt) (a b c : Nat) : Nat × Nat := f.fmaVal (f.unpack a) (f.unpack b) (f.unpack c)
def FFmt.fms (f : FFmt) (a b c : Nat) : Nat × Nat := f.fmaVal (f.unpack a) (f.unpack b) (f.unpack c).neg
def FFmt.fnma (f : FFmt) (a b c : Nat) : Nat × Nat := f.fmaVal (f.unpack a).neg (f.unpack b) (f.unpack c)

/-- Quotient. -/
def FFmt.div (f : FFmt) (a b : Nat) : Nat × Nat :=
  match f.unpack a, f.unpack b with
  | .nan s, y => (f.qnan, (if s then flInvalid else nanFlags y))
  | _, .nan s => (f.qnan, if s then flInvalid else 0)
  | .inf _, .inf _ => (f.qnan, flInvalid)
  | .inf a, .fin b _ _ => (f.sg (xor a b) + f.inf, 0)
  | .fin a _ _, .inf b => (f.sg (xor a b), 0)
  | .fin n1 m1 e1, .fin n2 m2 e2 =>
    if m2 = 0 then
      if m1 = 0 then (f.qnan, flInvalid) else (f.sg (xor n1 n2) + f.inf, flDivZero)
    else
      let k := 2 * f.p + 3
      let n := m1 * 2 ^ k
      f.round (xor n1 n2) (2 * (n / m2) + (if n % m2 = 0 then 0 else 1)) (e1 - e2 - k - 1)

/-- Integer square root by bits: the largest r with r * r ≤ n, r built from bit k - 1 down. -/
def isqrt : Nat → Nat → Nat → Nat
  | 0, _, r => r
  | k + 1, n, r => if (r + 2 ^ k) * (r + 2 ^ k) ≤ n then isqrt k n (r + 2 ^ k) else isqrt k n r

/-- Square root. -/
def FFmt.sqrt (f : FFmt) (a : Nat) : Nat × Nat :=
  match f.unpack a with
  | .nan s => (f.qnan, if s then flInvalid else 0)
  | .inf neg => if neg then (f.qnan, flInvalid) else (f.inf, 0)
  | .fin neg m e =>
    if m = 0 then (f.sg neg, 0) else
    if neg then (f.qnan, flInvalid) else
    let k := 2 * f.p + 4 + (if e % 2 = 0 then 0 else 1)
    let n := m * 2 ^ k
    let r := isqrt (Nat.log2 n / 2 + 1) n 0
    f.round false (2 * r + (if r * r = n then 0 else 1)) ((e - k) / 2 - 1)

/-- Order of two data that are not NaN: less than, with both zeros equal. -/
def FVal.lt (x y : FVal) : Bool :=
  match x, y with
  | .nan _, _ => false
  | _, .nan _ => false
  | .inf a, .inf b => a && !b
  | .inf a, .fin _ _ _ => a
  | .fin _ _ _, .inf b => !b
  | .fin n1 m1 e1, .fin n2 m2 e2 => (exactSum n1 m1 e1 (!n2) m2 e2).1 < 0

def FVal.eq (x y : FVal) : Bool :=
  match x, y with
  | .nan _, _ => false
  | _, .nan _ => false
  | .inf a, .inf b => a == b
  | .inf _, .fin _ _ _ => false
  | .fin _ _ _, .inf _ => false
  | .fin n1 m1 e1, .fin n2 m2 e2 => (exactSum n1 m1 e1 (!n2) m2 e2).1 == 0

def FFmt.lt (f : FFmt) (a b : Nat) : Bool := (f.unpack a).lt (f.unpack b)
def FFmt.eq (f : FFmt) (a b : Nat) : Bool := (f.unpack a).eq (f.unpack b)
def FFmt.le (f : FFmt) (a b : Nat) : Bool := f.lt a b || f.eq a b

/-- FMIN and FMAX of R90: minus zero below plus zero, the other operand of one NaN, the canonical NaN of two;
INVALID for a signalling NaN only. -/
def FFmt.minMax (f : FFmt) (wantMax : Bool) (a b : Nat) : Nat × Nat :=
  let fl := if f.isSNan a || f.isSNan b then flInvalid else 0
  if f.isNan a && f.isNan b then (f.qnan, fl)
  else if f.isNan a then (b, fl)
  else if f.isNan b then (a, fl)
  else
    let aFirst := f.lt a b || (f.eq a b && f.signBit ≤ a)
    (if aFirst = wantMax then b else a, fl)

def FFmt.fmin (f : FFmt) (a b : Nat) : Nat × Nat := f.minMax false a b
def FFmt.fmax (f : FFmt) (a b : Nat) : Nat × Nat := f.minMax true a b

/-- FNEG and FABS act on the sign bit alone (R90). -/
def FFmt.fneg (f : FFmt) (a : Nat) : Nat := if f.signBit ≤ a then a - f.signBit else a + f.signBit
def FFmt.fabs (f : FFmt) (a : Nat) : Nat := a % f.signBit

/-- The quiet comparisons of R90, with their flags. -/
def FFmt.cmpEq (f : FFmt) (a b : Nat) : Nat × Nat :=
  (if f.eq a b then 1 else 0, if f.isSNan a || f.isSNan b then flInvalid else 0)
def FFmt.cmpLt (f : FFmt) (a b : Nat) : Nat × Nat :=
  (if f.lt a b then 1 else 0, if f.isNan a || f.isNan b then flInvalid else 0)
def FFmt.cmpLe (f : FFmt) (a b : Nat) : Nat × Nat :=
  (if f.le a b then 1 else 0, if f.isNan a || f.isNan b then flInvalid else 0)

/-- Conversion between formats (R90). -/
def FFmt.convert (src dst : FFmt) (a : Nat) : Nat × Nat :=
  match src.unpack a with
  | .nan s => (dst.qnan, if s then flInvalid else 0)
  | .inf neg => (dst.sg neg + dst.inf, 0)
  | .fin neg m e => dst.round neg m e

/-- Conversion of a signed integer (R90). -/
def FFmt.ofInt (f : FFmt) (v : Int) : Nat × Nat := f.roundSigned v 0 false

/-- Conversion to a 64-bit integer, truncating or to nearest even (R90): a NaN gives 0, a value out of range the
nearest representable integer, both with INVALID; in range no flag. -/
def FFmt.toInt64 (f : FFmt) (nearest : Bool) (a : Nat) : Int × Nat :=
  match f.unpack a with
  | .nan _ => (0, flInvalid)
  | .inf neg => (if neg then -(2 ^ 63 : Int) else 2 ^ 63 - 1, flInvalid)
  | .fin neg m e =>
    let mag : Nat := if 0 ≤ e then m * 2 ^ e.toNat else
      if nearest then (rne m (-e).toNat).1 else m / 2 ^ (-e).toNat
    let v := signed neg mag
    if v < -(2 ^ 63 : Int) then (-(2 ^ 63 : Int), flInvalid)
    else if (2 ^ 63 - 1 : Int) < v then (2 ^ 63 - 1, flInvalid)
    else (v, 0)

/-- The value of a finite datum compared with an integer: floor of the value times 2^k. -/
def FFmt.floorScaled (f : FFmt) (a : Nat) (k : Int) : Int :=
  match f.unpack a with
  | .fin neg m e =>
    let x := e + k
    if 0 ≤ x then signed neg (m * 2 ^ x.toNat) else (signed neg m).fdiv (2 ^ (-x).toNat : Nat)
  | _ => 0

end Sys2Proof.Machine
end

