-- ==== Sys2Proof/Machine/Crc.lean ====
section
/-!
DEFINITION. CRC-32C with the parameters of R59, bit by bit.
-/

namespace Sys2Proof.Machine

/-- One bit of the reflected CRC-32C (polynomial 0x1EDC_6F41, reflected 0x82F6_3B78). -/
def crc32cBit (c : BitVec 32) : BitVec 32 :=
  if c.getLsbD 0 then (c >>> 1) ^^^ 0x82F63B78#32 else c >>> 1

/-- k bits. -/
def crc32cBits : Nat → BitVec 32 → BitVec 32
  | 0, c => c
  | k + 1, c => crc32cBits k (crc32cBit c)

/-- One byte into the running register. -/
def crc32cByte (c : BitVec 32) (b : BitVec 8) : BitVec 32 := crc32cBits 8 (c ^^^ b.setWidth 32)

/-- Bytes into a running CRC that is kept in its final form. -/
def crc32cMore (crc : BitVec 32) (bs : Bytes) : BitVec 32 := ~~~(bs.foldl crc32cByte (~~~crc))

/-- CRC-32C of a byte sequence (R59). -/
def crc32c (bs : Bytes) : BitVec 32 := crc32cMore 0 bs

end Sys2Proof.Machine
end

