-- ==== Sys2Proof/Machine/Events.lean ====
section
/-!
DEFINITION. The event codes of the chapters' event tables and their classes (R5, R15, R350).
-/

namespace Sys2Proof.Machine

namespace Ev

/-- MODULE_RESET; payload: PRIMARY; cause bit mask, as ALL in RST_CAUSE. -/
def MODULE_RESET : Nat := 0x0001
/-- STRAP_UNSTABLE; payload: Pin mask, bits as in RST_STRAPS bits 17:0. -/
def STRAP_UNSTABLE : Nat := 0x0002
/-- SETTINGS_DEFAULTS; payload: Reason of R448. -/
def SETTINGS_DEFAULTS : Nat := 0x0003
/-- SETTINGS_WRITTEN; payload: New SEQ. -/
def SETTINGS_WRITTEN : Nat := 0x0004
/-- SETTINGS_ITEM_IGNORED; payload: ID. -/
def SETTINGS_ITEM_IGNORED : Nat := 0x0005
/-- TIME_MARK; payload: Under R363. -/
def TIME_MARK : Nat := 0x0010
/-- PATTERN_INVALID; payload: CODE; DETAIL of Table 3.7. -/
def PATTERN_INVALID : Nat := 0x0031
/-- CORE_EXCEPTION; payload: Core; CAUSE of Table 4.6; PC; address, as in APC_COREn_FADDR. -/
def CORE_EXCEPTION : Nat := 0x0040
/-- ECC_CORRECTED; payload: Array k; word index. -/
def ECC_CORRECTED : Nat := 0x0041
/-- ECC_UNCORRECTABLE; payload: Array k; word index; FINDER of APC_ECC_UE. -/
def ECC_UNCORRECTABLE : Nat := 0x0042
/-- SCRUB_LATE; payload: Array k. -/
def SCRUB_LATE : Nat := 0x0043
/-- TASK_SUSPENDED; payload: Task number. -/
def TASK_SUSPENDED : Nat := 0x0050
/-- TRIGGER_OVERFLOW; payload: Task number; trigger code. -/
def TRIGGER_OVERFLOW : Nat := 0x0051
/-- RESTART_COLD; payload: Generation. -/
def RESTART_COLD : Nat := 0x0052
/-- RESTART_WARM; payload: Generation; bank SEQ. -/
def RESTART_WARM : Nat := 0x0053
/-- RETAIN_INVALID; payload: Bank number. -/
def RETAIN_INVALID : Nat := 0x0054
/-- FORCE_SET; payload: SYM_ID; value. -/
def FORCE_SET : Nat := 0x0055
/-- FORCE_RELEASED; payload: SYM_ID, or 0 for a release of all forces; count released. -/
def FORCE_RELEASED : Nat := 0x0056
/-- FORCE_DROPPED; payload: SYM_ID. -/
def FORCE_DROPPED : Nat := 0x0057
/-- TIMERS_ADVANCED; payload: Ledger ns; APPROXIMATE flag. -/
def TIMERS_ADVANCED : Nat := 0x0058
/-- LOOP_NUMERIC; payload: Channel. -/
def LOOP_NUMERIC : Nat := 0x0060
/-- LOOP_COEF_BAD; payload: Channel; bank. -/
def LOOP_COEF_BAD : Nat := 0x0061
/-- LOOP_FAULTED; payload: Channel; word index. -/
def LOOP_FAULTED : Nat := 0x0062
/-- BOBBIN_DONE; payload: Records written in area 0. -/
def BOBBIN_DONE : Nat := 0x0063
/-- INJECTION_ENDED; payload: 0 = after LEN; 1 = left TACKING; 2 = STOP. -/
def INJECTION_ENDED : Nat := 0x0064
/-- QP_MISS; payload: Context; status. -/
def QP_MISS : Nat := 0x0070
/-- QP_MISS_LIMIT; payload: Context; CONSEC. -/
def QP_MISS_LIMIT : Nat := 0x0071
/-- QP_LOAD_REFUSED; payload: Context; status; pivot index for NOT_PD. -/
def QP_LOAD_REFUSED : Nat := 0x0072
/-- FS_LOW; payload: Supply. -/
def FS_LOW : Nat := 0x0080
/-- FS_CUTOFF; payload: Supply. -/
def FS_CUTOFF : Nat := 0x0081
/-- FS_RETURN; payload: Supply. -/
def FS_RETURN : Nat := 0x0082
/-- DI_BROKEN; payload: Channel. -/
def DI_BROKEN : Nat := 0x0083
/-- DI_INVALID; payload: Channel. -/
def DI_INVALID : Nat := 0x0084
/-- DO_SHORT_GND; payload: Channel. -/
def DO_SHORT_GND : Nat := 0x0085
/-- DO_DRIVEN_EXT; payload: Channel. -/
def DO_DRIVEN_EXT : Nat := 0x0086
/-- DO_TEST_FAIL; payload: Channel; stage current. -/
def DO_TEST_FAIL : Nat := 0x0087
/-- DO_OPEN_LOAD; payload: Channel. -/
def DO_OPEN_LOAD : Nat := 0x0088
/-- GRP_OVERLOAD; payload: Group; current. -/
def GRP_OVERLOAD : Nat := 0x0089
/-- DISC_FAULT; payload: Group. -/
def DISC_FAULT : Nat := 0x008A
/-- GRP_ADC_FAULT; payload: Group. -/
def GRP_ADC_FAULT : Nat := 0x008B
/-- DI_TEST_FAIL; payload: Channel. -/
def DI_TEST_FAIL : Nat := 0x008C
/-- DO_NO_DRIVE; payload: Channel. -/
def DO_NO_DRIVE : Nat := 0x008D
/-- CLO_COMPLIANCE; payload: Output; set value; readback. -/
def CLO_COMPLIANCE : Nat := 0x0090
/-- CLO_THERMAL; payload: Output. -/
def CLO_THERMAL : Nat := 0x0091
/-- CLO_LINK_LOST; payload: Output. -/
def CLO_LINK_LOST : Nat := 0x0092
/-- CLO_READBACK_LOST; payload: Output. -/
def CLO_READBACK_LOST : Nat := 0x0093
/-- PNL_UPDATE_INTERRUPTED; payload: Frame reached; L_u. -/
def PNL_UPDATE_INTERRUPTED : Nat := 0x00A0
/-- PNL_RECOVERED; payload: Region rows. -/
def PNL_RECOVERED : Nat := 0x00A1
/-- PNL_STICK_RISK; payload: Region rows. -/
def PNL_STICK_RISK : Nat := 0x00A2
/-- PNL_RAIL_FAULT; payload: Rail. -/
def PNL_RAIL_FAULT : Nat := 0x00A3
/-- PNL_FAILED; payload: Rail. -/
def PNL_FAILED : Nat := 0x00A4
/-- PNL_SENSOR_FAULT; payload: Raw reading. -/
def PNL_SENSOR_FAULT : Nat := 0x00A5
/-- PNL_LAYOUT_MISMATCH; payload: Pattern W; H. -/
def PNL_LAYOUT_MISMATCH : Nat := 0x00A6
/-- PNL_ASSETS_INVALID; payload: Part. -/
def PNL_ASSETS_INVALID : Nat := 0x00A7
/-- WATCH_REQUESTED; payload: Requester of R14. -/
def WATCH_REQUESTED : Nat := 0x00B0
/-- WATCH_WAKE; payload: Wake causes; ledger ns; APPROXIMATE flag. -/
def WATCH_WAKE : Nat := 0x00B1
/-- WATCH_ABANDONED; payload: Abort point; wake causes. -/
def WATCH_ABANDONED : Nat := 0x00B2
/-- WAKE_REG_RETRY; payload: —. -/
def WAKE_REG_RETRY : Nat := 0x00B3
/-- REFCLK_LOST; payload: —. -/
def REFCLK_LOST : Nat := 0x00B4
/-- PWR_DOMAIN_FAULT; payload: Domain; 0 = on failed; 1 = off failed. -/
def PWR_DOMAIN_FAULT : Nat := 0x00B6
/-- UPD_BEGIN; payload: Region; blocks. -/
def UPD_BEGIN : Nat := 0x00C0
/-- UPD_BLOCK_BAD; payload: Region; block. -/
def UPD_BLOCK_BAD : Nat := 0x00C1
/-- UPD_VERIFIED; payload: Region; SVN. -/
def UPD_VERIFIED : Nat := 0x00C2
/-- UPD_VERIFY_FAILED; payload: Region; code. -/
def UPD_VERIFY_FAILED : Nat := 0x00C3
/-- UPD_CANCELLED; payload: Region; state. -/
def UPD_CANCELLED : Nat := 0x00C4
/-- UPD_ARMED; payload: Region; time. -/
def UPD_ARMED : Nat := 0x00C5
/-- UPD_POSTPONED; payload: Region; cause. -/
def UPD_POSTPONED : Nat := 0x00C6
/-- UPD_ACTIVATED; payload: Region. -/
def UPD_ACTIVATED : Nat := 0x00C7
/-- FW_CONFIRMED; payload: Slot; SVN; counter. -/
def FW_CONFIRMED : Nat := 0x00C8
/-- FW_REVERTED; payload: Slot abandoned. -/
def FW_REVERTED : Nat := 0x00C9
/-- OWNER_ENROLLED; payload: KEY_ID. -/
def OWNER_ENROLLED : Nat := 0x00D0
/-- OWNER_ROTATED; payload: New KEY_ID; slot. -/
def OWNER_ROTATED : Nat := 0x00D1
/-- DEBUG_UNLOCKED; payload: SCOPE. -/
def DEBUG_UNLOCKED : Nat := 0x00D2
/-- DEBUG_LOCKED; payload: —. -/
def DEBUG_LOCKED : Nat := 0x00D3
/-- TRNG_FAIL; payload: Test. -/
def TRNG_FAIL : Nat := 0x00D4
/-- AUTH_FAIL; payload: Source. -/
def AUTH_FAIL : Nat := 0x00D5
/-- MACSEC_CAK_SET; payload: Port; 0 = set; 1 = cleared. -/
def MACSEC_CAK_SET : Nat := 0x00D6
/-- TEMP_HIGH; payload: BASE of GLB_TEMP. -/
def TEMP_HIGH : Nat := 0x00E0
/-- TEMP_LIMIT; payload: BASE of GLB_TEMP. -/
def TEMP_LIMIT : Nat := 0x00E1
/-- VIO_LOST; payload: —. -/
def VIO_LOST : Nat := 0x00E2
/-- SELFTEST_FAIL; payload: Agent; test number. -/
def SELFTEST_FAIL : Nat := 0x00F0
/-- LOOPBACK_DONE; payload: TARGET; DEPTH; STATE; GOOD; SENT. -/
def LOOPBACK_DONE : Nat := 0x00F1
/-- ECC_INJECTED; payload: Array; word index; COUNT, or 4 for FOLD. -/
def ECC_INJECTED : Nat := 0x00F2
/-- PTEST_ENTERED; payload: —. -/
def PTEST_ENTERED : Nat := 0x00F3
/-- SCAN_MODE; payload: Instruction code of Table 20.3. -/
def SCAN_MODE : Nat := 0x00F4
/-- SAFE_HALT_ENTERED; payload: Cause code of SAF_STATUS. -/
def SAFE_HALT_ENTERED : Nat := 0x1001
/-- SAFE_HALT_LEFT; payload: —. -/
def SAFE_HALT_LEFT : Nat := 0x1002
/-- FUNCTION_TRIPPED; payload: Function; input number 0 to 47, or 0xFF when the logic byte tripped it. -/
def FUNCTION_TRIPPED : Nat := 0x1010
/-- FUNCTION_RESET; payload: Function; reset number. -/
def FUNCTION_RESET : Nat := 0x1011
/-- FUNCTION_FAULT; payload: Function; cause. -/
def FUNCTION_FAULT : Nat := 0x1012
/-- DISCREPANCY; payload: Input. -/
def DISCREPANCY : Nat := 0x1020
/-- DISCREPANCY_CLEARED; payload: Input. -/
def DISCREPANCY_CLEARED : Nat := 0x1021
/-- RESET_HELD; payload: Channel. -/
def RESET_HELD : Nat := 0x1030
/-- RESET_REFUSED; payload: Function. -/
def RESET_REFUSED : Nat := 0x1031
/-- WSIG_MISMATCH; payload: Segment; REASON of APC_WSIG_MM. -/
def WSIG_MISMATCH : Nat := 0x1040
/-- HEARTBEAT_FAIL; payload: Agent; expected count. -/
def HEARTBEAT_FAIL : Nat := 0x1050
/-- CLOCK_FAIL; payload: Oscillator. -/
def CLOCK_FAIL : Nat := 0x1051
/-- SUPPLY_FAIL; payload: Rail. -/
def SUPPLY_FAIL : Nat := 0x1052
/-- MONITOR_SELFTEST; payload: Test. -/
def MONITOR_SELFTEST : Nat := 0x1053
/-- CHECK_CONFIRMED; payload: Check value. -/
def CHECK_CONFIRMED : Nat := 0x1060
/-- CHECK_WINDOW_EXPIRED; payload: —. -/
def CHECK_WINDOW_EXPIRED : Nat := 0x1061
/-- PAIR_ROLE; payload: Old role; new role. -/
def PAIR_ROLE : Nat := 0x2000
/-- PAIR_TAKEOVER; payload: Cause; epoch age in stitches. -/
def PAIR_TAKEOVER : Nat := 0x2001
/-- PAIR_STALE; payload: Stale cause. -/
def PAIR_STALE : Nat := 0x2002
/-- PAIR_ISOLATED; payload: r; s. -/
def PAIR_ISOLATED : Nat := 0x2003
/-- PAIR_SYNCED; payload: Epoch. -/
def PAIR_SYNCED : Nat := 0x2004
/-- PAIR_EPOCH_DISCARDED; payload: Epoch; reason. -/
def PAIR_EPOCH_DISCARDED : Nat := 0x2005
/-- PAIR_EPOCH_SHORT; payload: Epoch; slot. -/
def PAIR_EPOCH_SHORT : Nat := 0x2006
/-- PAIR_HEALTH_LOST; payload: —. -/
def PAIR_HEALTH_LOST : Nat := 0x2007
/-- PAIR_MISMATCH; payload: Partner generation. -/
def PAIR_MISMATCH : Nat := 0x2008
/-- PAIR_DUAL_ACTIVE; payload: Own and partner ACTIVE_SINCE. -/
def PAIR_DUAL_ACTIVE : Nat := 0x2009
/-- PAIR_OWN_LINE; payload: —. -/
def PAIR_OWN_LINE : Nat := 0x200A
/-- PAIR_CLAIM; payload: Claim or command. -/
def PAIR_CLAIM : Nat := 0x200B
/-- PAIR_RELEASE; payload: Cause. -/
def PAIR_RELEASE : Nat := 0x200C
/-- PD_MISMATCH; payload: Set. -/
def PD_MISMATCH : Nat := 0x2100
/-- PD_STALE; payload: Set. -/
def PD_STALE : Nat := 0x2101
/-- PD_PATH_LOSS; payload: Set; port. -/
def PD_PATH_LOSS : Nat := 0x2102
/-- PD_CROSS; payload: Set; port. -/
def PD_CROSS : Nat := 0x2103
/-- TP_TIMEOUT; payload: Connection; role. -/
def TP_TIMEOUT : Nat := 0x2110
/-- TP_SEQ_ERROR; payload: Connection; expected SEQ; received SEQ. -/
def TP_SEQ_ERROR : Nat := 0x2111
/-- TP_CRC_LIMIT; payload: Connection. -/
def TP_CRC_LIMIT : Nat := 0x2112
/-- TP_PARAM; payload: Connection; received CONN_ID. -/
def TP_PARAM : Nat := 0x2113
/-- TP_RESTART; payload: Connection; SEQ. -/
def TP_RESTART : Nat := 0x2114
/-- TP_FAIL_SAFE; payload: Connection. -/
def TP_FAIL_SAFE : Nat := 0x2115
/-- CAN_ERR_PASSIVE; payload: Controller; TEC; REC. -/
def CAN_ERR_PASSIVE : Nat := 0x2200
/-- CAN_BUS_OFF; payload: Controller. -/
def CAN_BUS_OFF : Nat := 0x2201
/-- CAN_RECOVERED; payload: Controller. -/
def CAN_RECOVERED : Nat := 0x2202
/-- CAN_MB_OVERRUN; payload: Controller; mailbox. -/
def CAN_MB_OVERRUN : Nat := 0x2203
/-- CAN_RXQ_FULL; payload: Controller. -/
def CAN_RXQ_FULL : Nat := 0x2204
/-- CAN_TX_WITHDRAWN; payload: Controller; slot. -/
def CAN_TX_WITHDRAWN : Nat := 0x2205
/-- CAN_PROTOCOL_EXC; payload: Controller. -/
def CAN_PROTOCOL_EXC : Nat := 0x2206
/-- CAN_TDC_SAT; payload: Controller. -/
def CAN_TDC_SAT : Nat := 0x2207
/-- CAN_MB_STALE; payload: Controller; mailbox. -/
def CAN_MB_STALE : Nat := 0x2208
/-- ETH_LINK_DOWN; payload: Port. -/
def ETH_LINK_DOWN : Nat := 0x2300
/-- ETH_LINK_UP; payload: Port; speed. -/
def ETH_LINK_UP : Nat := 0x2301
/-- ETH_SPEED_FAULT; payload: Port. -/
def ETH_SPEED_FAULT : Nat := 0x2302
/-- ETH_MACSEC_SECURED; payload: Port. -/
def ETH_MACSEC_SECURED : Nat := 0x2303
/-- ETH_MACSEC_LOST; payload: Port. -/
def ETH_MACSEC_LOST : Nat := 0x2304
/-- ETH_SET_STALE; payload: Set. -/
def ETH_SET_STALE : Nat := 0x2305
/-- PTP_STEP_APPLIED; payload: Step ns. -/
def PTP_STEP_APPLIED : Nat := 0x2310
/-- PTP_STEP_REFUSED; payload: Step ns. -/
def PTP_STEP_REFUSED : Nat := 0x2311
/-- PTP_REBASE; payload: Old time; new time. -/
def PTP_REBASE : Nat := 0x2312
/-- PTP_LOCK; payload: Source port. -/
def PTP_LOCK : Nat := 0x2313
/-- PTP_UNLOCK; payload: Cause; last offset ns (R319). -/
def PTP_UNLOCK : Nat := 0x2314
/-- PTP_UNUSABLE; payload: —. -/
def PTP_UNUSABLE : Nat := 0x2315
/-- PTP_TRIG_POSTPONED; payload: Trigger. -/
def PTP_TRIG_POSTPONED : Nat := 0x2316
/-- PTP_INCR_REFUSED; payload: Value written. -/
def PTP_INCR_REFUSED : Nat := 0x2317

end Ev

/-- Codes of class A. -/
def classACodes : List Nat :=
  [0x008A, 0x1001, 0x1012, 0x1020, 0x1040, 0x1050, 0x1051, 0x1052, 0x1053]

/-- Codes of class B. -/
def classBCodes : List Nat :=
  [0x0002, 0x0031, 0x0040, 0x0042, 0x0043, 0x0050, 0x0054, 0x0060, 0x0061, 0x0062, 0x0071, 0x0072] ++
  [0x0081, 0x0083, 0x0084, 0x0085, 0x0086, 0x0087, 0x0089, 0x008B, 0x008C, 0x008D, 0x0090, 0x0091] ++
  [0x0092, 0x0093, 0x00A4, 0x00B4, 0x00B6, 0x00C3, 0x00C6, 0x00C9, 0x00D4, 0x00E1, 0x00E2, 0x00F0] ++
  [0x1030, 0x2001, 0x2002, 0x2003, 0x2006, 0x2007, 0x2008, 0x2009, 0x200A, 0x2100, 0x2101, 0x2103] ++
  [0x2110, 0x2111, 0x2112, 0x2113, 0x2201, 0x2207, 0x2208, 0x2300, 0x2302, 0x2304, 0x2305, 0x2311] ++
  [0x2314, 0x2315, 0x2316]

/-- The fault class of a code (R5): 1 = A, 2 = B, 3 = C, 0 = application code (R350). Where the table gives the
class by the case, this is the class of the plain case and the raiser gives the other. -/
def classOf (code : Nat) : Nat :=
  if 0x8000 ≤ code then 0 else
  if code ∈ classACodes then 1 else if code ∈ classBCodes then 2 else 3

end Sys2Proof.Machine
end

