-- ==== Sys2Proof/Machine/RegMap.lean ====
section
/-!
DEFINITION. The station register map of the S7: every register of the field tables of spec/, with the bits,
access type and reset value of each field (R8 to R12). A field that is reset from the Pattern or from the straps
reads 0 here until the load or the strap sampling writes it (R12). One register definition per heading of the
spec's register sections; one field constant per named field.
-/

namespace Sys2Proof.Machine

/-- Access types of Table 0.5 (R9). -/
inductive Acc where
  | ro | rw | rws | w1c | w1s | wo
  deriving DecidableEq, Repr

/-- A field inside a register: bits hi down to lo (Table conventions of 00_scope.md). -/
structure FieldDef where
  hi : Nat
  lo : Nat
  acc : Acc
  reset : Nat
  deriving DecidableEq, Repr

/-- A register, or an array of registers at base + i * s1 + j * s2 with i < n1 and j < n2. -/
structure RegDef where
  name : String
  base : Nat
  s1 : Nat
  n1 : Nat
  s2 : Nat
  n2 : Nat
  fields : List FieldDef
  deriving DecidableEq, Repr

/-- One field of one register, named by the absolute address of its register. -/
structure Fld where
  addr : Nat
  hi : Nat
  lo : Nat
  deriving DecidableEq, Repr


/-- Registers of block 0x0000_0000 (Table 1.7). -/
def regBlock00 : List RegDef := [
  ⟨"GLB_ACCERR", 0x00000040, 0x100000, 1, 4, 1, [⟨31, 28, .ro, 0⟩, ⟨15, 8, .ro, 0⟩, ⟨3, 3, .w1c, 0⟩, ⟨2, 2, .w1c, 0⟩, ⟨1, 1, .w1c, 0⟩, ⟨0, 0, .w1c, 0⟩]⟩,
  ⟨"GLB_START_CMD", 0x00000080, 0x100000, 1, 4, 1, [⟨2, 0, .wo, 0⟩]⟩,
  ⟨"GLB_START_RESULT", 0x00000084, 0x100000, 1, 4, 1, [⟨31, 31, .ro, 0⟩, ⟨30, 30, .w1c, 0⟩, ⟨26, 24, .ro, 0⟩, ⟨23, 16, .ro, 0⟩, ⟨0, 0, .ro, 0⟩]⟩,
  ⟨"GLB_FORCE_SYM", 0x000000C0, 0x100000, 1, 4, 1, [⟨31, 0, .rw, 0⟩]⟩,
  ⟨"GLB_FORCE_VAL_LO", 0x000000C4, 0x100000, 1, 4, 1, [⟨31, 0, .rw, 0⟩]⟩,
  ⟨"GLB_FORCE_VAL_HI", 0x000000C8, 0x100000, 1, 4, 1, [⟨31, 0, .rw, 0⟩]⟩,
  ⟨"GLB_FORCE_CMD", 0x000000CC, 0x100000, 1, 4, 1, [⟨1, 0, .wo, 0⟩]⟩,
  ⟨"GLB_FORCE_RESULT", 0x000000D0, 0x100000, 1, 4, 1, [⟨31, 31, .ro, 0⟩, ⟨30, 30, .w1c, 0⟩, ⟨23, 16, .ro, 0⟩, ⟨8, 0, .ro, 0⟩]⟩,
  ⟨"GLB_CMP_STATUS", 0x00000100, 0x100000, 1, 4, 1, [⟨31, 31, .ro, 0⟩, ⟨30, 30, .ro, 0⟩, ⟨22, 16, .ro, 0⟩, ⟨14, 8, .ro, 0⟩]⟩,
  ⟨"GLB_CMP_CMD", 0x00000104, 0x100000, 1, 4, 1, [⟨22, 16, .wo, 0⟩, ⟨2, 0, .wo, 0⟩]⟩,
  ⟨"GLB_CMP_INn", 0x00000140, 0x4, 16, 4, 1, [⟨31, 0, .rw, 0⟩]⟩,
  ⟨"GLB_CMP_OUTn", 0x00000180, 0x4, 16, 4, 1, [⟨31, 0, .rw, 0⟩]⟩,
  ⟨"GLB_TEMP", 0x00000200, 0x100000, 1, 4, 1, [⟨31, 31, .ro, 0⟩, ⟨30, 30, .ro, 0⟩, ⟨23, 16, .ro, 0⟩, ⟨15, 0, .ro, 0⟩]⟩]


/-- Registers of block 0x0001_0000 (Table 1.7). -/
def regBlock01 : List RegDef := [
  ⟨"SCH_CONFIG", 0x00010000, 0x100000, 1, 4, 1, [⟨28, 16, .ro, 0⟩, ⟨13, 8, .ro, 0⟩, ⟨2, 0, .ro, 0⟩]⟩,
  ⟨"SCH_CONTRACT", 0x00010004, 0x100000, 1, 4, 1, [⟨23, 16, .ro, 0⟩, ⟨15, 0, .ro, 8⟩]⟩,
  ⟨"SCH_STATUS", 0x00010008, 0x100000, 1, 4, 1, [⟨28, 16, .ro, 0⟩, ⟨4, 4, .w1c, 0⟩, ⟨3, 3, .w1c, 0⟩, ⟨2, 2, .ro, 0⟩, ⟨1, 1, .ro, 0⟩, ⟨0, 0, .ro, 0⟩]⟩,
  ⟨"SCH_STITCH_LO", 0x00010010, 0x100000, 1, 4, 1, [⟨31, 0, .ro, 0⟩]⟩,
  ⟨"SCH_STITCH_HI", 0x00010014, 0x100000, 1, 4, 1, [⟨31, 0, .ro, 0⟩]⟩,
  ⟨"SCH_EDGE_LO", 0x00010018, 0x100000, 1, 4, 1, [⟨31, 0, .ro, 0⟩]⟩,
  ⟨"SCH_EDGE_HI", 0x0001001C, 0x100000, 1, 4, 1, [⟨31, 0, .ro, 0⟩]⟩,
  ⟨"SCH_OVR_COUNT", 0x00010020, 0x100000, 1, 4, 1, [⟨31, 0, .ro, 0⟩]⟩,
  ⟨"SCH_OVR_FIRST", 0x00010024, 0x100000, 1, 4, 1, [⟨31, 31, .w1c, 0⟩, ⟨28, 24, .ro, 0⟩, ⟨21, 20, .ro, 0⟩, ⟨19, 16, .ro, 0⟩, ⟨15, 8, .ro, 0⟩, ⟨7, 0, .ro, 0⟩]⟩,
  ⟨"SCH_OVR_FIRST_AT", 0x00010028, 0x100000, 1, 4, 1, [⟨31, 16, .ro, 0⟩, ⟨12, 0, .ro, 0⟩]⟩,
  ⟨"SCH_AGENT_OVRn", 0x00010100, 0x4, 29, 4, 1, [⟨15, 0, .ro, 0⟩]⟩,
  ⟨"SCH_TASKn_STATUS", 0x00010200, 0x4, 32, 4, 1, [⟨31, 31, .ro, 0⟩, ⟨30, 30, .ro, 0⟩, ⟨29, 29, .ro, 0⟩, ⟨23, 20, .ro, 0⟩, ⟨15, 8, .ro, 0⟩, ⟨7, 0, .ro, 0⟩]⟩]


/-- Registers of block 0x0002_0000 (Table 1.7). -/
def regBlock02 : List RegDef := [
  ⟨"PAT_STATE", 0x00020000, 0x100000, 1, 4, 1, [⟨18, 18, .ro, 0⟩, ⟨17, 15, .ro, 0⟩, ⟨14, 12, .ro, 0⟩, ⟨9, 9, .ro, 0⟩, ⟨8, 8, .ro, 0⟩, ⟨5, 4, .ro, 0⟩, ⟨3, 2, .ro, 0⟩, ⟨1, 0, .ro, 0⟩]⟩,
  ⟨"PAT_CMD", 0x00020004, 0x100000, 1, 4, 1, [⟨3, 0, .wo, 0⟩]⟩,
  ⟨"PAT_RESULT", 0x00020008, 0x100000, 1, 4, 1, [⟨31, 31, .ro, 0⟩, ⟨30, 30, .w1c, 0⟩, ⟨27, 24, .ro, 0⟩, ⟨23, 16, .ro, 0⟩, ⟨15, 0, .ro, 0⟩]⟩,
  ⟨"PAT_GEN", 0x0002000C, 0x100000, 1, 4, 1, [⟨31, 0, .ro, 0⟩]⟩,
  ⟨"PAT_ID_LO", 0x00020010, 0x100000, 1, 4, 1, [⟨31, 0, .ro, 0⟩]⟩,
  ⟨"PAT_ID_HI", 0x00020014, 0x100000, 1, 4, 1, [⟨31, 0, .ro, 0⟩]⟩,
  ⟨"PAT_CHECK", 0x00020018, 0x100000, 1, 4, 1, [⟨31, 0, .ro, 0⟩]⟩,
  ⟨"PAT_OLC_AT_LO", 0x0002001C, 0x100000, 1, 4, 1, [⟨31, 0, .rw, 0⟩]⟩,
  ⟨"PAT_OLC_AT_HI", 0x00020020, 0x100000, 1, 4, 1, [⟨31, 0, .rw, 0⟩]⟩,
  ⟨"PAT_DIGESTn", 0x00020040, 0x4, 12, 4, 1, [⟨31, 0, .ro, 0⟩]⟩]


/-- Registers of block 0x0003_0000 (Table 1.7). -/
def regBlock03 : List RegDef := [
  ⟨"APC_STATUS", 0x00030000, 0x100000, 1, 4, 1, [⟨23, 16, .ro, 0⟩, ⟨15, 8, .ro, 0⟩, ⟨7, 0, .ro, 0⟩]⟩,
  ⟨"APC_COREn_FAULT", 0x00030100, 0x20, 8, 4, 1, [⟨31, 31, .w1c, 0⟩, ⟨27, 24, .ro, 0⟩, ⟨19, 16, .ro, 0⟩, ⟨15, 0, .ro, 0⟩]⟩,
  ⟨"APC_COREn_FPC", 0x00030104, 0x20, 8, 4, 1, [⟨31, 0, .ro, 0⟩]⟩,
  ⟨"APC_COREn_FADDR", 0x00030108, 0x20, 8, 4, 1, [⟨31, 0, .ro, 0⟩]⟩,
  ⟨"APC_COREn_EXC", 0x0003010C, 0x20, 8, 4, 1, [⟨15, 0, .ro, 0⟩]⟩,
  ⟨"APC_WSIG_MM", 0x00030400, 0x100000, 1, 4, 1, [⟨31, 31, .w1c, 0⟩, ⟨25, 24, .ro, 0⟩, ⟨11, 0, .ro, 0⟩]⟩,
  ⟨"APC_WSIG_SIGA", 0x00030404, 0x100000, 1, 4, 1, [⟨31, 0, .ro, 0⟩]⟩,
  ⟨"APC_WSIG_CNTA", 0x00030408, 0x100000, 1, 4, 1, [⟨31, 0, .ro, 0⟩]⟩,
  ⟨"APC_WSIG_SIGB", 0x0003040C, 0x100000, 1, 4, 1, [⟨31, 0, .ro, 0⟩]⟩,
  ⟨"APC_WSIG_CNTB", 0x00030410, 0x100000, 1, 4, 1, [⟨31, 0, .ro, 0⟩]⟩,
  ⟨"APC_WSIG_PASS", 0x00030414, 0x100000, 1, 4, 1, [⟨31, 0, .ro, 0⟩]⟩,
  ⟨"APC_ECC_ARRAYk", 0x00030800, 0x4, 46, 4, 1, [⟨31, 24, .ro, 0⟩, ⟨23, 16, .ro, 0⟩, ⟨15, 0, .ro, 0⟩]⟩,
  ⟨"APC_ECC_UE", 0x00030900, 0x100000, 1, 4, 1, [⟨31, 31, .w1c, 0⟩, ⟨25, 24, .ro, 0⟩, ⟨21, 16, .ro, 0⟩, ⟨15, 0, .ro, 0⟩]⟩,
  ⟨"APC_ECC_UE_ADDR", 0x00030904, 0x100000, 1, 4, 1, [⟨31, 0, .ro, 0⟩]⟩]


/-- Registers of block 0x0004_0000 (Table 1.7). -/
def regBlock04 : List RegDef := [
  ⟨"LPE_STATUS", 0x00040000, 0x100000, 1, 4, 1, [⟨16, 16, .ro, 0⟩, ⟨7, 0, .ro, 0⟩]⟩,
  ⟨"LPE_CH_CMD", 0x00040010, 0x100000, 1, 4, 1, [⟨10, 8, .wo, 0⟩, ⟨7, 0, .wo, 0⟩]⟩,
  ⟨"LPE_CH_RESULT", 0x00040014, 0x100000, 1, 4, 1, [⟨15, 8, .ro, 0⟩, ⟨7, 0, .ro, 0⟩]⟩,
  ⟨"LPE_WIN_CH", 0x00040018, 0x100000, 1, 4, 1, [⟨7, 0, .rw, 0⟩]⟩,
  ⟨"LPE_CONDk", 0x00040020, 0x4, 8, 4, 1, [⟨31, 0, .rw, 0xFFFFFFFF⟩]⟩,
  ⟨"LPE_LANEn_STATUS", 0x00040100, 0x4, 8, 4, 1, [⟨15, 0, .ro, 0⟩]⟩,
  ⟨"LPE_CHn_STATUS", 0x00040400, 0x4, 256, 4, 1, [⟨31, 30, .ro, 0⟩, ⟨29, 28, .ro, 0⟩, ⟨27, 26, .ro, 0⟩, ⟨25, 25, .ro, 0⟩, ⟨24, 24, .ro, 0⟩, ⟨23, 23, .w1c, 0⟩, ⟨22, 22, .w1c, 0⟩, ⟨21, 21, .w1c, 0⟩, ⟨20, 20, .ro, 0⟩, ⟨19, 19, .ro, 0⟩, ⟨18, 18, .ro, 0⟩, ⟨17, 17, .w1c, 0⟩, ⟨16, 16, .ro, 0⟩, ⟨15, 0, .ro, 0⟩]⟩,
  ⟨"LPE_BOB_CTRL", 0x00041000, 0x100000, 1, 4, 1, [⟨31, 16, .rw, 1⟩, ⟨4, 4, .rw, 0⟩, ⟨2, 0, .wo, 0⟩]⟩,
  ⟨"LPE_BOB_GEN", 0x00041004, 0x100000, 1, 4, 1, [⟨23, 8, .rw, 1⟩, ⟨5, 4, .rw, 0⟩, ⟨1, 0, .rw, 0⟩]⟩,
  ⟨"LPE_BOB_AMP", 0x00041008, 0x100000, 1, 4, 1, [⟨31, 0, .rw, 0⟩]⟩,
  ⟨"LPE_BOB_F0", 0x0004100C, 0x100000, 1, 4, 1, [⟨31, 0, .rw, 0⟩]⟩,
  ⟨"LPE_BOB_DF", 0x00041010, 0x100000, 1, 4, 1, [⟨31, 0, .rw, 0⟩]⟩,
  ⟨"LPE_BOB_LEN", 0x00041014, 0x100000, 1, 4, 1, [⟨31, 0, .rw, 0⟩]⟩,
  ⟨"LPE_BOB_AT_LO", 0x00041018, 0x100000, 1, 4, 1, [⟨31, 0, .rw, 0⟩]⟩,
  ⟨"LPE_BOB_AT_HI", 0x0004101C, 0x100000, 1, 4, 1, [⟨31, 0, .rw, 0⟩]⟩,
  ⟨"LPE_BOB_STATUS", 0x00041020, 0x100000, 1, 4, 1, [⟨16, 16, .ro, 0⟩, ⟨15, 8, .ro, 0⟩, ⟨2, 0, .ro, 0⟩]⟩,
  ⟨"LPE_BOB_PAGE", 0x00041024, 0x100000, 1, 4, 1, [⟨5, 0, .rw, 0⟩]⟩,
  ⟨"LPE_BOB_SETj", 0x00041100, 0x4, 16, 4, 1, [⟨31, 31, .rw, 0⟩, ⟨8, 8, .rw, 0⟩, ⟨7, 0, .rw, 0⟩]⟩,
  ⟨"LPE_BOB_WRj", 0x00041140, 0x4, 16, 4, 1, [⟨31, 31, .ro, 0⟩, ⟨15, 0, .ro, 0⟩]⟩]


/-- Registers of block 0x0005_0000 (Table 1.7). -/
def regBlock05 : List RegDef := [
  ⟨"QPS_STATUS", 0x00050000, 0x100000, 1, 4, 1, [⟨31, 31, .ro, 0⟩, ⟨30, 28, .ro, 0⟩, ⟨15, 8, .ro, 0⟩, ⟨7, 0, .ro, 0⟩]⟩,
  ⟨"QPS_CTX_CMD", 0x00050010, 0x100000, 1, 4, 1, [⟨10, 8, .wo, 0⟩, ⟨2, 0, .wo, 0⟩]⟩,
  ⟨"QPS_CTX_RESULT", 0x00050014, 0x100000, 1, 4, 1, [⟨15, 8, .ro, 0⟩, ⟨2, 0, .ro, 0⟩]⟩,
  ⟨"QPS_WIN_SEL", 0x00050018, 0x100000, 1, 4, 1, [⟨19, 16, .rw, 0⟩, ⟨2, 0, .rw, 0⟩]⟩,
  ⟨"QPS_CTXn_STATE", 0x00050100, 0x20, 8, 4, 1, [⟨31, 29, .ro, 0⟩, ⟨28, 28, .ro, 0⟩, ⟨23, 16, .ro, 0⟩, ⟨15, 8, .ro, 0⟩]⟩,
  ⟨"QPS_MISSn", 0x00050104, 0x20, 8, 4, 1, [⟨31, 24, .ro, 0⟩, ⟨23, 16, .ro, 0⟩, ⟨15, 0, .ro, 0⟩]⟩,
  ⟨"QPS_CTXn_SEQ", 0x00050108, 0x20, 8, 4, 1, [⟨31, 0, .ro, 0⟩]⟩,
  ⟨"QPS_CTXn_CYC", 0x0005010C, 0x20, 8, 4, 1, [⟨31, 0, .ro, 0⟩]⟩,
  ⟨"QPS_CTXn_PASS", 0x00050110, 0x20, 8, 4, 1, [⟨23, 16, .ro, 0⟩, ⟨12, 0, .ro, 0⟩]⟩]


/-- Registers of block 0x0006_0000 (Table 1.7). -/
def regBlock06 : List RegDef := [
  ⟨"DIO_FSk_STATUS", 0x00060000, 0x4, 2, 4, 1, [⟨31, 31, .ro, 0⟩, ⟨30, 30, .ro, 0⟩, ⟨29, 29, .ro, 0⟩, ⟨28, 28, .w1c, 0⟩, ⟨15, 0, .ro, 0⟩]⟩,
  ⟨"DIO_GRPg_STATUS", 0x00060010, 0x4, 6, 4, 1, [⟨31, 31, .ro, 1⟩, ⟨30, 30, .w1c, 0⟩, ⟨29, 29, .w1c, 0⟩, ⟨28, 28, .w1c, 0⟩, ⟨15, 0, .ro, 0⟩]⟩,
  ⟨"DIO_TP_CYCLES", 0x00060030, 0x100000, 1, 4, 1, [⟨31, 0, .ro, 0⟩]⟩,
  ⟨"DIO_CHn_STATUS", 0x00060100, 0x4, 48, 4, 1, [⟨31, 30, .ro, 0⟩, ⟨29, 27, .ro, 0⟩, ⟨26, 26, .ro, 0⟩, ⟨25, 25, .ro, 0⟩, ⟨24, 24, .ro, 0⟩, ⟨8, 8, .w1c, 0⟩, ⟨7, 7, .w1c, 0⟩, ⟨6, 6, .w1c, 0⟩, ⟨5, 5, .w1c, 0⟩, ⟨4, 4, .w1c, 0⟩, ⟨3, 3, .w1c, 0⟩, ⟨2, 2, .w1c, 0⟩, ⟨1, 1, .w1c, 0⟩, ⟨0, 0, .w1c, 0⟩]⟩,
  ⟨"DIO_CHn_MEAS", 0x00060200, 0x4, 48, 4, 1, [⟨31, 16, .ro, 0⟩, ⟨15, 0, .ro, 0⟩]⟩]


/-- Registers of block 0x0007_0000 (Table 1.7). -/
def regBlock07 : List RegDef := [
  ⟨"CLO_CHn_STATUS", 0x00070000, 0x10, 8, 4, 1, [⟨31, 30, .ro, 0⟩, ⟨29, 29, .ro, 1⟩, ⟨28, 28, .ro, 0⟩, ⟨27, 27, .ro, 0⟩, ⟨26, 26, .ro, 0⟩, ⟨25, 25, .ro, 0⟩, ⟨24, 24, .ro, 0⟩, ⟨7, 7, .w1c, 0⟩, ⟨6, 6, .w1c, 0⟩, ⟨5, 5, .w1c, 0⟩, ⟨4, 4, .w1c, 0⟩, ⟨3, 3, .w1c, 0⟩]⟩,
  ⟨"CLO_CHn_SET", 0x00070004, 0x10, 8, 4, 1, [⟨31, 0, .ro, 0⟩]⟩,
  ⟨"CLO_CHn_READ", 0x00070008, 0x10, 8, 4, 1, [⟨31, 0, .ro, 0⟩]⟩,
  ⟨"CLO_CHn_SUPPLY", 0x0007000C, 0x10, 8, 4, 1, [⟨31, 24, .ro, 0⟩, ⟨15, 0, .ro, 0⟩]⟩]


/-- Registers of block 0x0008_0000 (Table 1.7). -/
def regBlock08 : List RegDef := [
  ⟨"SAF_STATUS", 0x00080000, 0x100000, 1, 4, 1, [⟨31, 31, .ro, 0⟩, ⟨30, 30, .ro, 0⟩, ⟨29, 29, .ro, 0⟩, ⟨28, 28, .ro, 0⟩, ⟨21, 16, .ro, 0⟩, ⟨15, 8, .ro, 0⟩, ⟨7, 0, .ro, 0⟩]⟩,
  ⟨"SAF_CMD", 0x00080010, 0x100000, 1, 4, 1, [⟨1, 0, .wo, 0⟩]⟩,
  ⟨"SAF_CONFIRM_VAL", 0x00080014, 0x100000, 1, 4, 1, [⟨31, 0, .rw, 0⟩]⟩,
  ⟨"SAF_RESULT", 0x00080018, 0x100000, 1, 4, 1, [⟨31, 31, .w1c, 0⟩, ⟨25, 24, .ro, 0⟩, ⟨23, 16, .ro, 0⟩]⟩,
  ⟨"SAF_HB_FAIL", 0x00080020, 0x100000, 1, 4, 1, [⟨16, 0, .w1c, 0⟩]⟩,
  ⟨"SAF_CLK", 0x00080024, 0x100000, 1, 4, 1, [⟨2, 2, .ro, 0⟩, ⟨1, 1, .ro, 0⟩, ⟨0, 0, .ro, 0⟩]⟩,
  ⟨"SAF_FNn_STATUS", 0x00080100, 0x4, 64, 4, 1, [⟨31, 30, .ro, 0⟩, ⟨29, 24, .ro, 0⟩, ⟨15, 8, .ro, 0⟩, ⟨7, 0, .ro, 0⟩]⟩,
  ⟨"SAF_INn_STATUS", 0x00080200, 0x4, 48, 4, 1, [⟨31, 31, .ro, 0⟩, ⟨30, 30, .ro, 0⟩, ⟨29, 28, .ro, 0⟩, ⟨23, 0, .ro, 0⟩]⟩,
  ⟨"SAF_RSTn_STATUS", 0x00080300, 0x4, 17, 4, 1, [⟨31, 31, .ro, 0⟩, ⟨30, 30, .w1c, 0⟩, ⟨15, 8, .ro, 0⟩, ⟨7, 0, .ro, 0⟩]⟩]


/-- Registers of block 0x0009_0000 (Table 1.7). -/
def regBlock09 : List RegDef := [
  ⟨"SCM_STATUS", 0x00090000, 0x100000, 1, 4, 1, [⟨21, 16, .ro, 0⟩, ⟨10, 0, .ro, 0⟩]⟩,
  ⟨"SCM_TP_RUN", 0x00090004, 0x100000, 1, 4, 1, [⟨31, 0, .ro, 0⟩]⟩,
  ⟨"SCM_PDn_STATUS", 0x00091000, 0x4, 1024, 4, 1, [⟨31, 31, .ro, 0⟩, ⟨30, 30, .ro, 0⟩, ⟨29, 29, .ro, 0⟩, ⟨28, 28, .ro, 0⟩, ⟨27, 26, .ro, 0⟩, ⟨25, 25, .ro, 0⟩, ⟨11, 0, .ro, 0⟩]⟩,
  ⟨"SCM_PDn_CNT", 0x00092000, 0x4, 1024, 4, 1, [⟨31, 24, .ro, 0⟩, ⟨23, 16, .ro, 0⟩, ⟨15, 8, .ro, 0⟩, ⟨7, 0, .ro, 0⟩]⟩,
  ⟨"SCM_PDn_SEQ", 0x00093000, 0x4, 1024, 4, 1, [⟨31, 0, .ro, 0⟩]⟩,
  ⟨"SCM_TPc_STATUS", 0x00094000, 0x10, 32, 4, 1, [⟨31, 31, .ro, 0⟩, ⟨30, 30, .ro, 0⟩, ⟨29, 28, .ro, 0⟩, ⟨27, 27, .ro, 0⟩, ⟨26, 24, .ro, 0⟩, ⟨23, 16, .ro, 0⟩, ⟨15, 0, .ro, 0⟩]⟩,
  ⟨"SCM_TPc_SEQ", 0x00094004, 0x10, 32, 4, 1, [⟨31, 0, .ro, 0⟩]⟩,
  ⟨"SCM_TPc_ERR", 0x00094008, 0x10, 32, 4, 1, [⟨31, 16, .ro, 0⟩, ⟨15, 8, .ro, 0⟩, ⟨7, 0, .ro, 0⟩]⟩]


/-- Registers of block 0x000A_0000 (Table 1.7). -/
def regBlock0A : List RegDef := [
  ⟨"PAIR_STATUS", 0x000A0000, 0x100000, 1, 4, 1, [⟨31, 29, .ro, 0⟩, ⟨28, 28, .ro, 0⟩, ⟨27, 27, .ro, 0⟩, ⟨26, 26, .ro, 0⟩, ⟨19, 16, .ro, 0⟩]⟩,
  ⟨"PAIR_PATHS", 0x000A0004, 0x100000, 1, 4, 1, [⟨31, 31, .ro, 0⟩, ⟨30, 30, .ro, 1⟩, ⟨29, 29, .ro, 0⟩, ⟨28, 27, .ro, 0⟩, ⟨26, 26, .ro, 0⟩, ⟨25, 24, .ro, 0⟩, ⟨15, 0, .ro, 0⟩]⟩,
  ⟨"PAIR_PARTNER", 0x000A0008, 0x100000, 1, 4, 1, [⟨31, 29, .ro, 0⟩, ⟨28, 26, .ro, 0⟩, ⟨25, 22, .ro, 0⟩, ⟨15, 0, .ro, 0xFFFF⟩]⟩,
  ⟨"PAIR_EPOCH_LO", 0x000A0010, 0x100000, 1, 4, 1, [⟨31, 0, .ro, 0⟩]⟩,
  ⟨"PAIR_EPOCH_HI", 0x000A0014, 0x100000, 1, 4, 1, [⟨31, 0, .ro, 0⟩]⟩,
  ⟨"PAIR_EPOCH_STAT", 0x000A0018, 0x100000, 1, 4, 1, [⟨31, 24, .ro, 0⟩, ⟨23, 16, .ro, 0⟩, ⟨15, 8, .ro, 0⟩, ⟨7, 0, .ro, 0⟩]⟩,
  ⟨"PAIR_HEALTH", 0x000A001C, 0x100000, 1, 4, 1, [⟨31, 31, .ro, 0⟩, ⟨30, 30, .w1c, 0⟩, ⟨23, 16, .ro, 0⟩, ⟨15, 0, .ro, 0⟩]⟩,
  ⟨"PAIR_WITNESS", 0x000A0020, 0x100000, 1, 4, 1, [⟨31, 31, .ro, 0⟩, ⟨27, 24, .ro, 0⟩, ⟨23, 20, .ro, 0⟩, ⟨15, 8, .ro, 0⟩]⟩,
  ⟨"PAIR_TAKEOVER", 0x000A0024, 0x100000, 1, 4, 1, [⟨31, 28, .ro, 0⟩, ⟨23, 0, .ro, 0⟩]⟩,
  ⟨"PAIR_CMD", 0x000A0030, 0x100000, 1, 4, 1, [⟨1, 0, .wo, 0⟩]⟩,
  ⟨"PAIR_RESULT", 0x000A0034, 0x100000, 1, 4, 1, [⟨31, 31, .w1c, 0⟩, ⟨25, 24, .ro, 0⟩, ⟨23, 16, .ro, 0⟩]⟩]


/-- Registers of block 0x000B_0000 (Table 1.7). -/
def regBlock0B : List RegDef := [
  ⟨"CANn_STATUS", 0x000B0000, 0x1000, 8, 4, 1, [⟨31, 30, .ro, 0⟩, ⟨29, 28, .ro, 0⟩, ⟨27, 27, .ro, 0⟩, ⟨26, 26, .ro, 0⟩, ⟨25, 25, .w1c, 0⟩, ⟨23, 16, .ro, 0⟩, ⟨15, 8, .ro, 0⟩]⟩,
  ⟨"CANn_CTRL", 0x000B0004, 0x1000, 8, 4, 1, [⟨5, 4, .rws, 0⟩, ⟨1, 0, .rws, 0⟩]⟩,
  ⟨"CANn_CMD", 0x000B0008, 0x1000, 8, 4, 1, [⟨1, 0, .wo, 0⟩]⟩,
  ⟨"CANn_ERR", 0x000B000C, 0x1000, 8, 4, 1, [⟨31, 24, .ro, 0⟩, ⟨23, 16, .ro, 0⟩, ⟨15, 8, .ro, 0⟩, ⟨3, 3, .ro, 0⟩, ⟨2, 0, .ro, 0⟩]⟩,
  ⟨"CANn_TDC", 0x000B0010, 0x1000, 8, 4, 1, [⟨23, 16, .ro, 0⟩, ⟨6, 0, .ro, 0⟩]⟩,
  ⟨"CANn_TX_OK", 0x000B0014, 0x1000, 8, 4, 1, [⟨31, 0, .ro, 0⟩]⟩,
  ⟨"CANn_RX_OK", 0x000B0018, 0x1000, 8, 4, 1, [⟨31, 0, .ro, 0⟩]⟩,
  ⟨"CANn_TX_STAT", 0x000B001C, 0x1000, 8, 4, 1, [⟨31, 24, .ro, 0⟩, ⟨23, 16, .ro, 0⟩, ⟨15, 8, .ro, 0⟩, ⟨7, 0, .ro, 0⟩]⟩,
  ⟨"CANn_RX_STAT", 0x000B0020, 0x1000, 8, 4, 1, [⟨31, 24, .ro, 0⟩, ⟨23, 16, .ro, 0⟩, ⟨15, 8, .ro, 0⟩]⟩,
  ⟨"CANn_MB_LOCK", 0x000B0040, 0x1000, 8, 4, 1, [⟨31, 31, .rw, 0⟩, ⟨5, 0, .rw, 0⟩]⟩,
  ⟨"CANn_MBm_STATUS", 0x000B0100, 0x1000, 8, 4, 64, [⟨31, 31, .ro, 0⟩, ⟨30, 30, .ro, 0⟩, ⟨29, 29, .ro, 0⟩, ⟨28, 28, .w1c, 0⟩, ⟨27, 27, .ro, 0⟩, ⟨15, 8, .ro, 0⟩]⟩]


/-- Registers of block 0x000C_0000 (Table 1.7). -/
def regBlock0C : List RegDef := [
  ⟨"ETH_Pp_STATUS", 0x000C0000, 0x100, 3, 4, 1, [⟨31, 31, .ro, 0⟩, ⟨30, 29, .ro, 0⟩, ⟨28, 28, .ro, 0⟩, ⟨27, 27, .ro, 0⟩, ⟨26, 26, .ro, 0⟩, ⟨15, 0, .ro, 0⟩]⟩,
  ⟨"ETH_Pp_CTRL", 0x000C0004, 0x100, 3, 4, 1, [⟨1, 0, .rws, 0⟩]⟩,
  ⟨"ETH_Pp_RX_OK", 0x000C0008, 0x100, 3, 4, 1, [⟨31, 0, .ro, 0⟩]⟩,
  ⟨"ETH_Pp_TX_OK", 0x000C000C, 0x100, 3, 4, 1, [⟨31, 0, .ro, 0⟩]⟩,
  ⟨"ETH_Pp_DROP", 0x000C0010, 0x100, 3, 4, 1, [⟨31, 24, .ro, 0⟩, ⟨23, 16, .ro, 0⟩, ⟨15, 8, .ro, 0⟩, ⟨7, 0, .ro, 0⟩]⟩,
  ⟨"ETH_Pp_ERR", 0x000C0014, 0x100, 3, 4, 1, [⟨31, 24, .ro, 0⟩, ⟨23, 16, .ro, 0⟩, ⟨15, 8, .ro, 0⟩, ⟨7, 0, .ro, 0⟩]⟩,
  ⟨"PTP_TIME_LO", 0x000C8000, 0x100000, 1, 4, 1, [⟨31, 0, .ro, 0⟩]⟩,
  ⟨"PTP_TIME_HI", 0x000C8004, 0x100000, 1, 4, 1, [⟨31, 0, .ro, 0⟩]⟩,
  ⟨"PTP_TIME_FRAC", 0x000C8008, 0x100000, 1, 4, 1, [⟨31, 0, .ro, 0⟩]⟩,
  ⟨"PTP_INCR_LO", 0x000C8010, 0x100000, 1, 4, 1, [⟨31, 0, .rw, 0⟩]⟩,
  ⟨"PTP_INCR_HI", 0x000C8014, 0x100000, 1, 4, 1, [⟨3, 0, .rw, 5⟩]⟩,
  ⟨"PTP_STEP_LIMIT", 0x000C8018, 0x100000, 1, 4, 1, [⟨31, 0, .rw, 0x3E8⟩]⟩,
  ⟨"PTP_STEP", 0x000C801C, 0x100000, 1, 4, 1, [⟨31, 0, .rw, 0⟩]⟩,
  ⟨"PTP_REBASE_LO", 0x000C8020, 0x100000, 1, 4, 1, [⟨31, 0, .rw, 0⟩]⟩,
  ⟨"PTP_REBASE_HI", 0x000C8024, 0x100000, 1, 4, 1, [⟨31, 0, .rw, 0⟩]⟩,
  ⟨"PTP_CMD", 0x000C8028, 0x100000, 1, 4, 1, [⟨1, 0, .wo, 0⟩]⟩,
  ⟨"PTP_STATUS", 0x000C802C, 0x100000, 1, 4, 1, [⟨31, 31, .ro, 0⟩, ⟨30, 30, .ro, 1⟩, ⟨29, 29, .ro, 1⟩, ⟨28, 28, .ro, 0⟩, ⟨27, 27, .w1c, 0⟩, ⟨26, 26, .w1c, 0⟩, ⟨25, 24, .ro, 0⟩, ⟨23, 16, .ro, 0⟩]⟩,
  ⟨"PTP_PORTp_STATE", 0x000C8040, 0x4, 2, 4, 1, [⟨31, 28, .ro, 0⟩, ⟨27, 16, .ro, 0⟩, ⟨15, 0, .ro, 0⟩]⟩,
  ⟨"PTP_TRIGk_LO", 0x000C8100, 0x10, 4, 4, 1, [⟨31, 0, .rw, 0⟩]⟩,
  ⟨"PTP_TRIGk_HI", 0x000C8104, 0x10, 4, 4, 1, [⟨31, 0, .rw, 0⟩]⟩,
  ⟨"PTP_TRIGk_CTRL", 0x000C8108, 0x10, 4, 4, 1, [⟨31, 31, .rw, 0⟩, ⟨30, 30, .rw, 1⟩, ⟨29, 29, .w1c, 0⟩, ⟨28, 28, .w1c, 0⟩]⟩,
  ⟨"PTP_CAPc_LO", 0x000C8200, 0x10, 16, 4, 1, [⟨31, 0, .ro, 0⟩]⟩,
  ⟨"PTP_CAPc_HI", 0x000C8204, 0x10, 16, 4, 1, [⟨31, 0, .ro, 0⟩]⟩,
  ⟨"PTP_CAPc_STATUS", 0x000C8208, 0x10, 16, 4, 1, [⟨31, 30, .rw, 0⟩, ⟨18, 16, .ro, 0⟩, ⟨15, 0, .ro, 0⟩]⟩]


/-- Registers of block 0x000D_0000 (Table 1.7). -/
def regBlock0D : List RegDef := [
  ⟨"EVR_STATUS", 0x000D0000, 0x100000, 1, 4, 1, [⟨31, 31, .ro, 0⟩, ⟨30, 30, .ro, 0⟩, ⟨23, 16, .ro, 0⟩, ⟨15, 0, .ro, 0⟩]⟩,
  ⟨"EVR_NEXT_LO", 0x000D0004, 0x100000, 1, 4, 1, [⟨31, 0, .ro, 0⟩]⟩,
  ⟨"EVR_NEXT_HI", 0x000D0008, 0x100000, 1, 4, 1, [⟨31, 0, .ro, 0⟩]⟩,
  ⟨"EVR_WIN_SLOT", 0x000D0010, 0x100000, 1, 4, 1, [⟨14, 0, .rw, 0⟩]⟩,
  ⟨"EVR_CMD", 0x000D0014, 0x100000, 1, 4, 1, [⟨1, 0, .wo, 0⟩]⟩,
  ⟨"EVR_CODE_SEL", 0x000D0018, 0x100000, 1, 4, 1, [⟨15, 0, .rw, 0⟩]⟩,
  ⟨"EVR_CODE_STAT", 0x000D001C, 0x100000, 1, 4, 1, [⟨31, 31, .ro, 0⟩, ⟨30, 30, .ro, 0⟩, ⟨23, 16, .ro, 0⟩, ⟨15, 0, .ro, 0⟩]⟩]


/-- Registers of block 0x000E_0000 (Table 1.7). -/
def regBlock0E : List RegDef := [
  ⟨"PNL_STATUS", 0x000E0000, 0x100000, 1, 4, 1, [⟨31, 29, .ro, 0⟩, ⟨28, 28, .ro, 0⟩, ⟨27, 27, .w1c, 0⟩, ⟨26, 26, .ro, 0⟩, ⟨25, 25, .ro, 0⟩, ⟨24, 24, .ro, 0⟩, ⟨15, 8, .ro, 0⟩, ⟨7, 0, .ro, 0⟩]⟩,
  ⟨"PNL_TEMP", 0x000E0004, 0x100000, 1, 4, 1, [⟨19, 16, .ro, 0⟩, ⟨15, 0, .ro, 0⟩]⟩,
  ⟨"PNL_VCOM", 0x000E0008, 0x100000, 1, 4, 1, [⟨8, 0, .rw, 0⟩]⟩,
  ⟨"PNL_CMD", 0x000E000C, 0x100000, 1, 4, 1, [⟨1, 0, .wo, 0⟩]⟩,
  ⟨"PNL_RESULT", 0x000E0010, 0x100000, 1, 4, 1, [⟨31, 31, .w1c, 0⟩, ⟨25, 24, .ro, 0⟩, ⟨23, 16, .ro, 0⟩]⟩,
  ⟨"PNL_JOURNAL_LO", 0x000E0014, 0x100000, 1, 4, 1, [⟨31, 0, .ro, 0⟩]⟩,
  ⟨"PNL_JOURNAL_HI", 0x000E0018, 0x100000, 1, 4, 1, [⟨31, 0, .ro, 0⟩]⟩,
  ⟨"PNL_COUNT", 0x000E001C, 0x100000, 1, 4, 1, [⟨31, 16, .ro, 0⟩, ⟨15, 8, .ro, 0⟩, ⟨7, 0, .ro, 0⟩]⟩]


/-- Registers of block 0x000F_0000 (Table 1.7). -/
def regBlock0F : List RegDef := [
  ⟨"PWR_STATUS", 0x000F0000, 0x100000, 1, 4, 1, [⟨31, 29, .ro, 0⟩, ⟨28, 28, .ro, 0⟩, ⟨27, 27, .ro, 0⟩, ⟨15, 0, .ro, 0⟩]⟩,
  ⟨"PWR_DOMAINS", 0x000F0004, 0x100000, 1, 4, 1, [⟨18, 0, .ro, 0x40000⟩]⟩,
  ⟨"PWR_VOTES", 0x000F0008, 0x100000, 1, 4, 1, [⟨17, 0, .ro, 0⟩]⟩,
  ⟨"PWR_STATIC", 0x000F000C, 0x100000, 1, 4, 1, [⟨31, 0, .ro, 0⟩]⟩,
  ⟨"PWR_CMD", 0x000F0010, 0x100000, 1, 4, 1, [⟨1, 0, .wo, 0⟩]⟩,
  ⟨"PWR_RESULT", 0x000F0014, 0x100000, 1, 4, 1, [⟨31, 31, .w1c, 0⟩, ⟨25, 24, .ro, 0⟩, ⟨23, 16, .ro, 0⟩, ⟨2, 0, .ro, 0⟩]⟩,
  ⟨"PWR_WAKE", 0x000F0018, 0x100000, 1, 4, 1, [⟨31, 31, .ro, 0⟩, ⟨30, 30, .w1c, 0⟩, ⟨29, 29, .ro, 0⟩, ⟨5, 0, .ro, 0⟩]⟩,
  ⟨"PWR_SLEEP_LEDGER_LO", 0x000F0020, 0x100000, 1, 4, 1, [⟨31, 0, .ro, 0⟩]⟩,
  ⟨"PWR_SLEEP_LEDGER_HI", 0x000F0024, 0x100000, 1, 4, 1, [⟨31, 0, .ro, 0⟩]⟩,
  ⟨"PWR_SAMPLER", 0x000F0028, 0x100000, 1, 4, 1, [⟨31, 16, .ro, 0⟩, ⟨15, 8, .ro, 0⟩, ⟨2, 0, .ro, 0⟩]⟩,
  ⟨"PWR_VOTE_Cn", 0x000F0040, 0x4, 8, 4, 1, [⟨15, 15, .rw, 0⟩, ⟨13, 13, .rw, 0⟩, ⟨11, 11, .rw, 0⟩, ⟨10, 10, .rw, 0⟩]⟩]


/-- Registers of block 0x0010_0000 (Table 1.7). -/
def regBlock10 : List RegDef := [
  ⟨"UPD_CMD", 0x00100000, 0x100000, 1, 4, 1, [⟨9, 8, .wo, 0⟩, ⟨2, 0, .wo, 0⟩]⟩,
  ⟨"UPD_CANCEL", 0x00100004, 0x100000, 1, 4, 1, [⟨1, 0, .wo, 0⟩]⟩,
  ⟨"UPD_RESULT", 0x00100008, 0x100000, 1, 4, 1, [⟨31, 31, .w1c, 0⟩, ⟨30, 28, .ro, 0⟩, ⟨27, 26, .ro, 0⟩, ⟨23, 16, .ro, 0⟩, ⟨9, 0, .ro, 0⟩]⟩,
  ⟨"UPD_LEN", 0x0010000C, 0x100000, 1, 4, 1, [⟨31, 0, .rw, 0⟩]⟩,
  ⟨"UPD_AT_LO", 0x00100010, 0x100000, 1, 4, 1, [⟨31, 0, .rw, 0⟩]⟩,
  ⟨"UPD_AT_HI", 0x00100014, 0x100000, 1, 4, 1, [⟨31, 0, .rw, 0⟩]⟩,
  ⟨"UPD_Rr_STATE", 0x00100100, 0x10, 3, 4, 1, [⟨31, 29, .ro, 0⟩, ⟨28, 28, .w1c, 0⟩, ⟨25, 16, .ro, 0⟩, ⟨9, 0, .ro, 0⟩]⟩,
  ⟨"UPD_Rr_ERR", 0x00100104, 0x10, 3, 4, 1, [⟨31, 24, .ro, 0⟩, ⟨15, 0, .ro, 0⟩]⟩,
  ⟨"UPD_FW", 0x00100200, 0x100000, 1, 4, 1, [⟨31, 0, .ro, 0⟩]⟩,
  ⟨"SEC_STATUS", 0x00108000, 0x100000, 1, 4, 1, [⟨31, 31, .ro, 0⟩, ⟨30, 30, .ro, 0⟩, ⟨29, 27, .ro, 0⟩, ⟨26, 25, .ro, 0⟩, ⟨24, 24, .ro, 1⟩, ⟨23, 23, .ro, 0⟩, ⟨22, 22, .ro, 0⟩, ⟨21, 21, .ro, 0⟩, ⟨6, 0, .ro, 0⟩]⟩,
  ⟨"SEC_SERIAL_LO", 0x00108004, 0x100000, 1, 4, 1, [⟨31, 0, .ro, 0⟩]⟩,
  ⟨"SEC_SERIAL_HI", 0x00108008, 0x100000, 1, 4, 1, [⟨31, 0, .ro, 0⟩]⟩,
  ⟨"SEC_OWNER_ID_LO", 0x00108010, 0x100000, 1, 4, 1, [⟨31, 0, .ro, 0⟩]⟩,
  ⟨"SEC_OWNER_ID_HI", 0x00108014, 0x100000, 1, 4, 1, [⟨31, 0, .ro, 0⟩]⟩,
  ⟨"SEC_CMD", 0x00108020, 0x100000, 1, 4, 1, [⟨2, 0, .wo, 0⟩]⟩,
  ⟨"SEC_RESULT", 0x00108024, 0x100000, 1, 4, 1, [⟨31, 31, .w1c, 0⟩, ⟨26, 24, .ro, 0⟩, ⟨23, 16, .ro, 0⟩]⟩,
  ⟨"SEC_DBG_NONCEn", 0x00108040, 0x4, 8, 4, 1, [⟨31, 0, .ro, 0⟩]⟩,
  ⟨"SEC_DATAn", 0x00108100, 0x4, 64, 4, 1, [⟨31, 0, .wo, 0⟩]⟩]


/-- Registers of block 0x0011_0000 (Table 1.7). -/
def regBlock11 : List RegDef := [
  ⟨"RST_CAUSE", 0x00110000, 0x100000, 1, 4, 1, [⟨31, 28, .ro, 0⟩, ⟨8, 0, .ro, 0⟩]⟩,
  ⟨"RST_STRAPS", 0x00110004, 0x100000, 1, 4, 1, [⟨31, 31, .ro, 0⟩, ⟨17, 17, .ro, 0⟩, ⟨16, 16, .ro, 0⟩, ⟨15, 15, .ro, 0⟩, ⟨14, 13, .ro, 0⟩, ⟨12, 12, .ro, 0⟩, ⟨11, 0, .ro, 0⟩]⟩,
  ⟨"RST_ADDR", 0x00110008, 0x100000, 1, 4, 1, [⟨31, 31, .ro, 0⟩, ⟨11, 0, .ro, 0⟩]⟩,
  ⟨"RST_SET_STATUS", 0x00110010, 0x100000, 1, 4, 1, [⟨31, 31, .ro, 0⟩, ⟨30, 28, .ro, 0⟩, ⟨27, 26, .ro, 0⟩, ⟨15, 0, .ro, 0⟩]⟩,
  ⟨"RST_SET_SIZE", 0x00110014, 0x100000, 1, 4, 1, [⟨21, 0, .rw, 0x80⟩]⟩,
  ⟨"RST_CMD", 0x00110018, 0x100000, 1, 4, 1, [⟨25, 16, .wo, 0⟩, ⟨1, 0, .wo, 0⟩]⟩,
  ⟨"RST_RESULT", 0x0011001C, 0x100000, 1, 4, 1, [⟨31, 31, .w1c, 0⟩, ⟨30, 30, .ro, 0⟩, ⟨25, 24, .ro, 0⟩, ⟨23, 16, .ro, 0⟩]⟩,
  ⟨"RST_SVC_IP", 0x00110020, 0x100000, 1, 4, 1, [⟨31, 0, .ro, 0⟩]⟩,
  ⟨"RST_SVC_MASK", 0x00110024, 0x100000, 1, 4, 1, [⟨31, 0, .ro, 0⟩]⟩,
  ⟨"RST_SVC_GW", 0x00110028, 0x100000, 1, 4, 1, [⟨31, 0, .ro, 0⟩]⟩,
  ⟨"RST_SET_DATAn", 0x00110100, 0x4, 244, 4, 1, [⟨31, 0, .rw, 0⟩]⟩]


/-- Registers of block 0x0012_0000 (Table 1.7). -/
def regBlock12 : List RegDef := [
  ⟨"DGT_STATUS", 0x00120000, 0x100000, 1, 4, 1, [⟨31, 31, .ro, 0⟩, ⟨30, 30, .ro, 0⟩]⟩,
  ⟨"DGT_LB_CMD", 0x00120010, 0x100000, 1, 4, 1, [⟨31, 16, .wo, 0⟩, ⟨12, 8, .wo, 0⟩, ⟨5, 4, .wo, 0⟩, ⟨1, 0, .wo, 0⟩]⟩,
  ⟨"DGT_LB_ID", 0x00120014, 0x100000, 1, 4, 1, [⟨31, 0, .rw, 0x7FF⟩]⟩,
  ⟨"DGT_LB_STATUS", 0x00120018, 0x100000, 1, 4, 1, [⟨31, 30, .ro, 0⟩, ⟨23, 16, .ro, 0⟩, ⟨15, 0, .ro, 0⟩]⟩,
  ⟨"DGT_LB_COUNT", 0x0012001C, 0x100000, 1, 4, 1, [⟨31, 16, .ro, 0⟩, ⟨15, 0, .ro, 0⟩]⟩,
  ⟨"DGT_LB_ERR", 0x00120020, 0x100000, 1, 4, 1, [⟨31, 16, .ro, 0⟩, ⟨15, 0, .ro, 0⟩]⟩,
  ⟨"DGT_ST", 0x00120030, 0x100000, 1, 4, 1, [⟨31, 16, .ro, 0⟩, ⟨15, 0, .ro, 0⟩]⟩,
  ⟨"DGT_ECC_INJ", 0x00120040, 0x100000, 1, 4, 1, [⟨31, 31, .w1s, 0⟩, ⟨30, 30, .w1c, 0⟩, ⟨29, 29, .rw, 0⟩, ⟨25, 24, .rw, 0⟩, ⟨21, 16, .rw, 0⟩]⟩,
  ⟨"DGT_ECC_IDX", 0x00120044, 0x100000, 1, 4, 1, [⟨31, 0, .rw, 0⟩]⟩]


/-- The registers of one 64 KiB block, by block number (R30); no register lies outside these blocks (R32). -/
def regBlock (block : Nat) : List RegDef :=
  match block with
  | 0 => regBlock00
  | 1 => regBlock01
  | 2 => regBlock02
  | 3 => regBlock03
  | 4 => regBlock04
  | 5 => regBlock05
  | 6 => regBlock06
  | 7 => regBlock07
  | 8 => regBlock08
  | 9 => regBlock09
  | 10 => regBlock0A
  | 11 => regBlock0B
  | 12 => regBlock0C
  | 13 => regBlock0D
  | 14 => regBlock0E
  | 15 => regBlock0F
  | 16 => regBlock10
  | 17 => regBlock11
  | 18 => regBlock12
  | _ => []

/-- Does the register definition cover this address? -/
def RegDef.covers (r : RegDef) (addr : Nat) : Bool :=
  r.base ≤ addr && (addr - r.base) / r.s1 < r.n1 && ((addr - r.base) % r.s1) % r.s2 == 0 &&
    ((addr - r.base) % r.s1) / r.s2 < r.n2

/-- The register at an address, if the spec puts one there. -/
def findReg (addr : Nat) : Option RegDef :=
  (regBlock (addr / 0x10000)).find? (fun r => r.covers addr)

/-- The value a list of fields takes at reset. -/
def fieldsReset : List FieldDef → Nat
  | [] => 0
  | f :: fs => f.reset * 2 ^ f.lo + fieldsReset fs

/-- The reset value of the register at an address; 0 where there is none (R11, R12). -/
def regReset (addr : Nat) : BitVec 32 :=
  match findReg addr with
  | some r => BitVec.ofNat 32 (fieldsReset r.fields)
  | none => 0

namespace F

def GLB_ACCERR_SOURCE : Fld := ⟨0x00000040, 31, 28⟩
def GLB_ACCERR_COUNT : Fld := ⟨0x00000040, 15, 8⟩
def GLB_ACCERR_RESERVED_ADDR : Fld := ⟨0x00000040, 3, 3⟩
def GLB_ACCERR_BAD_WIDTH : Fld := ⟨0x00000040, 2, 2⟩
def GLB_ACCERR_REFUSED_RO : Fld := ⟨0x00000040, 1, 1⟩
def GLB_ACCERR_REFUSED_RWS : Fld := ⟨0x00000040, 0, 0⟩
def SCH_CONFIG_SEAM_LEN_M1 : Fld := ⟨0x00010000, 28, 16⟩
def SCH_CONFIG_GUARD : Fld := ⟨0x00010000, 13, 8⟩
def SCH_CONFIG_PERIOD_SEL : Fld := ⟨0x00010000, 2, 0⟩
def SCH_CONTRACT_ACTIVE : Fld := ⟨0x00010004, 23, 16⟩
def SCH_CONTRACT_IMPL : Fld := ⟨0x00010004, 15, 0⟩
def SCH_STATUS_SEAM_POS : Fld := ⟨0x00010008, 28, 16⟩
def SCH_STATUS_STEP_REFUSED : Fld := ⟨0x00010008, 4, 4⟩
def SCH_STATUS_STEP_APPLIED : Fld := ⟨0x00010008, 3, 3⟩
def SCH_STATUS_DEGRADED_CLK : Fld := ⟨0x00010008, 2, 2⟩
def SCH_STATUS_WAIT_SEAM : Fld := ⟨0x00010008, 1, 1⟩
def SCH_STATUS_RUNNING : Fld := ⟨0x00010008, 0, 0⟩
def SCH_STITCH_LO_COUNT : Fld := ⟨0x00010010, 31, 0⟩
def SCH_STITCH_HI_COUNT : Fld := ⟨0x00010014, 31, 0⟩
def SCH_EDGE_LO_EDGE : Fld := ⟨0x00010018, 31, 0⟩
def SCH_EDGE_HI_EDGE : Fld := ⟨0x0001001C, 31, 0⟩
def SCH_OVR_COUNT_COUNT : Fld := ⟨0x00010020, 31, 0⟩
def SCH_OVR_FIRST_VALID : Fld := ⟨0x00010024, 31, 31⟩
def SCH_OVR_FIRST_AGENT : Fld := ⟨0x00010024, 28, 24⟩
def SCH_OVR_FIRST_CAUSE : Fld := ⟨0x00010024, 21, 20⟩
def SCH_OVR_FIRST_KIND : Fld := ⟨0x00010024, 19, 16⟩
def SCH_OVR_FIRST_TABLE : Fld := ⟨0x00010024, 15, 8⟩
def SCH_OVR_FIRST_ENTRY : Fld := ⟨0x00010024, 7, 0⟩
def SCH_OVR_FIRST_AT_STITCH : Fld := ⟨0x00010028, 31, 16⟩
def SCH_OVR_FIRST_AT_SEAM_POS : Fld := ⟨0x00010028, 12, 0⟩
def SCH_AGENT_OVR_COUNT (n : Nat) : Fld := ⟨0x00010100 + 0x4 * n, 15, 0⟩
def PAT_STATE_CHECK_CONFIRMED : Fld := ⟨0x00020000, 18, 18⟩
def PAT_STATE_OLC_STATE : Fld := ⟨0x00020000, 17, 15⟩
def PAT_STATE_SHADOW_STATE : Fld := ⟨0x00020000, 14, 12⟩
def PAT_STATE_PREV_VALID : Fld := ⟨0x00020000, 9, 9⟩
def PAT_STATE_ACTIVE_VALID : Fld := ⟨0x00020000, 8, 8⟩
def PAT_STATE_PREV_SLOT : Fld := ⟨0x00020000, 5, 4⟩
def PAT_STATE_SHADOW_SLOT : Fld := ⟨0x00020000, 3, 2⟩
def PAT_STATE_ACTIVE_SLOT : Fld := ⟨0x00020000, 1, 0⟩
def PAT_CMD_OP : Fld := ⟨0x00020004, 3, 0⟩
def PAT_RESULT_BUSY : Fld := ⟨0x00020008, 31, 31⟩
def PAT_RESULT_DONE : Fld := ⟨0x00020008, 30, 30⟩
def PAT_RESULT_LAST_OP : Fld := ⟨0x00020008, 27, 24⟩
def PAT_RESULT_CODE : Fld := ⟨0x00020008, 23, 16⟩
def PAT_RESULT_DETAIL : Fld := ⟨0x00020008, 15, 0⟩
def PAT_GEN_GENERATION : Fld := ⟨0x0002000C, 31, 0⟩
def PAT_ID_LO_ID : Fld := ⟨0x00020010, 31, 0⟩
def PAT_ID_HI_ID : Fld := ⟨0x00020014, 31, 0⟩
def PAT_CHECK_CHECK_VALUE : Fld := ⟨0x00020018, 31, 0⟩
def PAT_OLC_AT_LO_N_C : Fld := ⟨0x0002001C, 31, 0⟩
def PAT_OLC_AT_HI_N_C : Fld := ⟨0x00020020, 31, 0⟩
def PAT_DIGEST_DIGEST (n : Nat) : Fld := ⟨0x00020040 + 0x4 * n, 31, 0⟩
def APC_STATUS_SELV : Fld := ⟨0x00030000, 23, 16⟩
def APC_STATUS_FAULT : Fld := ⟨0x00030000, 15, 8⟩
def APC_STATUS_BUSY : Fld := ⟨0x00030000, 7, 0⟩
def APC_CORE_FAULT_VALID (n : Nat) : Fld := ⟨0x00030100 + 0x20 * n, 31, 31⟩
def APC_CORE_FAULT_CAUSE (n : Nat) : Fld := ⟨0x00030100 + 0x20 * n, 27, 24⟩
def APC_CORE_FAULT_KIND (n : Nat) : Fld := ⟨0x00030100 + 0x20 * n, 19, 16⟩
def APC_CORE_FAULT_OBJECT (n : Nat) : Fld := ⟨0x00030100 + 0x20 * n, 15, 0⟩
def APC_CORE_FPC_PC (n : Nat) : Fld := ⟨0x00030104 + 0x20 * n, 31, 0⟩
def APC_CORE_FADDR_ADDR (n : Nat) : Fld := ⟨0x00030108 + 0x20 * n, 31, 0⟩
def APC_CORE_EXC_COUNT (n : Nat) : Fld := ⟨0x0003010C + 0x20 * n, 15, 0⟩
def APC_WSIG_MM_VALID : Fld := ⟨0x00030400, 31, 31⟩
def APC_WSIG_MM_REASON : Fld := ⟨0x00030400, 25, 24⟩
def APC_WSIG_MM_SEGMENT : Fld := ⟨0x00030400, 11, 0⟩
def APC_WSIG_SIGA_VALUE : Fld := ⟨0x00030404, 31, 0⟩
def APC_WSIG_CNTA_VALUE : Fld := ⟨0x00030408, 31, 0⟩
def APC_WSIG_SIGB_VALUE : Fld := ⟨0x0003040C, 31, 0⟩
def APC_WSIG_CNTB_VALUE : Fld := ⟨0x00030410, 31, 0⟩
def APC_WSIG_PASS_COUNT : Fld := ⟨0x00030414, 31, 0⟩
def APC_ECC_ARRAY_SWEEPS (k : Nat) : Fld := ⟨0x00030800 + 0x4 * k, 31, 24⟩
def APC_ECC_ARRAY_DROPPED (k : Nat) : Fld := ⟨0x00030800 + 0x4 * k, 23, 16⟩
def APC_ECC_ARRAY_CORRECTED (k : Nat) : Fld := ⟨0x00030800 + 0x4 * k, 15, 0⟩
def APC_ECC_UE_VALID : Fld := ⟨0x00030900, 31, 31⟩
def APC_ECC_UE_FINDER : Fld := ⟨0x00030900, 25, 24⟩
def APC_ECC_UE_ARRAY : Fld := ⟨0x00030900, 21, 16⟩
def APC_ECC_UE_COUNT : Fld := ⟨0x00030900, 15, 0⟩
def APC_ECC_UE_ADDR_INDEX : Fld := ⟨0x00030904, 31, 0⟩
def SCH_TASK_STATUS_SUSPENDED (n : Nat) : Fld := ⟨0x00010200 + 0x4 * n, 31, 31⟩
def SCH_TASK_STATUS_PUBLISHED (n : Nat) : Fld := ⟨0x00010200 + 0x4 * n, 30, 30⟩
def SCH_TASK_STATUS_HALF (n : Nat) : Fld := ⟨0x00010200 + 0x4 * n, 29, 29⟩
def SCH_TASK_STATUS_QFILL (n : Nat) : Fld := ⟨0x00010200 + 0x4 * n, 23, 20⟩
def SCH_TASK_STATUS_OVERFLOW (n : Nat) : Fld := ⟨0x00010200 + 0x4 * n, 15, 8⟩
def SCH_TASK_STATUS_ABORTS (n : Nat) : Fld := ⟨0x00010200 + 0x4 * n, 7, 0⟩
def GLB_START_CMD_OP : Fld := ⟨0x00000080, 2, 0⟩
def GLB_START_RESULT_BUSY : Fld := ⟨0x00000084, 31, 31⟩
def GLB_START_RESULT_DONE : Fld := ⟨0x00000084, 30, 30⟩
def GLB_START_RESULT_LAST_OP : Fld := ⟨0x00000084, 26, 24⟩
def GLB_START_RESULT_CODE : Fld := ⟨0x00000084, 23, 16⟩
def GLB_START_RESULT_AUTO : Fld := ⟨0x00000084, 0, 0⟩
def GLB_FORCE_SYM_SYM_ID : Fld := ⟨0x000000C0, 31, 0⟩
def GLB_FORCE_VAL_LO_VALUE : Fld := ⟨0x000000C4, 31, 0⟩
def GLB_FORCE_VAL_HI_VALUE : Fld := ⟨0x000000C8, 31, 0⟩
def GLB_FORCE_CMD_OP : Fld := ⟨0x000000CC, 1, 0⟩
def GLB_FORCE_RESULT_BUSY : Fld := ⟨0x000000D0, 31, 31⟩
def GLB_FORCE_RESULT_DONE : Fld := ⟨0x000000D0, 30, 30⟩
def GLB_FORCE_RESULT_CODE : Fld := ⟨0x000000D0, 23, 16⟩
def GLB_FORCE_RESULT_COUNT : Fld := ⟨0x000000D0, 8, 0⟩
def LPE_STATUS_STANDBY_PASS : Fld := ⟨0x00040000, 16, 16⟩
def LPE_STATUS_BUSY : Fld := ⟨0x00040000, 7, 0⟩
def LPE_CH_CMD_OP : Fld := ⟨0x00040010, 10, 8⟩
def LPE_CH_CMD_CHANNEL : Fld := ⟨0x00040010, 7, 0⟩
def LPE_CH_RESULT_CODE : Fld := ⟨0x00040014, 15, 8⟩
def LPE_CH_RESULT_CHANNEL : Fld := ⟨0x00040014, 7, 0⟩
def LPE_WIN_CH_CHANNEL : Fld := ⟨0x00040018, 7, 0⟩
def LPE_COND_RUN (k : Nat) : Fld := ⟨0x00040020 + 0x4 * k, 31, 0⟩
def LPE_LANE_STATUS_NOT_COMPUTED (n : Nat) : Fld := ⟨0x00040100 + 0x4 * n, 15, 0⟩
def LPE_CH_STATUS_MODE (n : Nat) : Fld := ⟨0x00040400 + 0x4 * n, 31, 30⟩
def LPE_CH_STATUS_PENDING (n : Nat) : Fld := ⟨0x00040400 + 0x4 * n, 29, 28⟩
def LPE_CH_STATUS_LAST (n : Nat) : Fld := ⟨0x00040400 + 0x4 * n, 27, 26⟩
def LPE_CH_STATUS_BANK (n : Nat) : Fld := ⟨0x00040400 + 0x4 * n, 25, 25⟩
def LPE_CH_STATUS_COEF_BAD (n : Nat) : Fld := ⟨0x00040400 + 0x4 * n, 24, 24⟩
def LPE_CH_STATUS_NUMERIC (n : Nat) : Fld := ⟨0x00040400 + 0x4 * n, 23, 23⟩
def LPE_CH_STATUS_SRC_INVALID (n : Nat) : Fld := ⟨0x00040400 + 0x4 * n, 22, 22⟩
def LPE_CH_STATUS_VDC_LOW (n : Nat) : Fld := ⟨0x00040400 + 0x4 * n, 21, 21⟩
def LPE_CH_STATUS_SAT_HI (n : Nat) : Fld := ⟨0x00040400 + 0x4 * n, 20, 20⟩
def LPE_CH_STATUS_SAT_LO (n : Nat) : Fld := ⟨0x00040400 + 0x4 * n, 19, 19⟩
def LPE_CH_STATUS_RATE_LIM (n : Nat) : Fld := ⟨0x00040400 + 0x4 * n, 18, 18⟩
def LPE_CH_STATUS_NOT_COMPUTED (n : Nat) : Fld := ⟨0x00040400 + 0x4 * n, 17, 17⟩
def LPE_CH_STATUS_SKIPPED (n : Nat) : Fld := ⟨0x00040400 + 0x4 * n, 16, 16⟩
def LPE_CH_STATUS_SAMPLES (n : Nat) : Fld := ⟨0x00040400 + 0x4 * n, 15, 0⟩
def LPE_BOB_CTRL_DECIM : Fld := ⟨0x00041000, 31, 16⟩
def LPE_BOB_CTRL_MODE : Fld := ⟨0x00041000, 4, 4⟩
def LPE_BOB_CTRL_OP : Fld := ⟨0x00041000, 2, 0⟩
def LPE_BOB_GEN_HOLD : Fld := ⟨0x00041004, 23, 8⟩
def LPE_BOB_GEN_POINT : Fld := ⟨0x00041004, 5, 4⟩
def LPE_BOB_GEN_TYPE : Fld := ⟨0x00041004, 1, 0⟩
def LPE_BOB_AMP_VALUE : Fld := ⟨0x00041008, 31, 0⟩
def LPE_BOB_F0_VALUE : Fld := ⟨0x0004100C, 31, 0⟩
def LPE_BOB_DF_VALUE : Fld := ⟨0x00041010, 31, 0⟩
def LPE_BOB_LEN_VALUE : Fld := ⟨0x00041014, 31, 0⟩
def LPE_BOB_AT_LO_N : Fld := ⟨0x00041018, 31, 0⟩
def LPE_BOB_AT_HI_N : Fld := ⟨0x0004101C, 31, 0⟩
def LPE_BOB_STATUS_INJ_ACTIVE : Fld := ⟨0x00041020, 16, 16⟩
def LPE_BOB_STATUS_CODE : Fld := ⟨0x00041020, 15, 8⟩
def LPE_BOB_STATUS_STATE : Fld := ⟨0x00041020, 2, 0⟩
def LPE_BOB_PAGE_PAGE : Fld := ⟨0x00041024, 5, 0⟩
def LPE_BOB_SET_EN (j : Nat) : Fld := ⟨0x00041100 + 0x4 * j, 31, 31⟩
def LPE_BOB_SET_INJ (j : Nat) : Fld := ⟨0x00041100 + 0x4 * j, 8, 8⟩
def LPE_BOB_SET_CHANNEL (j : Nat) : Fld := ⟨0x00041100 + 0x4 * j, 7, 0⟩
def LPE_BOB_WR_WRAPPED (j : Nat) : Fld := ⟨0x00041140 + 0x4 * j, 31, 31⟩
def LPE_BOB_WR_NEXT (j : Nat) : Fld := ⟨0x00041140 + 0x4 * j, 15, 0⟩
def QPS_STATUS_BUSY : Fld := ⟨0x00050000, 31, 31⟩
def QPS_STATUS_CTX : Fld := ⟨0x00050000, 30, 28⟩
def QPS_STATUS_REFUSED : Fld := ⟨0x00050000, 15, 8⟩
def QPS_STATUS_USED : Fld := ⟨0x00050000, 7, 0⟩
def QPS_CTX_CMD_OP : Fld := ⟨0x00050010, 10, 8⟩
def QPS_CTX_CMD_CTX : Fld := ⟨0x00050010, 2, 0⟩
def QPS_CTX_RESULT_CODE : Fld := ⟨0x00050014, 15, 8⟩
def QPS_CTX_RESULT_CTX : Fld := ⟨0x00050014, 2, 0⟩
def QPS_WIN_SEL_PAGE : Fld := ⟨0x00050018, 19, 16⟩
def QPS_WIN_SEL_CTX : Fld := ⟨0x00050018, 2, 0⟩
def QPS_CTX_STATE_MODE (n : Nat) : Fld := ⟨0x00050100 + 0x20 * n, 31, 29⟩
def QPS_CTX_STATE_PENDING (n : Nat) : Fld := ⟨0x00050100 + 0x20 * n, 28, 28⟩
def QPS_CTX_STATE_LAST_STATUS (n : Nat) : Fld := ⟨0x00050100 + 0x20 * n, 23, 16⟩
def QPS_CTX_STATE_WARM_Q (n : Nat) : Fld := ⟨0x00050100 + 0x20 * n, 15, 8⟩
def QPS_MISS_LIMIT (n : Nat) : Fld := ⟨0x00050104 + 0x20 * n, 31, 24⟩
def QPS_MISS_CONSEC (n : Nat) : Fld := ⟨0x00050104 + 0x20 * n, 23, 16⟩
def QPS_MISS_COUNT (n : Nat) : Fld := ⟨0x00050104 + 0x20 * n, 15, 0⟩
def QPS_CTX_SEQ_SEQ (n : Nat) : Fld := ⟨0x00050108 + 0x20 * n, 31, 0⟩
def QPS_CTX_CYC_CYCLES (n : Nat) : Fld := ⟨0x0005010C + 0x20 * n, 31, 0⟩
def QPS_CTX_PASS_Q (n : Nat) : Fld := ⟨0x00050110 + 0x20 * n, 23, 16⟩
def QPS_CTX_PASS_PASSES (n : Nat) : Fld := ⟨0x00050110 + 0x20 * n, 12, 0⟩
def DIO_FS_STATUS_CUTOFF (k : Nat) : Fld := ⟨0x00060000 + 0x4 * k, 31, 31⟩
def DIO_FS_STATUS_FS_LOW (k : Nat) : Fld := ⟨0x00060000 + 0x4 * k, 30, 30⟩
def DIO_FS_STATUS_RETURN_WAIT (k : Nat) : Fld := ⟨0x00060000 + 0x4 * k, 29, 29⟩
def DIO_FS_STATUS_CUT_SEEN (k : Nat) : Fld := ⟨0x00060000 + 0x4 * k, 28, 28⟩
def DIO_FS_STATUS_MV (k : Nat) : Fld := ⟨0x00060000 + 0x4 * k, 15, 0⟩
def DIO_GRP_STATUS_DISC_OPEN (g : Nat) : Fld := ⟨0x00060010 + 0x4 * g, 31, 31⟩
def DIO_GRP_STATUS_DISC_FAULT (g : Nat) : Fld := ⟨0x00060010 + 0x4 * g, 30, 30⟩
def DIO_GRP_STATUS_ADC_FAULT (g : Nat) : Fld := ⟨0x00060010 + 0x4 * g, 29, 29⟩
def DIO_GRP_STATUS_OVERLOAD (g : Nat) : Fld := ⟨0x00060010 + 0x4 * g, 28, 28⟩
def DIO_GRP_STATUS_CURRENT (g : Nat) : Fld := ⟨0x00060010 + 0x4 * g, 15, 0⟩
def DIO_TP_CYCLES_COUNT : Fld := ⟨0x00060030, 31, 0⟩
def DIO_CH_STATUS_MODE (n : Nat) : Fld := ⟨0x00060100 + 0x4 * n, 31, 30⟩
def DIO_CH_STATUS_CLASS (n : Nat) : Fld := ⟨0x00060100 + 0x4 * n, 29, 27⟩
def DIO_CH_STATUS_CMD (n : Nat) : Fld := ⟨0x00060100 + 0x4 * n, 26, 26⟩
def DIO_CH_STATUS_DRIVE (n : Nat) : Fld := ⟨0x00060100 + 0x4 * n, 25, 25⟩
def DIO_CH_STATUS_LATCHED (n : Nat) : Fld := ⟨0x00060100 + 0x4 * n, 24, 24⟩
def DIO_CH_STATUS_NO_DRIVE (n : Nat) : Fld := ⟨0x00060100 + 0x4 * n, 8, 8⟩
def DIO_CH_STATUS_TEST_SRC_FAIL (n : Nat) : Fld := ⟨0x00060100 + 0x4 * n, 7, 7⟩
def DIO_CH_STATUS_OPEN_LOAD (n : Nat) : Fld := ⟨0x00060100 + 0x4 * n, 6, 6⟩
def DIO_CH_STATUS_TEST_FAIL (n : Nat) : Fld := ⟨0x00060100 + 0x4 * n, 5, 5⟩
def DIO_CH_STATUS_DRIVEN_EXT (n : Nat) : Fld := ⟨0x00060100 + 0x4 * n, 4, 4⟩
def DIO_CH_STATUS_SHORT_GND (n : Nat) : Fld := ⟨0x00060100 + 0x4 * n, 3, 3⟩
def DIO_CH_STATUS_INVALID_SEEN (n : Nat) : Fld := ⟨0x00060100 + 0x4 * n, 2, 2⟩
def DIO_CH_STATUS_BROKEN_SEEN (n : Nat) : Fld := ⟨0x00060100 + 0x4 * n, 1, 1⟩
def DIO_CH_STATUS_PULSE_SKIPPED (n : Nat) : Fld := ⟨0x00060100 + 0x4 * n, 0, 0⟩
def DIO_CH_MEAS_VOLT (n : Nat) : Fld := ⟨0x00060200 + 0x4 * n, 31, 16⟩
def DIO_CH_MEAS_CURR (n : Nat) : Fld := ⟨0x00060200 + 0x4 * n, 15, 0⟩
def CLO_CH_STATUS_MODE (n : Nat) : Fld := ⟨0x00070000 + 0x10 * n, 31, 30⟩
def CLO_CH_STATUS_OFF (n : Nat) : Fld := ⟨0x00070000 + 0x10 * n, 29, 29⟩
def CLO_CH_STATUS_STARTING (n : Nat) : Fld := ⟨0x00070000 + 0x10 * n, 28, 28⟩
def CLO_CH_STATUS_FLOOR (n : Nat) : Fld := ⟨0x00070000 + 0x10 * n, 27, 27⟩
def CLO_CH_STATUS_COMPLIANCE (n : Nat) : Fld := ⟨0x00070000 + 0x10 * n, 26, 26⟩
def CLO_CH_STATUS_THERMAL (n : Nat) : Fld := ⟨0x00070000 + 0x10 * n, 25, 25⟩
def CLO_CH_STATUS_LINK_OK (n : Nat) : Fld := ⟨0x00070000 + 0x10 * n, 24, 24⟩
def CLO_CH_STATUS_COMPLIANCE_SEEN (n : Nat) : Fld := ⟨0x00070000 + 0x10 * n, 7, 7⟩
def CLO_CH_STATUS_THERMAL_SEEN (n : Nat) : Fld := ⟨0x00070000 + 0x10 * n, 6, 6⟩
def CLO_CH_STATUS_LINK_LOST (n : Nat) : Fld := ⟨0x00070000 + 0x10 * n, 5, 5⟩
def CLO_CH_STATUS_READBACK_LOST (n : Nat) : Fld := ⟨0x00070000 + 0x10 * n, 4, 4⟩
def CLO_CH_STATUS_SET_INVALID (n : Nat) : Fld := ⟨0x00070000 + 0x10 * n, 3, 3⟩
def CLO_CH_SET_VALUE (n : Nat) : Fld := ⟨0x00070004 + 0x10 * n, 31, 0⟩
def CLO_CH_READ_VALUE (n : Nat) : Fld := ⟨0x00070008 + 0x10 * n, 31, 0⟩
def CLO_CH_SUPPLY_TEMP (n : Nat) : Fld := ⟨0x0007000C + 0x10 * n, 31, 24⟩
def CLO_CH_SUPPLY_VOLT (n : Nat) : Fld := ⟨0x0007000C + 0x10 * n, 15, 0⟩
def SAF_STATUS_HALT : Fld := ⟨0x00080000, 31, 31⟩
def SAF_STATUS_MOD_OK : Fld := ⟨0x00080000, 30, 30⟩
def SAF_STATUS_WINDOW : Fld := ⟨0x00080000, 29, 29⟩
def SAF_STATUS_CHECK_CONFIRMED : Fld := ⟨0x00080000, 28, 28⟩
def SAF_STATUS_DISC_CLOSED : Fld := ⟨0x00080000, 21, 16⟩
def SAF_STATUS_CAUSE : Fld := ⟨0x00080000, 15, 8⟩
def SAF_STATUS_FAULTS : Fld := ⟨0x00080000, 7, 0⟩
def SAF_CMD_OP : Fld := ⟨0x00080010, 1, 0⟩
def SAF_CONFIRM_VAL_VALUE : Fld := ⟨0x00080014, 31, 0⟩
def SAF_RESULT_DONE : Fld := ⟨0x00080018, 31, 31⟩
def SAF_RESULT_LAST_OP : Fld := ⟨0x00080018, 25, 24⟩
def SAF_RESULT_CODE : Fld := ⟨0x00080018, 23, 16⟩
def SAF_HB_FAIL_AGENT : Fld := ⟨0x00080020, 16, 0⟩
def SAF_CLK_RC_FAIL : Fld := ⟨0x00080024, 2, 2⟩
def SAF_CLK_MON_FAIL : Fld := ⟨0x00080024, 1, 1⟩
def SAF_CLK_REF_FAIL : Fld := ⟨0x00080024, 0, 0⟩
def SAF_FN_STATUS_STATE (n : Nat) : Fld := ⟨0x00080100 + 0x4 * n, 31, 30⟩
def SAF_FN_STATUS_CAUSE (n : Nat) : Fld := ⟨0x00080100 + 0x4 * n, 29, 24⟩
def SAF_FN_STATUS_TRIPS (n : Nat) : Fld := ⟨0x00080100 + 0x4 * n, 15, 8⟩
def SAF_FN_STATUS_REFUSED (n : Nat) : Fld := ⟨0x00080100 + 0x4 * n, 7, 0⟩
def SAF_IN_STATUS_DEMAND (n : Nat) : Fld := ⟨0x00080200 + 0x4 * n, 31, 31⟩
def SAF_IN_STATUS_DISCREPANCY (n : Nat) : Fld := ⟨0x00080200 + 0x4 * n, 30, 30⟩
def SAF_IN_STATUS_PHASE (n : Nat) : Fld := ⟨0x00080200 + 0x4 * n, 29, 28⟩
def SAF_IN_STATUS_K (n : Nat) : Fld := ⟨0x00080200 + 0x4 * n, 23, 0⟩
def SAF_RST_STATUS_HELD (n : Nat) : Fld := ⟨0x00080300 + 0x4 * n, 31, 31⟩
def SAF_RST_STATUS_HELD_SEEN (n : Nat) : Fld := ⟨0x00080300 + 0x4 * n, 30, 30⟩
def SAF_RST_STATUS_SHORT (n : Nat) : Fld := ⟨0x00080300 + 0x4 * n, 15, 8⟩
def SAF_RST_STATUS_ACCEPTED (n : Nat) : Fld := ⟨0x00080300 + 0x4 * n, 7, 0⟩
def SCM_STATUS_TP_CONNS : Fld := ⟨0x00090000, 21, 16⟩
def SCM_STATUS_PD_SETS : Fld := ⟨0x00090000, 10, 0⟩
def SCM_TP_RUN_RUN : Fld := ⟨0x00090004, 31, 0⟩
def SCM_PD_STATUS_SEND (n : Nat) : Fld := ⟨0x00091000 + 0x4 * n, 31, 31⟩
def SCM_PD_STATUS_SAFE (n : Nat) : Fld := ⟨0x00091000 + 0x4 * n, 30, 30⟩
def SCM_PD_STATUS_VALID (n : Nat) : Fld := ⟨0x00091000 + 0x4 * n, 29, 29⟩
def SCM_PD_STATUS_HELD (n : Nat) : Fld := ⟨0x00091000 + 0x4 * n, 28, 28⟩
def SCM_PD_STATUS_LAST (n : Nat) : Fld := ⟨0x00091000 + 0x4 * n, 27, 26⟩
def SCM_PD_STATUS_MISS_PORT (n : Nat) : Fld := ⟨0x00091000 + 0x4 * n, 25, 25⟩
def SCM_PD_STATUS_SET (n : Nat) : Fld := ⟨0x00091000 + 0x4 * n, 11, 0⟩
def SCM_PD_CNT_MISMATCH (n : Nat) : Fld := ⟨0x00092000 + 0x4 * n, 31, 24⟩
def SCM_PD_CNT_SINGLE (n : Nat) : Fld := ⟨0x00092000 + 0x4 * n, 23, 16⟩
def SCM_PD_CNT_CROSS (n : Nat) : Fld := ⟨0x00092000 + 0x4 * n, 15, 8⟩
def SCM_PD_CNT_OLD (n : Nat) : Fld := ⟨0x00092000 + 0x4 * n, 7, 0⟩
def SCM_PD_SEQ_SEQ (n : Nat) : Fld := ⟨0x00093000 + 0x4 * n, 31, 0⟩
def SCM_TP_STATUS_PRODUCER (c : Nat) : Fld := ⟨0x00094000 + 0x10 * c, 31, 31⟩
def SCM_TP_STATUS_SAFE (c : Nat) : Fld := ⟨0x00094000 + 0x10 * c, 30, 30⟩
def SCM_TP_STATUS_STATE (c : Nat) : Fld := ⟨0x00094000 + 0x10 * c, 29, 28⟩
def SCM_TP_STATUS_FAIL_SAFE (c : Nat) : Fld := ⟨0x00094000 + 0x10 * c, 27, 27⟩
def SCM_TP_STATUS_CAUSE (c : Nat) : Fld := ⟨0x00094000 + 0x10 * c, 26, 24⟩
def SCM_TP_STATUS_FAILS (c : Nat) : Fld := ⟨0x00094000 + 0x10 * c, 23, 16⟩
def SCM_TP_STATUS_AGE (c : Nat) : Fld := ⟨0x00094000 + 0x10 * c, 15, 0⟩
def SCM_TP_SEQ_SEQ (c : Nat) : Fld := ⟨0x00094004 + 0x10 * c, 31, 0⟩
def SCM_TP_ERR_CRC_ERR (c : Nat) : Fld := ⟨0x00094008 + 0x10 * c, 31, 16⟩
def SCM_TP_ERR_RESTARTS (c : Nat) : Fld := ⟨0x00094008 + 0x10 * c, 15, 8⟩
def SCM_TP_ERR_SINCE_ACC (c : Nat) : Fld := ⟨0x00094008 + 0x10 * c, 7, 0⟩
def CAN_STATUS_STATE (n : Nat) : Fld := ⟨0x000B0000 + 0x1000 * n, 31, 30⟩
def CAN_STATUS_EFF_MODE (n : Nat) : Fld := ⟨0x000B0000 + 0x1000 * n, 29, 28⟩
def CAN_STATUS_INTEGRATING (n : Nat) : Fld := ⟨0x000B0000 + 0x1000 * n, 27, 27⟩
def CAN_STATUS_RECOVERING (n : Nat) : Fld := ⟨0x000B0000 + 0x1000 * n, 26, 26⟩
def CAN_STATUS_TDC_SAT (n : Nat) : Fld := ⟨0x000B0000 + 0x1000 * n, 25, 25⟩
def CAN_STATUS_REC (n : Nat) : Fld := ⟨0x000B0000 + 0x1000 * n, 23, 16⟩
def CAN_STATUS_TEC (n : Nat) : Fld := ⟨0x000B0000 + 0x1000 * n, 15, 8⟩
def CAN_CTRL_LOOP (n : Nat) : Fld := ⟨0x000B0004 + 0x1000 * n, 5, 4⟩
def CAN_CTRL_MODE (n : Nat) : Fld := ⟨0x000B0004 + 0x1000 * n, 1, 0⟩
def CAN_CMD_OP (n : Nat) : Fld := ⟨0x000B0008 + 0x1000 * n, 1, 0⟩
def CAN_ERR_BUSOFF (n : Nat) : Fld := ⟨0x000B000C + 0x1000 * n, 31, 24⟩
def CAN_ERR_PASSIVE (n : Nat) : Fld := ⟨0x000B000C + 0x1000 * n, 23, 16⟩
def CAN_ERR_PEX (n : Nat) : Fld := ⟨0x000B000C + 0x1000 * n, 15, 8⟩
def CAN_ERR_DPHASE (n : Nat) : Fld := ⟨0x000B000C + 0x1000 * n, 3, 3⟩
def CAN_ERR_LAST_ERR (n : Nat) : Fld := ⟨0x000B000C + 0x1000 * n, 2, 0⟩
def CAN_TDC_SSP (n : Nat) : Fld := ⟨0x000B0010 + 0x1000 * n, 23, 16⟩
def CAN_TDC_LOOP_DLY (n : Nat) : Fld := ⟨0x000B0010 + 0x1000 * n, 6, 0⟩
def CAN_TX_OK_COUNT (n : Nat) : Fld := ⟨0x000B0014 + 0x1000 * n, 31, 0⟩
def CAN_RX_OK_COUNT (n : Nat) : Fld := ⟨0x000B0018 + 0x1000 * n, 31, 0⟩
def CAN_TX_STAT_WITHDRAWN (n : Nat) : Fld := ⟨0x000B001C + 0x1000 * n, 31, 24⟩
def CAN_TX_STAT_NO_DATA (n : Nat) : Fld := ⟨0x000B001C + 0x1000 * n, 23, 16⟩
def CAN_TX_STAT_BAD_RECORD (n : Nat) : Fld := ⟨0x000B001C + 0x1000 * n, 15, 8⟩
def CAN_TX_STAT_ARB_LOST (n : Nat) : Fld := ⟨0x000B001C + 0x1000 * n, 7, 0⟩
def CAN_RX_STAT_RXQ_FULL (n : Nat) : Fld := ⟨0x000B0020 + 0x1000 * n, 31, 24⟩
def CAN_RX_STAT_UNMATCHED (n : Nat) : Fld := ⟨0x000B0020 + 0x1000 * n, 23, 16⟩
def CAN_RX_STAT_RX_ERR (n : Nat) : Fld := ⟨0x000B0020 + 0x1000 * n, 15, 8⟩
def CAN_MB_LOCK_LOCK (n : Nat) : Fld := ⟨0x000B0040 + 0x1000 * n, 31, 31⟩
def CAN_MB_LOCK_MB (n : Nat) : Fld := ⟨0x000B0040 + 0x1000 * n, 5, 0⟩
def CAN_MB_STATUS_USED (n : Nat) (m : Nat) : Fld := ⟨0x000B0100 + 0x1000 * n + 0x4 * m, 31, 31⟩
def CAN_MB_STATUS_NEW (n : Nat) (m : Nat) : Fld := ⟨0x000B0100 + 0x1000 * n + 0x4 * m, 30, 30⟩
def CAN_MB_STATUS_SHADOW_FULL (n : Nat) (m : Nat) : Fld := ⟨0x000B0100 + 0x1000 * n + 0x4 * m, 29, 29⟩
def CAN_MB_STATUS_OVERRUN (n : Nat) (m : Nat) : Fld := ⟨0x000B0100 + 0x1000 * n + 0x4 * m, 28, 28⟩
def CAN_MB_STATUS_VALID (n : Nat) (m : Nat) : Fld := ⟨0x000B0100 + 0x1000 * n + 0x4 * m, 27, 27⟩
def CAN_MB_STATUS_OVR_COUNT (n : Nat) (m : Nat) : Fld := ⟨0x000B0100 + 0x1000 * n + 0x4 * m, 15, 8⟩
def ETH_P_STATUS_LINK (p : Nat) : Fld := ⟨0x000C0000 + 0x100 * p, 31, 31⟩
def ETH_P_STATUS_SPEED (p : Nat) : Fld := ⟨0x000C0000 + 0x100 * p, 30, 29⟩
def ETH_P_STATUS_FULL (p : Nat) : Fld := ⟨0x000C0000 + 0x100 * p, 28, 28⟩
def ETH_P_STATUS_SPEED_FAULT (p : Nat) : Fld := ⟨0x000C0000 + 0x100 * p, 27, 27⟩
def ETH_P_STATUS_SECURED (p : Nat) : Fld := ⟨0x000C0000 + 0x100 * p, 26, 26⟩
def ETH_P_STATUS_DOWNS (p : Nat) : Fld := ⟨0x000C0000 + 0x100 * p, 15, 0⟩
def ETH_P_CTRL_LOOP (p : Nat) : Fld := ⟨0x000C0004 + 0x100 * p, 1, 0⟩
def ETH_P_RX_OK_COUNT (p : Nat) : Fld := ⟨0x000C0008 + 0x100 * p, 31, 0⟩
def ETH_P_TX_OK_COUNT (p : Nat) : Fld := ⟨0x000C000C + 0x100 * p, 31, 0⟩
def ETH_P_DROP_PTP_FULL (p : Nat) : Fld := ⟨0x000C0010 + 0x100 * p, 31, 24⟩
def ETH_P_DROP_PAIR_FULL (p : Nat) : Fld := ⟨0x000C0010 + 0x100 * p, 23, 16⟩
def ETH_P_DROP_KEY_FULL (p : Nat) : Fld := ⟨0x000C0010 + 0x100 * p, 15, 8⟩
def ETH_P_DROP_TXQ_FULL (p : Nat) : Fld := ⟨0x000C0010 + 0x100 * p, 7, 0⟩
def ETH_P_ERR_FCS (p : Nat) : Fld := ⟨0x000C0014 + 0x100 * p, 31, 24⟩
def ETH_P_ERR_PAUSE (p : Nat) : Fld := ⟨0x000C0014 + 0x100 * p, 23, 16⟩
def ETH_P_ERR_MACSEC_DROP (p : Nat) : Fld := ⟨0x000C0014 + 0x100 * p, 15, 8⟩
def ETH_P_ERR_UNKNOWN (p : Nat) : Fld := ⟨0x000C0014 + 0x100 * p, 7, 0⟩
def PTP_TIME_LO_VALUE : Fld := ⟨0x000C8000, 31, 0⟩
def PTP_TIME_HI_VALUE : Fld := ⟨0x000C8004, 31, 0⟩
def PTP_TIME_FRAC_VALUE : Fld := ⟨0x000C8008, 31, 0⟩
def PTP_INCR_LO_FRAC : Fld := ⟨0x000C8010, 31, 0⟩
def PTP_INCR_HI_NS : Fld := ⟨0x000C8014, 3, 0⟩
def PTP_STEP_LIMIT_NS : Fld := ⟨0x000C8018, 31, 0⟩
def PTP_STEP_VALUE : Fld := ⟨0x000C801C, 31, 0⟩
def PTP_REBASE_LO_VALUE : Fld := ⟨0x000C8020, 31, 0⟩
def PTP_REBASE_HI_VALUE : Fld := ⟨0x000C8024, 31, 0⟩
def PTP_CMD_OP : Fld := ⟨0x000C8028, 1, 0⟩
def PTP_STATUS_LOCKED : Fld := ⟨0x000C802C, 31, 31⟩
def PTP_STATUS_USABLE : Fld := ⟨0x000C802C, 30, 30⟩
def PTP_STATUS_TIME_INITIAL : Fld := ⟨0x000C802C, 29, 29⟩
def PTP_STATUS_STEP_PENDING : Fld := ⟨0x000C802C, 28, 28⟩
def PTP_STATUS_INCR_REFUSED : Fld := ⟨0x000C802C, 27, 27⟩
def PTP_STATUS_DISCONT : Fld := ⟨0x000C802C, 26, 26⟩
def PTP_STATUS_SOURCE : Fld := ⟨0x000C802C, 25, 24⟩
def PTP_STATUS_CODE : Fld := ⟨0x000C802C, 23, 16⟩
def PTP_PORT_STATE_STATE (p : Nat) : Fld := ⟨0x000C8040 + 0x4 * p, 31, 28⟩
def PTP_PORT_STATE_DELAY (p : Nat) : Fld := ⟨0x000C8040 + 0x4 * p, 27, 16⟩
def PTP_PORT_STATE_OFFSET (p : Nat) : Fld := ⟨0x000C8040 + 0x4 * p, 15, 0⟩
def PTP_TRIG_LO_TIME (k : Nat) : Fld := ⟨0x000C8100 + 0x10 * k, 31, 0⟩
def PTP_TRIG_HI_TIME (k : Nat) : Fld := ⟨0x000C8104 + 0x10 * k, 31, 0⟩
def PTP_TRIG_CTRL_ARMED (k : Nat) : Fld := ⟨0x000C8108 + 0x10 * k, 31, 31⟩
def PTP_TRIG_CTRL_REQ_LOCK (k : Nat) : Fld := ⟨0x000C8108 + 0x10 * k, 30, 30⟩
def PTP_TRIG_CTRL_FIRED (k : Nat) : Fld := ⟨0x000C8108 + 0x10 * k, 29, 29⟩
def PTP_TRIG_CTRL_POSTPONED (k : Nat) : Fld := ⟨0x000C8108 + 0x10 * k, 28, 28⟩
def PTP_CAP_LO_TIME (c : Nat) : Fld := ⟨0x000C8200 + 0x10 * c, 31, 0⟩
def PTP_CAP_HI_TIME (c : Nat) : Fld := ⟨0x000C8204 + 0x10 * c, 31, 0⟩
def PTP_CAP_STATUS_EDGE (c : Nat) : Fld := ⟨0x000C8208 + 0x10 * c, 31, 30⟩
def PTP_CAP_STATUS_FILL (c : Nat) : Fld := ⟨0x000C8208 + 0x10 * c, 18, 16⟩
def PTP_CAP_STATUS_OVERFLOW (c : Nat) : Fld := ⟨0x000C8208 + 0x10 * c, 15, 0⟩
def PAIR_STATUS_ROLE : Fld := ⟨0x000A0000, 31, 29⟩
def PAIR_STATUS_POS : Fld := ⟨0x000A0000, 28, 28⟩
def PAIR_STATUS_PAIRED : Fld := ⟨0x000A0000, 27, 27⟩
def PAIR_STATUS_PARTNER_READY : Fld := ⟨0x000A0000, 26, 26⟩
def PAIR_STATUS_STALE_CAUSE : Fld := ⟨0x000A0000, 19, 16⟩
def PAIR_PATHS_CHANGE : Fld := ⟨0x000A0004, 31, 31⟩
def PAIR_PATHS_RELEASED : Fld := ⟨0x000A0004, 30, 30⟩
def PAIR_PATHS_LINK_UP : Fld := ⟨0x000A0004, 29, 29⟩
def PAIR_PATHS_LANE_LOCK : Fld := ⟨0x000A0004, 28, 27⟩
def PAIR_PATHS_NYMIL_HB : Fld := ⟨0x000A0004, 26, 26⟩
def PAIR_PATHS_PLANT_HB : Fld := ⟨0x000A0004, 25, 24⟩
def PAIR_PATHS_HB_MISSES : Fld := ⟨0x000A0004, 15, 0⟩
def PAIR_PARTNER_ROLE : Fld := ⟨0x000A0008, 31, 29⟩
def PAIR_PARTNER_STATE : Fld := ⟨0x000A0008, 28, 26⟩
def PAIR_PARTNER_FLAGS : Fld := ⟨0x000A0008, 25, 22⟩
def PAIR_PARTNER_AGE : Fld := ⟨0x000A0008, 15, 0⟩
def PAIR_EPOCH_LO_EPOCH : Fld := ⟨0x000A0010, 31, 0⟩
def PAIR_EPOCH_HI_EPOCH : Fld := ⟨0x000A0014, 31, 0⟩
def PAIR_EPOCH_STAT_DISCARDED : Fld := ⟨0x000A0018, 31, 24⟩
def PAIR_EPOCH_STAT_SHORT : Fld := ⟨0x000A0018, 23, 16⟩
def PAIR_EPOCH_STAT_PKT_CRC : Fld := ⟨0x000A0018, 15, 8⟩
def PAIR_EPOCH_STAT_CREDIT_STALL : Fld := ⟨0x000A0018, 7, 0⟩
def PAIR_HEALTH_VALID : Fld := ⟨0x000A001C, 31, 31⟩
def PAIR_HEALTH_TAG_BAD : Fld := ⟨0x000A001C, 30, 30⟩
def PAIR_HEALTH_SELFTEST_FAIL : Fld := ⟨0x000A001C, 23, 16⟩
def PAIR_HEALTH_EPOCH : Fld := ⟨0x000A001C, 15, 0⟩
def PAIR_WITNESS_ROUND : Fld := ⟨0x000A0020, 31, 31⟩
def PAIR_WITNESS_REPLIED : Fld := ⟨0x000A0020, 27, 24⟩
def PAIR_WITNESS_SILENT : Fld := ⟨0x000A0020, 23, 20⟩
def PAIR_WITNESS_ROUNDS : Fld := ⟨0x000A0020, 15, 8⟩
def PAIR_TAKEOVER_CAUSE : Fld := ⟨0x000A0024, 31, 28⟩
def PAIR_TAKEOVER_AGE : Fld := ⟨0x000A0024, 23, 0⟩
def PAIR_CMD_OP : Fld := ⟨0x000A0030, 1, 0⟩
def PAIR_RESULT_DONE : Fld := ⟨0x000A0034, 31, 31⟩
def PAIR_RESULT_LAST_OP : Fld := ⟨0x000A0034, 25, 24⟩
def PAIR_RESULT_CODE : Fld := ⟨0x000A0034, 23, 16⟩
def EVR_STATUS_SCANNED : Fld := ⟨0x000D0000, 31, 31⟩
def EVR_STATUS_WRITING : Fld := ⟨0x000D0000, 30, 30⟩
def EVR_STATUS_STAGED : Fld := ⟨0x000D0000, 23, 16⟩
def EVR_STATUS_LOST : Fld := ⟨0x000D0000, 15, 0⟩
def EVR_NEXT_LO_NEXT : Fld := ⟨0x000D0004, 31, 0⟩
def EVR_NEXT_HI_NEXT : Fld := ⟨0x000D0008, 31, 0⟩
def EVR_WIN_SLOT_SLOT : Fld := ⟨0x000D0010, 14, 0⟩
def EVR_CMD_OP : Fld := ⟨0x000D0014, 1, 0⟩
def EVR_CODE_SEL_CODE : Fld := ⟨0x000D0018, 15, 0⟩
def EVR_CODE_STAT_BUCKET : Fld := ⟨0x000D001C, 31, 31⟩
def EVR_CODE_STAT_ITEM : Fld := ⟨0x000D001C, 30, 30⟩
def EVR_CODE_STAT_TOKENS : Fld := ⟨0x000D001C, 23, 16⟩
def EVR_CODE_STAT_SUPPRESSED : Fld := ⟨0x000D001C, 15, 0⟩
def PNL_STATUS_STATE : Fld := ⟨0x000E0000, 31, 29⟩
def PNL_STATUS_PENDING : Fld := ⟨0x000E0000, 28, 28⟩
def PNL_STATUS_RAIL_FAULT : Fld := ⟨0x000E0000, 27, 27⟩
def PNL_STATUS_TEMP_CLAMP : Fld := ⟨0x000E0000, 26, 26⟩
def PNL_STATUS_SENSOR_FAULT : Fld := ⟨0x000E0000, 25, 25⟩
def PNL_STATUS_ASSETS_OK : Fld := ⟨0x000E0000, 24, 24⟩
def PNL_STATUS_LU : Fld := ⟨0x000E0000, 15, 8⟩
def PNL_STATUS_FRAME : Fld := ⟨0x000E0000, 7, 0⟩
def PNL_TEMP_RANGE : Fld := ⟨0x000E0004, 19, 16⟩
def PNL_TEMP_TS : Fld := ⟨0x000E0004, 15, 0⟩
def PNL_VCOM_CODE : Fld := ⟨0x000E0008, 8, 0⟩
def PNL_CMD_OP : Fld := ⟨0x000E000C, 1, 0⟩
def PNL_RESULT_DONE : Fld := ⟨0x000E0010, 31, 31⟩
def PNL_RESULT_LAST_OP : Fld := ⟨0x000E0010, 25, 24⟩
def PNL_RESULT_CODE : Fld := ⟨0x000E0010, 23, 16⟩
def PNL_JOURNAL_LO_WORD : Fld := ⟨0x000E0014, 31, 0⟩
def PNL_JOURNAL_HI_WORD : Fld := ⟨0x000E0018, 31, 0⟩
def PNL_COUNT_DONE : Fld := ⟨0x000E001C, 31, 16⟩
def PNL_COUNT_INTERRUPTED : Fld := ⟨0x000E001C, 15, 8⟩
def PNL_COUNT_RECOVERED : Fld := ⟨0x000E001C, 7, 0⟩
def PWR_STATUS_PHASE : Fld := ⟨0x000F0000, 31, 29⟩
def PWR_STATUS_REG_LP : Fld := ⟨0x000F0000, 28, 28⟩
def PWR_STATUS_RC_CLOCK : Fld := ⟨0x000F0000, 27, 27⟩
def PWR_STATUS_FEED : Fld := ⟨0x000F0000, 15, 0⟩
def PWR_DOMAINS_ON : Fld := ⟨0x000F0004, 18, 0⟩
def PWR_VOTES_HELD : Fld := ⟨0x000F0008, 17, 0⟩
def PWR_STATIC_STATIC : Fld := ⟨0x000F000C, 31, 0⟩
def PWR_CMD_OP : Fld := ⟨0x000F0010, 1, 0⟩
def PWR_RESULT_DONE : Fld := ⟨0x000F0014, 31, 31⟩
def PWR_RESULT_LAST_OP : Fld := ⟨0x000F0014, 25, 24⟩
def PWR_RESULT_CODE : Fld := ⟨0x000F0014, 23, 16⟩
def PWR_RESULT_ABORT_POINT : Fld := ⟨0x000F0014, 2, 0⟩
def PWR_WAKE_APPROXIMATE : Fld := ⟨0x000F0018, 31, 31⟩
def PWR_WAKE_REG_RETRY : Fld := ⟨0x000F0018, 30, 30⟩
def PWR_WAKE_REFCLK_LOST : Fld := ⟨0x000F0018, 29, 29⟩
def PWR_WAKE_CAUSE : Fld := ⟨0x000F0018, 5, 0⟩
def PWR_SLEEP_LEDGER_LO_NS : Fld := ⟨0x000F0020, 31, 0⟩
def PWR_SLEEP_LEDGER_HI_NS : Fld := ⟨0x000F0024, 31, 0⟩
def PWR_SAMPLER_LAST : Fld := ⟨0x000F0028, 31, 16⟩
def PWR_SAMPLER_FS_SKIP : Fld := ⟨0x000F0028, 15, 8⟩
def PWR_SAMPLER_COUNT : Fld := ⟨0x000F0028, 2, 0⟩
def PWR_VOTE_C_CLO (n : Nat) : Fld := ⟨0x000F0040 + 0x4 * n, 15, 15⟩
def PWR_VOTE_C_CAN (n : Nat) : Fld := ⟨0x000F0040 + 0x4 * n, 13, 13⟩
def PWR_VOTE_C_NET_B (n : Nat) : Fld := ⟨0x000F0040 + 0x4 * n, 11, 11⟩
def PWR_VOTE_C_NET_A (n : Nat) : Fld := ⟨0x000F0040 + 0x4 * n, 10, 10⟩
def UPD_CMD_REGION : Fld := ⟨0x00100000, 9, 8⟩
def UPD_CMD_OP : Fld := ⟨0x00100000, 2, 0⟩
def UPD_CANCEL_REGION : Fld := ⟨0x00100004, 1, 0⟩
def UPD_RESULT_DONE : Fld := ⟨0x00100008, 31, 31⟩
def UPD_RESULT_LAST_OP : Fld := ⟨0x00100008, 30, 28⟩
def UPD_RESULT_REGION : Fld := ⟨0x00100008, 27, 26⟩
def UPD_RESULT_CODE : Fld := ⟨0x00100008, 23, 16⟩
def UPD_RESULT_NEXT_BLOCK : Fld := ⟨0x00100008, 9, 0⟩
def UPD_LEN_LENGTH : Fld := ⟨0x0010000C, 31, 0⟩
def UPD_AT_LO_TIME : Fld := ⟨0x00100010, 31, 0⟩
def UPD_AT_HI_TIME : Fld := ⟨0x00100014, 31, 0⟩
def UPD_R_STATE_STATE (r : Nat) : Fld := ⟨0x00100100 + 0x10 * r, 31, 29⟩
def UPD_R_STATE_POSTPONED (r : Nat) : Fld := ⟨0x00100100 + 0x10 * r, 28, 28⟩
def UPD_R_STATE_BLOCKS (r : Nat) : Fld := ⟨0x00100100 + 0x10 * r, 25, 16⟩
def UPD_R_STATE_NEXT_BLOCK (r : Nat) : Fld := ⟨0x00100100 + 0x10 * r, 9, 0⟩
def UPD_R_ERR_LAST_CODE (r : Nat) : Fld := ⟨0x00100104 + 0x10 * r, 31, 24⟩
def UPD_R_ERR_BAD_BLOCKS (r : Nat) : Fld := ⟨0x00100104 + 0x10 * r, 15, 0⟩
def UPD_FW_JOURNAL : Fld := ⟨0x00100200, 31, 0⟩
def SEC_STATUS_BOOT_FAIL : Fld := ⟨0x00108000, 31, 31⟩
def SEC_STATUS_OWNER : Fld := ⟨0x00108000, 30, 30⟩
def SEC_STATUS_OWNER_SLOT : Fld := ⟨0x00108000, 29, 27⟩
def SEC_STATUS_DEBUG : Fld := ⟨0x00108000, 26, 25⟩
def SEC_STATUS_TRNG_OK : Fld := ⟨0x00108000, 24, 24⟩
def SEC_STATUS_CAK_A : Fld := ⟨0x00108000, 23, 23⟩
def SEC_STATUS_CAK_B : Fld := ⟨0x00108000, 22, 22⟩
def SEC_STATUS_BOOT_SLOT : Fld := ⟨0x00108000, 21, 21⟩
def SEC_STATUS_COUNTER : Fld := ⟨0x00108000, 6, 0⟩
def SEC_SERIAL_LO_SERIAL : Fld := ⟨0x00108004, 31, 0⟩
def SEC_SERIAL_HI_SERIAL : Fld := ⟨0x00108008, 31, 0⟩
def SEC_OWNER_ID_LO_KEY_ID : Fld := ⟨0x00108010, 31, 0⟩
def SEC_OWNER_ID_HI_KEY_ID : Fld := ⟨0x00108014, 31, 0⟩
def SEC_CMD_OP : Fld := ⟨0x00108020, 2, 0⟩
def SEC_RESULT_DONE : Fld := ⟨0x00108024, 31, 31⟩
def SEC_RESULT_LAST_OP : Fld := ⟨0x00108024, 26, 24⟩
def SEC_RESULT_CODE : Fld := ⟨0x00108024, 23, 16⟩
def SEC_DBG_NONCE_NONCE (n : Nat) : Fld := ⟨0x00108040 + 0x4 * n, 31, 0⟩
def SEC_DATA_DATA (n : Nat) : Fld := ⟨0x00108100 + 0x4 * n, 31, 0⟩
def RST_CAUSE_PRIMARY : Fld := ⟨0x00110000, 31, 28⟩
def RST_CAUSE_ALL : Fld := ⟨0x00110000, 8, 0⟩
def RST_STRAPS_UNSTABLE : Fld := ⟨0x00110004, 31, 31⟩
def RST_STRAPS_CFG_PANEL : Fld := ⟨0x00110004, 17, 17⟩
def RST_STRAPS_CFG_SETMEM : Fld := ⟨0x00110004, 16, 16⟩
def RST_STRAPS_CFG_WATCH : Fld := ⟨0x00110004, 15, 15⟩
def RST_STRAPS_CFG_BOOT : Fld := ⟨0x00110004, 14, 13⟩
def RST_STRAPS_CFG_POS : Fld := ⟨0x00110004, 12, 12⟩
def RST_STRAPS_ADDR : Fld := ⟨0x00110004, 11, 0⟩
def RST_ADDR_FROM_SETTINGS : Fld := ⟨0x00110008, 31, 31⟩
def RST_ADDR_ADDR : Fld := ⟨0x00110008, 11, 0⟩
def RST_SET_STATUS_VALID : Fld := ⟨0x00110010, 31, 31⟩
def RST_SET_STATUS_REASON : Fld := ⟨0x00110010, 30, 28⟩
def RST_SET_STATUS_WIDTH : Fld := ⟨0x00110010, 27, 26⟩
def RST_SET_STATUS_SEQ : Fld := ⟨0x00110010, 15, 0⟩
def RST_SET_SIZE_BYTES : Fld := ⟨0x00110014, 21, 0⟩
def RST_CMD_LEN : Fld := ⟨0x00110018, 25, 16⟩
def RST_CMD_OP : Fld := ⟨0x00110018, 1, 0⟩
def RST_RESULT_DONE : Fld := ⟨0x0011001C, 31, 31⟩
def RST_RESULT_BUSY : Fld := ⟨0x0011001C, 30, 30⟩
def RST_RESULT_LAST_OP : Fld := ⟨0x0011001C, 25, 24⟩
def RST_RESULT_CODE : Fld := ⟨0x0011001C, 23, 16⟩
def RST_SVC_IP_VALUE : Fld := ⟨0x00110020, 31, 0⟩
def RST_SVC_MASK_VALUE : Fld := ⟨0x00110024, 31, 0⟩
def RST_SVC_GW_VALUE : Fld := ⟨0x00110028, 31, 0⟩
def RST_SET_DATA_DATA (n : Nat) : Fld := ⟨0x00110100 + 0x4 * n, 31, 0⟩
def GLB_CMP_STATUS_IN_FULL : Fld := ⟨0x00000100, 31, 31⟩
def GLB_CMP_STATUS_OUT_FULL : Fld := ⟨0x00000100, 30, 30⟩
def GLB_CMP_STATUS_IN_LEN : Fld := ⟨0x00000100, 22, 16⟩
def GLB_CMP_STATUS_OUT_LEN : Fld := ⟨0x00000100, 14, 8⟩
def GLB_CMP_CMD_LEN : Fld := ⟨0x00000104, 22, 16⟩
def GLB_CMP_CMD_OP : Fld := ⟨0x00000104, 2, 0⟩
def GLB_CMP_IN_DATA (n : Nat) : Fld := ⟨0x00000140 + 0x4 * n, 31, 0⟩
def GLB_CMP_OUT_DATA (n : Nat) : Fld := ⟨0x00000180 + 0x4 * n, 31, 0⟩
def GLB_TEMP_HIGH : Fld := ⟨0x00000200, 31, 31⟩
def GLB_TEMP_LIMIT : Fld := ⟨0x00000200, 30, 30⟩
def GLB_TEMP_DIE : Fld := ⟨0x00000200, 23, 16⟩
def GLB_TEMP_BASE : Fld := ⟨0x00000200, 15, 0⟩
def DGT_STATUS_PTEST : Fld := ⟨0x00120000, 31, 31⟩
def DGT_STATUS_SCAN : Fld := ⟨0x00120000, 30, 30⟩
def DGT_LB_CMD_COUNT : Fld := ⟨0x00120010, 31, 16⟩
def DGT_LB_CMD_TARGET : Fld := ⟨0x00120010, 12, 8⟩
def DGT_LB_CMD_DEPTH : Fld := ⟨0x00120010, 5, 4⟩
def DGT_LB_CMD_OP : Fld := ⟨0x00120010, 1, 0⟩
def DGT_LB_ID_ID : Fld := ⟨0x00120014, 31, 0⟩
def DGT_LB_STATUS_STATE : Fld := ⟨0x00120018, 31, 30⟩
def DGT_LB_STATUS_CODE : Fld := ⟨0x00120018, 23, 16⟩
def DGT_LB_STATUS_FIRST_BAD : Fld := ⟨0x00120018, 15, 0⟩
def DGT_LB_COUNT_GOOD : Fld := ⟨0x0012001C, 31, 16⟩
def DGT_LB_COUNT_SENT : Fld := ⟨0x0012001C, 15, 0⟩
def DGT_LB_ERR_LOST : Fld := ⟨0x00120020, 31, 16⟩
def DGT_LB_ERR_BAD : Fld := ⟨0x00120020, 15, 0⟩
def DGT_ST_FAIL : Fld := ⟨0x00120030, 31, 16⟩
def DGT_ST_PASS : Fld := ⟨0x00120030, 15, 0⟩
def DGT_ECC_INJ_ARM : Fld := ⟨0x00120040, 31, 31⟩
def DGT_ECC_INJ_REFUSED : Fld := ⟨0x00120040, 30, 30⟩
def DGT_ECC_INJ_FOLD : Fld := ⟨0x00120040, 29, 29⟩
def DGT_ECC_INJ_COUNT : Fld := ⟨0x00120040, 25, 24⟩
def DGT_ECC_INJ_ARRAY : Fld := ⟨0x00120040, 21, 16⟩
def DGT_ECC_IDX_INDEX : Fld := ⟨0x00120044, 31, 0⟩

end F

end Sys2Proof.Machine
end

