-- ==== Sys2Proof/Machine/Store.lean ====
section
/-!
DEFINITION. Sparse maps by number, in one canonical form: keys strictly rising and no entry equal to what an
unlisted key reads as. Memory (Host.Cell), the register file and every table by unit number are such maps.
-/

namespace Sys2Proof.Machine

/-- A sparse map from numbers; `d k` is what an unlisted key k reads as. -/
abbrev Store (α : Type) := List (Nat × α)

variable {α : Type}

/-- The entry at a key, if listed. -/
def Store.find? : Store α → Nat → Option α
  | [], _ => none
  | (k, v) :: m, j => if k = j then some v else Store.find? m j

/-- What the key reads as. -/
def Store.get (d : Nat → α) (m : Store α) (j : Nat) : α := (Store.find? m j).getD (d j)

/-- The map without an entry at the key. -/
def Store.erase : Store α → Nat → Store α
  | [], _ => []
  | (k, v) :: m, j => if k = j then Store.erase m j else (k, v) :: Store.erase m j

/-- The map with an entry at the key, at its place in key order. -/
def Store.insert : Store α → Nat → α → Store α
  | [], j, w => [(j, w)]
  | (k, v) :: m, j, w =>
    if j < k then (j, w) :: (k, v) :: m else if k = j then (j, w) :: m else (k, v) :: Store.insert m j w

/-- Write of a key; writing what an unlisted key reads as removes the entry. -/
def Store.set [DecidableEq α] (d : Nat → α) (m : Store α) (j : Nat) (w : α) : Store α :=
  if w = d j then Store.erase m j else Store.insert m j w

/-- Every key of the map is above k. -/
def Store.above (k : Nat) : Store α → Bool
  | [] => true
  | (j, _) :: m => k < j && Store.above k m

/-- The canonical form. -/
def Store.wf [DecidableEq α] (d : Nat → α) : Store α → Bool
  | [] => true
  | (k, v) :: m => decide (v ≠ d k) && Store.above k m && Store.wf d m

end Sys2Proof.Machine
end

