-- ==== Sys2Proof/Machine/State.lean ====
section
/-!
DEFINITION. The state of the S7: plain data that holds everything the spec gives the module. The register file is
the home of every field of the spec's register tables; the structures below hold what no register shows.
-/

namespace Sys2Proof.Machine

/-- Reasons the machine stops with a fault. The spec gives the module no stop of its own: every error is recorded,
answered or reacted to (R5, R10, R91). -/
inductive Fault where
  /-- Raised by no command; kept so that the type has a value. Safe. -/
  | none
  deriving DecidableEq, Repr

/-- Reasons a command is refused by the model. -/
inductive Refusal where
  /-- Raised by Dispatch for a command that has no meaning yet. Safe. -/
  | notModelled (mnemonic : String)
  /-- Raised by every meaning for a command whose operand names a unit the module does not have, such as a core
  number above 7: no such command can reach the module. Safe. -/
  | noSuchUnit
  deriving DecidableEq, Repr

/-- Station states (R3, Table 0.2). -/
inductive StationState where
  | off | boot | unpatterned | stop | tacking | run | safeHalt | watch
  deriving DecidableEq, Repr

/-- Redundancy roles (R4, Table 0.3); their numbers are those of ROLE in PAIR_STATUS. -/
inductive Role where
  | solo | active | standby | stale | isolated | syncing
  deriving DecidableEq, Repr

/-- Entry kinds (Table 2.4). -/
inductive EntryKind where
  | coreSeg | selvSeg | evtSlot | loopGrp | qpStart | netTx | retainCommit | outApply | selftest | reserved
  deriving DecidableEq, Repr

/-- One slot entry, its 64-bit word taken apart (R44). -/
structure SlotEntry where
  start : Nat
  finish : Nat
  kind : EntryKind
  kindNo : Nat
  budget : Nat
  object : Nat
  deriving DecidableEq, Repr

/-- An entry that an agent executes: where it stands, and the entry (R46, R49). -/
structure Running where
  table : Nat
  index : Nat
  entry : SlotEntry
  deriving DecidableEq, Repr

/-- A schedule agent (R43, R48, R51): the entry it executes, how many entries of this stitch's table are done,
whether it overran in this stitch, and the heartbeat it posted last (low 16 bits of the stitch counter, flag). -/
structure Agent where
  running : Option Running
  done : Nat
  overran : Bool
  heartbeat : Option (BitVec 16 × Bool)
  deriving DecidableEq, Repr

/-- Ship time and stitches (R34 to R40, R314 to R317). `now` is the timebase, ns times 2^32 plus fraction;
`rebaseKeeps` marks a pending REBASE that leaves TIME_INITIAL as it is; `moved` is how far steps and REBASEs have moved
ship time, in ns, so that durations can be measured (R421, R433). -/
structure Clock where
  now : BitVec 96
  incr : BitVec 36
  incrLo : Option (BitVec 32)
  refN : Nat
  period : Nat
  stitch : BitVec 64
  counting : Bool
  edge : BitVec 64
  shift : Int
  pendingStep : Option Int
  pendingRebase : Option (BitVec 64)
  rebaseKeeps : Bool
  moved : Int
  deriving DecidableEq, Repr

/-- The scheduler: WAIT_SEAM and RUNNING stand in SCH_STATUS; here what is asked of the next boundary (R47, R123),
the OP of the start command that executes (0: none), the agents, the selvedge segments whose run A output area waits
for its apply point (R108), those compared after this stitch's apply point while it is still to come, those whose
comparison of this stitch failed (R262, R271), run A's output area of each segment as it was last applied (R261), and
stitch counter and tick of the overrun that SCH_OVR_FIRST captured (R51), and stitch counter and cycle of the mismatch
that APC_WSIG_MM captured (R108). -/
structure Sched where
  startRequest : Option StationState
  stopRequest : Option StationState
  op : Nat
  agents : Store Agent
  selvValid : Store Bool
  selvLate : List Nat
  selvFailed : List Nat
  selvArea : Store Bytes
  firstAt : Option (BitVec 64 × Nat)
  mmAt : Option (BitVec 64 × Nat)
  deriving DecidableEq, Repr

/-- One section of a Pattern container: its type (Table 3.4), its number of items and its bytes (R61, R62). -/
structure Section where
  typ : Nat
  items : Nat
  bytes : Bytes
  deriving DecidableEq, Repr

/-- A Pattern as it was loaded from a container: the header, the sections and the trailer (R57). -/
structure Pattern where
  header : Bytes
  sections : List Section
  trailer : Bytes
  deriving DecidableEq, Repr

/-- Pattern state beside the PAT_ registers: the active Pattern, the one prepared by an on-line change (R75), the
length of the update that wrote each slot (Table 3.7, check 1), the commit boundary and whether its mark is written
(R76), the OP of the operation that is executing (0: none), what the panel shows (R74), and whether the load of a
PREPARE waits for the cores to be idle (R21). -/
structure PatState where
  active : Option Pattern
  prepared : Option Pattern
  slotLen : Store Nat
  commitAt : Option Nat
  markWritten : Bool
  executing : Nat
  shownCode : Nat
  shownDetail : Nat
  loadDue : Bool
  deriving DecidableEq, Repr

/-- Selvedge run of an entry, RUN of Table 4.2. -/
inductive RunKind where
  | none | runA | runB
  deriving DecidableEq, Repr

/-- An application core (R80 to R82): registers, the special registers, and the entry's stack region
(base and length) for R93. -/
structure Core where
  g : Vector (BitVec 64) 32
  pc : BitVec 32
  ib : BitVec 32
  fst : BitVec 32
  cyc : Nat
  object : BitVec 16
  run : RunKind
  stackTop : Nat
  stackLen : Nat
  evt : Option (BitVec 16 × BitVec 64)
  deriving DecidableEq, Repr

/-- A hardware queue (R23): first element held, elements held, overflow counter. -/
structure QueueState where
  head : Nat
  fill : Nat
  overflow : BitVec 32
  deriving DecidableEq, Repr

/-- A trigger of an event task (R120): source code, argument, stitch counter and tick of its post. -/
structure Trigger where
  code : BitVec 16
  arg : BitVec 64
  stitch : BitVec 64
  tick : Nat
  deriving DecidableEq, Repr

/-- Write signature of one run of a selvedge segment (R107): CRC, count, whether the run ended or was aborted, and
whether an overrun on the RC oscillator aborted it (R52). -/
structure WSig where
  crc : BitVec 32
  count : BitVec 32
  ended : Bool
  aborted : Bool
  degraded : Bool
  deriving DecidableEq, Repr

/-- A word of SRAM with an error (R101, R102): the data bits 0 to 2 that are inverted, or 8 for check bits of another
index. -/
inductive EccMark where
  | clean
  | correctable (bits : Nat)
  | uncorrectable (bits : Nat)
  deriving DecidableEq, Repr

/-- ECC and scrubbers (R101 to R105): marks by array times 2^32 plus word index, repair queues and sweep
positions by array. -/
structure EccState where
  marks : Store EccMark
  repair : Store (List Nat)
  sweep : Store Nat
  deriving DecidableEq, Repr

/-- Substitute state of an image item (R116): last valid value and stitches it has been held. -/
structure HoldState where
  last : Option Bytes
  held : Nat
  deriving DecidableEq, Repr

/-- A staged raise (R355): code, source, class of FLAGS, payload, suppressed count, whether a boundary has passed since
(R361). -/
structure Staged where
  code : BitVec 16
  source : BitVec 16
  cls : Nat
  payload : List (BitVec 32)
  suppressed : Nat
  late : Bool
  deriving DecidableEq, Repr

/-- The recorder (R349 to R364): staging queue, tokens missing and raises suppressed by code, boundaries since the
buckets were filled, whether raises were dropped since the last record, ship time of the last committed TIME_MARK,
boundaries since the last time mark. -/
structure Recorder where
  staged : List Staged
  missing : Store Nat
  suppressed : Store Nat
  sinceFill : Nat
  lostFlag : Bool
  lastMark : Option (BitVec 64)
  sinceMark : Nat
  deriving DecidableEq, Repr

/-- Tasks and restarts (R109 to R134): trigger queues by task, forces (SYM_ID, value), substitute state by item,
tasks whose current activation was cut, so that its remaining segments are skipped (R50, R47), tasks whose last
segment ended at this stitch's apply point or later while the point is still to come (R26): 1 with an earlier
publication of half 0, 2 of half 1, 3 with none. -/
structure Tasks where
  triggers : Store (List Trigger)
  forces : List (BitVec 32 × BitVec 64)
  holds : Store HoldState
  cut : Store Bool
  late : Store Nat
  deriving DecidableEq, Repr

/-- Safety functions and the monitor (R226 to R256), beside the SAF_ registers: groups whose disconnect drive toggles
(R228), the module-wide cause that takes the station to SAFE_HALT at the next boundary (R253), module-wide causes
present, the last self-test of the monitor and whether one has passed since the cause (R252, R254), the latest applied
logic byte of each function (R239), functions with a cause of this stitch (R240), latches since the first channel of a
discrepant input returned to normal (R235), run lengths of reset inputs and whether a first valid latch has been seen
(R244, R245), the end of the acknowledge window and whether the present press began inside it (R256), whether the
reference oscillator's failure awaits its boundary (R250), and the functions that stay in FAULT over a restart until a
reset edge is accepted: every function from SAFE_HALT or a failed reference on (R250, R254). -/
structure Safety where
  drive : BitVec 6
  haltCause : Option Nat
  present : List Nat
  selftestOk : Bool
  testedSince : Bool
  logic : Store Nat
  logicZero : Store Bool
  stitchCause : Store Bool
  discWait : Store Nat
  resetRun : Store Nat
  resetSeen : Store Bool
  windowEnd : Option Nat
  pressInside : Bool
  refLost : Bool
  edgeDue : BitVec 64
  deriving DecidableEq, Repr

/-- What an output waits for before it may be on again (R213, R216, R238): a published off and then on, or a reset
edge. -/
inductive EdgeWait where
  | none | needOff | needOn | needReset
  deriving DecidableEq, Repr

/-- Causes that latch an output off (Table 8.6). -/
inductive LatchCause where
  | shortGnd | noDrive | testFail | overload | discFault
  deriving DecidableEq, Repr

/-- A digital channel (R198 to R216) beside its registers: candidate class and how many consecutive sweeps gave it,
class in the filtered image (none before the first sweep and after a cut), class of the last latch, stage or switch
current in uA, whether the command changed since the last latch, consecutive latches of LOW, HIGH and open load,
latch causes, what the output waits for, whether an interlock held it off, whether a pulse runs, passed in this test
cycle, the output was on for the whole cycle so far, and missed the cycle before; whether its test source failed;
whether the last sweep lay inside a pulse; the stitch counter at the last latch-off; ship time at which a pulse whose
sample was taken ends. -/
structure DioCh where
  cand : Nat
  candN : Nat
  image : Option Nat
  latched : Option Nat
  ua : Int
  changed : Bool
  low : Nat
  high : Nat
  openN : Nat
  causes : List LatchCause
  wait : EdgeWait
  interlock : EdgeWait
  pulse : Bool
  passed : Bool
  wholeOn : Bool
  missed : Bool
  srcFail : Bool
  dark : Bool
  latchedAt : Option (BitVec 64)
  tail : Option Nat
  deriving DecidableEq, Repr

/-- A channel group (R195, R210, R211): ADC faulty, group test running, disconnect closed before the test, tested
since the restart, result of the last test, ship time at which the disconnect closes after the sample of a test. -/
structure Group where
  adcBad : Bool
  testing : Bool
  wasClosed : Bool
  tested : Bool
  lastPass : Option Bool
  closeAt : Option Nat
  deriving DecidableEq, Repr

/-- A current-loop output (R217 to R225): last valid set value, its 16-bit code, whether a set value has been written
since the last off condition, the last readback conversion, whether the isolator link is lost, ship time at which a
fold-back began that has not set COMPLIANCE yet. -/
structure CloOut where
  want : BitVec 32
  code : BitVec 16
  written : Bool
  conv : Option (BitVec 32)
  lost : Bool
  foldAt : Option Nat
  deriving DecidableEq, Repr

/-- Field I/O (R195 to R225): channels, groups, current-loop outputs, the test cycle. -/
structure FieldIo where
  ch : Store DioCh
  grp : Store Group
  clo : Store CloOut
  cycle : Nat
  deriving DecidableEq, Repr

/-- A loop channel beside its store and its status register (R147, R154, R158, R159): its next computed sample is a
closing sample, with u_h = u_prev as after a sample that was skipped or left uncomputed, the last value each source took from a queue, the generation active at its last sample (none after
its store lost power). -/
structure LoopCh where
  closing : Bool
  fromPrev : Bool
  last : Vector (BitVec 32) 4
  gen : Option Nat
  deriving DecidableEq, Repr

/-- A Bobbin area and the generator of its channel (R166, R167): started, samples seen, records written, injected
samples, PRBS state, phase. -/
structure BobArea where
  started : Bool
  samples : Nat
  records : Nat
  inj : Nat
  prbs : Nat
  phase : Nat
  deriving DecidableEq, Repr

/-- What ARM fixes (R164): the capture set, each entry a channel and whether it is injected; the generator's TYPE,
POINT, HOLD, AMP, F0, DF and LEN; DECIM and MODE of the capture. -/
structure BobCfg where
  set : List (Nat × Bool)
  type : Nat
  point : Nat
  hold : Nat
  amp : Nat
  f0 : Nat
  df : Nat
  len : Nat
  decim : Nat
  ring : Bool
  deriving DecidableEq, Repr

def BobCfg.empty : BobCfg := ⟨[], 0, 0, 0, 0, 0, 0, 0, 0, false⟩

/-- The loop engine (R135 to R167): channels, the condition registers as sampled at t = 0, start stitch of the
capture, injection in force, areas, what the last ARM fixed. -/
structure LoopEng where
  ch : Store LoopCh
  cond : Store (BitVec 32)
  startN : Nat
  injOn : Bool
  areas : Store BobArea
  cfg : BobCfg
  deriving DecidableEq, Repr

/-- A solve that runs (R184 to R187): context, stitch counter at its QP_START, the five vectors in the order of R171,
the warm start held when it started, whether the input was reused. -/
structure Solve where
  ctx : Nat
  start : BitVec 64
  vecs : List (List Nat)
  warm : List Nat
  reused : Bool
  deriving DecidableEq, Repr

/-- A solver context beside its registers and its store (R172, R174, R179, R186, R188): warm start, last input record,
next buffer of the rotation, buffer of the last OPTIMAL result since the load, refusal status, the commands that wait
for the running solve (1 DISABLE, 2 CLEAR_WARM, 3 both), whether the next solve is the first after a takeover and takes
the mirrored record. -/
structure QpCtx where
  warm : List Nat
  last : Option Bytes
  next : Nat
  valid : Option Nat
  refusal : Nat
  pend : Nat
  mirror : Bool
  deriving DecidableEq, Repr

/-- The QP solver (R168 to R194). -/
structure Solver where
  ctx : Store QpCtx
  run : Option Solve
  deriving DecidableEq, Repr

/-- Reception of a data set (R265 to R267, R311): number of the last resolved or delivered copy, the copy held with
its port and the latches it has been held for, what takes effect at the next latch (payload, single path), whether a
mismatch followed the last delivery, the payload delivered last, whether its path was single, latches since it, and
whether the item was valid at the last latch. -/
structure RxSet where
  last : Option (BitVec 32)
  held : Option (Nat × Bytes)
  heldFor : Nat
  deliver : Option (Bytes × Bool)
  mismatch : Bool
  value : Bytes
  single : Bool
  age : Option Nat
  valid : Bool
  deriving DecidableEq, Repr

/-- Transmit buffer of a send set (R261, R304): sequence number, payload, stitch that filled it. -/
structure TxBuf where
  seq : BitVec 32
  payload : Bytes
  stitch : BitVec 32
  deriving DecidableEq, Repr

/-- A Terpaene connection beside its registers (R268 to R274): passing messages that wait for the next latch with
their path, the message accepted last or being produced, its path, whether it is acknowledged, whether a slot has
taken it, latches since then, stitch that filled it. -/
structure TpConn where
  inbox : List (Nat × Bytes)
  msg : Bytes
  path : Nat
  acked : Bool
  sent : Bool
  count : Nat
  stitch : BitVec 32
  deriving DecidableEq, Repr

/-- A frame that waits in a port's unscheduled transmit queue (R309): class (0 PTP, 1 pair, 2 MKA), frame length in
bytes including the FCS, and its bytes. -/
structure Waiting where
  cls : Nat
  len : Nat
  frame : Bytes
  deriving DecidableEq, Repr

/-- Secure associations of a MACsec port (R312): association number and SAK for transmission, the next packet number,
numbers and SAKs for reception, newest first, and the next packet number expected by SCI × 4 + association number. -/
structure MacsecPort where
  tx : Option (Nat × Bytes)
  pn : Nat
  rx : List (Nat × Bytes)
  expect : Store Nat
  deriving DecidableEq, Repr

/-- The plant networks (R257 to R275, R301 to R313): data sets by set number, connections by number, whether the
frame of a transmit slot was filled since the slot last took it (Ethernet port × 64 + slot, CAN 1024 + controller × 64
+ slot), the frame that a port (0, 1) or controller (16 + n) sent last, waiting unscheduled frames by port, received
frames waiting by port × 4 + class (0 PTP, 1 PAIR, 2 KEY), firings of Ethernet slots without data by port. -/
structure Network where
  rx : Store RxSet
  tx : Store TxBuf
  tp : Store TpConn
  filled : Store Bool
  wire : Store Bytes
  waiting : Store (List Waiting)
  buffers : Store Nat
  noData : Store Nat
  macsec : Store MacsecPort
  deriving DecidableEq, Repr

/-- The frame that a CAN FD controller transmits (R287, R291): its slot (none: the head of the FIFO), the record as it
goes out, the low word of ship time at its start of frame, whether it has won arbitration, and the entry of its slot
once its END has passed. -/
structure CanSending where
  slot : Option Nat
  record : Bytes
  sof : BitVec 32
  won : Bool
  expired : Option Running
  deriving DecidableEq, Repr

/-- A CAN FD controller beside its registers (R283 to R291): pending slot frame with its slot, the frame it transmits,
whether a frame is on its bus, and the more restrictive mode that was due at a boundary and waits for that frame's end. -/
structure CanCtrl where
  slot : Option (Nat × Bytes)
  tx : Option CanSending
  busy : Bool
  waits : Option Nat
  deriving DecidableEq, Repr

/-- A mailbox beside its register (R295, R296): main and shadow buffers, whether the newest frame waits for a latch,
latches since the last frame taken, and whether one was taken since the last restart. -/
structure Mailbox where
  main : Bytes
  shadow : Option Bytes
  isNew : Bool
  age : Option Nat
  sinceRestart : Bool
  deriving DecidableEq, Repr

/-- The eight CAN FD controllers and their mailboxes (controller × 64 + mailbox). -/
structure CanNet where
  ctrl : Store CanCtrl
  mb : Store Mailbox
  deriving DecidableEq, Repr

/-- A master that a PTP instance hears of (R318, IEEE 1588): priority1, clock quality, priority2 and identity of its
grandmaster, steps removed, the port identity that announces it, and how many Announce messages came from there. -/
structure PtpForeign where
  prio1 : Nat
  quality : Nat
  prio2 : Nat
  gm : Nat
  steps : Nat
  sender : Nat
  heard : Nat
  deriving DecidableEq, Repr

/-- PTP instances, the servo and the capture unit (R318, R319, R321): consecutive Sync intervals within and over
LOCK_NS, the offset measured last, captures by channel, oldest first, time of the latest edge by channel × 2 + (1
rising), Delay_Req messages answered in a second by port (second, count), masters heard by port, the next sequence
number by port × 4 + kind (0 Sync, 1 Announce, 2 delay request), and by port the ns of the clock since which an instance
waits for an Announce message of its master. -/
structure Ptp where
  within : Nat
  beyond : Nat
  lastOffset : Option Int
  captures : Store (List (BitVec 64))
  edges : Store (Option (BitVec 64))
  answered : Store (Nat × Nat)
  foreign : Store (List PtpForeign)
  seqs : Store Nat
  announceAt : Store Nat
  deriving DecidableEq, Repr

/-- How far a release has come (R341): none; waiting for the next END_MARK, or for apply entries of slots, before the
boundary R; R is the next boundary, with its cause; R has passed. -/
inductive Release where
  | none
  | waitMark
  | waitApply (slots : List Nat)
  | next (cause : Nat)
  | done
  deriving DecidableEq, Repr

/-- A witness round of the querier (R342, R343): QSEQ, replies by witness index (1 = SILENT), WIT_WAIT has passed,
the role in which it was started decides what a loss means. -/
structure Round where
  qseq : BitVec 16
  replies : Store Nat
  expired : Bool
  deriving DecidableEq, Repr

/-- A round this module serves as a witness (R342): queried station, querier's position, QSEQ, ports of the query (bit
0 A, bit 1 B), querier's station, whether it was answered, elapsed time at the query in ns. -/
structure Served where
  station : Nat
  qpos : Nat
  qseq : Nat
  ports : Nat
  querier : Nat
  answered : Bool
  at_ : Nat
  deriving DecidableEq, Repr

/-- Redundancy (R322 to R348), beside the PAIR_ registers. Ownership line: OWN_HOLD as its function drives it (none: its level in reset), filtered
OWN_SENSE, whether it changed in this stitch, the last CHANGE records. Heartbeats: one arrived on Nymil in this
stitch, stitches since one on each plant port, the latest body, PAIRED_OUT of the one of this stitch and of the most
recent one, RELEASED received in this stitch, a Nymil heartbeat of this stitch had another STITCH. Own ACTIVE_SINCE;
release; cause of a takeover that waits; stitches a claim has waited; role from the next boundary on; witness rounds.
Pair key, the private half of the ECDH value this module has sent, and what has come of the partner's KEY message.
Credits to send, credits to return, and KEY packets that wait for a credit. The epoch being sent: packets, bytes, CRC.
The epoch being received: number, half, valid bytes by packet; the last epoch that was committed or discarded. The
committed epoch: number, half, N of its end mark; slots not yet applied; whether its HEALTH packet is still to be
sent, has been sent, and waits for a credit until a tick; stitches since the last commit and since the last good health report of a ready partner.
Stale causes present; stitches since a Dunhel frame of another station; packets sent since the stitch began; stitches
since a heartbeat that reported ACTIVE, and ACTIVE without RELEASED; the digital channels whose switch was closed at the
last output apply point; whether the partner's Pattern differed at the last boundary. -/
structure Pair where
  ownHold : Option Bool
  sense : Bool
  changed : Bool
  changes : List Bool
  hb : Bool
  plantA : Nat
  plantB : Nat
  body : Option Bytes
  drivenNow : Option (BitVec 48)
  partnerDriven : Option (BitVec 48)
  released : Bool
  skew : Bool
  since : BitVec 64
  release : Release
  takeover : Option Nat
  claimWait : Nat
  nextRole : Option Role
  round : Option Round
  qseq : BitVec 16
  served : List Served
  key : Option Bytes
  ecdh : Option Nat
  keyIn : Bytes
  credits : Nat
  owed : Nat
  waitTx : List NymilPacket
  txPackets : Nat
  txBytes : Nat
  txCrc : BitVec 32
  rxEpoch : Option (BitVec 16)
  rxHalf : Bool
  rxValid : Store Nat
  judged : Option Nat
  committed : Option (BitVec 64 × Bool × Nat)
  toApply : List Nat
  healthDue : Bool
  healthSent : Bool
  healthWait : Option Nat
  epochAge : Nat
  readyAge : Option Nat
  causes : List Nat
  dunhelAge : Nat
  sent : List NymilPacket
  activeAge : Nat
  heldAge : Nat
  outApplied : BitVec 48
  differed : Bool
  deriving DecidableEq, Repr

/-- What a panel update does (R379, R383): draw the differing rectangle, clear and draw the whole screen, or clear and
redraw a region to the last complete image. -/
inductive PanelKind where
  | draw | refresh | recovery
  deriving DecidableEq, Repr

/-- A panel update: its kind and its region, first and last x / 8, first and last row (Table 15.6). -/
structure PanelJob where
  kind : PanelKind
  xb0 : Nat
  xb1 : Nat
  y0 : Nat
  y1 : Nat
  deriving DecidableEq, Repr

/-- The rails of Table 15.4. -/
inductive PanelRail where
  | vpos | vneg | vgh | vgl | vcom
  deriving DecidableEq, Repr

/-- A row of a scan (R372): the codes shifted in during it, which the next row drives, and the clocks at its start for
which PNL_GDSP is high. -/
structure PanelRow where
  codes : List (BitVec 2)
  start : Nat
  deriving DecidableEq, Repr

/-- The door panel (R366 to R383) beside its registers: content of the last requested image (none: the image of buffer
DISP), the assets slot in use, the pending request, the recovery that is due, the running update with the waveform range
of each of the 64 regions and the frames of its clearing, the rows scanned last, whether every frame has been scanned,
the rails that are on in the order in which they were switched, VCOM in mV on its rail, ns since the start of the clock
at which a discharge without an update's end began, whether assets taken by a panel that does not work await their full
refresh, DISABLE waits for the running update, ns of the clock at the last rail fault, a retry waits, no update starts
because both feeds are lost, ship time at which the WATCH screen was asked for. -/
structure Panel where
  target : Option (List Nat)
  slot : Nat
  request : Option PanelJob
  recovery : Option PanelJob
  run : Option PanelJob
  ranges : List Nat
  clearFrames : Nat
  scan : List PanelRow
  finished : Bool
  rails : List PanelRail
  vcom : Int
  dischargeAt : Option Nat
  renew : Bool
  disable : Bool
  faultAt : Option Nat
  retry : Bool
  blocked : Bool
  watchAt : Option Nat
  deriving DecidableEq, Repr

/-- Power domains and watch mode (R384 to R406) beside the PWR_ registers. Domains switched on that have not reported,
domains whose power switch is open after a fault. Main feed voltages in mV. Watch: wake flags latched; RTC ticks of the
ledger; whether they come from the RC oscillator; sampler windows since abort point 4; how the wake goes (regulator
retried, reference lost); whether WAKE_TIME_SET is due; whether the ledger is still to be added to the timers before
the slot tables start, and to the retained ones by a warm restart (R134); ship time in ns at which the timebase was
frozen (R397, R404). -/
structure Power where
  rising : List Nat
  failed : List Nat
  feedA : Nat
  feedB : Nat
  wake : Nat
  ticks : Nat
  onRc : Bool
  windows : Nat
  retried : Bool
  refFailed : Bool
  timeDue : Bool
  timersDue : Bool
  advanceDue : Bool
  frozen : Nat
  deriving DecidableEq, Repr

/-- The update regions (R422 to R431) beside the UPD_ registers, all kept in MRAM: verified blocks by region × 1024 +
block, length and target slot by region; the pointer to the panel assets slot in force; firmware slots that have been
programmed since production (the others hold the factory image). -/
structure Update where
  bitmap : Store Bool
  length : Store Nat
  target : Store Nat
  assetsSlot : Nat
  fwWritten : Store Bool
  deriving DecidableEq, Repr

/-- A MACsec key in the key store (R434): CKN, and the CAK wrapped under the key-store key. -/
structure Cak where
  ckn : Bytes
  wrapped : Bytes
  deriving DecidableEq, Repr

/-- Keys and access (R408 to R434). OTP: owner slots blown (SHA-384 of each key, in slot order), fuses of the
anti-rollback counter, revoked firmware keys. MRAM key store: owner key, CAKs by port. Volatile: debug nonce with the
time of its making, open engineering sessions, those of them that the owner key authenticated, times of failed
authentications, end of the refusal of new connections; times are in ns since the clock began. -/
structure Security where
  ownerSlots : List Bytes
  fuses : Nat
  revoked : List Nat
  ownerKey : Option Bytes
  caks : Store (Option Cak)
  nonce : Option (Bytes × Nat)
  sessions : Nat
  owned : Nat
  failures : List Nat
  lockedUntil : Option Nat
  deriving DecidableEq, Repr

/-- The carrier's settings memory (R446 to R449): its address width in bytes (0: absent) and its bytes. -/
structure SettingsMemory where
  width : Nat
  bytes : Store (BitVec 8)
  deriving DecidableEq, Repr

/-- Power-up, reset and settings (R436 to R452) beside the RST_ registers: internal reset held, RST_N low, junction too
hot to start, causes active at the last reset, hold-up running, PWR_GOOD driven, VIO out of range, events that the boot
ROM noted (code, payload), effective SVC_EN and LABEL, SEQ of the image in the memory, OP and item bytes of the
settings write that runs, whether the wait in STOP at the end of BOOT for AUTO_START goes on, whether an ACTIVATE or
REVERT has come since, so that it is not applied (R125), time in ns at which that wait began (R317), the settings
memory, and what this boot has loaded into the supervisor memory and the engines, by component type (R415, R416). -/
structure ResetState where
  held : Bool
  rstLow : Bool
  hot : Bool
  causes : Nat
  holdUp : Bool
  pwrGood : Bool
  vioOut : Bool
  notes : List (Nat × List Nat)
  svcEn : Bool
  label : Bytes
  setSeq : Nat
  writing : Option (Nat × Bytes)
  autoDue : Bool
  autoBarred : Bool
  bootEnd : Nat
  memory : SettingsMemory
  engines : Store Bytes
  deriving DecidableEq, Repr

/-- Temperatures (R467): whether TEMP_HIGH and TEMP_LIMIT may be raised again. -/
structure Thermal where
  highArmed : Bool
  limitArmed : Bool
  deriving DecidableEq, Repr

/-- A loopback test that runs (R470, R474): target, depth, count. -/
structure LoopTest where
  target : Nat
  depth : Nat
  count : Nat
  deriving DecidableEq, Repr

/-- Loopbacks, self-tests, TAP and production test (R470 to R480) beside the DGT_ registers: the running loopback, the
next stripe of each data scratchpad, the group of the last test 0x31, groups whose test 0x31 has not reported, TAP
instruction, debug nonce of PTEST, whether the boot ROM waits for PT_AUTH. -/
structure Diagnosis where
  lb : Option LoopTest
  stripe : Store Nat
  group : Nat
  reports : List Nat
  ir : BitVec 8
  ptNonce : Option Bytes
  ptWait : Bool
  deriving DecidableEq, Repr

/-- The register bus: value that the last read returned, or the CODE that the last block message was answered with,
high words latched by a read of a low word on the station bus and on the carrier management port, and the values that
the last READ of the port returned. -/
structure Bus where
  response : BitVec 32
  cmpData : List (BitVec 32)
  latch : Store (BitVec 32)
  cmpLatch : Store (BitVec 32)
  deriving DecidableEq, Repr

/-- The state of the module. `freeCount` is the model's own counter of free values. -/
structure State where
  pending : List Instr
  station : StationState
  regs : Store (BitVec 32)
  mem : List Host.Cell
  bus : Bus
  clock : Clock
  sched : Sched
  pat : PatState
  cores : Store Core
  queues : Store QueueState
  wsig : Store WSig
  ecc : EccState
  tasks : Tasks
  evr : Recorder
  saf : Safety
  fio : FieldIo
  lpe : LoopEng
  qps : Solver
  net : Network
  can : CanNet
  ptp : Ptp
  pair : Pair
  pnl : Panel
  pwr : Power
  upd : Update
  sec : Security
  rst : ResetState
  tmp : Thermal
  dgt : Diagnosis
  freeCount : Nat
  deriving DecidableEq, Repr

def Agent.idle : Agent := ⟨none, 0, false, none⟩
def Core.idle : Core := ⟨Vector.replicate 32 0#64, 0, 0, 0, 0, 0, .none, 0, 0, none⟩
def QueueState.empty : QueueState := ⟨0, 0, 0⟩
def WSig.clear : WSig := ⟨0, 0, false, false, false⟩
def DioCh.fresh : DioCh :=
  ⟨0, 0, none, none, 0, false, 0, 0, 0, [], .none, .none, false, false, false, false, false, false, none, none⟩
def Group.fresh : Group := ⟨false, false, false, false, none, none⟩
def CloOut.fresh : CloOut := ⟨0, 0, false, none, false, none⟩
def LoopCh.fresh : LoopCh := ⟨false, false, Vector.replicate 4 0#32, none⟩
def BobArea.fresh : BobArea := ⟨false, 0, 0, 0, 0, 0⟩
def QpCtx.fresh : QpCtx := ⟨[], none, 0, none, 0, 0, false⟩
def Pair.fresh : Pair :=
  ⟨none, false, false, [false, false, false], false, 65535, 65535, none, none, none, false, false, 0, .none, none, 0, none,
    none, 0, [], none, none, [], 0, 0, [], 0, 0, 0, none, false, [], none, none, [], false, false, none, 0, none, [], 65535,
    [], 65535, 65535, 0, false⟩
def RxSet.fresh : RxSet := ⟨none, none, 0, none, false, [], false, none, false⟩
def TxBuf.fresh : TxBuf := ⟨0, [], 0⟩
def TpConn.fresh : TpConn := ⟨[], [], 0, false, false, 0, 0⟩
def MacsecPort.fresh : MacsecPort := ⟨none, 1, [], []⟩
def CanCtrl.fresh : CanCtrl := ⟨none, none, false, none⟩
def Mailbox.fresh : Mailbox := ⟨List.replicate 80 0#8, none, false, none, false⟩
def Panel.fresh : Panel :=
  ⟨none, 0, none, none, none, [], 0, [], false, [], 0, none, false, false, none, false, false, none⟩
def Power.fresh : Power := ⟨[], [], 0, 0, 0, 0, false, 0, false, false, false, false, false, 0⟩
def Update.fresh : Update := ⟨[], [], [], 0, []⟩
def Security.fresh : Security := ⟨[], 0, [], none, [], none, 0, 0, [], none⟩
def ResetState.fresh : ResetState :=
  ⟨true, false, false, 1, false, false, false, [], true, [], 0, none, false, false, 0, ⟨0, []⟩, []⟩
def Diagnosis.fresh : Diagnosis := ⟨none, [], 5, [], 0xFF#8, none, false⟩
def Clock.fresh : Clock := ⟨0, 0x500000000#36, none, 0, 125000, 0, false, 0, 0, none, none, false, 0⟩
def HoldState.fresh : HoldState := ⟨none, 0⟩

/-- The machine right after reset: nothing waits, the internal reset is held, every register has its reset value,
memory lists nothing. -/
def State.reset : State where
  pending := []
  station := .boot
  regs := []
  mem := []
  bus := ⟨0, [], [], []⟩
  clock := Clock.fresh
  sched := ⟨none, none, 0, [], [], [], [], [], none, none⟩
  pat := ⟨none, none, [], none, false, 0, 0, 0, false⟩
  cores := []
  queues := []
  wsig := []
  ecc := ⟨[], [], []⟩
  tasks := ⟨[], [], [], [], []⟩
  evr := ⟨[], [], [], 0, false, none, 0⟩
  saf := ⟨0, none, [], false, false, [], [], [], [], [], [], none, false, false, 0⟩
  fio := ⟨[], [], [], 0⟩
  lpe := ⟨[], [], 0, false, [], BobCfg.empty⟩
  qps := ⟨[], none⟩
  net := ⟨[], [], [], [], [], [], [], [], []⟩
  can := ⟨[], []⟩
  ptp := ⟨0, 0, none, [], [], [], [], [], []⟩
  pair := Pair.fresh
  pnl := Panel.fresh
  pwr := Power.fresh
  upd := Update.fresh
  sec := Security.fresh
  rst := ResetState.fresh
  tmp := ⟨true, true⟩
  dgt := Diagnosis.fresh
  freeCount := 0

end Sys2Proof.Machine
end

