-- ==== Sys2Proof/Machine/PatternView.lean ====
section
/-!
DEFINITION. Reading a loaded Pattern: its header (Table 3.1), its sections (Table 3.4) and the records of the sections
that every engine needs: TOPOLOGY, SCHEDULE, tasks, memory, grants and symbols (Tables 3.5, 3.6, 5.1, 4.11 to 4.13).
-/

namespace Sys2Proof.Machine

namespace Pattern

/-- Section types of Table 3.4. -/
def TOPOLOGY : Nat := 1
def SCHEDULE : Nat := 2
def CODE : Nat := 3
def INITDATA : Nat := 4
def MEMORY : Nat := 5
def LOOPS : Nat := 6
def SOLVER : Nat := 7
def IO : Nat := 8
def NETWORK : Nat := 9
def SELVEDGE : Nat := 10
def LINING : Nat := 11
def RECORDER : Nat := 12
def PANEL : Nat := 13
def POWER : Nat := 14
def GRANTS : Nat := 15
def SYMBOLS : Nat := 16

end Pattern

variable (p : Pattern)

/-- The section of a type, if the Pattern holds one (R58: each type at most once). -/
def Pattern.section? (t : Nat) : Option Section := p.sections.find? (fun s => s.typ == t)

/-- The bytes of a section; none if it is absent. -/
def Pattern.bytes (t : Nat) : Bytes := ((p.section? t).map (·.bytes)).getD []

/-- The number of items of a section. -/
def Pattern.items (t : Nat) : Nat := ((p.section? t).map (·.items)).getD 0

/-- Item k of a section whose items have the given size; empty if there is none. -/
def Pattern.item (t size k : Nat) : Bytes :=
  if k < p.items t then ((p.bytes t).drop (k * size)).take size else []

/-- Header fields (Table 3.1). -/
def Pattern.contract : Nat := p.header.u16 8
def Pattern.patternId : Nat := p.header.u64 16
def Pattern.generation : Nat := p.header.u32 24
def Pattern.baseGen : Nat := p.header.u32 28
def Pattern.stationAddr : Nat := p.header.u16 32
def Pattern.flags : Nat := p.header.u16 34
def Pattern.olcEnable : Bool := bitOf p.flags 0
def Pattern.paired : Bool := bitOf p.flags 1
def Pattern.degradedClkRun : Bool := bitOf p.flags 2
def Pattern.checkValue : Nat := p.header.u32 36
def Pattern.retainLayout : Nat := p.header.u32 40

/-- DIGEST of the trailer (Table 3.3). -/
def Pattern.digest : Bytes := (p.trailer.drop 16).take 48

/-- TOPOLOGY item (Table 3.5). -/
def Pattern.topo : Bytes := p.item Pattern.TOPOLOGY 64 0
def Pattern.periodSel : Nat := p.topo.u8 0
def Pattern.guardTicks : Nat := p.topo.u8 1
def Pattern.seamLen : Nat := p.topo.u16 2
def Pattern.epochLen : Nat := p.topo.u8 4
def Pattern.witness (k : Nat) : Nat := p.topo.u16 (8 + 2 * k)

/-- Stitch period in ns by PERIOD_SEL (Table 2.1). -/
def periodNs (sel : Nat) : Nat :=
  match sel with
  | 0 => 50000
  | 1 => 62500
  | 2 => 100000
  | 3 => 125000
  | 4 => 250000
  | 5 => 500000
  | _ => 125000

/-- Usable ticks of a stitch (R37). -/
def usableTicks (period : Nat) : Nat := period / 200

/-- KIND of a slot entry (Table 2.4). -/
def entryKind (k : Nat) : EntryKind :=
  match k with
  | 0 => .coreSeg
  | 1 => .selvSeg
  | 2 => .evtSlot
  | 3 => .loopGrp
  | 4 => .qpStart
  | 5 => .netTx
  | 6 => .retainCommit
  | 7 => .outApply
  | 8 => .selftest
  | _ => .reserved

/-- A slot entry word taken apart (R44, Table 2.4). -/
def slotEntry (w : Nat) : SlotEntry :=
  ⟨bitsOf w 11 0, bitsOf w 23 12, entryKind (bitsOf w 27 24), bitsOf w 27 24, bitsOf w 47 28, bitsOf w 63 48⟩

/-- Agent record (R64): TABLES, MAP_OFF, INDEX_OFF. -/
def Pattern.agentTables (a : Nat) : Nat := (p.item Pattern.SCHEDULE 16 a).u16 0
def Pattern.agentMapOff (a : Nat) : Nat := (p.item Pattern.SCHEDULE 16 a).u32 4
def Pattern.agentIndexOff (a : Nat) : Nat := (p.item Pattern.SCHEDULE 16 a).u32 8

/-- The stitch table that an agent's seam map names for a position, if any (R43, R64). -/
def Pattern.tableAt (a pos : Nat) : Option Nat :=
  if p.agentTables a = 0 then none else
  let v := (p.bytes Pattern.SCHEDULE).u16 (p.agentMapOff a + 2 * pos)
  if v < p.agentTables a then some v else none

/-- Number of entries of an agent's stitch table, and entry k of it (R64). -/
def Pattern.tableLen (a t : Nat) : Nat := (p.bytes Pattern.SCHEDULE).u16 (p.agentIndexOff a + 8 * t)
def Pattern.tableEntry (a t k : Nat) : SlotEntry :=
  slotEntry ((p.bytes Pattern.SCHEDULE).u64 ((p.bytes Pattern.SCHEDULE).u32 (p.agentIndexOff a + 8 * t + 4) + 8 * k))

/-- The entries of a stitch table in order. -/
def Pattern.tableEntries (a t : Nat) : List SlotEntry :=
  (List.range (p.tableLen a t)).map (p.tableEntry a t)

/-- Core code item (Table 4.11). -/
def Pattern.codeItem (k : Nat) : Bytes := p.item Pattern.CODE 16 k
def Pattern.codeOff (c : Nat) : Nat := (p.codeItem c).u32 0
def Pattern.codeLen (c : Nat) : Nat := (p.codeItem c).u32 4
def Pattern.codeLoad (c : Nat) : Nat := (p.codeItem c).u32 8
def Pattern.codeImage (c : Nat) : Bytes := ((p.bytes Pattern.CODE).drop (p.codeOff c)).take (p.codeLen c)

/-- Task descriptor, item 8 + k (Table 5.1). -/
def Pattern.task (k : Nat) : Bytes := if k < 32 then p.codeItem (8 + k) else []
def Pattern.taskKind (k : Nat) : Nat := (p.task k).u8 0
def Pattern.taskPriority (k : Nat) : Nat := (p.task k).u8 1
def Pattern.taskSuspend (k : Nat) : Bool := bitOf ((p.task k).u16 2) 0
def Pattern.taskOutHold (k : Nat) : Bool := bitOf ((p.task k).u16 2) 1
def Pattern.taskPeriod (k : Nat) : Nat := (p.task k).u16 4
def Pattern.taskPhase (k : Nat) : Nat := (p.task k).u16 6
def Pattern.taskCore (k : Nat) : Nat := (p.task k).u8 8
def Pattern.taskSegments (k : Nat) : Nat := (p.task k).u8 9
def Pattern.taskTrigger (k : Nat) : Nat := (p.task k).u16 10
def Pattern.taskSegOff (k : Nat) : Nat := (p.task k).u32 12

/-- Segment record j of task k: ENTRY, STACK_TOP, STACK_LEN; and the output record (R110). -/
def Pattern.segEntry (k j : Nat) : Nat := (p.bytes Pattern.CODE).u32 (p.taskSegOff k + 16 * j)
def Pattern.segStackTop (k j : Nat) : Nat := (p.bytes Pattern.CODE).u32 (p.taskSegOff k + 16 * j + 4)
def Pattern.segStackLen (k j : Nat) : Nat := (p.bytes Pattern.CODE).u32 (p.taskSegOff k + 16 * j + 8)
def Pattern.outOff (k : Nat) : Nat := (p.bytes Pattern.CODE).u32 (p.taskSegOff k + 16 * p.taskSegments k)
def Pattern.outLen (k : Nat) : Nat := (p.bytes Pattern.CODE).u32 (p.taskSegOff k + 16 * p.taskSegments k + 4)

/-- Queue item q (Table 4.12). -/
def Pattern.queue (q : Nat) : Bytes := p.item Pattern.MEMORY 32 q
def Pattern.queueDefined (q : Nat) : Bool := bitOf ((p.queue q).u8 0) 0
def Pattern.queueProducer (q : Nat) : Nat := (p.queue q).u8 1
def Pattern.queueConsumer (q : Nat) : Nat := (p.queue q).u8 2
def Pattern.queueDepth (q : Nat) : Nat := (p.queue q).u16 4
def Pattern.queueSize (q : Nat) : Nat := (p.queue q).u16 6
def Pattern.queueOff (q : Nat) : Nat := (p.queue q).u32 8

/-- Shared SRAM region records (R99, Table 4.13). -/
def Pattern.regionCount : Nat := (p.bytes Pattern.MEMORY).u32 4096
def Pattern.regionOff (r : Nat) : Nat := (p.bytes Pattern.MEMORY).u32 (4100 + 16 * r)
def Pattern.regionLen (r : Nat) : Nat := (p.bytes Pattern.MEMORY).u32 (4104 + 16 * r)
def Pattern.regionKind (r : Nat) : Nat := (p.bytes Pattern.MEMORY).u8 (4108 + 16 * r)
def Pattern.regionRead (r : Nat) : Nat := (p.bytes Pattern.MEMORY).u8 (4109 + 16 * r)
def Pattern.regionWrite (r : Nat) : Nat := (p.bytes Pattern.MEMORY).u8 (4110 + 16 * r)

/-- The region that holds a byte of the shared SRAM, if any. -/
def Pattern.regionOf (off : Nat) : Option Nat :=
  (List.range p.regionCount).find? (fun r => p.regionOff r ≤ off && off < p.regionOff r + p.regionLen r)

/-- The whole run lies in one region of a kind. -/
def Pattern.inOneRegion (off len kind : Nat) : Bool :=
  (List.range p.regionCount).any (fun r => p.regionKind r == kind && p.regionOff r ≤ off &&
    off + len ≤ p.regionOff r + p.regionLen r)

/-- Grant k (R100). -/
def Pattern.grantAddr (k : Nat) : Nat := (p.item Pattern.GRANTS 8 k).u32 0
def Pattern.grantAccess (k : Nat) : Nat := (p.item Pattern.GRANTS 8 k).u8 4
def Pattern.grantCores (k : Nat) : Nat := (p.item Pattern.GRANTS 8 k).u8 5

/-- INITDATA item (Table 5.6). -/
def Pattern.initItem (k : Nat) : Bytes := p.item Pattern.INITDATA 16 k
def Pattern.autoStart : Nat := (p.initItem 0).u8 2

/-- Continuation bytes that must follow in UTF-8, and the range of the first of them; none: not UTF-8. -/
def utf8Step (st : Option (Nat × Nat × Nat)) (b : Byte) : Option (Nat × Nat × Nat) :=
  let v := b.toNat
  match st with
  | none => none
  | some (0, _, _) =>
    if v < 0x80 then some (0, 0, 0)
    else if v < 0xC2 then none
    else if v < 0xE0 then some (1, 0x80, 0xBF)
    else if v < 0xF0 then some (2, if v = 0xE0 then 0xA0 else 0x80, if v = 0xED then 0x9F else 0xBF)
    else if v < 0xF5 then some (3, if v = 0xF0 then 0x90 else 0x80, if v = 0xF4 then 0x8F else 0xBF)
    else none
  | some (n + 1, lo, hi) => if lo ≤ v ∧ v ≤ hi then some (n, 0x80, 0xBF) else none

/-- A name is UTF-8 (R65). -/
def utf8Ok (name : Bytes) : Bool :=
  match name.foldl utf8Step (some (0, 0, 0)) with
  | some (0, _, _) => true
  | _ => false

/-- Symbol k (Table 3.6), and the index of a SYM_ID. -/
def Pattern.symbol (k : Nat) : Bytes := p.item Pattern.SYMBOLS 32 k
/-- A symbol's name in the heap (R65). -/
def Pattern.symName (k : Nat) : Bytes :=
  ((p.bytes Pattern.SYMBOLS).drop ((p.symbol k).u32 24)).take ((p.symbol k).u16 28)
def Pattern.symId (k : Nat) : Nat := (p.symbol k).u32 0
def Pattern.symKind (k : Nat) : Nat := (p.symbol k).u8 4
def Pattern.symType (k : Nat) : Nat := (p.symbol k).u8 5
def Pattern.symFlags (k : Nat) : Nat := (p.symbol k).u16 6
def Pattern.symRegion (k : Nat) : Nat := (p.symbol k).u8 8
def Pattern.symOff (k : Nat) : Nat := (p.symbol k).u32 12
def Pattern.symSize (k : Nat) : Nat := (p.symbol k).u32 16
def Pattern.symIndex (id : Nat) : Option Nat :=
  (List.range (p.items Pattern.SYMBOLS)).find? (fun k => p.symId k == id)

/-- RECORDER item of a code (Table 14.3). -/
def Pattern.recItem (code : Nat) : Option Bytes :=
  ((List.range (p.items Pattern.RECORDER)).map (p.item Pattern.RECORDER 128)).find? (fun it => it.u16 0 == code)

end Sys2Proof.Machine
end

