-- ==== Sys2Proof/Machine/Ops.lean ====
section
/-!
DEFINITION. The named operations every engine uses: the outcome of a command, register fields, memory, ship time,
events, triggers and queues.
-/

namespace Sys2Proof.Machine

/-- What a command answers. -/
abbrev Result := Host.Outcome State Fault Refusal

/-- A command on a unit the module has answers the next state; one on any other unit is refused by name. -/
def onUnit (ok : Bool) (t : State) : Result := if ok then .next t else .refused .noSuchUnit

/-! ### Registers (R8) -/

/-- Mask of n bits. -/
def maskBits (n : Nat) : BitVec 32 := BitVec.ofNat 32 (2 ^ n - 1)

/-- Width of a field. -/
def Fld.width (f : Fld) : Nat := f.hi - f.lo + 1

/-- The field read out of a register word. -/
def Fld.pick (f : Fld) (w : BitVec 32) : Nat := ((w >>> f.lo) &&& maskBits f.width).toNat

/-- The register word with the field replaced. -/
def Fld.put (f : Fld) (w : BitVec 32) (v : Nat) : BitVec 32 :=
  (w &&& ~~~(maskBits f.width <<< f.lo)) ||| ((BitVec.ofNat 32 v &&& maskBits f.width) <<< f.lo)

/-- Register word at an address. -/
def State.getR (s : State) (a : Nat) : BitVec 32 := Store.get regReset s.regs a

/-- The state with a register word replaced. -/
def State.setR (s : State) (a : Nat) (w : BitVec 32) : State := { s with regs := Store.set regReset s.regs a w }

/-- Value of a register field. -/
def State.getF (s : State) (f : Fld) : Nat := f.pick (s.getR f.addr)

/-- The state with a register field replaced. -/
def State.setF (s : State) (f : Fld) (v : Nat) : State := s.setR f.addr (f.put (s.getR f.addr) v)

/-- Is a one-bit field set? -/
def State.isSet (s : State) (f : Fld) : Bool := s.getF f == 1

/-- Set or clear a one-bit field. -/
def State.setB (s : State) (f : Fld) (b : Bool) : State := s.setF f (if b then 1 else 0)

/-- A counter field that saturates at its maximum, raised by n. -/
def State.addSat (s : State) (f : Fld) (n : Nat) : State := s.setF f (min (2 ^ f.width - 1) (s.getF f + n))

/-- A saturating counter field, raised by 1. -/
def State.incSat (s : State) (f : Fld) : State := s.addSat f 1

/-- A counter field that wraps, raised by 1. -/
def State.incWrap (s : State) (f : Fld) : State := s.setF f (s.getF f + 1)

/-- A saturating counter field, lowered by 1. -/
def State.decF (s : State) (f : Fld) : State := s.setF f (s.getF f - 1)

/-- What GLB_ACCERR records of a refused access (Table 0.6). -/
inductive AccErr where
  | reservedAddr | badWidth | refusedRo | refusedRws
  deriving DecidableEq, Repr

def AccErr.flag : AccErr → Fld
  | .reservedAddr => F.GLB_ACCERR_RESERVED_ADDR
  | .badWidth => F.GLB_ACCERR_BAD_WIDTH
  | .refusedRo => F.GLB_ACCERR_REFUSED_RO
  | .refusedRws => F.GLB_ACCERR_REFUSED_RWS

/-- Table 4.12 and R14 number the requesters of a register access. -/
def Requester.source : Requester → Nat
  | .supervisor => 0
  | .application _ => 1
  | .engService => 2
  | .cmp => 3

/-- A refused access (R10, R14): its flags are set, COUNT rises by 1, SOURCE takes the requester. -/
def State.accErr (s : State) (req : Requester) (es : List AccErr) : State :=
  if es.isEmpty then s else
    ((es.foldl (fun s e => s.setF e.flag 1) s).incSat F.GLB_ACCERR_COUNT).setF F.GLB_ACCERR_SOURCE (Requester.source req)

/-! ### Power domains (R29, Table 16.1): CORE0 to CORE7 are 0 to 7, NET_A, NET_B and SVC the ports 0 to 2 -/

def domLoop : Nat := 8
def domSolver : Nat := 9
def domPort (port : Nat) : Nat := 10 + port
def domSvc : Nat := 12
def domCan : Nat := 13
def domDio : Nat := 14
def domClo : Nat := 15
def domPanel : Nat := 16
def domLink : Nat := 17
def State.domainOn (s : State) (d : Nat) : Bool := bitOf (s.getF F.PWR_DOMAINS_ON) d

/-- The register bus is served: the module is not off, not held in reset and not in WATCH. At any other time no
requester's access arises, and a command that one would write changes nothing (log 90). -/
def State.reachable (s : State) : Bool := s.station != .off && s.station != .watch && !s.rst.held

/-- The outcome of an access, while the register bus is served. -/
def State.access (s : State) (t : State) : State := if s.reachable then t else s

/-- A requester's accesses are served: while the register bus is, and the carrier management port's in WATCH too (R462). -/
def State.serves (s : State) (req : Requester) : Bool :=
  s.reachable || (req == .cmp && s.station == .watch && !s.rst.held)
def State.accessBy (s : State) (req : Requester) (t : State) : State := if s.serves req then t else s

/-- A system-block grant of the active Pattern names a register for a core: access bit 0 to read, bit 1 to write (R97,
R100). -/
def State.grantedAt (s : State) (core a bit : Nat) : Bool :=
  (s.pat.active.map (fun p => (List.range (p.items Pattern.GRANTS)).any (fun k =>
    p.grantAddr k == a && bitOf (p.grantAccess k) bit && bitOf (p.grantCores k) core))).getD false

/-- The requester's reads reach a register (R33): application code's by a grant, the engineering service's in a session
(R421). Of any other no access arises, and nothing changes (log 90). -/
def State.mayRead (s : State) (req : Requester) (a : Nat) : Bool :=
  match req with
  | .application c => s.grantedAt c a 0
  | .engService => decide (0 < s.sec.sessions)
  | _ => true

/-- The requester's writes reach a register (R33). A session opened before enrolment writes only ENROL (`enrol`), and
the SEC_DATA words that hold its key (R421). -/
def State.mayWrite (s : State) (req : Requester) (a : Nat) (enrol : Bool := false) : Bool :=
  match req with
  | .application c => s.grantedAt c a 1
  | .engService => decide (0 < s.sec.owned) || (decide (0 < s.sec.sessions) &&
      (enrol || (decide ((F.SEC_DATA_DATA 0).addr ≤ a) && decide (a < (F.SEC_DATA_DATA 0).addr + 256))))
  | _ => true

/-- A command that a requester writes into the command register of a field. A write of the carrier management port to
any of them is a write to an RO field (R13). -/
def State.commanded (s : State) (req : Requester) (f : Fld) (t : State) : State :=
  s.accessBy req (if req = .cmp then s.accErr req [.refusedRo] else if s.mayWrite req f.addr then t else s)
def State.command (s : State) (req : Requester) (f : Fld) (t : State) : Result := .next (s.commanded req f t)

/-- A write that its register's chapter judges for every requester, the carrier management port's among them. -/
def State.writing (s : State) (req : Requester) (f : Fld) (t : State) : State :=
  s.accessBy req (if s.mayWrite req f.addr then t else s)

/-! ### Memory (R16, R19) -/

namespace Mem

/-- Model addresses of the memories: the spec gives them no common address space. -/
def iram (core : Nat) : Nat := 0x01000000 + core * 0x40000
def dram (core : Nat) : Nat := 0x02000000 + core * 0x80000
def shared : Nat := 0x03000000
def solver (ctx : Nat) : Nat := 0x05000000 + ctx * 0x80000
def bobbin : Nat := 0x06000000
def panelStore : Nat := 0x07000000
def loopStore (ch : Nat) : Nat := 0x08000000 + ch * 0x400
def supervisor : Nat := 0x09000000
def monitor : Nat := 0x0A000000
def timebase : Nat := 0x0B000000
def mram : Nat := 0x10000000
def recorderSlot (k : Nat) : Nat := mram + 256 * k
def retainBank (b : Nat) : Nat := mram + 0x800000 + b * 0x200000
def journal : Nat := mram + 0xC00000
def flash : Nat := 0x20000000
def fwSlot (k : Nat) : Nat := flash + k * 0x2000000
def patSlot (k : Nat) : Nat := flash + 0x4000000 + k * 0x2000000

/-- Words of the journal area (the spec says that they lie there, not where). -/
def patJournal : Nat := journal
def fwJournal : Nat := journal + 8
def floorWord : Nat := journal + 16
def panelJournal : Nat := journal + 24
def confirmedCheck : Nat := journal + 32
def spareWord : Nat := journal + 40

end Mem

/-- What a byte of memory that nothing has written reads as. -/
def memDefault (_ : Nat) : BitVec 8 := 0

/-- The canonical form of the memory: addresses strictly rising, no entry equal to what an unlisted address reads
as. -/
abbrev Memory.wf (m : List Host.Cell) : Bool := Store.wf memDefault m

/-- One byte of memory. -/
def State.rdByte (s : State) (a : Nat) : BitVec 8 := Store.get memDefault s.mem a

/-- The state with one byte of memory written. -/
def State.wrByte (s : State) (a : Nat) (b : BitVec 8) : State := { s with mem := Store.set memDefault s.mem a b }

/-- n bytes of memory from an address. -/
def State.rdBytes (s : State) (a n : Nat) : Bytes := (List.range n).map fun i => s.rdByte (a + i)

/-- Bytes written from an address upwards. -/
def writeBytes (m : List Host.Cell) (a : Nat) : Bytes → List Host.Cell
  | [] => m
  | b :: bs => writeBytes (Store.set memDefault m a b) (a + 1) bs

/-- Every byte of a range set to 0. -/
def State.clearRange (s : State) (lo n : Nat) : State :=
  { s with mem := s.mem.filter (fun c => !(decide (lo ≤ c.1) && decide (c.1 < lo + n))) }

/-- The state with bytes written from an address upwards. -/
def State.wrBytes (s : State) (a : Nat) (bs : Bytes) : State := { s with mem := writeBytes s.mem a bs }

/-- Little-endian number of n bytes (R7). -/
def State.rdLe (s : State) (a n : Nat) : Nat := Bytes.le (s.rdBytes a n)

/-- Little-endian write of n bytes (R7). -/
def State.wrLe (s : State) (a n v : Nat) : State := s.wrBytes a (leBytes n v)

/-! ### Ship time (R34, R314) -/

/-- Ship time in whole nanoseconds. -/
def State.nowNs (s : State) : Nat := s.clock.now.toNat / 2 ^ 32

/-- Time in ns by which durations are measured: ship time without its steps and REBASEs. -/
def State.elapsedNs (s : State) : Nat := ((s.nowNs : Int) - s.clock.moved).toNat

/-- Ship time after n advances of the timebase (R314). -/
def Clock.advance (c : Clock) (n : Nat) : Clock := { c with now := c.now + BitVec.ofNat 96 (n * c.incr.toNat) }

/-- Advances needed until ship time has reached a time in ns; at least the given number. -/
def Clock.advancesTo (c : Clock) (ns atLeast : Nat) : Nat :=
  if c.incr = 0 then atLeast else max atLeast (ceilDiv (ns * 2 ^ 32 - c.now.toNat) c.incr.toNat)

/-- The state at the first advance at which ship time has reached ns; unchanged if it has already. -/
def State.advanceTo (s : State) (ns : Nat) : State :=
  { s with clock := s.clock.advance (s.clock.advancesTo ns 0) }

/-- Ship time at which tick k of the current stitch begins (R37, R40). -/
def State.tickNs (s : State) (k : Nat) : Nat := (((s.clock.edge.toNat : Int) + s.clock.shift).toNat) + 200 * k

/-- The state at the beginning of tick k of the current stitch, or later. -/
def State.atTick (s : State) (k : Nat) : State := s.advanceTo (s.tickNs k)

/-! ### Free values: what the spec leaves open -/

/-- The next free number, and the state that has used it. -/
def State.fresh (s : State) : Nat × State := (Config.freeNat s.freeCount, { s with freeCount := s.freeCount + 1 })

/-! ### The event recorder's raise (R355 to R357) -/

/-- Does a code have a token bucket of default values, and which: BURST and REFILL (R356). -/
def defaultBucket (code : Nat) : Nat × Nat :=
  if code < 0x1000 then (16, 8000)
  else if code < 0x2000 then (64, 800)
  else if code < 0x3000 then (16, 8000)
  else (0, 0)

/-- BURST and REFILL of a code: of its RECORDER item, or the defaults of its range. -/
def State.bucket (s : State) (code : Nat) : Nat × Nat :=
  match s.pat.active.bind (fun p => p.recItem code) with
  | some it => (it.u8 2, it.u16 4)
  | none => defaultBucket code

/-- Raises of a code suppressed and not yet carried by a record (R357). -/
def State.suppressedOf (s : State) (code : Nat) : Nat := Store.get (fun _ => 0) s.evr.suppressed code

/-- Tokens that a code's bucket lacks (R356). -/
def State.missingOf (s : State) (code : Nat) : Nat := Store.get (fun _ => 0) s.evr.missing code

/-- The state with the suppressed count of a code replaced. -/
def State.setSuppressed (s : State) (code n : Nat) : State :=
  { s with evr := { s.evr with suppressed := Store.set (fun _ => 0) s.evr.suppressed code n } }

/-- The state with a raise added to the staging queue and its token taken. -/
def State.stage (s : State) (code : Nat) (e : Staged) : State :=
  let m := Store.set (fun _ => 0) s.evr.missing code (s.missingOf code + 1)
  { s with evr := { s.evr with staged := s.evr.staged ++ [e], missing := m } }

/-- Raise with a class given (R355): dropped when 64 raises are staged, suppressed when no token is left, else
staged with the count of suppressed raises of its code. -/
def State.raiseCls (s : State) (code source cls : Nat) (payload : List Nat) : State :=
  if 64 ≤ s.evr.staged.length then
    let s := s.incSat F.EVR_STATUS_LOST
    { s with evr := { s.evr with lostFlag := true } }
  else
    if (s.bucket code).1 ≤ s.missingOf code then
      s.setSuppressed code (min 0xFFFF (s.suppressedOf code + 1))
    else
      let e : Staged := ⟨BitVec.ofNat 16 code, BitVec.ofNat 16 source, cls, payload.map (BitVec.ofNat 32),
        s.suppressedOf code, false⟩
      ((s.stage code e).setSuppressed code 0).setF F.EVR_STATUS_STAGED (s.evr.staged.length + 1)

/-- Raise with the class of the code's event table. -/
def State.raise (s : State) (code source : Nat) (payload : List Nat) : State :=
  s.raiseCls code source (classOf code) payload

/-- SOURCE of Table 14.2. -/
def srcSupervisor : Nat := 0
def srcMonitor : Nat := 0x1000
def srcCore (c : Nat) : Nat := 0x2000 + c
def srcLoop (ch : Nat) : Nat := 0x3000 + ch
def srcSolver (x : Nat) : Nat := 0x4000 + x
def srcField (ch : Nat) : Nat := 0x5000 + ch
def srcClo (o : Nat) : Nat := 0x5100 + o
def srcCan (n : Nat) : Nat := 0x6000 + n
def srcEth (p : Nat) : Nat := 0x7000 + p
def srcTime : Nat := 0x7100
def srcPair : Nat := 0x8000
def srcPanel : Nat := 0x9000
def srcPower : Nat := 0xA000
def srcUpdate : Nat := 0xB000
def srcEng : Nat := 0xC000

/-- Channel, plant port and loop channel that SOURCE names for an event of a supply or group, of a set or connection,
of the Bobbin (log 75). -/
def srcFieldOf (event unit : Nat) : Nat := srcField (Config.sourceIndex event unit % 48)
def srcPlantOf (event unit : Nat) : Nat := srcEth (Config.sourceIndex event unit % 2)
def srcLoopOf (event : Nat) : Nat := srcLoop (Config.sourceIndex event 0 % 256)

/-- A payload word that names a thing without a number of the spec (log 74). -/
def payloadNo (event thing : Nat) : Nat := Config.payloadCode event thing % 2 ^ 32

/-- Low and high word of a 64-bit payload item (R483). -/
def lo32 (v : Nat) : Nat := v % 2 ^ 32
def hi32 (v : Nat) : Nat := v / 2 ^ 32 % 2 ^ 32

/-- AUTH_FAIL (Table 17.11): the spec gives its payload word "Source" no values, so it is free (log 73). -/
def State.authFail (s : State) : State :=
  let (v, s) := s.fresh
  s.raise Ev.AUTH_FAIL srcUpdate [lo32 v]

/-- Causes of a TIME_MARK (Table 14.4). -/
inductive MarkCause where
  | start | periodic | stepApplied | stepRefused | rebase | wake | manual
  deriving DecidableEq, Repr

def MarkCause.code : MarkCause → Nat
  | .start => 0
  | .periodic => 1
  | .stepApplied => 2
  | .stepRefused => 3
  | .rebase => 4
  | .wake => 5
  | .manual => 6

/-- A time mark (R362, R363): words 0 to 5 captured at the raise, words 6 and 7 the signed correction. Bit 0 of
word 5 (TIME_DISCONTINUITY, R364) is decided when the record is committed. A mark restarts the 60 s count. -/
def State.timeMark (s : State) (c : MarkCause) (corr : Int) : State :=
  let flags := (if s.isSet F.PTP_STATUS_TIME_INITIAL then 2 else 0) + (if s.isSet F.PTP_STATUS_LOCKED then 4 else 0) +
    (if s.isSet F.PTP_STATUS_USABLE then 8 else 0)
  let s := s.raise Ev.TIME_MARK srcTime
    [lo32 s.nowNs, hi32 s.nowNs, s.clock.now.toNat % 2 ^ 32, lo32 s.clock.stitch.toNat, hi32 s.clock.stitch.toNat,
     flags + 256 * c.code, lo32 (unsgn 64 corr), hi32 (unsgn 64 corr)]
  { s with evr := { s.evr with sinceMark := 0 } }

/-! ### Station and role (R3, R4) -/

def Role.code : Role → Nat
  | .solo => 0
  | .active => 1
  | .standby => 2
  | .stale => 3
  | .isolated => 4
  | .syncing => 5

/-- The role that PAIR_STATUS shows. -/
def State.roleIs (s : State) (r : Role) : Bool := s.getF F.PAIR_STATUS_ROLE == r.code

/-! ### Agents and cores -/

def State.agent (s : State) (a : Nat) : Agent := Store.get (fun _ => Agent.idle) s.sched.agents a
def State.setAgent (s : State) (a : Nat) (x : Agent) : State :=
  { s with sched := { s.sched with agents := Store.set (fun _ => Agent.idle) s.sched.agents a x } }
def State.core (s : State) (c : Nat) : Core := Store.get (fun _ => Core.idle) s.cores c
def State.setCore (s : State) (c : Nat) (x : Core) : State :=
  { s with cores := Store.set (fun _ => Core.idle) s.cores c x }

/-- Seam position of the current stitch (R36). -/
def State.seamPos (s : State) : Nat := s.getF F.SCH_STATUS_SEAM_POS

/-- The entry an agent's table holds at an index in this stitch, if the slot tables run (R46). -/
def State.scheduled (s : State) (a k : Nat) : Option Running :=
  if s.isSet F.SCH_STATUS_RUNNING then
    match s.pat.active with
    | none => none
    | some p =>
      match p.tableAt a s.seamPos with
      | none => none
      | some t => if k < p.tableLen a t then some ⟨t, k, p.tableEntry a t k⟩ else none
  else none

/-! ### Triggers of event tasks (R120, R121) -/

def State.triggersOf (s : State) (k : Nat) : List Trigger := Store.get (fun _ => []) s.tasks.triggers k
def State.setTriggers (s : State) (k : Nat) (l : List Trigger) : State :=
  let s := s.setF (F.SCH_TASK_STATUS_QFILL k) l.length
  { s with tasks := { s.tasks with triggers := Store.set (fun _ => []) s.tasks.triggers k l } }

/-- The tick of the current stitch at this time. -/
def State.tickNow (s : State) : Nat := (s.nowNs - s.tickNs 0) / 200

/-- Post a trigger to an event task in a tick; the ninth is dropped and counted (R121). Answers whether it was queued.
-/
def State.postAt (s : State) (k code arg tick : Nat) : Bool × State :=
  let l := s.triggersOf k
  if l.length < 8 then
    (true, s.setTriggers k (l ++ [⟨BitVec.ofNat 16 code, BitVec.ofNat 64 arg, s.clock.stitch, tick⟩]))
  else
    (false, (s.incSat (F.SCH_TASK_STATUS_OVERFLOW k)).raise Ev.TRIGGER_OVERFLOW srcSupervisor [k, code])

/-- Tasks whose TRIGGER is the code (R120). -/
def State.tasksTriggeredBy (s : State) (code : Nat) : List Nat :=
  match s.pat.active with
  | none => []
  | some p => ((List.range 16).map (· + 16)).filter (fun k => p.taskKind k == 2 && p.taskTrigger k == code)

/-- Post a trigger from its source, in a tick, to the tasks configured for it (Table 5.3). -/
def State.postTriggerAt (s : State) (code arg tick : Nat) : State :=
  (s.tasksTriggeredBy code).foldl (fun s k => (s.postAt k code arg tick).2) s

/-- Post a trigger now. -/
def State.postTrigger (s : State) (code arg : Nat) : State := s.postTriggerAt code arg s.tickNow

/-! ### Hardware queues (R23, R96) -/

def State.queueState (s : State) (q : Nat) : QueueState := Store.get (fun _ => QueueState.empty) s.queues q
def State.setQueue (s : State) (q : Nat) (x : QueueState) : State :=
  { s with queues := Store.set (fun _ => QueueState.empty) s.queues q x }

/-- Address of place i of queue q's storage. -/
def queuePlace (p : Pattern) (q i : Nat) : Nat :=
  Mem.shared + p.queueOff q + (i % p.queueDepth q) * p.queueSize q

/-- Put an element; a full queue counts an overflow and answers false (R23, R96). -/
def State.queuePut (s : State) (p : Pattern) (q : Nat) (e : Bytes) : Bool × State :=
  let x := s.queueState q
  if x.fill < p.queueDepth q then
    (true, (s.wrBytes (queuePlace p q (x.head + x.fill)) (e.take (p.queueSize q))).setQueue q { x with fill := x.fill + 1 })
  else
    (false, s.setQueue q { x with overflow := if x.overflow = 0xFFFFFFFF then x.overflow else x.overflow + 1 })

/-- Get the oldest element, if any. -/
def State.queueGet (s : State) (p : Pattern) (q : Nat) : Option Bytes × State :=
  let x := s.queueState q
  if x.fill = 0 then (none, s) else
    (some (s.rdBytes (queuePlace p q x.head) (p.queueSize q)),
      s.setQueue q { x with head := (x.head + 1) % p.queueDepth q, fill := x.fill - 1 })

/-- The oldest element without removing it. -/
def State.queuePeek (s : State) (p : Pattern) (q : Nat) : Option Bytes :=
  let x := s.queueState q
  if x.fill = 0 then none else some (s.rdBytes (queuePlace p q x.head) (p.queueSize q))

end Sys2Proof.Machine
end

