-- ==== Sys2Proof/Machine/SelvedgeView.lean ====
section
/-!
DEFINITION. Reading the SELVEDGE section (R229, Table 9.1): segments with their run records, functions, safety
inputs, run B symbols and resets.
-/

namespace Sys2Proof.Machine

variable (p : Pattern)

def Pattern.selvItem (k : Nat) : Bytes := p.item Pattern.SELVEDGE 32 k

/-- The items of a KIND, in order. -/
def Pattern.selvItems (kind : Nat) : List Bytes :=
  ((List.range (p.items Pattern.SELVEDGE)).map p.selvItem).filter (fun it => it.u8 0 == kind)

def Pattern.ackCh : Nat := (p.selvItem 0).u8 1
def Pattern.hasSelvedge : Bool := (p.section? Pattern.SELVEDGE).isSome

/-- Segment item of a segment number; the place of its run record (run B second). -/
def Pattern.selvSegment (seg : Nat) : Option Bytes := (p.selvItems 1).find? (fun it => it.u16 2 == seg)
def Pattern.runRecord (seg : Nat) (runB : Bool) : Bytes :=
  match p.selvSegment seg with
  | none => []
  | some it => ((p.bytes Pattern.SELVEDGE).drop (it.u32 4 + (if runB then 32 else 0))).take 32

/-- Fields of a run record. -/
def runEntry (r : Bytes) : Nat := r.u32 0
def runStackTop (r : Bytes) : Nat := r.u32 4
def runStackLen (r : Bytes) : Nat := r.u32 8
def runDataOff (r : Bytes) : Nat := r.u32 12
def runDataLen (r : Bytes) : Nat := r.u32 16
def runOutOff (r : Bytes) : Nat := r.u32 20
def runOutLen (r : Bytes) : Nat := r.u32 24
def runCore (r : Bytes) : Nat := r.u8 28

/-- Segment numbers of the section. -/
def Pattern.segments : List Nat := (p.selvItems 1).map (fun it => it.u16 2)

/-- Function item, and its fields. -/
def Pattern.fnItem (f : Nat) : Option Bytes := (p.selvItems 2).find? (fun it => it.u8 2 == f)
def Pattern.functions : List Nat := (p.selvItems 2).map (fun it => it.u8 2)
def fnInterlock (it : Bytes) : Bool := it.u8 1 == 1
def fnAutoReset (it : Bytes) : Bool := bitOf (it.u8 3) 0
def fnInputs (it : Bytes) : List Nat := ((List.range 8).map (fun k => it.u8 (4 + k))).filter (· != 0xFF)
def fnOutputs (it : Bytes) : List Nat := ((List.range 4).map (fun k => it.u8 (12 + k))).filter (· != 0xFF)
def fnLseg (it : Bytes) : Nat := it.u16 16
def fnCtxMask (it : Bytes) : Nat := it.u8 18
def fnRst (it : Bytes) : Nat := it.u8 19
def fnLogicOff (it : Bytes) : Nat := it.u32 20
def Pattern.fn (f : Nat) : Bytes := (p.fnItem f).getD []

/-- Safety input item, and its fields. -/
def Pattern.inputItem (i : Nat) : Option Bytes := (p.selvItems 3).find? (fun it => it.u8 1 == i)
def Pattern.inputs : List Nat := (p.selvItems 3).map (fun it => it.u8 1)
def inForm (it : Bytes) : Nat := it.u8 2
def inChA (it : Bytes) : Nat := it.u8 3
def inChB (it : Bytes) : Nat := it.u8 4
def inDisc (it : Bytes) : Nat := it.u32 8
def inChannels (it : Bytes) : List Nat := if inForm it = 0 then [inChA it] else [inChA it, inChB it]

/-- Reset item, and its fields. -/
def Pattern.resetItem (r : Nat) : Option Bytes := (p.selvItems 5).find? (fun it => it.u8 1 == r)
def Pattern.resets : List Nat := (p.selvItems 5).map (fun it => it.u8 1)
def rstCh (it : Bytes) : Nat := it.u8 2
def rstMask (it : Bytes) : Nat := it.u64 8

/-- IO item of a digital channel (ch 0 to 47) or a current-loop output (48 to 55); bytes are Tables 8.2 and 8.11. -/
def Pattern.io (k : Nat) : Bytes := p.item Pattern.IO 32 k

/-- The channels of a group (R195: group g holds channels 8 g to 8 g + 7). -/
def groupOf (ch : Nat) : Nat := ch / 8

/-- Functions that use an input, a channel, a group, a solver context. -/
def Pattern.fnsOfInput (i : Nat) : List Nat := p.functions.filter (fun f => (fnInputs (p.fn f)).contains i)
def Pattern.fnChannels (f : Nat) : List Nat :=
  fnOutputs (p.fn f) ++ ((fnInputs (p.fn f)).map (fun i => (p.inputItem i).elim [] inChannels)).flatten
def Pattern.fnsOfChannel (ch : Nat) : List Nat := p.functions.filter (fun f => (p.fnChannels f).contains ch)
def Pattern.fnsOfGroup (g : Nat) : List Nat :=
  p.functions.filter (fun f => (p.fnChannels f).any (fun ch => groupOf ch == g))
def Pattern.fnsOfContext (c : Nat) : List Nat := p.functions.filter (fun f => bitOf (fnCtxMask (p.fn f)) c)
def Pattern.fnOfOutput (ch : Nat) : Option Nat := p.functions.find? (fun f => (fnOutputs (p.fn f)).contains ch)

/-- Is a channel a selvedge channel: an input or an output of the section. -/
def Pattern.selvedgeOutput (ch : Nat) : Bool := (p.selvItems 2).any (fun it => (fnOutputs it).contains ch)
def Pattern.selvedgeInput (ch : Nat) : Bool := (p.selvItems 3).any (fun it => (inChannels it).contains ch)
def Pattern.selvedgeChannel (ch : Nat) : Bool := p.selvedgeOutput ch || p.selvedgeInput ch

/-- Does an array of Table 4.14 hold selvedge code or data of either run (R104)? -/
def Pattern.selvedgeArray (k : Nat) : Bool :=
  p.segments.any (fun seg => [false, true].any (fun b =>
    let r := p.runRecord seg b
    k == runCore r || k == 8 + runCore r ||
      (0 < runOutLen r && 16 + runOutOff r / 0x100000 ≤ k && k ≤ 16 + (runOutOff r + runOutLen r - 1) / 0x100000)))

end Sys2Proof.Machine
end

