-- ==== Sys2Proof/Machine/SafetyOps.lean ====
section
/-!
DEFINITION. The safety monitor's shared operations: group disconnects, function faults, module-wide causes, MOD_OK
(R228, R236, R243, R251 to R253).
-/

namespace Sys2Proof.Machine

/-- Open or close a group disconnect; DIO_GRPg_STATUS and SAF_STATUS show it. -/
def State.setDisconnect (s : State) (g : Nat) (closed : Bool) : State :=
  let v := s.getF F.SAF_STATUS_DISC_CLOSED
  let v := if bitOf v g then v - 2 ^ g else v
  (s.setB (F.DIO_GRP_STATUS_DISC_OPEN g) (!closed)).setF F.SAF_STATUS_DISC_CLOSED (if closed then v + 2 ^ g else v)

/-- Is a group disconnect closed? -/
def State.discClosed (s : State) (g : Nat) : Bool := !(s.isSet (F.DIO_GRP_STATUS_DISC_OPEN g))

/-- Start or stop the toggling of a group's disconnect drive (R228). -/
def State.setDrive (s : State) (g : Nat) (b : Bool) : State :=
  let v := s.saf.drive.toNat
  let v := if bitOf v g then v - 2 ^ g else v
  { s with saf := { s.saf with drive := BitVec.ofNat 6 (if b then v + 2 ^ g else v) } }

/-- The monitor opens a group: its drive stops and the disconnect opens. -/
def State.openGroup (s : State) (g : Nat) : State := (s.setDrive g false).setDisconnect g false

/-- The monitor closes a group: its drive toggles and the disconnect closes. -/
def State.closeGroup (s : State) (g : Nat) : State := (s.setDrive g true).setDisconnect g true

/-- STATE of a function: 0 NORMAL, 1 TRIPPED, 2 FAULT, 3 unused (Table 9.12). -/
def State.fnState (s : State) (f : Nat) : Nat := s.getF (F.SAF_FN_STATUS_STATE f)

/-- The state with a function's STATE replaced and FAULTS counted again. -/
def State.setFnState (s : State) (f st : Nat) : State :=
  let s := s.setF (F.SAF_FN_STATUS_STATE f) st
  s.setF F.SAF_STATUS_FAULTS (((List.range 64).filter (fun k => s.fnState k == 2)).length)

/-- Causes of a function's FAULT (CAUSE of Table 9.12). -/
inductive FnCause where
  | comparator | discrepancy | drivenExt | testFail | groupOrAdc | solver | refClock | safeHalt
  deriving DecidableEq, Repr

def FnCause.code : FnCause → Nat
  | .comparator => 1
  | .discrepancy => 2
  | .drivenExt => 3
  | .testFail => 4
  | .groupOrAdc => 5
  | .solver => 6
  | .refClock => 7
  | .safeHalt => 8

/-- A class A cause puts a function in FAULT (R236); the entry raises FUNCTION_FAULT. The cause is marked as of this
stitch (R240). -/
def State.faultFn (s : State) (c : FnCause) (f : Nat) : State :=
  let s := { s with saf := { s.saf with stitchCause := Store.set (fun _ => false) s.saf.stitchCause f true } }
  let was := s.fnState f
  let s := (s.setFnState f 2).setF (F.SAF_FN_STATUS_CAUSE f) c.code
  if was = 2 then s else s.raise Ev.FUNCTION_FAULT srcMonitor [f, c.code]

/-- Every function stays in FAULT until a reset edge is accepted for it, whatever restarts between (R250, R254). -/
def State.edgeAllDue (s : State) : State := { s with saf := { s.saf with edgeDue := BitVec.allOnes 64 } }

/-- A reset edge has been accepted for a function. -/
def State.edgeTaken (s : State) (f : Nat) : State :=
  { s with saf := { s.saf with edgeDue := s.saf.edgeDue &&& ~~~(1#64 <<< f) } }

/-! ### Faults present (R339, R377) -/

/-- A class A fault is present: a module-wide cause, or a function in FAULT by a cause other than the lost reference clock,
which is class B (R250, R251). -/
def State.classAPresent (s : State) : Bool :=
  !s.saf.present.isEmpty ||
    (List.range 64).any (fun f => s.fnState f == 2 && s.getF (F.SAF_FN_STATUS_CAUSE f) != FnCause.refClock.code)

/-- A lasting class B fault is present, of those that a state shows: the module runs on the RC oscillator, VIO is out of
range, the TRNG or the panel has failed, a loop channel is FAULTED, a CAN controller is in bus-off. -/
def State.classBPresent (s : State) : Bool :=
  s.isSet F.SCH_STATUS_DEGRADED_CLK || s.rst.vioOut || !(s.isSet F.SEC_STATUS_TRNG_OK) || s.getF F.PNL_STATUS_STATE == 6 ||
    (List.range 256).any (fun c => s.getF (F.LPE_CH_STATUS_MODE c) == 2) ||
    (List.range 8).any (fun n => s.getF (F.CAN_STATUS_STATE n) == 3)

/-- The counts of class A and class B faults present. The spec does not say how faults are counted: a count is free, but
none where no class A fault is present, and at least one where a fault of the class is (log 53). -/
def State.faultCounts (s : State) : (Nat × Nat) × State :=
  let (a, s) := s.fresh
  let (b, s) := s.fresh
  ((if s.classAPresent then 1 + a % 65535 else 0, if s.classBPresent then 1 + b % 65535 else b % 65536), s)

def State.faultFns (s : State) (c : FnCause) (fs : List Nat) : State := fs.foldl (fun s f => s.faultFn c f) s

/-- The functions of the active Pattern that a query selects. -/
def State.patFns (s : State) (q : Pattern → List Nat) : List Nat := (s.pat.active.map q).getD []

/-- A property of the active Pattern; false without one. -/
def State.patIs (s : State) (q : Pattern → Bool) : Bool := (s.pat.active.map q).getD false

/-- Functions whose LSEG, or whose outputs' command bytes, belong to a segment (Table 9.3). -/
def Pattern.fnsOfSegment (p : Pattern) (seg : Nat) : List Nat :=
  p.functions.filter (fun f => fnLseg (p.fn f) == seg ||
    (fnOutputs (p.fn f)).any (fun ch => (p.io ch).u8 10 == 0xFE && (p.io ch).u16 20 == seg))

/-- MOD_OK is asserted only under R252; shown in SAF_STATUS. -/
def State.modOk (s : State) : Bool :=
  s.saf.selftestOk && !(s.isSet F.DGT_STATUS_SCAN) && s.saf.present.isEmpty && s.saf.haltCause.isNone &&
    (s.station == .stop || s.station == .tacking || s.station == .run)

def State.updateModOk (s : State) : State := s.setB F.SAF_STATUS_MOD_OK s.modOk

/-- Module-wide causes (CAUSE of SAF_STATUS). -/
inductive HaltCause where
  | heartbeat | supply | monOsc | noMajority | selftest | ecc | scrubLate
  deriving DecidableEq, Repr

def HaltCause.code : HaltCause → Nat
  | .heartbeat => 1
  | .supply => 2
  | .monOsc => 3
  | .noMajority => 4
  | .selftest => 5
  | .ecc => 6
  | .scrubLate => 7

/-- Causes that stay present until the monitor finds the condition gone (R254): an oscillator or the self-test. The
others are single detections. -/
def HaltCause.persists : HaltCause → Bool
  | .monOsc | .noMajority | .selftest => true
  | _ => false

/-- States in which the monitor takes the station to SAFE_HALT. -/
def State.haltable (s : State) : Bool :=
  s.station == .unpatterned || s.station == .stop || s.station == .tacking || s.station == .run

/-- A module-wide cause (R251, R253 step 1): the monitor stops every disconnect drive and releases MOD_OK; the slot
tables stop and the station enters SAFE_HALT at the next boundary. The first cause is the one SAF_STATUS shows. -/
def State.moduleWide (s : State) (c : HaltCause) : State :=
  let saf := { s.saf with
    drive := 0#6
    present := if c.persists && !s.saf.present.contains c.code then s.saf.present ++ [c.code] else s.saf.present
    testedSince := false
    haltCause := match s.saf.haltCause with
      | some k => some k
      | none => if s.haltable then some c.code else none }
  { s with saf := saf }.updateModOk

/-- The cause is no longer present. -/
def State.causeGone (s : State) (c : HaltCause) : State :=
  { s with saf := { s.saf with present := s.saf.present.filter (· != c.code) } }.updateModOk

end Sys2Proof.Machine
end

