-- ==== Sys2Proof/Machine/SchedOps.lean ====
section
/-!
DEFINITION. What every slot entry shares: heartbeats (R48), the end of an entry, the budget monitor (R49 to R51), the
write-signature comparator (R107, R108), tasks cut short (R50), and ECC findings (R102, R104).
-/

namespace Sys2Proof.Machine

/-! ### Entries and heartbeats -/

/-- Number of entries of the table that an agent runs in this stitch. -/
def State.tableSize (s : State) (a : Nat) : Nat :=
  match s.pat.active with
  | none => 0
  | some p => ((p.tableAt a s.seamPos).map (p.tableLen a)).getD 0

/-- The heartbeat an agent posts at the end of its stitch table (R48). -/
def State.postHeartbeat (s : State) (a : Nat) : State :=
  s.setAgent a { s.agent a with heartbeat := some (s.clock.stitch.setWidth 16, (s.agent a).overran) }

/-- Is an agent executing an entry? BUSY of APC_STATUS and of LPE_STATUS follow it. -/
def State.setBusy (s : State) (a : Nat) (b : Bool) : State :=
  let upd (f : Fld) (k : Nat) : State :=
    let v := s.getF f
    let v := if bitOf v k then v - 2 ^ k else v
    s.setF f (if b then v + 2 ^ k else v)
  if a < 8 then upd F.APC_STATUS_BUSY a else if a < 16 then upd F.LPE_STATUS_BUSY (a - 8) else s

/-- SELV of APC_STATUS: core c executes a selvedge run. -/
def State.setSelv (s : State) (c : Nat) (b : Bool) : State :=
  let v := s.getF F.APC_STATUS_SELV
  let v := if bitOf v c then v - 2 ^ c else v
  s.setF F.APC_STATUS_SELV (if b then v + 2 ^ c else v)

/-- The agent takes up an entry. -/
def State.beginEntry (s : State) (a : Nat) (r : Running) : State :=
  (s.setAgent a { s.agent a with running := some r }).setBusy a true

/-- The agent is done with entry k of its table; after the last one an agent of 0 to 16 posts its heartbeat. -/
def State.finishEntry (s : State) (a k : Nat) : State :=
  let s := (s.setAgent a { s.agent a with running := none, done := max (s.agent a).done (k + 1) }).setBusy a false
  if a ≤ 16 && s.tableSize a ≤ k + 1 then s.postHeartbeat a else s

/-- An entry that never started is passed over: the agent goes on with what it executes. -/
def State.passEntry (s : State) (a k : Nat) : State :=
  let s := s.setAgent a { s.agent a with done := k + 1 }
  if a ≤ 16 && s.tableSize a ≤ k + 1 then s.postHeartbeat a else s

/-- Agent number of each unit (Table 2.3). -/
def laneAgent (l : Nat) : Nat := 8 + l
def solverAgent : Nat := 16
def canAgent (n : Nat) : Nat := 17 + n
def portAgent (p : Nat) : Nat := 25 + p
def nymilAgent : Nat := 27
def ioAgent : Nat := 28

/-- The entry of the I/O sequencer of a kind that is next in its table. -/
def State.nextIoEntry (s : State) (kind : EntryKind) : Option Running :=
  ((List.range (s.tableSize ioAgent)).filterMap (fun k => if k < (s.agent ioAgent).done then none
    else s.scheduled ioAgent k)).find? (fun r => r.entry.kind == kind)

/-- Of this stitch's output apply point, while it is still to come: its time after the edge in cycles of 1.25 ns. -/
def State.applyCycle (s : State) : Option Nat := (s.nextIoEntry .outApply).map (fun a => 160 * a.entry.start)

/-- Selvedge segments compared after an apply point wait for the next one (R108). -/
def State.selvNext (s : State) : State :=
  { s with sched := { s.sched with
    selvValid := s.sched.selvLate.foldl (fun m seg => Store.set (fun _ => false) m seg true) s.sched.selvValid
    selvLate := [] } }

/-! ### Overruns (R49, R51) -/

/-- Cycles of an agent's engine in a tick: 160 at 800 MHz, 80 of a loop lane at 400 MHz (Table 1.2). -/
def tickCycles (a : Nat) : Nat := if 8 ≤ a ∧ a < 16 then 80 else 160

/-- Tick of an overrun (R49): the tick edge START or END, or the tick in which the budget is exceeded. -/
def overrunTick (a cause : Nat) (e : SlotEntry) : Nat :=
  match cause with
  | 0 => e.start + (e.budget + 1) / tickCycles a
  | 1 => e.finish
  | _ => e.start

/-- Cycles after the edge at which the monitor declares an overrun of a core's entry (R49). -/
def overrunCycle (cause : Nat) (e : SlotEntry) : Nat :=
  match cause with
  | 0 => 160 * e.start + e.budget + 1
  | 1 => 160 * e.finish
  | _ => 160 * e.start

/-- An overrun takes SCH_OVR_FIRST when it is free, or from a higher agent that overran in the same tick (R51). -/
def State.firstOverrun (s : State) (a tick : Nat) : Bool :=
  !(s.isSet F.SCH_OVR_FIRST_VALID) ||
    (s.sched.firstAt == some (s.clock.stitch, tick) && decide (a < s.getF F.SCH_OVR_FIRST_AGENT))

/-- An overrun of an agent is counted, and the first one captured, of several in one tick that of the lowest agent
(R51). -/
def State.countOverrun (s : State) (a cause : Nat) (r : Running) : State :=
  let s := (s.incSat F.SCH_OVR_COUNT_COUNT).incSat (F.SCH_AGENT_OVR_COUNT a)
  let s := s.setAgent a { s.agent a with overran := true }
  let tick := overrunTick a cause r.entry
  if s.firstOverrun a tick then
    let s := { s with sched := { s.sched with firstAt := some (s.clock.stitch, tick) } }
    (((((((s.setF F.SCH_OVR_FIRST_VALID 1).setF F.SCH_OVR_FIRST_AGENT a).setF F.SCH_OVR_FIRST_CAUSE cause).setF
      F.SCH_OVR_FIRST_KIND r.entry.kindNo).setF F.SCH_OVR_FIRST_TABLE r.table).setF
      F.SCH_OVR_FIRST_ENTRY r.index).setF F.SCH_OVR_FIRST_AT_STITCH s.clock.stitch.toNat).setF
      F.SCH_OVR_FIRST_AT_SEAM_POS s.seamPos
  else s

/-! ### Tasks cut short (R50) -/

/-- Task and segment of a CORE_SEG or EVT_SLOT object (Table 2.4). -/
def taskOf (object : Nat) : Nat := bitsOf object 12 8
def segmentOf (object : Nat) : Nat := bitsOf object 7 0

/-- An activation ends by an exception or an overrun: nothing is published, its remaining segments are skipped, and
with the SUSPEND action the task stays suspended (R50, R119). -/
def State.cutTask (s : State) (k : Nat) : State :=
  let s := s.incSat (F.SCH_TASK_STATUS_ABORTS k)
  let s := { s with tasks := { s.tasks with cut := Store.set (fun _ => false) s.tasks.cut k true } }
  if (s.pat.active.map (fun p => p.taskSuspend k)).getD false then
    (s.setF (F.SCH_TASK_STATUS_SUSPENDED k) 1).raise Ev.TASK_SUSPENDED srcSupervisor [k]
  else s

/-! ### Write signatures (R107, R108) -/

/-- Segment and run of a SELV_SEG object (Table 2.4). -/
def selvSegOf (object : Nat) : Nat := bitsOf object 11 0
def selvRunB (object : Nat) : Bool := bitOf object 15

def State.sig (s : State) (seg : Nat) (runB : Bool) : WSig :=
  Store.get (fun _ => WSig.clear) s.wsig (2 * seg + if runB then 1 else 0)
def State.setSig (s : State) (seg : Nat) (runB : Bool) (x : WSig) : State :=
  { s with wsig := Store.set (fun _ => WSig.clear) s.wsig (2 * seg + if runB then 1 else 0) x }

/-- A 16-byte signature record (Table 4.15) into a run's signature. -/
def WSig.add (w : WSig) (off width : Nat) (value : Nat) : WSig :=
  { w with
    crc := crc32cMore w.crc (leBytes 4 off ++ leBytes 1 width ++ leBytes 3 0 ++ leBytes 8 value)
    count := w.count + 1 }

/-- REASON of a mismatch (Table 4.21). -/
def mismatchReason (a b : WSig) : Nat :=
  if a.aborted && b.aborted then 3 else if a.aborted then 1 else if b.aborted then 2 else 0

/-- Do the signatures differ only because overruns on the RC oscillator aborted runs? Such an overrun is of class B
(R52). -/
def onlyDegraded (a b : WSig) : Bool := (a.aborted || b.aborted) && (!a.aborted || a.degraded) && (!b.aborted || b.degraded)

/-- Run A's output area of a segment waits, or does not wait, for its apply point. -/
def State.setSelvValid (s : State) (seg : Nat) (v : Bool) : State :=
  { s with sched := { s.sched with selvValid := Store.set (fun _ => false) s.sched.selvValid seg v } }

/-- A segment's comparison of this stitch failed. -/
def State.selvFails (s : State) (seg : Nat) : State :=
  { s with sched := { s.sched with selvFailed := seg :: s.sched.selvFailed } }

/-- A mismatch takes the capture registers when they are free, or from a higher segment of the same cycle (R108). -/
def State.firstMismatch (s : State) (seg at_ : Nat) : Bool :=
  !(s.isSet F.APC_WSIG_MM_VALID) ||
    (s.sched.mmAt == some (s.clock.stitch, at_) && decide (seg < s.getF F.APC_WSIG_MM_SEGMENT))

/-- The mismatch of a segment is captured. -/
def State.captureMismatch (s : State) (seg at_ reason : Nat) (a b : WSig) : State :=
  if s.firstMismatch seg at_ then
    let s := { s with sched := { s.sched with mmAt := some (s.clock.stitch, at_) } }
    ((((((s.setF F.APC_WSIG_MM_VALID 1).setF F.APC_WSIG_MM_REASON reason).setF F.APC_WSIG_MM_SEGMENT seg).setF
      F.APC_WSIG_SIGA_VALUE a.crc.toNat).setF F.APC_WSIG_CNTA_VALUE a.count.toNat).setF
      F.APC_WSIG_SIGB_VALUE b.crc.toNat).setF F.APC_WSIG_CNTB_VALUE b.count.toNat
  else s

/-- The comparison when both runs of a segment are over, `at_` cycles after the edge (R108): outputs that agree wait for
their apply point, outputs of a mismatch are never applied. -/
def State.compareRuns (s : State) (seg at_ : Nat) : State :=
  let a := s.sig seg false
  let b := s.sig seg true
  if a.ended && b.ended && a.crc == b.crc && a.count == b.count then
    (s.incWrap F.APC_WSIG_PASS_COUNT).setSelvValid seg true
  else
    let reason := mismatchReason a b
    let s := s.captureMismatch seg at_ reason a b
    let s := (s.setSelvValid seg false).selvFails seg
    if onlyDegraded a b then s.raiseCls Ev.WSIG_MISMATCH srcMonitor 2 [seg, reason]
    else (s.raise Ev.WSIG_MISMATCH srcMonitor [seg, reason]).faultFns .comparator (s.patFns (fun p => p.fnsOfSegment seg))

/-- A run of a segment is over `at_` cycles after the edge, by END or aborted, `degraded` by an overrun on the RC
oscillator; the later one starts the comparison. -/
def State.finishRun (s : State) (seg : Nat) (runB aborted degraded : Bool) (at_ : Nat) : State :=
  let w := s.sig seg runB
  let s := s.setSig seg runB
    (if aborted then { w with aborted := true, degraded := degraded } else { w with ended := true })
  let o := s.sig seg (!runB)
  if o.ended || o.aborted then s.compareRuns seg at_ else s

/-! ### ECC (R101 to R104) -/

/-- Array of Table 4.14 and word index of a model address in SRAM. -/
def eccPlace (a : Nat) : Option (Nat × Nat) :=
  if a < 0x01000000 then none
  else if a < 0x01000000 + 0x200000 then some ((a - 0x01000000) / 0x40000, (a - 0x01000000) % 0x40000 / 8)
  else if a < 0x02000000 then none
  else if a < 0x02000000 + 0x400000 then some (8 + (a - 0x02000000) / 0x80000, (a - 0x02000000) % 0x80000 / 8)
  else if a < 0x03000000 then none
  else if a < 0x04000000 then some (16 + (a - 0x03000000) / 0x100000, (a - 0x03000000) % 0x100000 / 8)
  else if a < 0x05000000 then none
  else if a < 0x05000000 + 0x400000 then some (32 + (a - 0x05000000) / 0x80000, (a - 0x05000000) % 0x80000 / 8)
  else if a < 0x06000000 then none
  else if a < 0x06100000 then some (40, (a - 0x06000000) / 8)
  else if a < 0x07000000 then none
  else if a < 0x07100000 then some (41, (a - 0x07000000) / 8)
  else if a < 0x08000000 then none
  else if a < 0x08040000 then some (42, (a - 0x08000000) / 8)
  else if a < 0x09000000 then none
  else if a < 0x09080000 then some (43, (a - 0x09000000) / 8)
  else if a < 0x0A000000 then none
  else if a < 0x0A020000 then some (44, (a - 0x0A000000) / 8)
  else if a < 0x0B000000 then none
  else if a < 0x0B020000 then some (45, (a - 0x0B000000) / 8)
  else none

/-- Words of an array (Table 4.14). -/
def eccWords (k : Nat) : Nat :=
  if k < 8 then 32768 else if k < 16 then 65536 else if k < 32 then 131072 else if k < 40 then 65536
  else match k with
    | 40 => 131072
    | 41 => 131072
    | 42 => 32768
    | 43 => 65536
    | 44 => 16384
    | 45 => 16384
    | _ => 0

/-- Is a word uncorrectable? -/
def EccMark.bad : EccMark → Bool
  | .uncorrectable _ => true
  | _ => false

def eccKey (array index : Nat) : Nat := array * 2 ^ 32 + index
def State.mark (s : State) (array index : Nat) : EccMark :=
  Store.get (fun _ => EccMark.clean) s.ecc.marks (eccKey array index)
def State.setMark (s : State) (array index : Nat) (m : EccMark) : State :=
  { s with ecc := { s.ecc with marks := Store.set (fun _ => EccMark.clean) s.ecc.marks (eccKey array index) m } }

/-- A correctable word met by a read: counted, queued for repair or dropped, and reported (R102). -/
def State.eccCorrected (s : State) (array index : Nat) : State :=
  let s := s.incSat (F.APC_ECC_ARRAY_CORRECTED array)
  let q := Store.get (fun _ => []) s.ecc.repair array
  let s := if q.length < 4 then
      { s with ecc := { s.ecc with repair := Store.set (fun _ => []) s.ecc.repair array (q ++ [index]) } }
    else s.incSat (F.APC_ECC_ARRAY_DROPPED array)
  s.raise Ev.ECC_CORRECTED srcSupervisor [array, index]

/-- Is a fault of this array of class A (R104)? -/
def State.eccClassA (s : State) (array : Nat) : Bool :=
  array == 44 || (s.pat.active.map (fun p => p.selvedgeArray array)).getD false

/-- An uncorrectable word is found: counted, the first captured, reported with its class; class A is module-wide
(R104, R251). -/
def State.eccUncorrectable (s : State) (array index finder : Nat) : State :=
  let s := s.incSat F.APC_ECC_UE_COUNT
  let s := if s.isSet F.APC_ECC_UE_VALID then s else
    (((s.setF F.APC_ECC_UE_VALID 1).setF F.APC_ECC_UE_FINDER finder).setF F.APC_ECC_UE_ARRAY array).setF
      F.APC_ECC_UE_ADDR_INDEX index
  if s.eccClassA array then
    (s.raiseCls Ev.ECC_UNCORRECTABLE srcMonitor 1 [array, index, finder]).moduleWide .ecc
  else s.raiseCls Ev.ECC_UNCORRECTABLE srcMonitor 2 [array, index, finder]

/-- A read of one 64-bit word at a model address: corrected and counted, or found uncorrectable (true). -/
def State.eccReadWord (s : State) (a finder : Nat) : Bool × State :=
  match eccPlace a with
  | none => (false, s)
  | some (k, i) =>
    match s.mark k i with
    | .clean => (false, s)
    | .correctable _ => (false, s.eccCorrected k i)
    | .uncorrectable _ => (true, s.eccUncorrectable k i finder)

/-- A read of n bytes from a model address, word by word; true when a word was uncorrectable. -/
def State.eccRead (s : State) (a n finder : Nat) : Bool × State :=
  (List.range (ceilDiv (a % 8 + n) 8)).foldl
    (fun r k => if r.1 then r else r.2.eccReadWord (a / 8 * 8 + 8 * k) finder) (false, s)

/-- Marks of arrays lo to hi are cleared: every word of them has been written. -/
def State.eccClearArrays (s : State) (lo hi : Nat) : State :=
  { s with ecc := { s.ecc with marks := s.ecc.marks.filter (fun m => !(lo ≤ m.1 / 2 ^ 32 && m.1 / 2 ^ 32 ≤ hi)) } }

/-- A write of whole 64-bit words clears their errors (R102). -/
def State.eccClearWords (s : State) (a n : Nat) : State :=
  (List.range (n / 8)).foldl (fun s k =>
    match eccPlace (a + 8 * k) with
    | none => s
    | some (j, i) => s.setMark j i .clean) s

/-- Bytes written over whole words of SRAM. -/
def State.load (s : State) (a : Nat) (bs : Bytes) : State := (s.wrBytes a bs).eccClearWords a bs.length

/-- An engine other than a core reads n bytes: a corrected word is counted and queued for repair, an uncorrectable one
is found; the engine goes on with the bytes that the array holds (log 30). -/
def State.engRead (s : State) (a n : Nat) : State := (s.eccRead a n 2).2

/-- A store that stays in one 64-bit word: the whole word is rewritten, a part is merged into the old word unless that
is uncorrectable (R102). -/
def State.storePart (s : State) (a : Nat) (bs : Bytes) : State :=
  if bs.length = 8 then s.load a bs
  else
    match s.eccReadWord (a / 8 * 8) 3 with
    | (true, s) => s
    | (false, s) => (s.wrBytes a bs).eccClearWords (a / 8 * 8) 8

/-- A store of bytes by an engine, word by word (R102). -/
def State.engStore (s : State) (a : Nat) (bs : Bytes) : State :=
  if bs.isEmpty then s else
  (List.range (ceilDiv (a % 8 + bs.length) 8)).foldl (fun s k =>
    let lo := a / 8 * 8 + 8 * k
    s.storePart (max a lo) ((bs.drop (lo - a)).take (min (a + bs.length) (lo + 8) - max a lo))) s

/-- A put with its words rewritten, and a get with its words read (R23, R102). -/
def State.queueStore (s : State) (p : Pattern) (q : Nat) (e : Bytes) : Bool × State :=
  let x := s.queueState q
  let r := s.queuePut p q e
  if r.1 then (true, r.2.eccClearWords (queuePlace p q (x.head + x.fill)) (p.queueSize q)) else r
def State.queueTake (s : State) (p : Pattern) (q : Nat) : Option Bytes × State :=
  let x := s.queueState q
  if x.fill = 0 then (none, s) else (s.engRead (queuePlace p q x.head) (p.queueSize q)).queueGet p q

/-- A range of words from a model address holds an uncorrectable one. -/
def State.eccBad (s : State) (a n : Nat) : Bool :=
  (List.range (ceilDiv (a % 8 + n) 8)).any (fun k =>
    match eccPlace (a / 8 * 8 + 8 * k) with
    | none => false
    | some (j, i) => (s.mark j i).bad)

end Sys2Proof.Machine
end

