-- ==== Sys2Proof/Machine/Images.lean ====
section
/-!
DEFINITION. The input image (R114, R116, R130): an item with its quality byte, its substitute, its force; and the
published output halves with their forces (R118, R119, R130).
-/

namespace Sys2Proof.Machine

/-- The force on a symbol, if any. -/
def State.forceOf (s : State) (symId : Nat) : Option (BitVec 64) :=
  (s.tasks.forces.find? (fun f => f.1.toNat == symId)).map (·.2)

/-- The forced bytes of the symbol that starts at an offset of the shared SRAM, with its size. -/
def State.forcedAt (s : State) (off : Nat) : Option Bytes :=
  match s.pat.active with
  | none => none
  | some p =>
    s.tasks.forces.findSome? (fun f =>
      match p.symIndex f.1.toNat with
      | none => none
      | some k => if p.symRegion k = 0 ∧ p.symOff k = off then some (leBytes (p.symSize k) f.2.toNat) else none)

/-- The forced byte that covers an offset of the shared SRAM, if any. -/
def State.forcedByte (s : State) (off : Nat) : Option (BitVec 8) :=
  match s.pat.active with
  | none => none
  | some p =>
    s.tasks.forces.findSome? (fun f =>
      match p.symIndex f.1.toNat with
      | none => none
      | some k =>
        if p.symRegion k = 0 ∧ p.symOff k ≤ off ∧ off < p.symOff k + p.symSize k then
          some ((leBytes (p.symSize k) f.2.toNat).getD (off - p.symOff k) 0)
        else none)

/-- Bytes of the shared SRAM with the forces that cover them. -/
def State.forcedBytes (s : State) (off n : Nat) : Bytes :=
  (List.range n).map (fun i => (s.forcedByte (off + i)).getD (s.rdByte (Mem.shared + off + i)))

/-- Quality bits (Table 5.2). -/
def qValid : Nat := 1
def qSubstituted : Nat := 2
def qSinglePath : Nat := 4
def qForced : Nat := 8

/-- Substitute mode of an item (R116). -/
structure SubstCfg where
  mode : Nat
  limit : Nat
  fixed : Bytes
  safe : Bytes

/-- The hold state of an image item, keyed by its offset. -/
def State.holdOf (s : State) (off : Nat) : HoldState := Store.get (fun _ => HoldState.fresh) s.tasks.holds off
def State.setHold (s : State) (off : Nat) (h : HoldState) : State :=
  { s with tasks := { s.tasks with holds := Store.set (fun _ => HoldState.fresh) s.tasks.holds off h } }

/-- The substitute of an item that is not valid, and its hold state (R116). -/
def substitute (c : SubstCfg) (h : HoldState) : Bytes × HoldState :=
  match c.mode with
  | 0 =>
    match h.last with
    | some v => if c.limit = 0 ∨ h.held < c.limit then (v, { h with held := h.held + 1 }) else (c.fixed, h)
    | none => (c.fixed, h)
  | 1 => (c.fixed, h)
  | _ => (c.safe, h)

/-- Writes an item of the input image: forced, or valid, or substituted, with its quality byte (R114, R116, R130). -/
def State.latchItem (s : State) (off : Nat) (val : Option Bytes) (single : Bool) (c : SubstCfg) : State :=
  match s.forcedAt off with
  | some v => s.engStore (Mem.shared + off) (v ++ leBytes 1 (qValid + qForced))
  | none =>
    match val with
    | some v =>
      (s.engStore (Mem.shared + off) (v ++ leBytes 1 (qValid + if single then qSinglePath else 0))).setHold off
        ⟨some v, 0⟩
    | none =>
      let r := substitute c (s.holdOf off)
      (s.engStore (Mem.shared + off) (r.1 ++ leBytes 1 qSubstituted)).setHold off r.2

/-! ### Published outputs -/

/-- The half that a task has published since the restart (R118); none of a suspended task that does not hold its outputs
(R119). -/
def State.publishedHalf (s : State) (p : Pattern) (k : Nat) : Option Nat :=
  if s.isSet (F.SCH_TASK_STATUS_PUBLISHED k) && (!(s.isSet (F.SCH_TASK_STATUS_SUSPENDED k)) || p.taskOutHold k) then
    some (s.getF (F.SCH_TASK_STATUS_HALF k))
  else none

/-- The half that this stitch's apply point takes: what the task published before it (R26). -/
def State.appliedHalf (s : State) (p : Pattern) (k : Nat) : Option Nat :=
  match s.publishedHalf p k, Store.get (fun _ => 0) s.tasks.late k with
  | some h, 0 => some h
  | some _, 1 => some 0
  | some _, 2 => some 1
  | _, _ => none

/-- A byte of a half of a task's output area, or the force that covers it in either half; none at the off value of
R119. -/
def State.halfByte (s : State) (p : Pattern) (k : Nat) (half : Option Nat) (off : Nat) : Option (BitVec 8) :=
  match (s.forcedByte (p.outOff k + off)).or (s.forcedByte (p.outOff k + p.outLen k + off)) with
  | some b => some b
  | none => half.map (fun h => s.rdByte (Mem.shared + p.outOff k + h * p.outLen k + off))

/-- n bytes of a half; none at the off value. -/
def State.halfBytes (s : State) (p : Pattern) (k : Nat) (half : Option Nat) (off n : Nat) : Option Bytes :=
  (List.range n).mapM (fun i => s.halfByte p k half (off + i))

/-- The words of a half that are read for n bytes (R102). -/
def State.halfRead (s : State) (p : Pattern) (k : Nat) (half : Option Nat) (off n : Nat) : State :=
  match half with
  | some h => s.engRead (Mem.shared + p.outOff k + h * p.outLen k + off) n
  | none => s

/-- The output bytes that the apply point takes from a task. -/
def State.outputBytes (s : State) (p : Pattern) (k off n : Nat) : Option Bytes :=
  s.halfBytes p k (s.appliedHalf p k) off n
def State.outputRead (s : State) (p : Pattern) (k off n : Nat) : State := s.halfRead p k (s.appliedHalf p k) off n

end Sys2Proof.Machine
end

