-- ==== Sys2Proof/Machine/FieldOps.lean ====
section
/-!
DEFINITION. Field I/O operations shared by the sweep, the latch, the apply point and the tests: channel switches,
latches, holds, the image item of a digital channel, current-loop outputs (R195 to R225).
-/

namespace Sys2Proof.Machine

/-! ### Channels, groups, outputs -/

def State.dio (s : State) (n : Nat) : DioCh := Store.get (fun _ => DioCh.fresh) s.fio.ch n
def State.setDio (s : State) (n : Nat) (x : DioCh) : State :=
  { s with fio := { s.fio with ch := Store.set (fun _ => DioCh.fresh) s.fio.ch n x } }
def State.grp (s : State) (g : Nat) : Group := Store.get (fun _ => Group.fresh) s.fio.grp g
def State.setGrp (s : State) (g : Nat) (x : Group) : State :=
  { s with fio := { s.fio with grp := Store.set (fun _ => Group.fresh) s.fio.grp g x } }
def State.cloOut (s : State) (o : Nat) : CloOut := Store.get (fun _ => CloOut.fresh) s.fio.clo o
def State.setClo (s : State) (o : Nat) (x : CloOut) : State :=
  { s with fio := { s.fio with clo := Store.set (fun _ => CloOut.fresh) s.fio.clo o x } }

/-- MODE and FLAGS of a channel's IO item (Table 8.1). -/
def Pattern.ioMode (p : Pattern) (n : Nat) : Nat := (p.io n).u8 0
def Pattern.isInput (p : Pattern) (n : Nat) : Bool := p.ioMode n == 1 || p.ioMode n == 2
def Pattern.isOutput (p : Pattern) (n : Nat) : Bool := n < 48 && p.ioMode n == 3
def Pattern.wireBreak (p : Pattern) (n : Nat) : Bool := bitOf ((p.io n).u8 1) 0
def Pattern.testPulses (p : Pattern) (n : Nat) : Bool := bitOf ((p.io n).u8 1) 1
def Pattern.autoReturn (p : Pattern) (n : Nat) : Bool := bitOf ((p.io n).u8 1) 2
def Pattern.openLoadEn (p : Pattern) (n : Nat) : Bool := bitOf ((p.io n).u8 1) 3
def Pattern.pairedOut (p : Pattern) (n : Nat) : Bool := bitOf ((p.io n).u8 1) 4
def Pattern.ioWriter (p : Pattern) (n : Nat) : Nat := (p.io n).u8 10
def Pattern.ioImgOff (p : Pattern) (n : Nat) : Nat := (p.io n).u32 12
def Pattern.ioOutOff (p : Pattern) (n : Nat) : Nat := (p.io n).u32 16

/-- A group holds a selvedge output. -/
def Pattern.groupSelvedge (p : Pattern) (g : Nat) : Bool :=
  (List.range 8).any (fun k => p.selvedgeOutput (8 * g + k))

/-- Groups 0 to 2 draw from FS_A, 3 to 5 from FS_B (R195). -/
def supplyOf (g : Nat) : Nat := g / 3

/-- A group is cut off (R215). -/
def State.groupCut (s : State) (g : Nat) : Bool := s.isSet (F.DIO_FS_STATUS_CUTOFF (supplyOf g))

/-- The station drives outputs: RUN or TACKING. -/
def State.operating (s : State) : Bool := s.station == .run || s.station == .tacking

/-- An output is on: its switch is closed, or a test pulse keeps it dark for now. -/
def State.isOn (s : State) (n : Nat) : Bool := s.isSet (F.DIO_CH_STATUS_DRIVE n) || (s.dio n).pulse

/-- Sets an output's switch (R204, R208): a change makes the next latch the first after a command change, and
switching off ends a pulse, which is discarded. -/
def State.switch (s : State) (n : Nat) (on : Bool) : State :=
  if s.isOn n = on then s else
  let x := s.dio n
  let s := if x.pulse then s.setF (F.DIO_CH_STATUS_PULSE_SKIPPED n) 1 else s
  (s.setB (F.DIO_CH_STATUS_DRIVE n) on).setDio n
    { x with changed := true, pulse := false, tail := none, low := 0, high := 0, openN := 0, wholeOn := false }

/-! ### Ends of pulses and group tests (R207, R210) -/

/-- Ship time at which what is sampled 20 us before its end is over: 20 us after the sample's instant in the 200 ms
cycle, where that instant lies in this stitch, else 20 us from now. -/
def State.sampleEnd (s : State) (phase : Nat) : Nat :=
  let edge := s.clock.edge.toNat
  let t := edge + (phase % 200000000 + 200000000 - edge % 200000000) % 200000000
  (if t < edge + s.clock.period then t else s.nowNs) + 20000

/-- A sampled pulse that is over by ship time t ends: the switch closes. -/
def State.endPulse (s : State) (t n : Nat) : State :=
  let x := s.dio n
  match x.tail with
  | some e => if x.pulse && decide (e ≤ t) then
      (s.setF (F.DIO_CH_STATUS_DRIVE n) 1).setDio n { x with pulse := false, tail := none } else s
  | none => s

/-- A sampled group test that is over by ship time t ends: the disconnect closes again if the monitor still drives it.
-/
def State.endGroupTest (s : State) (t g : Nat) : State :=
  let x := s.grp g
  match x.closeAt with
  | some e =>
    if e ≤ t then
      let s := s.setGrp g { x with closeAt := none }
      let s := if x.wasClosed && bitOf s.saf.drive.toNat g then s.setDisconnect g true else s
      (List.range 8).foldl (fun s k => s.setDio (8 * g + k) { s.dio (8 * g + k) with changed := true }) s
    else s
  | none => s

/-- What is over by ship time t. -/
def State.settleField (s : State) (t : Nat) : State :=
  (List.range 6).foldl (fun s g => s.endGroupTest t g) ((List.range 48).foldl (fun s n => s.endPulse t n) s)

/-- A group's disconnect is open for a test. -/
def State.inGroupTest (s : State) (g : Nat) : Bool := (s.grp g).testing || (s.grp g).closeAt.isSome

/-! ### Latches and releases (R211, R213, R242) -/

/-- A TRIP function in NORMAL trips (R239); `input` is what FUNCTION_TRIPPED names. -/
def State.tripFn (s : State) (f input : Nat) : State :=
  if s.fnState f = 0 && !(fnInterlock ((s.pat.active.map (fun p => p.fn f)).getD [])) then
    ((s.setFnState f 1).incSat (F.SAF_FN_STATUS_TRIPS f)).raise Ev.FUNCTION_TRIPPED srcMonitor [f, input]
  else s

/-- An output is switched off and latched off with a cause; the function of a selvedge output is treated as tripped, and
what its event names as the input is free (R211, R213; log 74). -/
def State.latchOff (s : State) (n : Nat) (c : LatchCause) : State :=
  let selv := s.patIs (fun p => p.selvedgeOutput n)
  let s := (s.switch n false).setF (F.DIO_CH_STATUS_LATCHED n) 1
  let x := s.dio n
  let s := s.setDio n { x with
    causes := if x.causes.contains c then x.causes else x.causes ++ [c]
    wait := if selv then .needReset else .needOff
    latchedAt := some s.clock.stitch }
  match s.pat.active.bind (fun p => p.fnOfOutput n) with
  | some f => s.tripFn f (payloadNo Ev.FUNCTION_TRIPPED n)
  | none => s

/-- The latch of an output is released. -/
def State.unlatch (s : State) (n : Nat) : State :=
  (s.setF (F.DIO_CH_STATUS_LATCHED n) 0).setDio n { s.dio n with causes := [], wait := .none, latchedAt := none }

/-- A restart releases every latch (R213). -/
def State.unlatchAll (s : State) : State :=
  (List.range 48).foldl (fun s n =>
    ((s.unlatch n).setF (F.DIO_CH_STATUS_CMD n) 0).setDio n { (s.unlatch n).dio n with interlock := .none }) s

/-- The causes of a latched selvedge output are gone (R242): a DISC_FAULT when a group test has passed since, any
other when its stitch has passed. -/
def State.latchCauseGone (s : State) (n : Nat) : Bool :=
  let x := s.dio n
  x.latchedAt != some s.clock.stitch &&
    (!x.causes.contains .discFault || (s.grp (groupOf n)).lastPass != some false)

/-- An accepted reset edge releases the outputs of a function it resets (R242, R216): not while the group is cut
off, and only when the cause is gone. -/
def State.releaseByReset (s : State) (f : Nat) : State :=
  (s.patFns (fun p => fnOutputs (p.fn f))).foldl (fun s n =>
    if (s.dio n).wait = .needReset && !(s.groupCut (groupOf n)) && s.latchCauseGone n then s.unlatch n else s) s

/-- After a cut-off or an opened disconnect an output waits as R216 states, unless it is latched off anyway. -/
def State.waitReturn (s : State) (n : Nat) : State :=
  let x := s.dio n
  if x.wait != .none then s
  else if s.patIs (fun p => p.selvedgeOutput n) then s.setDio n { x with wait := .needReset }
  else if s.patIs (fun p => p.autoReturn n) then s
  else s.setDio n { x with wait := .needOff }

/-- The command edge of R213: a published off, then a published on at a later apply point. Answers whether the
output may be on at this apply point. -/
def EdgeWait.take (w : EdgeWait) (on : Bool) : EdgeWait :=
  match w with
  | .none => .none
  | .needOff => if on then .needOff else .needOn
  | .needOn => if on then .none else .needOn
  | .needReset => .needReset

/-- Switch off every output of a group because it is cut off or its disconnect opens: they return as R216 states. -/
def State.darkGroup (s : State) (g : Nat) : State :=
  (List.range 8).foldl (fun s k =>
    let n := 8 * g + k
    if s.patIs (fun p => p.isOutput n) then (s.switch n false).waitReturn n else s) s

/-! ### Image item of a digital channel (R201) -/

/-- CLASS numbers (Table 8.3, R205). -/
def clsBroken : Nat := 0
def clsOpen : Nat := 1
def clsClosed : Nat := 2
def clsInvalid : Nat := 3
def clsCut : Nat := 4
def clsLow : Nat := 5
def clsHigh : Nat := 6

/-- The 4-byte value of an item. -/
def dioValue (cls mv : Nat) : Bytes :=
  leBytes 4 (cls + (if cls = clsClosed ∨ cls = clsHigh then 8 else 0) + 65536 * min mv 65535)

/-- Demand class of a selvedge input channel (R116, R232): CLOSED for CH_B of an ANTIVALENT input, else OPEN. -/
def Pattern.demandClass (p : Pattern) (n : Nat) : Nat :=
  if (p.selvItems 3).any (fun it => inForm it == 2 && inChB it == n) then clsClosed else clsOpen

/-- The class that a channel's item shows at a latch. -/
def State.itemClass (s : State) (n : Nat) : Nat :=
  let g := groupOf n
  if s.groupCut g || (s.grp g).adcBad then clsCut
  else match (s.dio n).image with
    | none => clsCut
    | some c => c

/-- Is a channel's item valid at the latch (R116, Table 8.3, R209)? -/
def State.itemValid (s : State) (n : Nat) : Bool :=
  let c := s.itemClass n
  (c == clsOpen || c == clsClosed || c == clsLow || c == clsHigh) && !(s.dio n).srcFail

/-- The substitute configuration of a channel. `free` is what bits 31:16 of a FIXED or SAFE substitute hold (log 76). -/
def Pattern.dioSubst (p : Pattern) (n free : Nat) : SubstCfg :=
  let it := p.io n
  let mv := free % 65536
  ⟨it.u8 3, it.u16 4, dioValue (it.u8 6) mv, dioValue (p.demandClass n) mv⟩

/-- STATE of a channel in the image as it stands. -/
def State.imageState (s : State) (p : Pattern) (n : Nat) : Bool :=
  bitOf (s.rdByte (Mem.shared + p.ioImgOff n)).toNat 3

/-- Is the channel's item valid in the image as it stands? -/
def State.imageValid (s : State) (p : Pattern) (n : Nat) : Bool :=
  bitOf (s.rdByte (Mem.shared + p.ioImgOff n + 4)).toNat 0

/-! ### Current-loop outputs (R217 to R225) -/

def cloItem (o : Nat) : Nat := 48 + o
def f32Zero : Nat := 0
def f32TwentyFour : Nat := 0x41C00000
def f32Floor : Nat := 0x3F4CCCCD

/-- The set value clamped to 0 mA to 24 mA. -/
def cloClamp (v : Nat) : Nat :=
  if f32.lt v f32Zero then f32Zero else if f32.lt f32TwentyFour v then f32TwentyFour else v

/-- n / d rounded to the nearest whole number, ties to even. -/
def divRne (n d : Nat) : Nat :=
  let q := n / d
  let r := n % d
  if d < 2 * r || (d == 2 * r && q % 2 == 1) then q + 1 else q

/-- round-half-even(I × 65,535 / 24) of a set value from 0 to 24 (R218). -/
def cloCode (v : Nat) : Nat :=
  match f32.unpack v with
  | .fin _ m e => if 0 ≤ e then divRne (m * 2 ^ e.toNat * 65535) 24 else divRne (m * 65535) (24 * 2 ^ (-e).toNat)
  | _ => 0

/-- The conditions that keep a current-loop output at its off value (R219 with R204), and a scan instruction (R479). -/
def State.cloHeld (s : State) : Bool :=
  !s.operating || s.isSet F.DGT_STATUS_SCAN || !s.domainOn domClo || !(s.roleIs .active || s.roleIs .solo)

/-- The off value is applied. -/
def State.cloOff (s : State) (o : Nat) : State :=
  let s := ((s.setF (F.CLO_CH_STATUS_OFF o) 1).setF (F.CLO_CH_STATUS_STARTING o) 0).setF (F.CLO_CH_STATUS_FLOOR o) 0
  let s := s.setF (F.CLO_CH_SET_VALUE o) 0
  s.setClo o { s.cloOut o with code := 0 }

/-- A transfer to the isolated side arrives (R225). -/
def State.cloTransfer (s : State) (o : Nat) : State :=
  (s.setF (F.CLO_CH_STATUS_LINK_OK o) 1).setClo o { s.cloOut o with lost := false }

/-- The clamped set value is applied (R218, R221): in sink mode with its floor, and starting from the off value. -/
def State.cloApply (s : State) (p : Pattern) (o v : Nat) : State :=
  let sink := p.ioMode (cloItem o) == 2
  let floor := sink && f32.le v f32Floor
  let applied := if floor then f32Floor else v
  let s := if sink && s.isSet (F.CLO_CH_STATUS_OFF o) then s.setF (F.CLO_CH_STATUS_STARTING o) 1 else s
  let s := ((s.setF (F.CLO_CH_STATUS_OFF o) 0).setB (F.CLO_CH_STATUS_FLOOR o) floor).setF (F.CLO_CH_SET_VALUE o) applied
  (s.setClo o { s.cloOut o with want := BitVec.ofNat 32 v, code := BitVec.ofNat 16 (cloCode applied), written := true })

/-- A set value is written to an output (CLO_SET, R218): NaN is refused, an output that is held off stays off. -/
def State.cloSet (s : State) (p : Pattern) (o v : Nat) : State :=
  if f32.isNan v then s.setF (F.CLO_CH_STATUS_SET_INVALID o) 1
  else if s.cloHeld then
    (s.setClo o { s.cloOut o with want := BitVec.ofNat 32 (cloClamp v), written := true }).cloOff o
  else (s.cloTransfer o).cloApply p o (cloClamp v)

/-- |a − b| exceeds 0.12 mA (R223); exact. -/
def cloDiffers (a b : Nat) : Bool :=
  if f32.isFinite a && f32.isFinite b then
    decide (12 * (2 : Int) ^ 149 < 100 * (f32.floorScaled a 149 - f32.floorScaled b 149).natAbs)
  else true

/-! ### Faults of channels (Table 8.6) -/

/-- TEST_FAIL is declared for an output (R207, R208, R211). -/
def State.testFail (s : State) (n : Nat) (ua : Int) : State :=
  let s := (s.setF (F.DIO_CH_STATUS_TEST_FAIL n) 1).latchOff n .testFail
  let selv := s.patIs (fun p => p.selvedgeOutput n)
  let s := s.raiseCls Ev.DO_TEST_FAIL (srcField n) (if selv then 1 else 2) [n, unsgn 32 ua]
  s.faultFns .testFail (s.patFns (fun p => p.fnsOfChannel n))

/-- A group disconnect opens: its outputs go dark and return as R216 states (R243), also where a group test had it open
for the moment. -/
def State.openGroupDark (s : State) (g : Nat) : State :=
  if s.discClosed g || (s.inGroupTest g && (s.grp g).wasClosed) then (s.openGroup g).darkGroup g else s.openGroup g

end Sys2Proof.Machine
end

