-- ==== Sys2Proof/Machine/Sha2.lean ====
section
/-!
DEFINITION. SHA-384, SHA-256 and HMAC-SHA-256 (FIPS 180-4 and RFC 2104, named by R58, R339 and R450).
-/

namespace Sys2Proof.Machine

/-! ### Round constants: the fractional parts of the cube roots of the first 80 primes -/

def k512a : List (BitVec 64) :=
  [0x428A2F98D728AE22, 0x7137449123EF65CD, 0xB5C0FBCFEC4D3B2F, 0xE9B5DBA58189DBBC, 0x3956C25BF348B538,
   0x59F111F1B605D019, 0x923F82A4AF194F9B, 0xAB1C5ED5DA6D8118, 0xD807AA98A3030242, 0x12835B0145706FBE,
   0x243185BE4EE4B28C, 0x550C7DC3D5FFB4E2, 0x72BE5D74F27B896F, 0x80DEB1FE3B1696B1, 0x9BDC06A725C71235,
   0xC19BF174CF692694, 0xE49B69C19EF14AD2, 0xEFBE4786384F25E3, 0x0FC19DC68B8CD5B5, 0x240CA1CC77AC9C65]

def k512b : List (BitVec 64) :=
  [0x2DE92C6F592B0275, 0x4A7484AA6EA6E483, 0x5CB0A9DCBD41FBD4, 0x76F988DA831153B5, 0x983E5152EE66DFAB,
   0xA831C66D2DB43210, 0xB00327C898FB213F, 0xBF597FC7BEEF0EE4, 0xC6E00BF33DA88FC2, 0xD5A79147930AA725,
   0x06CA6351E003826F, 0x142929670A0E6E70, 0x27B70A8546D22FFC, 0x2E1B21385C26C926, 0x4D2C6DFC5AC42AED,
   0x53380D139D95B3DF, 0x650A73548BAF63DE, 0x766A0ABB3C77B2A8, 0x81C2C92E47EDAEE6, 0x92722C851482353B]

def k512c : List (BitVec 64) :=
  [0xA2BFE8A14CF10364, 0xA81A664BBC423001, 0xC24B8B70D0F89791, 0xC76C51A30654BE30, 0xD192E819D6EF5218,
   0xD69906245565A910, 0xF40E35855771202A, 0x106AA07032BBD1B8, 0x19A4C116B8D2D0C8, 0x1E376C085141AB53,
   0x2748774CDF8EEB99, 0x34B0BCB5E19B48A8, 0x391C0CB3C5C95A63, 0x4ED8AA4AE3418ACB, 0x5B9CCA4F7763E373,
   0x682E6FF3D6B2B8A3, 0x748F82EE5DEFB2FC, 0x78A5636F43172F60, 0x84C87814A1F0AB72, 0x8CC702081A6439EC]

def k512d : List (BitVec 64) :=
  [0x90BEFFFA23631E28, 0xA4506CEBDE82BDE9, 0xBEF9A3F7B2C67915, 0xC67178F2E372532B, 0xCA273ECEEA26619C,
   0xD186B8C721C0C207, 0xEADA7DD6CDE0EB1E, 0xF57D4F7FEE6ED178, 0x06F067AA72176FBA, 0x0A637DC5A2C898A6,
   0x113F9804BEF90DAE, 0x1B710B35131C471B, 0x28DB77F523047D84, 0x32CAAB7B40C72493, 0x3C9EBE0A15C9BEBC,
   0x431D67C49C100D4C, 0x4CC5D4BECB3E42B6, 0x597F299CFC657E2A, 0x5FCB6FAB3AD6FAEC, 0x6C44198C4A475817]

def k512 : List (BitVec 64) := k512a ++ k512b ++ k512c ++ k512d

/-- The constants of SHA-256 are the upper halves of the first 64. -/
def k256 : List (BitVec 32) := (k512.take 64).map (fun (k : BitVec 64) => k.extractLsb' 32 32)

def iv384 : List (BitVec 64) :=
  [0xCBBB9D5DC1059ED8, 0x629A292A367CD507, 0x9159015A3070DD17, 0x152FECD8F70E5939, 0x67332667FFC00B31,
   0x8EB44A8768581511, 0xDB0C2E0D64F98FA7, 0x47B5481DBEFA4FA4]
def iv256 : List (BitVec 32) :=
  [0x6A09E667, 0xBB67AE85, 0x3C6EF372, 0xA54FF53A, 0x510E527F, 0x9B05688C, 0x1F83D9AB, 0x5BE0CD19]

/-! ### Functions of a word width -/

/-- Rotation counts of the two sigmas and shifts of the schedule. -/
structure ShaParams where
  bigA : Nat × Nat × Nat
  bigE : Nat × Nat × Nat
  smallA : Nat × Nat × Nat
  smallB : Nat × Nat × Nat

def sha512Params : ShaParams := ⟨(28, 34, 39), (14, 18, 41), (1, 8, 7), (19, 61, 6)⟩
def sha256Params : ShaParams := ⟨(2, 13, 22), (6, 11, 25), (7, 18, 3), (17, 19, 10)⟩

variable {w : Nat}

def rotSum (r : Nat × Nat × Nat) (x : BitVec w) : BitVec w :=
  x.rotateRight r.1 ^^^ x.rotateRight r.2.1 ^^^ x.rotateRight r.2.2
def rotShift (r : Nat × Nat × Nat) (x : BitVec w) : BitVec w :=
  x.rotateRight r.1 ^^^ x.rotateRight r.2.1 ^^^ (x >>> r.2.2)

/-- Words after the first 16 of a block's schedule; `l` holds the words so far, latest first. -/
def shaExtend (p : ShaParams) : Nat → List (BitVec w) → List (BitVec w)
  | 0, l => l
  | n + 1, l =>
    shaExtend p n ((rotShift p.smallB (l.getD 1 0) + l.getD 6 0 + rotShift p.smallA (l.getD 14 0) + l.getD 15 0) :: l)

/-- One round on the eight working variables. -/
def shaRound (p : ShaParams) (v : List (BitVec w)) (kw : BitVec w × BitVec w) : List (BitVec w) :=
  match v with
  | [a, b, c, d, e, f, g, h] =>
    let t1 := h + rotSum p.bigE e + ((e &&& f) ^^^ (~~~e &&& g)) + kw.1 + kw.2
    let t2 := rotSum p.bigA a + ((a &&& b) ^^^ (a &&& c) ^^^ (b &&& c))
    [t1 + t2, a, b, c, d + t1, e, f, g]
  | _ => v

/-- One block of 16 words into the hash value. -/
def shaBlock (p : ShaParams) (ks : List (BitVec w)) (hv block : List (BitVec w)) : List (BitVec w) :=
  let ws := (shaExtend p (ks.length - 16) block.reverse).reverse
  let v := (ks.zip ws).foldl (shaRound p) hv
  (hv.zip v).map (fun x => x.1 + x.2)

/-- Pieces of n bytes; `fuel` bounds their number. -/
def chunks (n : Nat) : Nat → Bytes → List Bytes
  | 0, _ => []
  | fuel + 1, bs => if bs.isEmpty then [] else bs.take n :: chunks n fuel (bs.drop n)

/-- A message padded to whole blocks of 16 words of n bytes. -/
def shaPad (n : Nat) (m : Bytes) : Bytes :=
  let z := (16 * n - (m.length + 1 + 2 * n) % (16 * n)) % (16 * n)
  m ++ [0x80#8] ++ List.replicate z 0#8 ++ beBytes (2 * n) (8 * m.length)

/-- The hash of a message as words of n bytes. -/
def sha (p : ShaParams) (n : Nat) (ks iv : List (BitVec w)) (m : Bytes) : List (BitVec w) :=
  (chunks (16 * n) (m.length / (16 * n) + 2) (shaPad n m)).foldl
    (fun hv b => shaBlock p ks hv ((chunks n 16 b).map (fun x => BitVec.ofNat w (Bytes.be x)))) iv

/-- SHA-384, 48 bytes in the order the algorithm produces them. -/
def sha384 (m : Bytes) : Bytes :=
  (((sha sha512Params 8 k512 iv384 m).take 6).map (fun x => beBytes 8 x.toNat)).flatten

/-- SHA-256, 32 bytes. -/
def sha256 (m : Bytes) : Bytes := ((sha sha256Params 4 k256 iv256 m).map (fun x => beBytes 4 x.toNat)).flatten

/-- HMAC-SHA-256. -/
def hmacSha256 (key m : Bytes) : Bytes :=
  let k := (if 64 < key.length then sha256 key else key).slice 0 64
  sha256 (k.map (· ^^^ 0x5C#8) ++ sha256 (k.map (· ^^^ 0x36#8) ++ m))

end Sys2Proof.Machine
end

