-- ==== Sys2Proof/Machine/Crypto.lean ====
section
/-!
DEFINITION. Signatures and key derivation (R60, R408): ECDSA over P-384 of FIPS 186 and SEC 1, HMAC-SHA-384 and
HKDF-SHA-384 of RFC 5869.
-/

namespace Sys2Proof.Machine

namespace P384

/-- The field prime, the group order, the curve coefficient b (a = −3) and the base point. -/
def p : Nat := 2 ^ 384 - 2 ^ 128 - 2 ^ 96 + 2 ^ 32 - 1
def n : Nat :=
  0xFFFFFFFFFFFFFFFFFFFFFFFFFFFFFFFFFFFFFFFFFFFFFFFFC7634D81F4372DDF581A0DB248B0A77AECEC196ACCC52973
def b : Nat :=
  0xB3312FA7E23EE7E4988E056BE3F82D19181D9C6EFE8141120314088F5013875AC656398D8A2ED19D2A85C8EDD3EC2AEF
def gx : Nat :=
  0xAA87CA22BE8B05378EB1C71EF320AD746E1D3B628BA79B9859F741E082542A385502F25DBF55296C3A545E3872760AB7
def gy : Nat :=
  0x3617DE4A96262C6F5D9E98BF9292DC29F8F41DBD289A147CE9DA3113B5F0B8C00A60B1CE1D7E819D7A431D7C90EA0E5F

/-- b to the e modulo m; `fuel` bounds the bits of e. -/
def powMod (m : Nat) : Nat → Nat → Nat → Nat
  | 0, _, _ => 1 % m
  | fuel + 1, b, e =>
    let h := powMod m fuel (b * b % m) (e / 2)
    if e % 2 = 1 then b * h % m else h

/-- Inverse modulo a prime. -/
def inv (m x : Nat) : Nat := powMod m 384 (x % m) (m - 2)

/-- A point of the curve; none is the point at infinity. -/
abbrev Point := Option (Nat × Nat)

def onCurve (x y : Nat) : Bool :=
  decide (x < p) && decide (y < p) && (y * y % p == (x * x * x + (p - 3) * x + b) % p)

/-- Sum of two points. -/
def add : Point → Point → Point
  | none, q => q
  | q, none => q
  | some (x1, y1), some (x2, y2) =>
    if x1 = x2 ∧ (y1 + y2) % p = 0 then none else
      let l := if x1 = x2 then (3 * x1 * x1 + (p - 3)) * inv p (2 * y1) % p
        else (y2 + p - y1) * inv p (x2 + p - x1) % p
      let x := (l * l + 2 * p - x1 - x2) % p
      some (x, (l * (x1 + p - x) + p - y1) % p)

/-- k times a point; `fuel` bounds the bits of k. -/
def mul : Nat → Nat → Point → Point
  | 0, _, _ => none
  | fuel + 1, k, q =>
    let h := mul fuel (k / 2) (add q q)
    if k % 2 = 1 then add q h else h

/-- ECDSA verification of a 48-byte hash, taken as an integer most significant byte first (R60). -/
def verify (qx qy : Nat) (hash : Bytes) (r s : Nat) : Bool :=
  if onCurve qx qy && decide (0 < r) && decide (r < n) && decide (0 < s) && decide (s < n) then
    let e := Bytes.le hash.reverse
    let w := inv n s
    match add (mul 384 (e * w % n) (some (gx, gy))) (mul 384 (r * w % n) (some (qx, qy))) with
    | none => false
    | some (x, _) => x % n == r
  else false

end P384

/-- A public key as the module stores it: X and then Y, each 48 bytes little-endian (R408). A signature likewise. -/
def verifySig (key hash sigR sigS : Bytes) : Bool :=
  P384.verify (Bytes.le (key.take 48)) (Bytes.le ((key.drop 48).take 48)) hash (Bytes.le sigR) (Bytes.le sigS)

/-- KEY_ID: the first 8 bytes of the SHA-384 of the key (R408). -/
def keyId (key : Bytes) : Nat := Bytes.le ((sha384 key).take 8)

/-- HMAC-SHA-384. -/
def hmacSha384 (key m : Bytes) : Bytes :=
  let k := if 128 < key.length then sha384 key else key
  let k := k ++ List.replicate (128 - k.length) 0
  sha384 (k.map (· ^^^ 0x5C#8) ++ sha384 (k.map (· ^^^ 0x36#8) ++ m))

/-- First 32 bytes of HKDF-SHA-384 (RFC 5869); they lie in the first block. -/
def hkdfSalted (salt secret info : Bytes) : Bytes := (hmacSha384 (hmacSha384 salt secret) (info ++ [1#8])).take 32

/-- The same without salt: 48 zeros. -/
def hkdf32 (secret info : Bytes) : Bytes := hkdfSalted (List.replicate 48 0) secret info

/-- A public value as X and Y, each 48 bytes little-endian; the point at infinity is no key. -/
def pointBytes : P384.Point → Bytes
  | none => List.replicate 96 0#8
  | some (x, y) => leBytes 48 x ++ leBytes 48 y

/-- Public value of a private one. -/
def ecdhPublic (d : Nat) : Bytes := pointBytes (P384.mul 384 d (some (P384.gx, P384.gy)))

/-- The ECDH shared secret: x of d times the partner's point, most significant byte first (SEC 1); none where its
value is no point of the curve. -/
def ecdhSecret (d : Nat) (q : Bytes) : Option Bytes :=
  let x := Bytes.le (q.take 48)
  let y := Bytes.le ((q.drop 48).take 48)
  if P384.onCurve x y then (P384.mul 384 d (some (x, y))).map (fun v => beBytes 48 v.1) else none

/-- ECDSA signature R, S of a 48-byte hash by private key d with nonce k, each 48 bytes little-endian. -/
def ecdsaSign (d k : Nat) (hash : Bytes) : Bytes :=
  let r := match P384.mul 384 k (some (P384.gx, P384.gy)) with
    | none => 0
    | some (x, _) => x % P384.n
  let e := Bytes.le hash.reverse
  leBytes 48 r ++ leBytes 48 (P384.inv P384.n k * ((e + r * d) % P384.n) % P384.n)

end Sys2Proof.Machine
end

