-- ==== Sys2Proof/Machine/Identity.lean ====
section
/-!
DEFINITION. The flash map with its identity sector, what the identity sector holds, the keys that derive from the device
secret, and the check of an identity certificate (R407, R408, R435).
-/

namespace Sys2Proof.Machine

/-! ### Flash map (Table 17.1) -/

/-- The areas of the module flash. -/
inductive FlashArea where
  | firmware (slot : Nat)
  | pattern (slot : Nat)
  | assets (slot : Nat)
  | unused
  | identity
  deriving DecidableEq, Repr

/-- The area of an offset; none beyond the 256 MiB. -/
def flashArea (off : Nat) : Option FlashArea :=
  if off < 0x4000000 then some (.firmware (off / 0x2000000))
  else if off < 0xA000000 then some (.pattern ((off - 0x4000000) / 0x2000000))
  else if off < 0xA800000 then some (.assets ((off - 0xA000000) / 0x400000))
  else if off < 0xFF00000 then some .unused
  else if off < 0x10000000 then some .identity
  else none

/-- A byte of the module flash. The identity sector is as production left it: nothing writes it. -/
def State.flashByte (s : State) (off : Nat) : BitVec 8 :=
  if flashArea off = some .identity then Config.identityByte (off - 0xFF00000) else s.rdByte (Mem.flash + off)

/-! ### The identity sector (R304, R408) -/

/-- An item of the identity sector, wherever it lies. -/
def identityItem (k : Nat) : Bytes :=
  (List.range (Config.identityAt k).2).map (fun i => Config.identityByte ((Config.identityAt k).1 + i))

/-- The module's own certificate, and beside it the certificate of the device CA that has signed it. -/
def identityCert : Bytes := identityItem 0
def deviceCaCert : Bytes := identityItem 1

/-- The Asresy root key, which has signed the device CA certificate; where it lies is the model's choice (log 50). -/
def rootKey : Bytes := identityItem 2

/-- A plant port's own MAC address. -/
def ownMac (port : Nat) : Bytes :=
  (List.range 6).map (fun i => Config.identityByte ((Config.identityAt (3 + port)).1 + i))

/-! ### Keys of the device secret (Table 17.2, R415 step 1) -/

def infoBytes (info : String) : Bytes := info.toUTF8.toList.map fun b => BitVec.ofNat 8 b.toNat

/-- The settings key and the key-store key, derived at each boot. -/
def settingsKey : Bytes := hkdf32 Config.deviceSecret (infoBytes "settings")
def keyStoreKey : Bytes := hkdf32 Config.deviceSecret (infoBytes "keystore")

/-! ### Certificates (R435); the X.509 format is outside the spec (log 50) -/

/-- A certificate is signed by a key: ECDSA over the SHA-384 of its body. -/
def certSigned (cert key : Bytes) : Bool :=
  verifySig key (sha384 (Config.certBody cert)) (Config.certSigR cert) (Config.certSigS cert)

/-- A certificate chains through the device CA to the root key, whose SHA-384 is in mask ROM. -/
def certChains (cert : Bytes) : Bool :=
  certSigned cert (Config.certKey deviceCaCert) && certSigned deviceCaCert rootKey && sha384 rootKey == Config.rootKeyHash

end Sys2Proof.Machine
end

