-- ==== Sys2Proof/Machine/NetView.lean ====
section
/-!
DEFINITION. Reading the NETWORK section: data sets (Table 10.1, R306), Terpaene connections (Table 10.2), CAN items
(Tables 11.2, 11.7, 11.9), ports, PTP instances and Ethernet slots (Tables 12.1, 12.3, 12.6).
-/

namespace Sys2Proof.Machine

variable (p : Pattern)

def Pattern.netItem (k : Nat) : Bytes := p.item Pattern.NETWORK 32 k

/-- The items of a KIND, in the order of the section. -/
def Pattern.netItems (kind : Nat) : List Bytes :=
  ((List.range (p.items Pattern.NETWORK)).map p.netItem).filter (fun it => it.u8 0 == kind)

/-! ### Data sets -/

def plainKind : Nat := 0x10
def pairedKind : Nat := 0x20
def tpKind : Nat := 0x21

/-- Plain and paired data set items; the paired set index is the order of the paired ones (R258). -/
def Pattern.plainSets : List Bytes := p.netItems plainKind
def Pattern.pairedSets : List Bytes := p.netItems pairedKind
def Pattern.pairedSet (i : Nat) : Bytes := p.pairedSets.getD i []

def setSend (it : Bytes) : Bool := bitOf (it.u8 1) 0
def setSafe (it : Bytes) : Bool := bitOf (it.u8 1) 1 && it.u8 0 == pairedKind
def setOnPort (it : Bytes) (port : Nat) : Bool := it.u8 0 == pairedKind || bitOf (it.u8 1) (2 + port)
def setNo (it : Bytes) : Nat := it.u16 2
def setLen (it : Bytes) : Nat := it.u16 4
def setWindow (it : Bytes) : Nat := it.u8 6
def setSubst (it : Bytes) : Nat := it.u8 7
def setPeriod (it : Bytes) : Nat := it.u16 8
def setPhase (it : Bytes) : Nat := it.u16 10
def setTimeout (it : Bytes) : Nat := it.u16 12
def setHoldLim (it : Bytes) : Nat := it.u16 14
def setBuf (it : Bytes) : Nat := it.u32 16
def setWriter (it : Bytes) : Nat := it.u8 20
def setSeg (it : Bytes) : Nat := it.u16 22
def setPeer (it : Bytes) : Nat := it.u16 24
def setFixed (it : Bytes) : Nat := it.u32 28

/-- Index of a paired set, by set number. -/
def Pattern.pairedIndex (set : Nat) : Option Nat :=
  (List.range p.pairedSets.length).find? (fun i => setNo (p.pairedSet i) == set)

/-! ### Terpaene connections -/

def Pattern.tpItems : List Bytes := p.netItems tpKind
def Pattern.tpItem (c : Nat) : Option Bytes := p.tpItems.find? (fun it => it.u8 2 == c)
def tpProducer (it : Bytes) : Bool := bitOf (it.u8 1) 0
def tpSafe (it : Bytes) : Bool := bitOf (it.u8 1) 1
def tpConn (it : Bytes) : Nat := it.u8 2
def tpCrcLimit (it : Bytes) : Nat := it.u8 3
def tpId (it : Bytes) : Nat := it.u32 4
def tpSeed (it : Bytes) : Nat := it.u32 8
def tpWdtMs (it : Bytes) : Nat := it.u16 12
def tpLen (it : Bytes) : Nat := it.u16 14
def tpPeriod (it : Bytes) : Nat := it.u16 16
def tpTxPath (it : Bytes) : Nat := it.u8 18
def tpRxPath (it : Bytes) : Nat := it.u8 19
def tpTxRef (it : Bytes) : Nat := it.u16 20
def tpRxRef (it : Bytes) : Nat := it.u16 22
def tpBuf (it : Bytes) : Nat := it.u32 24
def tpWriter (it : Bytes) : Nat := it.u8 28
def tpSeg (it : Bytes) : Nat := it.u16 30

/-- Does a path code of Table 10.2 take in a path: 1 plant A, 2 plant B, 4 CAN FD? -/
def pathIncludes (code path : Nat) : Bool := code == path || (code == 3 && (path == 1 || path == 2))

/-! ### CAN -/

def Pattern.canItem (n : Nat) : Option Bytes := (p.netItems 0x30).find? (fun it => it.u8 1 == n)
def canModeOf (it : Bytes) : Nat := it.u8 2
def canFdEn (it : Bytes) : Bool := bitOf (it.u8 3) 0
def canTdcEn (it : Bytes) : Bool := bitOf (it.u8 3) 1
def canPexEn (it : Bytes) : Bool := bitOf (it.u8 3) 2
def canBusOffAuto (it : Bytes) : Bool := bitOf (it.u8 3) 3
def canRxfAll (it : Bytes) : Bool := bitOf (it.u8 3) 4
def canSspOff (it : Bytes) : Nat := it.u8 14
def canDlyMin (it : Bytes) : Nat := it.u8 15
def canFifoQ (it : Bytes) : Nat := it.u8 16
def canRxQ (it : Bytes) : Nat := it.u8 17
def canRxfId (it : Bytes) : Nat := it.u32 20
def canRxfMask (it : Bytes) : Nat := it.u32 24

def Pattern.mailboxes (n : Nat) : List Bytes := (p.netItems 0x31).filter (fun it => it.u8 1 == n)
def Pattern.mailbox (n m : Nat) : Option Bytes := (p.mailboxes n).find? (fun it => it.u8 2 == m)
def mbNo (it : Bytes) : Nat := it.u8 2
def mbImage (it : Bytes) : Bool := bitOf (it.u8 3) 0
def mbId (it : Bytes) : Nat := it.u32 4
def mbMask (it : Bytes) : Nat := it.u32 8
def mbImgOff (it : Bytes) : Nat := it.u32 12
def mbTimeout (it : Bytes) : Nat := it.u16 16
def mbHold (it : Bytes) : Nat := it.u16 18
def mbSubst (it : Bytes) : Nat := it.u8 20
def mbFixed (it : Bytes) : Nat := it.u32 24

def Pattern.canSlot (n slot : Nat) : Option Bytes :=
  (p.netItems 0x32).find? (fun it => it.u8 1 == n && it.u8 2 == slot)
def slotSrc (it : Bytes) : Nat := it.u8 3
def slotQ (it : Bytes) : Nat := it.u8 4
def slotWriter (it : Bytes) : Nat := it.u8 5
def slotBrs (it : Bytes) : Bool := it.u8 6 == 1
def slotBuf (it : Bytes) : Nat := it.u32 8
def slotFrameId (it : Bytes) : Nat := it.u32 12

/-! ### Ethernet and PTP -/

def Pattern.portItem (port : Nat) : Option Bytes := (p.netItems 0x40).find? (fun it => it.u8 1 == port)
def portSpeed (it : Bytes) : Nat := it.u8 2
def portVlan (it : Bytes) : Bool := bitOf (it.u8 3) 0
def portMacsec (it : Bytes) : Bool := bitOf (it.u8 3) 1
def portConf (it : Bytes) : Bool := bitOf (it.u8 3) 2
def portReplay (it : Bytes) : Nat := it.u32 8
def portVid (it : Bytes) : Nat := it.u16 4
def portPcp (it : Bytes) : Nat := it.u8 6

def Pattern.ptpItem (port : Nat) : Option Bytes :=
  (p.netItems 0x41).find? (fun it => it.u8 1 == port && bitOf (it.u8 3) 3)
def ptpDomain (it : Bytes) : Nat := it.u8 2
def ptpPrio1 (it : Bytes) : Nat := it.u8 4
def ptpPrio2 (it : Bytes) : Nat := it.u8 5
def ptpClass (it : Bytes) : Nat := it.u8 6
def ptpLogSync (it : Bytes) : Nat := it.u8 7
def ptpLogAnnounce (it : Bytes) : Nat := it.u8 8
/-- ANN_TIMEOUT. -/
def ptpAnnTimeout (it : Bytes) : Nat := it.u8 10
def ptpLogDelay (it : Bytes) : Nat := it.u8 9
def ptpP2p (it : Bytes) : Bool := bitOf (it.u8 3) 0
def ptpSlaveOnly (it : Bytes) : Bool := bitOf (it.u8 3) 1
def ptpGmLock (it : Bytes) : Bool := bitOf (it.u8 3) 2
def ptpAcqS (it : Bytes) : Nat := it.u8 11
def ptpLockNs (it : Bytes) : Nat := it.u32 12

def Pattern.ethSlots (port : Nat) : List Bytes := (p.netItems 0x42).filter (fun it => it.u8 1 == port)
def Pattern.ethSlot (port slot : Nat) : Option Bytes := (p.ethSlots port).find? (fun it => it.u8 2 == slot)
def ethSlotNo (it : Bytes) : Nat := it.u8 2
def ethSlotSrc (it : Bytes) : Nat := it.u8 3
def ethSlotRef (it : Bytes) : Nat := it.u16 4

/-- NET_TX names a slot by bits 5:0 of OBJECT (Table 2.4). -/
def slotOf (object : Nat) : Nat := bitsOf object 5 0

end Sys2Proof.Machine
end

