-- ==== Sys2Proof/Machine/PairView.lean ====
section
/-!
DEFINITION. Reading the LINING section (Tables 13.6, 13.7) and the heartbeat body (Table 13.4).
-/

namespace Sys2Proof.Machine

variable (p : Pattern)

def Pattern.liningItem (k : Nat) : Bytes := p.item Pattern.LINING 16 k
def Pattern.mirrorOff : Nat := (p.liningItem 0).u32 4
def Pattern.liningBytes : Nat := (p.liningItem 0).u32 8
def Pattern.witWaitMs : Nat := (p.liningItem 0).u32 12 % 256
def Pattern.claimB : Nat := (p.liningItem 0).u32 12 / 65536

/-- The Lining items of a Nymil slot in item order, and the slots in ascending order (R331, R334). -/
def Pattern.liningItems (slot : Nat) : List Bytes :=
  ((List.range (p.items Pattern.LINING)).map p.liningItem).filter (fun it => it.u8 0 != 0 && it.u8 1 == slot)
def Pattern.liningSlots : List Nat := (List.range 32).filter (fun slot => !(p.liningItems slot).isEmpty)
def Pattern.lastSlot : Nat := (p.liningSlots.getLast?).getD 0

def lnKind (it : Bytes) : Nat := it.u8 0
def lnIdx (it : Bytes) : Nat := it.u16 2
def lnOff (it : Bytes) : Nat := it.u32 4
def lnLen (it : Bytes) : Nat := it.u32 8
def lnAux (it : Bytes) : Nat := it.u32 12

/-- Packets of an item and of an epoch before a slot (R334). -/
def lnPackets (it : Bytes) : Nat := ceilDiv (lnLen it) 256
def Pattern.packetsOf (slots : List Nat) : Nat :=
  (slots.map (fun slot => ((p.liningItems slot).map lnPackets).sum)).sum
def Pattern.packetBase (slot : Nat) : Nat := p.packetsOf (p.liningSlots.filter (· < slot))

/-- Where packet number k of a half lies in shared SRAM (R336). -/
def Pattern.mirrorAddr (half : Bool) (k : Nat) : Nat :=
  0x03000000 + p.mirrorOff + (k % 2) * 0x80000 + (if half then 0x40000 else 0) + (k / 2) * 256

/-! ### Heartbeat body -/

def hbPos (b : Bytes) : Nat := b.u8 0
def hbRole (b : Bytes) : Nat := b.u8 1
def hbState (b : Bytes) : Nat := b.u8 2
def hbFlags (b : Bytes) : Nat := b.u8 3
def hbReleased (b : Bytes) : Bool := bitOf (hbFlags b) 0
def hbStitch (b : Bytes) : Nat := b.u32 4
def hbPatternId (b : Bytes) : Nat := b.u64 8
def hbGeneration (b : Bytes) : Nat := b.u32 16
def hbSince (b : Bytes) : Nat := b.u32 24
def hbPairedOut (b : Bytes) : BitVec 48 := BitVec.ofNat 48 (Bytes.leAt b 28 6)
def hbFnState (b : Bytes) (f : Nat) : Nat := bitsOf (b.u8 (36 + f / 4)) (2 * (f % 4) + 1) (2 * (f % 4))

/-- The heartbeat body of a pair message is in network byte order (R7, R330): each field reversed. -/
def hbSwap (b : Bytes) : Bytes :=
  ([1, 1, 1, 1, 4, 8, 4, 4, 4, 6, 2, 16, 4].foldl (fun (r : Nat × Bytes) n =>
    (r.1 + n, r.2 ++ (b.slice r.1 n).reverse)) (0, [])).2

end Sys2Proof.Machine
end

