-- ==== Sys2Proof/Machine/PairMsg.lean ====
section
/-!
DEFINITION. What a paired module says of itself: role changes, the heartbeat body, pair messages and the unscheduled
transmit queue (R309, R324, R329, R330).
-/

namespace Sys2Proof.Machine

def State.paired (s : State) : Bool := s.isSet F.PAIR_STATUS_PAIRED
def State.position (s : State) : Nat := s.getF F.PAIR_STATUS_POS

/-- Codes of the station states in a heartbeat (Table 13.4). -/
def StationState.hbCode : StationState → Nat
  | .off => 0
  | .boot => 1
  | .unpatterned => 2
  | .stop => 3
  | .tacking => 4
  | .run => 5
  | .safeHalt => 6
  | .watch => 7

/-- A role change (R324); PARTNER_READY is the active's (R339), STALE_CAUSE is of STANDBY and STALE. -/
def State.setRole (s : State) (r : Role) : State :=
  let old := s.getF F.PAIR_STATUS_ROLE
  if old = r.code then s
  else
    let s := (s.setF F.PAIR_STATUS_ROLE r.code).setF F.PAIR_STATUS_PARTNER_READY 0
    let s := if r = .stale ∨ r = .standby then s else s.setF F.PAIR_STATUS_STALE_CAUSE 0
    s.raise Ev.PAIR_ROLE srcPair [old, r.code]

def State.setPair (s : State) (x : Pair) : State := { s with pair := x }

/-- The module is SYNCING, and resynchronises anew: pair key, epochs, claim, takeover and health report begin again
(R338, R347). -/
def State.toSyncing (s : State) : State :=
  (s.setRole .syncing).setPair { (s.setRole .syncing).pair with
    takeover := none, nextRole := none, claimWait := 0, key := none, ecdh := none, keyIn := [], waitTx := [],
    rxEpoch := none, rxValid := [], committed := none, toApply := [], healthDue := false, healthSent := false, healthWait := none,
    readyAge := none, causes := [] }

/-- The committed epoch is fully applied. -/
def State.epochApplied (s : State) : Bool := s.pair.committed.isSome && s.pair.toApply.isEmpty

/-- FLAGS of the heartbeat. -/
def State.hbFlagsNow (s : State) : Nat :=
  (if s.pair.release = .done then 1 else 0) + (if s.isSet F.PAT_STATE_CHECK_CONFIRMED then 2 else 0) +
    (if s.isSet F.PTP_STATUS_LOCKED then 4 else 0) + (if s.epochApplied && s.pair.causes.isEmpty then 8 else 0)

/-- The digital channels whose switch is closed. -/
def State.closedNow (s : State) : BitVec 48 :=
  BitVec.ofNat 48 ((List.range 48).map (fun n => if s.isSet (F.DIO_CH_STATUS_DRIVE n) then 2 ^ n else 0)).sum

/-- PAIRED_OUT: the switches as the last output apply point left them (R329). -/
def State.pairedOut (s : State) : Nat := s.pair.outApplied.toNat

/-- FN_STATE: two bits for each function. -/
def State.fnStates (s : State) : Nat := ((List.range 64).map (fun f => s.fnState f * 4 ^ f)).sum

/-- The heartbeat body of the current stitch (Table 13.4). -/
def State.heartbeatBody (s : State) : Bytes :=
  let p := s.pat.active
  leBytes 1 s.position ++ leBytes 1 (s.getF F.PAIR_STATUS_ROLE) ++ leBytes 1 s.station.hbCode ++
    leBytes 1 s.hbFlagsNow ++ leBytes 4 s.clock.refN ++ leBytes 8 ((p.map (·.patternId)).getD 0) ++
    leBytes 4 ((p.map (·.generation)).getD 0) ++ leBytes 4 (s.getF F.PAIR_EPOCH_LO_EPOCH) ++
    leBytes 4 (if s.roleIs .active then s.pair.since.toNat else 0xFFFFFFFF) ++ leBytes 6 s.pairedOut ++ leBytes 2 0 ++
    leBytes 16 s.fnStates ++ leBytes 4 0

/-! ### Dunhel frames (R304, R305) -/

/-- Destination MAC: data set, or pair message to a station. -/
def macSet (set : Nat) : Bytes := [0x03, 0x5F, 0xA0, 0x00] ++ beBytes 2 (set % 4096)
def macStation (station : Nat) : Bytes := [0x03, 0x5F, 0xA0, 0x01] ++ beBytes 2 (station % 4096)

/-- A Dunhel frame without its FCS, padded to 60 bytes (R304). -/
def dunhel (p : Pattern) (port kind set : Nat) (dest payload : Bytes) (stitch : BitVec 32) : Bytes :=
  let tag := match p.portItem port with
    | some it => if portVlan it then beBytes 2 0x8100 ++ beBytes 2 (portPcp it * 8192 + portVid it) else []
    | none => []
  let b := dest ++ ownMac port ++ tag ++ beBytes 2 0x88B5 ++ leBytes 1 1 ++ leBytes 1 kind ++
    beBytes 2 (p.stationAddr % 4096) ++ beBytes 2 set ++ beBytes 2 payload.length ++ beBytes 4 stitch.toNat ++ payload
  b ++ List.replicate (60 - b.length) 0#8

/-- A pair message (Table 13.5). -/
def pairMsg (msg pos qstation qpos verdict qseq : Nat) (body : Bytes) : Bytes :=
  leBytes 1 msg ++ leBytes 1 pos ++ beBytes 2 qstation ++ leBytes 1 qpos ++ leBytes 1 verdict ++ beBytes 2 qseq ++ body

/-- POS that a message of this module carries. -/
def State.msgPos (s : State) : Nat := if s.paired then s.position else 0xFF

/-! ### The unscheduled queue (R309) -/

def State.waitingOf (s : State) (port : Nat) : List Waiting := Store.get (fun _ => []) s.net.waiting port
def State.setWaiting (s : State) (port : Nat) (l : List Waiting) : State :=
  { s with net := { s.net with waiting := Store.set (fun _ => []) s.net.waiting port l } }

/-- A frame joins a port's queue of 32, behind its class; a full queue drops it. -/
def State.enqueue (s : State) (port : Nat) (w : Waiting) : State :=
  let l := s.waitingOf port
  if 32 ≤ l.length then s.incSat (F.ETH_P_DROP_TXQ_FULL port)
  else s.setWaiting port (l.filter (fun x => x.cls ≤ w.cls) ++ [w] ++ l.filter (fun x => w.cls < x.cls))

/-- A pair message to a station is queued on a port. -/
def State.sendPair (s : State) (port station : Nat) (m : Bytes) : State :=
  match s.pat.active with
  | none => s
  | some p =>
    if (p.portItem port).isNone then s else
    let f := dunhel p port 4 0 (macStation station) m (s.clock.stitch.setWidth 32)
    s.enqueue port ⟨1, f.length + 4, f⟩

end Sys2Proof.Machine
end

