-- ==== Sys2Proof/Machine/Macsec.lean ====
section
/-!
DEFINITION. MACsec on a plant port: secure associations, protection and validation of frames (R312, R313).
-/

namespace Sys2Proof.Machine

/-- The fixed settings of a loopback test of a plant port without a Pattern (R473): 1000 Mbit/s, no tag, no MACsec. -/
def lbPortItem (port : Nat) : Bytes := [0x40#8, BitVec.ofNat 8 port, 2#8] ++ List.replicate 29 0#8

/-- The item of a plant port: the Pattern's, or without a Pattern the fixed settings of a test of it. -/
def State.portCfg (s : State) (port : Nat) : Option Bytes :=
  match s.pat.active with
  | some p => p.portItem port
  | none => if (s.dgt.lb.map (·.target)) == some (8 + port) then some (lbPortItem port) else none
def State.portMacsecOn (s : State) (port : Nat) : Bool := ((s.portCfg port).map portMacsec).getD false
def State.secConf (s : State) (port : Nat) : Bool := ((s.portCfg port).map portConf).getD false
def State.secReplay (s : State) (port : Nat) : Nat := ((s.portCfg port).map portReplay).getD 0

/-- The port may carry frames other than EAPOL (R313). -/
def State.portOpen (s : State) (port : Nat) : Bool :=
  !(s.portMacsecOn port) || s.isSet (F.ETH_P_STATUS_SECURED port)

def State.macsecOf (s : State) (port : Nat) : MacsecPort := Store.get (fun _ => MacsecPort.fresh) s.net.macsec port
def State.setMacsec (s : State) (port : Nat) (x : MacsecPort) : State :=
  { s with net := { s.net with macsec := Store.set (fun _ => MacsecPort.fresh) s.net.macsec port x } }

/-- A SAK is installed: it protects what is sent from packet number 1 on, and at most the one before it is still
accepted beside it. -/
def MacsecPort.install (x : MacsecPort) (an : Nat) (sak : Bytes) : MacsecPort :=
  { tx := some (an, sak)
    pn := 1
    rx := (an, sak) :: (x.rx.filter (fun a => a.1 != an)).take 1
    expect := x.expect.filter (fun e => e.1 % 4 != an) }

/-- SCI: the port's own MAC address and port number 1. -/
def ownSci (port : Nat) : Bytes := ownMac port ++ [0x00#8, 0x01#8]

/-- SecTAG with an explicit SCI: TCI and AN, short length, packet number, SCI. -/
def secTag (conf : Bool) (an len pn : Nat) (sci : Bytes) : Bytes :=
  beBytes 2 0x88E5 ++ leBytes 1 (0x20 + (if conf then 0x0C else 0) + an) ++ leBytes 1 (if len < 48 then len else 0) ++
    beBytes 4 pn ++ sci

/-- The protected frame: SecTAG after the addresses, the data encrypted or in clear, the ICV. -/
def secFrame (conf : Bool) (an : Nat) (sak : Bytes) (pn : Nat) (sci f : Bytes) : Bytes :=
  let tag := secTag conf an (f.length - 12) pn sci
  let iv := sci ++ beBytes 4 pn
  if conf then
    let r := gcmSeal sak iv (f.take 12 ++ tag) (f.drop 12)
    f.take 12 ++ tag ++ r.1 ++ r.2
  else f.take 12 ++ tag ++ f.drop 12 ++ (gcmSeal sak iv (f.take 12 ++ tag ++ f.drop 12) []).2

/-- A frame goes out on a port: protected where the port runs MACsec, unless it is EAPOL; without a packet number left
nothing is sent. -/
def State.emit (s : State) (port : Nat) (f : Bytes) : State :=
  let send (s : State) (f : Bytes) : State :=
    { s with net := { s.net with wire := Store.set (fun _ => []) s.net.wire port f } }.incWrap (F.ETH_P_TX_OK_COUNT port)
  if s.portMacsecOn port && f.beAt 12 2 != 0x888E then
    let x := s.macsecOf port
    match x.tx with
    | some (an, sak) =>
      if x.pn < 2 ^ 32 then
        send (s.setMacsec port { x with pn := x.pn + 1 }) (secFrame (s.secConf port) an sak x.pn (ownSci port) f)
      else s
    | none => s
  else send s f

/-- Strict validation (R312): a frame with SecTAG and SCI under an installed SAK, in the replay window, with a right
ICV. Answers the frame without its protection. -/
def State.secOpen (s : State) (port : Nat) (f : Bytes) : Option (Bytes × State) :=
  let x := s.macsecOf port
  let tci := f.u8 14
  let an := tci % 4
  let pn := f.beAt 16 4
  let sci := f.slice 20 8
  let key := Bytes.be sci * 4 + an
  let expect := Store.get (fun _ => 1) x.expect key
  let data := (f.drop 28).take (f.length - 44)
  let icv := f.drop (f.length - 16)
  if f.length < 44 || f.beAt 12 2 != 0x88E5 || bitOf tci 7 || !bitOf tci 5 || pn = 0 || pn + s.secReplay port < expect then
    none
  else
    match x.rx.find? (fun a => a.1 == an) with
    | none => none
    | some (_, sak) =>
      let iv := sci ++ f.slice 16 4
      let m := if bitOf tci 3 then gcmOpen sak iv (f.take 28) data icv
        else (gcmOpen sak iv (f.take 28 ++ data) [] icv).map (fun _ => data)
      m.map (fun m => (f.take 12 ++ m,
        s.setMacsec port { x with expect := Store.set (fun _ => 1) x.expect key (max expect (pn + 1)) }))

end Sys2Proof.Machine
end

