-- ==== Sys2Proof/Machine/PtpOps.lean ====
section
/-!
DEFINITION. Ship time operations: LOCKED, the increment, steps and rebases, triggers and captures (R314 to R321).
-/

namespace Sys2Proof.Machine

/-- A signed number in the 32-bit range (R319). -/
def sat32 (i : Int) : Int := if i < -2147483648 then -2147483648 else if 2147483647 < i then 2147483647 else i

/-- LOCKED sets; TIME_INITIAL clears at the first LOCKED (R317, R319). -/
def State.ptpLock (s : State) (source : Nat) : State :=
  if s.isSet F.PTP_STATUS_LOCKED then s
  else ((s.setF F.PTP_STATUS_LOCKED 1).setF F.PTP_STATUS_TIME_INITIAL 0).raise Ev.PTP_LOCK srcTime [source]

/-- LOCKED clears: cause 0 offset, 1 no instance in SLAVE, 2 USABLE cleared (R319). -/
def State.ptpUnlock (s : State) (cause : Nat) : State :=
  if s.isSet F.PTP_STATUS_LOCKED then
    (s.setF F.PTP_STATUS_LOCKED 0).raise Ev.PTP_UNLOCK srcTime [cause, unsgn 32 (sat32 (s.ptp.lastOffset.getD 0))]
  else s

/-- USABLE clears while the main clocks run from the RC oscillator (R319). -/
def State.ptpUnusable (s : State) : State :=
  let s := { s with ptp := { s.ptp with within := 0 } }
  if s.isSet F.PTP_STATUS_USABLE then
    ((s.setF F.PTP_STATUS_USABLE 0).raise Ev.PTP_UNUSABLE srcTime []).ptpUnlock 2
  else s

/-- The reference fails (R18, R250, R403): the main clocks run from the RC oscillator, the class B fault REFCLK_LOST is
raised, and the functions take it at the next boundary. -/
def State.referenceLost (s : State) : State :=
  let s := ((s.setF F.SAF_CLK_REF_FAIL 1).setF F.SCH_STATUS_DEGRADED_CLK 1).setF F.PWR_STATUS_RC_CLOCK 1
  let s := (s.raise Ev.REFCLK_LOST srcPower []).ptpUnusable
  { s with saf := { s.saf with refLost := true } }

/-! ### The increment (R314) -/

def incrMin : Nat := 0x4FFBE76C9
def incrMax : Nat := 0x500418937

/-- The increment is committed or refused. -/
def State.commitIncr (s : State) (v : Nat) : State :=
  if incrMin ≤ v && v ≤ incrMax then
    { s with clock := { s.clock with incr := BitVec.ofNat 36 v, incrLo := none } }
  else
    let s := { s with clock := { s.clock with incrLo := none } }
    (s.setF F.PTP_STATUS_INCR_REFUSED 1).raise Ev.PTP_INCR_REFUSED srcTime [lo32 v]

/-- Only the supervisor and the engineering service write the time registers (R314); any other requester's write is
refused as a write to an RO field. -/
def State.timeCommand (s : State) (req : Requester) (t : State) : State :=
  match req with
  | .supervisor => t
  | .engService => t
  | _ => s.accErr req [.refusedRo]

/-- PTP_INCR_LO is written: its value is held apart until PTP_INCR_HI is. -/
def State.incrLoWrite (s : State) (value : BitVec 32) : State := { s with clock := { s.clock with incrLo := some value } }

/-- PTP_INCR_HI is written; without a value held apart the low word in force is kept. -/
def State.incrHiWrite (s : State) (value : BitVec 32) : State :=
  let lo := match s.clock.incrLo with
    | some w => w.toNat
    | none => s.clock.incr.toNat % 2 ^ 32
  s.commitIncr (value.toNat % 16 * 2 ^ 32 + lo)

def execPtpIncrLoWrite (req : Requester) (value : BitVec 32) (s : State) : Result :=
  .next (s.writing req F.PTP_INCR_LO_FRAC (s.timeCommand req (s.incrLoWrite value)))
def execPtpIncrHiWrite (req : Requester) (value : BitVec 32) (s : State) : Result :=
  .next (s.writing req F.PTP_INCR_HI_NS (s.timeCommand req (s.incrHiWrite value)))

/-! ### Steps and rebases (R39, R315, R316) -/

def State.stepPending (s : State) : Bool := s.clock.pendingStep.isSome || s.clock.pendingRebase.isSome

/-- A STEP is refused with a code: event, time mark, STEP_REFUSED in RUN and TACKING. -/
def State.refuseStep (s : State) (code : Nat) (d : Int) : State :=
  let s := (s.setF F.PTP_STATUS_CODE code).raise Ev.PTP_STEP_REFUSED srcTime [unsgn 32 d]
  let s := if s.station = .run ∨ s.station = .tacking then s.setF F.SCH_STATUS_STEP_REFUSED 1 else s
  s.timeMark .stepRefused d

/-- A STEP of d ns is decided at once. -/
def State.stepCmd (s : State) (d : Int) : State :=
  let guard := 200 * ((s.pat.active.map (·.guardTicks)).getD 0)
  if s.stepPending then s.setF F.PTP_STATUS_CODE 2
  else if s.getF F.PTP_STEP_LIMIT_NS < d.natAbs then s.refuseStep 3 d
  else if (s.station = .run ∨ s.station = .tacking) ∧ guard < d.natAbs then s.refuseStep 4 d
  else if (s.nowNs : Int) + d < 0 ∨ (2 : Int) ^ 64 ≤ s.nowNs + d then s.refuseStep 5 d
  else
    let s := (s.setF F.PTP_STATUS_CODE 0).setF F.PTP_STATUS_STEP_PENDING 1
    { s with clock := { s.clock with pendingStep := some d } }

/-- A REBASE to a time; `keeps` for the one of R404 that leaves TIME_INITIAL. -/
def State.rebaseCmd (s : State) (ns : Nat) (keeps : Bool) : State :=
  if s.stepPending then s.setF F.PTP_STATUS_CODE 2
  else if s.station ≠ .stop then s.setF F.PTP_STATUS_CODE 1
  else
    let s := (s.setF F.PTP_STATUS_CODE 0).setF F.PTP_STATUS_STEP_PENDING 1
    { s with clock := { s.clock with pendingRebase := some (BitVec.ofNat 64 ns), rebaseKeeps := keeps } }

/-- OP = STEP: by PTP_STEP. -/
def State.ptpStep (s : State) : State := s.stepCmd (sgn 32 (s.getF F.PTP_STEP_VALUE))

/-- OP = REBASE: to PTP_REBASE. -/
def State.ptpRebase (s : State) : State :=
  s.rebaseCmd (s.getF F.PTP_REBASE_HI_VALUE * 2 ^ 32 + s.getF F.PTP_REBASE_LO_VALUE) false

/-- OP = CANCEL withdraws what is pending (R315). -/
def State.ptpCancel (s : State) : State :=
  let t := (s.setF F.PTP_STATUS_STEP_PENDING 0).setF F.PTP_STATUS_CODE 0
  { t with clock := { t.clock with pendingStep := none, pendingRebase := none, rebaseKeeps := false } }

def execStep (req : Requester) (s : State) : Result := .next (s.writing req F.PTP_CMD_OP (s.timeCommand req s.ptpStep))
def execRebase (req : Requester) (s : State) : Result := .next (s.writing req F.PTP_CMD_OP (s.timeCommand req s.ptpRebase))
def execPtpCancel (req : Requester) (s : State) : Result := .next (s.writing req F.PTP_CMD_OP (s.timeCommand req s.ptpCancel))

/-- An accepted step is applied at a boundary after the latch (R40): STEP_APPLY. -/
def State.applyStep (s : State) : State :=
  match s.clock.pendingStep with
  | none => s
  | some d =>
    let now := ((s.clock.now.toNat : Int) + d * (2 ^ 32 : Nat)).toNat
    let s := { s with clock := { s.clock with now := BitVec.ofNat 96 now, shift := d, pendingStep := none,
                                              moved := s.clock.moved + d } }
    let s := ((s.setF F.PTP_STATUS_STEP_PENDING 0).setF F.SCH_STATUS_STEP_APPLIED 1).raise Ev.PTP_STEP_APPLIED srcTime
      [unsgn 32 d]
    s.timeMark .stepApplied d

/-- The activation of an armed region is postponed (R430): cause 0 time not locked, 1 state, 2 disarmed, and nothing
to do for a region that is not ARMED. -/
def State.postponeRegion (s : State) (r cause : Nat) : State :=
  if r < 3 && s.getF (F.UPD_R_STATE_STATE r) == 5 then
    ((s.setF (F.UPD_R_STATE_STATE r) 4).setF (F.UPD_R_STATE_POSTPONED r) 1).raise Ev.UPD_POSTPONED srcUpdate [r, cause]
  else s

/-- Every armed trigger is disarmed with POSTPONED set (R316, R393); an activation on it is postponed. -/
def State.postponeTriggers (s : State) : State :=
  (List.range 4).foldl (fun s k =>
    if s.isSet (F.PTP_TRIG_CTRL_ARMED k) then
      ((s.setF (F.PTP_TRIG_CTRL_ARMED k) 0).setF (F.PTP_TRIG_CTRL_POSTPONED k) 1).postponeRegion k 2 else s) s

/-- A pending REBASE is applied at a boundary after the latch (R316): REBASE_APPLY. -/
def State.applyRebase (s : State) : State :=
  match s.clock.pendingRebase with
  | none => s
  | some t =>
    let old := s.nowNs
    let keeps := s.clock.rebaseKeeps
    let n := if s.clock.period = 0 then 0 else t.toNat / s.clock.period
    let s := { s with clock := { s.clock with
      now := BitVec.ofNat 96 (t.toNat * 2 ^ 32)
      refN := n
      edge := BitVec.ofNat 64 (n * s.clock.period)
      moved := s.clock.moved + ((t.toNat : Int) - old)
      pendingRebase := none
      rebaseKeeps := false } }
    let s := (s.setF F.PTP_STATUS_STEP_PENDING 0).setF F.PTP_STATUS_DISCONT 1
    let s := if keeps then s else s.setF F.PTP_STATUS_TIME_INITIAL 0
    let s := s.postponeTriggers.raise Ev.PTP_REBASE srcTime [lo32 old, hi32 old, lo32 t.toNat, hi32 t.toNat]
    s.timeMark .rebase ((t.toNat : Int) - old)

/-! ### Masters heard (R318, R319; the comparison and the decision are those of IEEE 1588-2019, PRESUMED, log 49) -/

/-- STATE of a port's instance (Table 12.20). -/
def State.ptpState (s : State) (port : Nat) : Nat := s.getF (F.PTP_PORT_STATE_STATE port)
def State.setPtpState (s : State) (port st : Nat) : State := s.setF (F.PTP_PORT_STATE_STATE port) st

def State.foreignOf (s : State) (port : Nat) : List PtpForeign := Store.get (fun _ => []) s.ptp.foreign port
def State.setForeign (s : State) (port : Nat) (l : List PtpForeign) : State :=
  { s with ptp := { s.ptp with foreign := Store.set (fun _ => []) s.ptp.foreign port l } }

/-- The dataset comparison: of one grandmaster fewer steps removed and then the lower sender win; of two, the lower
priority1, quality, priority2 and identity, in this order. -/
def PtpForeign.better (a b : PtpForeign) : Bool :=
  if a.gm = b.gm then decide (a.steps < b.steps) || (a.steps == b.steps && decide (a.sender < b.sender))
  else
    let rank (x : PtpForeign) : Nat := ((x.prio1 * 2 ^ 32 + x.quality) * 256 + x.prio2) * 2 ^ 64 + x.gm
    decide (rank a < rank b)

/-- The best of the masters that have been heard twice. -/
def bestForeign (l : List PtpForeign) : Option PtpForeign :=
  (l.filter (fun x => 2 ≤ x.heard)).foldl (fun b x => match b with
    | none => some x
    | some y => if x.better y then some x else some y) none

/-- The dataset of an instance's own clock, with its identity. -/
def ptpOwn (it : Bytes) (gm : Nat) : PtpForeign :=
  { prio1 := ptpPrio1 it
    quality := ptpClass it * 2 ^ 24 + (Config.ptpAnnounce 5).toNat * 2 ^ 16 + (Config.ptpAnnounce 6).toNat * 256 +
      (Config.ptpAnnounce 7).toNat
    prio2 := ptpPrio2 it, gm := gm, steps := 0, sender := gm * 65536 + 1, heard := 2 }

/-- The state that an instance takes with a best master: a better own clock is MASTER, a worse one of a clock class up
to 127 PASSIVE, any other follows the master, first UNCALIBRATED. -/
def ptpDecide (it : Bytes) (st : Nat) (own best : PtpForeign) : Nat :=
  let follow := if st = 8 then 8 else 7
  if ptpSlaveOnly it then follow
  else if own.better best then 5
  else if ptpClass it ≤ 127 && ptpClass it != 0 then 6
  else follow

/-- The wait of an instance for an Announce message of its master begins anew. -/
def State.announceWait (s : State) (port : Nat) : State :=
  { s with ptp := { s.ptp with announceAt := Store.set (fun _ => 0) s.ptp.announceAt port s.elapsedNs } }

/-- The module is grandmaster: an instance is MASTER and none follows another clock. With GM_LOCK on such an instance its
time is declared locked; SOURCE shows it, or that there is no source (R319). PTP_LOCK has no source port then. -/
def State.masterStep (s : State) : State :=
  match s.pat.active with
  | none => s
  | some p =>
    let slave := [0, 1].any (fun q => s.ptpState q == 8)
    let follows := [0, 1].any (fun q => s.ptpState q == 7) || slave
    let master := [0, 1].any (fun q => s.ptpState q == 5)
    let gm := [0, 1].any (fun q => s.ptpState q == 5 && ((p.ptpItem q).map ptpGmLock).getD false)
    let s := if slave then s else s.setF F.PTP_STATUS_SOURCE (if master && !follows then 3 else 0)
    if gm && !follows && s.isSet F.PTP_STATUS_USABLE then s.ptpLock 0 else s

/-- An Announce message is heard: the masters of a port are kept, five at most, and the state decided. A new parent is
followed from UNCALIBRATED on. -/
def State.ptpAnnounce (s : State) (it : Bytes) (port : Nat) (own new : PtpForeign) : State :=
  let old := s.foreignOf port
  let heard := ((old.find? (fun x => x.sender == new.sender)).map (·.heard)).getD 0
  let l := ({ new with heard := heard + 1 } :: old.filter (fun x => x.sender != new.sender)).take 5
  let s := s.setForeign port l
  match bestForeign l with
  | none => s
  | some b =>
    let same := (bestForeign old).map (·.sender) == some b.sender
    let s := if b.sender = new.sender then s.announceWait port else s
    (s.setPtpState port (ptpDecide it (if same then s.ptpState port else 7) own b)).masterStep

/-- The announce receipt timeout of one instance (R318): its masters are forgotten; a master-capable one becomes MASTER,
a slave-only one listens again. -/
def State.announceLost (s : State) (it : Bytes) (port : Nat) : State :=
  ((s.setForeign port []).setPtpState port (if ptpSlaveOnly it then 3 else 5)).announceWait port

/-- Announce intervals of an instance in ns. -/
def ptpAnnounceWaitNs (it : Bytes) : Nat := ptpAnnTimeout it * 2 ^ ptpLogAnnounce it * 1000000000

/-- The instances whose ANN_TIMEOUT announce intervals have passed, at a stitch boundary: they listen, follow a master or
are passive behind one. -/
def State.announceStep (s : State) : State :=
  match s.pat.active with
  | none => s
  | some p =>
    [0, 1].foldl (fun s port =>
      match p.ptpItem port with
      | none => s
      | some it =>
        let waits := s.ptpState port == 3 || (decide (6 ≤ s.ptpState port) && decide (s.ptpState port ≤ 8))
        if waits && decide (Store.get (fun _ => 0) s.ptp.announceAt port + ptpAnnounceWaitNs it ≤ s.elapsedNs) then
          (s.announceLost it port).masterStep
        else s) s

/-- The state in which an instance begins: with a link LISTENING, without INITIALIZING; a port without an enabled
instance is DISABLED. -/
def State.ptpBegin (s : State) (port : Nat) : State :=
  let s := (s.setForeign port []).announceWait port
  s.setPtpState port (match s.pat.active.bind (fun p => p.ptpItem port) with
    | none => 2
    | some _ => if s.isSet (F.ETH_P_STATUS_LINK port) then 3 else 0)

/-! ### Servo (R319) -/

/-- Does a port feed the servo: the one instance in SLAVE; of two the one whose parent wins the comparison, port A on a
tie. -/
def State.ptpSource (s : State) (port : Nat) : Bool :=
  if s.ptpState (1 - port) = 8 then
    match bestForeign (s.foreignOf 0), bestForeign (s.foreignOf 1) with
    | some a, some b => if port = 0 then !(b.better a) else b.better a
    | none, some _ => port == 1
    | _, _ => port == 0
  else true

/-- The supervisor waits in STOP at the end of BOOT for a master's time (R317). -/
def State.acquiring (s : State) : Bool :=
  s.rst.autoDue && s.station == .stop && s.isSet F.PTP_STATUS_TIME_INITIAL && !s.stepPending

/-- The wait of R317 is over: no instance runs, the time has been set, or ACQ_S, the longer of two, has passed with no
REBASE to a master's time pending. -/
def State.acquired (s : State) (p : Pattern) : Bool :=
  let items := [0, 1].filterMap p.ptpItem
  items.isEmpty || !(s.isSet F.PTP_STATUS_TIME_INITIAL) ||
    (s.clock.pendingRebase.isNone &&
      decide (s.rst.bootEnd + (items.map ptpAcqS).foldl max 0 * 1000000000 ≤ s.elapsedNs))

/-- The lock count at one Sync of the source. -/
def State.ptpLockStep (s : State) (port lockNs : Nat) (offset : Int) : State :=
  if offset.natAbs ≤ lockNs then
    let s := { s with ptp := { s.ptp with within := s.ptp.within + 1, beyond := 0 } }
    if 16 ≤ s.ptp.within && s.isSet F.PTP_STATUS_USABLE then s.ptpLock port else s
  else
    let s := { s with ptp := { s.ptp with within := 0, beyond := s.ptp.beyond + 1 } }
    if 4 ≤ s.ptp.beyond then s.ptpUnlock 0 else s

/-- PTP_SYNC: a Sync of the parent of a port's instance, which is then in SLAVE, with the measured offset and path
delay, and the increment that the servo computes from them. -/
def execPtpSync (port : Nat) (offsetNs : Int) (delayNs : Nat) (incr : BitVec 36) (s : State) : Result :=
  onUnit (port < 2) (
    match s.pat.active.bind (fun p => p.ptpItem port) with
    | none => s
    | some it =>
      if !(s.domainOn (domPort port)) || (s.ptpState port != 7 && s.ptpState port != 8) then s else
      let off := if offsetNs < -32767 then -32767 else if 32767 < offsetNs then 32767 else offsetNs
      let s := ((s.setF (F.PTP_PORT_STATE_STATE port) 8).setF (F.PTP_PORT_STATE_DELAY port) (min delayNs 4095)).setF
        (F.PTP_PORT_STATE_OFFSET port) (unsgn 16 off)
      if !(s.ptpSource port) then s else
        let s := { s with ptp := { s.ptp with lastOffset := some offsetNs } }.setF F.PTP_STATUS_SOURCE (port + 1)
        let s := if s.isSet F.PTP_STATUS_USABLE then s.commitIncr incr.toNat else s
        let s := if s.acquiring then s.rebaseCmd ((s.nowNs : Int) - offsetNs).toNat false
          else if 4 * ptpLockNs it < offsetNs.natAbs then
            let d := sat32 (-offsetNs)
            (s.setF F.PTP_STEP_VALUE (unsgn 32 d)).stepCmd d
          else s
        s.ptpLockStep port (ptpLockNs it) offsetNs)

/-- PTP_ANNOUNCE_TIMEOUT: no instance in SLAVE for ANN_TIMEOUT intervals: a master-capable instance with a link takes
over as MASTER. LOCKED clears, unless the module is then grandmaster with GM_LOCK (R319). -/
def execPtpAnnounceTimeout (s : State) : Result :=
  .next (
    match s.pat.active with
    | none => s
    | some p =>
      let s := [0, 1].foldl (fun s port =>
        match p.ptpItem port with
        | none => s
        | some it =>
          if s.ptpState port < 3 then s else s.announceLost it port) s
      let gm := [0, 1].any (fun q => s.ptpState q == 5 && ((p.ptpItem q).map ptpGmLock).getD false)
      (if gm then s else s.ptpUnlock 1).masterStep)

/-! ### Triggers and captures (R320, R321) -/

/-- Compare time of a trigger. -/
def State.trigTime (s : State) (k : Nat) : Nat :=
  s.getF (F.PTP_TRIG_HI_TIME k) * 2 ^ 32 + s.getF (F.PTP_TRIG_LO_TIME k)

/-- The compare time of an armed trigger comes before the next boundary, so that it fires now or in this stitch. -/
def State.trigDue (s : State) (k : Nat) : Bool :=
  s.isSet (F.PTP_TRIG_CTRL_ARMED k) && decide (s.trigTime k < (s.clock.refN + 1) * s.clock.period)

/-- A due trigger at its advance: answers whether it fired; without a required LOCKED it is postponed. -/
def State.trigFire (s : State) (k : Nat) : Bool × State :=
  let s := (s.advanceTo (s.trigTime k)).setF (F.PTP_TRIG_CTRL_ARMED k) 0
  if s.isSet (F.PTP_TRIG_CTRL_REQ_LOCK k) && !(s.isSet F.PTP_STATUS_LOCKED) then
    (false, (s.setF (F.PTP_TRIG_CTRL_POSTPONED k) 1).raise Ev.PTP_TRIG_POSTPONED srcTime [k])
  else (true, s.setF (F.PTP_TRIG_CTRL_FIRED k) 1)

def State.capturesOf (s : State) (c : Nat) : List (BitVec 64) := Store.get (fun _ => []) s.ptp.captures c
def State.setCaptures (s : State) (c : Nat) (l : List (BitVec 64)) : State :=
  { s with ptp := { s.ptp with captures := Store.set (fun _ => []) s.ptp.captures c l } }.setF (F.PTP_CAP_STATUS_FILL c)
    l.length

/-- Does EDGE of a channel select this edge (Table 12.22)? -/
def edgeSelected (c edge : Nat) (rising : Bool) : Bool :=
  if 8 ≤ c then edge != 0 else if rising then edge == 1 || edge == 3 else edge == 2 || edge == 3

/-- A CAN FD controller beside its registers. -/
def State.canOf (s : State) (n : Nat) : CanCtrl := Store.get (fun _ => CanCtrl.fresh) s.can.ctrl n
def State.setCan (s : State) (n : Nat) (x : CanCtrl) : State :=
  { s with can := { s.can with ctrl := Store.set (fun _ => CanCtrl.fresh) s.can.ctrl n x } }

/-- A start of frame puts a frame on the bus of a CAN controller that is not off. -/
def State.canSof (s : State) (n : Nat) : State :=
  if s.getF (F.CAN_STATUS_EFF_MODE n) = 0 then s else s.setCan n { s.canOf n with busy := true }

/-- CAPTURE: an edge or a start of frame that lies ageNs back; inputs are stamped in steps of 100 ns. -/
def execCapture (ch : Nat) (rising : Bool) (ageNs : Nat) (s : State) : Result :=
  onUnit (ch < 16) (
    let t := s.nowNs - ageNs
    let t := BitVec.ofNat 64 (if ch < 8 then t / 100 * 100 else t)
    let s := if ch < 8 then s else s.canSof (ch - 8)
    let s := { s with ptp := { s.ptp with
      edges := Store.set (fun _ => none) s.ptp.edges (2 * ch + if rising then 1 else 0) (some t) } }
    if edgeSelected ch (s.getF (F.PTP_CAP_STATUS_EDGE ch)) rising then
      let l := s.capturesOf ch
      if l.length < 4 then s.setCaptures ch (l ++ [t]) else s.incSat (F.PTP_CAP_STATUS_OVERFLOW ch)
    else s)

/-- The oldest capture is removed and its high word returned; 0 when the FIFO is empty. -/
def State.captureTake (s : State) (c : Nat) : BitVec 32 × State :=
  match s.capturesOf c with
  | [] => (0, s)
  | t :: rest => ((t >>> 32).setWidth 32, s.setCaptures c rest)

/-- The capture channel of a digital input under R202, if it has one. -/
def captureChannel (n : Nat) : Option Nat := [0, 1, 8, 9, 24, 25, 32, 33].idxOf? n

end Sys2Proof.Machine
end

