-- ==== Sys2Proof/Machine/PtpMsg.lean ====
section
/-!
DEFINITION. The messages of the IEEE 1588 instances on the plant ports (R318, Table 12.5): headers, time stamps, what
is sent at an interval, and what a received message does. The layouts are those of IEEE 1588-2019, PRESUMED (log 49).
-/

namespace Sys2Proof.Machine

/-- Port identity of the instance of a port: the EUI-64 of its MAC address, and port number 1. -/
def ptpIdentity (port : Nat) : Bytes := (ownMac port).take 3 ++ [0xFF#8, 0xFE#8] ++ (ownMac port).drop 3 ++ [0x00#8, 0x01#8]

/-- Time stamp: seconds and nanoseconds. -/
def ptpStamp (ns : Nat) : Bytes := beBytes 6 (ns / 1000000000) ++ beBytes 4 (ns % 1000000000)

/-- messageType of the messages. -/
def ptpSyncType : Nat := 0
def ptpDelayReqType : Nat := 1
def ptpPdelayReqType : Nat := 2
def ptpPdelayRespType : Nat := 3
def ptpFollowUpType : Nat := 8
def ptpDelayRespType : Nat := 9
def ptpPdelayFollowType : Nat := 10
def ptpAnnounceType : Nat := 11

def ptpControl (typ : Nat) : Nat :=
  if typ = ptpSyncType then 0 else if typ = ptpDelayReqType then 1 else if typ = ptpFollowUpType then 2
  else if typ = ptpDelayRespType then 3 else 5

/-- A message: header and body. -/
def ptpMessage (it : Bytes) (port typ flags seq log : Nat) (body : Bytes) : Bytes :=
  leBytes 1 typ ++ [0x12#8] ++ beBytes 2 (34 + body.length) ++ leBytes 1 (ptpDomain it) ++ [0#8] ++ beBytes 2 flags ++
    List.replicate 12 0#8 ++ ptpIdentity port ++ beBytes 2 seq ++ leBytes 1 (ptpControl typ) ++ leBytes 1 log ++ body

/-- The frame of a message: peer delay messages go to the address that no bridge forwards. -/
def ptpFrame (port typ : Nat) (m : Bytes) : Bytes :=
  let dest : Bytes := if typ = ptpPdelayReqType ∨ typ = ptpPdelayRespType ∨ typ = ptpPdelayFollowType then
      [0x01, 0x80, 0xC2, 0x00, 0x00, 0x0E]
    else [0x01, 0x1B, 0x19, 0x00, 0x00, 0x00]
  let f := dest ++ ownMac port ++ beBytes 2 0x88F7 ++ m
  f ++ List.replicate (60 - f.length) 0#8

/-- A message waits as an unscheduled frame of the first class (R309). -/
def State.ptpQueue (s : State) (it : Bytes) (port typ flags seq log : Nat) (body : Bytes) : State :=
  let f := ptpFrame port typ (ptpMessage it port typ flags seq log body)
  s.enqueue port ⟨0, f.length + 4, f⟩

/-- The next sequence number of a kind of message. -/
def State.ptpSeq (s : State) (port kind : Nat) : Nat × State :=
  let n := Store.get (fun _ => 0) s.ptp.seqs (4 * port + kind)
  (n, { s with ptp := { s.ptp with seqs := Store.set (fun _ => 0) s.ptp.seqs (4 * port + kind) ((n + 1) % 65536) } })

/-- Body of an Announce message of this clock as grandmaster. -/
def ptpAnnounceBody (it : Bytes) (port now : Nat) : Bytes :=
  ptpStamp now ++ [Config.ptpAnnounce 2, Config.ptpAnnounce 3, 0#8] ++ leBytes 1 (ptpPrio1 it) ++ leBytes 1 (ptpClass it) ++
    [Config.ptpAnnounce 5, Config.ptpAnnounce 6, Config.ptpAnnounce 7] ++ leBytes 1 (ptpPrio2 it) ++
    (ptpIdentity port).take 8 ++ beBytes 2 0 ++ [Config.ptpAnnounce 4]

/-- What an instance sends at an interval: a master Sync or Announce, a slave Delay_Req, every instance Pdelay_Req, by
its delay mechanism. Sync and Pdelay_Resp are two-step. -/
def State.ptpInterval (s : State) (it : Bytes) (port : Nat) (kind : PtpTxKind) : State :=
  let st := s.getF (F.PTP_PORT_STATE_STATE port)
  match kind with
  | .sync =>
    if st = 5 then
      let (n, s) := s.ptpSeq port 0
      s.ptpQueue it port ptpSyncType 0x0200 n (ptpLogSync it) (ptpStamp 0)
    else s
  | .announce =>
    if st = 5 then
      let (n, s) := s.ptpSeq port 1
      s.ptpQueue it port ptpAnnounceType (Bytes.be [Config.ptpAnnounce 0, Config.ptpAnnounce 1]) n (ptpLogAnnounce it)
        (ptpAnnounceBody it port s.nowNs)
    else s
  | .pdelayReq =>
    if ptpP2p it then
      let (n, s) := s.ptpSeq port 2
      s.ptpQueue it port ptpPdelayReqType 0 n 0x7F (List.replicate 20 0#8)
    else if st = 7 || st = 8 then
      let (n, s) := s.ptpSeq port 2
      s.ptpQueue it port ptpDelayReqType 0 n 0x7F (ptpStamp 0)
    else s

/-- What follows a two-step message that has been sent: its Follow_Up with the time at which it left. -/
def State.ptpFollow (s : State) (port : Nat) (f : Bytes) : State :=
  match s.pat.active.bind (fun p => p.ptpItem port) with
  | none => s
  | some it =>
    let m : Bytes := f.drop 14
    let typ := m.u8 0 % 16
    if f.beAt 12 2 != 0x88F7 then s
    else if typ = ptpSyncType then s.ptpQueue it port ptpFollowUpType 0 (m.beAt 30 2) (ptpLogSync it) (ptpStamp s.nowNs)
    else if typ = ptpPdelayRespType then
      s.ptpQueue it port ptpPdelayFollowType 0 (m.beAt 30 2) 0x7F (ptpStamp s.nowNs ++ m.slice 44 10)
    else s

/-- A Delay_Req is answered by a master of the end-to-end mechanism, up to 256 in a second (Table 12.5). -/
def State.ptpDelayResp (s : State) (it : Bytes) (port : Nat) (m : Bytes) (at_ : Nat) : State :=
  let sec := s.nowNs / 1000000000
  let a := Store.get (fun _ => (0, 0)) s.ptp.answered port
  let n := if a.1 = sec then a.2 else 0
  if 256 ≤ n then s.incSat (F.ETH_P_DROP_PTP_FULL port)
  else
    { s with ptp := { s.ptp with answered := Store.set (fun _ => (0, 0)) s.ptp.answered port (sec, n + 1) } }.ptpQueue it
      port ptpDelayRespType 0 (m.beAt 30 2) (ptpLogDelay it) (ptpStamp at_ ++ m.slice 20 10)

/-- The master that an Announce message speaks of. -/
def ptpHeardOf (m : Bytes) : PtpForeign :=
  { prio1 := m.u8 47, quality := m.beAt 48 4, prio2 := m.u8 52, gm := m.beAt 53 8, steps := m.beAt 61 2,
    sender := m.beAt 20 10, heard := 1 }

/-- A message of another instance of the domain, received at a time: Announce, requests to answer. Sync, Follow_Up and
responses reach the servo as PTP_SYNC; management and signalling messages are counted and ignored. -/
def State.ptpIn (s : State) (p : Pattern) (port : Nat) (m : Bytes) (at_ : Nat) : State :=
  match p.ptpItem port with
  | none => s
  | some it =>
    let typ := m.u8 0 % 16
    if m.length < 34 || m.u8 1 % 16 != 2 || m.u8 4 != ptpDomain it || m.slice 20 8 == (ptpIdentity port).take 8 then s
    else if typ = ptpDelayReqType && !(ptpP2p it) && s.getF (F.PTP_PORT_STATE_STATE port) = 5 then s.ptpDelayResp it port m at_
    else if typ = ptpPdelayReqType && ptpP2p it then
      s.ptpQueue it port ptpPdelayRespType 0x0200 (m.beAt 30 2) 0x7F (ptpStamp at_ ++ m.slice 20 10)
    else if typ = ptpAnnounceType && 64 ≤ m.length && m.beAt 61 2 < 255 then
      s.ptpAnnounce it port (ptpOwn it (Bytes.be ((ptpIdentity port).take 8))) (ptpHeardOf m)
    else s

end Sys2Proof.Machine
end

