-- ==== Sys2Proof/Machine/SafeComm.lean ====
section
/-!
DEFINITION. Data sets, paired delivery and the Terpaene safety layer: resolution of copies, the latch of their image
items, sending at the apply point, and both state machines (R257 to R275, R306, R308, R311).
-/

namespace Sys2Proof.Machine

/-! ### State by set, connection and slot -/

def State.rxOf (s : State) (set : Nat) : RxSet := Store.get (fun _ => RxSet.fresh) s.net.rx set
def State.setRx (s : State) (set : Nat) (x : RxSet) : State :=
  { s with net := { s.net with rx := Store.set (fun _ => RxSet.fresh) s.net.rx set x } }
def State.txOf (s : State) (set : Nat) : TxBuf := Store.get (fun _ => TxBuf.fresh) s.net.tx set
def State.setTx (s : State) (set : Nat) (x : TxBuf) : State :=
  { s with net := { s.net with tx := Store.set (fun _ => TxBuf.fresh) s.net.tx set x } }
def State.tpOf (s : State) (c : Nat) : TpConn := Store.get (fun _ => TpConn.fresh) s.net.tp c
def State.setTp (s : State) (c : Nat) (x : TpConn) : State :=
  { s with net := { s.net with tp := Store.set (fun _ => TpConn.fresh) s.net.tp c x } }

/-- Keys of the transmit slots. -/
def ethSlotKey (port slot : Nat) : Nat := port * 64 + slot
def canSlotKey (n slot : Nat) : Nat := 1024 + n * 64 + slot
def State.filledAt (s : State) (k : Nat) : Bool := Store.get (fun _ => false) s.net.filled k
def State.setFilled (s : State) (k : Nat) (b : Bool) : State :=
  { s with net := { s.net with filled := Store.set (fun _ => false) s.net.filled k b } }

/-- Every Ethernet slot of a source is filled (R308): SRC and REF of Table 12.3. -/
def State.fillEth (s : State) (p : Pattern) (src ref : Nat) : State :=
  [0, 1].foldl (fun s port =>
    (p.ethSlots port).foldl (fun s it =>
      if ethSlotSrc it = src ∧ ethSlotRef it = ref then s.setFilled (ethSlotKey port (ethSlotNo it)) true else s) s) s

/-- The module sends its plant data (R261, R271). -/
def State.sends (s : State) : Bool := s.operating && (s.roleIs .active || s.roleIs .solo)

/-- Is a number old against the last one: difference 0 or at least 2^31, modulo 2^32 (R265, R311)? -/
def seqOld (seq : BitVec 32) (last : Option (BitVec 32)) : Bool :=
  match last with
  | none => false
  | some l => seq == l || 0x80000000#32 ≤ seq - l

/-! ### Paired delivery, receiving (R265 to R267) -/

/-- SCM_PDn_SEQ shows S_last; unset it reads 0. -/
def State.setLast (s : State) (i set : Nat) (l : Option (BitVec 32)) : State :=
  (s.setF (F.SCM_PD_SEQ_SEQ i) ((l.map (·.toNat)).getD 0)).setRx set { s.rxOf set with last := l }

/-- The held copy resolves SINGLE: counted for the missing port; the payload is delivered unless the set is SAFE. -/
def State.resolveSingle (s : State) (it : Bytes) (i : Nat) : State :=
  let set := setNo it
  let x := s.rxOf set
  match x.held with
  | none => s
  | some (hp, hr) =>
    let s := ((((s.setF (F.SCM_PD_STATUS_LAST i) 2).setF (F.SCM_PD_STATUS_MISS_PORT i) (1 - hp)).incSat
      (F.SCM_PD_CNT_SINGLE i)).setF (F.SCM_PD_STATUS_HELD i) 0).raise Ev.PD_PATH_LOSS (srcEth (1 - hp)) [set, 1 - hp]
    let s := s.setRx set { x with
      held := none
      heldFor := 0
      deliver := if setSafe it then x.deliver else some (hr.slice 12 (setLen it), true)
      mismatch := if setSafe it then x.mismatch else false }
    s.setLast i set (some (BitVec.ofNat 32 (hr.beAt 0 4)))

/-- A copy is held. -/
def State.holdCopy (s : State) (it : Bytes) (i port : Nat) (r : Bytes) : State :=
  (s.setF (F.SCM_PD_STATUS_HELD i) 1).setRx (setNo it)
    { s.rxOf (setNo it) with held := some (port, r), heldFor := 0 }

/-- The other port's copy with the held SEQ is seen (R266): PAIRED or MISMATCH; PATH, byte 6, is not compared. -/
def State.resolvePair (s : State) (it : Bytes) (i : Nat) (hr r : Bytes) : State :=
  let set := setNo it
  let x := s.rxOf set
  let n := 12 + setLen it
  let seq := BitVec.ofNat 32 (r.beAt 0 4)
  let s := s.setF (F.SCM_PD_STATUS_HELD i) 0
  if (hr.take n).eraseIdx 6 = (r.take n).eraseIdx 6 then
    let s := s.setF (F.SCM_PD_STATUS_LAST i) 1
    let v := some (r.slice 12 (setLen it), false)
    (s.setRx set { x with held := none, heldFor := 0, deliver := v, mismatch := false }).setLast i set (some seq)
  else
    let s := ((s.setF (F.SCM_PD_STATUS_LAST i) 3).incSat (F.SCM_PD_CNT_MISMATCH i)).raise Ev.PD_MISMATCH (srcPlantOf Ev.PD_MISMATCH set) [set]
    (s.setRx set { x with held := none, heldFor := 0, mismatch := true }).setLast i set (some seq)

/-- A copy of a paired set is image-ready on a port (R265, R266). While S_last is unset none is discarded for its SEQ:
any other one than the held copy's takes its place. -/
def State.pdCopy (s : State) (p : Pattern) (port i : Nat) (r : Bytes) : State :=
  let it := p.pairedSet i
  let set := setNo it
  let x := s.rxOf set
  let seq := BitVec.ofNat 32 (r.beAt 0 4)
  if r.beAt 4 2 ≠ set || r.beAt 8 2 ≠ setLen it || r.u8 7 ≠ (if setSafe it then 1 else 0) ||
      r.length < 12 + setLen it then s.incSat (F.ETH_P_ERR_UNKNOWN port)
  else if r.u8 6 ≠ port then (s.incSat (F.SCM_PD_CNT_CROSS i)).raise Ev.PD_CROSS (srcEth port) [set, port]
  else if seqOld seq x.last then s.incSat (F.SCM_PD_CNT_OLD i)
  else
    match x.held with
    | none => s.holdCopy it i port r
    | some (hp, hr) =>
      let hs := BitVec.ofNat 32 (hr.beAt 0 4)
      if seq = hs then
        if hp = port then s.incSat (F.SCM_PD_CNT_OLD i) else s.resolvePair it i hr r
      else if x.last.isSome && seqOld seq (some hs) then s.incSat (F.SCM_PD_CNT_OLD i)
      else (s.resolveSingle it i).holdCopy it i port r

/-- PD_COPY: `set` is the paired set index of the SCM_ registers. -/
def execPdCopy (port set : Nat) (record : Bytes) (s : State) : Result :=
  onUnit (port < 2 && set < 1024) (
    match s.pat.active with
    | none => s
    | some p =>
      if set < p.pairedSets.length && !(setSend (p.pairedSet set)) then s.pdCopy p port set record else s)

/-- The item of a receive set at a latch stops being valid: S_last is unset, and the event of its kind is raised
unless a mismatch is the cause. -/
def State.setStops (s : State) (p : Pattern) (it : Bytes) : State :=
  let set := setNo it
  let x := s.rxOf set
  match p.pairedIndex set with
  | some i =>
    (if x.mismatch then s else s.raise Ev.PD_STALE (srcPlantOf Ev.PD_STALE set) [set]).setLast i set none
  | none => s.raise Ev.ETH_SET_STALE (srcPlantOf Ev.ETH_SET_STALE set) [set]

/-- Fixed substitute of a set: its bytes at FIXED_OFF in mode FIXED; in mode LAST none is stated (a free value). -/
def setFixedBytes (p : Pattern) (it : Bytes) (free : Nat) : Bytes :=
  if setSubst it = 1 then (p.bytes Pattern.NETWORK).slice (setFixed it) (setLen it) else leBytes (setLen it) free

/-- A receive set at a latch (R266, R267, R311): the window of a held copy, deliveries, validity, the image item.
Answers whether a delivery took effect. -/
def State.latchSet (s : State) (p : Pattern) (it : Bytes) : Bool × State :=
  let set := setNo it
  let idx := p.pairedIndex set
  let x := s.rxOf set
  let s := match idx, x.held with
    | some i, some _ =>
      let s := s.setRx set { x with heldFor := x.heldFor + 1 }
      if setWindow it ≤ x.heldFor + 1 then s.resolveSingle it i else s
    | _, _ => s
  let x := s.rxOf set
  let x := match x.deliver with
    | some (v, single) => { x with value := v, single := single, age := some 0, deliver := none }
    | none => { x with age := x.age.map (fun a => min (a + 1) 65535) }
  let delivered := (s.rxOf set).deliver.isSome
  let valid := !x.mismatch && (x.age.map (fun a => decide (a < setTimeout it))).getD false
  let was := x.valid
  let s := s.setRx set { x with valid := valid }
  let s := match idx with
    | some i => s.setB (F.SCM_PD_STATUS_VALID i) valid
    | none => s
  let s := if was && !valid then s.setStops p it else s
  let (free, s) := if valid then (0, s) else s.fresh
  let cfg : SubstCfg := ⟨setSubst it, setHoldLim it, setFixedBytes p it free, List.replicate (setLen it) 0#8⟩
  (delivered, s.latchItem (setBuf it) (if valid then some x.value else none) x.single cfg)

/-- PD_SINGLE: the window of the held copy has passed without the other copy. The latch does this itself; the command
does it only for a copy whose window is over. -/
def execPdSingle (set : Nat) (s : State) : Result :=
  onUnit (set < 1024) (
    match s.pat.active with
    | none => s
    | some p =>
      let it := p.pairedSet set
      if set < p.pairedSets.length && setWindow it ≤ (s.rxOf (setNo it)).heldFor then s.resolveSingle it set else s)

/-- PD_STALE: TIMEOUT latches without a delivery. The latch does this itself; the command does it only for a set whose
age has reached TIMEOUT while its item still shows valid. -/
def execPdStale (set : Nat) (s : State) : Result :=
  onUnit (set < 1024) (
    match s.pat.active with
    | none => s
    | some p =>
      let it := p.pairedSet set
      let x := s.rxOf (setNo it)
      if set < p.pairedSets.length && x.valid && setTimeout it ≤ x.age.getD 65536 then
        let s := (s.setRx (setNo it) { x with valid := false }).setF (F.SCM_PD_STATUS_VALID set) 0
        let s := s.setStops p it
        let (free, s) := s.fresh
        s.latchItem (setBuf it) none false
          ⟨setSubst it, setHoldLim it, setFixedBytes p it free, List.replicate (setLen it) 0#8⟩
      else s)

/-! ### Sending data sets at the apply point (R261, R262, R306, R308) -/

/-- The stitch is a send stitch of an item. -/
def sendStitch (pos period phase : Nat) : Bool :=
  period != 0 && (pos + period - phase % period) % period == 0

/-- The comparison of a selvedge writer's segment failed in this stitch (R262, R271). -/
def State.writerFailed (s : State) (writer seg : Nat) : Bool := writer == 0xFE && s.sched.selvFailed.contains seg

/-- Payload of a send item: the writer's published half, or run A's output area as last applied under R108, with the
forces that cover it (R130, R261); none before the writer has published once (R119). -/
def State.sendPayload (s : State) (p : Pattern) (writer seg off len : Nat) : Option Bytes :=
  if writer = 0xFE then
    match Store.get (fun _ => []) s.sched.selvArea seg with
    | [] => none
    | a => some ((List.range len).map (fun i =>
        (s.forcedByte (off + i)).getD (a.getD (off + i - runOutOff (p.runRecord seg false)) 0#8)))
  else s.outputBytes p writer off len

/-- The words that a send item's payload is read from (R102). -/
def State.payloadRead (s : State) (p : Pattern) (writer seg off len : Nat) : State :=
  if writer = 0xFE then
    if Store.get (fun _ => false) s.sched.selvValid seg then s.engRead (Mem.shared + off) len else s
  else s.outputRead p writer off len

/-- One send set at an apply point: PD_SEND for a paired set; nothing where its segment's comparison failed (R262). -/
def State.sendSet (s : State) (p : Pattern) (it : Bytes) : State :=
  if setSend it && sendStitch s.seamPos (setPeriod it) (setPhase it) && !s.writerFailed (setWriter it) (setSeg it) then
    match s.sendPayload p (setWriter it) (setSeg it) (setBuf it) (setLen it) with
    | none => s
    | some v =>
      let s := s.payloadRead p (setWriter it) (setSeg it) (setBuf it) (setLen it)
      let set := setNo it
      let seq := (s.txOf set).seq + 1
      let s := s.setTx set ⟨seq, v, s.clock.stitch.setWidth 32⟩
      if it.u8 0 = pairedKind then
        let s := match p.pairedIndex set with
          | some i => s.setF (F.SCM_PD_SEQ_SEQ i) seq.toNat
          | none => s
        s.fillEth p 1 set
      else s.fillEth p 0 set
  else s

def State.sendSets (s : State) (p : Pattern) : State :=
  if s.sends then (p.plainSets ++ p.pairedSets).foldl (fun s it => s.sendSet p it) s else s

/-- Paired delivery record of a transmit buffer on a port (Table 10.3). -/
def pdRecord (it : Bytes) (x : TxBuf) (port : Nat) : Bytes :=
  beBytes 4 x.seq.toNat ++ beBytes 2 (setNo it) ++ leBytes 1 port ++ leBytes 1 (if setSafe it then 1 else 0) ++
    beBytes 2 (setLen it) ++ beBytes 2 0 ++ x.payload

/-! ### Terpaene (R268 to R275) -/

def tpIdle : Nat := 0
def tpWait : Nat := 1
def tpRun : Nat := 2
def tpFailed : Nat := 3

def State.tpState (s : State) (c : Nat) : Nat := s.getF (F.SCM_TP_STATUS_STATE c)

/-- STATE of a connection; SCM_TP_RUN follows it. -/
def State.setTpState (s : State) (c st : Nat) : State :=
  let v := s.getF F.SCM_TP_RUN_RUN
  let v := if bitOf v c then v - 2 ^ c else v
  (s.setF (F.SCM_TP_STATUS_STATE c) st).setF F.SCM_TP_RUN_RUN (if st = tpRun then v + 2 ^ c else v)

/-- Safety CRC: CRC-32C with SEED as start value (R268). -/
def tpCrc (seed : Nat) (bs : Bytes) : BitVec 32 := ~~~(bs.foldl crc32cByte (BitVec.ofNat 32 seed))

/-- WD in latches (R270). -/
def State.tpWd (s : State) (it : Bytes) : Nat :=
  if s.clock.period = 0 then 0 else ceilDiv (tpWdtMs it * 1000000) s.clock.period

/-- SOURCE of a connection's events: the CAN controller of path 4, else a plant port (log 75). -/
def tpSource (event : Nat) (it : Bytes) : Nat :=
  if tpRxPath it = 4 then srcCan (tpRxRef it / 64) else srcPlantOf event (tpConn it)

/-- A connection enters FAILED with a cause of Table 10.13. -/
def State.tpFail (s : State) (c cause : Nat) : State :=
  if s.tpState c = tpFailed then s
  else ((s.setTpState c tpFailed).setF (F.SCM_TP_STATUS_CAUSE c) cause).incSat (F.SCM_TP_STATUS_FAILS c)

/-- The consumer's discards have reached CRC_LIMIT since the last acceptance (R274). -/
def State.tpCrcCheck (s : State) (it : Bytes) (c : Nat) : State :=
  if s.tpState c = tpRun && !(tpProducer it) && tpCrcLimit it ≤ s.getF (F.SCM_TP_ERR_SINCE_ACC c) then
    (s.tpFail c 3).raise Ev.TP_CRC_LIMIT (tpSource Ev.TP_CRC_LIMIT it) [c]
  else s

/-- WD latches have passed without an acknowledgement or an acceptance (R272, R274). -/
def State.tpTimeoutCheck (s : State) (it : Bytes) (c : Nat) : State :=
  let x := s.tpOf c
  if tpProducer it then
    if (s.tpState c = tpWait || s.tpState c = tpRun) && x.sent && !x.acked && s.tpWd it ≤ x.count then
      (s.tpFail c 1).raise Ev.TP_TIMEOUT (tpSource Ev.TP_TIMEOUT it) [c, 1]
    else s
  else if s.tpState c = tpRun && s.tpWd it ≤ s.getF (F.SCM_TP_STATUS_AGE c) then
    (s.tpFail c 1).raise Ev.TP_TIMEOUT (tpSource Ev.TP_TIMEOUT it) [c, 0]
  else s

/-- A message arrives on a path (R269): length, SCRC, CONN_ID, TYPE, WDT_MS in this order; a message that passes waits
for the next latch (R270). -/
def State.tpMessage (s : State) (it : Bytes) (c path : Nat) (m : Bytes) : State :=
  let len := if tpProducer it then 0 else tpLen it
  let n := 16 + len
  if m.length < n + 4 || m.beAt 12 2 ≠ len || m.beAt n 4 ≠ (tpCrc (tpSeed it) (m.take n)).toNat then
    ((s.incSat (F.SCM_TP_ERR_CRC_ERR c)).incSat (F.SCM_TP_ERR_SINCE_ACC c)).tpCrcCheck it c
  else if m.beAt 4 4 ≠ tpId it || m.u8 0 ≠ (if tpProducer it then 2 else 1) || m.beAt 2 2 ≠ tpWdtMs it then
    (s.tpFail c 4).raise Ev.TP_PARAM (tpSource Ev.TP_PARAM it) [c, m.beAt 4 4]
  else
    let x := s.tpOf c
    s.setTp c { x with inbox := x.inbox ++ [(path, m.take (n + 4))] }

/-- A property of connection c's item, with the state changed for it. -/
def State.onTp (s : State) (c : Nat) (f : State → Bytes → State) : Result :=
  onUnit (c < 32) (match s.pat.active.bind (fun p => p.tpItem c) with
    | some it => f s it
    | none => s)

/-- TP_MESSAGE: `path` is 1 plant A, 2 plant B, 4 CAN FD, as in Table 10.2. -/
def execTpMessage (conn path : Nat) (message : Bytes) (s : State) : Result :=
  s.onTp conn (fun s it => if pathIncludes (tpRxPath it) path then s.tpMessage it conn path message else s)

def execTpTimeout (conn : Nat) (s : State) : Result := s.onTp conn (fun s it => s.tpTimeoutCheck it conn)
def execTpCrcLimit (conn : Nat) (s : State) : Result := s.onTp conn (fun s it => s.tpCrcCheck it conn)

/-- The slots of a connection's transmit path are filled. -/
def State.tpFill (s : State) (p : Pattern) (it : Bytes) : State :=
  if tpTxPath it = 4 then s.setFilled (canSlotKey (tpTxRef it / 64) (tpTxRef it % 64)) true
  else s.fillEth p 2 (tpConn it)

/-- A DATA message is accepted (R273, R274): S_acc, counts, an acknowledgement in the next slot. -/
def State.tpAccept (s : State) (p : Pattern) (it : Bytes) (path : Nat) (m : Bytes) : State :=
  let c := tpConn it
  let failSafe := bitOf (m.u8 1) 1
  let s := (((s.setF (F.SCM_TP_SEQ_SEQ c) (m.beAt 8 4)).setF (F.SCM_TP_STATUS_AGE c) 0).setF
    (F.SCM_TP_ERR_SINCE_ACC c) 0).setB (F.SCM_TP_STATUS_FAIL_SAFE c) failSafe
  let s := s.setTp c { s.tpOf c with msg := m, path := path, stitch := s.clock.stitch.setWidth 32 }
  (if failSafe then s.raise Ev.TP_FAIL_SAFE (tpSource Ev.TP_FAIL_SAFE it) [c] else s).tpFill p it

/-- A passing DATA message at the latch (Table 10.5). Answers whether it was accepted. -/
def State.tpData (s : State) (p : Pattern) (it : Bytes) (path : Nat) (m : Bytes) : Bool × State :=
  let c := tpConn it
  let x := s.tpOf c
  let seq := BitVec.ofNat 32 (m.beAt 8 4)
  let acc := BitVec.ofNat 32 (s.getF (F.SCM_TP_SEQ_SEQ c))
  let running := s.tpState c == tpRun
  let restart := bitOf (m.u8 1) 0
  if restart && !(running && m == x.msg && path != x.path) then
    let s := (s.setTpState c tpRun).incSat (F.SCM_TP_ERR_RESTARTS c)
    (true, (s.raise Ev.TP_RESTART (tpSource Ev.TP_RESTART it) [c, seq.toNat]).tpAccept p it path m)
  else if !running then (false, s)
  else if seq = acc + 1 then (true, s.tpAccept p it path m)
  else if seq = acc && m == x.msg then (false, s.tpFill p it)
  else (false, (s.tpFail c 2).raise Ev.TP_SEQ_ERROR (tpSource Ev.TP_SEQ_ERROR it) [c, (acc + 1).toNat, seq.toNat])

/-- A consumer at a latch: messages in arrival order, the watchdog, the image item. Answers whether the image holds a
message accepted at this latch. -/
def State.latchConsumer (s : State) (p : Pattern) (it : Bytes) : Bool × State :=
  let c := tpConn it
  let box := (s.tpOf c).inbox
  let s := (s.setTp c { s.tpOf c with inbox := [] }).incSat (F.SCM_TP_STATUS_AGE c)
  let r := box.foldl (fun (r : Bool × State) m =>
    let q := r.2.tpData p it m.1 m.2
    (r.1 || q.1, q.2)) (false, s)
  let s := r.2.tpTimeoutCheck it c
  let valid := s.tpState c == tpRun && !(s.isSet (F.SCM_TP_STATUS_FAIL_SAFE c))
  let zero := List.replicate (tpLen it) 0#8
  (r.1 && valid, s.latchItem (tpBuf it) (if valid then some ((s.tpOf c).msg.slice 16 (tpLen it)) else none) false
    ⟨2, 0, zero, zero⟩)

/-- A producer at a latch (R272): acknowledgements, then the count. A producer runs only while the module sends; else it
is idle, and begins again as at a start (R271). -/
def State.latchProducer (s : State) (it : Bytes) : State :=
  let c := tpConn it
  if !s.sends then (s.setTp c TpConn.fresh).setTpState c tpIdle else
  let x := s.tpOf c
  let seq := s.getF (F.SCM_TP_SEQ_SEQ c)
  let hit := x.sent && !x.acked && x.inbox.any (fun m => m.2.beAt 8 4 == seq) &&
    (s.tpState c == tpWait || s.tpState c == tpRun)
  if hit then
    ((s.setTp c { x with inbox := [], acked := true }).setTpState c tpRun).setF (F.SCM_TP_STATUS_AGE c) 0
  else
    let s := (s.setTp c { x with inbox := [], count := if x.sent && !x.acked then x.count + 1 else x.count }).incSat
      (F.SCM_TP_STATUS_AGE c)
    s.tpTimeoutCheck it c

/-! ### Producing (R271) -/

/-- The message of Table 10.4. -/
def tpBuild (it : Bytes) (typ flags seq : Nat) (payload : Bytes) : Bytes :=
  let m := leBytes 1 typ ++ leBytes 1 flags ++ beBytes 2 (tpWdtMs it) ++ beBytes 4 (tpId it) ++ beBytes 4 seq ++
    beBytes 2 payload.length ++ beBytes 2 0 ++ payload
  m ++ beBytes 4 (tpCrc (tpSeed it) m).toNat

/-- The producer's new message with a sequence number: FAIL_SAFE with a zero payload when its segment failed. -/
def State.tpSnapshot (s : State) (p : Pattern) (it : Bytes) (seq : Nat) (restart : Bool) : State :=
  let c := tpConn it
  let v := s.sendPayload p (tpWriter it) (tpSeg it) (tpBuf it) (tpLen it)
  let failSafe := s.writerFailed (tpWriter it) (tpSeg it)
  if v.isNone && !failSafe then s else
  let s := if failSafe then s else s.payloadRead p (tpWriter it) (tpSeg it) (tpBuf it) (tpLen it)
  let payload := if failSafe then List.replicate (tpLen it) 0#8 else v.getD []
  let m := tpBuild it 1 ((if restart then 1 else 0) + if failSafe then 2 else 0) seq payload
  let s := (s.setF (F.SCM_TP_SEQ_SEQ c) seq).setB (F.SCM_TP_STATUS_FAIL_SAFE c) failSafe
  let s := if restart then (s.setTpState c tpWait).incSat (F.SCM_TP_ERR_RESTARTS c) else s
  s.setTp c { s.tpOf c with msg := m, acked := false, sent := false, count := 0 }

/-- A producer at a send-period apply point: TP_PRODUCE. -/
def State.tpProduce (s : State) (p : Pattern) (it : Bytes) : State :=
  let c := tpConn it
  if tpProducer it && tpPeriod it != 0 && s.seamPos % tpPeriod it == 0 then
    let s :=
      if s.tpState c = tpIdle || s.tpState c = tpFailed then
        let (r, s) := s.fresh
        s.tpSnapshot p it (r % 2 ^ 32) true
      else if s.tpState c = tpRun && (s.tpOf c).acked then
        s.tpSnapshot p it ((s.getF (F.SCM_TP_SEQ_SEQ c) + 1) % 2 ^ 32) false
      else s
    if s.tpState c = tpIdle || s.tpState c = tpFailed || (s.tpOf c).acked then s
    else (s.setTp c { s.tpOf c with stitch := s.clock.stitch.setWidth 32 }).tpFill p it
  else s

def State.tpProduceAll (s : State) (p : Pattern) : State :=
  if s.sends then p.tpItems.foldl (fun s it => s.tpProduce p it) s else s

/-- The message a slot takes for a connection: the producer's current message, or the consumer's acknowledgement of
S_acc; a module that does not send sends none (R271, R275). -/
def State.tpTake (s : State) (it : Bytes) : Option Bytes × State :=
  let c := tpConn it
  if !s.sends then (none, s)
  else if tpProducer it then
    (some (s.tpOf c).msg, s.setTp c { s.tpOf c with sent := true })
  else if s.tpState c = tpRun then (some (tpBuild it 2 0 (s.getF (F.SCM_TP_SEQ_SEQ c)) []), s)
  else (none, s)

/-! ### Restart and takeover -/

/-- What a restart does to data sets and connections (R265, R271, R273): S_last unset, counts since the last restart
cleared, producers idle, consumers in WAIT. -/
def State.safeCommRestart (s : State) (p : Pattern) : State :=
  let s := (List.range p.pairedSets.length).foldl (fun s i =>
    if setSend (p.pairedSet i) then s else s.setLast i (setNo (p.pairedSet i)) none) s
  p.tpItems.foldl (fun s it =>
    let c := tpConn it
    let s := ((s.setF (F.SCM_TP_STATUS_FAILS c) 0).setF (F.SCM_TP_ERR_CRC_ERR c) 0).setF (F.SCM_TP_ERR_SINCE_ACC c) 0
    (s.setTp c TpConn.fresh).setTpState c (if tpProducer it then tpIdle else tpWait)) s

/-- What a takeover does (R264, R272, R273): sequence numbers of send sets move on, producers start, consumers that
have not run are in WAIT. -/
def State.safeCommTakeover (s : State) (p : Pattern) : State :=
  let s := (List.range p.pairedSets.length).foldl (fun s i =>
    let it := p.pairedSet i
    if setSend it then
      let x := s.txOf (setNo it)
      (s.setTx (setNo it) { x with seq := x.seq + 65536 }).setF (F.SCM_PD_SEQ_SEQ i) (x.seq + 65536).toNat
    else s) s
  p.tpItems.foldl (fun s it =>
    let c := tpConn it
    if tpProducer it then (s.setTp c TpConn.fresh).setTpState c tpIdle
    else if s.tpState c = tpIdle then s.setTpState c tpWait else s) s

/-- The SCM_ fields that the Pattern gives (Tables 10.8, 10.10, 10.13). -/
def State.safeCommConfigure (s : State) (p : Pattern) : State :=
  let s := (s.setF F.SCM_STATUS_PD_SETS p.pairedSets.length).setF F.SCM_STATUS_TP_CONNS p.tpItems.length
  let s := (List.range p.pairedSets.length).foldl (fun s i =>
    let it := p.pairedSet i
    ((s.setB (F.SCM_PD_STATUS_SEND i) (setSend it)).setB (F.SCM_PD_STATUS_SAFE i) (setSafe it)).setF
      (F.SCM_PD_STATUS_SET i) (setNo it)) s
  p.tpItems.foldl (fun s it =>
    (s.setB (F.SCM_TP_STATUS_PRODUCER (tpConn it)) (tpProducer it)).setB (F.SCM_TP_STATUS_SAFE (tpConn it)) (tpSafe it)) s

end Sys2Proof.Machine
end

