-- ==== Sys2Proof/Machine/Flags.lean ====
section
/-!
DEFINITION. The sticky flags of an application core, FST (Table 4.2): who sets them (R89, R90). A flag stays set until
PUTS writes FST.
-/

namespace Sys2Proof.Machine

/-- Integer division flags of FST. -/
def flIdivZero : Nat := 0x100
def flIdivOvf : Nat := 0x200

/-- Bits of FST that exist; the others read 0. -/
def fstMask : BitVec 32 := 0x31F

/-- The core with flags added to FST. -/
def Core.orFst (x : Core) (fl : Nat) : Core := { x with fst := x.fst ||| BitVec.ofNat 32 fl }

/-- Flags of a division of a by b, signed or not, in the given width (R89). -/
def divFlags (signed w32 : Bool) (a b : BitVec 64) : Nat :=
  let zero := if w32 then b.setWidth 32 == 0#32 else b == 0#64
  let ovf := if w32 then a.setWidth 32 == BitVec.intMin 32 && b.setWidth 32 == BitVec.allOnes 32
    else a == BitVec.intMin 64 && b == BitVec.allOnes 64
  if zero then flIdivZero else if signed && ovf then flIdivOvf else 0

end Sys2Proof.Machine
end

