-- ==== Sys2Proof/Machine/Operands.lean ====
section
/-!
DEFINITION. The operands of stitch code: registers with g0 constant (R80), immediates, special registers (R81), data
addresses and their checks (R83, R84, R87, R106), ECC on loads and stores (R102), write signatures (R107), and the
exception every check can take (R91).
-/

namespace Sys2Proof.Machine

/-- Exception causes (Table 4.6). -/
inductive ExcCause where
  | illegal | fetch | access | align | stack | eccUe | sysBad | selvStray
  deriving DecidableEq, Repr

def ExcCause.code : ExcCause → Nat
  | .illegal => 1
  | .fetch => 2
  | .access => 3
  | .align => 4
  | .stack => 5
  | .eccUe => 6
  | .sysBad => 7
  | .selvStray => 8

/-- What an instruction does: a state and the next PC, or an exception with its address. -/
inductive CoreStep where
  | ok (s : State) (pc : BitVec 32)
  | exc (s : State) (cause : ExcCause) (addr : Nat)

/-! ### Registers and immediates -/

/-- Read of a general register: g0 reads 0 (R80). -/
def Core.rd (x : Core) (r : GReg) : BitVec 64 := if r = 0 then 0 else x.g[r.toNat]'(by have := r.isLt; omega)

/-- Write of a general register: a write of g0 is discarded (R80). -/
def Core.wr (x : Core) (r : GReg) (v : BitVec 64) : Core :=
  if r = 0 then x else { x with g := x.g.set r.toNat v (by have := r.isLt; omega) }

/-- Sign extension of an immediate to 64 bits, and zero extension. -/
def sext64 {n : Nat} (k : BitVec n) : BitVec 64 := k.signExtend 64
def zext64 {n : Nat} (k : BitVec n) : BitVec 64 := k.setWidth 64

/-- A 32-bit result sign-extended, as every .32 form gives it (R89). -/
def sx32 (v : BitVec 32) : BitVec 64 := v.signExtend 64
def low32 (v : BitVec 64) : BitVec 32 := v.setWidth 32

/-- RUN of Table 4.2. -/
def RunKind.code : RunKind → Nat
  | .none => 0
  | .runA => 1
  | .runB => 2

/-- A read of a special register (R81): none for a number not in Table 4.2. -/
def State.special (s : State) (c : Nat) (x : Core) (k : Nat) : Option (BitVec 64) :=
  match k with
  | 0 => some (zext64 x.pc)
  | 1 => some (zext64 x.ib)
  | 2 => some (zext64 x.fst)
  | 3 => some (BitVec.ofNat 64 c)
  | 4 => some (BitVec.ofNat 64 x.cyc)
  | 5 => some (BitVec.ofNat 64 (s.clock.stitch.toNat % 2 ^ 32))
  | 6 => some (zext64 x.object)
  | 7 => some (BitVec.ofNat 64 x.run.code)
  | _ => none

/-- A write of a special register (R81): IB and FST only. -/
def Core.putSpecial (x : Core) (k : Nat) (v : BitVec 64) : Option Core :=
  match k with
  | 1 => some { x with ib := low32 v }
  | 2 => some { x with fst := low32 v &&& fstMask }
  | _ => none

/-! ### Addresses -/

/-- Data scratchpad and shared SRAM in the core's address map (Table 4.3). -/
def localBase : Nat := 0x10000000
def localSize : Nat := 0x80000
def sharedBase : Nat := 0x20000000
def sharedSize : Nat := 0x1000000

/-- Selvedge run record of the entry a core executes. -/
def State.runRec (s : State) (x : Core) : Bytes :=
  (s.pat.active.map (fun p => p.runRecord (selvSegOf x.object.toNat) (x.run == .runB))).getD []

/-- The whole run of n bytes at an offset lies in granted regions of the MEMORY section, none of kind QUEUE (R84). -/
def Pattern.granted (p : Pattern) (c off n : Nat) (write : Bool) : Bool :=
  (List.range n).all (fun i =>
    match p.regionOf (off + i) with
    | none => false
    | some r => p.regionKind r != 2 && bitOf (if write then p.regionWrite r else p.regionRead r) c)

/-- A selvedge run's limits on writes (R106). -/
def Core.isSelvedge (x : Core) : Bool := x.run != .none

/-- n bytes from a core address lie in the data area of the run that a core executes. -/
def State.inRunData (s : State) (x : Core) (v n : Nat) : Bool :=
  let r := s.runRec x
  runDataOff r ≤ v && v + n ≤ runDataOff r + runDataLen r

/-- Check of a local access of n bytes: the offset in the data scratchpad, or the exception (R83, R84, R106). DESIGN
CHOICE: of several causes the first of ACCESS, SELV_STRAY, ALIGN is taken; the spec gives no order (log 19). Of an address
above 32 bits FADDR keeps the low 32 (log 115). -/
def State.checkLocal (s : State) (x : Core) (a : BitVec 64) (n al : Nat) (write : Bool) :
    Except (ExcCause × Nat) Nat :=
  let v := a.toNat
  if 2 ^ 32 ≤ v || v < localBase || localBase + localSize < v + n then .error (.access, v % 2 ^ 32)
  else
    if write && x.isSelvedge && !(s.inRunData x v n) && !(x.stackTop - x.stackLen ≤ v && v + n ≤ x.stackTop) then .error (.selvStray, v)
    else if v % al ≠ 0 then .error (.align, v)
    else .ok (v - localBase)

/-- Check of a shared access of n bytes: the offset in the shared SRAM, or the exception (R83, R84, R106), in the order
of log 19. -/
def State.checkShared (s : State) (c : Nat) (x : Core) (a : BitVec 64) (n al : Nat) (write : Bool) :
    Except (ExcCause × Nat) Nat :=
  let v := a.toNat
  if 2 ^ 32 ≤ v || v < sharedBase || sharedBase + sharedSize < v + n then .error (.access, v % 2 ^ 32)
  else if !((s.pat.active.map (fun p => p.granted c (v - sharedBase) n write)).getD false) then .error (.access, v)
  else
    let r := s.runRec x
    if write && x.isSelvedge &&
        !(runOutOff r ≤ v - sharedBase && v - sharedBase + n ≤ runOutOff r + runOutLen r) then .error (.selvStray, v)
    else if v % al ≠ 0 then .error (.align, v)
    else .ok (v - sharedBase)

/-- Base of a local form: IB for register field 0 (R87). -/
def Core.localBaseReg (x : Core) (a : GReg) : BitVec 64 := if a = 0 then zext64 x.ib else x.rd a

/-! ### Write signatures -/

/-- A record in the signature of the run that a core executes. -/
def State.record (s : State) (x : Core) (off n v : Nat) : State :=
  let seg := selvSegOf x.object.toNat
  s.setSig seg (x.run == .runB) ((s.sig seg (x.run == .runB)).add off n v)

/-- Offset of a place of the data scratchpad in the run's data area, and of one of the shared SRAM in its output area,
as a record has it (Table 4.15). -/
def State.dataRecord (s : State) (x : Core) (off : Nat) : Nat := off + localBase - runDataOff (s.runRec x)
def State.outRecord (s : State) (x : Core) (off : Nat) : Nat := 2 ^ 31 + (off - runOutOff (s.runRec x))

/-- A selvedge run's store into its data area or output area adds a record (R107); stack stores add nothing. -/
def State.signLocal (s : State) (x : Core) (off n v : Nat) : State :=
  if x.isSelvedge && s.inRunData x (off + localBase) n then s.record x (s.dataRecord x off) n v else s

def State.signShared (s : State) (x : Core) (off n v : Nat) : State :=
  if x.isSelvedge then s.record x (s.outRecord x off) n v else s

/-! ### Loads and stores at a model address -/

/-- A load of n bytes; an uncorrectable word is ECC_UE (R102, R104). -/
def State.loadAt (s : State) (ma n addr : Nat) : CoreStep ⊕ (Nat × State) :=
  match s.eccRead ma n 1 with
  | (true, s) => .inl (.exc s .eccUe addr)
  | (false, s) => .inr (s.rdLe ma n, s)

/-- A store of n bytes: 8 bytes rewrite the word and clear its error; fewer read and merge, and an uncorrectable old
word is ECC_UE (R102). -/
def State.storeAt (s : State) (ma n v addr : Nat) : CoreStep ⊕ State :=
  if n = 8 then .inr ((s.wrLe ma 8 v).eccClearWords ma 8)
  else
    match s.eccRead ma n 3 with
    | (true, s) => .inl (.exc s .eccUe addr)
    | (false, s) => .inr ((s.wrLe ma n v).eccClearWords (ma / 8 * 8) 8)

end Sys2Proof.Machine
end

