-- ==== Sys2Proof/Machine/CoreOps.lean ====
section
/-!
DEFINITION. Running one stitch code instruction on a core: fetch (R83, Table 4.6 FETCH), exceptions (R91), the cost
counted in ENTRY_CYC (Table 2.6), and the next PC.
-/

namespace Sys2Proof.Machine

/-! ### Costs (Table 2.6, Table 2.7) -/

def costAlu : Nat := 1
def costMul : Nat := 3
def costDiv : Nat := 36
def costBr : Nat := 2
def costCall : Nat := 3
def costCallb : Nat := 6
def costLdl : Nat := 2
def costStl : Nat := 1
def costLds : Nat := 48
def costSts : Nat := 32
def costF32 : Nat := 4
def costF64 : Nat := 5
def costF64Fma : Nat := 6
def costFdiv (d : Bool) : Nat := if d then 24 else 14
def costFsqrt (d : Bool) : Nat := if d then 28 else 16
def costFcvt : Nat := 3
def costSys : Nat := 10
def costBlock (n : Nat) : Nat := 48 + 32 * ceilDiv n 32
def costQPut (n : Nat) : Nat := 56 + 32 * ceilDiv n 32
def costQGet (n : Nat) : Nat := 72 + 32 * ceilDiv n 32
def costQStat : Nat := 16

/-! ### Ends and aborts of a core's entry -/

/-- The core executes nothing any more: its entry is over. -/
def State.coreIdle (s : State) (c : Nat) (r : Running) : State :=
  (s.setSelv c false).finishEntry c r.index

/-- The overrun action of Table 2.5 for an entry of a core, `at_` cycles after the edge: the core is aborted, the task
cut or the selvedge run aborted, `degraded` by an overrun on the RC oscillator; a self-test is only aborted. -/
def State.abortCore (s : State) (c : Nat) (r : Running) (degraded : Bool) (at_ : Nat) : State :=
  let s := match r.entry.kind with
    | .coreSeg => s.cutTask (taskOf r.entry.object)
    | .evtSlot => s.cutTask (taskOf r.entry.object)
    | .selvSeg => s.finishRun (selvSegOf r.entry.object) (selvRunB r.entry.object) true degraded at_
    | _ => s
  s.coreIdle c r

/-- TAKING AN EXCEPTION (R91): the overrun action of the entry's kind, the capture of the first unacknowledged
exception, the count, the event. The PC stays at the faulting instruction. -/
def State.takeCoreException (s : State) (c : Nat) (r : Running) (cause : ExcCause) (addr : Nat) : State :=
  let pc := (s.core c).pc
  let s := s.abortCore c r false (160 * r.entry.start + (s.core c).cyc)
  let s := if s.isSet (F.APC_CORE_FAULT_VALID c) then s else
    let v := s.getF F.APC_STATUS_FAULT
    ((((((s.setF (F.APC_CORE_FAULT_VALID c) 1).setF (F.APC_CORE_FAULT_CAUSE c) cause.code).setF
      (F.APC_CORE_FAULT_KIND c) r.entry.kindNo).setF (F.APC_CORE_FAULT_OBJECT c) r.entry.object).setF
      (F.APC_CORE_FPC_PC c) pc.toNat).setF (F.APC_CORE_FADDR_ADDR c) addr).setF
      F.APC_STATUS_FAULT (if bitOf v c then v else v + 2 ^ c)
  let s := s.incSat (F.APC_CORE_EXC_COUNT c)
  s.raiseCls Ev.CORE_EXCEPTION (srcCore c) (if r.entry.kind = .selvSeg then 1 else 2)
    [c, cause.code, pc.toNat, addr]

/-- The PC lies in a code range loaded for the core (Table 4.6, FETCH). -/
def State.inCode (s : State) (c : Nat) (pc : BitVec 32) : Bool :=
  match s.pat.active with
  | none => false
  | some p => p.codeLoad c ≤ pc.toNat && pc.toNat + 4 ≤ p.codeLoad c + p.codeLen c

/-- Instruction fetch: outside the code ranges FETCH, from an uncorrectable word ECC_UE. -/
def State.fetch (s : State) (c : Nat) (pc : BitVec 32) : Option (ExcCause × Nat) × State :=
  if s.inCode c pc then
    match s.eccReadWord (Mem.iram c + pc.toNat / 8 * 8) 1 with
    | (true, s) => (some (.eccUe, pc.toNat), s)
    | (false, s) => (none, s)
  else (some (.fetch, pc.toNat), s)

/-- An entry that has spent more cycles than its budget: the monitor stops the engine (R49). -/
def overBudget (r : Running) (cyc : Nat) : Bool := decide (r.entry.budget < cyc)

/-- Cycles that a core spends on its entry. -/
def State.spend (s : State) (c cost : Nat) : State := s.setCore c { s.core c with cyc := (s.core c).cyc + cost }

/-- One instruction of core c: nothing while the core executes no entry, or one that is past its budget; else fetch,
effect, cost and next PC, or the exception. An instruction whose cost passes the budget only spends its cycles
(log 31); an exception in the same cycle comes first (R91). -/
def State.coreRun (s : State) (c cost : Nat) (f : Core → State → CoreStep) : State :=
  match (s.agent c).running with
  | none => s
  | some r =>
    if overBudget r (s.core c).cyc then s else
    match s.fetch c (s.core c).pc with
    | (some e, s) => s.takeCoreException c r e.1 e.2
    | (none, s) =>
      match f (s.core c) s with
      | .exc s cause addr => s.takeCoreException c r cause addr
      | .ok t pc =>
        if overBudget r ((s.core c).cyc + cost) then s.spend c cost
        else (t.setCore c { t.core c with pc := pc }).spend c cost

/-- An instruction that only changes the core's own registers. -/
def State.coreReg (s : State) (c cost : Nat) (f : Core → Core) : State :=
  s.coreRun c cost (fun x s => .ok (s.setCore c (f x)) (x.pc + 4))

/-- A command on core c. -/
def onCore (c : Nat) (t : State) : Result := onUnit (c < 8) t

end Sys2Proof.Machine
end

