-- ==== Sys2Proof/Machine/Slots.lean ====
section
/-!
DEFINITION. The slot entries of application cores: CORE_SEG, SELV_SEG and EVT_SLOT start at their ticks (R17, R46,
R50, R52, R82, R122).
-/

namespace Sys2Proof.Machine

/-- May a non-safety entry run: always on the reference clock; on the RC oscillator only with DEGRADED_CLK_RUN (R52). -/
def State.entryMayRun (s : State) : Bool :=
  !(s.isSet F.SCH_STATUS_DEGRADED_CLK) || (s.pat.active.map (·.degradedClkRun)).getD false

/-- Entries compute nothing in a role that does not own the station (R138, R194, R323). -/
def State.passive (s : State) : Bool := !(s.roleIs .solo || s.roleIs .active)

/-- A core's registers at the start of an entry (R82). -/
def Core.start (entry stackTop stackLen : Nat) (object : Nat) (run : RunKind)
    (evt : Option (BitVec 16 × BitVec 64)) : Core :=
  ({ Core.idle with
      pc := BitVec.ofNat 32 entry
      object := BitVec.ofNat 16 object
      run := run
      stackTop := stackTop
      stackLen := stackLen
      evt := evt } : Core).wr 31 (BitVec.ofNat 64 stackTop)

/-- Core c takes up an entry with its registers set. -/
def State.startCore (s : State) (c : Nat) (r : Running) (x : Core) : State :=
  (((s.beginEntry c r).setCore c x)).setSelv c (x.run != .none)

/-- Is a task stopped from running this entry: suspended (R50), or its activation was cut and this is a later
segment of it? -/
def State.taskSkips (s : State) (k seg : Nat) : Bool :=
  s.isSet (F.SCH_TASK_STATUS_SUSPENDED k) || (seg != 0 && Store.get (fun _ => false) s.tasks.cut k)

/-- A new activation is not cut. -/
def State.uncut (s : State) (k : Nat) : State :=
  { s with tasks := { s.tasks with cut := Store.set (fun _ => false) s.tasks.cut k false } }

/-- A CORE_SEG entry starts its segment (R17, R46, R82); with the core still busy it overruns with CAUSE 2 (R49). DESIGN
CHOICE: a segment other than 0 of an activation whose segment 0 lies before the start of the tables, as one that wraps
the seam end, runs and publishes in the first seam after a start; the spec is silent (log 11). -/
def State.coreSegStart (s : State) (c k : Nat) (r : Running) (p : Pattern) : State :=
  let s := s.atTick r.entry.start
  let t := taskOf r.entry.object
  let j := segmentOf r.entry.object
  if s.passive || !s.entryMayRun || s.taskSkips t j then s.passEntry c k
  else
    match (s.agent c).running with
    | some _ => ((s.countOverrun c 2 r).cutTask t).passEntry c k
    | none =>
      (if j = 0 then s.uncut t else s).startCore c r
        (Core.start (p.segEntry t j) (p.segStackTop t j) (p.segStackLen t j) r.entry.object .none none)

/-- A SELV_SEG entry starts a run of a selvedge segment with a clear signature (R106, R107); on the RC oscillator it
does not execute (R52). -/
def State.selvSegStart (s : State) (c k : Nat) (r : Running) (p : Pattern) : State :=
  let s := s.atTick r.entry.start
  let seg := selvSegOf r.entry.object
  let runB := selvRunB r.entry.object
  if s.passive || s.isSet F.SCH_STATUS_DEGRADED_CLK then s.passEntry c k
  else
    match (s.agent c).running with
    | some _ => ((s.countOverrun c 2 r).finishRun seg runB true false (overrunCycle 2 r.entry)).passEntry c k
    | none =>
      let rr := p.runRecord seg runB
      (s.setSig seg runB WSig.clear).startCore c r
        (Core.start (runEntry rr) (runStackTop rr) (runStackLen rr) r.entry.object (if runB then .runB else .runA) none)

/-- A trigger was posted before a tick of this stitch began (R122). -/
def State.postedBefore (s : State) (g : Trigger) (tick : Nat) : Bool := g.stitch != s.clock.stitch || decide (g.tick < tick)

/-- An EVT_SLOT takes the oldest trigger posted before its START tick and runs the event task with it; without one the
core does nothing (R122). With the core still busy the slot overruns, and the trigger is consumed (R49, R50). -/
def State.evtSlotStart (s : State) (c k : Nat) (r : Running) (p : Pattern) : State :=
  let s := s.atTick r.entry.start
  let t := taskOf r.entry.object
  if s.passive || !s.entryMayRun || s.isSet (F.SCH_TASK_STATUS_SUSPENDED t) then s.passEntry c k
  else
    match s.triggersOf t with
    | [] => s.passEntry c k
    | g :: rest =>
      if s.postedBefore g r.entry.start then
        match (s.agent c).running with
        | some _ => (((s.setTriggers t rest).countOverrun c 2 r).cutTask t).passEntry c k
        | none =>
          ((s.setTriggers t rest).uncut t).startCore c r
            (Core.start (p.segEntry t 0) (p.segStackTop t 0) (p.segStackLen t 0) r.entry.object .none (some (g.code, g.arg)))
      else s.passEntry c k

/-- An entry of a core at its tick, if the table holds one of this kind there (R46); a core without power executes
nothing (R29, R389). -/
def State.coreEntry (s : State) (c k : Nat) (kind : EntryKind)
    (f : State → Nat → Nat → Running → Pattern → State) : State :=
  match s.scheduled c k, s.pat.active with
  | some r, some p => if r.entry.kind = kind then (if s.domainOn c then f s c k r p else (s.atTick r.entry.start).passEntry c k) else s
  | _, _ => s

def execCoreSeg (c k : Nat) (s : State) : Result := onCore c (s.coreEntry c k .coreSeg State.coreSegStart)
def execSelvSeg (c k : Nat) (s : State) : Result := onCore c (s.coreEntry c k .selvSeg State.selvSegStart)
def execEvtSlot (c k : Nat) (s : State) : Result := onCore c (s.coreEntry c k .evtSlot State.evtSlotStart)

end Sys2Proof.Machine
end

