-- ==== Sys2Proof/Machine/Ethernet.lean ====
section
/-!
DEFINITION. The Ethernet ports: links, scheduled and unscheduled sending, reception by class, MACsec (R301 to R313).
-/

namespace Sys2Proof.Machine

def onPort (port : Nat) (t : State) : Result := onUnit (port < 3) t

/-- Wire time in ns of a frame of n bytes with its FCS (Table 2.10). -/
def wireNs (speed n : Nat) : Nat := (n + 20) * 8 * (if speed = 2 then 1 else if speed = 1 then 10 else 100)

/-- The only speed that a plant port runs at: of its item, or 100 Mbit/s in a loopback test of depth 3 (Table 20.1). -/
def State.portRuns (s : State) (port : Nat) : Option Nat :=
  match s.dgt.lb with
  | some t => if t.target = 8 + port ∧ t.depth = 3 then some 1 else (s.portCfg port).map portSpeed
  | none => (s.portCfg port).map portSpeed

/-- ETH_LINK_UP: what the link partner offered, and whether a mode matched (R301, R302). -/
def execEthLinkUp (port speed : Nat) (full matched : Bool) (s : State) : Result :=
  onPort port (
    if !(s.domainOn (domPort port)) then s else
    let ok := if port = 2 then matched && speed ≤ 1
      else matched && full && s.portRuns port == some speed
    if port < 2 && (s.portCfg port).isNone then s
    else if ok then
      let s := ((((s.setF (F.ETH_P_STATUS_LINK port) 1).setF (F.ETH_P_STATUS_SPEED port) speed).setB (F.ETH_P_STATUS_FULL port)
        full).setF (F.ETH_P_STATUS_SPEED_FAULT port) 0).raise Ev.ETH_LINK_UP (srcEth port) [port, speed]
      if port < 2 then s.ptpBegin port else s
    else if port < 2 then
      (s.setF (F.ETH_P_STATUS_SPEED_FAULT port) 1).raise Ev.ETH_SPEED_FAULT (srcEth port) [port]
    else s)

def execEthLinkDown (port : Nat) (s : State) : Result :=
  onPort port (
    if s.isSet (F.ETH_P_STATUS_LINK port) then
      let s := ((s.setF (F.ETH_P_STATUS_LINK port) 0).incSat (F.ETH_P_STATUS_DOWNS port)).raise Ev.ETH_LINK_DOWN (srcEth port)
        [port]
      if port < 2 && (s.pat.active.bind (fun p => p.ptpItem port)).isSome then (s.setForeign port []).setPtpState port 1 else s
    else s)

/-- ETH_MACSEC_SECURED: key agreement installs a SAK under an association number (R312, R313). -/
def execEthMacsecSecured (install : SakInstall) (s : State) : Result :=
  let port := install.port
  onUnit (port < 2) (
    if s.portMacsecOn port && s.domainOn (domPort port) then
      ((s.setMacsec port ((s.macsecOf port).install install.an.toNat (install.sak.slice 0 32))).setF
        (F.ETH_P_STATUS_SECURED port) 1).raise Ev.ETH_MACSEC_SECURED (srcEth port) [port]
    else s)

/-- ETH_MACSEC_LOST: every SAK has lapsed (R313). -/
def execEthMacsecLost (port : Nat) (s : State) : Result :=
  onUnit (port < 2) (
    if s.isSet (F.ETH_P_STATUS_SECURED port) then
      ((s.setMacsec port MacsecPort.fresh).setF (F.ETH_P_STATUS_SECURED port) 0).raise Ev.ETH_MACSEC_LOST (srcEth port)
        [port]
    else s)

/-! ### Sending (R304, R306, R308, R309) -/

/-- The frame that a slot takes: Dunhel kind, set number, destination, payload, stitch of the apply point. A module that
is neither ACTIVE nor SOLO in RUN or TACKING sends none of its sets (R261, R271). -/
def State.ethTake (s : State) (p : Pattern) (port : Nat) (it : Bytes) : Option Bytes × State :=
  let ref := ethSlotRef it
  if ethSlotSrc it ≤ 1 && !s.sends then (none, s) else
  match ethSlotSrc it with
  | 0 =>
    let x := s.txOf ref
    (some (dunhel p port 1 ref (macSet ref) x.payload x.stitch), s)
  | 1 =>
    let x := s.txOf ref
    match p.pairedSets.find? (fun d => setNo d == ref) with
    | none => (none, s)
    | some d => (some (dunhel p port 2 ref (macSet ref) (pdRecord d x port) x.stitch), s)
  | 2 =>
    match p.tpItem ref with
    | none => (none, s)
    | some t =>
      let r := s.tpTake t
      (r.1.map (fun m => dunhel p port 3 (tpTxRef t) (macSet (tpTxRef t)) m (s.tpOf ref).stitch), r.2)
  | _ =>
    (some (dunhel p port 4 0 (macStation p.stationAddr) (pairMsg 1 s.position 0 0 0 0 (hbSwap s.heartbeatBody))
      (s.clock.stitch.setWidth 32)), s)

/-- A slot firing without data is counted. -/
def State.ethNoData (s : State) (port : Nat) : State :=
  { s with net := { s.net with
      noData := Store.set (fun _ => 0) s.net.noData port (Store.get (fun _ => 0) s.net.noData port + 1) } }

/-- A NET_TX entry of a plant port at its START tick (R308, R313). -/
def State.ethSlotStart (s : State) (port k : Nat) (r : Running) (p : Pattern) : State :=
  let a := portAgent port
  let s := s.atTick r.entry.start
  let key := ethSlotKey port (slotOf r.entry.object)
  match p.ethSlot port (slotOf r.entry.object) with
  | none => s.finishEntry a k
  | some it =>
    if !(s.filledAt key) then (s.ethNoData port).finishEntry a k
    else
      match (s.setFilled key false).ethTake p port it with
      | (none, s) => (s.ethNoData port).finishEntry a k
      | (some f, s) =>
        if s.isSet (F.ETH_P_STATUS_LINK port) && s.portOpen port then
          (s.emit port f).finishEntry a k
        else (s.countOverrun a 1 r).finishEntry a k

def execEthSlotStart (port entry : Nat) (s : State) : Result :=
  onUnit (port < 2) (
    match s.scheduled (portAgent port) entry, s.pat.active with
    | some r, some p =>
      if r.entry.kind ≠ .netTx then s
      else if s.entryMayRun then s.ethSlotStart port entry r p
      else (s.atTick r.entry.start).passEntry (portAgent port) r.index
    | _, _ => s)

/-- Ship time of the START tick of the next NET_TX entry of a port: in this stitch from the entry after those done, or
in one of the following stitches, of which the longest frame spans fewer than 32. -/
def State.nextNetTx (s : State) (p : Pattern) (a : Nat) : Option Nat :=
  let starts (pos from_ : Nat) : List Nat := match p.tableAt a pos with
    | none => []
    | some t => ((p.tableEntries a t).drop from_).map (·.start)
  let now := s.nowNs
  match ((starts s.seamPos (s.agent a).done).map s.tickNs).find? (fun t => now ≤ t) with
  | some t => some t
  | none =>
    (List.range 32).findSome? (fun k =>
      let pos := if p.seamLen = 0 then 0 else (s.seamPos + k + 1) % p.seamLen
      ((starts pos 0).head?).map (fun st => (s.clock.refN + k + 1) * s.clock.period + 200 * st))

/-- The unscheduled frame that a port would send now: only EAPOL while the port is not open (R313). -/
def State.nextWaiting (s : State) (port : Nat) : Option Waiting :=
  (s.waitingOf port).find? (fun w => w.cls == 2 || s.portOpen port)

/-- UNSCHEDULED_SEND: the frame starts only if its wire time ends by the START tick of the port's next entry (R309). -/
def execUnscheduledSend (port : Nat) (s : State) : Result :=
  onUnit (port < 2) (
    if !(s.isSet (F.ETH_P_STATUS_LINK port)) then s else
    match s.nextWaiting port with
    | none => s
    | some w =>
      let n := w.len + if s.portMacsecOn port && w.cls != 2 then 32 else 0
      let ends := s.nowNs + wireNs (s.getF (F.ETH_P_STATUS_SPEED port)) n
      let fits := match s.pat.active with
        | none => true
        | some p =>
          if s.isSet F.SCH_STATUS_RUNNING then ((s.nextNetTx p (portAgent port)).map (fun t => decide (ends ≤ t))).getD true
          else true
      if fits then ((s.setWaiting port ((s.waitingOf port).erase w)).emit port w.frame).ptpFollow port w.frame else s)

/-! ### Receiving (R303, R305, R310 to R312) -/

def State.bufferOf (s : State) (port cls : Nat) : Nat := Store.get (fun _ => 0) s.net.buffers (4 * port + cls)
def State.setBuffer (s : State) (port cls n : Nat) : State :=
  { s with net := { s.net with buffers := Store.set (fun _ => 0) s.net.buffers (4 * port + cls) n } }

/-- Bytes after the MAC addresses and at most one tag. -/
def untagged (f : Bytes) : Bytes := if f.beAt 12 2 = 0x8100 then f.drop 16 else f.drop 12

/-- The supervisor has taken the frames that waited in a port's buffers: at every boundary. -/
def State.drainBuffers (s : State) : State := { s with net := { s.net with buffers := [] } }

/-- A class with a number of buffers takes a frame or drops it. -/
def State.takeBuffer (s : State) (port cls n : Nat) (full : Fld) : Bool × State :=
  if n ≤ s.bufferOf port cls then (false, s.incSat full)
  else (true, (s.setBuffer port cls (s.bufferOf port cls + 1)).incWrap (F.ETH_P_RX_OK_COUNT port))

/-- A plain set copy (R311): PLAIN_SET_DELIVERY. -/
def State.plainCopy (s : State) (port : Nat) (it : Bytes) (len : Nat) (stitch : BitVec 32) (payload : Bytes) : State :=
  let set := setNo it
  let x := s.rxOf set
  if len ≠ setLen it || payload.length < len || seqOld stitch x.last then s.incSat (F.ETH_P_ERR_UNKNOWN port)
  else
    (s.setRx set { x with last := some stitch, deliver := some (payload.take len, false) }).incWrap
      (F.ETH_P_RX_OK_COUNT port)

/-- A Dunhel frame (R305): its header and payload. -/
def State.dunhelIn (s : State) (p : Pattern) (port : Nat) (f h : Bytes) : State :=
  let ver := h.u8 0
  let kind := h.u8 1
  let station := h.beAt 2 2
  let set := h.beAt 4 2
  let len := h.beAt 6 2
  let item := (p.plainSets ++ p.pairedSets).find? (fun it => !(setSend it) && setNo it == set && setOnPort it port &&
    setPeer it == station && it.u8 0 == (if kind = 1 then plainKind else pairedKind))
  let conn := p.tpItems.find? (fun it => tpRxPath it != 4 && tpRxRef it == set && pathIncludes (tpRxPath it) (port + 1))
  let heard (s : State) : State :=
    if station % 4096 = p.stationAddr % 4096 then s else { s with pair := { s.pair with dunhelAge := 0 } }
  if ver = 1 && (kind = 1 || kind = 2) && item.isSome then
    let s := heard s
    if kind = 1 then s.plainCopy port (item.getD []) len (BitVec.ofNat 32 (h.beAt 8 4)) (h.drop 12)
    else s.incWrap (F.ETH_P_RX_OK_COUNT port)
  else if ver = 1 && kind = 3 && conn.isSome then (heard s).incWrap (F.ETH_P_RX_OK_COUNT port)
  else if ver = 1 && kind = 4 && f.take 6 == macStation p.stationAddr then
    let r := s.takeBuffer port 1 16 (F.ETH_P_DROP_PAIR_FULL port)
    if r.1 then heard r.2 else r.2
  else s.incSat (F.ETH_P_ERR_UNKNOWN port)

/-- A frame without protection, or freed of it, sorted by class (Table 12.4). -/
def State.openFrame (s : State) (port : Nat) (f : Bytes) (at_ : Nat) : State :=
  let h : Bytes := untagged f
  let et := h.beAt 0 2
  match s.pat.active with
  | none => s.incSat (F.ETH_P_ERR_UNKNOWN port)
  | some p =>
    if et = 0x88F7 then
      let r := s.takeBuffer port 0 32 (F.ETH_P_DROP_PTP_FULL port)
      if r.1 then r.2.ptpIn p port (h.drop 2) at_ else r.2
    else if et = 0x88B5 then s.dunhelIn p port f (h.drop 2)
    else s.incSat (F.ETH_P_ERR_UNKNOWN port)

/-- An EAPOL frame goes to key agreement, which answers with a frame of its own on a port that runs MACsec. When MKA
sends, and what, is of IEEE 802.1X-2020: length and content are free, one answer to a frame is the model's choice (log
48). -/
def State.keyFrame (s : State) (port : Nat) : State :=
  let r := s.takeBuffer port 2 8 (F.ETH_P_DROP_KEY_FULL port)
  if r.1 && r.2.portMacsecOn port then
    let (v, s) := r.2.fresh
    let n := 46 + v % 1455
    s.enqueue port ⟨2, n + 18, [0x01, 0x80, 0xC2, 0x00, 0x00, 0x03] ++ ownMac port ++ beBytes 2 0x888E ++ leBytes n (v / 1455)⟩
  else r.2

/-- A frame on a plant port: size and FCS, MAC control, EAPOL, the validation of MACsec, then its class. -/
def State.plantFrame (s : State) (port : Nat) (f : Bytes) (st : EthRxStatus) : State :=
  let n := f.length + 4
  let et := (untagged f).beAt 0 2
  let sec := s.portMacsecOn port
  if !st.fcsOk || n < 64 || (if sec then 1554 else 1522) < n then s.incSat (F.ETH_P_ERR_FCS port)
  else if et = 0x8808 then s.incSat (F.ETH_P_ERR_PAUSE port)
  else if et = 0x888E then s.keyFrame port
  else if sec then
    match s.secOpen port f with
    | none => s.incSat (F.ETH_P_ERR_MACSEC_DROP port)
    | some (f, s) => s.openFrame port f (s.nowNs - st.ageNs)
  else s.openFrame port f (s.nowNs - st.ageNs)

/-! ### The service port (R302) -/

/-- A frame leaves the service port. -/
def State.svcSend (s : State) (f : Bytes) : State :=
  s.emit 2 (f ++ List.replicate (60 - f.length) 0#8)

/-- The Internet checksum of bytes. -/
def inetSum (b : Bytes) : Nat :=
  let t := ((List.range (ceilDiv b.length 2)).map (fun k => (b.slice (2 * k) 2).beAt 0 2)).sum
  let t := t % 65536 + t / 65536
  let t := t % 65536 + t / 65536
  65535 - t % 65536

/-- An ARP request for the service address is answered. -/
def State.svcArp (s : State) (f h : Bytes) : State :=
  let ip := s.getF F.RST_SVC_IP_VALUE
  if h.beAt 2 2 = 1 && h.beAt 4 2 = 0x0800 && h.beAt 8 2 = 1 && h.beAt 26 4 = ip then
    s.svcSend (f.slice 6 6 ++ ownMac 2 ++ beBytes 2 0x0806 ++ h.slice 2 6 ++ beBytes 2 2 ++ ownMac 2 ++ beBytes 4 ip ++
      h.slice 10 10)
  else s

/-- An ICMP echo request to the service address is answered: addresses exchanged, type 0, the ICMP checksum anew. -/
def State.svcEcho (s : State) (f h : Bytes) : State :=
  let ip : Bytes := h.drop 2
  let hl := 4 * (ip.u8 0 % 16)
  let len := ip.beAt 2 2
  let icmp : Bytes := (ip.drop hl).take (len - hl)
  if 20 ≤ hl && ip.u8 9 = 1 && icmp.u8 0 = 8 && icmp.u8 1 = 0 && 8 ≤ icmp.length && ip.beAt 6 2 % 16384 = 0 then
    let body := icmp.drop 4
    s.svcSend (f.slice 6 6 ++ ownMac 2 ++ beBytes 2 0x0800 ++ ip.take 12 ++ ip.slice 16 4 ++ ip.slice 12 4 ++
      (ip.take hl).drop 20 ++ [0#8, 0#8] ++ beBytes 2 (inetSum ([0#8, 0#8, 0#8, 0#8] ++ body)) ++ body)
  else s

/-- A frame on the service port: IPv4 with ARP, ICMP echo and TCP port 5610, whose sessions are commands of their own;
frames that it cannot take are dropped and counted (R302). -/
def State.svcFrame (s : State) (f : Bytes) : State :=
  let h : Bytes := untagged f
  let ip : Bytes := h.drop 2
  let ours := h.beAt 0 2 = 0x0800 && ip.u8 0 / 16 = 4 && ip.beAt 16 4 = s.getF F.RST_SVC_IP_VALUE
  if h.beAt 0 2 = 0x0806 then (s.incWrap (F.ETH_P_RX_OK_COUNT 2)).svcArp f h
  else if ours && (ip.u8 9 = 1 || (ip.u8 9 = 6 && ip.beAt (4 * (ip.u8 0 % 16) + 2) 2 = 5610)) then
    (s.incWrap (F.ETH_P_RX_OK_COUNT 2)).svcEcho f h
  else s.incSat (F.ETH_P_ERR_UNKNOWN 2)

/-- ETH_FRAME_RECEIVED: `frame` runs from the destination address to the byte before the FCS, as it came in. -/
def execEthFrameReceived (port : Nat) (frame : Bytes) (status : EthRxStatus) (s : State) : Result :=
  onPort port (
    if !(s.isSet (F.ETH_P_STATUS_LINK port)) then s
    else if port < 2 then s.plantFrame port frame status
    else if !status.fcsOk || frame.length < 60 || 1518 < frame.length then s.incSat (F.ETH_P_ERR_FCS 2)
    else s.svcFrame frame)

/-- PTP_MESSAGE_INTERVAL: an instance whose port has its power and a link sends what its state and delay mechanism ask
for (R29, R318). The messages wait as unscheduled frames (R309). -/
def execPtpMessageInterval (port : Nat) (kind : PtpTxKind) (s : State) : Result :=
  onUnit (port < 2) (
    match s.pat.active.bind (fun p => p.ptpItem port) with
    | none => s
    | some it =>
      if s.domainOn (domPort port) && s.isSet (F.ETH_P_STATUS_LINK port) then s.ptpInterval it port kind else s)

end Sys2Proof.Machine
end

