-- ==== Sys2Proof/Machine/Can.lean ====
section
/-!
DEFINITION. The CAN FD controllers: modes, scheduled slots, the transmit FIFO, reception, mailboxes, errors and
bus-off (R276 to R300).
-/

namespace Sys2Proof.Machine

def State.mbOf (s : State) (n m : Nat) : Mailbox := Store.get (fun _ => Mailbox.fresh) s.can.mb (64 * n + m)
def State.setMb (s : State) (n m : Nat) (x : Mailbox) : State :=
  { s with can := { s.can with mb := Store.set (fun _ => Mailbox.fresh) s.can.mb (64 * n + m) x } }
/-- The fixed settings of a loopback test without a Pattern (R473): normal mode, FD_EN and TDC_EN, 1 Mbit/s and 5 Mbit/s of
Table 11.4, DLY_MIN 4, no queue. -/
def lbCanItem (n : Nat) : Bytes :=
  [0x30#8, BitVec.ofNat 8 n, 1#8, 3#8] ++ leBytes 2 1 ++ leBytes 2 63 ++
    [16#8, 16#8, 1#8, 11#8, 4#8, 4#8, 12#8, 4#8, 0xFF#8, 0xFF#8] ++ List.replicate 14 0#8

/-- The item of a controller: the Pattern's, or without a Pattern the fixed settings of a test of it. -/
def State.canCfg (s : State) (n : Nat) : Bytes :=
  match s.pat.active with
  | some p => (p.canItem n).getD []
  | none => if (s.dgt.lb.map (·.target)) == some n then lbCanItem n else []

/-! ### Modes (R283, R284) -/

/-- Rank of a mode from least to most restrictive: normal 1, restricted 2, listen-only 3, off 0. -/
def canRank (m : Nat) : Nat := if m = 0 then 3 else m - 1

/-- The limit of Table 11.5. -/
def State.canLimit (s : State) : Nat :=
  if !s.domainOn domCan then 0
  else match s.station with
    | .stop | .safeHalt => 2
    | .run | .tacking => if s.roleIs .active || s.roleIs .solo then 1 else 3
    | _ => 0

/-- The effective mode that MODE and the limit call for (R283), off without a controller item (R277); under a loopback
test, normal mode (R472); off while VIO is out of range (R456). -/
def State.canTarget (s : State) (n : Nat) : Nat :=
  if s.rst.vioOut then 0 else
  if s.domainOn domCan && (s.dgt.lb.map (·.target)) == some n then 1 else
  if (s.pat.active.bind (fun p => p.canItem n)).isNone then 0 else
  let m := s.getF (F.CAN_CTRL_MODE n)
  if canRank m < canRank s.canLimit then s.canLimit else m

def State.canMode (s : State) (n : Nat) : Nat := s.getF (F.CAN_STATUS_EFF_MODE n)
def State.canFaultState (s : State) (n : Nat) : Nat := s.getF (F.CAN_STATUS_STATE n)

/-- CANn_STB is asserted while the controller is off (R283). -/
def State.canStb (s : State) (n : Nat) : Bool := s.canMode n == 0

/-- A controller is switched off: it transmits nothing more, and its counters are lost; a pending slot frame is
withdrawn at its END. -/
def State.canOff (s : State) (n : Nat) : State :=
  let s := (((((s.setF (F.CAN_STATUS_EFF_MODE n) 0).setF (F.CAN_STATUS_STATE n) 0).setF (F.CAN_STATUS_INTEGRATING n) 0).setF
    (F.CAN_STATUS_RECOVERING n) 0).setF (F.CAN_STATUS_TEC n) 0).setF (F.CAN_STATUS_REC n) 0
  s.setCan n { CanCtrl.fresh with slot := (s.canOf n).slot }

/-- A less restrictive mode takes effect: the controller integrates first. -/
def State.canLoosen (s : State) (n m : Nat) : State :=
  let s := if s.canFaultState n = 0 then s.setF (F.CAN_STATUS_STATE n) 1 else s
  (s.setF (F.CAN_STATUS_EFF_MODE n) m).setF (F.CAN_STATUS_INTEGRATING n) 1

/-- A more restrictive mode takes effect. -/
def State.canTighten (s : State) (n m : Nat) : State := if m = 0 then s.canOff n else s.setF (F.CAN_STATUS_EFF_MODE n) m

/-- A more restrictive mode is due: it waits while a frame is on the bus. -/
def State.canTightenDue (s : State) (n m : Nat) : State :=
  if (s.canOf n).busy then s.setCan n { s.canOf n with waits := some m } else s.canTighten n m

/-- The mode change of a stitch boundary; a more restrictive mode waits while a frame is on the bus, and no transmission
starts until then. Behind a mode that waits only a more restrictive one still counts; a less restrictive one follows it
at a later boundary, with its integration (DEDUCED, log 123). -/
def State.canModeBoundary (s : State) (n : Nat) : State :=
  let m := s.canTarget n
  match (s.canOf n).waits with
  | some w => if canRank w < canRank m then s.canTightenDue n m else s
  | none =>
    if canRank (s.canMode n) < canRank m then s.canTightenDue n m
    else if m = s.canMode n then s
    else s.canLoosen n m

/-- The frame on the bus has ended: the more restrictive mode that waited since a boundary takes effect. -/
def State.canFrameEnd (s : State) (n : Nat) : State :=
  let x := s.canOf n
  let s := s.setCan n { x with busy := false, waits := none }
  match x.waits with
  | some m => s.canTighten n m
  | none => s

/-- LOOP of a controller; its own frames come in only under a loopback (R285, R293). -/
def State.canLoop (s : State) (n : Nat) : Nat := s.getF (F.CAN_CTRL_LOOP n)
def State.canLooped (s : State) (n : Nat) : Bool := s.canLoop n == 1 || s.canLoop n == 2

/-- A controller takes part in the bus: not off, not in bus-off, not integrating. -/
def State.canTakesPart (s : State) (n : Nat) : Bool :=
  s.canMode n != 0 && (s.canFaultState n == 1 || s.canFaultState n == 2) && !(s.isSet (F.CAN_STATUS_INTEGRATING n))

def onCan (n : Nat) (t : State) : Result := onUnit (n < 8) t

/-- INTEGRATION_END: 11 consecutive recessive bits (R284). -/
def execIntegrationEnd (n : Nat) (s : State) : Result := onCan n ((s.setF (F.CAN_STATUS_INTEGRATING n) 0).canFrameEnd n)

/-! ### Frame records (R286) -/

/-- Data bytes of a DLC. -/
def dlcLen (fd : Bool) (dlc : Nat) : Nat :=
  if dlc ≤ 8 then dlc
  else if fd then [12, 16, 20, 24, 32, 48, 64].getD (dlc - 9) 64 else 8

/-- Smallest DLC of a CAN FD frame that holds n bytes. -/
def dlcFor (n : Nat) : Nat := ((List.range 16).find? (fun d => n ≤ dlcLen true d)).getD 15

def recId (r : Bytes) : Nat := r.u32 0
def recIde (r : Bytes) : Bool := bitOf (r.u8 4) 0
def recRtr (r : Bytes) : Bool := bitOf (r.u8 4) 1
def recFdf (r : Bytes) : Bool := bitOf (r.u8 4) 2
def recBrs (r : Bytes) : Bool := bitOf (r.u8 4) 3
def recSingleShot (r : Bytes) : Bool := bitOf (r.u8 4) 5

/-- A bad transmit record (R286); SINGLE_SHOT is a FIFO flag and reserved in a slot record. A remote frame is
transmitted from the FIFO only (Table 11.1): a slot's is bad too, DEDUCED (log 45). -/
def recBad (fdEn fifo : Bool) (r : Bytes) : Bool :=
  (recRtr r && recFdf r) || (recBrs r && !(recFdf r)) || (recFdf r && !fdEn) || bitsOf (recId r) 31 29 != 0 ||
    bitOf (r.u8 4) 4 || bitsOf (r.u8 4) 7 6 != 0 || (!fifo && (recSingleShot r || recRtr r)) || 15 < r.u8 5 || r.u32 8 != 0 ||
    r.u32 12 != 0 || (!(recIde r) && bitsOf (recId r) 28 11 != 0)

/-- A frame record. -/
def mkRecord (id flags dlc tag stamp : Nat) (data : Bytes) : Bytes :=
  leBytes 4 id ++ leBytes 1 flags ++ leBytes 1 dlc ++ leBytes 2 tag ++ leBytes 4 stamp ++ leBytes 4 0 ++ data.slice 0 64

/-- The record of a received frame, with its TAG. -/
def canRecord (f : CanFrame) (tag : Nat) : Bytes :=
  let n := if f.rtr then 0 else dlcLen f.fd f.dlc.toNat
  mkRecord f.id.toNat ((if f.ext then 1 else 0) + (if f.rtr then 2 else 0) + (if f.fd then 4 else 0) +
    (if f.brs then 8 else 0) + (if f.esi then 16 else 0)) f.dlc.toNat tag f.sof.toNat (f.data.take n)

/-- Frame word of Table 11.3, and the filter match of R278. -/
def canWord (f : CanFrame) : BitVec 32 :=
  f.id.setWidth 32 ||| (if f.ext then 0x20000000#32 else 0) ||| (if f.rtr then 0x40000000#32 else 0) |||
    (if f.fd then 0x80000000#32 else 0)
def canMatches (f : CanFrame) (id mask : Nat) : Bool :=
  (canWord f ^^^ BitVec.ofNat 32 id) &&& BitVec.ofNat 32 mask == 0#32

/-- The frame of a Terpaene message (R289). -/
def tpFrame (it msg : Bytes) : Bytes :=
  let w := slotFrameId it
  mkRecord (bitsOf w 28 0) ((if bitOf w 29 then 1 else 0) + 4 + (if slotBrs it then 8 else 0)) (dlcFor msg.length) 0 0 msg

/-! ### Scheduled slots (R288 to R291) -/

/-- A slot frame is withdrawn. -/
def State.canWithdraw (s : State) (n slot : Nat) (r : Running) : State :=
  ((s.countOverrun (canAgent n) 1 r).incSat (F.CAN_TX_STAT_WITHDRAWN n)).raise Ev.CAN_TX_WITHDRAWN (srcCan n) [n, slot]

/-- The frame a slot takes at its START tick, if it has data. -/
def State.canSlotTake (s : State) (p : Pattern) (n slot : Nat) (it : Bytes) : Option Bytes × State :=
  match slotSrc it with
  | 0 => s.queueTake p (slotQ it)
  | 1 =>
    let half := s.publishedHalf p (slotWriter it)
    (half.bind (fun h => s.halfBytes p (slotWriter it) (some h) (slotBuf it) 80),
      s.halfRead p (slotWriter it) half (slotBuf it) 80)
  | _ =>
    if s.filledAt (canSlotKey n slot) then
      match p.tpItems.find? (fun t => tpTxPath t == 4 && tpTxRef t == 64 * n + slot) with
      | none => (none, s)
      | some t =>
        let r := (s.setFilled (canSlotKey n slot) false).tpTake t
        (r.1.map (tpFrame it), r.2)
    else (none, s)

/-- A NET_TX entry of a CAN agent at its START tick (R290). -/
def State.canSlotStart (s : State) (n k : Nat) (r : Running) (p : Pattern) : State :=
  let s := s.atTick r.entry.start
  let slot := slotOf r.entry.object
  match p.canSlot n slot with
  | none => s.finishEntry (canAgent n) k
  | some it =>
    match s.canSlotTake p n slot it with
    | (none, s) => (s.incSat (F.CAN_TX_STAT_NO_DATA n)).finishEntry (canAgent n) k
    | (some rec, s) =>
      if recBad (canFdEn (s.canCfg n)) false rec then
        (s.incSat (F.CAN_TX_STAT_BAD_RECORD n)).finishEntry (canAgent n) k
      else
        (s.setCan n { s.canOf n with slot := some (slot, rec) }).beginEntry (canAgent n) r

def execCanSlotStart (ctrl entry : Nat) (s : State) : Result :=
  onCan ctrl (
    match s.scheduled (canAgent ctrl) entry, s.pat.active with
    | some r, some p =>
      if r.entry.kind ≠ .netTx then s
      else if !s.entryMayRun then (s.atTick r.entry.start).passEntry (canAgent ctrl) r.index
      else if (s.agent (canAgent ctrl)).running.isSome then
        ((s.atTick r.entry.start).countOverrun (canAgent ctrl) 2 r).passEntry (canAgent ctrl) r.index
      else s.canSlotStart ctrl entry r p
    | _, _ => s)

/-- The END of a slot's entry (R291): its frame continues where it has won arbitration or is still in its arbitration
field, without a retry; in any other condition it is withdrawn, as when the frame on the bus is that of an earlier
entry. -/
def State.canSlotOver (s : State) (n : Nat) (r : Running) : State :=
  let x := s.canOf n
  match x.slot with
  | none => s
  | some (slot, _) =>
    match x.tx with
    | some t =>
      if t.slot.isSome && t.expired.isNone then
        s.setCan n { x with slot := none, tx := some { t with expired := some r } }
      else (s.setCan n { x with slot := none }).canWithdraw n slot r
    | none => (s.setCan n { x with slot := none }).canWithdraw n slot r

/-- CAN_SLOT_END: the END tick of the entry that runs (R291). -/
def execCanSlotEnd (ctrl : Nat) (s : State) : Result :=
  onCan ctrl (
    match (s.agent (canAgent ctrl)).running with
    | none => s
    | some r =>
      ((s.atTick r.entry.finish).canSlotOver ctrl r).finishEntry (canAgent ctrl) r.index)


/-! ### Arbitration and sending (R287, R291) -/

/-- The FIFO head that the controller would offer. -/
def State.canHead (s : State) (n : Nat) : Option Bytes :=
  match s.pat.active with
  | none => none
  | some p => if canFifoQ (s.canCfg n) = 0xFF then none else s.queuePeek p (canFifoQ (s.canCfg n))

/-- The FIFO head is read when the controller takes it up (R102). -/
def State.canHeadRead (s : State) (n : Nat) : State :=
  match s.pat.active with
  | none => s
  | some p =>
    let q := canFifoQ (s.canCfg n)
    s.engRead (queuePlace p q (s.queueState q).head) (p.queueSize q)

/-- The FIFO head, read before, is removed. -/
def State.canPop (s : State) (n : Nat) : State :=
  match s.pat.active with
  | none => s
  | some p => if canFifoQ (s.canCfg n) = 0xFF then s else (s.queueGet p (canFifoQ (s.canCfg n))).2

/-- The attempt of the frame that is transmitted failed: a slot frame after its END is withdrawn and not retried, a
SINGLE_SHOT frame of the FIFO removed (R287, R291). -/
def State.canAttemptFails (s : State) (n : Nat) (t : CanSending) : State :=
  let s := s.setCan n { s.canOf n with tx := none }
  match t.slot, t.expired with
  | some slot, some r => s.canWithdraw n slot r
  | some _, none => s
  | none, _ => if recSingleShot t.record then s.canPop n else s

/-- The record as it goes out: an error-passive transmitter sends ESI = 1 in its CAN FD frames (R298). -/
def State.canOutgoing (s : State) (n : Nat) (rec : Bytes) : Bytes :=
  if recFdf rec && s.canFaultState n == 2 then rec.set 4 (BitVec.ofNat 8 (rec.u8 4) ||| 0x10#8) else rec

/-- The controller offers a frame: its start of frame. -/
def State.canOffer (s : State) (n : Nat) (slot : Option Nat) (rec : Bytes) : State :=
  s.setCan n { s.canOf n with
    tx := some ⟨slot, s.canOutgoing n rec, BitVec.ofNat 32 s.nowNs, false, none⟩
    busy := true }

/-- At bus idle the controller offers the pending slot frame, or else the FIFO head (R287, R290); a bad head is removed
(R286). Nothing starts while a change of mode waits (R284). -/
def State.canStart (s : State) (n : Nat) : State :=
  let x := s.canOf n
  if !(s.canTakesPart n) || s.canMode n != 1 || x.waits.isSome || x.tx.isSome then s
  else match x.slot with
    | some (slot, rec) => s.canOffer n (some slot) rec
    | none =>
      match s.canHead n with
      | none => s
      | some rec =>
        let s := s.canHeadRead n
        if recBad (canFdEn (s.canCfg n)) true rec then (s.incSat (F.CAN_TX_STAT_BAD_RECORD n)).canPop n
        else s.canOffer n none rec

/-- CAN_ARBITRATION: the controller offers a frame at bus idle, and wins or loses. A result without a start is that of
an arbitration that starts now. -/
def execCanArbitration (ctrl : Nat) (moment : CanArbitration) (s : State) : Result :=
  onCan ctrl (
    let s := s.canStart ctrl
    match moment, (s.canOf ctrl).tx with
    | .won, some t => s.setCan ctrl { s.canOf ctrl with tx := some { t with won := true } }
    | .lost, some t => if t.won then s else (s.incSat (F.CAN_TX_STAT_ARB_LOST ctrl)).canAttemptFails ctrl t
    | _, _ => s)

/-! ### Error counters (R298, R299) -/

/-- STATE after the counters changed; entries into error-passive and returns to error-active are reported. -/
def State.canConfine (s : State) (n : Nat) : State :=
  let tec := s.getF (F.CAN_STATUS_TEC n)
  let rec_ := s.getF (F.CAN_STATUS_REC n)
  let st := s.canFaultState n
  if st = 1 && (128 ≤ tec || 128 ≤ rec_) then
    ((s.setF (F.CAN_STATUS_STATE n) 2).incSat (F.CAN_ERR_PASSIVE n)).raise Ev.CAN_ERR_PASSIVE (srcCan n) [n, tec, rec_]
  else if st = 2 && tec < 128 && rec_ < 128 then
    (s.setF (F.CAN_STATUS_STATE n) 1).raise Ev.CAN_RECOVERED (srcCan n) [n]
  else s

/-- Bus-off (R299). -/
def State.canBusOff (s : State) (n : Nat) : State :=
  let s := ((s.setF (F.CAN_STATUS_STATE n) 3).setF (F.CAN_STATUS_TEC n) 255).incSat (F.CAN_ERR_BUSOFF n)
  (s.setB (F.CAN_STATUS_RECOVERING n) (canBusOffAuto (s.canCfg n))).raise Ev.CAN_BUS_OFF (srcCan n) [n]

/-- TEC rises by 8, or REC by k, or falls as a frame succeeds. -/
def State.canTecUp (s : State) (n : Nat) : State :=
  let t := s.getF (F.CAN_STATUS_TEC n) + 8
  if 255 < t then s.canBusOff n else (s.setF (F.CAN_STATUS_TEC n) t).canConfine n
def State.canRecUp (s : State) (n k : Nat) : State := (s.addSat (F.CAN_STATUS_REC n) k).canConfine n
def State.canTecDown (s : State) (n : Nat) : State := (s.decF (F.CAN_STATUS_TEC n)).canConfine n

/-- After a good reception REC falls by 1; from above 127 it takes a value from 119 to 127, which ISO 11898-1 leaves
open. -/
def State.canRecDown (s : State) (n : Nat) : State :=
  let v := s.getF (F.CAN_STATUS_REC n)
  if v = 0 then s
  else if v ≤ 127 then (s.setF (F.CAN_STATUS_REC n) (v - 1)).canConfine n
  else
    let (r, s) := s.fresh
    (s.setF (F.CAN_STATUS_REC n) (119 + r % 9)).canConfine n

/-- LAST_ERR of Table 11.14. -/
def canErrCode : CanErrKind → Nat
  | .crc => 1
  | .ack => 2
  | .form => 3
  | .stuff => 4
  | .bit1 => 5
  | .bit0 => 6

/-- Transmitter delay compensation of a frame transmitted with BRS (R282): clocks from the FDF-to-res edge on TXD to
each such edge on RXD. Edges before DLY_MIN are ignored, one after 127 clocks has not arrived in time. TXD does not move
under the internal loopback, and nothing is measured there. -/
def State.canTdc (s : State) (n : Nat) (rec : Bytes) (echoes : List Nat) : State :=
  let cfg := s.canCfg n
  if canTdcEn cfg && recFdf rec && recBrs rec && s.canLoop n != 1 then
    let e := echoes.find? (fun e => canDlyMin cfg ≤ e && e ≤ 127)
    let d := e.getD 127
    let s := (s.setF (F.CAN_TDC_LOOP_DLY n) d).setF (F.CAN_TDC_SSP n) (d + canSspOff cfg)
    if e.isSome then s else (s.setF (F.CAN_STATUS_TDC_SAT n) 1).raise Ev.CAN_TDC_SAT (srcCan n) [n]
  else s

/-- CAN_ERROR. A transmission that failed is retried or withdrawn; a SINGLE_SHOT frame is removed. `echoes` is the delay
measurement of the frame, where the error came after it. Under a loopback a missing acknowledgement is no error
(R285). -/
def execCanError (ctrl : Nat) (kind : CanErrKind) (effect : CanErrEffect) (place : CanErrPlace) (s : State) : Result :=
  onCan ctrl (
    if !(s.canTakesPart ctrl) then s else
    let x := s.canOf ctrl
    if kind = .ack && x.tx.isSome && s.canLooped ctrl then s else
    let s := (s.setF (F.CAN_ERR_LAST_ERR ctrl) (canErrCode kind)).setB (F.CAN_ERR_DPHASE ctrl) place.dataPhase
    let s := match x.tx with
      | some t => (match place.echoes with
          | some e => s.canTdc ctrl t.record e
          | none => s).canAttemptFails ctrl t
      | none => if effect = CanErrEffect.receive then s.incSat (F.CAN_RX_STAT_RX_ERR ctrl) else s
    let s := match effect with
      | .transmit => s.canTecUp ctrl
      | .receive => s.canRecUp ctrl 1
      | .receiveDominantAfter => s.canRecUp ctrl 8
      | .noCount => s
    let s := if s.canMode ctrl = 2 then s.setF (F.CAN_STATUS_INTEGRATING ctrl) 1 else s
    s.canFrameEnd ctrl)

/-- RECOVER (R299). -/
def State.canRecover (s : State) (n : Nat) : State :=
  if s.canFaultState n = 3 then s.setF (F.CAN_STATUS_RECOVERING n) 1 else s

/-- CLEAR_COUNTS (Table 11.13): CANn_ERR bits 31:8, CANn_TX_STAT, CANn_RX_STAT. -/
def State.canClearCounts (s : State) (n : Nat) : State :=
  ((s.setR (F.CAN_ERR_BUSOFF n).addr (s.getR (F.CAN_ERR_BUSOFF n).addr &&& 0xFF#32)).setR
    (F.CAN_TX_STAT_WITHDRAWN n).addr 0).setR (F.CAN_RX_STAT_RXQ_FULL n).addr 0

def execRecover (req : Requester) (ctrl : Nat) (s : State) : Result := onUnit (ctrl < 8) (s.commanded req (F.CAN_CMD_OP ctrl) (s.canRecover ctrl))
def execClearCounts (req : Requester) (ctrl : Nat) (s : State) : Result :=
  onUnit (ctrl < 8) (s.commanded req (F.CAN_CMD_OP ctrl) (s.canClearCounts ctrl))

/-- BUS_OFF_RECOVERY_END (R299). -/
def execBusOffRecoveryEnd (ctrl : Nat) (s : State) : Result :=
  onCan ctrl (
    if s.canFaultState ctrl = 3 && s.isSet (F.CAN_STATUS_RECOVERING ctrl) then
      ((((s.setF (F.CAN_STATUS_STATE ctrl) 1).setF (F.CAN_STATUS_RECOVERING ctrl) 0).setF (F.CAN_STATUS_TEC ctrl) 0).setF
        (F.CAN_STATUS_REC ctrl) 0).raise Ev.CAN_RECOVERED (srcCan ctrl) [ctrl]
    else s)

/-- CAN_PROTOCOL_EXC (R300). -/
def execCanProtocolExc (ctrl : Nat) (s : State) : Result :=
  onCan ctrl (
    if canPexEn (s.canCfg ctrl) && s.canTakesPart ctrl then
      (((s.setF (F.CAN_STATUS_INTEGRATING ctrl) 1).incSat (F.CAN_ERR_PEX ctrl)).raise Ev.CAN_PROTOCOL_EXC (srcCan ctrl)
        [ctrl]).canFrameEnd ctrl
    else s)

/-! ### Reception and mailboxes (R293 to R297) -/

def State.mbLocked (s : State) (n m : Nat) : Bool :=
  s.isSet (F.CAN_MB_LOCK_LOCK n) && s.getF (F.CAN_MB_LOCK_MB n) == m

/-- A frame of a mailbox is lost. -/
def State.mbOverrun (s : State) (n m : Nat) : State :=
  ((s.setF (F.CAN_MB_STATUS_OVERRUN n m) 1).incSat (F.CAN_MB_STATUS_OVR_COUNT n m)).raise Ev.CAN_MB_OVERRUN (srcCan n)
    [n, m]

/-- A record reaches a mailbox (R295). -/
def State.mbPut (s : State) (n m : Nat) (rec : Bytes) : State :=
  let x := s.mbOf n m
  if s.mbLocked n m then
    let s := if x.shadow.isSome then s.mbOverrun n m else s
    (s.setF (F.CAN_MB_STATUS_SHADOW_FULL n m) 1).setMb n m { x with shadow := some rec, isNew := true }
  else
    let s := if s.isSet (F.CAN_MB_STATUS_NEW n m) then s.mbOverrun n m else s
    (s.setF (F.CAN_MB_STATUS_NEW n m) 1).setMb n m { x with main := rec, isNew := true }

/-- Unlocking a mailbox: a shadow frame moves to the main buffer with NEW set; else the frame shown is taken. -/
def State.mbUnlock (s : State) (n m : Nat) : State :=
  let x := s.mbOf n m
  match x.shadow with
  | some rec =>
    ((s.setF (F.CAN_MB_STATUS_NEW n m) 1).setF (F.CAN_MB_STATUS_SHADOW_FULL n m) 0).setMb n m
      { x with main := rec, shadow := none }
  | none => s.setF (F.CAN_MB_STATUS_NEW n m) 0

/-- A write of CANn_MB_LOCK. -/
def State.mbLockWrite (s : State) (n : Nat) (v : BitVec 32) : State :=
  let old := s.getF (F.CAN_MB_LOCK_MB n)
  let lock := bitOf v.toNat 31
  let m := bitsOf v.toNat 5 0
  let s := if s.isSet (F.CAN_MB_LOCK_LOCK n) && !(lock && m = old) then s.mbUnlock n old else s
  (s.setB (F.CAN_MB_LOCK_LOCK n) lock).setF (F.CAN_MB_LOCK_MB n) m

def execMbLockWrite (req : Requester) (ctrl : Nat) (value : BitVec 32) (s : State) : Result :=
  onUnit (ctrl < 8) (s.commanded req (F.CAN_MB_LOCK_LOCK ctrl) (s.mbLockWrite ctrl value))

/-- The place of a received frame (R293). -/
def State.canPlace (s : State) (p : Pattern) (n : Nat) (f : CanFrame) : State :=
  let mbs := (p.mailboxes n).filter (fun it => canMatches f (mbId it) (mbMask it))
  match (List.range 64).find? (fun m => mbs.any (fun it => mbNo it == m)) with
  | some m => (s.mbPut n m (canRecord f m)).incWrap (F.CAN_RX_OK_COUNT n)
  | none =>
    let cfg := s.canCfg n
    if canRxQ cfg ≠ 0xFF && (canRxfAll cfg || canMatches f (canRxfId cfg) (canRxfMask cfg)) then
      let r := s.queueStore p (canRxQ cfg) (canRecord f 0xFFFF)
      if r.1 then r.2.incWrap (F.CAN_RX_OK_COUNT n)
      else (r.2.incSat (F.CAN_RX_STAT_RXQ_FULL n)).raise Ev.CAN_RXQ_FULL (srcCan n) [n]
    else s.incSat (F.CAN_RX_STAT_UNMATCHED n)

/-- The frame that a transmit record spells, as a receiver sees it. -/
def recFrame (r : Bytes) (sof : BitVec 32) : CanFrame :=
  ⟨recIde r, BitVec.ofNat 29 (recId r), recRtr r, recFdf r, recBrs r, bitOf (r.u8 4) 4, BitVec.ofNat 4 (r.u8 5),
    r.slice 16 (dlcLen (recFdf r) (r.u8 5)), sof⟩

/-- CAN_FRAME_SENT: the frame that is transmitted was sent without error, on TXD or, under the internal loopback, to
the controller's own receiver (R285). -/
def execCanFrameSent (ctrl : Nat) (echoes : List Nat) (s : State) : Result :=
  onCan ctrl (
    let x := s.canOf ctrl
    match x.tx with
    | none => s
    | some t =>
      let s := s.setCan ctrl { x with tx := none, slot := if t.slot.isSome && t.expired.isNone then none else x.slot }
      let s := (if t.slot.isNone then s.canPop ctrl else s).incWrap (F.CAN_TX_OK_COUNT ctrl)
      let s := if s.canLoop ctrl = 1 then
          match s.pat.active with
          | some p => s.canPlace p ctrl (recFrame t.record t.sof)
          | none => s
        else { s with net := { s.net with wire := Store.set (fun _ => []) s.net.wire (16 + ctrl) t.record } }
      ((s.canTdc ctrl t.record echoes).canTecDown ctrl).canFrameEnd ctrl)

/-- CAN_FRAME_RECEIVED: `own` marks a frame that this controller sent itself, back on RXD under the external loopback.
-/
def execCanFrameReceived (ctrl : Nat) (frame : CanFrame) (own : Bool) (s : State) : Result :=
  onCan ctrl (
    match s.pat.active with
    | none => s
    | some p =>
      if !(s.canTakesPart ctrl) || (own && s.canLoop ctrl != 2) then s
      else
        let s := s.canPlace p ctrl frame
        if own then s else (s.canRecDown ctrl).canFrameEnd ctrl)

/-- An IMAGE mailbox at a latch (R296): MAILBOX_LATCH. While the CAN domain is off its item is stale (R388). Answers
whether a new frame was taken. -/
def State.latchMailbox (s : State) (p : Pattern) (n : Nat) (it : Bytes) : Bool × State :=
  let m := mbNo it
  let x := s.mbOf n m
  let newest := x.shadow.getD x.main
  let s := if x.isNew then s.setF (F.CAN_MB_STATUS_NEW n m) 0 else s
  let x := if x.isNew then { x with isNew := false, age := some 0, sinceRestart := true }
    else { x with age := x.age.map (fun a => min (a + 1) 65535) }
  let valid := if !s.domainOn domCan then false
    else if mbTimeout it = 0 then x.sinceRestart
    else (x.age.map (fun a => decide (a < mbTimeout it))).getD false
  let was := s.isSet (F.CAN_MB_STATUS_VALID n m)
  let taken := (s.mbOf n m).isNew
  let s := (s.setMb n m x).setB (F.CAN_MB_STATUS_VALID n m) valid
  let s := if was && !valid then s.raise Ev.CAN_MB_STALE (srcCan n) [n, m] else s
  let (free, s) := if valid then (0, s) else s.fresh
  let fixed := if mbSubst it = 1 then (p.bytes Pattern.NETWORK).slice (mbFixed it) 80 else leBytes 80 free
  (taken, s.latchItem (mbImgOff it) (if valid then some newest else none) false
    ⟨mbSubst it, mbHold it, fixed, List.replicate 80 0#8⟩)

/-- A restart: mailboxes without a time limit need a new frame. -/
def State.canRestart (s : State) (p : Pattern) : State :=
  (List.range 8).foldl (fun s n => (p.mailboxes n).foldl (fun s it =>
    s.setMb n (mbNo it) { s.mbOf n (mbNo it) with sinceRestart := false }) s) s

/-- The fields that the Pattern gives: MODE of CANn_CTRL and USED of the mailboxes. -/
def State.canConfigure (s : State) (p : Pattern) : State :=
  (List.range 8).foldl (fun s n =>
    let s := s.setF (F.CAN_CTRL_MODE n) (((p.canItem n).map canModeOf).getD 0)
    (List.range 64).foldl (fun s m =>
      if (p.mailbox n m).isSome then s.setF (F.CAN_MB_STATUS_USED n m) 1
      else s.setR (F.CAN_MB_STATUS_USED n m).addr 0) s) s

end Sys2Proof.Machine
end

