-- ==== Sys2Proof/Machine/Recorder.lean ====
section
/-!
DEFINITION. The event recorder (R349 to R365): token buckets, the ring in MRAM, records and their valid marks, the boot
scan, the commit of a record, time marks.
-/

namespace Sys2Proof.Machine

/-! ### Token buckets (R356) -/

/-- Every bucket is full: at boot and at a Pattern activation. -/
def State.fillTokens (s : State) : State := { s with evr := { s.evr with missing := [], sinceFill := 0 } }

/-- A stitch boundary: each code gains a token at every REFILL-th boundary since the buckets were filled. -/
def State.refillTokens (s : State) : State :=
  let n := s.evr.sinceFill + 1
  let s := { s with evr := { s.evr with sinceFill := n } }
  s.evr.missing.foldl (fun s e =>
    let refill := (s.bucket e.1).2
    if refill ≠ 0 ∧ n % refill = 0 then
      { s with evr := { s.evr with missing := Store.set (fun _ => 0) s.evr.missing e.1 (e.2 - 1) } }
    else s) s

/-- Does a code have a bucket (R356)? An application code has one by its item. -/
def State.hasBucket (s : State) (code : Nat) : Bool :=
  decide (code < 0x3000) || (s.pat.active.bind (fun p => p.recItem code)).isSome

/-- EVR_CODE_STAT for the code that EVR_CODE_SEL selects (Table 14.11). -/
def State.codeStat (s : State) : BitVec 32 :=
  let code := s.getF F.EVR_CODE_SEL_CODE
  if s.hasBucket code then
    let item := (s.pat.active.bind (fun p => p.recItem code)).isSome
    BitVec.ofNat 32 (2 ^ 31 + (if item then 2 ^ 30 else 0) + 2 ^ 16 * ((s.bucket code).1 - s.missingOf code) +
      s.suppressedOf code)
  else 0

/-! ### Records and the ring (R349 to R354) -/

/-- The valid mark of a sequence number (R352). -/
def validMark (seq : Nat) : Nat := 2 * (seq % 2 ^ 31) + 1

/-- The 256 bytes of the record in a slot of the ring (R349). -/
def State.slotBytes (s : State) (slot : Nat) : Bytes := s.rdBytes (Mem.recorderSlot slot) 256

/-- A slot holds a valid record (R352). -/
def recordValid (slot : Nat) (b : Bytes) : Bool :=
  b.u32 252 == validMark (b.u64 0) && b.u64 0 % 32768 == slot &&
    b.u32 248 == (crc32c (b.take 248)).toNat

/-- Slots whose MARK can be valid: a mark is odd (R352), so its first byte is not the 0 of an unlisted address. -/
def State.markedSlots (s : State) : List Nat :=
  s.mem.filterMap (fun c =>
    if Mem.mram ≤ c.1 ∧ c.1 < Mem.mram + 0x800000 ∧ (c.1 - Mem.mram) % 256 = 252 then some ((c.1 - Mem.mram) / 256)
    else none)

/-- The valid records of the ring. -/
def State.validRecords (s : State) : List Bytes :=
  s.markedSlots.filterMap (fun k => let b := s.slotBytes k; if recordValid k b then some b else none)

/-- The record of highest SEQ among some. -/
def newestRecord : List Bytes → Option Bytes
  | [] => none
  | b :: bs =>
    match newestRecord bs with
    | none => some b
    | some c => if c.u64 0 < b.u64 0 then some b else some c

/-- SEQ of the next record to be committed. -/
def State.nextSeq (s : State) : Nat := s.getF F.EVR_NEXT_LO_NEXT + 2 ^ 32 * s.getF F.EVR_NEXT_HI_NEXT
def State.setNextSeq (s : State) (n : Nat) : State :=
  (s.setF F.EVR_NEXT_LO_NEXT (lo32 n)).setF F.EVR_NEXT_HI_NEXT (hi32 n)

/-- EVR_NEXT becomes n; at each multiple of 1,024 the floor word follows it (R354). -/
def State.raiseNext (s : State) (n : Nat) : State :=
  let s := s.setNextSeq n
  if n % 1024 = 0 then s.wrLe Mem.floorWord 8 n else s

/-- The boot scan (R354): EVR_NEXT, and the ship time of the newest TIME_MARK for R364. -/
def State.bootScan (s : State) : State :=
  let recs := s.validRecords
  let floor := s.rdLe Mem.floorWord 8
  let next := match newestRecord recs with
    | some b => b.u64 0 + 1
    | none => if floor = 0 then 1 else floor + 1024
  let mark := (newestRecord (recs.filter (fun b => b.u16 8 == Ev.TIME_MARK))).map
    (fun b => BitVec.ofNat 64 (b.u64 16))
  ({ s with evr := { s.evr with lastMark := mark } }.raiseNext next).setF F.EVR_STATUS_SCANNED 1

/-- A word of the record window (R365); 0 until the boot scan is complete. -/
def State.recordWord (s : State) (word : Nat) : BitVec 32 :=
  if s.isSet F.EVR_STATUS_SCANNED then
    BitVec.ofNat 32 (s.rdLe (Mem.recorderSlot (s.getF F.EVR_WIN_SLOT_SLOT) + 4 * word) 4)
  else 0

/-- Bytes 0 to 247 of a record (Table 14.1). -/
def recordBody (seq : Nat) (e : Staged) (payload snap : List (BitVec 32)) (flags : Nat) : Bytes :=
  let data := (payload ++ snap).take 56
  let words := data.flatMap (fun w => leBytes 4 w.toNat)
  leBytes 8 seq ++ leBytes 2 e.code.toNat ++ leBytes 2 e.source.toNat ++ leBytes 2 e.suppressed ++
    leBytes 1 data.length ++ leBytes 1 payload.length ++ words ++ List.replicate (224 - words.length) 0 ++
    leBytes 2 flags ++ List.replicate 6 0

/-- Ship time in ns in words 0 and 1 of a TIME_MARK payload, its cause and its signed correction (Table 14.4). -/
def markTime (p : List (BitVec 32)) : Nat := (p.getD 0 0).toNat + 2 ^ 32 * (p.getD 1 0).toNat
def markCause (p : List (BitVec 32)) : Nat := (p.getD 5 0).toNat / 256 % 256
def markCorr (p : List (BitVec 32)) : Int := sgn 64 ((p.getD 6 0).toNat + 2 ^ 32 * (p.getD 7 0).toNat)

/-- TIME_DISCONTINUITY of a TIME_MARK record, from the ship time of the mark before it (R364). -/
def timeDiscontinuity (prev : Option (BitVec 64)) (p : List (BitVec 32)) : Bool :=
  match prev with
  | some t => decide (markTime p < t.toNat) || markCause p == MarkCause.start.code ||
      ((markCause p == MarkCause.stepApplied.code || markCause p == MarkCause.rebase.code) && decide (markCorr p < 0))
  | none => (markCause p == MarkCause.stepApplied.code || markCause p == MarkCause.rebase.code) &&
      decide (markCorr p < 0)

/-- The payload as it is recorded: of a TIME_MARK, with its flag bit 0 (R363, R364). -/
def State.recordedPayload (s : State) (e : Staged) : List (BitVec 32) :=
  if e.code.toNat = Ev.TIME_MARK then
    if timeDiscontinuity s.evr.lastMark e.payload then e.payload.set 5 (e.payload.getD 5 0 ||| 1) else e.payload
  else e.payload

/-- FLAGS of a record: CLASS, LOST and LATE_SNAP (Table 14.1), the last when it is read in a later stitch than its own. -/
def State.recordFlags (s : State) (e : Staged) (snap : List (BitVec 32)) : Nat :=
  e.cls + (if s.evr.lostFlag then 4 else 0) +
    (if !snap.isEmpty && e.late then 8 else 0)

/-- The three MRAM writes of a record and the rise of EVR_NEXT (R353), with the floor word at each multiple of 1,024
(R354). The reset between two writes that R353 speaks of is no separate step of the model. -/
def State.writeRecord (s : State) (e : Staged) (snap : List (BitVec 32)) : State :=
  let seq := s.nextSeq
  let payload := s.recordedPayload e
  let body := recordBody seq e payload snap (s.recordFlags e snap)
  let at_ := Mem.recorderSlot (seq % 32768)
  let s := s.wrLe (at_ + 252) 4 0
  let s := s.wrBytes at_ (body ++ leBytes 4 (crc32c body).toNat)
  let s := (s.wrLe (at_ + 252) 4 (validMark seq)).raiseNext (seq + 1)
  { s with evr := { s.evr with
      lostFlag := false
      lastMark := if e.code.toNat = Ev.TIME_MARK then some (BitVec.ofNat 64 (markTime payload)) else s.evr.lastMark } }

/-- Insertion of a raise in ascending SOURCE, behind those of its own. -/
def insertRaise (e : Staged) : List Staged → List Staged
  | [] => [e]
  | x :: xs => if x.source.toNat ≤ e.source.toNat then x :: insertRaise e xs else e :: x :: xs

/-- Raises that reach the unit in one interconnect cycle stand in ascending SOURCE order (R355): those staged beyond the
first n. Where a queue or a bucket runs out among them, the ones that went without are by the order of the model's steps:
the model's choice (log 132). -/
def State.orderRaises (s : State) (n : Nat) : State :=
  { s with evr := { s.evr with
      staged := s.evr.staged.take n ++ (s.evr.staged.drop n).foldl (fun l e => insertRaise e l) [] } }

/-- The oldest staged raise leaves the staging queue. -/
def State.unstage (s : State) : State :=
  { s with evr := { s.evr with staged := s.evr.staged.tail } }.setF F.EVR_STATUS_STAGED (s.evr.staged.length - 1)

/-! ### Commands -/

/-- May a code be raised from a source (R15)? No code of 0x3000 to 0x7FFF, and an application code from a core only. -/
def raisable (code source : Nat) : Bool :=
  decide (code < 0x3000) || (decide (0x8000 ≤ code) && decide (srcCore 0 ≤ source) && decide (source ≤ srcCore 7))

/-- EVENT_RAISE (R355): a raise enters the recorder unit; one that R15 excludes never arises and changes nothing. -/
def execEventRaise (code source : BitVec 16) (payload : List (BitVec 32)) (s : State) : Result :=
  .next (if raisable code.toNat source.toNat then s.access (s.raise code.toNat source.toNat (payload.map BitVec.toNat))
    else s)

/-- OP = TIME_MARK in EVR_CMD (R362): a time mark of cause MANUAL. -/
def State.timeMarkCmd (s : State) : State := s.timeMark .manual 0

/-- TIME_MARK (R362). -/
def execTimeMark (req : Requester) (s : State) : Result := s.command req F.EVR_CMD_OP s.timeMarkCmd

/-- Boundaries between two time marks at least: floor(60 s / P) (R362). -/
def State.markInterval (s : State) : Nat := if s.clock.period = 0 then 0 else 60000000000 / s.clock.period

/-- TIME_MARK_PERIODIC (R362): once floor(60 s / P) boundaries have passed since the last time mark. -/
def execTimeMarkPeriodic (s : State) : Result :=
  .next (if s.markInterval ≤ s.evr.sinceMark then s.timeMark .periodic 0 else s)

end Sys2Proof.Machine
end

