-- ==== Sys2Proof/Machine/Container.lean ====
section
/-!
DEFINITION. Pattern containers and panel assets containers: layout, and checks 1 to 5 and 8 of Table 3.7 (R57 to R62,
R67, R413).
-/

namespace Sys2Proof.Machine

/-- Result codes of PAT_RESULT (Table 3.12). -/
inductive PatCode where
  | ok | badHeader | badDirectory | sectionCrc | digest | signature | contract | station | schedule | writerConflict
  | grant | resource | olcBase | olcForbidden | state | busy | sectionVersion | prepareTimeout
  deriving DecidableEq, Repr

def PatCode.code : PatCode → Nat
  | .ok => 0
  | .badHeader => 1
  | .badDirectory => 2
  | .sectionCrc => 3
  | .digest => 4
  | .signature => 5
  | .contract => 6
  | .station => 7
  | .schedule => 8
  | .writerConflict => 9
  | .grant => 10
  | .resource => 11
  | .olcBase => 12
  | .olcForbidden => 13
  | .state => 14
  | .busy => 15
  | .sectionVersion => 16
  | .prepareTimeout => 17

/-- A failed check: its code and DETAIL. -/
abbrev Failure := PatCode × Nat

/-- The failure of the first check that fails. -/
def firstFailure : List (Unit → Option Failure) → Option Failure
  | [] => none
  | c :: cs => match c () with
    | some f => some f
    | none => firstFailure cs

/-- A check that fails with a code and DETAIL unless a condition holds. -/
def check (code : PatCode) (detail : Nat) (ok : Bool) : Option Failure := if ok then none else some (code, detail)

/-- n bytes from an offset are 0. -/
def zeroes (b : Bytes) (off n : Nat) : Bool := Bytes.isZero ((b.drop off).take n)

/-! ### Layout (Tables 3.1 to 3.3) -/

/-- Round up to a multiple of 64. -/
def align64 (n : Nat) : Nat := (n + 63) / 64 * 64

def cSections (c : Bytes) : Nat := c.u16 10
def cTotal (c : Bytes) : Nat := c.u32 12
def cEntry (c : Bytes) (i : Nat) : Bytes := (c.drop (128 + 32 * i)).take 32
def cTrailer (c : Bytes) : Bytes := (c.drop (cTotal c - 192)).take 192
def dirTyp (e : Bytes) : Nat := e.u16 0
def dirVer (e : Bytes) : Nat := e.u16 2
def dirOff (e : Bytes) : Nat := e.u32 4
def dirLen (e : Bytes) : Nat := e.u32 8
def dirCrc (e : Bytes) : Nat := e.u32 12
def dirItems (e : Bytes) : Nat := e.u32 16

/-- The parts of a container. -/
def parseContainer (c : Bytes) : Pattern :=
  ⟨c.take 128,
    (List.range (cSections c)).map (fun i =>
      let e := cEntry c i
      ⟨dirTyp e, dirItems e, (c.drop (dirOff e)).take (dirLen e)⟩),
    cTrailer c⟩

/-- Trailer of Table 3.3. -/
def trailerOk (t : Bytes) : Bool :=
  t.u32 0 == 0x47535653 && t.u16 4 == 1 && t.u16 6 == 0 && zeroes t 160 32

def trailerKeyId (t : Bytes) : Nat := t.u64 8
def trailerDigest (t : Bytes) : Bytes := (t.drop 16).take 48
def trailerR (t : Bytes) : Bytes := (t.drop 64).take 48
def trailerS (t : Bytes) : Bytes := (t.drop 112).take 48

/-- Items of a section type: how many it must hold (none: any), their size, whether a heap may follow (Table 3.4). -/
def sectionShape (typ : Nat) : Option (Option Nat × Nat × Bool) :=
  match typ with
  | 1 => some (some 1, 64, false)
  | 2 => some (some 29, 16, true)
  | 3 => some (some 40, 16, true)
  | 4 => some (none, 16, true)
  | 5 => some (some 128, 32, true)
  | 6 => some (some 256, 128, false)
  | 7 => some (some 8, 64, true)
  | 8 => some (some 56, 32, false)
  | 9 => some (none, 32, true)
  | 10 => some (none, 32, true)
  | 11 => some (none, 16, false)
  | 12 => some (none, 128, false)
  | 13 => some (some 1, 256, true)
  | 14 => some (some 1, 32, false)
  | 15 => some (none, 8, false)
  | 16 => some (none, 32, true)
  | _ => none

/-- Section types every Pattern holds (R62). -/
def requiredSections (paired : Bool) : List Nat := [1, 2, 3, 4, 5, 8, 9] ++ (if paired then [11] else []) ++ [14, 16]

/-- ITEMS and LENGTH of a directory entry agree with a shape. -/
def shapeOk (e : Bytes) (sh : Option Nat × Nat × Bool) : Bool :=
  (match sh.1 with
   | some n => dirItems e == n
   | none => true) &&
  (if sh.2.2 then decide (dirItems e * sh.2.1 ≤ dirLen e) else dirLen e == dirItems e * sh.2.1)

/-- End of the section before entry i, or of the directory. -/
def prevEnd (c : Bytes) (i : Nat) : Nat :=
  if i = 0 then 128 + 32 * cSections c else dirOff (cEntry c (i - 1)) + dirLen (cEntry c (i - 1))

/-- Layout of entry i under R58, within the container. -/
def entryPlaced (c : Bytes) (i : Nat) : Bool :=
  let e := cEntry c i
  dirOff e == align64 (prevEnd c i) && decide (dirOff e + dirLen e ≤ cTotal c - 192) &&
    (i == 0 || decide (dirTyp (cEntry c (i - 1)) < dirTyp e)) &&
    (i + 1 != cSections c || align64 (dirOff e + dirLen e) == cTotal c - 192) && zeroes e 20 12

/-! ### Checks 1 to 5 and 8 of Table 3.7 -/

/-- Check 1, for a MAGIC, the reserved bytes of the header and the greatest TOTAL_LEN. -/
def headerOk (c : Bytes) (magic : Nat) (reserved : Bool) (maxLen : Nat) : Bool :=
  c.u32 0 == magic && c.u16 4 == 1 && c.u16 6 == 128 && c.u32 124 == (crc32c (c.take 124)).toNat && reserved &&
    cTotal c % 64 == 0 && decide (cTotal c ≤ maxLen) &&
    decide (128 + 32 * cSections c + 192 ≤ cTotal c) && trailerOk (cTrailer c)

/-- Reserved parts of a Pattern header (Table 3.1). -/
def patHeaderReserved (c : Bytes) : Bool :=
  zeroes c 80 40 && decide (c.u16 34 < 8) && decide (c.u16 32 < 4096)

/-- Check 2 on the directory CRC, the entries and the required sections; `shape` gives each type its items. That the
entries come before a missing section is the model's choice (log 16). -/
def checkDirectory (c : Bytes) (shape : Nat → Option (Option Nat × Nat × Bool)) (required : List Nat) :
    Option Failure :=
  firstFailure [
    fun _ => check .badDirectory 0 (c.u32 120 == (crc32c ((c.drop 128).take (32 * cSections c))).toNat),
    fun _ => ((List.range (cSections c)).find? (fun i =>
      !(entryPlaced c i && ((shape (dirTyp (cEntry c i))).map (shapeOk (cEntry c i))).getD false))).map
        (fun i => (.badDirectory, i)),
    fun _ => (required.find? (fun t => !((List.range (cSections c)).any (fun i => dirTyp (cEntry c i) == t)))).map
      (fun t => (.badDirectory, 0x100 + t))]

/-- CHECK_VALUE equals the CRC of the SELVEDGE section, or is 0 without one (R61). -/
def checkValueOk (c : Bytes) : Bool :=
  match (List.range (cSections c)).find? (fun i => dirTyp (cEntry c i) == Pattern.SELVEDGE) with
  | some i => c.u32 36 == dirCrc (cEntry c i)
  | none => c.u32 36 == 0

/-- Bytes lo up to hi are padding. -/
def padded (c : Bytes) (lo hi : Nat) : Bool := zeroes c lo (hi - lo)

/-- Check 3: paddings and section CRCs in order. -/
def checkSections (c : Bytes) : Option Failure :=
  let n := cSections c
  firstFailure (
    (fun _ => check .sectionCrc (dirTyp (cEntry c 0)) (padded c (128 + 32 * n) (dirOff (cEntry c 0)))) ::
    (List.range n).flatMap (fun i =>
      let e := cEntry c i
      let next := if i + 1 = n then cTotal c - 192 else dirOff (cEntry c (i + 1))
      [fun _ => check .sectionCrc (dirTyp e) (dirCrc e == (crc32c ((c.drop (dirOff e)).take (dirLen e))).toNat),
       fun _ => check .sectionCrc (dirTyp e) (padded c (dirOff e + dirLen e) next)]))

/-- Check 4. -/
def checkDigest (c : Bytes) : Option Failure :=
  check .digest 0 (trailerDigest (cTrailer c) == sha384 (c.take (cTotal c - 192)))

/-- Check 5, under the owner key, if one is enrolled (R60). -/
def checkSignature (c : Bytes) (owner : Option Bytes) : Option Failure :=
  check .signature 0 (match owner with
    | none => false
    | some k => trailerKeyId (cTrailer c) == keyId k &&
        verifySig k (trailerDigest (cTrailer c)) (trailerR (cTrailer c)) (trailerS (cTrailer c)))

/-- Check 8: every section is of version 1. -/
def checkVersions (c : Bytes) : Option Failure :=
  ((List.range (cSections c)).find? (fun i => dirVer (cEntry c i) != 1)).map
    (fun i => (.sectionVersion, dirTyp (cEntry c i)))

/-- Checks 1 to 5 of a Pattern container, at most `maxLen` bytes long. -/
def checkPatternContainer (c : Bytes) (maxLen : Nat) (owner : Option Bytes) : Option Failure :=
  firstFailure [
    fun _ => check .badHeader 0 (headerOk c 0x54505653 (patHeaderReserved c) (min maxLen 0x2000000)),
    fun _ => checkDirectory c sectionShape (requiredSections (bitOf (c.u16 34) 1)),
    fun _ => check .badDirectory 0 (checkValueOk c),
    fun _ => checkSections c,
    fun _ => checkDigest c,
    fun _ => checkSignature c owner]

/-! ### Panel assets (R367, R413) -/

/-- Every byte of a panel assets header that is not used is 0. -/
def assetsHeaderReserved (c : Bytes) : Bool :=
  c.u16 8 == 0 && zeroes c 16 104

/-- Sections of Table 15.1: one of each, without items. -/
def assetsShape (typ : Nat) : Option (Option Nat × Nat × Bool) :=
  if 1 ≤ typ ∧ typ ≤ 7 then some (none, 0, true) else none

/-- Panel assets taken apart: the geometry, VCOM in mV, the waveform table, the trim map, the region offsets, the
fallback temperature. The byte layout of geometry (W and H, 16 bits each) and of VCOM (16 bits) is DEDUCED from the PANEL
item (log 98). -/
def asPart (a : Pattern) (t : Nat) : Bytes := a.bytes t
def asW (a : Pattern) : Nat := (asPart a 1).u16 0
def asH (a : Pattern) : Nat := (asPart a 1).u16 2
def asVcom (a : Pattern) : Int := sgn 16 ((asPart a 2).u16 0)
def asRanges (a : Pattern) : Nat := (asPart a 3).u8 0
def asBound (a : Pattern) (k : Nat) : Int := sgn 8 ((asPart a 3).u8 (1 + k))
def asWave (a : Pattern) (range entry : Nat) : Nat := Bytes.leAt (asPart a 3) (64 + 16 * (257 * range + entry)) 16
def asTrim (a : Pattern) (pixel : Nat) : Int :=
  sgn 4 (if pixel % 2 = 0 then (asPart a 4).u8 (pixel / 2) % 16 else (asPart a 4).u8 (pixel / 2) / 16)
def asOffset (a : Pattern) (region : Nat) : Int := sgn 8 ((asPart a 5).u8 region)
def asFallback (a : Pattern) : Int := sgn 8 ((asPart a 6).u8 0)

/-- LEN of a waveform: the index of its first end code (R368); 64 if it has none. -/
def waveLen (w : Nat) : Nat := ((List.range 64).find? (fun f => w / 4 ^ f % 4 == 3)).getD 64

/-- The ranges of Table 15.1 and R368. -/
def assetsContentOk (a : Pattern) : Bool :=
  decide (256 ≤ asW a) && decide (asW a ≤ 1600) && asW a % 16 == 0 && decide (200 ≤ asH a) && decide (asH a ≤ 1200) &&
    decide (-3000 ≤ asVcom a) && decide (asVcom a ≤ -500) &&
    decide (1 ≤ asRanges a) && decide (asRanges a ≤ 16) &&
    (List.range (asRanges a)).all (fun k => decide (asBound a k < asBound a (k + 1))) &&
    decide (64 + 16 * 257 * asRanges a ≤ (asPart a 3).length) &&
    (List.range (asRanges a)).all (fun r => (List.range 257).all (fun e =>
      let l := waveLen (asWave a r e)
      decide (1 ≤ l) && decide (l ≤ 56) && (List.range (64 - l)).all (fun f => asWave a r e / 4 ^ (l + f) % 4 == 3))) &&
    (asPart a 4).length == asW a * asH a / 2 && (asPart a 5).length == 64 && decide (1 ≤ (asPart a 6).length)

/-- The checks of a panel assets container under the owner key; the content counts as its format. -/
def checkAssets (c : Bytes) (owner : Option Bytes) : Option Failure :=
  firstFailure [
    fun _ => check .badHeader 0 (headerOk c 0x41505653 (assetsHeaderReserved c) 0x400000),
    fun _ => checkDirectory c assetsShape [1, 2, 3, 4, 5, 6, 7],
    fun _ => checkSections c,
    fun _ => checkDigest c,
    fun _ => checkSignature c owner,
    fun _ => check .badHeader 0 (assetsContentOk (parseContainer c))]

end Sys2Proof.Machine
end

