-- ==== Sys2Proof/Machine/LoopOps.lean ====
section
/-!
DEFINITION. The loop engine's configuration, store and bank checks, one sample of a channel, and the Bobbin
(R135 to R167).
-/

namespace Sys2Proof.Machine

/-! ### LOOPS items (Table 6.1) -/

variable (p : Pattern)

def Pattern.loop (c : Nat) : Bytes := p.item Pattern.LOOPS 128 c
def lpFlag (it : Bytes) (k : Nat) : Bool := bitOf (it.u16 0) k
def lpUsed (it : Bytes) : Bool := lpFlag it 0
def lpConditional (it : Bytes) : Bool := lpFlag it 1
def lpBanked (it : Bytes) : Bool := lpFlag it 2
def lpSpRate (it : Bytes) : Bool := lpFlag it 3
def lpOutLimit (it : Bytes) : Bool := lpFlag it 4
def lpAw (it : Bytes) : Nat := bitsOf (it.u16 0) 6 5
def lpFfSupply (it : Bytes) : Bool := lpFlag it 7
def lpFfAccel (it : Bytes) : Bool := lpFlag it 8
def lpDOnMeas (it : Bytes) : Bool := lpFlag it 9
def lpTraceable (it : Bytes) : Bool := lpFlag it 10
def lpInjectable (it : Bytes) : Bool := lpFlag it 11
def lpSubstHold (it : Bytes) : Bool := lpFlag it 12
def lpLimitEvent (it : Bytes) : Bool := lpFlag it 13
def lpInitHeld (it : Bytes) : Bool := lpFlag it 14
def lpWarmKeep (it : Bytes) : Bool := lpFlag it 15
def lpBlock (it : Bytes) : Nat := it.u8 2
def lpLane (it : Bytes) : Nat := it.u8 3
def lpSample (it : Bytes) : Nat := it.u16 4
def lpPhase (it : Bytes) : Nat := it.u16 6

/-- Descriptor k of an item: 0 Y_SRC, 1 SP_SRC, 2 VDC_SRC, 3 ACC_SRC, 4 DEST (R140). -/
def lpDesc (it : Bytes) (k : Nat) : Bytes := (it.drop (8 + 8 * k)).take 8
def descKind (d : Bytes) : Nat := d.u8 0
def descIdx (d : Bytes) : Nat := d.u8 1
def descOff (d : Bytes) : Nat := d.u32 4
def lpBank (it : Bytes) : Bytes := (it.drop 48).take 80

/-- A channel is due at a seam position (R136). -/
def lpDue (it : Bytes) (pos : Nat) : Bool :=
  lpPhase it ≤ pos && lpSample it != 0 && (pos - lpPhase it) % lpSample it == 0 ||
    pos < lpPhase it && lpSample it != 0 && (lpPhase it - pos) % lpSample it == 0

/-- Is the channel a NEXT target? -/
def Pattern.nextTarget (c : Nat) : Bool :=
  (List.range 256).any (fun j => lpUsed (p.loop j) && descKind (lpDesc (p.loop j) 4) == 2 &&
    descIdx (lpDesc (p.loop j) 4) == c)

/-- The full cost of a channel (R150). -/
def lpCost (it : Bytes) : Nat :=
  (match lpBlock it with
   | 0 => 40
   | 1 => 52
   | 2 => 32
   | _ => 56) + (if lpSpRate it then 6 else 0) + (if lpOutLimit it then 8 else 0) +
  (if lpAw it = 1 then 4 else if lpAw it = 2 then 10 else 0) + (if lpFfSupply it then 18 else 0) +
  (if lpFfAccel it then 6 else 0) +
  ((List.range 4).map (fun k => if 2 ≤ descKind (lpDesc it k) then 24 else 0)).sum +
  (match descKind (lpDesc it 4) with
   | 2 => 4
   | 3 => 8
   | 5 => 12
   | 6 => 12
   | _ => 0) + (if lpTraceable it then 4 else 0) + (if lpInjectable it then 6 else 0) + (if lpBanked it then 2 else 0)

/-! ### Channel store (Table 6.14) -/

variable (s : State)

def State.lpWord (c off : Nat) : Nat := s.rdLe (Mem.loopStore c + off) 4
def State.setLpWord (c off v : Nat) : State := s.engStore (Mem.loopStore c + off) (leBytes 4 v)
def State.lpCoef (c b k : Nat) : Nat := s.lpWord c (0x40 + 0x50 * b + 4 * k)
def State.lpCh (c : Nat) : LoopCh := Store.get (fun _ => LoopCh.fresh) s.lpe.ch c
def State.setLpCh (c : Nat) (x : LoopCh) : State :=
  { s with lpe := { s.lpe with ch := Store.set (fun _ => LoopCh.fresh) s.lpe.ch c x } }

/-- Modes of Table 6.7 as LPE_CHn_STATUS codes them. -/
def lpClosed : Nat := 0
def lpHeld : Nat := 1
def lpFaulted : Nat := 2
def lpUnused : Nat := 3
def State.lpMode (c : Nat) : Nat := s.getF (F.LPE_CH_STATUS_MODE c)
def State.lpActive (c : Nat) : Nat := s.getF (F.LPE_CH_STATUS_BANK c)

/-- MODE and active bank, also in the mode word of the store. -/
def State.setLpMode (c mode bank : Nat) : State :=
  ((s.setF (F.LPE_CH_STATUS_MODE c) mode).setF (F.LPE_CH_STATUS_BANK c) bank).setLpWord c 0x24 (mode + 4 * bank)

/-- State words of a channel: I is binary64, the others binary32. -/
structure LoopVars where
  i : Nat
  d : Nat
  dPrev : Nat
  rPrev : Nat
  uPrev : Nat
  s1 : Nat
  s2 : Nat
  uh : Nat

def State.lpVars (c : Nat) : LoopVars :=
  ⟨s.rdLe (Mem.loopStore c) 8, s.lpWord c 0x08, s.lpWord c 0x0C, s.lpWord c 0x10, s.lpWord c 0x14, s.lpWord c 0x18,
    s.lpWord c 0x1C, s.lpWord c 0x20⟩

def State.setLpVars (c : Nat) (v : LoopVars) : State :=
  s.engStore (Mem.loopStore c) (leBytes 8 v.i ++ leBytes 4 v.d ++ leBytes 4 v.dPrev ++ leBytes 4 v.rPrev ++
    leBytes 4 v.uPrev ++ leBytes 4 v.s1 ++ leBytes 4 v.s2 ++ leBytes 4 v.uh)

/-! ### Bank validity (R142, Table 6.5) -/

def f32One : Nat := 0x3F800000
def fAdd (a b : Nat) : Nat := (f32.add a b).1
def fSub (a b : Nat) : Nat := (f32.sub a b).1
def fMul (a b : Nat) : Nat := (f32.mul a b).1
def fDiv (a b : Nat) : Nat := (f32.div a b).1
def fFma (a b c : Nat) : Nat := (f32.fma a b c).1
def fNeg (a : Nat) : Nat := f32.fneg a
def fMin (a b : Nat) : Nat := (f32.fmin a b).1
def fMax (a b : Nat) : Nat := (f32.fmax a b).1
def fIsZero (a : Nat) : Bool := f32.eq a 0

/-- Words of a bank that a channel's block and options use. -/
def lpUsedWord (it : Bytes) (k : Nat) : Bool :=
  (match lpBlock it with
   | 0 => k < 4
   | 1 => k < 6
   | 2 => k < 3
   | _ => k < 7) ||
  (lpSpRate it && (k == 8 || k == 9)) || (lpOutLimit it && (k == 10 || k == 11 || k == 12 || k == 13)) ||
  (lpAw it == 2 && k == 14) || (lpFfAccel it && k == 15) || (lpFfSupply it && (k == 16 || k == 17)) || k == 18

/-- The conditions of Table 6.5 on a bank's 80 bytes. -/
def bankValid (it bank : Bytes) : Bool :=
  let w := fun k => bank.u32 (4 * k)
  w 19 == (crc32c (bank.take 76)).toNat &&
  (List.range 19).all (fun k => if lpUsedWord it k then f32.isFinite (w k) else w k == 0) &&
  (lpBlock it > 1 || (f32.le 0 (w 3) && f32.lt (w 3) f32One)) &&
  (lpBlock it != 2 || f32.lt (f32.fabs (w 2)) f32One) &&
  (lpBlock it != 3 || (f32.lt (f32.fabs (w 6)) f32One && f32.lt (f32.fabs (w 5)) (fAdd f32One (w 6)) &&
    !fIsZero (fAdd (fAdd (w 2) (w 3)) (w 4)))) &&
  (!lpOutLimit it || (f32.lt (w 10) (w 11) && f32.le (w 10) (w 18) && f32.le (w 18) (w 11) && f32.lt 0 (w 12) &&
    f32.lt 0 (w 13))) &&
  (!lpSpRate it || (f32.lt 0 (w 8) && f32.lt 0 (w 9))) &&
  (lpAw it != 2 || (f32.lt 0 (w 14) && f32.le (w 14) f32One)) &&
  (!lpFfSupply it || (f32.lt 0 (w 16) && f32.lt 0 (w 17)))

def State.lpBankBytes (c b : Nat) : Bytes := s.rdBytes (Mem.loopStore c + 0x40 + 0x50 * b) 80
def State.lpBankValid (it : Bytes) (c b : Nat) : Bool := bankValid it (s.lpBankBytes c b)

/-! ### Loading and restart (R139, R142, R158) -/

/-- A channel loaded from its LOOPS item: banks, states 0, mode (R158). -/
def State.lpLoadStore (c : Nat) : State :=
  let it := p.loop c
  let s := s.clearRange (Mem.loopStore c) 0xE0
  let s := s.eccClearWords (Mem.loopStore c) 0xE0
  if lpUsed it then
    let s := s.wrBytes (Mem.loopStore c + 0x40) (lpBank it)
    if lpBanked it then s.wrBytes (Mem.loopStore c + 0x90) (lpBank it) else s
  else s

/-- A channel with its store loaded begins: its mode, its status and u_prev (R158); one that is unused stops. -/
def State.lpEnter (c : Nat) : State :=
  let it := p.loop c
  if lpUsed it then
    let ok := s.lpBankValid it c 0
    let s := s.setR (F.LPE_CH_STATUS_MODE c).addr 0
    let s := s.setB (F.LPE_CH_STATUS_COEF_BAD c) (!ok)
    let s := s.setLpMode c (if ok && !(lpInitHeld it) then lpClosed else lpHeld) 0
    let s := s.setLpWord c 0x20 (s.lpCoef c 0 18)
    s.setLpCh c { s.lpCh c with closing := true, fromPrev := false, last := Vector.replicate 4 0#32 }
  else
    ((s.setR (F.LPE_CH_STATUS_MODE c).addr 0).setF (F.LPE_CH_STATUS_MODE c) lpUnused).setLpCh c LoopCh.fresh

/-- A channel's store is loaded and the channel begins. -/
def State.lpLoad (c : Nat) : State := (s.lpLoadStore p c).lpEnter p c

/-- A channel at a warm restart with WARM_KEEP whose store was kept (R158). -/
def State.lpKeeps (c : Nat) : Bool :=
  let it := p.loop c
  lpUsed it && lpWarmKeep it && (s.lpCh c).gen == some p.generation

/-- Restart of every channel (R158). -/
def State.lpRestart (warm : Bool) : State :=
  let s := (List.range 256).foldl (fun s c => if warm && s.lpKeeps p c then s.setF (F.LPE_CH_STATUS_SAMPLES c) 0
    else s.lpLoad p c) s
  (List.range 8).foldl (fun s k => s.setF (F.LPE_COND_RUN k) 0xFFFFFFFF) s

/-! ### The generator (R167) -/

/-- floor(pi / 2 times 2^140). -/
def piHalf : Nat := 2189370540165051899616625404235511364199712

/-- Taylor sum: adds the terms after `t`, each −t a² / (n (n + 1)), in units of 2^-140. -/
def taylor : Nat → Int → Int → Nat → Int
  | 0, _, _, _ => 0
  | fuel + 1, t, a2, n =>
    let t' := -(t * a2) / ((2 ^ 140 : Int) * (n * (n + 1)))
    t' + taylor fuel t' a2 (n + 2)

/-- The correctly rounded binary32 of sin(2 pi k / 2^24). -/
def sinBits (k : Nat) : Nat :=
  let q := k % 2 ^ 24 / 2 ^ 22
  let a : Int := ((k % 2 ^ 22) * piHalf / 2 ^ 22 : Nat)
  let a2 := a * a / 2 ^ 140
  let v := if q % 2 = 0 then a + taylor 24 a a2 2 else 2 ^ 140 + taylor 24 (2 ^ 140) a2 1
  (f32.round (2 ≤ q && v != 0) v.natAbs (-140)).1

/-- sn(p) of R167. -/
def sn (ph : Nat) : Nat := sinBits (ph % 2 ^ 32 / 256)

/-! ### The Bobbin (R163 to R166) -/

def State.bobArea (j : Nat) : BobArea := Store.get (fun _ => BobArea.fresh) s.lpe.areas j
def State.setBobArea (j : Nat) (x : BobArea) : State :=
  { s with lpe := { s.lpe with areas := Store.set (fun _ => BobArea.fresh) s.lpe.areas j x } }

/-- Channels of the capture set as the registers hold it: the enabled entries. -/
def State.bobSet : List Nat := (List.range 16).filter (fun j => s.isSet (F.LPE_BOB_SET_EN j))

/-- The set and the settings as the registers hold them; ARM fixes them (R164). -/
def State.bobCfg : BobCfg where
  set := s.bobSet.map (fun j => (s.getF (F.LPE_BOB_SET_CHANNEL j), s.isSet (F.LPE_BOB_SET_INJ j)))
  type := s.getF F.LPE_BOB_GEN_TYPE
  point := s.getF F.LPE_BOB_GEN_POINT
  hold := max 1 (s.getF F.LPE_BOB_GEN_HOLD)
  amp := s.getF F.LPE_BOB_AMP_VALUE
  f0 := s.getF F.LPE_BOB_F0_VALUE
  df := s.getF F.LPE_BOB_DF_VALUE
  len := s.getF F.LPE_BOB_LEN_VALUE
  decim := max 1 (s.getF F.LPE_BOB_CTRL_DECIM)
  ring := s.isSet F.LPE_BOB_CTRL_MODE

def State.bobState : Nat := s.getF F.LPE_BOB_STATUS_STATE

/-- The area of a channel of the fixed set, from the start stitch on. -/
def State.bobArea? (c : Nat) : Option Nat :=
  if s.lpe.startN ≤ s.clock.refN then s.lpe.cfg.set.findIdx? (fun e => e.1 == c) else none

/-- The area of a channel that captures in this stitch. -/
def State.bobOf (c : Nat) : Option Nat := if s.bobState = 1 ∨ s.bobState = 2 then s.bobArea? c else none

/-- The areas whose channels are injected. -/
def BobCfg.injected (x : BobCfg) : List Nat := (List.range x.set.length).filter (fun j => (x.set.getD j (0, false)).2)

/-- Injection ends for every channel (R165). -/
def State.endInjection (why : Nat) : State :=
  if s.lpe.injOn then
    ({ s with lpe := { s.lpe with injOn := false } }.setF F.LPE_BOB_STATUS_INJ_ACTIVE 0).raise Ev.INJECTION_ENDED
      (srcLoopOf Ev.INJECTION_ENDED) [why]
  else s

/-- The injected value of an area's next sample (R167). -/
def State.injValue (x : BobArea) : Nat :=
  let amp := s.lpe.cfg.amp
  if s.lpe.cfg.len ≤ x.inj then 0
  else match s.lpe.cfg.type with
    | 0 => amp
    | 1 => if x.prbs % 2 = 1 then amp else fNeg amp
    | _ => fMul amp (sn x.phase)

/-- The generator after an injected sample. -/
def State.injNext (x : BobArea) : BobArea :=
  let k := x.inj
  let g := s.lpe.cfg
  let b := (x.prbs / 2 ^ 14 + x.prbs / 2 ^ 13) % 2
  let prbs := if (k + 1) % g.hold = 0 then (x.prbs * 2 + b) % 2 ^ 15 else x.prbs
  let df := if g.type = 3 then g.df else 0
  { x with inj := k + 1, prbs := prbs, phase := (x.phase + g.f0 + k * df) % 2 ^ 32 }

/-- Records of an area: floor(32,768 / n) (R166). -/
def State.bobAreaLen : Nat := 32768 / max 1 s.lpe.cfg.set.length

/-- The capture ends (R166). -/
def State.bobDone (st : Nat) : State :=
  (s.setF F.LPE_BOB_STATUS_STATE st).raise Ev.BOBBIN_DONE (srcLoopOf Ev.BOBBIN_DONE) [(s.bobArea 0).records]

/-- A captured channel's record at its commit (R166, Table 6.9). -/
def State.bobRecord (c flags : Nat) (words : List Nat) : State :=
  match s.bobOf c with
  | none => s
  | some j =>
    let s := if s.bobState = 1 then s.setF F.LPE_BOB_STATUS_STATE 2 else s
    let x := s.bobArea j
    let a := s.bobAreaLen
    let ring := s.lpe.cfg.ring
    let next := s.getF (F.LPE_BOB_WR_NEXT j)
    let take := x.samples % s.lpe.cfg.decim = 0 && (ring || next < a)
    let s := s.setBobArea j { x with started := true, samples := x.samples + 1, records := x.records + if take then 1 else 0 }
    if take then
      let w0 := s.clock.stitch.toNat % 2 ^ 24 + 2 ^ 24 * flags
      let s := s.load (Mem.bobbin + (j * a + next) * 32) ((w0 :: words).flatMap (leBytes 4))
      let s := if ring && next + 1 = a then (s.setF (F.LPE_BOB_WR_NEXT j) 0).setF (F.LPE_BOB_WR_WRAPPED j) 1
        else s.setF (F.LPE_BOB_WR_NEXT j) (next + 1)
      if !ring && (List.range s.lpe.cfg.set.length).all (fun i => s.getF (F.LPE_BOB_WR_NEXT i) == a) then s.bobDone 3
      else s
    else s

/-! ### One sample (R144) -/

/-- A source's value: (value, valid, state) (R140, R147). -/
def State.lpFetch (c k : Nat) (d : Bytes) : Nat × Bool × State :=
  match descKind d with
  | 1 => (s.lpWord c (0xE0 + 4 * k), true, s)
  | 4 =>
    (s.rdLe (Mem.shared + descOff d) 4, bitOf (s.rdByte (Mem.shared + descOff d + 4)).toNat 0,
      s.engRead (Mem.shared + descOff d) 5)
  | 5 => (s.rdLe (Mem.shared + descOff d) 4, true, s.engRead (Mem.shared + descOff d) 4)
  | 6 =>
    match s.queueTake p (descIdx d) with
    | (some e, s) =>
      let v := Bytes.le (e.take 4)
      let x := s.lpCh c
      (v, true, s.setLpCh c { x with last := x.last.setIfInBounds k (BitVec.ofNat 32 v) })
    | (none, s) => (((s.lpCh c).last.toList.getD k 0#32).toNat, false, s)
  | _ => (0, true, s)

/-- The destination is written (Table 6.2). -/
def State.lpWrite (it : Bytes) (u : Nat) : State :=
  let d := lpDesc it 4
  match descKind d with
  | 2 => s.setLpWord (descIdx d) 0xE4 u
  | 3 => s.cloSet p (descIdx d) u
  | 5 => s.engStore (Mem.shared + descOff d) (leBytes 4 u)
  | 6 => (s.queueStore p (descIdx d) (leBytes 4 u ++ List.replicate (p.queueSize (descIdx d) - 4) 0#8)).2
  | _ => s

/-- I + a × b with an exact product and one rounding (R143). -/
def lpAcc (i a b : Nat) : Nat := (f64.fma (f32.convert f64 a).1 (f32.convert f64 b).1 i).1
def lpF (i : Nat) : Nat := (f64.convert f32 i).1
def lpWide (a : Nat) : Nat := (f32.convert f64 a).1

/-- What a block computes: v_c, the new states, the P node and the D node of Table 6.9. -/
structure BlockOut where
  vc : Nat
  st : LoopVars
  pNode : Nat
  dNode : Nat

/-- The block equations of Table 6.4; `w` reads the active bank, `integ` is the integrator update under R145. -/
def lpBlockOut (it : Bytes) (w : Nat → Nat) (v : LoopVars) (satHi satLo : Bool) (e r y : Nat) : BlockOut :=
  let kie := fMul (w 1) e
  let blocked := lpAw it == 1 && ((satHi && f32.lt 0 kie) || (satLo && f32.lt kie 0))
  let i := if blocked then v.i else lpAcc v.i (w 1) e
  let deriv (d : Nat) : Nat := fFma (w 3) v.d (fMul (w 2) (fSub d v.dPrev))
  match lpBlock it with
  | 0 =>
    let pn := fMul (w 0) e
    let d := if lpDOnMeas it then fNeg y else e
    let dd := deriv d
    ⟨fAdd (fAdd pn (lpF i)) dd, { v with i := i, d := dd, dPrev := d }, pn, dd⟩
  | 1 =>
    let pn := fMul (w 0) (fSub (fMul (w 4) r) y)
    let d := fSub (fMul (w 5) r) y
    let dd := deriv d
    ⟨fAdd (fAdd pn (lpF i)) dd, { v with i := i, d := dd, dPrev := d }, pn, dd⟩
  | 2 =>
    let vc := fFma (w 0) e v.s1
    ⟨vc, { v with s1 := fFma (fNeg (w 2)) vc (fMul (w 1) e) }, fMul (w 0) e, v.s1⟩
  | _ =>
    let ww := fFma (w 0) e (lpF i)
    let n := fFma (w 2) ww v.s1
    let s1 := fAdd (fFma (fNeg (w 5)) n (fMul (w 3) ww)) v.s2
    let s2 := fFma (fNeg (w 6)) n (fMul (w 4) ww)
    ⟨n, { v with i := i, s1 := s1, s2 := s2 }, fMul (w 0) e, fSub n ww⟩

/-- Bumpless initialisation (Table 6.8). -/
def lpBumpless (it : Bytes) (w : Nat → Nat) (v : LoopVars) (y r vdc acc : Nat) : LoopVars :=
  let e := fSub r y
  let x := v.uh
  let x := if lpFfSupply it then fDiv (fMul x (fMax vdc (w 17))) (w 16) else x
  let x := if lpFfAccel it then fFma (fNeg (w 15)) acc x else x
  let v := { v with rPrev := r, uPrev := v.uh }
  match lpBlock it with
  | 0 =>
    { v with d := 0, dPrev := (if lpDOnMeas it then fNeg y else e), i := lpWide (fSub x (fMul (w 0) e)) }
  | 1 =>
    { v with
      d := 0
      dPrev := fSub (fMul (w 5) r) y
      i := lpWide (fSub x (fMul (w 0) (fSub (fMul (w 4) r) y))) }
  | 2 => { v with s1 := fFma (fNeg (w 0)) e x }
  | _ =>
    let g0 := fDiv (fAdd (fAdd (w 2) (w 3)) (w 4)) (fAdd (fAdd f32One (w 5)) (w 6))
    let ww := fDiv x g0
    let s2 := fFma (fNeg (w 6)) x (fMul (w 4) ww)
    { v with
      i := lpWide (fFma (fNeg (w 0)) e ww)
      s2 := s2
      s1 := fAdd (fFma (fNeg (w 5)) x (fMul (w 3) ww)) s2 }

/-- Record flags of Table 6.9, bits 31:24. -/
def recFlags (held satLo satHi rate srcInv numeric inj closing : Bool) : Nat :=
  [held, satLo, satHi, rate, srcInv, numeric, inj, closing].zipIdx.foldl (fun a b => a + if b.1 then 2 ^ b.2 else 0) 0

/-- Every executed sample: counted, and its generation noted. -/
def State.lpCounted (c : Nat) : State :=
  (s.incWrap (F.LPE_CH_STATUS_SAMPLES c)).setLpCh c { s.lpCh c with gen := some p.generation }

/-- A HELD sample: u_h is written, no state changes (R144, Table 6.7). -/
def State.lpHeldSample (c : Nat) (it : Bytes) (srcInv : Bool) : State :=
  let u := s.lpWord c 0x20
  let s := s.setF (F.LPE_CH_STATUS_RATE_LIM c) 0
  (((s.lpCounted p c).bobRecord c (recFlags true false false false srcInv false false false)
    [0, 0, 0, 0, 0, 0, u]).lpWrite p it u)

/-- NUMERIC: the sample commits nothing and the value is written (R148). -/
def State.lpNumeric (c : Nat) (it : Bytes) (u : Nat) (rec : State → State) : State :=
  let s := s.setF (F.LPE_CH_STATUS_NUMERIC c) 1
  ((rec (s.lpCounted p c)).lpWrite p it u).raise Ev.LOOP_NUMERIC (srcLoop c) [c]

/-! ### Words that a sample reads (R160) -/

/-- The loop engine reads words of a channel's store, up to the first uncorrectable one: its index in the array. -/
def State.lpRead (c : Nat) (ws : List Nat) : Option Nat × State :=
  ws.foldl (fun r k => if r.1.isSome then r else
    match r.2.eccReadWord (Mem.loopStore c + 8 * k) 2 with
    | (true, s) => (some (c * 128 + k), s)
    | (false, s) => (none, s)) (none, s)

/-- A channel whose store cannot be read is FAULTED, a command in the midst of it ends (R160); the mode word that lies
beside an uncorrectable u_h is left. -/
def State.lpFault (c word : Nat) : State :=
  let s := if word % 128 = 4 then s.setF (F.LPE_CH_STATUS_MODE c) lpFaulted else s.setLpMode c lpFaulted (s.lpActive c)
  s.raise Ev.LOOP_FAULTED (srcLoop c) [c, word]

/-- After a read of words: the rest, or FAULTED. -/
def State.lpReading (c : Nat) (ws : List Nat) (f : State → State) : State :=
  match s.lpRead c ws with
  | (some k, s) => s.lpFault c k
  | (none, s) => f s

/-- u_h := u_prev, and the sample is a closing one. -/
def State.lpToPrev (c : Nat) : State :=
  s.lpReading c [2] (fun s =>
    (s.setLpWord c 0x20 (s.lpWord c 0x14)).setLpCh c { s.lpCh c with closing := true, fromPrev := false })

/-- The next due sample of a CLOSED channel is a closing one with u_h = u_prev; its states stay (R159). DEDUCED: also
where a closing sample was pending (log 35). -/
def State.lpLeftOut (c : Nat) : State :=
  if s.lpMode c = lpClosed then s.setLpCh c { s.lpCh c with closing := true, fromPrev := true } else s

/-- A closing sample (R154): bumpless states, then u_h is written. With a source that is not finite, or an integrator
that is not, it commits nothing and writes u_prev (R148), which it reads for that (R160). -/
def State.lpClosingSample (c : Nat) (it : Bytes) (w : Nat → Nat) (y r vdc acc : Nat) (srcInv : Bool) : State :=
  let v := s.lpVars c
  let v' := lpBumpless it w v y r vdc acc
  let fl (n : Bool) : Nat := recFlags false false false false srcInv n false true
  if [y, r, vdc, acc].all f32.isFinite && (lpBlock it == 2 || f64.isFinite v'.i) then
    let s := (s.eccClearWords (Mem.loopStore c) 0x40).setLpVars c v'
    let s := ((s.setF (F.LPE_CH_STATUS_SAT_HI c) 0).setF (F.LPE_CH_STATUS_SAT_LO c) 0).setF (F.LPE_CH_STATUS_RATE_LIM c) 0
    let s := s.setLpCh c { s.lpCh c with closing := false }
    ((s.lpCounted p c).bobRecord c (fl false) [0, 0, 0, 0, 0, 0, v.uh]).lpWrite p it v.uh
  else s.lpReading c [2] (fun s =>
    s.lpNumeric p c it v.uPrev (fun s => s.bobRecord c (fl true) [0, 0, 0, 0, 0, 0, v.uPrev]))

/-- The area and the injected value of this sample (R163). Injection does not depend on the capture: it goes on when a
one-shot capture is DONE, until LEN, STOP or leaving TACKING (R165). -/
def State.lpInj (c : Nat) : Option (Nat × Nat) :=
  if s.lpe.injOn then
    match s.bobArea? c with
    | some j => if j ∈ s.lpe.cfg.injected then some (j, s.injValue (s.bobArea j)) else none
    | none => none
  else none

/-- After an injected sample: the generator goes on; when every injected channel is past LEN, injection ends (R165). -/
def State.lpInjDone (j : Nat) : State :=
  let len := s.lpe.cfg.len
  let past := len ≤ (s.bobArea j).inj
  let s := s.setBobArea j { s.injNext (s.bobArea j) with started := true }
  let s := if past then s else s.setF F.LPE_BOB_STATUS_INJ_ACTIVE 1
  if s.lpe.cfg.injected.all (fun i => len < (s.bobArea i).inj) then
    s.endInjection 0
  else s

/-- A computed sample whose commit ends in a tick (R144 to R149). DESIGN CHOICE: the flags sat_hi and sat_lo follow the
pseudo-code of R144 with or without OUT_LIMIT (log 36). -/
def State.lpComputed (tick c : Nat) (it : Bytes) (w : Nat → Nat) (y rRaw vdc acc : Nat) (srcInv : Bool) : State :=
  let v := s.lpVars c
  let inj := s.lpInj c
  let point := s.lpe.cfg.point
  let injAt (k : Nat) : Nat := match inj with
    | some (_, x) => if point = k then x else 0
    | none => 0
  let satHi0 := s.isSet (F.LPE_CH_STATUS_SAT_HI c)
  let satLo0 := s.isSet (F.LPE_CH_STATUS_SAT_LO c)
  let r := if lpSpRate it then fAdd v.rPrev (fMin (fMax (fSub rRaw v.rPrev) (fNeg (w 9))) (w 8)) else rRaw
  let v1 := { v with rPrev := r }
  let r := fAdd r (injAt 0)
  let e := fAdd (fSub r y) (injAt 1)
  let b := lpBlockOut it w v1 satHi0 satLo0 e r y
  let vs := if lpFfAccel it then fFma (w 15) acc b.vc else b.vc
  let vs := if lpFfSupply it then fDiv (fMul vs (w 16)) (fMax vdc (w 17)) else vs
  let ff := fSub vs b.vc
  let vs := fAdd vs (injAt 2)
  let clamped := if lpOutLimit it then fMin (fMax vs (w 10)) (w 11) else vs
  let du := fSub clamped v.uPrev
  let dl := fMin (fMax du (fNeg (w 13))) (w 12)
  let u := if lpOutLimit it then fAdd v.uPrev dl else clamped
  let i := if lpAw it = 2 then lpAcc b.st.i (w 14) (fSub u vs) else b.st.i
  let hi := f32.lt (w 11) vs
  let lo := f32.lt vs (w 10)
  let rate := lpOutLimit it && dl != du
  let injNz := match inj with
    | some (_, x) => !fIsZero x
    | none => false
  let done (s : State) : State := match inj with
    | some (j, _) => s.lpInjDone j
    | none => s
  let s := if lpFfSupply it && f32.lt vdc (w 17) then s.setF (F.LPE_CH_STATUS_VDC_LOW c) 1 else s
  if [y, rRaw, vdc, acc, b.vc, vs].all f32.isFinite && f64.isFinite i then
    let s := s.setLpVars c { b.st with i := i, uPrev := u }
    let s := ((s.setB (F.LPE_CH_STATUS_SAT_HI c) hi).setB (F.LPE_CH_STATUS_SAT_LO c) lo).setB
      (F.LPE_CH_STATUS_RATE_LIM c) rate
    let s := (s.lpCounted p c).bobRecord c (recFlags false lo hi rate srcInv false injNz false)
      [e, b.pNode, (if lpBlock it = 2 then 0 else lpF i), b.dNode, ff, vs, u]
    let s := (done s).lpWrite p it u
    if lpLimitEvent it then
      if hi && !satHi0 then s.postTriggerAt (0x7000 + c) 1 tick
      else if lo && !satLo0 then s.postTriggerAt (0x7000 + c) 0 tick
      else s
    else s
  else
    (s.lpNumeric p c it v.uPrev (fun s => s.bobRecord c (recFlags false satLo0 satHi0 false srcInv true injNz false)
      [e, b.pNode, (if lpBlock it = 2 then 0 else lpF i), b.dNode, ff, vs, v.uPrev])) |> done

/-- 64-bit words of a channel's store: those of bank b, its word 18, and the store words that descriptors of kind STORE
use. -/
def lpBankWords (b : Nat) : List Nat := (List.range 10).map (fun i => 8 + 10 * b + i)
def lpInitWord (b : Nat) : Nat := 17 + 10 * b
def lpStoreWords (it : Bytes) : List Nat :=
  let uses (k : Nat) : Bool := descKind (lpDesc it k) == 1
  (if uses 0 || uses 1 then [28] else []) ++ (if uses 2 || uses 3 then [29] else [])

/-- The words of a sample: u_h of a HELD one, with the bank of a closing one, every state with it of a computed one. -/
def State.lpSampleWords (c : Nat) (it : Bytes) : List Nat :=
  if s.lpMode c = lpHeld then 4 :: lpStoreWords it
  else (if (s.lpCh c).closing then [4] else [0, 1, 2, 3, 4]) ++ lpBankWords (s.lpActive c) ++ lpStoreWords it

/-! ### Commands (R152) -/

/-- The pending command ends. -/
def State.lpCmdEnd (c last : Nat) : State :=
  (s.setF (F.LPE_CH_STATUS_PENDING c) 0).setF (F.LPE_CH_STATUS_LAST c) last

/-- A command that reads words: it fails with a FAULTED channel at an uncorrectable one. -/
def State.lpCmdReading (c : Nat) (ws : List Nat) (f : State → State) : State :=
  match s.lpRead c ws with
  | (some k, s) => (s.lpFault c k).lpCmdEnd c 2
  | (none, s) => f s

/-- HOLD (Table 6.7). -/
def State.lpHoldNow (c : Nat) : State :=
  let b := s.lpActive c
  let m := s.lpMode c
  if m = lpClosed then
    s.lpCmdReading c [2] (fun s =>
      (((s.setLpWord c 0x20 (s.lpWord c 0x14)).setLpMode c lpHeld b).setLpCh c
        { s.lpCh c with closing := false, fromPrev := false }).lpCmdEnd c 1)
  else if m = lpFaulted then
    s.lpCmdReading c [lpInitWord b] (fun s =>
      (((s.setF (F.LPE_CH_STATUS_MODE c) lpHeld).engStore (Mem.loopStore c + 0x20)
        (leBytes 4 (s.lpCoef c b 18) ++ leBytes 4 (lpHeld + 4 * b))).setLpCh c
        { s.lpCh c with closing := false, fromPrev := false }).lpCmdEnd c 1)
  else s

/-- CLOSE (Table 6.7, R142). -/
def State.lpCloseNow (c : Nat) (it : Bytes) : State :=
  let b := s.lpActive c
  if s.lpMode c = lpHeld then
    s.lpCmdReading c (lpBankWords b) (fun s =>
      if s.lpBankValid it c b then
        (((s.setLpMode c lpClosed b).setLpCh c { s.lpCh c with closing := true }).setF
          (F.LPE_CH_STATUS_COEF_BAD c) 0).lpCmdEnd c 1
      else ((s.setF (F.LPE_CH_STATUS_COEF_BAD c) 1).lpCmdEnd c 2).raise Ev.LOOP_COEF_BAD (srcLoop c) [c, b])
  else s

/-- SWAP (R156). -/
def State.lpSwapNow (c : Nat) (it : Bytes) : State :=
  let b := 1 - s.lpActive c
  let m := s.lpMode c
  if m = lpClosed ∨ m = lpHeld then
    s.lpCmdReading c (lpBankWords b) (fun s =>
      if s.lpBankValid it c b then ((s.setLpMode c m b).setF (F.LPE_CH_STATUS_COEF_BAD c) 0).lpCmdEnd c 1
      else s.lpCmdEnd c 2)
  else s

/-- The pending command is carried out at a due sample that is not skipped (R152). -/
def State.lpCommand (c : Nat) (it : Bytes) : State :=
  match s.getF (F.LPE_CH_STATUS_PENDING c) with
  | 1 => s.lpHoldNow c
  | 2 => s.lpCloseNow c it
  | 3 => s.lpSwapNow c it
  | _ => s

/-! ### A due sample -/

/-- The condition bit of a CONDITIONAL channel is 0: the sample is skipped. -/
def State.lpSkips (c : Nat) (it : Bytes) : Bool :=
  lpConditional it && !(bitOf (Store.get (fun _ => 0xFFFFFFFF#32) s.lpe.cond (c / 32)).toNat (c % 32))

/-- The sample with its sources fetched: HELD, closing or computed (R144, R147). -/
def State.lpSampled (tick c : Nat) (it : Bytes) : State :=
  let (y, ok0, s) := s.lpFetch p c 0 (lpDesc it 0)
  let (r, ok1, s) := s.lpFetch p c 1 (lpDesc it 1)
  let (vdc, ok2, s) := s.lpFetch p c 2 (lpDesc it 2)
  let (acc, ok3, s) := s.lpFetch p c 3 (lpDesc it 3)
  let srcInv := !(ok0 && ok1 && ok2 && ok3)
  let s := if srcInv then s.setF (F.LPE_CH_STATUS_SRC_INVALID c) 1 else s
  let w := fun k => s.lpCoef c (s.lpActive c) k
  if s.lpMode c = lpHeld then s.lpHeldSample p c it srcInv
  else if srcInv && lpSubstHold it then
    let s := s.lpToPrev c
    if s.lpMode c = lpFaulted then s else s.lpHeldSample p c it srcInv
  else if (s.lpCh c).closing then s.lpClosingSample p c it w y r vdc acc srcInv
  else s.lpComputed p tick c it w y r vdc acc srcInv

/-- A sample after one that was skipped or left uncomputed closes from u_prev (R159). -/
def State.lpResume (c : Nat) : State :=
  if s.lpMode c = lpClosed && (s.lpCh c).fromPrev then s.lpToPrev c else s

/-- One due sample of a channel whose commit ends in a tick (R144). -/
def State.lpDueSample (tick c : Nat) : State :=
  let it := p.loop c
  if !lpUsed it then s
  else if s.lpSkips c it then
    (s.setF (F.LPE_CH_STATUS_SKIPPED c) 1).lpLeftOut c
  else
    let s := ((s.setF (F.LPE_CH_STATUS_SKIPPED c) 0).lpCommand c it).lpResume c
    if s.lpMode c = lpFaulted then s
    else s.lpReading c (s.lpSampleWords c it) (fun s => s.lpSampled p tick c it)

/-- A due channel is left uncomputed: its next due sample is a closing sample with u_h = u_prev (R159). One that its
condition skips is not left uncomputed. -/
def State.lpNotComputed (c : Nat) : State :=
  let it := p.loop c
  if !lpUsed it || s.lpSkips c it then s else
  ((s.setF (F.LPE_CH_STATUS_NOT_COMPUTED c) 1).incSat (F.LPE_LANE_STATUS_NOT_COMPUTED (lpLane it))).lpLeftOut c

/-- Cycles of a due channel (R150). -/
def State.lpCycles (c : Nat) : Nat := if s.lpSkips c (p.loop c) then 6 else lpCost (p.loop c)

end Sys2Proof.Machine
end

