-- ==== Sys2Proof/Machine/QpMath.lean ====
section
/-!
DEFINITION. The arithmetic of the QP solver: dot, factorisation, passes of the dual active-set method (R178, R180 to
R185). Values are binary64 bit patterns; an operation that gives an infinity or a NaN ends a solve (R181), and so does a
read of an uncorrectable word (R189).
-/

namespace Sys2Proof.Machine

abbrev QVec := List Nat
abbrev QMat := List QVec

/-- Why a solve ends early: a result that is not finite (R181), an uncorrectable word in a row of the problem-data area
(R189). -/
inductive QpStop where
  | numeric
  | memory (row : Nat)

/-- A value of a solve, unless it has ended. -/
abbrev QR := Except QpStop

/-- A result, unless it is an infinity or a NaN (R181). -/
def qFin (r : Nat × Nat) : QR Nat := if f64.isFinite r.1 then .ok r.1 else .error .numeric

def qAdd (a b : Nat) : QR Nat := qFin (f64.add a b)
def qSub (a b : Nat) : QR Nat := qFin (f64.sub a b)
def qMul (a b : Nat) : QR Nat := qFin (f64.mul a b)
def qDiv (a b : Nat) : QR Nat := qFin (f64.div a b)
def qSqrt (a : Nat) : QR Nat := qFin (f64.sqrt a)
def qFma (a b c : Nat) : QR Nat := qFin (f64.fma a b c)
def qNeg (a : Nat) : Nat := f64.fneg a
def qLt (a b : Nat) : Bool := f64.lt a b
def qLe (a b : Nat) : Bool := f64.le a b
def qOne : Nat := 0x3FF0000000000000
def qInf : Nat := 0x7FF0000000000000
def qNegInf : Nat := 0xFFF0000000000000

def QVec.at (v : QVec) (k : Nat) : Nat := v.getD k 0
def QMat.at (m : QMat) (i j : Nat) : Nat := (m.getD i []).getD j 0
def QMat.col (m : QMat) (j : Nat) : QVec := m.map (fun r => r.getD j 0)

/-- Products into the 16 accumulators: pair j goes to accumulator j mod 16. -/
def dotAcc : List Nat → List (Nat × Nat) → QR (List Nat)
  | acc, [] => .ok acc
  | [], _ :: _ => .error .numeric
  | a :: acc, (x, y) :: r => do
    let a ← qFma x y a
    dotAcc (acc ++ [a]) r

/-- Pairwise sums of the first w and the next w accumulators. -/
def dotFold (w : Nat) (acc : List Nat) : QR (List Nat) :=
  (List.range w).mapM (fun l => qAdd (acc.getD l 0) (acc.getD (l + w) 0))

/-- dot of R180. -/
def qDot (a b : QVec) : QR Nat := do
  let k := min a.length b.length
  let acc ← dotAcc (List.replicate 16 0) (a.zip b)
  let acc := acc.rotateRight (k % 16)
  let acc ← dotFold 8 acc
  let acc ← dotFold 4 acc
  let acc ← dotFold 2 acc
  let acc ← dotFold 1 acc
  pure (acc.getD 0 0)

/-! ### Load and factorisation (R178)

The load has no NUMERIC of its own beyond its check of the data: an infinity or a NaN goes on, and a pivot that is not
above the threshold, a NaN among them, ends it with NOT_PD. -/

/-- dot of R180 without an end at an infinity or a NaN. -/
def ldAcc : List Nat → List (Nat × Nat) → List Nat
  | acc, [] => acc
  | [], _ :: _ => []
  | a :: acc, (x, y) :: r => ldAcc (acc ++ [(f64.fma x y a).1]) r
def ldFold (w : Nat) (acc : List Nat) : List Nat :=
  (List.range w).map (fun l => (f64.add (acc.getD l 0) (acc.getD (l + w) 0)).1)
def ldDot (a b : QVec) : Nat :=
  let acc := (ldAcc (List.replicate 16 0) (a.zip b)).rotateRight (min a.length b.length % 16)
  (ldFold 1 (ldFold 2 (ldFold 4 (ldFold 8 acc)))).getD 0 0

/-- Cholesky column j: the rows of L so far, lengthened by column j; none: NOT_PD. -/
def cholCol (h : QMat) (thr : Nat) (n j : Nat) (l : QMat) : Option QMat :=
  let lj := (l.getD j []).take j
  let pv := (f64.sub (h.at j j) (ldDot lj lj)).1
  if qLt thr pv then
    let r := (f64.sqrt pv).1
    some ((List.range n).map (fun i =>
      let li := l.getD i []
      if i < j then li ++ [0]
      else if i = j then li ++ [r]
      else li ++ [(f64.div (f64.sub (h.at i j) (ldDot (li.take j) lj)).1 r).1]))
  else none

/-- The Cholesky factor, or the pivot that fails. -/
def cholesky (h : QMat) (thr n : Nat) : Nat → Nat → QMat → Nat ⊕ QMat
  | 0, _, l => .inr l
  | fuel + 1, j, l =>
    match cholCol h thr n j l with
    | none => .inl j
    | some l' => cholesky h thr n fuel (j + 1) l'

/-- Column c of the inverse of L, entries c to i so far (top first). -/
def invCol (l : QMat) (c : Nat) : Nat → Nat → QVec → QVec
  | 0, _, m => m
  | fuel + 1, i, m =>
    let d := ldDot (((l.getD i []).drop c).take (i - c)) m
    invCol l c fuel (i + 1) (m ++ [(f64.div (qNeg d) (l.at i i)).1])

/-- J0, row by row: row c is column c of the inverse of L, with zeros before the diagonal. -/
def j0Rows (l : QMat) (n : Nat) : QMat :=
  (List.range n).map (fun c =>
    List.replicate c 0 ++ invCol l c (n - 1 - c) (c + 1) [(f64.div qOne (l.at c c)).1])

/-- The factorisation of R178: J0, or the pivot of a NOT_PD. -/
def qpFactor (h : QMat) (n pivotTol : Nat) : Nat ⊕ QMat :=
  let hmax := (List.range n).foldl (fun a j => if qLt a (h.at j j) then h.at j j else a) (h.at 0 0)
  match cholesky h (f64.mul pivotTol hmax).1 n n 0 (List.replicate n []) with
  | .inl j => .inl j
  | .inr l => .inr (j0Rows l n)

/-! ### Problem of a solve -/

/-- A context's data for one solve. -/
structure QpProblem where
  n : Nat
  meq : Nat
  min : Nat
  j0 : QMat
  a : QMat
  f : QVec
  b : QVec
  lb : QVec
  ub : QVec
  dep2 : Nat
  feas : Nat
  /-- Rows of the problem-data area, J0 first, that hold an uncorrectable word. -/
  bad : List Nat

variable (pr : QpProblem)

/-- Rows m_eq + m_in: where bounds start. -/
def QpProblem.gen : Nat := pr.meq + pr.min
def QpProblem.present (r : Nat) : Bool :=
  if r < pr.gen then true
  else if r < pr.gen + pr.n then QVec.at pr.lb (r - pr.gen) != qNegInf
  else QVec.at pr.ub (r - pr.gen - pr.n) != qInf

/-- Oriented normal of a row; `pos` is the orientation of an equality (Table 7.1). -/
def QpProblem.normal (r : Nat) (pos : Bool) : QVec :=
  if r < pr.meq then (if pos then pr.a.getD r [] else (pr.a.getD r []).map qNeg)
  else if r < pr.gen then (pr.a.getD r []).map qNeg
  else (List.range pr.n).map (fun i =>
    if i = (r - pr.gen) % pr.n then (if r < pr.gen + pr.n then qOne else qNeg qOne) else 0)

/-- A row of A_eq or A_in as the solver reads it. -/
def QpProblem.readRow (r : Nat) : QR QVec :=
  if pr.bad.contains (pr.n + r) then .error (.memory (pr.n + r)) else .ok (pr.a.getD r [])

/-- Violation of a row by Table 7.1; of an equality it is the absolute value, whichever normal was chosen. -/
def QpProblem.viol (r : Nat) (x : QVec) : QR Nat :=
  if r < pr.meq then do
    let a ← pr.readRow r
    let d ← qDot a x
    let v ← qSub (QVec.at pr.b r) d
    pure (f64.fabs v)
  else if r < pr.gen then do
    let a ← pr.readRow r
    let d ← qDot a x
    qSub d (QVec.at pr.b r)
  else if r < pr.gen + pr.n then qSub (QVec.at pr.lb (r - pr.gen)) (QVec.at x (r - pr.gen))
  else qSub (QVec.at x (r - pr.gen - pr.n)) (QVec.at pr.ub (r - pr.gen - pr.n))

/-- Orientation of a row at its selection: an equality with b − aᵀx ≥ 0 keeps a. -/
def QpProblem.orient (r : Nat) (x : QVec) : QR Bool :=
  if r < pr.meq then do
    let a ← pr.readRow r
    let d ← qDot a x
    let v ← qSub (QVec.at pr.b r) d
    pure (qLe 0 v)
  else pure true

/-! ### Working set -/

/-- The solver's state: x, J by rows, T by columns, the working set, its multipliers, and the pending row with its
orientation and multiplier. -/
structure QpWork where
  x : QVec
  j : QMat
  t : QMat
  w : List Nat
  u : QVec
  pend : Option (Nat × Bool × Nat)

/-- d, z and r for a normal (R185). -/
def QpWork.dzr (wk : QpWork) (n : Nat) (nv : QVec) : QR (QVec × QVec × QVec) := do
  let q := wk.w.length
  let d ← (List.range n).mapM (fun k => qDot (wk.j.col k) nv)
  let z ← (List.range n).mapM (fun i => qDot ((wk.j.getD i []).drop q) (d.drop q))
  let rec back (fuel : Nat) (r : QVec) : QR QVec :=
    match fuel with
    | 0 => .ok r
    | k + 1 => do
      let row := ((List.range q).drop (k + 1)).map (fun c => wk.t.at c k)
      let s ← qDot row r
      let a ← qSub (QVec.at d k) s
      let v ← qDiv a (wk.t.at k k)
      back k (v :: r)
  let r ← back q []
  pure (d, z, r)

/-- givens of R182. -/
def givens (a b : Nat) : QR (Nat × Nat × Nat) := do
  let b2 ← qMul b b
  let hh ← qFma a a b2
  let h ← qSqrt hh
  if f64.eq h 0 then pure (qOne, 0, 0)
  else do
    let c ← qDiv a h
    let s ← qDiv b h
    pure (c, s, h)

/-- One pair of elements rotated. -/
def rotPair (c s p q : Nat) : QR (Nat × Nat) := do
  let cp ← qMul c p
  let a ← qFma s q cp
  let cq ← qMul c q
  let b ← qFma (qNeg s) p cq
  pure (a, b)

/-- Columns k and k + 1 of a matrix by rows rotated. -/
def rotCols (m : QMat) (k c s : Nat) : QR QMat :=
  m.mapM (fun row => do
    let (a, b) ← rotPair c s (QVec.at row k) (QVec.at row (k + 1))
    pure ((row.set k a).set (k + 1) b))

/-- The rotations of add: k from n − 1 down to q + 1. -/
def addRot (q : Nat) : Nat → QVec → QMat → QR (QVec × QMat)
  | 0, d, j => .ok (d, j)
  | k + 1, d, j =>
    if k + 1 ≤ q then .ok (d, j) else do
      let (c, s, h) ← givens (QVec.at d k) (QVec.at d (k + 1))
      let j ← rotCols j k c s
      addRot q k ((d.set k h).set (k + 1) 0) j

/-- add(p) of R185. -/
def QpWork.add (wk : QpWork) (n p u : Nat) (d : QVec) : QR QpWork := do
  let q := wk.w.length
  let (d, j) ← addRot q (n - 1) d wk.j
  pure { wk with j := j, t := wk.t ++ [d.take (q + 1)], w := wk.w ++ [p], u := wk.u ++ [u] }

/-- The rotations of drop: from column l to the last. -/
def dropRot (q : Nat) : Nat → Nat → QMat → QMat → QR (QMat × QMat)
  | 0, _, t, j => .ok (t, j)
  | fuel + 1, k, t, j =>
    if q ≤ k then .ok (t, j) else do
      let (c, s, h) ← givens (t.at k k) (t.at k (k + 1))
      let t ← t.zipIdx.mapM (fun (col, ix) =>
        if ix < k then pure col
        else if ix = k then pure ((col.set k h).take (k + 1))
        else do
          let (a, b) ← rotPair c s (QVec.at col k) (QVec.at col (k + 1))
          pure ((col.set k a).set (k + 1) b))
      let j ← rotCols j k c s
      dropRot q fuel (k + 1) t j

/-- drop(l) of R185. -/
def QpWork.drop (wk : QpWork) (l : Nat) : QR QpWork := do
  let w := wk.w.eraseIdx l
  let (t, j) ← dropRot w.length w.length l (wk.t.eraseIdx l) wk.j
  pure { wk with j := j, t := t, w := w, u := wk.u.eraseIdx l }

/-- x moved by t along z; multipliers moved by −t along r. -/
def moveX (t : Nat) (x z : QVec) : QR QVec := (x.zip z).mapM (fun (a, b) => qFma t b a)
def moveU (t : Nat) (u r : QVec) : QR QVec := (u.zip r).mapM (fun (a, b) => qFma (qNeg t) b a)

/-- The unconstrained start (R184 steps 2 and 3). -/
def QpProblem.start : QR QpWork := do
  match (List.range pr.n).find? pr.bad.contains with
  | some r => throw (.memory r)
  | none => pure ()
  let g ← (List.range pr.n).mapM (fun i => qDot (pr.j0.col i) pr.f)
  let x ← (List.range pr.n).mapM (fun i => do
    let v ← qDot (pr.j0.getD i []) g
    pure (qNeg v))
  pure ⟨x, pr.j0, [], [], [], none⟩

/-- A forced add; `none` inside says that the row is dependent. -/
def QpProblem.forced (wk : QpWork) (r : Nat) : QR (Option QpWork) := do
  if !pr.present r then pure none else
  let pos ← pr.orient r wk.x
  let nv := pr.normal r pos
  let v ← pr.viol r wk.x
  let (d, z, rr) ← wk.dzr pr.n nv
  let zz ← qDot z z
  if qLe zz pr.dep2 then pure none
  else do
    let zn ← qDot z nv
    let t ← qDiv v zn
    let x ← moveX t wk.x z
    let u ← moveU t wk.u rr
    let wk ← ({ wk with x := x, u := u } : QpWork).add pr.n r t d
    pure (some wk)

/-- The stored rows rebuilt in order; `none` inside when the solve continues cold (R184 steps 4 and 5). -/
def QpProblem.rebuild : QpWork → List Nat → QR (Option QpWork)
  | wk, [] => .ok (if (wk.w.zip wk.u).any (fun x => pr.meq ≤ x.1 && qLt x.2 0) then none else some wk)
  | wk, r :: rs =>
    match pr.forced wk r with
    | .error e => .error e
    | .ok none => .ok none
    | .ok (some wk) => QpProblem.rebuild wk rs

/-! ### Passes (R185) -/

/-- What a pass ends with. -/
inductive PassOut where
  | optimal
  | infeasible
  | next (wk : QpWork)

/-- The row with the largest violation above FEAS_TOL, the lowest on a tie. -/
def QpProblem.scan (wk : QpWork) : List Nat → Option (Nat × Nat) → QR (Option Nat)
  | [], best => .ok (best.map (·.1))
  | r :: rs, best =>
    if wk.w.contains r || !pr.present r then QpProblem.scan wk rs best
    else
      match pr.viol r wk.x with
      | .error e => .error e
      | .ok v =>
        let better := qLt pr.feas v && (match best with
          | none => true
          | some (_, bv) => qLt bv v)
        QpProblem.scan wk rs (if better then some (r, v) else best)

/-- The pending row of a pass: the one left pending, or the next to be selected. -/
def QpProblem.select (wk : QpWork) : QR (Option (Nat × Bool × Nat)) :=
  match wk.pend with
  | some p => .ok (some p)
  | none =>
    match (List.range pr.meq).find? (fun r => !wk.w.contains r) with
    | some r => (pr.orient r wk.x).map (fun pos => some (r, pos, 0))
    | none =>
      (pr.scan wk ((List.range (pr.min + 2 * pr.n)).map (· + pr.meq)) none).map (fun o => o.map (fun r => (r, true, 0)))

/-- t_f and l: the least u_k / r_k over inequality and bound rows with r_k > 0. -/
def ratioTest (meq : Nat) : List (Nat × Nat × Nat) → Nat → Option (Nat × Nat) → QR (Option (Nat × Nat))
  | [], _, best => .ok best
  | (w, u, r) :: rest, k, best =>
    if meq ≤ w && qLt 0 r then
      match qDiv u r with
      | .error e => .error e
      | .ok a =>
        let better := match best with
          | none => true
          | some (tf, _) => qLt a tf
        ratioTest meq rest (k + 1) (if better then some (a, k) else best)
    else ratioTest meq rest (k + 1) best

/-- One pass (R185). -/
def QpProblem.pass (wk : QpWork) : QR PassOut := do
  match ← pr.select wk with
  | none => pure .optimal
  | some (p, pos, up) =>
    let nv := pr.normal p pos
    let v ← pr.viol p wk.x
    let (d, z, r) ← wk.dzr pr.n nv
    let tf ← ratioTest pr.meq (wk.w.zip (wk.u.zip r)) 0 none
    let zz ← qDot z z
    let tc ← (if qLe zz pr.dep2 then pure none else do
      let zn ← qDot z nv
      let t ← qDiv v zn
      pure (some t) : QR (Option Nat))
    match tc, tf with
    | none, none => pure .infeasible
    | none, some (t, l) =>
      let u ← moveU t wk.u r
      let up ← qAdd up t
      let wk ← ({ wk with u := u, pend := some (p, pos, up) } : QpWork).drop l
      pure (.next wk)
    | some t, none =>
      let x ← moveX t wk.x z
      let u ← moveU t wk.u r
      let up ← qAdd up t
      let wk ← ({ wk with x := x, u := u, pend := none } : QpWork).add pr.n p up d
      pure (.next wk)
    | some tc, some (tf, l) =>
      let full := qLe tc tf
      let t := if full then tc else tf
      let x ← moveX t wk.x z
      let u ← moveU t wk.u r
      let up ← qAdd up t
      if full then do
        let wk ← ({ wk with x := x, u := u, pend := none } : QpWork).add pr.n p up d
        pure (.next wk)
      else do
        let wk ← ({ wk with x := x, u := u, pend := some (p, pos, up) } : QpWork).drop l
        pure (.next wk)

/-- Status codes of Table 7.5. -/
def qsNone : Nat := 0
def qsOptimal : Nat := 1
def qsDeadline : Nat := 2
def qsIterLimit : Nat := 3
def qsInfeasible : Nat := 4
def qsNumeric : Nat := 5
def qsMemFault : Nat := 6
def qsNotPd : Nat := 7
def qsDisabled : Nat := 8
def qsLoaded : Nat := 9

/-- Status and bad row of an early end. -/
def QpStop.status : QpStop → Nat
  | .numeric => qsNumeric
  | .memory _ => qsMemFault
def QpStop.row : QpStop → Option Nat
  | .numeric => none
  | .memory r => some r

/-- Passes up to a limit, counting them: status, state of the last completed pass, passes executed, bad row. -/
def QpProblem.passes : Nat → Nat → QpWork → Nat × QpWork × Nat × Option Nat
  | 0, k, wk => (qsIterLimit, wk, k, none)
  | fuel + 1, k, wk =>
    match pr.pass wk with
    | .error e => (e.status, wk, k + 1, e.row)
    | .ok .optimal => (qsOptimal, wk, k + 1, none)
    | .ok .infeasible => (qsInfeasible, wk, k + 1, none)
    | .ok (.next wk') => QpProblem.passes fuel (k + 1) wk'

/-- Result of a solve: status, vector, working set, passes, cold, the row whose uncorrectable word ended it. -/
structure QpResult where
  status : Nat
  x : QVec
  w : List Nat
  passes : Nat
  cold : Bool
  badRow : Option Nat

/-- The start and the rebuild: the state from which passes run, and whether they run cold. -/
def QpProblem.begin (warm : List Nat) : QR (QpWork × Bool) := do
  let wk ← pr.start
  if warm.isEmpty then pure (wk, true)
  else
    match ← pr.rebuild wk warm with
    | none => pure (wk, true)
    | some wk' => pure (wk', false)

/-- A solve with at most a number of passes. -/
def QpProblem.solve (warm : List Nat) (maxPass : Nat) : QpResult :=
  match pr.begin warm with
  | .error e => ⟨e.status, [], [], 0, warm.isEmpty, e.row⟩
  | .ok (wk, cold) =>
    let r := pr.passes maxPass 0 wk
    ⟨r.1, r.2.1.x, r.2.1.w, r.2.2.1, cold, r.2.2.2⟩

end Sys2Proof.Machine
end

