-- ==== Sys2Proof/Machine/Solver.lean ====
section
/-!
DEFINITION. The QP solver's contexts: SOLVER items, loads, starts, ends, publication, misses, commands and the
problem-data window (R168 to R194).
-/

namespace Sys2Proof.Machine

/-! ### SOLVER items (Table 7.2) and data blocks (R171) -/

variable (p : Pattern)

def Pattern.qp (c : Nat) : Bytes := p.item Pattern.SOLVER 64 c
def qpFlag (it : Bytes) (k : Nat) : Bool := bitOf (it.u16 0) k
def qpUsed (it : Bytes) : Bool := qpFlag it 0
def qpWarm (it : Bytes) : Bool := qpFlag it 1
def qpFbLast (it : Bytes) : Bool := qpFlag it 2
def qpInQueue (it : Bytes) : Bool := qpFlag it 3
def qpSafety (it : Bytes) : Bool := qpFlag it 4
def qpN (it : Bytes) : Nat := it.u8 2
def qpMeq (it : Bytes) : Nat := it.u8 3
def qpMin (it : Bytes) : Nat := it.u16 4
def qpMaxPass (it : Bytes) : Nat := it.u16 6
def qpPeriod (it : Bytes) : Nat := it.u16 8
def qpPhase (it : Bytes) : Nat := it.u16 10
def qpDeadline (it : Bytes) : Nat := it.u8 12
def qpMissLimit (it : Bytes) : Nat := it.u8 13
def qpInQ (it : Bytes) : Nat := it.u8 14
def qpDyn (it : Bytes) (k : Nat) : Bool := bitOf (it.u8 15) k
def qpInOff (it : Bytes) : Nat := it.u32 16
def qpHeapOff (it : Bytes) : Nat := it.u32 20
def qpOutOff (it : Bytes) : Nat := it.u32 24
def qpExpOff (it : Bytes) : Nat := it.u32 28
def qpExpIdx (it : Bytes) : List Nat := (List.range 8).map (fun k => it.u8 (32 + k))

/-- Lengths of f, b_eq, b_in, lb and ub. -/
def qpVecLens (it : Bytes) : List Nat := [qpN it, qpMeq it, qpMin it, qpN it, qpN it]
/-- Rows times n of H, A_eq and A_in: the doubles of the problem-data area. -/
def qpAreaWords (it : Bytes) : Nat := (qpN it + qpMeq it + qpMin it) * qpN it
/-- b: bytes of the input record (R172). -/
def qpInputBytes (it : Bytes) : Nat :=
  ((qpVecLens it).zipIdx.map (fun x => if qpDyn it x.2 then 8 * x.1 else 0)).sum
/-- The contract terms of Table 2.9. -/
def qpLoadCost (it : Bytes) : Nat := 200 + 40 * qpN it + ceilDiv (qpN it ^ 3) 96
def qpStartCost (it : Bytes) : Nat := 108 + 32 * ceilDiv (qpInputBytes it) 32 + 2 * ceilDiv (qpN it ^ 2) 16
def qpPassCost (it : Bytes) : Nat :=
  200 + 4 * qpN it * ceilDiv (qpN it) 16 + qpN it * ceilDiv (qpMeq it + qpMin it + 2 * qpN it) 16 + 32 * qpN it
def qpRebuildCost (it : Bytes) (q : Nat) : Nat := q * (100 + 4 * qpN it * ceilDiv (qpN it) 16 + 32 * qpN it)

/-- The Pattern's data block of a context. -/
def Pattern.qpHeap (c : Nat) : Bytes := (p.bytes Pattern.SOLVER).drop (qpHeapOff (p.qp c))

/-- Doubles of a byte sequence. -/
def doubles (bs : Bytes) (n : Nat) : List Nat := (List.range n).map (fun i => bs.u64 (8 * i))
/-- A list cut into pieces of given lengths. -/
def cutList : List Nat → List Nat → List (List Nat)
  | [], _ => []
  | n :: ns, l => l.take n :: cutList ns (l.drop n)
/-- Rows of n entries each. -/
def cutRows (n rows : Nat) (l : List Nat) : List (List Nat) := cutList (List.replicate rows n) l

/-- The heap's vectors f, b_eq, b_in, lb, ub, and the fallback vector. -/
def Pattern.qpHeapVecs (c : Nat) : List (List Nat) :=
  let it := p.qp c
  let bs := (p.qpHeap c).drop (8 * qpAreaWords it)
  cutList (qpVecLens it) (doubles bs (qpVecLens it).sum)
def Pattern.qpFallback (c : Nat) : Bytes :=
  let it := p.qp c
  ((p.qpHeap c).drop (8 * (qpAreaWords it + (qpVecLens it).sum))).take (8 * qpN it)

/-- The vectors of a solve: those of DYN from the record, the others from the heap. -/
def qpVectors (it : Bytes) (heap : List (List Nat)) (rec : Bytes) : List (List Nat) :=
  ((heap.zipIdx).foldl (fun (acc : List (List Nat) × Nat) x =>
    if qpDyn it x.2 then (acc.1 ++ [doubles (rec.drop acc.2) x.1.length], acc.2 + 8 * x.1.length)
    else (acc.1 ++ [x.1], acc.2)) ([], 0)).1

/-! ### Context state -/

variable (s : State)

def State.qpCtx (c : Nat) : QpCtx := Store.get (fun _ => QpCtx.fresh) s.qps.ctx c
def State.setQpCtx (c : Nat) (x : QpCtx) : State :=
  let s := s.setF (F.QPS_CTX_STATE_WARM_Q c) x.warm.length
  { s with qps := { s.qps with ctx := Store.set (fun _ => QpCtx.fresh) s.qps.ctx c x } }

/-- Modes of Table 7.16. -/
def qmUnused : Nat := 0
def qmEnabled : Nat := 1
def qmLoadPending : Nat := 2
def qmDisabling : Nat := 3
def qmDisabled : Nat := 4
def qmRefused : Nat := 5
def State.qpMode (c : Nat) : Nat := s.getF (F.QPS_CTX_STATE_MODE c)
def State.setQpMode (c m : Nat) : State :=
  let s := s.setF (F.QPS_CTX_STATE_MODE c) m
  s.setF F.QPS_STATUS_REFUSED ((List.range 8).foldl (fun a k => a + if s.qpMode k = qmRefused then 2 ^ k else 0) 0)

/-! ### Loads (R178, R179) -/

/-- Copies H, A_eq and A_in from the Pattern into the problem-data area. -/
def State.qpCopy (c : Nat) : State := s.load (Mem.solver c) ((p.qpHeap c).take (8 * qpAreaWords (p.qp c)))

/-- Steps 1 and 2 of the load of R178 on the doubles of H, A_eq and A_in: the refusal status with its pivot, or J0. -/
def qpLoadOutcome (it : Bytes) (area : List Nat) : (Nat × Nat) ⊕ QMat :=
  if !area.all f64.isFinite then .inl (qsNumeric, 0)
  else
    match qpFactor (cutRows (qpN it) (qpN it) area) (qpN it) (it.u64 40) with
    | .inl j => .inl (qsNotPd, j)
    | .inr j0 => .inr j0

/-- J0 written over H; a refused load leaves H in place. -/
def State.qpStoreJ0 (c : Nat) (o : (Nat × Nat) ⊕ QMat) : State :=
  match o with
  | .inl _ => s
  | .inr j0 => s.load (Mem.solver c) (j0.flatten.flatMap (leBytes 8))

/-- The end of a load: the warm start is cleared, the mode is ENABLED, or REFUSED with its event (R179). -/
def State.qpLoaded (c : Nat) (o : (Nat × Nat) ⊕ QMat) : State :=
  let s := s.setF (F.QPS_MISS_COUNT c) 0
  let s := s.setQpCtx c { s.qpCtx c with warm := [], valid := none }
  match o with
  | .inl (st, pivot) =>
    ((s.setQpCtx c { s.qpCtx c with refusal := st }).setQpMode c qmRefused).raise Ev.QP_LOAD_REFUSED (srcSolver c)
      [c, st, pivot]
  | .inr _ => s.setQpMode c qmEnabled

/-- The load of R178 from the problem-data area. -/
def State.qpLoad (c : Nat) : State :=
  let it := p.qp c
  let o := qpLoadOutcome it (doubles (s.rdBytes (Mem.solver c) (8 * qpAreaWords it)) (qpAreaWords it))
  (s.qpStoreJ0 c o).qpLoaded c o

/-! ### Publication (R174 to R177) -/

/-- Bytes of one buffer. -/
def qpBufBytes (it : Bytes) : Nat := 32 * ceilDiv (qpN it) 4
def qpBufAt (it : Bytes) (k : Nat) : Nat := Mem.shared + qpOutOff it + 32 + k * qpBufBytes it

/-- An export word: binary32, saturated to the largest finite value (R177). -/
def exportWord (v : Nat) : Nat :=
  let r := (f64.convert f32 v).1
  if f32.isFinite r then r else if f32.signBit ≤ r then 0xFF7FFFFF else 0x7F7FFFFF

/-- The export block takes the values of a buffer. -/
def State.qpExport (it : Bytes) (buf : Nat) : State :=
  if (qpExpIdx it).all (· == 0xFF) then s
  else
    let w := (qpExpIdx it).map (fun i => if i = 0xFF then 0 else exportWord (s.rdLe (qpBufAt it buf + 8 * i) 8))
    s.load (Mem.shared + qpExpOff it) (w.flatMap (leBytes 4))

/-- Flags of a descriptor. -/
structure QpFlags where
  fromLast : Bool := false
  refused : Bool := false
  reused : Bool := false
  cold : Bool := false

/-- The descriptor is written (Table 7.3), the registers follow, and the completion trigger is posted (R175). -/
def State.qpDescribe (c : Nat) (it : Bytes) (status buf : Nat) (f : QpFlags) (passes : Nat) (start : BitVec 64)
    (cycles : Nat) : State :=
  let seq := (s.getF (F.QPS_CTX_SEQ_SEQ c) + 1) % 2 ^ 32
  let w0 := seq + 2 ^ 32 * status + 2 ^ 40 * buf + (if f.fromLast then 2 ^ 42 else 0) +
    (if f.refused then 2 ^ 43 else 0) + (if f.reused then 2 ^ 44 else 0) + (if f.cold then 2 ^ 45 else 0) + 2 ^ 48 * passes
  let s := s.load (Mem.shared + qpOutOff it) (leBytes 8 w0 ++ leBytes 4 start.toNat ++ leBytes 4 cycles ++
    List.replicate 16 0#8)
  let s := ((s.setF (F.QPS_CTX_SEQ_SEQ c) seq).setF (F.QPS_CTX_STATE_LAST_STATUS c) status).setF
    (F.QPS_CTX_CYC_CYCLES c) cycles
  s.postTrigger (0x6000 + c) status

/-- A publication that delivers an existing buffer: the export block, then the descriptor. -/
def State.qpDeliver (c : Nat) (it : Bytes) (status buf : Nat) (f : QpFlags) (passes : Nat) (start : BitVec 64)
    (cycles : Nat) : State :=
  (s.qpExport it buf).qpDescribe c it status buf f passes start cycles

/-- A miss is counted and reported (R189). -/
def State.qpMiss (c : Nat) (it : Bytes) (status : Nat) : State :=
  let was := s.getF (F.QPS_MISS_CONSEC c)
  let s := ((s.incSat (F.QPS_MISS_COUNT c)).incSat (F.QPS_MISS_CONSEC c)).raise Ev.QP_MISS (srcSolver c) [c, status]
  let now := s.getF (F.QPS_MISS_CONSEC c)
  if was < qpMissLimit it && qpMissLimit it ≤ now then
    let s := s.raiseCls Ev.QP_MISS_LIMIT (srcSolver c) (if qpSafety it then 1 else 2) [c, now]
    if qpSafety it then s.faultFns .solver (p.fnsOfContext c) else s
  else s

/-- The miss delivery (R188): the last OPTIMAL buffer with FB_LAST, else the fallback buffer. -/
def State.qpMissDelivery (c : Nat) (it : Bytes) (status : Nat) (f : QpFlags) (passes : Nat) (start : BitVec 64) : State :=
  let s := match (s.qpCtx c).valid with
    | some k => if qpFbLast it then s.qpDeliver c it status k { f with fromLast := true } passes start 0
      else s.qpDeliver c it status 3 f passes start 0
    | none => s.qpDeliver c it status 3 f passes start 0
  s.qpMiss p c it status

/-! ### Restart (R174, R193) -/

/-- What a load from the Pattern comes to: its data stand in the heap. -/
def Pattern.qpHeapOutcome (c : Nat) : (Nat × Nat) ⊕ QMat :=
  qpLoadOutcome (p.qp c) (doubles (p.qpHeap c) (qpAreaWords (p.qp c)))

/-- A context's storage loaded from the Pattern: fallback buffer, descriptor, problem data, J0. -/
def State.qpLoadStore (c : Nat) : State :=
  let it := p.qp c
  let s := s.load (qpBufAt it 3) (p.qpFallback c)
  let s := s.load (Mem.shared + qpOutOff it) (leBytes 8 (2 ^ 40 * 3) ++ List.replicate 24 0#8)
  (s.qpCopy p c).qpStoreJ0 c (p.qpHeapOutcome c)

/-- A context whose storage is loaded begins; one that is not USED reads as nothing. -/
def State.qpEnter (c : Nat) : State :=
  let it := p.qp c
  let s := (s.setR (F.QPS_CTX_STATE_MODE c).addr 0).setR (F.QPS_MISS_LIMIT c).addr 0
  let s := ((s.setF (F.QPS_CTX_SEQ_SEQ c) 0).setF (F.QPS_CTX_CYC_CYCLES c) 0).setR (F.QPS_CTX_PASS_Q c).addr 0
  let s := s.setQpCtx c QpCtx.fresh
  if qpUsed it then (s.setF (F.QPS_MISS_LIMIT c) (qpMissLimit it)).qpLoaded c (p.qpHeapOutcome c) else s

/-- Every context is loaded from the Pattern, its warm start cleared, its descriptor and fallback buffer written. -/
def State.qpRestartCtx (c : Nat) : State := (if qpUsed (p.qp c) then s.qpLoadStore p c else s).qpEnter p c

def State.qpRestart : State :=
  let s := (List.range 8).foldl (fun s c => s.qpRestartCtx p c) s
  let s := s.setF F.QPS_STATUS_USED ((List.range 8).foldl (fun a c => a + if qpUsed (p.qp c) then 2 ^ c else 0) 0)
  let s := s.setF F.QPS_STATUS_BUSY 0
  { s with qps := { s.qps with run := none } }

/-! ### Starting a solve (R172, R184) -/

/-- The input of a solve: record, whether it is reused, state. The first solve after a takeover takes the record that
the Lining mirrored, if it holds one (R194); INPUT_REUSED is then set with IN_QUEUE (log 39). -/
def State.qpInput (c : Nat) (it : Bytes) : Option Bytes × Bool × State :=
  let b := qpInputBytes it
  let mirrored := (s.qpCtx c).mirror
  let s := s.setQpCtx c { s.qpCtx c with mirror := false }
  if b = 0 then (none, false, s)
  else if mirrored && (s.qpCtx c).last.isSome then ((s.qpCtx c).last, qpInQueue it, s)
  else if qpInQueue it then
    match s.queueTake p (qpInQ it) with
    | (some e, s) => (some e, false, s.setQpCtx c { s.qpCtx c with last := some e })
    | (none, s) => ((s.qpCtx c).last, true, s)
  else
    let e := s.rdBytes (Mem.shared + qpInOff it) b
    (some e, false, (s.engRead (Mem.shared + qpInOff it) b).setQpCtx c { s.qpCtx c with last := some e })

/-- The solver takes up a context. -/
def State.qpBegin (c : Nat) (it : Bytes) : State :=
  let (rec, reused, s) := s.qpInput p c it
  let heap := p.qpHeapVecs c
  let vecs := match rec with
    | some r => qpVectors it heap r
    | none => heap
  let s := (s.setF F.QPS_STATUS_BUSY 1).setF F.QPS_STATUS_CTX c
  { s with qps := { s.qps with run := some ⟨c, s.clock.stitch, vecs, (s.qpCtx c).warm, reused⟩ } }

/-- A free number of cycles up to a bound (R190). -/
def State.qpCycles (bound : Nat) : Nat × State :=
  let r := s.fresh
  (r.1 % (bound + 1), r.2)

/-- The load after ENABLE. An uncorrectable word ends it at the read like a solve, and the mode stays LOAD_PENDING
(log 25). -/
def State.qpPendingLoad (c : Nat) (it : Bytes) (st : BitVec 64) : State :=
  let (bad, s) := s.eccRead (Mem.solver c) (8 * qpAreaWords it) 2
  if bad then (s.setQpCtx c { s.qpCtx c with warm := [] }).qpMissDelivery p c it qsMemFault {} 0 st
  else
    let s := s.qpLoad p c
    let (cyc, s) := s.qpCycles (qpLoadCost it)
    s.qpDeliver c it (if s.qpMode c = qmRefused then (s.qpCtx c).refusal else qsLoaded) 3 {} 0 st cyc

/-- What a QP_START does with its context: a refused or disabled one publishes its fallback whatever the solver does
(log 26), a busy solver refuses every other (R50, R179, R184, R191, R194). -/
def State.qpStart (c : Nat) (r : Running) : State :=
  let it := p.qp c
  let st := s.clock.stitch
  let m := s.qpMode c
  if m = qmRefused then s.qpDeliver c it (s.qpCtx c).refusal 3 {} 0 st 0
  else if m = qmDisabling ∨ m = qmDisabled then
    (s.setQpCtx c { s.qpCtx c with warm := [] }).qpDeliver c it qsDisabled 3 {} 0 st 0
  else if s.qps.run.isSome then
    (s.countOverrun solverAgent 2 r).qpMissDelivery p c it qsDeadline { refused := true } 0 st
  else if m = qmLoadPending then s.qpPendingLoad p c it st
  else s.qpBegin p c it

/-- A QP_START entry at its tick. -/
def State.qpStartEntry (k : Nat) (r : Running) : State :=
  let s := s.atTick r.entry.start
  let c := r.entry.object % 8
  let s := if !s.domainOn domSolver || !s.entryMayRun || !(s.roleIs .solo || s.roleIs .active) || !qpUsed (p.qp c) then s
    else s.qpStart p c r
  s.finishEntry solverAgent k

def execQpStart (k : Nat) (s : State) : Result :=
  .next (match s.scheduled solverAgent k, s.pat.active with
    | some r, some p => if r.entry.kind = .qpStart then s.qpStartEntry p k r else s
    | _, _ => s)

/-! ### Ending a solve (R175, R186, R187, R189) -/

/-- Model address of a row of the problem-data area. -/
def qpRowAt (c n r : Nat) : Nat := Mem.solver c + 8 * n * r

/-- The problem of the running solve, from the problem-data area and its vectors. -/
def State.qpProblem (v : Solve) : QpProblem :=
  let it := p.qp v.ctx
  let n := qpN it
  let area := doubles (s.rdBytes (Mem.solver v.ctx) (8 * qpAreaWords it)) (qpAreaWords it)
  let rows := cutRows n (n + qpMeq it + qpMin it) area
  { n := n, meq := qpMeq it, min := qpMin it, j0 := rows.take n, a := rows.drop n,
    f := v.vecs.getD 0 [], b := v.vecs.getD 1 [] ++ v.vecs.getD 2 [], lb := v.vecs.getD 3 [], ub := v.vecs.getD 4 [],
    dep2 := (f64.mul (it.u64 48) (it.u64 48)).1, feas := it.u64 56,
    bad := (List.range (n + qpMeq it + qpMin it)).filter (fun r => s.eccBad (qpRowAt v.ctx n r) (8 * n)) }

/-- Is the input allowed (R169, R184): finite, but for a lower bound of −inf and an upper bound of +inf? -/
def qpInputFinite (pr : QpProblem) : Bool :=
  pr.f.all f64.isFinite && pr.b.all f64.isFinite && pr.lb.all (fun v => f64.isFinite v || v == qNegInf) &&
    pr.ub.all (fun v => f64.isFinite v || v == qInf)
def qpInputCrossed (pr : QpProblem) : Bool := (pr.lb.zip pr.ub).any (fun x => qLt x.2 x.1)

/-- Step 1 of R184: the status with which an input ends the solve before any word of the store is read. -/
def qpInputEnds (pr : QpProblem) : Option Nat :=
  if !qpInputFinite pr then some qsNumeric else if qpInputCrossed pr then some qsInfeasible else none

/-- What the running solve comes to. -/
def State.qpOutcome (v : Solve) (maxPass : Nat) : QpResult :=
  let pr := s.qpProblem p v
  match qpInputEnds pr with
  | some st => ⟨st, [], [], 0, true, none⟩
  | none => pr.solve v.warm maxPass

/-- What the reads of a solve find: once each the correctable words of the rows without an uncorrectable one (log 27),
and the row that ended it. -/
def State.qpReads (v : Solve) (badRow : Option Nat) : State :=
  let pr := s.qpProblem p v
  let row (s : State) (r : Nat) : State := (s.eccRead (qpRowAt v.ctx pr.n r) (8 * pr.n) 2).2
  if (qpInputEnds pr).isSome then s
  else badRow.toList.foldl row (((List.range (pr.n + pr.gen)).filter (fun r => !pr.bad.contains r)).foldl row s)

/-- A command that waits for the running solve: DISABLE, CLEAR_WARM (R191). -/
def pendDisable (n : Nat) : Bool := n == 1 || n == 3
def pendClear (n : Nat) : Bool := n == 2 || n == 3

/-- The solver is free again; the commands that waited take effect (R191). -/
def State.qpFree (c : Nat) (warm : List Nat) : State :=
  let x := s.qpCtx c
  let s := { s with qps := { s.qps with run := none } }.setF F.QPS_STATUS_BUSY 0
  let s := s.setQpCtx c { x with warm := if qpWarm (p.qp c) && !pendClear x.pend then warm else [], pend := 0 }
  let s := s.setF (F.QPS_CTX_STATE_PENDING c) 0
  if pendDisable x.pend then s.setQpMode c qmDisabling else s

/-- A solve has ended or was abandoned. -/
def State.qpSettle (c : Nat) (warm : List Nat) (q passes : Nat) : State :=
  ((s.setF (F.QPS_CTX_PASS_Q c) q).setF (F.QPS_CTX_PASS_PASSES c) passes).qpFree p c warm

/-- The slot tables stop: a running solve ends without a publication and keeps the warm start it began with (log 28). -/
def State.qpDrop : State :=
  match s.qps.run, s.pat.active with
  | some v, some p => s.qpFree p v.ctx v.warm
  | _, _ => { s with qps := { s.qps with run := none } }.setF F.QPS_STATUS_BUSY 0

/-- The solve ends with its own status and is published (R175, Table 7.5). -/
def State.qpEnd (v : Solve) : State :=
  let c := v.ctx
  let it := p.qp c
  let r := s.qpOutcome p v (qpMaxPass it)
  let s := s.qpReads p v r.badRow
  let f : QpFlags := { reused := v.reused, cold := r.cold }
  if r.status = qsOptimal then
    let x := s.qpCtx c
    let s := s.load (qpBufAt it x.next) (r.x.flatMap (leBytes 8))
    let s := s.setQpCtx c { x with next := (x.next + 1) % 3, valid := some x.next }
    let (cyc, s) := s.qpCycles (qpStartCost it + qpRebuildCost it v.warm.length + r.passes * qpPassCost it)
    ((s.qpSettle p c r.w r.w.length r.passes).setF (F.QPS_MISS_CONSEC c) 0).qpDeliver c it qsOptimal x.next f
      r.passes v.start cyc
  else
    let warm := if r.status = qsIterLimit then r.w else []
    (s.qpSettle p c warm r.w.length r.passes).qpMissDelivery p c it r.status f r.passes v.start

/-- Has the deadline boundary of the running solve passed (R187)? -/
def State.qpLate (v : Solve) : Bool := v.start.toNat + qpDeadline (p.qp v.ctx) ≤ s.clock.stitch.toNat

/-- At the deadline boundary a solve is abandoned; how many of its passes were complete is free (R186, R187). -/
def State.qpAbandon (v : Solve) : State :=
  let c := v.ctx
  let it := p.qp c
  let all := s.qpOutcome p v (qpMaxPass it)
  let (k, s) := s.qpCycles (all.passes - 1)
  let r := s.qpOutcome p v k
  let warm := if k = 0 then v.warm else r.w
  (s.qpSettle p c warm (if k = 0 then 0 else r.w.length) k).qpMissDelivery p c it qsDeadline
    { reused := v.reused, cold := r.cold } k v.start

def execSolveEnd (s : State) : Result :=
  .next (match s.qps.run, s.pat.active with
    | some v, some p => if s.qpLate p v then s else s.qpEnd p v
    | _, _ => s)

def execQpDeadline (s : State) : Result :=
  .next (match s.qps.run, s.pat.active with
    | some v, some p => if s.qpLate p v then s.qpAbandon p v else s
    | _, _ => s)

/-! ### Commands (R191) -/

def State.qpCmdResult (c code : Nat) : State :=
  (s.setF F.QPS_CTX_RESULT_CTX c).setF F.QPS_CTX_RESULT_CODE code

def State.qpSolving (c : Nat) : Bool := s.qps.run.any (fun v => v.ctx == c)

/-- A command written to QPS_CTX_CMD: op 1 DISABLE, 2 ENABLE, 3 CLEAR_WARM. UNUSED comes before BUSY, and BUSY, while
any context is copied, before STATE: the model's choice (log 29). -/
def State.qpCmd (c op : Nat) : State :=
  let used := s.patIs (fun p => qpUsed (p.qp c))
  let m := s.qpMode c
  let x := s.qpCtx c
  if !used then s.qpCmdResult c 1
  else if (List.range 8).any (fun k => s.qpMode k == qmDisabling) then s.qpCmdResult c 3
  else if op = 1 then
    if (s.station = .stop ∨ s.station = .tacking) ∧ (m = qmEnabled ∨ m = qmRefused) then
      (if s.qpSolving c then
        (s.setF (F.QPS_CTX_STATE_PENDING c) 1).setQpCtx c { x with pend := if pendClear x.pend then 3 else 1 }
       else s.setQpMode c qmDisabling).qpCmdResult c 0
    else s.qpCmdResult c 2
  else if op = 2 then
    if (s.station = .stop ∨ s.station = .tacking ∨ s.station = .run) ∧ m = qmDisabled then
      (s.setQpMode c qmLoadPending).qpCmdResult c 0
    else s.qpCmdResult c 2
  else
    if m = qmEnabled then
      (if s.qpSolving c then
        (s.setF (F.QPS_CTX_STATE_PENDING c) 1).setQpCtx c { x with pend := if pendDisable x.pend then 3 else 2 }
       else s.setQpCtx c { x with warm := [] }).qpCmdResult c 0
    else s.qpCmdResult c 2

def execQpDisable (req : Requester) (c : BitVec 3) (s : State) : Result := s.command req F.QPS_CTX_CMD_OP (s.qpCmd c.toNat 1)
def execQpEnable (req : Requester) (c : BitVec 3) (s : State) : Result := s.command req F.QPS_CTX_CMD_OP (s.qpCmd c.toNat 2)
def execQpClearWarm (req : Requester) (c : BitVec 3) (s : State) : Result := s.command req F.QPS_CTX_CMD_OP (s.qpCmd c.toNat 3)

/-- The supervisor's copy is complete (R191). -/
def execDisableCopyEnd (c : Nat) (s : State) : Result :=
  onUnit (c < 8) (match s.pat.active with
    | some p => if s.qpMode c = qmDisabling then (s.qpCopy p c).setQpMode c qmDisabled else s
    | none => s)

/-! ### The problem-data window (R192) -/

/-- Model address that a window offset shows. -/
def State.qpWindowAt (off : Nat) : Nat :=
  Mem.solver (s.getF F.QPS_WIN_SEL_CTX) + s.getF F.QPS_WIN_SEL_PAGE * 0x8000 + off

/-- The window is open: a page of the area, in a DISABLED context. -/
def State.qpWindowOpen : Bool :=
  s.getF F.QPS_WIN_SEL_PAGE < 12 && s.qpMode (s.getF F.QPS_WIN_SEL_CTX) == qmDisabled

def State.qpWindowWrite (req : Requester) (off : Nat) (v : BitVec 32) : State :=
  if !s.qpWindowOpen then s.accErr req [.refusedRo]
  else if s.domainOn domSolver then s.engStore (s.qpWindowAt off) (leBytes 4 v.toNat) else s

def execProblemWindowWrite (req : Requester) (off : Nat) (v : BitVec 32) (s : State) : Result :=
  onUnit (off < 0x8000) (s.accessBy req <|
    if req = .cmp then s.accErr req [.refusedRo]
    else if !(s.mayWrite req (0x58000 + off)) then s
    else if off % 4 ≠ 0 then s.accErr req [.badWidth]
    else s.qpWindowWrite req off v)

end Sys2Proof.Machine
end

