-- ==== Sys2Proof/Machine/ScheduleCheck.lean ====
section
/-!
DEFINITION. Checks 9 to 11 of Table 3.7: the schedule, its writers and the grants (R27, R33, R43, R45, R63, R64, R77,
R100, R109, R111, R128, R137, R173, R231, R279, R307, R333, R476). A failure of check 9 is a number 256 × agent + rule;
the least is the one reported (R67).
-/

namespace Sys2Proof.Machine

variable (p : Pattern)

/-- DETAIL of a failure of check 9. -/
def schedDetail (agent rule : Nat) : Nat := 256 * agent + rule

/-- The DETAIL if a condition fails. -/
def needs (agent rule : Nat) (ok : Bool) : List Nat := if ok then [] else [schedDetail agent rule]

/-- The least number of a list. -/
def leastOf : List Nat → Option Nat
  | [] => none
  | n :: ns => match leastOf ns with
    | none => some n
    | some m => some (min n m)

/-! ### TOPOLOGY and SCHEDULE layout (R63, R64) -/

def Pattern.topologyOk : Bool :=
  decide (p.periodSel ≤ 5) && decide (1 ≤ p.guardTicks) && decide (p.guardTicks ≤ 50) && decide (1 ≤ p.seamLen) &&
    decide (p.seamLen ≤ 8192) && (if p.paired then decide (1 ≤ p.epochLen) && decide (p.epochLen ≤ 64) else p.epochLen == 0) &&
    zeroes p.topo 5 3 && zeroes p.topo 16 48 &&
    (List.range 4).all (fun k => p.witness k == 0xFFFF || decide (p.witness k < 4096))

def Pattern.schedBytes : Bytes := p.bytes Pattern.SCHEDULE

/-- The seam map, the table index and the tables of one agent lie within the section (R67). -/
def Pattern.agentInside (a : Nat) : Bool :=
  let b := p.schedBytes
  p.agentTables a == 0 ||
    (decide (p.agentMapOff a + 2 * p.seamLen ≤ b.length) && decide (p.agentIndexOff a + 8 * p.agentTables a ≤ b.length) &&
     (List.range (p.agentTables a)).all (fun t =>
       decide (b.u32 (p.agentIndexOff a + 8 * t + 4) + 8 * p.tableLen a t ≤ b.length)))

/-- What else the layout and the limits of one agent ask for (R64, R43). -/
def Pattern.agentLayoutOk (a : Nat) : Bool :=
  let r := p.item Pattern.SCHEDULE 16 a
  let b := p.schedBytes
  let tables := p.agentTables a
  let map := p.agentMapOff a
  let idx := p.agentIndexOff a
  zeroes r 2 2 && zeroes r 12 4 && decide (tables ≤ 256) &&
  (if tables = 0 then map == 0 && idx == 0 else
    (List.range p.seamLen).all (fun q => b.u16 (map + 2 * q) == 0xFFFF || decide (b.u16 (map + 2 * q) < tables)) &&
    (List.range tables).all (fun t => decide (p.tableLen a t ≤ 256) && b.u16 (idx + 8 * t + 2) == 0))

def Pattern.totalEntries : Nat :=
  ((List.range 29).map (fun a => ((List.range (p.agentTables a)).map (p.tableLen a)).sum)).sum

/-- The structure of the SCHEDULE section, reported before check 9: that what its records name lies within it
(R67). -/
def Pattern.scheduleLayout : Option Failure :=
  (leastOf ((List.range 29).flatMap (fun a => needs a 19 (p.agentInside a)))).map (fun d => (.schedule, d))

/-- Layout and limits within check 9 (R64, R43). -/
def Pattern.rule19 : List Nat :=
  (List.range 29).flatMap (fun a => needs a 19 (p.agentLayoutOk a)) ++ needs 0xFF 19 (decide (p.totalEntries ≤ 65536))

/-! ### Entries -/

def Pattern.period : Nat := periodNs p.periodSel
def Pattern.lastTick : Nat := usableTicks p.period - p.guardTicks
def Pattern.positions : List Nat := List.range p.seamLen

/-- Entries of an agent at a seam position. -/
def Pattern.entriesAt (a pos : Nat) : List SlotEntry := ((p.tableAt a pos).map (p.tableEntries a)).getD []

/-- Every entry of an agent, table by table. -/
def Pattern.allEntries (a : Nat) : List SlotEntry := (List.range (p.agentTables a)).flatMap (p.tableEntries a)

/-- Tables that an agent's seam map names. -/
def Pattern.mapped (a t : Nat) : Bool := p.positions.any (fun pos => p.tableAt a pos == some t)

def SlotEntry.ticks (e : SlotEntry) : Nat := e.finish - e.start

/-- The cycle grant of ship time d ns at C cycles per tick (R41). -/
def cycleGrant (d c : Nat) : Nat := d * c * 4999 / 1000000

/-- Cycles per tick of an agent's engine (Table 2.2). -/
def agentRate (a : Nat) : Nat := if 8 ≤ a ∧ a < 16 then 80 else 160

/-- Kinds an agent allows (Table 2.3). -/
def kindAllowed (a : Nat) (k : EntryKind) : Bool :=
  if a < 8 then k == .coreSeg || k == .selvSeg || k == .evtSlot || k == .selftest
  else if a < 16 then k == .loopGrp || k == .selftest
  else if a = 16 then k == .qpStart || k == .selftest
  else if a < 28 then k == .netTx
  else k == .outApply || k == .retainCommit || k == .selftest

/-- Ticks of a duration in local time, in ns (R42). -/
def localTicks (ns : Nat) : Nat := ceilDiv (ns * 5001) (5000 * 200)

/-- Kinds that start at tick 1 or later (R38). -/
def afterLatch (k : EntryKind) : Bool := k == .coreSeg || k == .selvSeg || k == .evtSlot || k == .loopGrp

/-- Kinds whose entries rule 3 holds to the cycle grant. -/
def hasBudget (k : EntryKind) : Bool :=
  k == .coreSeg || k == .selvSeg || k == .evtSlot || k == .loopGrp || k == .selftest

/-- Rules 1, 2, 3 and 4 of R45 for an agent. A start before tick 1 against R38 is reported as rule 1 (DEDUCED, log
77). -/
def Pattern.rule1 (a : Nat) : List Nat :=
  needs a 1 ((p.allEntries a).all (fun e => decide (e.start < e.finish) && decide (e.finish ≤ p.lastTick) &&
    (!afterLatch e.kind || decide (1 ≤ e.start))))
def Pattern.rule2 (a : Nat) : List Nat :=
  needs a 2 ((List.range (p.agentTables a)).all (fun t =>
    let es := p.tableEntries a t
    (es.zip es.tail).all (fun x => decide (x.1.start ≤ x.2.start) && decide (x.1.finish ≤ x.2.start))))
def Pattern.rule3 (a : Nat) : List Nat :=
  needs a 3 ((p.allEntries a).all (fun e =>
    if a = 28 ∨ e.kind = .qpStart ∨ e.kind = .netTx then e.budget == 0
    else if a ≤ 16 ∧ hasBudget e.kind then decide (e.budget ≤ cycleGrant (200 * e.ticks) (agentRate a))
    else true))
def Pattern.rule4 (a : Nat) : List Nat := needs a 4 ((p.allEntries a).all (fun e => kindAllowed a e.kind))

/-- Rules 5 and 6 of R45, with the length of a RETAIN_COMMIT under R128. -/
def Pattern.rule5 : List Nat :=
  needs 28 5 (p.positions.all (fun pos => (p.tableAt 28 pos).isSome) &&
    (List.range (p.agentTables 28)).all (fun t =>
      let os := (p.tableEntries 28 t).filter (fun e => e.kind == .outApply)
      os.length == 1 && os.all (fun e => e.ticks == 1)))

/-- Bytes of the retained runs, and the ticks of their MRAM write (R128). -/
def Pattern.retainedBytes : Nat :=
  (((List.range (p.items Pattern.INITDATA)).map p.initItem).map (fun it => if it.u8 0 = 2 then it.u32 8 else 0)).sum
def Pattern.retainTicks : Nat := localTicks (50 * ceilDiv (p.retainedBytes + 64) 32 + 2000)

def Pattern.rule6 : List Nat :=
  needs 28 6 ((List.range (p.agentTables 28)).all (fun t =>
      (p.tableEntries 28 t).all (fun e => e.kind != .retainCommit) ||
        p.positions.all (fun pos => (p.tableAt 28 pos == some t) == (pos + 1 == p.seamLen))) &&
    (p.allEntries 28).all (fun e => e.kind != .retainCommit || decide (p.retainTicks ≤ e.ticks)))

/-- Rule 7 of R45: the runs of a segment that the stitches of a seam position hold: agent, run B, START. -/
def Pattern.runsAt (pos seg : Nat) : List (Nat × Bool × Nat) :=
  (List.range 8).flatMap (fun a => ((p.entriesAt a pos).filter (fun e =>
    e.kind == .selvSeg && bitsOf e.object 11 0 == seg)).map (fun e => (a, bitOf e.object 15, e.start)))

/-- Segments that some SELV_SEG entry of a position names. -/
def Pattern.segsAt (pos : Nat) : List Nat :=
  (List.range 8).flatMap (fun a => ((p.entriesAt a pos).filter (·.kind == .selvSeg)).map (fun e => bitsOf e.object 11 0))

/-- One run of each kind, each on the agent of its record's CORE, the cores different, the STARTs 10 µs apart. -/
def Pattern.runsPlaced (seg : Nat) (runs : List (Nat × Bool × Nat)) : Bool :=
  p.segments.contains seg && runs.all (fun r => runCore (p.runRecord seg r.2.1) == r.1) &&
  match runs with
  | [x, y] => x.2.1 != y.2.1 && x.1 != y.1 && decide (50 ≤ x.2.2 - y.2.2 + (y.2.2 - x.2.2))
  | _ => false

/-- A SELV_SEG entry names a segment of the SELVEDGE section and lies on the agent of its run's CORE, the other run's
core is another; also in a table that no seam map names. -/
def Pattern.selvEntryOk (a : Nat) (e : SlotEntry) : Bool :=
  let seg := bitsOf e.object 11 0
  let core (b : Bool) : Nat := runCore (p.runRecord seg b)
  e.kind != .selvSeg || (p.segments.contains seg && core (bitOf e.object 15) == a && core false != core true)

/-- Rule 7: a wrong placement is reported at the lowest agent that holds a run of the segment there (DEDUCED, log
77). -/
def Pattern.rule7 : List Nat :=
  (List.range 8).flatMap (fun a => needs a 7 ((p.allEntries a).all (p.selvEntryOk a))) ++
  p.positions.flatMap (fun pos => (p.segsAt pos).flatMap (fun seg =>
    needs (leastOf ((p.runsAt pos seg).map (·.1)) |>.getD 0) 7 (p.runsPlaced seg (p.runsAt pos seg)))) ++
  p.segments.flatMap (fun seg =>
    let ca := runCore (p.runRecord seg false)
    needs (if ca < 8 then ca else 0xFF) 7 (p.positions.any (fun pos => !(p.runsAt pos seg).isEmpty)))

/-- The contract worst case of a solve (Table 2.9). -/
def qpWorst (it : Bytes) : Nat := qpStartCost it + qpRebuildCost it (qpN it) + qpMaxPass it * qpPassCost it

/-- Every QP_START of a seam: ship time in ns from its beginning, and the context. -/
def Pattern.qpStarts : List (Nat × Nat) :=
  p.positions.flatMap (fun pos => ((p.entriesAt 16 pos).filter (fun e => e.kind == .qpStart)).map
    (fun e => (pos * p.period + 200 * e.start, bitsOf e.object 2 0)))

/-- Rule 8 of R45. -/
def Pattern.rule8 : List Nat :=
  let xs := p.qpStarts
  match xs with
  | [] => []
  | x :: _ =>
    needs 16 8 ((xs.zip (xs.tail ++ [(x.1 + p.seamLen * p.period, x.2)])).all (fun e =>
      decide (qpWorst (p.qp e.1.2) ≤ cycleGrant (e.2.1 - e.1.1) 160)))

/-! ### Tasks (R77, R109, R111) -/

def Pattern.cyclicTasks : List Nat := (List.range 16).filter (fun k => p.taskKind k == 1)
def Pattern.eventTasks : List Nat := ((List.range 16).map (· + 16)).filter (fun k => p.taskKind k == 2)

/-- Agent named for a task's core; 0xFF if there is none. -/
def Pattern.taskAgent (k : Nat) : Nat := if p.taskCore k < 8 then p.taskCore k else 0xFF

/-- Seam positions at which a cyclic task is activated. -/
def Pattern.activations (k : Nat) : List Nat :=
  p.positions.filter (fun pos => decide (p.taskPhase k ≤ pos) && p.taskPeriod k != 0 &&
    (pos - p.taskPhase k) % p.taskPeriod k == 0)

/-- CORE_SEG entries of a task in the PERIOD stitches from a position: stitch within them, and segment. -/
def Pattern.taskSegsFrom (k pos : Nat) : List (Nat × Nat) :=
  (List.range (p.taskPeriod k)).flatMap (fun j =>
    ((p.entriesAt (p.taskCore k) ((pos + j) % p.seamLen)).filter (fun e =>
      e.kind == .coreSeg && bitsOf e.object 12 8 == k)).map (fun e => (j, bitsOf e.object 7 0)))

/-- Rule 9: an on-line change needs its commit entry, and no activation over a seam boundary (R77). -/
def Pattern.rule9 : List Nat :=
  if p.olcEnable then
    needs 28 9 ((p.entriesAt 28 (p.seamLen - 1)).any (fun e => e.kind == .retainCommit &&
        decide (p.retainTicks + 11 ≤ e.ticks))) ++
      p.cyclicTasks.flatMap (fun k => needs (p.taskAgent k) 9 ((p.activations k).all (fun pos =>
        (p.taskSegsFrom k pos).all (fun x => decide (pos + x.1 < p.seamLen)))))
  else []

/-- A cyclic task's descriptor as far as the schedule needs it: core, period, phase (Table 5.1). -/
def Pattern.taskTimingOk (k : Nat) : Bool :=
  decide (p.taskCore k < 8) && decide (1 ≤ p.taskSegments k) && decide (1 ≤ p.taskPeriod k) && decide (p.taskPeriod k ≤ 8192) &&
    p.seamLen % p.taskPeriod k == 0 && decide (p.taskPhase k < p.taskPeriod k)

/-- The stitch code words of a core's image. -/
def Pattern.codeWords (c : Nat) : List (BitVec 32) :=
  (List.range (p.codeLen c / 4)).map (fun i => BitVec.ofNat 32 ((p.codeImage c).u32 (4 * i)))

/-- Rule 10: tasks and their entries (R109, R111). -/
def Pattern.rule10 : List Nat :=
  (List.range 8).flatMap (fun a => needs a 10 (
    (p.allEntries a).all (fun e =>
      let k := bitsOf e.object 12 8
      match e.kind with
      | .coreSeg => decide (k < 16) && p.taskKind k == 1 && p.taskCore k == a &&
          decide (bitsOf e.object 7 0 < p.taskSegments k)
      | .evtSlot => decide (16 ≤ k) && p.taskKind k == 2 && p.taskCore k == a && bitsOf e.object 7 0 == 0
      | _ => true) &&
    (p.codeWords a).all (fun w =>
      match decodeStitch a w with
      | some (.evtRaise _ arg) => decide (15 < arg.toNat) || p.taskKind (16 + arg.toNat) != 0
      | _ => true))) ++
  p.cyclicTasks.flatMap (fun k => needs (p.taskAgent k) 10 (p.taskTimingOk k &&
    (p.activations k).all (fun pos => (p.taskSegsFrom k pos).map (·.2) == List.range (p.taskSegments k)))) ++
  (List.range 32).flatMap (fun k => needs (p.taskAgent k) 10 (p.taskKind k == 0 ||
    p.taskKind k == (if k < 16 then 1 else 2))) ++
  p.eventTasks.flatMap (fun k => needs (p.taskAgent k) 10 (decide (p.taskCore k < 8) && p.taskSegments k == 1 &&
    p.positions.all (fun pos => (p.tableAt (p.taskCore k) pos).isNone ||
      (p.entriesAt (p.taskCore k) pos).any (fun e => e.kind == .evtSlot && bitsOf e.object 12 8 == k))))

/-! ### Loops and solver (R137, R173) -/

/-- First and last channel of a LOOP_GRP entry. -/
def entryFirst (e : SlotEntry) : Nat := bitsOf e.object 7 0
def entryCount (e : SlotEntry) : Nat := bitsOf e.object 15 8 + 1
def entryHolds (e : SlotEntry) (c : Nat) : Bool := decide (entryFirst e ≤ c) && decide (c < entryFirst e + entryCount e)

/-- Exactly one entry that is `wanted` in each stitch table of an agent mapped to a position where it is due, each of
those positions has a table, and no other table holds one (R137 rule 2, R173 rule 9). -/
def Pattern.heldWhenDue (a : Nat) (due : Nat → Bool) (wanted : SlotEntry → Bool) : Bool :=
  p.positions.all (fun pos => !due pos || (p.tableAt a pos).isSome) &&
  (List.range (p.agentTables a)).all (fun t => ((p.tableEntries a t).filter wanted).length ==
    if p.positions.any (fun pos => due pos && p.tableAt a pos == some t) then 1 else 0)

def Pattern.usedLoops : List Nat := (List.range 256).filter (fun c => lpUsed (p.loop c))

/-- Rules 1, 2 and 5 of R137 for a channel. -/
def Pattern.loopPlacedOk (c : Nat) : Bool :=
  let it := p.loop c
  let d := lpDesc it 4
  decide (lpBlock it ≤ 3) && decide (lpLane it ≤ 7) && decide (1 ≤ lpSample it) && decide (lpSample it ≤ 8192) &&
  p.seamLen % lpSample it == 0 && decide (lpPhase it < lpSample it) &&
  p.heldWhenDue (8 + lpLane it) (lpDue it) (fun e => e.kind == .loopGrp && entryHolds e c) &&
  (let starts := ((p.allEntries (8 + lpLane it)).filter (fun e => e.kind == .loopGrp && entryHolds e c)).map (·.start)
   starts.all (fun t => some t == starts.head?)) &&
  (descKind d != 2 ||
    (let j := p.loop (descIdx d)
     lpUsed j && lpLane j == lpLane it && decide (c < descIdx d) && lpSample j == lpSample it &&
     lpPhase j == lpPhase it && descKind (lpDesc j 1) == 1 &&
     (p.allEntries (8 + lpLane it)).all (fun e => e.kind != .loopGrp || !entryHolds e c || entryHolds e (descIdx d)) &&
     p.usedLoops.all (fun o => o == c || descKind (lpDesc (p.loop o) 4) != 2 ||
       descIdx (lpDesc (p.loop o) 4) != descIdx d)))

/-- Rule 11: R137 rules 1 to 5. -/
def Pattern.rule11 : List Nat :=
  p.usedLoops.flatMap (fun c =>
    needs (if lpLane (p.loop c) < 8 then 8 + lpLane (p.loop c) else 0xFF) 11 (p.loopPlacedOk c)) ++
  (List.range 8).flatMap (fun l => needs (8 + l) 11 ((p.allEntries (8 + l)).all (fun e =>
    e.kind != .loopGrp ||
      (let cs := (List.range (entryCount e)).map (· + entryFirst e)
       cs.all (fun c => lpUsed (p.loop c) && lpLane (p.loop c) == l) &&
         decide (8 + (cs.map (fun c => lpCost (p.loop c))).sum ≤ e.budget)))))

def Pattern.usedCtxs : List Nat := (List.range 8).filter (fun c => qpUsed (p.qp c))

/-- Rule 12: R173 rules 7 to 9. -/
def Pattern.rule12 : List Nat :=
  needs 16 12 (p.usedCtxs.all (fun c =>
      let it := p.qp c
      decide (1 ≤ qpPeriod it) && decide (qpPeriod it ≤ 8192) && decide (qpPhase it < qpPeriod it) &&
      p.seamLen % qpPeriod it == 0 && decide (qpDeadline it ≤ qpPeriod it) &&
      p.heldWhenDue 16 (fun pos => decide (qpPhase it ≤ pos) && (pos - qpPhase it) % qpPeriod it == 0)
        (fun e => e.kind == .qpStart && bitsOf e.object 2 0 == c)) &&
    (p.allEntries 16).all (fun e => e.kind != .qpStart || qpUsed (p.qp (bitsOf e.object 2 0))))

/-- Rule 13: the apply point of a Pattern with a SELVEDGE section (R231). -/
def Pattern.rule13 : List Nat :=
  needs 28 13 (!p.hasSelvedge || (p.allEntries 28).all (fun e => e.kind != .outApply || decide (75 ≤ e.start)))

/-! ### Network slots (R279, R307, R333) -/

/-- Rule 14, 15: every NET_TX names a slot item and every slot item is named, by an entry of any table. -/
def Pattern.slotsAgree (a : Nat) (slots : List Nat) : Bool :=
  (p.allEntries a).all (fun e => e.kind != .netTx || slots.contains (slotOf e.object)) &&
    slots.all (fun k => (p.allEntries a).any (fun e => e.kind == .netTx && slotOf e.object == k))
def Pattern.rule14 : List Nat :=
  (List.range 8).flatMap (fun n => needs (17 + n) 14
    (p.slotsAgree (17 + n) (((p.netItems 0x32).filter (fun it => it.u8 1 == n)).map (fun it => it.u8 2))))
def Pattern.rule15 : List Nat :=
  [0, 1].flatMap (fun q => needs (25 + q) 15 (p.slotsAgree (25 + q) ((p.ethSlots q).map ethSlotNo)))

/-- Cost of a send entry in ns (R334): each packet's shared SRAM bank, none for stores, SAFETY and PD_SEQ. -/
def Pattern.packetBanks (it : Bytes) : List (Option Nat) :=
  let base : Option Nat := match lnKind it with
    | 1 => some (lnOff it)
    | 4 => some (p.outOff (lnIdx it))
    | 5 => some (runOutOff (p.runRecord (lnIdx it) false))
    | _ => none
  (List.range (lnPackets it)).map (fun k => base.map (fun o => (o + 256 * k) / 0x100000))

/-- Sum of the packet costs, given the bank of the packet before. -/
def packetCost : Option Nat → List (Option Nat) → Nat
  | _, [] => 0
  | prev, b :: bs => (if b.isSome && b == prev then 320 else 180) + packetCost b bs

def Pattern.sendCost (slot : Nat) : Nat :=
  800 + packetCost none ((p.liningItems slot).flatMap p.packetBanks) + (if slot = p.lastSlot then 180 else 0)

/-- NET_TX entries of agent 27 in one epoch with a slot value, as (stitch of the epoch, entry). -/
def Pattern.nymEntries (v : Nat) : List (Nat × SlotEntry) :=
  (List.range p.epochLen).flatMap (fun j => ((p.entriesAt 27 j).filter (fun e =>
    e.kind == .netTx && slotOf e.object == v)).map (fun e => (j, e)))

/-- An apply entry against the end-mark entry (rule 9 of R333): stitches from the end mark's. -/
def applyDelay (epochLen : Nat) (mark app : Nat × SlotEntry) : Nat :=
  if mark.1 = app.1 then (if mark.2.finish ≤ app.2.start then 0 else epochLen)
  else (app.1 + epochLen - mark.1) % epochLen

/-- Rule 16: R333 rules 7 to 10. -/
def Pattern.rule16 : List Nat :=
  if p.paired then
    needs 27 16 (
      p.positions.all (fun pos => p.tableAt 27 pos == p.tableAt 27 ((pos + p.epochLen) % p.seamLen)) &&
      (p.allEntries 27).all (fun e => e.kind != .netTx ||
        (p.liningSlots.contains (slotOf e.object % 32) && decide (5 ≤ e.start))) &&
      p.liningSlots.all (fun k =>
        match p.nymEntries k, p.nymEntries (32 + k), p.nymEntries p.lastSlot with
        | [send], [app], [mark] =>
          decide (localTicks (p.sendCost k) ≤ send.2.ticks) && app.2.ticks == send.2.ticks &&
            decide (applyDelay p.epochLen mark app < min 3 p.epochLen)
        | _, _, _ => false) &&
      (let sends := (List.range p.epochLen).flatMap (fun j => ((p.entriesAt 27 j).filter (fun e =>
        e.kind == .netTx && decide (slotOf e.object < 32))).map (fun e => slotOf e.object))
       (sends.zip sends.tail).all (fun x => decide (x.1 < x.2))))
  else []

/-- Rule 17: self-test entries (R476, Table 20.2). -/
def selftestOk (a : Nat) (e : SlotEntry) : Bool :=
  match bitsOf e.object 7 0 with
  | 0x01 => decide (a < 8) && decide (2400 ≤ e.budget)
  | 0x02 => decide (a < 8) && decide (4200 ≤ e.budget)
  | 0x10 => decide (8 ≤ a) && decide (a < 16) && decide (200 ≤ e.budget)
  | 0x20 => a == 16 && decide (18000 ≤ e.budget)
  | 0x30 => a == 28 && decide (21 ≤ e.ticks)
  | 0x31 => a == 28 && decide (3 ≤ e.ticks)
  | _ => false
def Pattern.rule17 : List Nat :=
  (List.range 29).flatMap (fun a => needs a 17 ((p.allEntries a).all (fun e => e.kind != .selftest || selftestOk a e)))

/-- Check 9. -/
def Pattern.checkSchedule : Option Failure :=
  if p.topologyOk then
    (leastOf ((List.range 29).flatMap (fun a => p.rule1 a ++ p.rule2 a ++ p.rule3 a ++ p.rule4 a) ++ p.rule5 ++ p.rule6 ++
      p.rule7 ++ p.rule8 ++ p.rule9 ++ p.rule10 ++ p.rule11 ++ p.rule12 ++ p.rule13 ++ p.rule14 ++ p.rule15 ++ p.rule16 ++
      p.rule17 ++ p.rule19)).map (fun d => (.schedule, d))
  else some (.schedule, schedDetail 0xFF 18)

/-! ### Check 10: one writer (R27) -/

/-- Writers of a current-loop output: a task, and loops that name it. -/
def Pattern.cloWriters (o : Nat) : Nat :=
  (if (p.io (48 + o)).u8 0 ≠ 0 ∧ (p.io (48 + o)).u8 10 < 32 then 1 else 0) +
    (p.usedLoops.filter (fun c => descKind (lpDesc (p.loop c) 4) == 3 && descIdx (lpDesc (p.loop c) 4) == o)).length

/-- Writers of a published data set: send items and Terpaene connections that send it. -/
def Pattern.setWriters (n : Nat) : Nat :=
  ((p.plainSets ++ p.pairedSets).filter (fun it => setSend it && setNo it == n)).length +
    (p.tpItems.filter (fun it => decide (tpTxPath it < 4) && tpTxRef it == n)).length

/-- Data set numbers that the section publishes. -/
def Pattern.sentSets : List Nat :=
  ((p.plainSets ++ p.pairedSets).filter setSend).map setNo ++
    (p.tpItems.filter (fun it => decide (tpTxPath it < 4))).map tpTxRef

/-- Check 10. A digital channel has the one WRITER of its IO item, so no two writers can share one. -/
def Pattern.checkWriters : Option Failure :=
  (leastOf (((List.range 8).filter (fun o => decide (1 < p.cloWriters o))).map (fun o => 0x2000 + o) ++
    (p.sentSets.filter (fun n => decide (1 < p.setWriters n))).map (fun n => 0x3000 + n))).map
      (fun d => (.writerConflict, d))

/-! ### Check 11: grants (R33, R100) -/

/-- Blocks that application code never reaches: PAT_, APC_, UPD_ and SEC_, RST_, DGT_ (R33). -/
def appForbidden (addr : Nat) : Bool := [2, 3, 0x10, 0x11, 0x12].contains (addr / 0x10000)

def Pattern.grantOk (k : Nat) : Bool :=
  p.grantAddr k % 4 == 0 && decide (p.grantAddr k < 0x130000) && !appForbidden (p.grantAddr k) &&
    decide (1 ≤ p.grantAccess k) && decide (p.grantAccess k ≤ 3) && (p.item Pattern.GRANTS 8 k).u16 6 == 0

def Pattern.checkGrants : Option Failure :=
  ((List.range (p.items Pattern.GRANTS)).find? (fun k => !p.grantOk k)).map (fun k => (.grant, k))

end Sys2Proof.Machine
end

