-- ==== Sys2Proof/Machine/ResourceCheck.lean ====
section
/-!
DEFINITION. Check 12 of Table 3.7 and the structure inside the sections before check 9 (R65, R67, R98, R99, R110, R137,
R173, R197, R230, R258 to R260, R279, R306, R307, R331, R333, R359, R360, R378, R385, R386, R482).
-/

namespace Sys2Proof.Machine

variable (p : Pattern)

/-- First item of a section that breaks a rule; DETAIL is its index (R67). -/
def Pattern.firstItem (t : Nat) (ok : Nat → Bool) : Option Failure :=
  ((List.range (p.items t)).find? (fun i => !ok i)).map (fun i => (.resource, i))

/-- First number of a list that breaks a rule, with its DETAIL. -/
def firstOf (l : List Nat) (ok : Nat → Bool) (detail : Nat → Nat) : Option Failure :=
  (l.find? (fun i => !ok i)).map (fun i => (.resource, detail i))

def within (lo n : Nat) : Bool := decide (lo ≤ n)
def inRange (n lo hi : Nat) : Bool := decide (lo ≤ n) && decide (n ≤ hi)

/-- Sizes of the memories a Pattern fills (Table 1.3). -/
def codeBytes : Nat := 0x40000
def scratchBytes : Nat := 0x80000
def sharedBytes : Nat := 0x1000000

/-- A run of the core address space lies in the data scratchpad (Table 4.3). -/
def inScratch (addr len : Nat) : Bool := decide (0x10000000 ≤ addr) && decide (addr + len ≤ 0x10080000)

/-! ### Structure of the sections: offsets, lengths, counts (R67) -/

/-- Vectors and matrices of a context's data block (R171), in doubles. -/
def qpBlockWords (it : Bytes) : Nat := qpAreaWords it + (qpVecLens it).sum + qpN it

def Pattern.heapOk (t off len : Nat) : Bool := decide (off + len ≤ (p.bytes t).length)

def Pattern.structureOf (t i : Nat) : Bool :=
  if t = Pattern.CODE then
    if i < 8 then p.heapOk t (p.codeOff i) (p.codeLen i)
    else p.taskKind (i - 8) == 0 || p.heapOk t (p.taskSegOff (i - 8)) (16 * (p.taskSegments (i - 8) + 1))
  else if t = Pattern.INITDATA then
    (p.initItem i).u8 0 != 1 || p.heapOk t ((p.initItem i).u32 12) ((p.initItem i).u32 8)
  else if t = Pattern.SOLVER then !qpUsed (p.qp i) || p.heapOk t (qpHeapOff (p.qp i)) (8 * qpBlockWords (p.qp i))
  else if t = Pattern.NETWORK then
    let it := p.netItem i
    if it.u8 0 = plainKind ∨ it.u8 0 = pairedKind then
      setSend it || setSubst it != 1 || p.heapOk t (setFixed it) (setLen it)
    else if it.u8 0 = 0x31 then mbSubst it != 1 || p.heapOk t (mbFixed it) 80
    else true
  else if t = Pattern.SELVEDGE then (p.selvItem i).u8 0 != 1 || p.heapOk t ((p.selvItem i).u32 4) 64
  else if t = Pattern.PANEL then
    let it := p.item t 256 0
    let b := p.bytes t
    p.heapOk t (it.u32 12) (8 * it.u16 6) && (List.range (it.u16 6)).all (fun k =>
      p.heapOk t (b.u16 (it.u32 12 + 8 * k + 4)) (b.u8 (it.u32 12 + 8 * k + 6)))
  else if t = Pattern.SYMBOLS then p.heapOk t ((p.symbol i).u32 24) ((p.symbol i).u16 28)
  else true

/-- Region records lie within the MEMORY section. -/
def Pattern.regionRecords : Option Failure :=
  if p.heapOk Pattern.MEMORY 4096 4 then
    firstOf (List.range p.regionCount) (fun r => p.heapOk Pattern.MEMORY (4100 + 16 * r) 16) (fun r => 0x100 + r)
  else some (.resource, 0x100)

/-- The structure check between checks 8 and 9, sections in ascending type. -/
def Pattern.checkStructure : Option Failure :=
  firstFailure ((fun _ => p.scheduleLayout) ::
    ((p.sections.map (·.typ)).filter (fun t => t != Pattern.SCHEDULE)).map (fun t => fun _ =>
      if t = Pattern.MEMORY then p.regionRecords else p.firstItem t (p.structureOf t)))

/-! ### CODE (R98, R110, Table 5.1) -/

def Pattern.taskOk (k : Nat) : Bool :=
  let kind := p.taskKind k
  kind == 0 ||
  ((if k < 16 then kind == 1 else kind == 2) && decide (p.taskPriority k ≤ 15) && decide ((p.task k).u16 2 < 4) &&
   (if kind = 1 then p.taskTrigger k == 0 else p.taskPeriod k == 0 && p.taskPhase k == 0 && p.taskSegments k == 1) &&
   within 1 (p.taskSegments k) &&
   (List.range (p.taskSegments k)).all (fun j => decide (p.segEntry k j < codeBytes) && p.segEntry k j % 4 == 0 && zeroes (p.bytes Pattern.CODE) (p.taskSegOff k + 16 * j + 12) 4 &&
     p.segStackLen k j % 16 == 0 && inScratch (p.segStackTop k j - p.segStackLen k j) (p.segStackLen k j)) &&
   zeroes (p.bytes Pattern.CODE) (p.taskSegOff k + 16 * p.taskSegments k + 8) 8 && p.outLen k % 8 == 0 && p.outOff k % 8 == 0 &&
   (p.outLen k == 0 || p.inOneRegion (p.outOff k) (2 * p.outLen k) 1))

def Pattern.codeItemOk (i : Nat) : Bool :=
  if i < 8 then p.codeLen i % 4 == 0 && p.codeLoad i % 4 == 0 && decide (p.codeLoad i + p.codeLen i ≤ codeBytes) &&
    (p.codeItem i).u32 12 == 0
  else p.taskOk (i - 8)

/-! ### INITDATA (Table 5.6, R482) -/

def Pattern.initOk (i : Nat) : Bool :=
  let it := p.initItem i
  let off := it.u32 4
  let len := it.u32 8
  it.u8 3 == 0 &&
  (if it.u8 0 = 0 then i == 0 && decide (it.u8 2 ≤ 2) && it.u32 12 == 0
   else i != 0 && it.u8 2 == 0 && off % 8 == 0 && len % 8 == 0 &&
     (if it.u8 0 = 1 then
       if it.u8 1 = 0 then (List.range p.regionCount).any (fun r => decide (p.regionOff r ≤ off) &&
         decide (off + len ≤ p.regionOff r + p.regionLen r))
       else decide (it.u8 1 ≤ 8) && decide (off + len ≤ scratchBytes)
      else it.u8 0 == 2 && it.u8 1 == 0 && it.u32 12 == 0 && p.inOneRegion off len 3))

/-! ### MEMORY (R99) -/

def Pattern.queueBytes (q : Nat) : Nat := p.queueDepth q * p.queueSize q

def Pattern.queueOk (q : Nat) : Bool :=
  !p.queueDefined q ||
    ((p.queue q).u8 0 == 1 && (decide (p.queueProducer q ≤ 23) && decide (p.queueConsumer q ≤ 23) && inRange (p.queueDepth q) 1 4096 &&
     inRange (p.queueSize q) 8 2048 && p.queueSize q % 8 == 0 && p.queueOff q % 32 == 0 && p.queueBytes q % 32 == 0 &&
     (p.queue q).u8 3 == 0 && zeroes (p.queue q) 12 20 && p.inOneRegion (p.queueOff q) (p.queueBytes q) 2 &&
     (List.range q).all (fun r => !p.queueDefined r || decide (p.queueOff r + p.queueBytes r ≤ p.queueOff q) ||
       decide (p.queueOff q + p.queueBytes q ≤ p.queueOff r))))

def Pattern.regionOk (r : Nat) : Bool :=
  let k := p.regionKind r
  p.regionOff r % 32 == 0 && p.regionLen r % 32 == 0 && decide (p.regionOff r + p.regionLen r ≤ sharedBytes) &&
  decide (k ≤ 5) && zeroes (p.bytes Pattern.MEMORY) (4111 + 16 * r) 5 &&
  (!(k == 0 || k == 4 || k == 5) || p.regionWrite r == 0) &&
  (List.range r).all (fun q => decide (p.regionOff q + p.regionLen q ≤ p.regionOff r) ||
    decide (p.regionOff r + p.regionLen r ≤ p.regionOff q))

def Pattern.checkMemory : Option Failure :=
  firstFailure [
    fun _ => p.firstItem Pattern.MEMORY p.queueOk,
    fun _ => check .resource 0 (inRange p.regionCount 1 256),
    fun _ => firstOf (List.range p.regionCount) p.regionOk (fun r => 0x100 + r)]

/-! ### LOOPS (R137 rules 6 to 8, Table 6.2) -/

def Pattern.sourceOk (it d : Bytes) (k : Nat) : Bool :=
  (d.u16 2 == 0) &&
  match descKind d with
  | 0 => (k == 2 && !lpFfSupply it) || (k == 3 && !lpFfAccel it)
  | 1 => k < 2 || (k == 2 && lpFfSupply it) || (k == 3 && lpFfAccel it)
  | 4 => (k < 2 || (k == 2 && lpFfSupply it) || (k == 3 && lpFfAccel it)) && descOff d % 4 == 0 &&
      p.inOneRegion (descOff d) 5 0
  | 5 => (k < 2 || (k == 2 && lpFfSupply it) || (k == 3 && lpFfAccel it)) && descOff d % 4 == 0 &&
      (p.inOneRegion (descOff d) 4 3 || p.inOneRegion (descOff d) 4 1)
  | 6 => (k < 2 || (k == 2 && lpFfSupply it) || (k == 3 && lpFfAccel it)) && p.queueDefined (descIdx d) &&
      p.queueConsumer (descIdx d) == 8
  | _ => false

def Pattern.destOk (d : Bytes) : Bool :=
  (d.u16 2 == 0) &&
  match descKind d with
  | 0 => true
  | 2 => true
  | 3 => decide (descIdx d ≤ 7)
  | 5 => descOff d % 4 == 0 && p.inOneRegion (descOff d) 4 3
  | 6 => p.queueDefined (descIdx d) && p.queueProducer (descIdx d) == 8
  | _ => false

def Pattern.loopOk (c : Nat) : Bool :=
  let it := p.loop c
  !lpUsed it ||
  ((lpAw it == 0 || (lpAw it != 3 && lpOutLimit it && lpBlock it != 2)) && (!lpInjectable it || lpTraceable it) &&
   (List.range 4).all (fun k => p.sourceOk it (lpDesc it k) k) && p.destOk (lpDesc it 4))

/-! ### SOLVER (R173 rules 1 to 6) -/

def posFinite (v : Nat) : Bool := f64.isFinite v && f64.lt 0 v

/-- Doubles of the vectors of a data block, after the matrices, in the order of R171. -/
def Pattern.qpVectors (c : Nat) : List (List Nat) :=
  cutList (qpVecLens (p.qp c)) (doubles ((p.qpHeap c).drop (8 * qpAreaWords (p.qp c))) (qpVecLens (p.qp c)).sum)

def Pattern.qpDataOk (c : Nat) : Bool :=
  let it := p.qp c
  let v := p.qpVectors c
  let lb := v.getD 3 []
  let ub := v.getD 4 []
  (doubles (p.qpHeap c) (qpAreaWords it)).all f64.isFinite &&
  ((v.getD 0 []) ++ (v.getD 1 []) ++ (v.getD 2 [])).all f64.isFinite &&
  lb.all (fun x => f64.isFinite x || x == 0xFFF0000000000000) &&
  ub.all (fun x => f64.isFinite x || x == 0x7FF0000000000000) && (lb.zip ub).all (fun x => f64.le x.1 x.2) &&
  (doubles ((p.qpHeap c).drop (8 * (qpAreaWords it + (qpVecLens it).sum))) (qpN it)).all f64.isFinite

def qpResultBytes (it : Bytes) : Nat := 32 + 128 * ceilDiv (qpN it) 4
def qpExports (it : Bytes) : Bool := (qpExpIdx it).any (· != 0xFF)

/-- Areas a context writes in the shared SRAM: offset and length. -/
def qpAreas (it : Bytes) : List (Nat × Nat) :=
  (qpOutOff it, qpResultBytes it) :: (if qpExports it then [(qpExpOff it, 32)] else [])

def Pattern.qpAreaOk (a : Nat × Nat) : Bool :=
  a.1 % 32 == 0 && (List.range p.regionCount).any (fun r => p.regionKind r == 3 && p.regionWrite r == 0 &&
    decide (p.regionOff r ≤ a.1) && decide (a.1 + a.2 ≤ p.regionOff r + p.regionLen r))

def apart (a b : Nat × Nat) : Bool := decide (a.1 + a.2 ≤ b.1) || decide (b.1 + b.2 ≤ a.1)

def Pattern.qpOk (c : Nat) : Bool :=
  let it := p.qp c
  !qpUsed it ||
  (decide (it.u16 0 < 32) && inRange (qpN it) 1 96 && decide (qpMeq it ≤ min 32 (qpN it)) && decide (qpMin it ≤ 384) &&
   inRange (qpMaxPass it) 1 4096 && within 1 (qpMissLimit it) && within 1 (qpDeadline it) && decide (it.u8 15 < 32) && qpHeapOff it % 8 == 0 &&
   posFinite (it.u64 40) && posFinite (it.u64 48) && posFinite (it.u64 56) && p.qpDataOk c &&
   (if qpInQueue it then decide (qpInQ it < 128) && p.queueDefined (qpInQ it) && p.queueConsumer (qpInQ it) == 9 &&
        p.queueSize (qpInQ it) == qpInputBytes it && qpInOff it == 0
    else qpInQ it == 0 && qpInOff it % 8 == 0 && (qpInputBytes it == 0 ||
      p.inOneRegion (qpInOff it) (qpInputBytes it) 3 || p.inOneRegion (qpInOff it) (qpInputBytes it) 1)) &&
   (qpAreas it).all p.qpAreaOk &&
   (List.range c).all (fun d => !qpUsed (p.qp d) || (qpAreas (p.qp d)).all (fun a => (qpAreas it).all (apart a))) &&
   (qpExpIdx it).all (fun k => decide (k < qpN it) || k == 0xFF) && decide (qpLoadCost it ≤ qpWorst it))

/-! ### IO (R196, R197) -/

/-- The command's place: a task's output half, or the run A output area of a segment (Table 8.1). -/
def Pattern.commandOk (ch : Nat) : Bool :=
  let it := p.io ch
  let w := it.u8 10
  if w < 32 then p.taskKind w != 0 && decide (it.u32 16 < p.outLen w) && it.u16 20 == 0
  else if w = 0xFE then
    let r := p.runRecord (it.u16 20) false
    (p.selvSegment (it.u16 20)).isSome && p.selvedgeOutput ch && decide (runOutOff r ≤ it.u32 16) &&
      decide (it.u32 16 < runOutOff r + runOutLen r)
  else (w == 0xFD || w == 0xFF) && it.u32 16 == 0 && it.u16 20 == 0

/-- Rules 1 to 4 of R197 for a digital channel. A field that Table 8.1 gives to outputs is 0 for an input, and TEST_SRC
is 0 for an output; FIXED is 1 or 2 in every used item, whatever its SUBST. That a safety output or input has the right
MODE is a rule of the SELVEDGE items (rules 3 and 4 of R230). -/
def Pattern.dioOk (ch : Nat) : Bool :=
  let it := p.io ch
  (!p.selvedgeOutput ch || it.u8 10 == 0xFE) && (!p.selvedgeInput ch || it.u8 3 == 2) &&
  if it.u8 0 = 0 then zeroes it 1 31 else
  decide (it.u8 0 ≤ 3) && it.u8 11 == 0 && zeroes it 22 10 && decide (it.u8 3 ≤ 2) &&
  (it.u8 6 == 1 || it.u8 6 == 2) &&
  it.u32 12 % 8 == 0 && p.inOneRegion (it.u32 12) 5 0 &&
  (if it.u8 0 = 3 then
    it.u8 1 % 2 == 0 && decide (it.u8 1 < 32) && it.u8 7 == 0 && p.commandOk ch &&
    (if bitOf (it.u8 1) 1 || it.u8 10 == 0xFE then inRange (it.u16 8) 100 400
     else it.u16 8 == 0 || inRange (it.u16 8) 100 400) &&
    (!bitOf (it.u8 1) 4 || p.paired)
   else
    decide (it.u8 1 < 2) && it.u16 8 == 0 && it.u8 10 == 0 && it.u32 16 == 0 && it.u16 20 == 0 &&
    (it.u8 7 == 0xFF || (decide (it.u8 7 < 48) && p.ioMode (it.u8 7) == 3 && p.ioWriter (it.u8 7) == 0xFD)))

/-- A current-loop output (Table 8.2, rule 5 of R197). -/
def Pattern.cloOk (o : Nat) : Bool :=
  let it := p.io (48 + o)
  let loops := p.usedLoops.filter (fun c => descKind (lpDesc (p.loop c) 4) == 3 && descIdx (lpDesc (p.loop c) 4) == o)
  if it.u8 0 = 0 then zeroes it 1 31 else
  decide (it.u8 0 ≤ 2) && zeroes it 1 2 && decide (it.u8 3 ≤ 2) && zeroes it 6 4 && it.u8 11 == 0 && it.u16 22 == 0 &&
  it.u32 28 == 0 && it.u32 12 % 8 == 0 && p.inOneRegion (it.u32 12) 5 0 &&
  (if it.u8 10 < 32 then p.taskKind (it.u8 10) != 0 && decide (it.u32 16 + 4 ≤ p.outLen (it.u8 10)) && it.u16 20 == 0
   else if it.u8 10 = 0xFC then it.u32 16 == 0 && loops == [it.u16 20]
   else it.u8 10 == 0xFF && it.u32 16 == 0 && it.u16 20 == 0 && loops.isEmpty)

def Pattern.ioOk (i : Nat) : Bool := if i < 48 then p.dioOk i else p.cloOk (i - 48)

/-! ### NETWORK (R258 to R260, R277 to R280, R289, R294, R306, R307) -/

/-- The buffer of a send item: in a task's output half, or in a segment's run A output area. -/
def Pattern.sendBufOk (writer off len seg : Nat) (aligned : Bool) : Bool :=
  if writer < 32 then p.taskKind writer != 0 && decide (off + len ≤ p.outLen writer) && seg == 0 && (!aligned || off % 8 == 0)
  else
    let r := p.runRecord seg false
    writer == 0xFE && (p.selvSegment seg).isSome && decide (runOutOff r ≤ off) &&
      decide (off + len ≤ runOutOff r + runOutLen r)

/-- Slots of a port that send a source. -/
def Pattern.slotsFor (port src ref : Nat) : Nat :=
  ((p.ethSlots port).filter (fun it => ethSlotSrc it == src && ethSlotRef it == ref)).length

/-- A selvedge segment reads a receive item (R260 rule 2): without a segment none does; which of the bytes their code
reads is left open (log 43). -/
def Pattern.selvReads (off len : Nat) : Bool :=
  !p.segments.isEmpty && Config.selvReads (p.bytes Pattern.SELVEDGE) off len

/-- A data set item, plain or paired (Table 10.1, R306, R260 rules 1 to 5, R307). -/
def Pattern.setOk (it : Bytes) : Bool :=
  let paired := it.u8 0 == pairedKind
  (if paired then decide (it.u8 1 < 4) else decide (it.u8 1 < 16) && !bitOf (it.u8 1) 1 && decide (4 ≤ it.u8 1)) &&
  decide (setNo it < 4096) && setLen it % 4 == 0 && inRange (setLen it) 4 (if paired then 1024 else 1488) &&
  inRange (setPeriod it) 1 8192 && p.seamLen % setPeriod it == 0 && decide (setPhase it < setPeriod it) &&
  it.u8 21 == 0 && it.u16 26 == 0 &&
  (if setSend it then
    setWindow it == 0 && setSubst it == 0 && setTimeout it == 0 && setHoldLim it == 0 && setPeer it == 0xFFFF &&
    setFixed it == 0 && (setSafe it == (setWriter it == 0xFE)) && (paired || decide (setWriter it < 32)) &&
    p.sendBufOk (setWriter it) (setBuf it) (setLen it) (setSeg it) false &&
    [0, 1].all (fun q => !setOnPort it q || p.slotsFor q (if paired then 1 else 0) (setNo it) == 1)
   else
    (if paired then inRange (setWindow it) 1 8 && decide (setSubst it ≤ 2)
     else setWindow it == 0 && decide (setSubst it ≤ 1)) &&
    (!setSafe it || setSubst it == 2) && within 1 (setTimeout it) && p.selvReads (setBuf it) (setLen it) == setSafe it &&
    within (setPeriod it + setWindow it - 1) (setTimeout it) && setWriter it == 0 &&
    setSeg it == 0 && decide (setPeer it < 4096) && setBuf it % 8 == 0 &&
    (if setSubst it = 1 then decide (setFixed it + setLen it ≤ (p.bytes Pattern.NETWORK).length) else setFixed it == 0) &&
    p.inOneRegion (setBuf it) (setLen it + 1) 0)

/-- A path of a Terpaene connection: its slots for sending, its mailbox for receiving (R260 rule 8, R289, R294). -/
def Pattern.txPathOk (it : Bytes) : Bool :=
  if tpTxPath it = 4 then
    ((p.canSlot (tpTxRef it / 64) (tpTxRef it % 64)).map (fun s => slotSrc s == 2)).getD false &&
      ((p.canItem (tpTxRef it / 64)).map (fun c => canModeOf c != 0)).getD false
  else inRange (tpTxPath it) 1 3 && decide (tpTxRef it < 4096) &&
    [0, 1].all (fun q => !pathIncludes (tpTxPath it) (q + 1) || p.slotsFor q 2 (tpConn it) == 1)
def Pattern.rxPathOk (it : Bytes) : Bool :=
  if tpRxPath it = 4 then
    ((p.mailbox (tpRxRef it / 64) (tpRxRef it % 64)).map (fun m => !mbImage m)).getD false &&
      ((p.canItem (tpRxRef it / 64)).map (fun c => canModeOf c != 0)).getD false
  else inRange (tpRxPath it) 1 3 &&
    (p.plainSets ++ p.pairedSets).any (fun d => setNo d == tpRxRef it)

/-- A Terpaene connection (Table 10.2, R260). -/
def Pattern.tpOk (i : Nat) (it : Bytes) : Bool :=
  decide (it.u8 1 < 4) && decide (tpConn it < 32) && inRange (tpCrcLimit it) 1 15 && tpId it != 0 &&
  inRange (tpWdtMs it) 2 1000 && decide (tpLen it ≤ if tpTxPath it = 4 ∨ tpRxPath it = 4 then 44 else 256) &&
  inRange (tpPeriod it) 1 8192 && p.seamLen % tpPeriod it == 0 && it.u8 29 == 0 &&
  within (4 * tpPeriod it * p.period) (tpWdtMs it * 1000000) && p.txPathOk it && p.rxPathOk it &&
  (if tpProducer it then (tpSafe it == (tpWriter it == 0xFE)) &&
      p.sendBufOk (tpWriter it) (tpBuf it) (tpLen it) (tpSeg it) false
   else tpWriter it == 0 && tpSeg it == 0 && tpBuf it % 8 == 0 && p.inOneRegion (tpBuf it) (tpLen it + 1) 0 &&
      p.selvReads (tpBuf it) (tpLen it) == tpSafe it) &&
  (List.range i).all (fun j => (p.netItem j).u8 0 != tpKind ||
    (tpConn (p.netItem j) != tpConn it && tpId (p.netItem j) != tpId it))

/-- A CAN controller (Table 11.2, R279 rules 1 to 5, R280). -/
def Pattern.canOk (i : Nat) (it : Bytes) : Bool :=
  let n := it.u8 1
  let nomTq := it.u16 4 * (1 + it.u16 6 + it.u8 8)
  let datTq := it.u8 10 * (1 + it.u8 11 + it.u8 12)
  decide (n < 8) && decide (it.u8 2 ≤ 3) && decide (it.u8 3 < 32) && inRange (it.u16 4) 1 512 &&
  inRange (it.u16 6) 2 256 && inRange (it.u8 8) 2 128 && inRange (it.u8 9) 1 (it.u8 8) && inRange (it.u8 10) 1 32 &&
  inRange (it.u8 11) 1 32 && inRange (it.u8 12) 1 16 && inRange (it.u8 13) 1 (it.u8 12) && decide (it.u8 14 ≤ 127) &&
  decide (it.u8 15 ≤ 127) && it.u16 18 == 0 && it.u32 28 == 0 &&
  inRange nomTq 80 8000 && within datTq nomTq && within 10 datTq && (!canTdcEn it || decide (it.u8 10 ≤ 2)) &&
  (canFifoQ it == 0xFF || (p.queueDefined (canFifoQ it) && p.queueConsumer (canFifoQ it) == 14 + n &&
    p.queueSize (canFifoQ it) == 80 && decide (p.queueDepth (canFifoQ it) ≤ 32))) &&
  (canRxQ it == 0xFF || (p.queueDefined (canRxQ it) && p.queueProducer (canRxQ it) == 14 + n &&
    p.queueSize (canRxQ it) == 80 && decide (p.queueDepth (canRxQ it) ≤ 64))) &&
  (List.range i).all (fun j => (p.netItem j).u8 0 != 0x30 || (p.netItem j).u8 1 != n)

/-- Is the controller of a mailbox or slot item in use (R279 rule 1), and its number its own (rule 6)? -/
def Pattern.canPartOk (i : Nat) (it : Bytes) : Bool :=
  ((p.canItem (it.u8 1)).map (fun c => canModeOf c != 0)).getD false &&
  (List.range i).all (fun j => (p.netItem j).u8 0 != it.u8 0 || (p.netItem j).u8 1 != it.u8 1 ||
    (p.netItem j).u8 2 != it.u8 2)

def Pattern.mbOk (i : Nat) (it : Bytes) : Bool :=
  p.canPartOk i it && decide (it.u8 1 < 8) && decide (mbNo it < 64) && decide (it.u8 3 < 2) && decide (mbSubst it ≤ 2) &&
  zeroes it 21 3 && it.u32 28 == 0 &&
  (if mbSubst it = 1 then decide (mbFixed it + 80 ≤ (p.bytes Pattern.NETWORK).length) else mbFixed it == 0) &&
  (if mbImage it then mbImgOff it % 8 == 0 && p.inOneRegion (mbImgOff it) 81 0 && !p.selvReads (mbImgOff it) 80
   else mbImgOff it == 0)

def Pattern.canSlotOk (i : Nat) (it : Bytes) : Bool :=
  p.canPartOk i it && decide (it.u8 1 < 8) && decide (it.u8 2 < 16) && it.u8 7 == 0 && zeroes it 16 16 &&
  match slotSrc it with
  | 0 => decide (slotQ it < 128) && p.queueDefined (slotQ it) && p.queueConsumer (slotQ it) == 14 + it.u8 1 &&
      p.queueSize (slotQ it) == 80 && slotWriter it == 0 && it.u8 6 == 0 && slotBuf it == 0 && slotFrameId it == 0
  | 1 => slotQ it == 0 && it.u8 6 == 0 && slotFrameId it == 0 && decide (slotWriter it < 32) &&
      p.sendBufOk (slotWriter it) (slotBuf it) 80 0 true
  | 2 => slotQ it == 0 && slotWriter it == 0 && decide (it.u8 6 ≤ 1) && slotBuf it == 0 &&
      bitOf (slotFrameId it) 31 && !bitOf (slotFrameId it) 30 &&
      (bitOf (slotFrameId it) 29 || bitsOf (slotFrameId it) 28 11 == 0) &&
      ((p.tpItems.filter (fun t => tpTxPath t == 4 && tpTxRef t == 64 * it.u8 1 + it.u8 2)).length == 1)
  | _ => false

/-- An Ethernet slot item (Table 12.3, R307): the source it names exists, its number is its own. -/
def Pattern.ethSlotOk (i : Nat) (it : Bytes) : Bool :=
  decide (it.u8 1 < 2) && decide (ethSlotNo it < 64) && zeroes it 6 26 &&
  (match ethSlotSrc it with
   | 0 => p.plainSets.any (fun s => setSend s && setNo s == ethSlotRef it && setOnPort s (it.u8 1))
   | 1 => p.pairedSets.any (fun s => setSend s && setNo s == ethSlotRef it)
   | 2 => ((p.tpItem (ethSlotRef it)).map (fun t => pathIncludes (tpTxPath t) (it.u8 1 + 1))).getD false
   | 3 => ethSlotRef it == 0 && p.paired && (List.range i).all (fun j =>
       !((p.netItem j).u8 0 == 0x42 && (p.netItem j).u8 1 == it.u8 1 && ethSlotSrc (p.netItem j) == 3))
   | _ => false) &&
  (List.range i).all (fun j => (p.netItem j).u8 0 != 0x42 || (p.netItem j).u8 1 != it.u8 1 ||
    (p.netItem j).u8 2 != it.u8 2)

/-- A port item (Table 12.1): its fields in range, and for a paired station exactly one slot for the pair messages on
the port (R307). That its index is the DETAIL is a DESIGN CHOICE (log 46). -/
def Pattern.portOk (i : Nat) (it : Bytes) : Bool :=
  decide (it.u8 1 < 2) && decide (portSpeed it ≤ 2) && decide (it.u8 3 < 8) && decide (portPcp it ≤ 7) && zeroes it 12 20 &&
  (if portVlan it then inRange (portVid it) 1 4094 else portVid it == 0 && portPcp it == 0) &&
  (if portMacsec it then decide (portReplay it ≤ 65535) else portReplay it == 0 && it.u8 7 == 0) &&
  (!p.paired || p.slotsFor (it.u8 1) 3 0 == 1) &&
  (List.range i).all (fun j => !((p.netItem j).u8 0 == 0x40 && (p.netItem j).u8 1 == it.u8 1))

/-- A PTP item with an enabled instance (Table 12.6, R318): its fields in range, and of the DOMAIN of the other. That
the module refuses the Pattern otherwise is a DESIGN CHOICE (log 46). -/
def Pattern.ptpOk (i : Nat) (it : Bytes) : Bool :=
  let log (v : Nat) (lo hi : Int) : Bool := decide (lo ≤ sgn 8 v) && decide (sgn 8 v ≤ hi)
  decide (it.u8 1 < 2) && decide (it.u8 3 < 16) && zeroes it 16 16 &&
  (List.range i).all (fun j => !((p.netItem j).u8 0 == 0x41 && (p.netItem j).u8 1 == it.u8 1)) &&
  (!bitOf (it.u8 3) 3 ||
    (decide (ptpDomain it ≤ 127) && log (ptpLogSync it) (-4) 1 && decide (ptpLogAnnounce it ≤ 3) &&
      log (ptpLogDelay it) (-4) 5 && inRange (it.u8 10) 2 10 && decide (ptpAcqS it ≤ 60) &&
      inRange (ptpLockNs it) 20 1000000 &&
      (List.range i).all (fun j => !((p.netItem j).u8 0 == 0x41 && bitOf ((p.netItem j).u8 3) 3) ||
        ptpDomain (p.netItem j) == ptpDomain it)))

/-- NETWORK items; the spec names no refusal of another KIND. -/
def Pattern.netOk (i : Nat) : Bool :=
  let it := p.netItem i
  if it.u8 0 = plainKind then p.setOk it
  else if it.u8 0 = pairedKind then
    decide (((List.range i).filter (fun j => (p.netItem j).u8 0 == pairedKind)).length < 1024) && p.setOk it
  else if it.u8 0 = tpKind then p.tpOk i it
  else if it.u8 0 = 0x30 then p.canOk i it
  else if it.u8 0 = 0x31 then p.mbOk i it
  else if it.u8 0 = 0x32 then p.canSlotOk i it
  else if it.u8 0 = 0x40 then p.portOk i it
  else if it.u8 0 = 0x41 then p.ptpOk i it
  else if it.u8 0 = 0x42 then p.ethSlotOk i it
  else true

/-! ### SELVEDGE (R229, R230) -/

/-- The number within its KIND by which items are ordered. -/
def selvNo (it : Bytes) : Nat :=
  match it.u8 0 with
  | 1 => it.u16 2
  | 2 => it.u8 2
  | 3 => it.u8 1
  | 4 => it.u32 4
  | _ => it.u8 1

def Pattern.selvOrdered (i : Nat) : Bool :=
  let it := p.selvItem i
  let b := p.selvItem (i - 1)
  if i = 0 then it.u8 0 == 0
  else inRange (it.u8 0) 1 5 && (decide (b.u8 0 < it.u8 0) || (b.u8 0 == it.u8 0 && decide (selvNo b < selvNo it)))

def Pattern.selvCounts : Bool :=
  let h := p.selvItem 0
  h.u16 4 == (p.selvItems 1).length && h.u8 6 == (p.selvItems 2).length && h.u8 7 == (p.selvItems 3).length &&
    h.u8 8 == (p.selvItems 5).length && decide (h.u8 6 ≤ 64) && decide (h.u8 7 ≤ 48) && decide (h.u8 8 ≤ 16)

/-- A channel that is a SINGLE input no function names (R230 rule 6). -/
def Pattern.ownInput (ch : Nat) : Bool :=
  (p.selvItems 3).any (fun it => inForm it == 0 && inChA it == ch &&
    p.functions.all (fun f => !(fnInputs (p.fn f)).contains (it.u8 1)))

/-- A run record (R106, R230 rule 8). -/
def Pattern.runOk (r : Bytes) : Bool :=
  decide (runCore r < 8) && decide (runEntry r < codeBytes) && runEntry r % 4 == 0 &&
  inScratch (runStackTop r - runStackLen r) (runStackLen r) && inScratch (runDataOff r) (runDataLen r) &&
  (runOutLen r == 0 || p.inOneRegion (runOutOff r) (runOutLen r) 1) && zeroes r 29 3

def Pattern.fnOk (it : Bytes) : Bool :=
  !(fnOutputs it).isEmpty && (!(fnInputs it).isEmpty || fnLseg it != 0xFFFF) && decide (it.u8 1 ≤ 1) &&
  decide (it.u8 3 < 2) && (!fnAutoReset it || !fnInterlock it) && decide (it.u8 2 < 64) &&
  (fnOutputs it).all (fun ch => decide (ch < 48) && p.ioMode ch == 3 && p.ioWriter ch == 0xFE) &&
  (fnInputs it).all (fun n => (p.inputItem n).isSome) && (fnRst it == 0xFF || (p.resetItem (fnRst it)).isSome) &&
  (fnLseg it == 0xFFFF || ((p.selvSegment (fnLseg it)).isSome &&
    decide (fnLogicOff it < runOutLen (p.runRecord (fnLseg it) false)))) &&
  (List.range 8).all (fun c => !bitOf (fnCtxMask it) c || qpSafety (p.qp c))

def Pattern.inputOk (it : Bytes) : Bool :=
  decide (it.u8 1 < 48) && decide (inForm it ≤ 2) &&
  (inChannels it).all (fun ch => decide (ch < 48) && p.isInput ch && (p.io ch).u8 3 == 2) &&
  (inForm it != 0 || inChB it == 0xFF) && (inForm it == 0 || inChA it != inChB it) &&
  inRange (inDisc it) (ceilDiv 10000000 p.period) (10000000000 / p.period)

/-- No item of the same KIND before item i names one of the channels `chs` that item i names. -/
def Pattern.selvChannelsNew (i : Nat) (chs : Bytes → List Nat) : Bool :=
  (List.range i).all (fun j => (p.selvItem j).u8 0 != (p.selvItem i).u8 0 ||
    (chs (p.selvItem i)).all (fun ch => !(chs (p.selvItem j)).contains ch))

/-- Bytes that Table 9.1 does not list in an item of a KIND. -/
def selvReserved (kind : Nat) : List Nat :=
  match kind with
  | 0 => [2, 3] ++ (List.range 23).map (· + 9)
  | 1 => 1 :: (List.range 24).map (· + 8)
  | 2 => (List.range 8).map (· + 24)
  | 3 => [5, 6, 7] ++ (List.range 20).map (· + 12)
  | 4 => [1, 2, 3, 9, 10, 11] ++ (List.range 16).map (· + 16)
  | _ => [3, 4, 5, 6, 7] ++ (List.range 16).map (· + 16)

/-- A run B symbol item names a SELVEDGE symbol (Table 9.1). -/
def Pattern.runBOk (it : Bytes) : Bool :=
  inRange (it.u8 8) 1 8 && ((p.symIndex (it.u32 4)).map (fun k => bitOf (p.symFlags k) 1)).getD false

/-- Every context with SAFETY is in some function's CTX_MASK (R230 rule 7). -/
def Pattern.safetyContextsNamed : Bool :=
  (List.range 8).all (fun c => !(qpUsed (p.qp c) && qpSafety (p.qp c)) || !(p.fnsOfContext c).isEmpty)

/-- R229, and rules 2 to 8 of R230. A number in an item names an item that exists, and unlisted bytes are 0 (log 77). -/
def Pattern.selvOk (i : Nat) : Bool :=
  let it := p.selvItem i
  (selvReserved (it.u8 0)).all (fun k => it.u8 k == 0) &&
  match it.u8 0 with
  | 0 => p.ownInput p.ackCh && p.resets.all (fun r => rstCh ((p.resetItem r).getD []) != p.ackCh) &&
      p.safetyContextsNamed
  | 1 =>
    let a := p.runRecord (it.u16 2) false
    let b := p.runRecord (it.u16 2) true
    decide (it.u16 2 < 4096) && p.runOk a && p.runOk b && runCore a != runCore b &&
      (runOutLen a == 0 || apart (runOutOff a, runOutLen a) (runOutOff b, runOutLen b))
  | 2 => p.fnOk it && p.selvChannelsNew i fnOutputs
  | 3 => p.inputOk it && p.selvChannelsNew i inChannels
  | 4 => p.runBOk it
  | _ => decide (it.u8 1 < 16) && p.ownInput (rstCh it) &&
      (List.range 64).all (fun f => !bitOf (rstMask it) f || (p.fnItem f).isSome)

/-- A Pattern without a SELVEDGE section has no function, so a context with SAFETY breaks rule 7 there too; no item is at
fault, and DETAIL is 0 (R67). -/
def Pattern.checkSelvedge : Option Failure :=
  if p.hasSelvedge then
    p.firstItem Pattern.SELVEDGE (fun i => p.selvOrdered i && (i != 0 || p.selvCounts) && p.selvOk i)
  else check .resource 0 p.safetyContextsNamed

/-! ### LINING (R331, R333 rules 1 to 6) -/

/-- The length Table 13.7 gives an item. -/
def Pattern.liningLength (it : Bytes) : Option Nat :=
  match lnKind it with
  | 1 => if lnOff it % 32 = 0 ∧ lnLen it % 32 = 0 ∧ lnIdx it = 0 ∧ lnAux it = 0 ∧
      (p.inOneRegion (lnOff it) (lnLen it) 3 || p.inOneRegion (lnOff it) (lnLen it) 1) then some (lnLen it) else none
  | 2 => if lnOff it = 0 ∧ lnIdx it + lnAux it ≤ 256 then some (1024 * lnAux it) else none
  | 3 => if lnOff it = 0 ∧ lnAux it = 0 ∧ qpUsed (p.qp (lnIdx it)) then
      some (256 + 32 * ceilDiv (qpInputBytes (p.qp (lnIdx it))) 32 + 32 + 128 * ceilDiv (qpN (p.qp (lnIdx it))) 4)
      else none
  | 4 => if lnOff it = 0 ∧ lnAux it = 0 ∧ lnIdx it < 32 ∧ p.taskKind (lnIdx it) ≠ 0 then some (p.outLen (lnIdx it)) else none
  | 5 => if lnOff it = 0 ∧ lnAux it = 0 ∧ (p.selvSegment (lnIdx it)).isSome then
      some (runOutLen (p.runRecord (lnIdx it) false)) else none
  | 6 => if lnOff it = 0 ∧ lnAux it = 0 ∧ lnIdx it = 0 then some 2048 else none
  | 7 => if lnOff it = 0 ∧ lnAux it = 0 ∧ lnIdx it = 0 then some 4096 else none
  | _ => none

/-- Shared SRAM that an item reads or writes: offset and length; of a task's output area both halves. -/
def Pattern.liningPlace (it : Bytes) : Nat × Nat :=
  let k := lnIdx it
  match lnKind it with
  | 1 => (lnOff it, lnLen it)
  | 3 => (qpOutOff (p.qp k), 32 + 128 * ceilDiv (qpN (p.qp k)) 4)
  | 4 => (p.outOff k, 2 * p.outLen k)
  | 5 => (runOutOff (p.runRecord k false), runOutLen (p.runRecord k false))
  | _ => (0, 0)

/-- Two items overlap or name one object. -/
def Pattern.liningClash (a b : Bytes) : Bool :=
  let x := p.liningPlace a
  let y := p.liningPlace b
  (x.2 != 0 && y.2 != 0 && !apart x y) ||
    (lnKind a == lnKind b && lnKind a != 1 &&
      (if lnKind a = 2 then !apart (lnIdx a, lnAux a) (lnIdx b, lnAux b) else lnIdx a == lnIdx b))

/-- Every byte of a retained run lies in a SHARED item. -/
def Pattern.retainedCovered : Bool :=
  (List.range (p.items Pattern.INITDATA)).all (fun k =>
    let it := p.initItem k
    it.u8 0 != 2 || (List.range (it.u32 8 / 8)).all (fun j =>
      (List.range (p.items Pattern.LINING)).any (fun l =>
        let ln := p.liningItem l
        lnKind ln == 1 && decide (lnOff ln ≤ it.u32 4 + 8 * j) && decide (it.u32 4 + 8 * j + 8 ≤ lnOff ln + lnLen ln))))

def Pattern.liningOk (i : Nat) : Bool :=
  let it := p.liningItem i
  if i = 0 then
    lnKind it == 0 && it.u8 1 == 0 && lnIdx it == 0 && inRange p.witWaitMs 6 255 && inRange p.claimB 8 8192 &&
    lnAux it / 256 % 256 == 0 && p.mirrorOff % 0x100000 == 0x80000 &&
    (List.range p.regionCount).any (fun r => p.regionKind r == 4 && p.regionOff r == p.mirrorOff &&
      p.regionLen r == 0x100000) &&
    ((List.range (p.items Pattern.LINING)).map (fun k => if k = 0 then 0 else lnLen (p.liningItem k))).sum ==
      p.liningBytes && decide (p.liningBytes ≤ 524288) && decide (p.packetsOf p.liningSlots ≤ 2048) &&
    p.retainedCovered && p.epochLen != 0 && p.seamLen % p.epochLen == 0
  else
    inRange (lnKind it) 1 7 && decide (it.u8 1 < 32) && p.liningLength it == some (lnLen it) &&
    (List.range i).all (fun j => j == 0 || !p.liningClash (p.liningItem j) it)

/-! ### RECORDER (R359, R360) -/

def Pattern.recAt (i : Nat) : Bytes := p.item Pattern.RECORDER 128 i
/-- Run k of an item: address, kind (1 symbol), words (Table 14.3). -/
def recRun (it : Bytes) (k : Nat) : Nat × Nat × Nat := (it.u32 (8 + 8 * k), it.u8 (12 + 8 * k), it.u8 (13 + 8 * k))

/-- A PTP_CAPc_HI register: its read removes a capture. -/
def isCaptureHi (addr : Nat) : Bool := (List.range 16).any (fun c => addr == (F.PTP_CAP_HI_TIME c).addr)

def Pattern.recRunOk (it : Bytes) (k : Nat) : Bool :=
  let r := recRun it k
  if k < it.u8 3 then
    inRange r.2.2 1 48 && it.u16 (14 + 8 * k) == 0 &&
    (if r.2.1 = 0 then r.1 % 4 == 0 && (List.range r.2.2).all (fun j =>
        decide (r.1 + 4 * j < 0x130000) && !isCaptureHi (r.1 + 4 * j))
     else r.2.1 == 1 && ((p.symIndex r.1).map (fun q => p.symRegion q == 0 && decide (4 * r.2.2 ≤ p.symSize q))).getD false)
  else zeroes it (8 + 8 * k) 8

def Pattern.recOk (i : Nat) : Bool :=
  let it := p.recAt i
  (i == 0 || decide ((p.recAt (i - 1)).u16 0 < it.u16 0)) && decide (p.items Pattern.RECORDER ≤ 256) &&
  within 1 (it.u8 2) && decide (it.u8 3 ≤ 15) && within 1 (it.u16 4) && it.u16 6 == 0 &&
  (List.range 15).all (p.recRunOk it) && decide (((List.range (it.u8 3)).map (fun k => (recRun it k).2.2)).sum ≤ 48)

/-- Rule 6 of R360: every REC_RAISE of a code image names a code with an item. -/
def Pattern.recRaises : Option Failure :=
  firstOf ((List.range 8).flatMap (fun c => (p.codeWords c).filterMap (fun w =>
    match decodeStitch c w with
    | some (.recRaise _ arg) => some (0x8000 + arg.toNat)
    | _ => none))) (fun code => (p.recItem code).isSome) id

/-! ### POWER (R385, R386) -/

def Pattern.power : Bytes := p.item Pattern.POWER 32 0
def Pattern.pwStatic : Nat := p.power.u32 0
def Pattern.pwDynamic : Nat := p.power.u32 4
def Pattern.watchEn : Bool := bitOf (p.power.u8 8) 0
def Pattern.wakePin : Bool := bitOf (p.power.u8 8) 1
def Pattern.wakeFeed : Bool := bitOf (p.power.u8 8) 2
def Pattern.wakeFs : Bool := bitOf (p.power.u8 8) 3
def Pattern.wakeStart : Nat := p.power.u8 9
def Pattern.samplePeriod : Nat := p.power.u8 10
def Pattern.sampleConfirm : Nat := p.power.u8 11
def Pattern.sampleMask : Nat := p.power.u16 12
def Pattern.sampleExpect : Nat := p.power.u16 14
def Pattern.alarmS : Nat := p.power.u32 16

/-- Domains that Table 16.1 requires a static vote for. -/
def Pattern.requiredDomains : List Nat :=
  (List.range 8).filter (fun c => p.codeLen c != 0 || !(p.allEntries c).isEmpty) ++ (if p.usedLoops.isEmpty then [] else [8]) ++
    (if p.usedCtxs.isEmpty then [] else [9]) ++
    (if (List.range 48).any (fun ch => p.ioMode ch != 0) then [14] else []) ++ (if p.paired then [17] else [])

/-- Domains that items of NETWORK and IO use. -/
def Pattern.usedDomains : List Nat :=
  let onPort := fun q => (p.portItem q).isSome || !(p.ethSlots q).isEmpty ||
    (p.plainSets ++ p.pairedSets).any (fun it => setOnPort it q) || p.tpItems.any (fun it =>
      pathIncludes (tpTxPath it) (q + 1) || pathIncludes (tpRxPath it) (q + 1))
  (if onPort 0 then [10] else []) ++ (if onPort 1 then [11] else []) ++
    (if (p.netItems 0x30).isEmpty then [] else [13]) ++
    (if (List.range 48).any (fun ch => p.ioMode ch != 0) then [14] else []) ++
    (if (List.range 8).any (fun o => (p.io (48 + o)).u8 0 != 0) then [15] else [])

def Pattern.powerRanges : Bool :=
  decide (p.pwStatic < 0x40000) && !bitOf p.pwStatic 12 && !bitOf p.pwStatic 16 &&
  (List.range 32).all (fun d => !bitOf p.pwDynamic d || [10, 11, 13, 15].contains d) &&
  (List.range 32).all (fun d => !(bitOf p.pwStatic d && bitOf p.pwDynamic d)) && decide (p.power.u8 8 < 16) &&
  zeroes p.power 20 12 && (!p.watchEn || (decide (p.wakeStart ≤ 2) && inRange p.samplePeriod 1 240 &&
    inRange p.sampleConfirm 1 4))

def Pattern.checkPower : Option Failure :=
  firstFailure [
    fun _ => firstOf p.requiredDomains (fun d => bitOf p.pwStatic d) id,
    fun _ => firstOf p.usedDomains (fun d => bitOf p.pwStatic d || bitOf p.pwDynamic d) id,
    fun _ => if p.watchEn then
        firstOf (List.range 16) (fun n => !bitOf p.sampleMask n || p.isInput n) (fun n => 0x100 + n)
      else none,
    fun _ => check .resource 0 p.powerRanges]

/-! ### SYMBOLS (R65) -/

/-- Bytes of the memory a REGION names (Table 1.3, R126; Table 3.6). -/
def symStore (region : Nat) : Nat :=
  match region with
  | 0 => sharedBytes
  | 9 => 0x40000
  | 10 => 0x400000
  | 11 => 0x400000
  | _ => 0x80000

def Pattern.symOk (i : Nat) : Bool :=
  let it := p.symbol i
  p.symId i != 0 && (i == 0 || decide (p.symId (i - 1) < p.symId i)) && decide (p.symKind i ≤ 7) &&
  decide (p.symType i ≤ 9) && decide (p.symFlags i < 64) && (decide (p.symRegion i ≤ 11) || p.symRegion i == 255) &&
  zeroes it 9 3 && it.u16 30 == 0 && inRange (it.u16 28) 1 255 &&
  decide (32 * p.items Pattern.SYMBOLS ≤ it.u32 24) && utf8Ok (p.symName i) &&
  (it.u32 20 == 0 || (p.symIndex (it.u32 20)).isSome) &&
  (p.symRegion i == 255 || decide (p.symOff i + p.symSize i ≤ symStore (p.symRegion i)))

/-- The PANEL item (R378): N_ALARM and every TEXT_LEN in range, every alarm a BOOL symbol in REGION 0. That a Pattern which
breaks these is refused is the model's choice (log 128). -/
def Pattern.panelOk (i : Nat) : Bool :=
  let it := p.item Pattern.PANEL 256 i
  let b := p.bytes Pattern.PANEL
  decide (it.u16 6 ≤ 64) && (List.range (it.u16 6)).all (fun k =>
    let r : Bytes := b.drop (it.u32 12 + 8 * k)
    inRange (r.u8 6) 1 40 &&
      ((p.symIndex (r.u32 0)).map (fun s => p.symType s == 1 && p.symRegion s == 0)).getD false)

/-- Check 12, sections in ascending type. -/
def Pattern.checkResources : Option Failure :=
  firstFailure [
    fun _ => p.firstItem Pattern.CODE p.codeItemOk,
    fun _ => p.firstItem Pattern.INITDATA p.initOk,
    fun _ => check .resource 0 (decide (p.retainedBytes + 64 ≤ 0x200000)),
    fun _ => p.checkMemory,
    fun _ => p.firstItem Pattern.LOOPS p.loopOk,
    fun _ => p.firstItem Pattern.SOLVER p.qpOk,
    fun _ => p.firstItem Pattern.IO p.ioOk,
    fun _ => p.firstItem Pattern.NETWORK p.netOk,
    fun _ => p.checkSelvedge,
    fun _ => p.firstItem Pattern.LINING p.liningOk,
    fun _ => p.firstItem Pattern.RECORDER p.recOk,
    fun _ => p.recRaises,
    fun _ => p.firstItem Pattern.PANEL p.panelOk,
    fun _ => p.checkPower,
    fun _ => p.firstItem Pattern.SYMBOLS p.symOk]

end Sys2Proof.Machine
end

