-- ==== Sys2Proof/Machine/LoopEngine.lean ====
section
/-!
DEFINITION. The loop engine's commands: group entries, HOLD, CLOSE, SWAP, the store window and the Bobbin (R135 to
R166).
-/

namespace Sys2Proof.Machine

/-! ### LOOP_GRP -/

/-- First channel and number of channels of a LOOP_GRP object (Table 2.4). -/
def grpFirst (object : Nat) : Nat := bitsOf object 7 0
def grpCount (object : Nat) : Nat := bitsOf object 15 8 + 1
def grpChannels (object : Nat) : List Nat := (List.range (grpCount object)).map (· + grpFirst object)

/-- The channels of an entry that are due in this stitch. -/
def State.grpDue (s : State) (p : Pattern) (object : Nat) : List Nat :=
  (grpChannels object).filter (fun c => lpDue (p.loop c) s.seamPos)

/-- Channels are computed one after the other, in ascending order, from START (R135, R150); answers the cycles. -/
def State.grpCompute (s : State) (p : Pattern) (start : Nat) (cs : List Nat) : Nat × State :=
  cs.foldl (fun r c =>
    let n := r.1 + r.2.lpCycles p c
    (n, r.2.lpDueSample p (start + n / 80) c)) (8, s)

/-- Channels are left uncomputed in this stitch (R50, R159). -/
def State.grpNotComputed (s : State) (p : Pattern) (cs : List Nat) : State :=
  cs.foldl (fun s c => s.lpNotComputed p c) s

/-- An entry that overruns: how many of its due channels were computed before is a free value, less than all (log 38).
-/
def State.grpCut (s : State) (p : Pattern) (e : SlotEntry) : State :=
  let cs := s.grpDue p e.object
  let f := s.fresh
  let n := f.1 % max 1 cs.length
  ((f.2.grpCompute p e.start (cs.take n)).2).grpNotComputed p (cs.drop n)

/-- A group entry from its START tick: every due channel in ascending order, then the entry ends (R135, R144). -/
def State.loopGrpStart (s : State) (l k : Nat) (r : Running) (p : Pattern) : State :=
  let a := laneAgent l
  let s := s.atTick r.entry.start
  match (s.agent a).running with
  | some _ => ((s.countOverrun a 2 r).grpNotComputed p (s.grpDue p r.entry.object)).passEntry a k
  | none =>
    let s := s.setB F.LPE_STATUS_STANDBY_PASS s.passive
    if !s.entryMayRun || s.passive then s.finishEntry a k
    else (s.grpCompute p r.entry.start (s.grpDue p r.entry.object)).2.finishEntry a k

def execLoopGrp (l k : Nat) (s : State) : Result :=
  onUnit (l < 8) (
    match s.scheduled (laneAgent l) k, s.pat.active with
    | some r, some p =>
      if r.entry.kind ≠ .loopGrp then s
      else if s.domainOn domLoop then s.loopGrpStart l k r p
      else (s.atTick r.entry.start).passEntry (laneAgent l) k
    | _, _ => s)

/-! ### Channel commands (R152, R153) -/

def State.lpResult (s : State) (c code : Nat) : State :=
  (s.setF F.LPE_CH_RESULT_CHANNEL c).setF F.LPE_CH_RESULT_CODE code

/-- A command written to LPE_CH_CMD: op 1 HOLD, 2 CLOSE, 3 SWAP. -/
def State.lpCmd (s : State) (c op : Nat) : State :=
  match s.pat.active with
  | none => s.lpResult c 1
  | some p =>
    let it := p.loop c
    let m := s.lpMode c
    if !lpUsed it then s.lpResult c 1
    else if op = 3 && !lpBanked it then s.lpResult c 2
    else if (op = 1 && m = lpHeld) || (op = 2 && m ≠ lpHeld) || (op = 3 && m = lpFaulted) then s.lpResult c 3
    else if s.getF (F.LPE_CH_STATUS_PENDING c) ≠ 0 then
      ((s.setF (F.LPE_CH_STATUS_PENDING c) op).setF (F.LPE_CH_STATUS_LAST c) 3).lpResult c 4
    else (s.setF (F.LPE_CH_STATUS_PENDING c) op).lpResult c 0

def execHold (req : Requester) (c : BitVec 8) (s : State) : Result := s.command req F.LPE_CH_CMD_OP (s.lpCmd c.toNat 1)
def execClose (req : Requester) (c : BitVec 8) (s : State) : Result := s.command req F.LPE_CH_CMD_OP (s.lpCmd c.toNat 2)
def execSwap (req : Requester) (c : BitVec 8) (s : State) : Result := s.command req F.LPE_CH_CMD_OP (s.lpCmd c.toNat 3)

/-! ### The store window (R155, Table 6.14) -/

/-- What a write to a window offset is. -/
inductive WinWord where
  | bank (b off : Nat)
  | store (k : Nat)
  | state
  | reserved

def winWord (off : Nat) : WinWord :=
  if off < 0x40 then .state
  else if off < 0x90 then .bank 0 off
  else if off < 0xE0 then .bank 1 off
  else if off < 0xF0 then .store ((off - 0xE0) / 4)
  else .reserved

/-- A coefficient word of the selected channel may be written (R155, R157). -/
def State.bankWritable (s : State) (it : Bytes) (c b : Nat) : Bool :=
  lpUsed it && (b == 0 || lpBanked it) &&
  ((s.lpMode c == lpHeld && s.getF (F.LPE_CH_STATUS_PENDING c) != 2) ||
   (lpBanked it && b != s.lpActive c && s.getF (F.LPE_CH_STATUS_PENDING c) != 3))

/-- A word written to a channel's store; without power it reaches nothing (R29, R388). -/
def State.lpWriteWord (s : State) (c off : Nat) (v : BitVec 32) : State :=
  if s.domainOn domLoop then s.setLpWord c off v.toNat else s

/-- A write through the store window of the channel that LPE_WIN_CH selects. -/
def State.storeWindow (s : State) (req : Requester) (off : Nat) (v : BitVec 32) : State :=
  let c := s.getF F.LPE_WIN_CH_CHANNEL
  let it := (s.pat.active.map (fun p => p.loop c)).getD []
  match winWord off with
  | .bank b _ =>
    if s.bankWritable it c b then s.lpWriteWord c off v
    else s.accErr req [.refusedRo]
  | .store k =>
    if k = 1 && s.patIs (fun p => p.nextTarget c) then s.accErr req [.refusedRo]
    else s.lpWriteWord c off v
  | .state => s.accErr req [.refusedRo]
  | .reserved => s.accErr req [.reservedAddr]

def execStoreWindowWrite (req : Requester) (off : Nat) (v : BitVec 32) (s : State) : Result :=
  onUnit (off < 0x400) (s.accessBy req <|
    if req = .cmp then s.accErr req [.refusedRo]
    else if !(s.mayWrite req (0x48000 + off)) then s
    else if off % 4 ≠ 0 then s.accErr req [.badWidth]
    else s.storeWindow req off v)

/-! ### The Bobbin (R164 to R166) -/

def State.bobCode (s : State) (code : Nat) : State := s.setF F.LPE_BOB_STATUS_CODE code

/-- The capture set is well formed: entries 0 to n − 1, distinct TRACEABLE channels. -/
def State.bobSetOk (s : State) (p : Pattern) : Bool :=
  let js := s.bobSet
  let cs := js.map (fun j => s.getF (F.LPE_BOB_SET_CHANNEL j))
  !js.isEmpty && js == List.range js.length && cs.eraseDups.length == cs.length &&
    cs.all (fun c => lpUsed (p.loop c) && lpTraceable (p.loop c))

/-- ARM (R164): it fixes the set and the settings. An injection that outlasted the capture before it ends (log 37). -/
def State.bobArm (s : State) : State :=
  let at_ := s.getF F.LPE_BOB_AT_LO_N + 2 ^ 32 * s.getF F.LPE_BOB_AT_HI_N
  let n := if at_ = 0 then s.clock.refN + 1 else at_
  let cfg := s.bobCfg
  let inj := cfg.set.filter (·.2)
  if s.bobState = 1 ∨ s.bobState = 2 then s.bobCode 1
  else if !(s.patIs s.bobSetOk) then s.bobCode 2
  else if !inj.isEmpty && (s.station ≠ .tacking || cfg.point = 3 ||
      !(s.patIs (fun p => inj.all (fun e => lpInjectable (p.loop e.1))))) then s.bobCode 3
  else if n ≤ s.clock.refN then s.bobCode 4
  else
    let seed := cfg.f0 % 2 ^ 15
    let s := s.endInjection 2
    let s := (List.range 16).foldl (fun s j =>
      ((s.setF (F.LPE_BOB_WR_NEXT j) 0).setF (F.LPE_BOB_WR_WRAPPED j) 0).setBobArea j
        { BobArea.fresh with prbs := seed }) s
    let s := { s with lpe := { s.lpe with startN := n, injOn := !inj.isEmpty, cfg := cfg } }
    (s.setF F.LPE_BOB_STATUS_STATE 1).bobCode 0

/-- STOP ends the capture (R166), and an injection, also one that outlasted its capture. -/
def State.bobStop (s : State) : State :=
  if s.bobState = 1 ∨ s.bobState = 2 then ((s.endInjection 2).bobDone 4).bobCode 0
  else if s.lpe.injOn then (s.endInjection 2).bobCode 0
  else s.bobCode 1

/-- CLEAR: IDLE, and the Bobbin set to 0. -/
def State.bobClear (s : State) : State :=
  if s.bobState = 1 ∨ s.bobState = 2 then s.bobCode 1
  else (((s.clearRange Mem.bobbin 0x100000).eccClearArrays 40 40).setF F.LPE_BOB_STATUS_STATE 0).bobCode 0

def execArm (req : Requester) (s : State) : Result := s.command req F.LPE_BOB_CTRL_OP s.bobArm
def execLpeBobStop (req : Requester) (s : State) : Result := s.command req F.LPE_BOB_CTRL_OP s.bobStop
def execBobbinClear (req : Requester) (s : State) : Result := s.command req F.LPE_BOB_CTRL_OP s.bobClear

end Sys2Proof.Machine
end

