-- ==== Sys2Proof/Machine/SafetyFns.lean ====
section
/-!
DEFINITION. Safety functions: demand and discrepancy, reset and acknowledge inputs, function transitions, group
disconnects, the monitor's diagnostics, SAFE_HALT's way out and the check value (R232 to R256).
-/

namespace Sys2Proof.Machine

/-! ### Demand and discrepancy (R232 to R235) -/

/-- Demand of one channel of an input in the image as it stands. -/
def State.chDemand (s : State) (p : Pattern) (it : Bytes) (ch : Nat) : Bool :=
  let closed := s.imageState p ch
  if inForm it = 2 ∧ ch = inChB it then closed else !closed

/-- An input is in demand if any of its channels is. -/
def State.inDemand (s : State) (i : Nat) : Bool := s.isSet (F.SAF_IN_STATUS_DEMAND i)

/-- A dual input latches DISCREPANCY once its count has reached D (R234); while it is latched it returns to phase 1. -/
def State.latchDiscrepancy (s : State) (i : Nat) : State :=
  if s.isSet (F.SAF_IN_STATUS_DISCREPANCY i) then s.setF (F.SAF_IN_STATUS_PHASE i) 0
  else
    let s := (s.setF (F.SAF_IN_STATUS_DISCREPANCY i) 1).setF (F.SAF_IN_STATUS_PHASE i) 0
    (s.raise Ev.DISCREPANCY srcMonitor [i]).faultFns .discrepancy (s.patFns (fun p => p.fnsOfInput i))

/-- Latches since the first channel of a discrepant input returned to normal. -/
def State.discWaitOf (s : State) (i : Nat) : Nat := Store.get (fun _ => 0) s.saf.discWait i
def State.setDiscWait (s : State) (i n : Nat) : State :=
  { s with saf := { s.saf with discWait := Store.set (fun _ => 0) s.saf.discWait i n } }

/-- Clearing phases of a latched DISCREPANCY (R235): both in demand, then both normal with the second fewer than D
latches after the first. -/
def State.discPhase (s : State) (i d : Nat) (a b : Bool) : State :=
  if !(s.isSet (F.SAF_IN_STATUS_DISCREPANCY i)) then s
  else if s.getF (F.SAF_IN_STATUS_PHASE i) = 0 then
    if a && b then (s.setF (F.SAF_IN_STATUS_PHASE i) 1).setDiscWait i 0 else s
  else if s.getF (F.SAF_IN_STATUS_PHASE i) = 1 then
    if a && b then s.setDiscWait i 0
    else if !a && !b then
      if s.discWaitOf i < d then (s.setF (F.SAF_IN_STATUS_PHASE i) 2).setDiscWait i 0
      else (s.setF (F.SAF_IN_STATUS_PHASE i) 0).setDiscWait i 0
    else s.setDiscWait i (s.discWaitOf i + 1)
  else s

/-- One input at a latch. -/
def State.evalInput (s : State) (p : Pattern) (i : Nat) : State :=
  match p.inputItem i with
  | none => s
  | some it =>
    let a := s.chDemand p it (inChA it)
    if inForm it = 0 then s.setB (F.SAF_IN_STATUS_DEMAND i) a
    else
      let b := s.chDemand p it (inChB it)
      let k := if a = b then 0 else min (2 ^ 24 - 1) (s.getF (F.SAF_IN_STATUS_K i) + 1)
      let s := (s.setB (F.SAF_IN_STATUS_DEMAND i) (a || b)).setF (F.SAF_IN_STATUS_K i) k
      let s := s.discPhase i (inDisc it) a b
      if k = inDisc it && a != b then s.latchDiscrepancy i else s

/-! ### Functions (R236, R239 to R242) -/

def State.fnItem (s : State) (f : Nat) : Bytes := (s.pat.active.map (fun p => p.fn f)).getD []
def State.fnInDemand (s : State) (f : Nat) : Bool := (fnInputs (s.fnItem f)).any s.inDemand
def State.logicOf (s : State) (f : Nat) : Nat := Store.get (fun _ => 0) s.saf.logic f

/-- A cause of FAULT is present (R240). -/
def State.causePresent (s : State) (p : Pattern) (f : Nat) : Bool :=
  let it := p.fn f
  (fnInputs it).any (fun i => s.isSet (F.SAF_IN_STATUS_DISCREPANCY i) && s.getF (F.SAF_IN_STATUS_PHASE i) != 2) ||
  (fnOutputs it).any (fun n => (s.grp (groupOf n)).lastPass == some false || s.groupCut (groupOf n)) ||
  (List.range 8).any (fun c => bitOf (fnCtxMask it) c && 0 < s.getF (F.QPS_MISS_CONSEC c) &&
    s.getF (F.QPS_MISS_LIMIT c) ≤ s.getF (F.QPS_MISS_CONSEC c)) ||
  s.station == .safeHalt || s.isSet F.SAF_CLK_REF_FAIL ||
  Store.get (fun _ => false) s.saf.stitchCause f

/-- A reset edge reaches a function (R239 to R242). -/
def State.resetFn (s : State) (p : Pattern) (r f : Nat) : State :=
  let it := p.fn f
  if (p.fnItem f).isNone then s
  else if s.fnState f = 0 then s.releaseByReset f
  else if s.causePresent p f || s.fnInDemand f then
    (s.incSat (F.SAF_FN_STATUS_REFUSED f)).raise Ev.RESET_REFUSED srcMonitor [f]
  else
    let accept (s : State) (st : Nat) : State :=
      let s := ((s.setFnState f st).edgeTaken f).raise Ev.FUNCTION_RESET srcMonitor [f, r]
      let s := (fnInputs it).foldl (fun s i =>
        if s.isSet (F.SAF_IN_STATUS_DISCREPANCY i) && s.getF (F.SAF_IN_STATUS_PHASE i) = 2 then
          ((s.setF (F.SAF_IN_STATUS_DISCREPANCY i) 0).setF (F.SAF_IN_STATUS_PHASE i) 0).raise Ev.DISCREPANCY_CLEARED
            srcMonitor [i]
        else s) s
      s.releaseByReset f
    if s.fnState f = 2 then accept s (if fnInterlock it || fnAutoReset it then 0 else 1)
    else if fnAutoReset it then s
    else if s.logicOf f = 0 then accept s 0
    else s

/-- Transitions of a function at a latch (R236, R239). -/
def State.stepFn (s : State) (p : Pattern) (f : Nat) : State :=
  let it := p.fn f
  if fnInterlock it then s
  else
    match (fnInputs it).find? s.inDemand with
    | some i => s.tripFn f i
    | none =>
      if s.fnState f = 1 && fnAutoReset it && (fnLseg it = 0xFFFF || Store.get (fun _ => false) s.saf.logicZero f) then
        s.setFnState f 0
      else s

/-! ### Reset and acknowledge inputs (R244 to R246) -/

/-- Latches in 3 s and in 50 ms. -/
def State.latches (s : State) (ns : Nat) : Nat := if s.clock.period = 0 then 0 else ceilDiv ns s.clock.period
def State.tooLong (s : State) (h : Nat) : Bool := 3000000000 < h * s.clock.period
def State.tooShort (s : State) (h : Nat) : Bool := h * s.clock.period < 50000000

def State.resetRunOf (s : State) (r : Nat) : Nat := Store.get (fun _ => 0) s.saf.resetRun r
def State.setResetRun (s : State) (r n : Nat) : State :=
  { s with saf := { s.saf with resetRun := Store.set (fun _ => 0) s.saf.resetRun r n } }
def State.resetSeenOf (s : State) (r : Nat) : Bool := Store.get (fun _ => false) s.saf.resetSeen r
def State.setResetSeen (s : State) (r : Nat) (b : Bool) : State :=
  { s with saf := { s.saf with resetSeen := Store.set (fun _ => false) s.saf.resetSeen r b } }

/-- The channel of a reset input; number 16 is the acknowledge input. -/
def Pattern.resetCh (p : Pattern) (r : Nat) : Nat := if r = 16 then p.ackCh else ((p.resetItem r).map rstCh).getD 0

/-- RESET_HELD is raised for a reset input (R244, R245). -/
def State.holdReset (s : State) (p : Pattern) (r : Nat) : State :=
  ((s.setF (F.SAF_RST_STATUS_HELD r) 1).setF (F.SAF_RST_STATUS_HELD_SEEN r) 1).raise Ev.RESET_HELD srcMonitor
    [p.resetCh r]

/-- The check value is stored and confirmed by the acknowledge pulse (R255, R256). -/
def State.updateConfirmed (s : State) : State :=
  let c := match s.pat.active with
    | none => false
    | some p => !p.hasSelvedge ||
        (s.rdLe (Mem.confirmedCheck + 4) 1 == 1 && s.rdLe Mem.confirmedCheck 4 == p.checkValue)
  (s.setB F.PAT_STATE_CHECK_CONFIRMED c).setB F.SAF_STATUS_CHECK_CONFIRMED c

def State.confirmCheck (s : State) (p : Pattern) : State :=
  let s := s.wrBytes Mem.confirmedCheck (leBytes 4 p.checkValue ++ leBytes 4 1)
  let s := (s.setF F.SAF_STATUS_WINDOW 0).updateConfirmed
  { s with saf := { s.saf with windowEnd := none, pressInside := false } }.raise Ev.CHECK_CONFIRMED srcMonitor
    [p.checkValue]

/-- What an accepted edge does. -/
def State.resetEdge (s : State) (p : Pattern) (r : Nat) : State :=
  let s := s.incSat (F.SAF_RST_STATUS_ACCEPTED r)
  if r = 16 then
    if s.isSet F.SAF_STATUS_WINDOW && s.saf.pressInside then s.confirmCheck p else s
  else
    let mask := ((p.resetItem r).map rstMask).getD 0
    ((List.range 64).filter (fun f => bitOf mask f)).foldl (fun s f => s.resetFn p r f) s

/-- A reset input at a latch; the edges it yields are collected so that resets come before transitions. -/
def State.evalReset (s : State) (p : Pattern) (r : Nat) : State :=
  let ch := p.resetCh r
  if !(s.imageValid p ch) then
    let s := (s.setResetRun r 0).setF (F.SAF_RST_STATUS_HELD r) 0
    if s.itemClass ch = clsCut then s.setResetSeen r false else s
  else if s.imageState p ch then
    let first := !(s.resetSeenOf r)
    let h := s.resetRunOf r + 1
    let s := (s.setResetSeen r true).setResetRun r h
    let s := if first then s.setF (F.SAF_RST_STATUS_HELD r) 1 else s
    let s := if r = 16 && h = 1 then
        { s with saf := { s.saf with pressInside := s.isSet F.SAF_STATUS_WINDOW && !first } } else s
    if s.tooLong h && !(s.tooLong (h - 1)) then s.holdReset p r else s
  else
    let h := s.resetRunOf r
    let held := s.isSet (F.SAF_RST_STATUS_HELD r)
    let s := ((s.setResetSeen r true).setResetRun r 0).setF (F.SAF_RST_STATUS_HELD r) 0
    if h = 0 || held then s
    else if s.tooShort h then s.incSat (F.SAF_RST_STATUS_SHORT r)
    else s.resetEdge p r

/-- Channels whose items the function layer reads. -/
def Pattern.safetyChannels (p : Pattern) : List Nat :=
  (List.range 48).filter (fun n => p.selvedgeInput n || (p.resets ++ [16]).any (fun r => p.resetCh r == n))

/-- FUNCTION_EVALUATION at a latch: demand and discrepancy, then reset edges, then transitions (R233, R247). The items
are read with their ECC errors met (R102). -/
def State.evalFunctions (s : State) (p : Pattern) : State :=
  if !p.hasSelvedge then s else
  let s := p.safetyChannels.foldl (fun s n => s.engRead (Mem.shared + p.ioImgOff n) 5) s
  let s := p.inputs.foldl (fun s i => s.evalInput p i) s
  let s := (p.resets ++ [16]).foldl (fun s r => s.evalReset p r) s
  p.functions.foldl (fun s f => s.stepFn p f) s

/-! ### Group disconnects at a boundary (R243) -/

/-- A function with an output in the group is in FAULT. -/
def State.groupFaulty (s : State) (p : Pattern) (g : Nat) : Bool :=
  p.functions.any (fun f => s.fnState f == 2 && (fnOutputs (p.fn f)).any (fun n => groupOf n == g))

/-- The monitor keeps a group closed: no module-wide cause, a state in which outputs may be driven or tested, no
function of the group in FAULT, no unpassed group test of a group with selvedge outputs; under a loopback test of the
group as Table 20.1 states. -/
def State.groupMayClose (s : State) (g : Nat) : Bool :=
  let depth := (s.dgt.lb.filter (fun t => t.target == 12 + g)).map (·.depth)
  (s.station == .stop || s.station == .tacking || s.station == .run || (s.station == .unpatterned && depth == some 2)) &&
    depth != some 1 && !(s.isSet F.DGT_STATUS_SCAN) && s.saf.haltCause.isNone && s.saf.present.isEmpty &&
    (match s.pat.active with
     | none => true
     | some p => !(s.groupFaulty p g) && !(p.groupSelvedge g && (s.grp g).lastPass == some false))

/-- The disconnects at a boundary. -/
def State.stepDisconnects (s : State) : State :=
  (List.range 6).foldl (fun s g =>
    if s.groupMayClose g then
      if bitOf s.saf.drive.toNat g then s else s.closeGroup g
    else if bitOf s.saf.drive.toNat g then s.openGroupDark g else s) s

/-! ### Commands of the function layer and the monitor -/

/-- DISCREPANCY: the input's count has reached D (R234). -/
def execDiscrepancy (i : Nat) (s : State) : Result :=
  onUnit (i < 48) (
    match s.pat.active.bind (fun p => p.inputItem i) with
    | some it =>
      if inForm it ≠ 0 && 0 < inDisc it && inDisc it ≤ s.getF (F.SAF_IN_STATUS_K i) &&
          !(s.isSet (F.SAF_IN_STATUS_DISCREPANCY i)) then s.latchDiscrepancy i else s
    | none => s)

/-- RESET_HELD: the run of a reset input has passed 3 s (R244). -/
def execResetHeld (r : Nat) (s : State) : Result :=
  onUnit (r < 17) (
    match s.pat.active with
    | none => s
    | some p => if s.tooLong (s.resetRunOf r) && !(s.isSet (F.SAF_RST_STATUS_HELD r)) then s.holdReset p r else s)

/-- DISCONNECT_DROP: the drive has not toggled for 100 us and the disconnect opens by hardware (R228). -/
def execDisconnectDrop (g : Nat) (s : State) : Result :=
  onUnit (g < 6) (if bitOf s.saf.drive.toNat g then s else if s.discClosed g then (s.setDisconnect g false).darkGroup g else s)

/-- SUPPLY_FAIL: an internal rail is outside ±5 % (R248, R251). -/
def execSupplyFail (rail : Nat) (s : State) : Result :=
  .next ((s.raise Ev.SUPPLY_FAIL srcMonitor [rail]).moduleWide .supply)

/-- Two oscillators differ by more than 2 %: rates as fractions a / na of their nominal values. -/
def clkDeviates (a na b nb : Nat) : Bool :=
  b * na < 50 * ((a * nb : Int) - (b * na : Int)).natAbs

/-- The reference fails (R18, R250): CLOCK_FAIL of class B and the class B fault REFCLK_LOST. -/
def State.refFails (s : State) : State :=
  (s.raiseCls Ev.CLOCK_FAIL srcMonitor 2 [payloadNo Ev.CLOCK_FAIL 0]).referenceLost

/-- The reference is verified again. -/
def State.refReturns (s : State) : State :=
  (((s.setF F.SAF_CLK_REF_FAIL 0).setF F.SCH_STATUS_DEGRADED_CLK 0).setF F.PWR_STATUS_RC_CLOCK 0).setF
    F.PTP_STATUS_USABLE 1

/-- CLOCK_VOTE: the vote of one 10 us window over the 25 MHz reference, the 64 MHz monitor oscillator and the
100 MHz RC oscillator (R250). -/
def execClockVote (refHz monHz rcHz : Nat) (s : State) : Result :=
  let rm := clkDeviates refHz 25000000 monHz 64000000
  let rr := clkDeviates refHz 25000000 rcHz 100000000
  let mr := clkDeviates monHz 64000000 rcHz 100000000
  if rm && rr && mr then
    if s.saf.present.contains HaltCause.noMajority.code then .next s
    else .next ((s.raise Ev.CLOCK_FAIL srcMonitor [payloadNo Ev.CLOCK_FAIL 2]).moduleWide .noMajority)
  else
    let s := s.causeGone .noMajority
    let refBad := rm && rr
    let monBad := rm && mr
    let s := s.setB F.SAF_CLK_RC_FAIL (rr && mr)
    let s := if refBad then (if s.isSet F.SAF_CLK_REF_FAIL then s else s.refFails)
      else if s.isSet F.SAF_CLK_REF_FAIL then s.refReturns else s
    let s := if monBad then
        if s.isSet F.SAF_CLK_MON_FAIL then s
        else ((s.setF F.SAF_CLK_MON_FAIL 1).raise Ev.CLOCK_FAIL srcMonitor [payloadNo Ev.CLOCK_FAIL 1]).moduleWide .monOsc
      else (s.setF F.SAF_CLK_MON_FAIL 0).causeGone .monOsc
    .next s

/-- MONITOR_SELFTEST: the monitor's ROM CRC or memory test passes or fails (R248, R252, R254). -/
def execMonitorSelftest (test : Nat) (pass : Bool) (s : State) : Result :=
  if pass then
    .next ({ s with saf := { s.saf with selftestOk := true, testedSince := true } }.causeGone .selftest)
  else
    let s := { s with saf := { s.saf with selftestOk := false } }
    .next ((s.raise Ev.MONITOR_SELFTEST srcMonitor [test]).moduleWide .selftest)

/-! ### SAF_CMD (R254, R256) -/

def State.safResult (s : State) (op code : Nat) : State :=
  ((s.setF F.SAF_RESULT_DONE 1).setF F.SAF_RESULT_LAST_OP op).setF F.SAF_RESULT_CODE code

/-- CONFIRM (R256). -/
def State.safConfirm (s : State) : State :=
  if s.station ≠ .tacking then s.safResult 1 1
  else if s.getF F.SAF_CONFIRM_VAL_VALUE ≠ s.getF F.PAT_CHECK_CHECK_VALUE then s.safResult 1 2
  else
    let s := (s.setF F.SAF_STATUS_WINDOW 1).safResult 1 0
    { s with saf := { s.saf with windowEnd := some (s.nowNs + 60000000000), pressInside := false } }

/-- CLEAR_HALT (R254). -/
def State.safClearHalt (s : State) : State :=
  if s.station ≠ .safeHalt then s.safResult 2 1
  else if !s.saf.present.isEmpty || !s.saf.testedSince then s.safResult 2 3
  else
    let s := (s.setF F.SAF_STATUS_HALT 0).safResult 2 0
    let s := { s with station := .stop, saf := { s.saf with haltCause := none } }
    s.updateModOk.raise Ev.SAFE_HALT_LEFT srcMonitor []

/-- The acknowledge window closes without an event: CANCEL, or TACKING is left. -/
def State.closeWindow (s : State) : State :=
  { s.setF F.SAF_STATUS_WINDOW 0 with saf := { s.saf with windowEnd := none, pressInside := false } }

/-- CANCEL. -/
def State.safCancel (s : State) : State := s.closeWindow.safResult 3 0

def execConfirm (req : Requester) (s : State) : Result := s.command req F.SAF_CMD_OP s.safConfirm
def execClearHalt (req : Requester) (s : State) : Result := s.command req F.SAF_CMD_OP s.safClearHalt
def execSafCancel (req : Requester) (s : State) : Result := s.command req F.SAF_CMD_OP s.safCancel

/-- CHECK_WINDOW_EXPIRED: the 60 s end without an accepted pulse (R256). -/
def execCheckWindowExpired (s : State) : Result :=
  .next (if s.isSet F.SAF_STATUS_WINDOW then s.closeWindow.raise Ev.CHECK_WINDOW_EXPIRED srcMonitor [] else s)

end Sys2Proof.Machine
end

