-- ==== Sys2Proof/Machine/Lining.lean ====
section
/-!
DEFINITION. The Lining: the bytes of each item as the active reads them and as the standby writes them (Table 13.7,
R334, R336, R337).
-/

namespace Sys2Proof.Machine

/-! ### SAFETY (Table 13.7, kind 6) -/

/-- Cause bits of a latched output: one bit for each cause of Table 8.6 that latches. -/
def LatchCause.bit : LatchCause → Nat
  | .shortGnd => 0
  | .noDrive => 1
  | .testFail => 2
  | .overload => 3
  | .discFault => 4

def latchCauses : List LatchCause := [.shortGnd, .noDrive, .testFail, .overload, .discFault]

def State.safetyBytes (s : State) : Bytes :=
  let fns := (List.range 64).map (fun f => leBytes 4 (s.fnState f + 4 * s.getF (F.SAF_FN_STATUS_CAUSE f)))
  let ins := (List.range 48).map (fun i => leBytes 8 (s.getF (F.SAF_IN_STATUS_K i) +
    2 ^ 24 * s.getF (F.SAF_IN_STATUS_PHASE i) + 2 ^ 26 * s.getF (F.SAF_IN_STATUS_DISCREPANCY i)))
  let rsts := (List.range 17).map (fun r => leBytes 4 (min (s.resetRunOf r) (2 ^ 24 - 1) +
    2 ^ 24 * s.getF (F.SAF_RST_STATUS_HELD r)))
  let outs := (List.range 48).map (fun n => leBytes 2 (s.getF (F.DIO_CH_STATUS_LATCHED n) +
    2 * ((s.dio n).causes.map (fun c => 2 ^ c.bit)).sum))
  let b := fns.flatten ++ ins.flatten ++ rsts.flatten ++ outs.flatten
  b ++ List.replicate (2048 - b.length) 0#8

/-- The SAFETY item written into the state it copies. -/
def State.applySafety (s : State) (b : Bytes) : State :=
  let s := (List.range 64).foldl (fun s f =>
    (s.setFnState f (bitsOf (b.u32 (4 * f)) 1 0)).setF (F.SAF_FN_STATUS_CAUSE f) (bitsOf (b.u32 (4 * f)) 7 2)) s
  let s := (List.range 48).foldl (fun s i =>
    let v := b.u64 (256 + 8 * i)
    ((s.setF (F.SAF_IN_STATUS_K i) (bitsOf v 23 0)).setF (F.SAF_IN_STATUS_PHASE i) (bitsOf v 25 24)).setF
      (F.SAF_IN_STATUS_DISCREPANCY i) (bitsOf v 26 26)) s
  let s := (List.range 17).foldl (fun s r =>
    let v := b.u32 (640 + 4 * r)
    (s.setResetRun r (bitsOf v 23 0)).setF (F.SAF_RST_STATUS_HELD r) (bitsOf v 24 24)) s
  (List.range 48).foldl (fun s n =>
    let v := b.u16 (708 + 2 * n)
    let selv := s.patIs (fun p => p.selvedgeOutput n)
    let x := s.dio n
    let latched := bitOf v 0
    (s.setB (F.DIO_CH_STATUS_LATCHED n) latched).setDio n { x with
      causes := latchCauses.filter (fun c => bitOf v (1 + c.bit))
      wait := if latched then (if selv then .needReset else .needOff) else .none }) s

/-! ### SOLVER (kind 3): the spec gives the three lengths, not the layout of the warm start (log 39) -/

/-- A context's 256 bytes: number of indices of the warm start, then the indices, two bytes each; from byte 252 whether
an input record is held, the next buffer of the rotation, and the buffer of the last OPTIMAL result (255: none). -/
def warmBytes (x : QpCtx) : Bytes :=
  (leBytes 2 x.warm.length ++ ((x.warm.take 124).map (leBytes 2)).flatten).slice 0 252 ++
    leBytes 1 (if x.last.isSome then 1 else 0) ++ leBytes 1 x.next ++ leBytes 1 (x.valid.getD 255) ++ leBytes 1 0
def warmOf (b : Bytes) : List Nat := (List.range (min 124 (b.u16 0))).map (fun k => b.u16 (2 + 2 * k))

/-- Bytes of the input record and of the result area, as Table 13.7 rounds them. -/
def lnInputLen (it : Bytes) : Nat := 32 * ceilDiv (qpInputBytes it) 32
def lnResultLen (it : Bytes) : Nat := 32 + 128 * ceilDiv (qpN it) 4

def State.solverBytes (s : State) (p : Pattern) (c : Nat) : Bytes × State :=
  let it := p.qp c
  let x := s.qpCtx c
  let a := Mem.shared + qpOutOff it
  (warmBytes x ++ (x.last.getD []).slice 0 (lnInputLen it) ++ s.rdBytes a (lnResultLen it), s.engRead a (lnResultLen it))

/-- A mirrored context: warm start, input record, result area; publication count, last status, rotation and last valid
result go on from the mirrored ones (R174, R176, R194). -/
def State.applySolver (s : State) (p : Pattern) (c : Nat) (b : Bytes) : State :=
  let it := p.qp c
  let area := b.slice (256 + lnInputLen it) (lnResultLen it)
  let s := s.setQpCtx c { s.qpCtx c with
    warm := warmOf b
    last := if bitOf (b.u8 252) 0 then some (b.slice 256 (qpInputBytes it)) else none
    next := b.u8 253
    valid := if b.u8 254 < 3 then some (b.u8 254) else none }
  let s := ((s.setF (F.QPS_CTX_SEQ_SEQ c) (area.u32 0)).setF (F.QPS_CTX_STATE_LAST_STATUS c) (area.u8 4)).setF
    (F.QPS_CTX_CYC_CYCLES c) (area.u32 12)
  s.engStore (Mem.shared + qpOutOff it) area

/-! ### PD_SEQ (kind 7) -/

def State.pdSeqBytes (s : State) (p : Pattern) : Bytes :=
  let b := (p.pairedSets.map (fun it => leBytes 4 (s.txOf (setNo it)).seq.toNat)).flatten
  b ++ List.replicate (4096 - b.length) 0#8

def State.applyPdSeq (s : State) (p : Pattern) (b : Bytes) : State :=
  (List.range p.pairedSets.length).foldl (fun s i =>
    let it := p.pairedSet i
    if setSend it then
      (s.setTx (setNo it) { s.txOf (setNo it) with seq := BitVec.ofNat 32 (b.u32 (4 * i)) }).setF (F.SCM_PD_SEQ_SEQ i)
        (b.u32 (4 * i))
    else s) s

/-! ### Items -/

/-- Bytes that the link reads, and their ECC errors. -/
def State.linkRead (s : State) (a n : Nat) : Bytes × State := (s.rdBytes a n, s.engRead a n)

/-- The bytes of a Lining item on the active; SELV_OUT is the area that was applied last (R108), before the first one
what run A's area holds. -/
def State.liningRead (s : State) (p : Pattern) (it : Bytes) : Bytes × State :=
  match lnKind it with
  | 1 => s.linkRead (Mem.shared + lnOff it) (lnLen it)
  | 2 => s.linkRead (Mem.loopStore (lnIdx it)) (1024 * lnAux it)
  | 3 => s.solverBytes p (lnIdx it)
  | 4 =>
    let k := lnIdx it
    s.linkRead (Mem.shared + p.outOff k + s.getF (F.SCH_TASK_STATUS_HALF k) * p.outLen k) (p.outLen k)
  | 5 =>
    let r := p.runRecord (lnIdx it) false
    match Store.find? s.sched.selvArea (lnIdx it) with
    | some b => (b.slice 0 (runOutLen r), s)
    | none => s.linkRead (Mem.shared + runOutOff r) (runOutLen r)
  | 6 => (s.safetyBytes, s)
  | _ => (s.pdSeqBytes p, s)

/-- The items of a slot in order. -/
def State.liningReads (s : State) (p : Pattern) (items : List Bytes) : List Bytes × State :=
  items.foldl (fun (r : List Bytes × State) it =>
    let v := r.2.liningRead p it
    (r.1 ++ [v.1], v.2)) ([], s)

/-- The bytes of an item written to its own address (R337). -/
def State.liningWrite (s : State) (p : Pattern) (it b : Bytes) : State :=
  match lnKind it with
  | 1 => s.engStore (Mem.shared + lnOff it) b
  | 2 => s.engStore (Mem.loopStore (lnIdx it)) b
  | 3 => s.applySolver p (lnIdx it) b
  | 4 =>
    let k := lnIdx it
    ((s.engStore (Mem.shared + p.outOff k) b).setF (F.SCH_TASK_STATUS_PUBLISHED k) 1).setF (F.SCH_TASK_STATUS_HALF k) 0
  | 5 => s.engStore (Mem.shared + runOutOff (p.runRecord (lnIdx it) false)) b
  | 6 => s.applySafety b
  | _ => s.applyPdSeq p b

/-- The valid bytes of an item in the committed half, from the number of its first packet. -/
def State.mirrorRead (s : State) (p : Pattern) (half : Bool) (first len : Nat) : Bytes × State :=
  let l := List.range (ceilDiv len 256)
  ((l.map (fun k => s.rdBytes (p.mirrorAddr half (first + k)) 256)).flatten.take len,
    l.foldl (fun s k => s.engRead (p.mirrorAddr half (first + k)) (min 256 (len - 256 * k))) s)

/-- An apply entry of a slot writes its items from the committed half. -/
def State.applySlot (s : State) (p : Pattern) (half : Bool) (slot : Nat) : State :=
  ((p.liningItems slot).foldl (fun (r : Nat × State) it =>
    let v := r.2.mirrorRead p half r.1 (lnLen it)
    (r.1 + lnPackets it, v.2.liningWrite p it v.1)) (p.packetBase slot, s)).2

end Sys2Proof.Machine
end

