-- ==== Sys2Proof/Machine/Nymil.lean ====
section
/-!
DEFINITION. The Nymil link below the packet (R326, R327, R328): blocks, lanes, alignment and scrambler; the packet of
Table 13.3 as its blocks and back.
-/

namespace Sys2Proof.Machine

/-- A 64b/66b block: sync header and eight octets, octet 0 first. -/
structure NymilBlock where
  sync : BitVec 2
  octets : Bytes
  deriving DecidableEq, Repr

/-- Sync headers of a control block and of a data block. -/
def syncControl : BitVec 2 := 0b10#2
def syncData : BitVec 2 := 0b01#2

/-- The idle control block of IEEE 802.3 Clause 49: type 0x1E, eight idle codes (log 51). -/
def idleBlock : NymilBlock := ⟨syncControl, 0x1E#8 :: List.replicate 7 0#8⟩

/-- The alignment block of a lane, and after how many idle blocks it comes. -/
def alignBlock (lane : Nat) : NymilBlock :=
  ⟨syncControl, [0x4B#8, 0xA5#8, BitVec.ofNat 8 lane] ++ List.replicate 5 0#8⟩
def idlesPerAlign : Nat := 1024

/-- The ordered-set block that returns credits between packets (R328). -/
def creditBlock (count : Nat) : NymilBlock :=
  ⟨syncControl, [0x4B#8, 0x5C#8, BitVec.ofNat 8 count] ++ List.replicate 5 0#8⟩

/-- What a lane carries between packets after k idle blocks. -/
def laneIdle (lane k : Nat) : NymilBlock := if k = idlesPerAlign then alignBlock lane else idleBlock

/-! ### The packet (R327) -/

/-- Octets 1 to 7 of block 0. -/
def nymilHead (x : NymilPacket) : Bytes :=
  leBytes 1 x.ptype.toNat ++ leBytes 2 x.epoch.toNat ++ leBytes 2 x.pktNo.toNat ++ leBytes 1 x.vlen.toNat ++
    leBytes 1 x.credit.toNat

/-- The PCRC of a packet: over octets 1 to 7 of block 0 and the 256 payload bytes. -/
def nymilCrc (x : NymilPacket) : BitVec 32 := crc32c (nymilHead x ++ x.payload.slice 0 256)

/-- A packet to send: its valid bytes, the rest of the payload 0, and the PCRC. -/
def nymilPacket (ptype epoch pktNo credit : Nat) (valid : Bytes) : NymilPacket :=
  let x : NymilPacket := ⟨BitVec.ofNat 8 ptype, BitVec.ofNat 16 epoch, BitVec.ofNat 16 pktNo,
    BitVec.ofNat 8 (valid.length - 1), BitVec.ofNat 8 credit, valid.slice 0 256, 0#32⟩
  { x with pcrc := nymilCrc x }

/-- The valid bytes of a packet. -/
def nymilValid (x : NymilPacket) : Bytes := x.payload.slice 0 (x.vlen.toNat + 1)

/-- The 34 blocks of a packet (Table 13.3). -/
def nymilBlocks (x : NymilPacket) : List NymilBlock :=
  ⟨syncControl, 0x78#8 :: nymilHead x⟩ ::
    (List.range 32).map (fun b => ⟨syncData, x.payload.slice (8 * b) 8⟩) ++
    [⟨syncControl, 0xCC#8 :: leBytes 4 x.pcrc.toNat ++ List.replicate 3 0#8⟩]

/-- The packet that 34 blocks hold, where their headers and types are those of Table 13.3. -/
def nymilOfBlocks (l : List NymilBlock) : Option NymilPacket :=
  match l.head?, l.getLast? with
  | some h, some t =>
    if l.length = 34 ∧ h.sync = syncControl ∧ h.octets.u8 0 = 0x78 ∧ t.sync = syncControl ∧ t.octets.u8 0 = 0xCC ∧
        ((l.drop 1).take 32).all (fun b => b.sync == syncData) then
      some ⟨BitVec.ofNat 8 (h.octets.u8 1), BitVec.ofNat 16 (h.octets.u16 2), BitVec.ofNat 16 (h.octets.u16 4),
        BitVec.ofNat 8 (h.octets.u8 6), BitVec.ofNat 8 (h.octets.u8 7), (((l.drop 1).take 32).map (·.octets)).flatten,
        BitVec.ofNat 32 (t.octets.u32 1)⟩
    else none
  | _, _ => none

/-- The blocks of a lane: block b travels on lane b mod 2. -/
def laneBlocks (lane : Nat) : List NymilBlock → List NymilBlock
  | [] => []
  | b :: bs => if lane % 2 = 0 then b :: laneBlocks (lane + 1) bs else laneBlocks (lane + 1) bs

/-- The blocks of two lanes in packet order. -/
def joinLanes : List NymilBlock → List NymilBlock → List NymilBlock
  | a :: l, b :: m => a :: b :: joinLanes l m
  | _, _ => []

/-- Block times of a lane's alignment block that the receiver has seen, lane 0 and lane 1: it deskews up to 32 blocks.
-/
def deskews (a b : Nat) : Bool := decide (a ≤ b + 32) && decide (b ≤ a + 32)

/-! ### The scrambler x^58 + x^39 + 1 -/

/-- One bit: the line bit is the data bit with the line bits of 39 and 58 bits ago; the register shifts it in. -/
def scrambleBit (reg : BitVec 58) (bit : Bool) : Bool × BitVec 58 :=
  let o := bit ^^ reg.getLsbD 38 ^^ reg.getLsbD 57
  (o, (reg <<< 1) ||| BitVec.ofNat 58 (if o then 1 else 0))

/-- Back from line bit to data bit: the register holds the line bits received. -/
def descrambleBit (reg : BitVec 58) (line : Bool) : Bool × BitVec 58 :=
  (line ^^ reg.getLsbD 38 ^^ reg.getLsbD 57, (reg <<< 1) ||| BitVec.ofNat 58 (if line then 1 else 0))

/-- Bits through a bit function with its register. -/
def scrambleBits (f : BitVec 58 → Bool → Bool × BitVec 58) : BitVec 58 → List Bool → List Bool × BitVec 58
  | reg, [] => ([], reg)
  | reg, b :: bs =>
    let (o, reg) := f reg b
    let (os, reg) := scrambleBits f reg bs
    (o :: os, reg)

/-- The 64 bits of a block's octets, bit 0 of octet 0 first. -/
def blockBits (b : NymilBlock) : List Bool :=
  (b.octets.map (fun o => (List.range 8).map (fun i => o.getLsbD i))).flatten
def octetsOfBits : Nat → List Bool → Bytes
  | 0, _ => []
  | n + 1, l => BitVec.ofNat 8 (((l.take 8).zipIdx.map (fun v => if v.1 then 2 ^ v.2 else 0)).sum) :: octetsOfBits n (l.drop 8)

/-- A block on the line: the sync header stays, the octets pass the lane's scrambler. -/
def scrambleBlock (reg : BitVec 58) (b : NymilBlock) : NymilBlock × BitVec 58 :=
  let r := scrambleBits scrambleBit reg (blockBits b)
  (⟨b.sync, octetsOfBits 8 r.1⟩, r.2)
def descrambleBlock (reg : BitVec 58) (b : NymilBlock) : NymilBlock × BitVec 58 :=
  let r := scrambleBits descrambleBit reg (blockBits b)
  (⟨b.sync, octetsOfBits 8 r.1⟩, r.2)

/-- Blocks through a lane's scrambler. -/
def scrambleLane : BitVec 58 → List NymilBlock → List NymilBlock × BitVec 58
  | reg, [] => ([], reg)
  | reg, b :: bs =>
    let (o, reg) := scrambleBlock reg b
    let (os, reg) := scrambleLane reg bs
    (o :: os, reg)

end Sys2Proof.Machine
end

