-- ==== Sys2Proof/Machine/PairKey.lean ====
section
/-!
DEFINITION. Sending on the Nymil link with its credits (R327, R328), and the agreement of the pair key (R339, R435).
-/

namespace Sys2Proof.Machine

/-! ### Packets and credits -/

/-- What leaves on a lane of the link. -/
def State.laneOut (s : State) (lane : Nat) (l : List NymilBlock) : State :=
  { s with net := { s.net with wire := Store.set (fun _ => []) s.net.wire (32 + lane) (l.map (·.octets)).flatten } }

/-- A packet leaves: its CREDIT returns what is owed; every type but HEARTBEAT costs a credit. -/
def State.nymilPut (s : State) (ptype epoch pktNo : Nat) (valid : Bytes) : State :=
  let x := nymilPacket ptype epoch pktNo s.pair.owed valid
  let s := (s.laneOut 0 (laneBlocks 0 (nymilBlocks x))).laneOut 1 (laneBlocks 1 (nymilBlocks x))
  s.setPair { s.pair with
    owed := 0
    credits := if ptype = 1 then s.pair.credits else s.pair.credits - 1
    sent := s.pair.sent ++ [x] }

/-- Packets leave in order while there is a credit; the rest waits. -/
def State.nymilFlush : List NymilPacket → State → State
  | [], s => s.setPair { s.pair with waitTx := [] }
  | x :: l, s =>
    if s.pair.credits = 0 || !(s.isSet F.PAIR_PATHS_LINK_UP) then s.setPair { s.pair with waitTx := x :: l }
    else State.nymilFlush l (s.nymilPut x.ptype.toNat x.epoch.toNat x.pktNo.toNat (nymilValid x))

def State.nymilWaiting (s : State) : State := s.nymilFlush s.pair.waitTx

/-- Credits come back; no side ever holds more than 16. -/
def State.addCredits (s : State) (k : Nat) : State := s.setPair { s.pair with credits := min 16 (s.pair.credits + k) }

/-- A packet of the types with credits is in one of the 16 buffers; it drains within the command, and its credit is
owed. -/
def State.takeRxBuffer (s : State) (ptype : Nat) : State :=
  if ptype = 1 then s else s.setPair { s.pair with owed := s.pair.owed + 1 }

/-- Credits that no packet has returned leave in an ordered-set block. -/
def State.returnCredits (s : State) : State :=
  if s.pair.owed = 0 then s
  else (s.laneOut 0 [creditBlock s.pair.owed]).setPair { s.pair with owed := 0 }

/-! ### The pair key (R339, R435); the layout of a KEY message and who begins are the model's (log 50) -/

/-- A KEY message: its length (2), the certificate, the ECDH value (96), the signature over both (R, S of 48 each). -/
def keyMessage (cert value sig : Bytes) : Bytes := leBytes 2 (194 + cert.length) ++ cert ++ value ++ sig

/-- The module sends its KEY packets with a fresh ECDH value. -/
def State.sendKey (s : State) : State :=
  let (v, s) := s.fresh
  let (w, s) := s.fresh
  let d := 1 + v % (P384.n - 1)
  let value := ecdhPublic d
  let sig := ecdsaSign Config.identityKey (1 + w % (P384.n - 1)) (sha384 (identityCert ++ value))
  let m := keyMessage identityCert value sig
  let l := (chunks 256 (m.length / 256 + 1) m).zipIdx.map (fun c => nymilPacket 5 0 c.2 0 c.1)
  (s.setPair { s.pair with ecdh := some d, waitTx := s.pair.waitTx ++ l }).nymilWaiting

/-- The pair key: salt, the SHA-384 of both public values, position A first; info "nymil pair". -/
def pairKey (posA : Bool) (own partner secret : Bytes) : Bytes :=
  hkdfSalted (sha384 (if posA then own ++ partner else partner ++ own)) secret
    (infoBytes "nymil pair")

/-- A whole KEY message is accepted (R435): the certificate chains, is another module's, and its key has signed. -/
def keyAccepted (m : Bytes) : Bool :=
  let n := m.length - 194
  let cert := m.slice 2 n
  let value := m.slice (2 + n) 96
  decide (194 ≤ m.length) && m.u16 0 == m.length && certChains cert && Config.certSerial cert != Config.serial &&
    verifySig (Config.certKey cert) (sha384 (cert ++ value)) (m.slice (98 + n) 48) (m.slice (146 + n) 48)

/-- The key is derived from the own private value and the partner's public one. -/
def State.deriveKey (s : State) (value : Bytes) : State :=
  match s.pair.ecdh with
  | none => s
  | some d =>
    match ecdhSecret d value with
    | none => s.authFail
    | some z =>
      s.setPair { s.pair with key := some (pairKey (s.position == 0) (ecdhPublic d) value z), ecdh := none }

/-- A KEY message at a module that is SYNCING and has sent its own, or at the ACTIVE, which answers with its own. -/
def State.keyJudge (s : State) (m : Bytes) : State :=
  if s.roleIs .active || (s.roleIs .syncing && s.pair.ecdh.isSome) then
    if keyAccepted m then
      (if s.pair.ecdh.isSome then s else s.sendKey).deriveKey (m.slice (m.length - 192) 96)
    else s.authFail
  else s

/-- A KEY packet: packet 0 begins a message, the rest follows in order. -/
def State.keyIn (s : State) (x : NymilPacket) : State :=
  let m : Bytes := (if x.pktNo = 0 then [] else s.pair.keyIn) ++ nymilValid x
  if m.length < m.u16 0 then s.setPair { s.pair with keyIn := m }
  else (s.setPair { s.pair with keyIn := [] }).keyJudge m

end Sys2Proof.Machine
end

