-- ==== Sys2Proof/Machine/Redundancy.lean ====
section
/-!
DEFINITION. Pairs: the ownership line, the Nymil link, heartbeats, witness rounds, epochs, health reports, release,
takeover and the role decision of a boundary (R322 to R348).
-/

namespace Sys2Proof.Machine

/-- A partner heartbeat arrived on any path in the last 3 stitches. -/
def State.nymilSilent (s : State) : Bool := 3 ≤ s.getF F.PAIR_PATHS_HB_MISSES
def State.plantSilent (s : State) : Bool := 3 < s.pair.plantA && 3 < s.pair.plantB
def State.ownReleased (s : State) : Bool := s.isSet F.PAIR_PATHS_RELEASED
def State.everyPathSilent (s : State) : Bool := s.ownReleased && s.nymilSilent && s.plantSilent

/-! ### The health report (R328, R339) -/

/-- The health report of the committed epoch leaves, where the pair key exists. -/
def State.putHealth (s : State) : State :=
  match s.pair.key, s.pair.committed with
  | some key, some (epoch, _) =>
    let ((fa, fb), s) := s.faultCounts
    let ecc := ((List.range 46).map (fun k => s.getF (F.APC_ECC_ARRAY_CORRECTED k))).sum
    let b := leBytes 8 epoch.toNat ++ leBytes 1 s.position ++ leBytes 1 (s.getF F.PAIR_STATUS_ROLE) ++
      leBytes 1 s.station.hbCode ++ leBytes 1 s.hbFlagsNow ++ leBytes 4 ((s.pat.active.map (·.generation)).getD 0) ++
      leBytes 4 (s.getF F.DGT_ST_PASS) ++ leBytes 4 (s.getF F.DGT_ST_FAIL) ++ leBytes 2 fa ++ leBytes 2 fb ++
      leBytes 4 ecc ++ List.replicate 16 0#8
    (s.setPair { s.pair with healthSent := true }).nymilPut 4 epoch.toNat 0 (b ++ (hmacSha256 key b).take 16)
  | _, _ => s

/-- A health report that waits is abandoned and counted (R328). -/
def State.dropHealth (s : State) : State :=
  if s.pair.healthWait.isSome then (s.setPair { s.pair with healthWait := none }).incSat F.PAIR_EPOCH_STAT_CREDIT_STALL
  else s

/-- A health report that waits for a credit leaves with the first one, if that comes before its entry's END; then it is
abandoned (R328). -/
def State.flushHealth (s : State) : State :=
  match s.pair.healthWait with
  | none => s
  | some e =>
    if e ≤ s.tickNow then s.dropHealth
    else if s.pair.credits = 0 || !(s.isSet F.PAIR_PATHS_LINK_UP) then s
    else (s.setPair { s.pair with healthWait := none }).putHealth

/-- What waits for a credit leaves: the health report of the entry that runs, then KEY packets. -/
def State.sendWaiting (s : State) : State := s.flushHealth.nymilWaiting

/-- The health report of the committed epoch (R339): within its first apply entry, once the link and a credit allow it
(R328). -/
def State.sendHealth (s : State) (endTick : Nat) : State :=
  if s.pair.key.isNone || s.pair.committed.isNone then s.setPair { s.pair with healthDue := false }
  else (s.setPair { s.pair with healthDue := false, healthWait := some endTick }).flushHealth

/-! ### Ownership line and link (R325, R326, R328) -/

/-- OWN_SENSE_EDGE: the filtered level changes. -/
def execOwnSenseEdge (level : Bool) (s : State) : Result :=
  .next (if level = s.pair.sense then s else s.setPair { s.pair with sense := level, changed := true })

/-- NYMIL_LINK_UP: 1,024 good blocks on both lanes; each side starts with 16 credits. The link is of the LINK domain
(R29). -/
def execNymilLinkUp (s : State) : Result :=
  .next (if !s.domainOn domLink then s else
    (((s.setF F.PAIR_PATHS_LINK_UP 1).setF F.PAIR_PATHS_LANE_LOCK 3).setPair { s.pair with
      credits := 16, owed := 0 }).sendWaiting)

/-- NYMIL_LINK_LOST: a lane loses block lock or alignment; a key agreement under way begins anew after the next UP. -/
def execNymilLinkLost (lane : Nat) (s : State) : Result :=
  onUnit (lane < 2) (
    let v := s.getF F.PAIR_PATHS_LANE_LOCK
    let v := if bitOf v lane then v - 2 ^ lane else v
    ((s.setF F.PAIR_PATHS_LINK_UP 0).setF F.PAIR_PATHS_LANE_LOCK v).setPair { s.pair with
      credits := 0, owed := 0, waitTx := [], ecdh := none, keyIn := [] })

/-! ### Witness rounds of the querier (R342, R343) -/

/-- The witnesses that TOPOLOGY names, with their index. -/
def Pattern.witnesses (p : Pattern) : List (Nat × Nat) :=
  ((List.range 4).map (fun k => (k, p.witness k))).filter (fun w => w.2 != 0xFFFF)

def State.endRound (s : State) : State := (s.setF F.PAIR_WITNESS_ROUND 0).setPair { s.pair with round := none }

/-- The module becomes ISOLATED, with its event on entry. -/
def State.isolate (s : State) (r sil : Nat) : State :=
  if s.roleIs .isolated then s.endRound
  else (s.endRound.raise Ev.PAIR_ISOLATED srcPair [r, sil]).setRole .isolated

/-- A round begins, or its loss is plain at once: no witness, or no foreign Dunhel frame in 64 stitches. -/
def State.startRound (s : State) (p : Pattern) : State :=
  if p.witnesses.isEmpty || 64 < s.pair.dunhelAge then s.isolate 0 0
  else
    let q := s.pair.qseq + 1
    let s := (((s.setF F.PAIR_WITNESS_ROUND 1).setF F.PAIR_WITNESS_REPLIED 0).setF F.PAIR_WITNESS_SILENT 0).incSat
      F.PAIR_WITNESS_ROUNDS
    let s := s.setPair { s.pair with qseq := q, round := some ⟨q, [], false⟩ }
    p.witnesses.foldl (fun s w =>
      let m := pairMsg 2 s.msgPos p.stationAddr s.position 0 q.toNat []
      (s.sendPair 0 w.2 m).sendPair 1 w.2 m) s

/-- Number of replies of each verdict. -/
def Round.silent (r : Round) : Nat := (r.replies.filter (fun x => x.2 == 1)).length
def Round.alive (r : Round) : Nat := (r.replies.filter (fun x => x.2 != 1)).length

/-- The decision of R343 at a boundary: a takeover waits for the next boundary, or the module is ISOLATED. -/
def State.decideRound (s : State) (p : Pattern) : State :=
  match s.pair.round with
  | none => s
  | some r =>
    let w := p.witnesses.length
    let sil := r.silent
    let a := r.alive
    if w < 2 * sil then s.endRound.setPair { s.endRound.pair with takeover := some 3 }
    else if w ≤ 2 * a then s.isolate (sil + a) sil
    else if r.expired then
      if 1 ≤ sil + a && sil + a < 2 * sil then s.endRound.setPair { s.endRound.pair with takeover := some 3 }
      else s.isolate (sil + a) sil
    else s

/-- WIT_WAIT_EXPIRY: WIT_WAIT has passed since the query; the next boundary decides. -/
def execWitWaitExpiry (s : State) : Result :=
  .next (match s.pair.round with
    | none => s
    | some r => s.setPair { s.pair with round := some { r with expired := true } })

/-- ISOLATED_ROUND: the round of an ISOLATED module repeats every second while every path is silent. -/
def execIsolatedRound (s : State) : Result :=
  .next (match s.pat.active with
    | none => s
    | some p => if s.roleIs .isolated && s.everyPathSilent && s.pair.round.isNone then s.startRound p else s)

/-! ### PAIR_CMD -/

def State.pairResult (s : State) (op code : Nat) : State :=
  ((s.setF F.PAIR_RESULT_DONE 1).setF F.PAIR_RESULT_LAST_OP op).setF F.PAIR_RESULT_CODE code

/-- CLAIM: an ISOLATED module becomes ACTIVE at the next boundary. -/
def State.pairClaim (s : State) : State :=
  if !(s.roleIs .isolated) then s.pairResult 1 1
  else if s.pair.round.isSome then s.pairResult 1 2
  else
    let s := s.raise Ev.PAIR_CLAIM srcPair [payloadNo Ev.PAIR_CLAIM 1]
    (s.setPair { s.pair with takeover := some 4 }).pairResult 1 0

/-- RELEASE (R341). -/
def State.pairRelease (s : State) : State :=
  if !(s.roleIs .active) then s.pairResult 2 1
  else if s.pair.release ≠ .none then s.pairResult 2 2
  else if !(s.isSet F.PAIR_STATUS_PARTNER_READY) then s.pairResult 2 3
  else (s.setPair { s.pair with release := .waitMark }).pairResult 2 0

/-- WITNESS: a new round of an ISOLATED module. -/
def State.pairWitness (s : State) : State :=
  match s.pat.active with
  | none => s.pairResult 3 1
  | some p =>
    if !(s.roleIs .isolated) then s.pairResult 3 1
    else if s.pair.round.isSome then s.pairResult 3 2
    else (s.startRound p).pairResult 3 0

def execClaim (req : Requester) (s : State) : Result := s.command req F.PAIR_CMD_OP s.pairClaim
def execRelease (req : Requester) (s : State) : Result := s.command req F.PAIR_CMD_OP s.pairRelease
def execWitness (req : Requester) (s : State) : Result := s.command req F.PAIR_CMD_OP s.pairWitness

/-- A cause of R341 makes the next boundary R. -/
def State.releaseNext (s : State) (cause : Nat) : State :=
  if s.roleIs .active then
    match s.pair.release with
    | .next _ => s
    | .done => s
    | _ => s.setPair { s.pair with release := .next cause }
  else s

/-! ### Partner heartbeats (R329, R330, R345, R348) -/

/-- A heartbeat of the partner on any path. -/
def State.partnerHeard (s : State) (b : Bytes) : State :=
  let s := (((s.setF F.PAIR_PARTNER_ROLE (hbRole b)).setF F.PAIR_PARTNER_STATE (hbState b)).setF F.PAIR_PARTNER_FLAGS
    (hbFlags b)).setF F.PAIR_PARTNER_AGE 0
  let act := hbRole b == Role.active.code
  let s := s.setPair { s.pair with
    body := some b
    drivenNow := some (hbPairedOut b)
    partnerDriven := some (hbPairedOut b)
    released := s.pair.released || hbReleased b
    activeAge := if act then 0 else s.pair.activeAge
    heldAge := if act && !(hbReleased b) then 0 else s.pair.heldAge }
  let s := if s.pair.round.isSome then s.endRound else s
  let own := s.pair.since.toNat % 2 ^ 32
  let s := if s.roleIs .active && act then
      let s := s.raise Ev.PAIR_DUAL_ACTIVE srcPair [own, hbSince b]
      if hbSince b < own || (hbSince b = own && s.position = 1) then s.releaseNext 3 else s
    else s
  if s.roleIs .isolated then
    s.setPair { s.pair with nextRole := some (if act then .syncing else .active) }
  else s

/-- Does the partner's Pattern differ (R348)? -/
def State.partnerDiffers (s : State) : Bool :=
  match s.pat.active, s.pair.body with
  | some p, some b => hbPatternId b != p.patternId || hbGeneration b != p.generation
  | _, _ => false

/-! ### Nymil packets (R327, R328, R336, R339) -/

/-- The own current epoch number (R332). -/
def State.epochNow (s : State) (p : Pattern) : Nat := if p.epochLen = 0 then 0 else s.clock.refN / p.epochLen

/-- The epoch being received is discarded with a reason (R336). -/
def State.discardEpoch (s : State) (p : Pattern) (epoch reason : Nat) : State :=
  ((s.incSat F.PAIR_EPOCH_STAT_DISCARDED).raise Ev.PAIR_EPOCH_DISCARDED srcPair [lo32 epoch, hi32 epoch,
    payloadNo Ev.PAIR_EPOCH_DISCARDED reason]).setPair
    { s.pair with rxEpoch := none, rxValid := [], judged := some (s.epochNow p) }

/-- A DATA packet into the receive half; an epoch has at most 2,048, and none of a differing partner's is taken (R333,
R348). -/
def State.dataPacket (s : State) (p : Pattern) (x : NymilPacket) : State :=
  if s.partnerDiffers || 2048 ≤ x.pktNo.toNat then s else
  let s := if s.pair.rxEpoch = some x.epoch then s
    else s.setPair { s.pair with rxEpoch := some x.epoch, rxValid := [] }
  let s := s.load (p.mirrorAddr s.pair.rxHalf x.pktNo.toNat) (x.payload.slice 0 256)
  s.setPair { s.pair with rxValid := Store.set (fun _ => 0) s.pair.rxValid x.pktNo.toNat (x.vlen.toNat + 1) }

/-- The valid bytes of packets 0 to n − 1 of the receive half. -/
def State.rxBytes (s : State) (p : Pattern) (n : Nat) : Bytes × State :=
  let len (k : Nat) : Nat := Store.get (fun _ => 0) s.pair.rxValid k
  (((List.range n).map (fun k => s.rdBytes (p.mirrorAddr s.pair.rxHalf k) (len k))).flatten,
    (List.range n).foldl (fun t k => t.engRead (p.mirrorAddr s.pair.rxHalf k) (len k)) s)

/-- The receive half becomes the committed half (EPOCH_COMMIT). -/
def State.commitEpoch (s : State) (p : Pattern) (epoch : Nat) : State :=
  ((s.setF F.PAIR_EPOCH_LO_EPOCH (lo32 epoch)).setF F.PAIR_EPOCH_HI_EPOCH (hi32 epoch)).setPair { s.pair with
    committed := some (BitVec.ofNat 64 epoch, s.pair.rxHalf, s.clock.refN)
    rxHalf := !s.pair.rxHalf
    rxEpoch := none
    rxValid := []
    judged := some epoch
    toApply := p.liningSlots
    healthDue := true
    epochAge := 0 }

/-- An END_MARK (Table 13.8): EPOCH_COMMIT, or the epoch is discarded. -/
def State.endMark (s : State) (p : Pattern) (x : NymilPacket) : State :=
  let b := x.payload
  let epoch := b.u64 0
  let n := b.u16 20
  if epoch ≠ s.epochNow p then s.discardEpoch p epoch 1
  else if s.partnerDiffers || b.u64 8 ≠ p.patternId || b.u32 16 ≠ p.generation then s.discardEpoch p epoch 2
  else if n ≠ p.packetsOf p.liningSlots || b.u32 24 ≠ p.liningBytes then s.discardEpoch p epoch 3
  else if (List.range n).any (fun k => Store.get (fun _ => 0) s.pair.rxValid k == 0) then s.discardEpoch p epoch 4
  else
    let r := s.rxBytes p n
    if b.u32 28 ≠ (crc32c r.1).toNat then r.2.discardEpoch p epoch 5 else r.2.commitEpoch p epoch

/-- A health report at the active (R339). -/
def State.healthIn (s : State) (x : NymilPacket) : State :=
  let b := x.payload
  match s.pair.key with
  | none => s.setF F.PAIR_HEALTH_TAG_BAD 1
  | some key =>
    if b.slice 48 16 = (hmacSha256 key (b.slice 0 48)).take 16 then
      let s := ((s.setF F.PAIR_HEALTH_VALID 1).setF F.PAIR_HEALTH_SELFTEST_FAIL (b.u32 20 % 256)).setF F.PAIR_HEALTH_EPOCH
        (b.u16 0)
      if bitOf (b.u8 11) 3 && b.u16 24 = 0 then
        (s.setF F.PAIR_STATUS_PARTNER_READY 1).setPair { s.pair with readyAge := some 0 }
      else s
    else s.setF F.PAIR_HEALTH_TAG_BAD 1

/-- Does this module take the partner's epochs: paired, not ACTIVE, in RUN or TACKING (R322)? -/
def State.receivesLining (s : State) : Bool :=
  s.operating && !(s.roleIs .active) && !(s.roleIs .solo)

/-- The Nymil heartbeat of a stitch; another STITCH than the own N is noted (R329). -/
def State.nymilHeard (s : State) (b : Bytes) : State :=
  (s.setPair { s.pair with hb := true, skew := s.pair.skew || hbStitch b != s.clock.refN % 2 ^ 32 }).partnerHeard b

/-- A good packet, taken by type (Table 13.3). -/
def State.nymilTake (s : State) (p : Pattern) (x : NymilPacket) : State :=
  match x.ptype.toNat with
  | 1 => s.nymilHeard (x.payload.slice 0 56)
  | 2 => if s.receivesLining then s.dataPacket p x else s
  | 3 => if s.receivesLining then s.endMark p x else s
  | 4 => if s.roleIs .active then s.healthIn x else s
  | 5 => s.keyIn x
  | _ => s

/-- A packet whose PCRC is good: credits return, it is taken, and its own credit goes back; one with a reserved PTYPE is
discarded whole (R327). -/
def State.nymilPacketIn (s : State) (p : Pattern) (x : NymilPacket) : State :=
  let t := x.ptype.toNat
  if t = 0 ∨ 5 < t then s
  else ((((s.addCredits x.credit.toNat).takeRxBuffer t).nymilTake p x).sendWaiting).returnCredits

/-- NYMIL_PACKET: a packet, or credits in an ordered set. -/
def execNymilPacket (a : NymilArrival) (s : State) : Result :=
  .next (
    if !s.paired || !(s.isSet F.PAIR_PATHS_LINK_UP) then s
    else
      match a, s.pat.active with
      | .credits k, _ => (s.addCredits k.toNat).sendWaiting
      | .packet x, some p =>
        if x.pcrc ≠ nymilCrc x then s.incSat F.PAIR_EPOCH_STAT_PKT_CRC else s.nymilPacketIn p x
      | .packet _, none => s)

/-- EPOCH_DISCARD: the END_MARK of the current epoch has not arrived by the END of the end-mark entry; nothing is left
to do for an epoch that is committed or discarded already. -/
def execEpochDiscard (s : State) : Result :=
  .next (match s.pat.active with
    | none => s
    | some p =>
      if s.receivesLining && s.pair.judged != some (s.epochNow p) then s.discardEpoch p (s.epochNow p) 6 else s)

/-! ### Send and apply entries (R332 to R337) -/

/-- Packets of an item: pieces of 256 bytes (R334). -/
def cutPackets (b : Bytes) : List Bytes := chunks 256 (b.length / 256 + 1) b

/-- END_MARK payload (Table 13.8). -/
def State.endMarkBytes (s : State) (p : Pattern) : Bytes :=
  leBytes 8 (s.epochNow p) ++ leBytes 8 p.patternId ++ leBytes 4 p.generation ++ leBytes 2 s.pair.txPackets ++
    leBytes 2 0 ++ leBytes 4 s.pair.txBytes ++ leBytes 4 s.pair.txCrc.toNat

/-- The items of a slot are read and cut; the epoch's counts and CRC take them in. -/
def State.slotPackets (s : State) (p : Pattern) (slot : Nat) : List Bytes × State :=
  let s := if some slot = p.liningSlots.head? then s.setPair { s.pair with txPackets := 0, txBytes := 0, txCrc := 0 } else s
  let r := s.liningReads p (p.liningItems slot)
  let pkts := (r.1.map cutPackets).flatten
  let bytes := pkts.flatten
  (pkts, r.2.setPair { r.2.pair with
    txPackets := r.2.pair.txPackets + pkts.length
    txBytes := r.2.pair.txBytes + bytes.length
    txCrc := crc32cMore r.2.pair.txCrc bytes })

/-- The END_MARK is sent: the epoch number, and a release that waits for it goes on to the apply entries (R341). -/
def State.markSent (s : State) (p : Pattern) : State :=
  let e := s.epochNow p
  ((s.setF F.PAIR_EPOCH_LO_EPOCH (lo32 e)).setF F.PAIR_EPOCH_HI_EPOCH (hi32 e)).setPair { s.pair with
    release := if s.pair.release = .waitMark then .waitApply p.liningSlots else s.pair.release }

/-- Packets of an entry are abandoned at its END (R328); without the END_MARK the epoch is short (R336). -/
def State.stallEntry (s : State) (p : Pattern) (slot : Nat) : State :=
  let s := s.incSat F.PAIR_EPOCH_STAT_CREDIT_STALL
  if slot = p.lastSlot then
    let e := s.epochNow p
    (s.incSat F.PAIR_EPOCH_STAT_SHORT).raise Ev.PAIR_EPOCH_SHORT srcPair [lo32 e, hi32 e, slot]
  else s

/-- A send entry of the active (R334): the items of its slot, and after the last slot the END_MARK, numbered across the
epoch. Every packet costs a credit: those at hand, and those that come back before the END. What has none by then, and
everything while the link is down, is abandoned. -/
def State.nymilSend (returned : Nat) (s : State) (p : Pattern) (slot : Nat) : State :=
  let last := slot == p.lastSlot
  let (pkts, s) := s.slotPackets p slot
  let e := s.epochNow p
  let data := (pkts.zipIdx (p.packetBase slot)).map (fun c => (2, c.2, c.1))
  let all := if last then data ++ [(3, p.packetBase slot + pkts.length, s.endMarkBytes p)] else data
  let may := if s.isSet F.PAIR_PATHS_LINK_UP then s.pair.credits + returned else 0
  let s := s.setPair { s.pair with credits := max may s.pair.credits }
  let s := ((all.take may).foldl (fun s c => s.nymilPut c.1 e c.2.1 c.2.2) s).addCredits 0
  if may < all.length then s.stallEntry p slot else if last then s.markSent p else s

/-- An entry of agent 27 at its tick. -/
def State.nymilEntry (s : State) (k : Nat) (apply : Bool) (f : Nat → State → Pattern → Nat → State) : State :=
  match s.scheduled nymilAgent k, s.pat.active with
  | some r, some p =>
    let slot := slotOf r.entry.object
    if r.entry.kind ≠ .netTx || (decide (32 ≤ slot)) != apply then s
    else if s.entryMayRun then (f r.entry.finish (s.atTick r.entry.start).dropHealth p (slot % 32)).finishEntry nymilAgent k
    else (s.atTick r.entry.start).passEntry nymilAgent r.index
  | _, _ => s

/-- NYMIL_SEND_ENTRY. -/
def execNymilSendEntry (send : NymilSend) (s : State) : Result :=
  .next (s.nymilEntry send.entry false (fun _ s p slot => if s.roleIs .active then s.nymilSend send.returned p slot else s))

/-- An apply entry (R337): HEALTH_SEND follows within the first one after a commit. -/
def State.nymilApply (endTick : Nat) (s : State) (p : Pattern) (slot : Nat) : State :=
  if s.roleIs .active then
    match s.pair.release with
    | .waitApply l =>
      let l := l.erase slot
      s.setPair { s.pair with release := if l.isEmpty then .next 0 else .waitApply l }
    | _ => s
  else
    match s.pair.committed with
    | none => s
    | some (_, half, _) =>
      if s.pair.toApply.contains slot then
        let s := s.applySlot p half slot
        let s := s.setPair { s.pair with toApply := s.pair.toApply.erase slot }
        if s.pair.healthDue then s.sendHealth endTick else s
      else s

def execNymilApplyEntry (entry : Nat) (s : State) : Result := .next (s.nymilEntry entry true State.nymilApply)

/-- PARTNER_READY_LOST: no good report of a ready partner within the last 3 epochs. -/
def State.checkReady (s : State) (p : Pattern) : State :=
  if s.isSet F.PAIR_STATUS_PARTNER_READY && 3 * p.epochLen < s.pair.readyAge.getD 65535 then
    (s.setF F.PAIR_STATUS_PARTNER_READY 0).raise Ev.PAIR_HEALTH_LOST srcPair []
  else s

def execPartnerReadyLost (s : State) : Result :=
  .next (match s.pat.active with
    | none => s
    | some p => if s.roleIs .active then s.checkReady p else s)

/-! ### Pair messages (R330, R342) -/

/-- This module may serve as a witness. -/
def State.mayWitness (s : State) : Bool :=
  s.station == .stop || s.station == .tacking || s.station == .run || s.station == .safeHalt

/-- A message on every port of a served round. -/
def State.sendOn (s : State) (ports station : Nat) (m : Bytes) : State :=
  let s := if bitOf ports 0 then s.sendPair 0 station m else s
  if bitOf ports 1 then s.sendPair 1 station m else s

/-- A WITNESS_QUERY: copies on both ports are one round; one round for each querier in 4 ms, after which a query is a new
round whatever its QSEQ. -/
def State.witnessQuery (s : State) (port from_ qst qpos qseq : Nat) : State :=
  let probe := pairMsg 3 s.msgPos qst qpos 0 qseq []
  let now := s.elapsedNs
  let of := fun (v : Served) => v.station == qst && v.qpos == qpos
  let same := fun (v : Served) => of v && v.qseq == qseq && decide (now < v.at_ + 4000000)
  if s.pair.served.any same then
    let l := s.pair.served.map (fun v => if same v && !(bitOf v.ports port) then { v with ports := v.ports + 2 ^ port } else v)
    (s.setPair { s.pair with served := l }).sendPair port qst probe
  else if s.pair.served.any (fun v => of v && decide (now < v.at_ + 4000000)) then s
  else
    let l := s.pair.served.filter (fun v => !(of v && (v.answered || v.qseq == qseq)))
    (s.setPair { s.pair with served := l ++ [⟨qst, qpos, qseq, 2 ^ port, from_, false, now⟩] }).sendPair port qst probe

/-- The verdict of a served round is sent to the querier. -/
def State.witnessReply (s : State) (v : Served) (verdict : Nat) : State :=
  let l := s.pair.served.map (fun w => if w = v then { w with answered := true } else w)
  (s.setPair { s.pair with served := l }).sendOn v.ports v.querier
    (pairMsg 5 s.msgPos v.station v.qpos verdict v.qseq [])

def State.servedRound (s : State) (qst qpos qseq : Nat) : Option Served :=
  s.pair.served.find? (fun v => v.station == qst && v.qpos == qpos && v.qseq == qseq && !v.answered)

/-- A WITNESS_REPLY at the querier: the first reply of each witness counts. -/
def State.witnessIn (s : State) (p : Pattern) (station qseq verdict : Nat) : State :=
  match s.pair.round with
  | none => s
  | some r =>
    if r.qseq.toNat ≠ qseq then s else
    match p.witnesses.find? (fun w => w.2 == station) with
    | none => s
    | some (k, _) =>
      if (Store.find? r.replies k).isSome then s
      else
        let s := s.setPair { s.pair with round := some { r with replies := Store.insert r.replies k verdict } }
        let s := s.setF F.PAIR_WITNESS_REPLIED (s.getF F.PAIR_WITNESS_REPLIED + 2 ^ k)
        if verdict = 1 then s.setF F.PAIR_WITNESS_SILENT (s.getF F.PAIR_WITNESS_SILENT + 2 ^ k) else s

/-- PAIR_MESSAGE: a pair message that a plant port has accepted, from a station. -/
def execPairMessage (port station : Nat) (msg : Bytes) (s : State) : Result :=
  onUnit (port < 2) (
    match s.pat.active with
    | none => s
    | some p =>
      let s := { s with net := { s.net with
        buffers := Store.set (fun _ => 0) s.net.buffers (4 * port + 1)
          (Store.get (fun _ => 0) s.net.buffers (4 * port + 1) - 1) } }
      let pos := msg.u8 1
      let qst := msg.beAt 2 2
      let qpos := msg.u8 4
      let verdict := msg.u8 5
      let qseq := msg.beAt 6 2
      match msg.u8 0 with
      | 1 =>
        if s.paired && station = p.stationAddr then
          (s.setPair (if port = 0 then { s.pair with plantA := 0 } else { s.pair with plantB := 0 })).partnerHeard
            (hbSwap (msg.slice 8 56))
        else s
      | 2 => if s.mayWitness then s.witnessQuery port station qst qpos qseq else s
      | 3 =>
        if s.roleIs .active && qst = p.stationAddr then
          s.sendPair port station (pairMsg 4 s.msgPos qst qpos Role.active.code qseq [])
        else s
      | 4 =>
        match s.servedRound qst qpos qseq with
        | some v => if verdict = Role.active.code && pos ≠ qpos then s.witnessReply v 0 else s
        | none => s
      | 5 => if s.paired && qst = p.stationAddr && qpos = s.position then s.witnessIn p station qseq verdict else s
      | _ => s)

/-- WITNESS_PROBE_TIMEOUT: 4 ms after the probe without a reply of an ACTIVE partner. -/
def execWitnessProbeTimeout (station qpos qseq : Nat) (s : State) : Result :=
  .next (match s.servedRound station qpos qseq with
    | some v => s.witnessReply v 1
    | none => s)

/-! ### Takeover (R344) -/

/-- A mirrored loop channel resumes (R161): MODE and bank from the store, if its mode word can be read (R160); a CLOSED
one closes from its u_prev. -/
def State.lpTakeover (s : State) (c : Nat) : State :=
  (s.setF (F.LPE_CH_STATUS_PENDING c) 0).lpReading c [4] (fun s =>
    let w := s.lpWord c 0x24
    ((s.setF (F.LPE_CH_STATUS_MODE c) (w % 4)).setF (F.LPE_CH_STATUS_BANK c) (w / 4 % 2)).lpLeftOut c)

/-- Restrictiveness of a function state: FAULT over TRIPPED over NORMAL. -/
def fnRank (st : Nat) : Nat := if st = 2 then 2 else if st = 1 then 1 else 0

/-- A function resumes in the more restrictive of its mirrored state and the partner's last FN_STATE. -/
def State.fnTakeover (s : State) (f : Nat) : State :=
  match s.pair.body with
  | none => s
  | some b => if fnRank (s.fnState f) < fnRank (hbFnState b f) then s.setFnState f (hbFnState b f) else s

/-- Every Lining item of the Pattern. -/
def Pattern.allLining (p : Pattern) : List Bytes := (p.liningSlots.map p.liningItems).flatten

/-- Segments of activations begun before this boundary do nothing, and trigger queues start empty (R344). -/
def State.cutTasks (s : State) : State :=
  (List.range 32).foldl (fun s k =>
    { s.setTriggers k [] with tasks := { (s.setTriggers k []).tasks with
      cut := Store.set (fun _ => false) (s.setTriggers k []).tasks.cut k true } }) s

/-- The module becomes ACTIVE at this boundary; a claim begins its tasks as a takeover does (log 52). -/
def State.becomeActive (s : State) : State :=
  ((s.setRole .active).setPair { (s.setRole .active).pair with
    since := BitVec.ofNat 64 s.clock.refN, release := .none, takeover := none, nextRole := none, claimWait := 0, causes := [],
    rxEpoch := none, rxValid := [], readyAge := none }).cutTasks

/-- PAIR_TAKEOVER: the module resumes from the committed Lining; without one (a claim with no epoch) it starts as it
stands. -/
def State.takeOver (s : State) (p : Pattern) (cause : Nat) : State :=
  let age := match s.pair.committed with
    | some (_, _, n) => s.clock.refN - n
    | none => 0
  let s := (s.endRound.becomeActive.setF F.PAIR_TAKEOVER_CAUSE cause).setF F.PAIR_TAKEOVER_AGE (min age 0xFFFFFF)
  let s := s.raise Ev.PAIR_TAKEOVER srcPair [cause, age]
  let s := p.allLining.foldl (fun s it =>
    match lnKind it with
    | 2 => (List.range (lnAux it)).foldl (fun s k => s.lpTakeover (lnIdx it + k)) s
    | 3 => s.setQpCtx (lnIdx it) { s.qpCtx (lnIdx it) with mirror := true }
    | 5 => { s with sched := { s.sched with selvValid := Store.set (fun _ => false) s.sched.selvValid (lnIdx it) true } }
    | _ => s) s
  (p.functions.foldl State.fnTakeover s).safeCommTakeover p

/-! ### The boundary (R324, R325, R329, R340, R346) -/

/-- CHANGE of the stitch just ended, the ages of what was heard, and whether the line is released. -/
def State.pairCount (s : State) : State :=
  let x := s.pair
  let ch := (x.changes ++ [x.changed]).drop 1
  let s := (s.setB F.PAIR_PATHS_CHANGE x.changed).setB F.PAIR_PATHS_RELEASED (ch.all (!·))
  let s := (if x.hb then s.setF F.PAIR_PATHS_HB_MISSES 0 else s.incSat F.PAIR_PATHS_HB_MISSES).setB F.PAIR_PATHS_NYMIL_HB x.hb
  let up (n : Nat) : Nat := min (n + 1) 65535
  let a := up x.plantA
  let b := up x.plantB
  let s := (s.setF F.PAIR_PATHS_PLANT_HB ((if a ≤ 3 then 1 else 0) + if b ≤ 3 then 2 else 0)).incSat F.PAIR_PARTNER_AGE
  s.setPair { x with
    changed := false, changes := ch, hb := false, plantA := a, plantB := b, released := false, skew := false,
    partnerDriven := if s.nymilSilent && 3 < a && 3 < b then none else x.partnerDriven, drivenNow := none,
    sent := [], dunhelAge := up x.dunhelAge, epochAge := up x.epochAge,
    readyAge := x.readyAge.map up, activeAge := up x.activeAge, heldAge := up x.heldAge }

/-- The stale causes present at a boundary (Table 13.12), lowest first; `skew` is a Nymil heartbeat of the stitch just
ended with another STITCH. -/
def State.staleCauses (s : State) (p : Pattern) (skew : Bool) : List Nat :=
  (if s.isSet F.PAIR_PATHS_LINK_UP then [] else [1]) ++ (if s.nymilSilent then [2] else []) ++
    (if 3 * p.epochLen < s.pair.epochAge then [3] else []) ++ (if s.partnerDiffers then [4] else []) ++
    (if skew then [5] else []) ++
    (if s.ownReleased && s.pair.heldAge ≤ 3 then [6] else [])

/-- A module that is not ACTIVE finds that the partner's Pattern differs (R348): the event, once until it agrees again. -/
def State.mismatchStep (s : State) : State :=
  let d := s.partnerDiffers && !(s.roleIs .active)
  (if d && !s.pair.differed then s.raise Ev.PAIR_MISMATCH srcPair [((s.pair.body.map hbGeneration)).getD 0] else s).setPair
    { s.pair with differed := d }

/-- STANDBY and STALE by their causes; a commit of the stitch just ended brings STALE back. -/
def State.staleStep (s : State) (p : Pattern) (skew : Bool) : State :=
  let l := s.staleCauses p skew
  let old := s.pair.causes
  let s := s.setPair { s.pair with causes := l }
  let s := s.setF F.PAIR_STATUS_STALE_CAUSE (l.headD 0)
  let s := if l.contains 6 && !(old.contains 6) then s.raise Ev.PAIR_OWN_LINE srcPair [] else s
  if s.roleIs .standby && !l.isEmpty then (s.raise Ev.PAIR_STALE srcPair [l.headD 0]).setRole .stale
  else if s.roleIs .stale && l.isEmpty && s.pair.epochAge ≤ 1 then s.setRole .standby
  else s

/-- A takeover that waits takes effect once the committed epoch is applied (R338, R340); a module whose partner runs
another generation drops it, a SYNCING module has one from a witness round only (R346). -/
def State.takeoverStep (s : State) (p : Pattern) : State :=
  match s.pair.takeover with
  | some c =>
    if (s.roleIs .standby || s.roleIs .stale) && s.partnerDiffers then s.setPair { s.pair with takeover := none }
    else if s.epochApplied || s.pair.committed.isNone then s.takeOver p c
    else s
  | none => s

/-- TAKEOVER_DECISION: Table 13.9, first row that matches; `heard` is RELEASED received for the stitch just ended. -/
def State.takeoverDecision (s : State) (p : Pattern) (heard : Bool) : State :=
  if s.pair.causes.contains 4 || s.pair.takeover.isSome then s
  else if heard && !(s.isSet F.PAIR_PATHS_CHANGE) then (s.setPair { s.pair with takeover := some 1 }).takeoverStep p
  else if !s.ownReleased then s
  else if s.isSet F.PAIR_PATHS_LINK_UP then
    if s.nymilSilent && s.plantSilent then s.setPair { s.pair with takeover := some 2 } else s
  else if s.pair.heldAge ≤ 3 then s
  else if s.nymilSilent && s.plantSilent && s.pair.round.isNone then s.startRound p
  else s

/-- A SYNCING module in RUN or TACKING (R346, R347, R348); a claim of position B waits anew after OWN_SENSE was held. -/
def State.syncStep (s : State) (p : Pattern) : State :=
  let s := s.setPair { s.pair with causes := if s.partnerDiffers then [4] else [] }
  if s.pair.activeAge ≤ 3 then
    let s := s.setPair { s.pair with claimWait := 0 }
    let e := (s.pair.committed.map (fun c => c.1.toNat)).getD 0
    if s.partnerDiffers then s
    else if s.pair.key.isSome && s.epochApplied && s.pair.healthSent then
      (s.raise Ev.PAIR_SYNCED srcPair [lo32 e, hi32 e]).setRole .standby
    else if s.pair.key.isNone && s.pair.ecdh.isNone && s.isSet F.PAIR_PATHS_LINK_UP then s.sendKey
    else s
  else if !s.ownReleased then s.setPair { s.pair with claimWait := 0 }
  else if s.pair.round.isSome || s.pair.takeover.isSome then s
  else if s.position = 1 && s.pair.claimWait < p.claimB then
    s.setPair { s.pair with claimWait := s.pair.claimWait + 1 }
  else
    let s := s.raise Ev.PAIR_CLAIM srcPair [payloadNo Ev.PAIR_CLAIM 0]
    if s.everyPathSilent then s.startRound p else s.becomeActive

/-- OWN_HOLD and release of the ACTIVE module (R325, R341). -/
def State.ownStep (s : State) : State :=
  if s.roleIs .solo then s.setPair { s.pair with ownHold := none }
  else if s.roleIs .active then
    match s.pair.release with
    | .next c => (s.raise Ev.PAIR_RELEASE srcPair [payloadNo Ev.PAIR_RELEASE c]).setPair { s.pair with release := .done }
    | .done =>
      let s := s.toSyncing
      s.setPair { s.pair with release := .none, ownHold := some false }
    | _ => s.setPair { s.pair with ownHold := some (!(s.pair.ownHold.getD false)) }
  else s.setPair { s.pair with ownHold := some false }

/-- A Nymil loopback test runs (R470, R475). -/
def State.nymilLoops (s : State) : Bool := (s.dgt.lb.map (fun t => t.target == 11)).getD false

/-- The heartbeat of the stitch that begins (R329): on Nymil but in a loopback test of the link, and filled for the
pair-message slots of the plant ports. -/
def State.sendHeartbeat (s : State) (p : Pattern) : State :=
  if s.station = .off ∨ s.station = .boot ∨ s.station = .watch then s
  else (if s.nymilLoops then s else s.nymilPut 1 (s.epochNow p) 0 s.heartbeatBody).fillEth p 3 0

/-- Everything that a pair does at a boundary; a change of role takes effect here. -/
def State.pairBoundary (s : State) (p : Pattern) : State :=
  let heard := s.pair.released
  let skew := s.pair.skew
  let s := s.pairCount
  if !s.paired then s.ownStep
  else
    let s := s.dropHealth.mismatchStep
    let s :=
      if !s.operating then
        if s.roleIs .active then s
        else s.endRound.toSyncing
      else if s.roleIs .active then s.checkReady p
      else
        let s := match s.pair.nextRole with
          | some .active => s.takeOver p 3
          | some _ => s.toSyncing
          | none => s
        let s := if s.roleIs .active then s else s.takeoverStep p
        if s.roleIs .standby || s.roleIs .stale then
          let s := s.staleStep p skew
          let s := s.takeoverDecision p heard
          if s.roleIs .active then s else s.decideRound p
        else if s.roleIs .isolated then s.decideRound p
        else if s.roleIs .syncing then (s.syncStep p).decideRound p
        else s
    s.ownStep.sendHeartbeat p

end Sys2Proof.Machine
end

