-- ==== Sys2Proof/Machine/StationOps.lean ====
section
/-!
DEFINITION. Leaving RUN and TACKING: the slot tables stop, outputs take their off values, forces are released, a
prepared on-line change is discarded (R47, R78, R131, R165, R204, R219, R256, R341).
-/

namespace Sys2Proof.Machine

/-- The slot tables stop: no agent executes anything, no solve runs (R47). -/
def State.stopTables (s : State) : State :=
  let s := (s.setF F.SCH_STATUS_RUNNING 0).setF F.SCH_STATUS_WAIT_SEAM 0
  let s := (List.range 29).foldl (fun s a =>
    (s.setAgent a { s.agent a with running := none, done := 0, overran := false }).setBusy a false) s
  let s := (List.range 8).foldl (fun s c => s.setSelv c false) s
  let s := s.qpDrop
  { s with sched := { s.sched with startRequest := none, stopRequest := none } }

/-- Every output takes its off value (R204, R219). -/
def State.dropOutputs (s : State) : State :=
  let s := (List.range 48).foldl (fun s n => if s.patIs (fun p => p.isOutput n) then s.switch n false else s) s
  (List.range 8).foldl (fun s o => s.cloOff o) s

/-- Every force is released, with one event that counts them (R131). -/
def State.releaseForces (s : State) : State :=
  let n := s.tasks.forces.length
  let s := { s with tasks := { s.tasks with forces := [] } }
  (s.setF F.GLB_FORCE_RESULT_COUNT 0).raise Ev.FORCE_RELEASED srcSupervisor [0, n]

/-! ### On-line change: states of OLC_STATE (Table 3.10) -/

def olcIdle : Nat := 0
def olcPreparing : Nat := 1
def olcReady : Nat := 2
def olcCommitting : Nat := 3
def olcAborted : Nat := 4
def olcFailed : Nat := 5
def State.olc (s : State) : Nat := s.getF F.PAT_STATE_OLC_STATE
/-- An on-line change is under way. -/
def State.olcOpen (s : State) : Bool := s.olc == olcPreparing || s.olc == olcReady || s.olc == olcCommitting

/-- The Pattern operation that executes has ended: CODE and DETAIL in PAT_RESULT (Table 3.12). -/
def State.patEnd (s : State) (op code detail : Nat) : State :=
  let s := (((s.setF F.PAT_RESULT_LAST_OP op).setF F.PAT_RESULT_CODE code).setF F.PAT_RESULT_DETAIL detail).setF
    F.PAT_RESULT_DONE 1
  let s := s.setF F.PAT_RESULT_BUSY 0
  { s with pat := { s.pat with executing := 0 } }

/-- The prepared change is gone; OLC_STATE takes its end state. A PREPARE that still loads ends with it, with CODE and
DETAIL 0, the model's choice (log 14). -/
def State.olcDrop (s : State) (st : Nat) : State :=
  let s := { s with pat := { s.pat with prepared := none, commitAt := none, markWritten := false, loadDue := false } }
  let s := s.setF F.PAT_STATE_OLC_STATE st
  if s.pat.executing = 3 then s.patEnd 3 0 0 else s

/-- Entry into STOP, SAFE_HALT or WATCH before the commit point discards the prepared change (R78). -/
def State.olcLeave (s : State) : State := if s.olcOpen && !s.pat.markWritten then s.olcDrop olcAborted else s

/-- The end of a start command (Table 5.11). -/
def State.startEnd (s : State) (op code : Nat) : State :=
  let s := { s with sched := { s.sched with op := 0 } }
  (((s.setF F.GLB_START_RESULT_LAST_OP op).setF F.GLB_START_RESULT_CODE code).setF F.GLB_START_RESULT_DONE 1).setF
    F.GLB_START_RESULT_BUSY 0

/-! ### Loopback tests (R470, R471, R474) -/

/-- LOOP field of a CAN FD or Ethernet target. -/
def lbLoopField (target : Nat) : Option Fld :=
  if target < 8 then some (F.CAN_CTRL_LOOP target)
  else if target < 11 then some (F.ETH_P_CTRL_LOOP (target - 8))
  else none

/-- The running loopback test ends: after COUNT items with code 0, else with a code. -/
def State.lbEnd (s : State) (code : Nat) : State :=
  match s.dgt.lb with
  | none => s
  | some t =>
    let s := match lbLoopField t.target with
      | some f => s.setF f 0
      | none => s
    let st := if code = 0 ∧ s.getF F.DGT_LB_COUNT_GOOD = s.getF F.DGT_LB_COUNT_SENT then 2 else 3
    let s := ((s.setF F.DGT_LB_STATUS_STATE st).setF F.DGT_LB_STATUS_CODE code).raise Ev.LOOPBACK_DONE srcSupervisor
      [t.target, t.depth, st, s.getF F.DGT_LB_COUNT_GOOD, s.getF F.DGT_LB_COUNT_SENT]
    { s with dgt := { s.dgt with lb := none } }

/-- Every LOOP field is set to 0: at every restart and at the entry into RUN (R471). -/
def State.clearLoops (s : State) : State :=
  (List.range 11).foldl (fun s t => match lbLoopField t with
    | some f => s.setF f 0
    | none => s) s

/-- The station state changes; a loopback test that runs is aborted (R474). -/
def State.setStation (s : State) (dst : StationState) : State :=
  { (if s.station = dst then s else s.lbEnd 6) with station := dst }

/-- The station leaves RUN or TACKING, or a start that waits for its boundary, for a state without slot tables. -/
def State.leaveOperation (s : State) (dst : StationState) : State :=
  let s := s.releaseNext 1
  let s := s.stopTables.olcLeave
  let s := if s.sched.op = 0 then s else s.startEnd s.sched.op (if dst = .stop && s.sched.op = 5 then 0 else 1)
  let s := if s.station = .tacking then (s.endInjection 1).releaseForces.closeWindow else s
  (s.setStation dst).dropOutputs.updateModOk

end Sys2Proof.Machine
end

