-- ==== Sys2Proof/Machine/RegRead.lean ====
section
/-!
DEFINITION. What a read of the station register space returns and does: live registers, windows, latched high words,
captures (R8 to R11, R32, Tables 6.14, 7.21, 11.21, 12.14, 12.24, 14.12), and the commits of recorder raises, whose
snapshots are such reads (R358, R361).
-/

namespace Sys2Proof.Machine

/-! ### Windows -/

/-- A word of the channel store window (Table 6.14). -/
def State.storeWord (s : State) (off : Nat) : Nat :=
  let c := s.getF F.LPE_WIN_CH_CHANNEL
  let banked := s.patIs (fun p => lpBanked (p.loop c))
  if 0xF0 ≤ off || (0x90 ≤ off && off < 0xE0 && !banked) then 0 else s.lpWord c off

/-- The windows: first address, length, and the place that a word of them shows, if it is in SRAM. -/
inductive Window where
  | store | bobbin | problem | mailbox (n : Nat) | record
  deriving DecidableEq, Repr

def windowAt (a : Nat) : Option (Window × Nat) :=
  if 0x00048000 ≤ a ∧ a < 0x00048400 then some (.store, a - 0x00048000)
  else if 0x0004C000 ≤ a ∧ a < 0x00050000 then some (.bobbin, a - 0x0004C000)
  else if 0x00058000 ≤ a ∧ a < 0x00060000 then some (.problem, a - 0x00058000)
  else if 0x000B0000 ≤ a ∧ a < 0x000B8000 ∧ 0x800 ≤ a % 0x1000 ∧ a % 0x1000 < 0x850 then
    some (.mailbox (a / 0x1000 % 8), a % 0x1000 - 0x800)
  else if 0x000D0100 ≤ a ∧ a < 0x000D0200 then some (.record, a - 0x000D0100)
  else none

/-- The problem-data window shows memory only while its context is DISABLED (R192). -/
def State.problemPlace (s : State) (off : Nat) : Nat :=
  Mem.solver (s.getF F.QPS_WIN_SEL_CTX) + 0x8000 * s.getF F.QPS_WIN_SEL_PAGE + off
def State.problemOpen (s : State) : Bool := s.qpWindowOpen

/-- A word of a window. -/
def State.windowWord (s : State) (w : Window) (off : Nat) : Nat :=
  match w with
  | .store => s.storeWord off
  | .bobbin => s.rdLe (Mem.bobbin + 0x4000 * s.getF F.LPE_BOB_PAGE_PAGE + off) 4
  | .problem => if s.problemOpen then s.rdLe (s.problemPlace off) 4 else 0
  | .mailbox n => Bytes.leAt (s.mbOf n (s.getF (F.CAN_MB_LOCK_MB n))).main off 4
  | .record => (s.recordWord (off / 4)).toNat

/-- SRAM that a window read touches, if any. -/
def State.windowPlace (s : State) (w : Window) (off : Nat) : Option Nat :=
  match w with
  | .store => if off < 0xF0 then some (Mem.loopStore (s.getF F.LPE_WIN_CH_CHANNEL) + off) else none
  | .bobbin => some (Mem.bobbin + 0x4000 * s.getF F.LPE_BOB_PAGE_PAGE + off)
  | .problem => if s.problemOpen then some (s.problemPlace off) else none
  | _ => none

/-! ### Registers -/

/-- Mask of the bits of a register that read as stored: every field but WO ones. -/
def readMask : List FieldDef → BitVec 32
  | [] => 0
  | f :: fs => (if f.acc = .wo then 0 else maskBits (f.hi - f.lo + 1) <<< f.lo) ||| readMask fs

/-- Capture channel whose LO or HI register lies at an address. -/
def captureLo (a : Nat) : Option Nat := (List.range 16).find? (fun c => a == (F.PTP_CAP_LO_TIME c).addr)
def captureHi (a : Nat) : Option Nat := (List.range 16).find? (fun c => a == (F.PTP_CAP_HI_TIME c).addr)

/-- The value that a register has now: time, stitches, the increment and captures are live. -/
def State.liveWord (s : State) (a : Nat) : BitVec 32 :=
  if a = F.SCH_STITCH_LO_COUNT.addr then s.clock.stitch.setWidth 32
  else if a = F.SCH_STITCH_HI_COUNT.addr then (s.clock.stitch >>> 32).setWidth 32
  else if a = F.SCH_EDGE_LO_EDGE.addr then s.clock.edge.setWidth 32
  else if a = F.SCH_EDGE_HI_EDGE.addr then (s.clock.edge >>> 32).setWidth 32
  else if a = F.PTP_TIME_LO_VALUE.addr then BitVec.ofNat 32 s.nowNs
  else if a = F.PTP_TIME_HI_VALUE.addr then BitVec.ofNat 32 (s.nowNs / 2 ^ 32)
  else if a = F.PTP_TIME_FRAC_VALUE.addr then s.clock.now.setWidth 32
  else if a = F.PTP_INCR_LO_FRAC.addr then s.clock.incr.setWidth 32
  else if a = F.PTP_INCR_HI_NS.addr then (s.clock.incr >>> 32).setWidth 32
  else if a = F.EVR_CODE_STAT_BUCKET.addr then s.codeStat
  else
    match captureLo a, captureHi a with
    | some c, _ => ((s.capturesOf c).headD 0).setWidth 32
    | _, some c => ((s.capturesOf c).headD 0 >>> 32).setWidth 32
    | _, _ =>
      match windowAt a with
      | some (w, off) => BitVec.ofNat 32 (s.windowWord w off)
      | none =>
        match findReg a with
        | some r => s.getR a &&& readMask r.fields
        | none => 0

/-- The words that a read of a low word latches: the high word, and the fraction of the time. -/
def latchedBy (a : Nat) : List Nat :=
  if a = F.SCH_STITCH_LO_COUNT.addr then [F.SCH_STITCH_HI_COUNT.addr]
  else if a = F.SCH_EDGE_LO_EDGE.addr then [F.SCH_EDGE_HI_EDGE.addr]
  else if a = F.PTP_TIME_LO_VALUE.addr then [F.PTP_TIME_HI_VALUE.addr, F.PTP_TIME_FRAC_VALUE.addr]
  else if a = F.PAIR_EPOCH_LO_EPOCH.addr then [F.PAIR_EPOCH_HI_EPOCH.addr]
  else if a = F.EVR_NEXT_LO_NEXT.addr then [F.EVR_NEXT_HI_NEXT.addr]
  else if a = F.PNL_JOURNAL_LO_WORD.addr then [F.PNL_JOURNAL_HI_WORD.addr]
  else if a = F.PWR_SLEEP_LEDGER_LO_NS.addr then [F.PWR_SLEEP_LEDGER_HI_NS.addr]
  else []

/-- Is an address one whose read returns a latched word? -/
def isLatched (a : Nat) : Bool :=
  [F.SCH_STITCH_HI_COUNT.addr, F.SCH_EDGE_HI_EDGE.addr, F.PTP_TIME_HI_VALUE.addr, F.PTP_TIME_FRAC_VALUE.addr,
    F.PAIR_EPOCH_HI_EPOCH.addr, F.EVR_NEXT_HI_NEXT.addr, F.PNL_JOURNAL_HI_WORD.addr,
    F.PWR_SLEEP_LEDGER_HI_NS.addr].contains a

/-- A register read on the station bus: its value, and what the read does. -/
def State.busRead (s : State) (a : Nat) : BitVec 32 × State :=
  if isLatched a then (Store.get (fun _ => 0) s.bus.latch a, s)
  else
    let v := s.liveWord a
    let latch := (latchedBy a).foldl (fun m h => Store.set (fun _ => 0) m h (s.liveWord h)) s.bus.latch
    let s := { s with bus := { s.bus with latch := latch } }
    let s := match captureHi a with
      | some c => (s.captureTake c).2
      | none => s
    match windowAt a with
    | some (w, off) =>
      match s.windowPlace w off with
      | some m => (v, (s.eccRead m 4 2).2)
      | none => (v, s)
    | none => (v, s)

/-! ### Commits of the recorder (R358, R361) -/

/-- The words of one snapshot run, and what reading them does. -/
def State.snapRun (s : State) (p : Pattern) (r : Nat × Nat × Nat) : List (BitVec 32) × State :=
  let (addr, kind, n) := r
  if kind = 0 then
    (List.range n).foldl (fun (x : List (BitVec 32) × State) k =>
      let y := x.2.busRead (addr + 4 * k)
      (x.1 ++ [y.1], y.2)) ([], s)
  else
    match p.symIndex addr with
    | none => (List.replicate n 0, s)
    | some k =>
      let a := Mem.shared + p.symOff k
      ((List.range n).map (fun i => BitVec.ofNat 32 (s.rdLe (a + 4 * i) 4)), (s.eccRead a (4 * n) 2).2)

/-- The snapshot of a code: its item's runs in order. -/
def State.snapshot (s : State) (code : Nat) : List (BitVec 32) × State :=
  match s.pat.active with
  | none => ([], s)
  | some p =>
    match p.recItem code with
    | none => ([], s)
    | some it =>
      (List.range (it.u8 3)).foldl (fun (x : List (BitVec 32) × State) k =>
        let y := x.2.snapRun p (recRun it k)
        (x.1 ++ y.1, y.2)) ([], s)

/-- The oldest staged raise is taken and committed. -/
def State.commitOne (s : State) : State :=
  match s.evr.staged with
  | [] => s
  | e :: _ =>
    if s.isSet F.EVR_STATUS_SCANNED then
      let (snap, s) := s.snapshot e.code.toNat
      (s.writeRecord e snap).unstage
    else s

/-- RECORD_COMMIT. -/
def execRecordCommit (s : State) : Result := .next (s.access s.commitOne)

/-- Every staged raise is committed (R358): those staged now, in their order. -/
def State.commitAll (s : State) : State := (List.range s.evr.staged.length).foldl (fun s _ => s.commitOne) s

end Sys2Proof.Machine
end

