-- ==== Sys2Proof/Machine/ResetOps.lean ====
section
/-!
DEFINITION. A full reset, OFF, and what each of them keeps (R426, R437, R440, R460).
-/

namespace Sys2Proof.Machine

/-- Reset causes (Table 18.2). -/
inductive ResetCause where
  | powerOn | brownout | watchBrownout | wakeReg | supervisorWdt | rstPin | update | software | debug
  deriving DecidableEq, Repr

def ResetCause.code : ResetCause → Nat
  | .powerOn => 1
  | .brownout => 2
  | .watchBrownout => 3
  | .wakeReg => 4
  | .supervisorWdt => 5
  | .rstPin => 6
  | .update => 7
  | .software => 8
  | .debug => 9

/-- Bit of ALL in RST_CAUSE. -/
def ResetCause.bit (c : ResetCause) : Nat := 2 ^ (c.code - 1)

/-- The lowest code among the causes (R440). -/
def primaryCause (causes : Nat) : Nat := (((List.range 9).find? (fun k => bitOf causes k)).map (· + 1)).getD 0

/-- What stands in MRAM of the register file: STATE of UPD_Rr_STATE, r = 0 to 2 (R422, Table 17.17). -/
def State.keptRegs (s : State) : Store (BitVec 32) :=
  [0x00100100, 0x00100110, 0x00100120].foldl (fun m a => Store.set regReset m a (s.getR a &&& 0xE0000000#32)) []

/-- The boundary-scan instructions that take over the pins: EXTEST, CLAMP, HIGHZ (Table 20.3). -/
def scanCode (c : BitVec 8) : Bool := c == 0x00#8 || c == 0x03#8 || c == 0x04#8

/-- DGT_STATUS after a reset: SCAN shows the instruction that the TAP holds. -/
def scanReg (c : BitVec 8) (regs : Store (BitVec 32)) : Store (BitVec 32) :=
  Store.set regReset regs F.DGT_STATUS_SCAN.addr (if scanCode c then 0x40000000#32 else 0)

/-- What a reset leaves: MRAM, flash, OTP, the key store and the update regions; the settings memory, the levels of the
pins and the TAP, which lie outside the reset; the commands that wait. -/
def State.afterReset (s : State) : State :=
  let t := State.reset
  { t with
    pending := s.pending
    regs := scanReg s.dgt.ir s.keptRegs
    mem := s.mem.filter (fun c => decide (Mem.mram ≤ c.1))
    pat := { t.pat with slotLen := s.pat.slotLen }
    upd := s.upd
    sec := { t.sec with
      ownerSlots := s.sec.ownerSlots
      fuses := s.sec.fuses
      revoked := s.sec.revoked
      ownerKey := s.sec.ownerKey
      caks := s.sec.caks }
    rst := { t.rst with
      rstLow := s.rst.rstLow
      vioOut := s.rst.vioOut
      hot := s.rst.hot
      holdUp := s.rst.holdUp
      memory := s.rst.memory }
    pwr := { t.pwr with feedA := s.pwr.feedA, feedB := s.pwr.feedB }
    saf := { t.saf with edgeDue := s.saf.edgeDue }
    pair := { t.pair with sense := s.pair.sense }
    dgt := { t.dgt with ir := s.dgt.ir }
    freeCount := s.freeCount }

/-- What the boot ROM notes of a reset: in TACKING it releases every force, with their count (R131), and a loopback test
that runs is aborted (R474); the events are raised after the boot, the model's choice (log 34). A reset that is held goes
on with its notes. -/
def State.resetNotes (s : State) : List (Nat × List Nat) :=
  (if s.station = .tacking then [(Ev.FORCE_RELEASED, [0, s.tasks.forces.length])]
   else if s.station = .boot ∧ s.rst.held then s.rst.notes else []) ++
  (s.dgt.lb.map (fun t => (Ev.LOOPBACK_DONE,
    [t.target, t.depth, 3, s.getF F.DGT_LB_COUNT_GOOD, s.getF F.DGT_LB_COUNT_SENT]))).toList

/-- A full reset: every cause active at it is noted, and the internal reset is held (R440). -/
def State.fullReset (s : State) (c : ResetCause) : State :=
  let old := if s.station = .boot ∧ s.rst.held then s.rst.causes else 0
  let t := s.afterReset
  { t with rst := { t.rst with causes := (if bitOf old (c.code - 1) then old else old + c.bit), notes := s.resetNotes } }

/-- The module loses its supply; what the loss ended is noted as at a reset. -/
def State.powerOff (s : State) : State :=
  let t := s.afterReset
  { t with
    station := .off
    rst := { t.rst with causes := 0, holdUp := false, notes := s.resetNotes }
    dgt := { t.dgt with ir := 0xFF#8 } }

/-- The module runs: it is neither off nor held in reset. -/
def State.alive (s : State) : Bool := s.station != .off && !s.rst.held

/-- A reset of the module while it is not off. -/
def State.resetBy (s : State) (c : ResetCause) : State := if s.station = .off then s else s.fullReset c

end Sys2Proof.Machine
end

