-- ==== Sys2Proof/Machine/Owner.lean ====
section
/-!
DEFINITION. The owner key in use (R408, R410, R419).
-/

namespace Sys2Proof.Machine

/-- The owner key of the key store, if its SHA-384 is the one in the OTP owner slot in force (R410). -/
def State.owner (s : State) : Option Bytes :=
  match s.sec.ownerKey, s.sec.ownerSlots.getLast? with
  | some k, some d => if sha384 k == d then some k else none
  | _, _ => none

/-- The key store does not agree with the OTP owner slot in force. -/
def State.ownerBad (s : State) : Bool := !s.sec.ownerSlots.isEmpty && s.owner.isNone

/-- The owner key is read for a use: a mismatch raises AUTH_FAIL and counts as no owner enrolled (R410). -/
def State.ownerUse (s : State) : State :=
  if s.ownerBad then s.authFail else s

end Sys2Proof.Machine
end

