-- ==== Sys2Proof/Machine/Panel.lean ====
section
/-!
DEFINITION. The door panel: assets, rendering, update requests, waveforms, frames, the panel journal, rail faults and
recovery (R366 to R383).
-/

namespace Sys2Proof.Machine

namespace Mem

/-- Panel assets slot k (R426 keeps two), the two image buffers beside the panel journal word (R380), and the waveform
table in the panel frame store (R368). -/
def assetsSlot (k : Nat) : Nat := flash + 0xA000000 + k * 0x400000
def panelBuffer (b : Nat) : Nat := journal + 0x100000 * (1 + b)
def panelWaves : Nat := panelStore + 960000

end Mem

/-! ### Presence and assets (R366, R367) -/


/-- STATE of PNL_STATUS (Table 15.9). -/
def pnlOff : Nat := 0
def pnlIdle : Nat := 1
def pnlPowerOn : Nat := 2
def pnlUpdating : Nat := 3
def pnlDischarging : Nat := 4
def pnlRecovery : Nat := 5
def pnlFailed : Nat := 6
def pnlDisabled : Nat := 7

def State.pnlState (s : State) : Nat := s.getF F.PNL_STATUS_STATE
def State.setPnlState (s : State) (n : Nat) : State := s.setF F.PNL_STATUS_STATE n
def State.setPnl (s : State) (x : Panel) : State := { s with pnl := x }

/-- CFG_PANEL as sampled. -/
def State.hasPanel (s : State) : Bool := s.isSet F.RST_STRAPS_CFG_PANEL
def State.assetsOk (s : State) : Bool := s.isSet F.PNL_STATUS_ASSETS_OK

/-- The panel assets container in a slot, as long as its TOTAL_LEN says. -/
def State.assetsBytes (s : State) (k : Nat) : Bytes :=
  s.rdBytes (Mem.assetsSlot k) (min 0x400000 (s.rdLe (Mem.assetsSlot k + 12) 4))
def State.assets (s : State) : Pattern := parseContainer (s.assetsBytes s.pnl.slot)

/-- Bytes of an image. -/
def State.imageLen (s : State) : Nat := asW s.assets * asH s.assets / 2

/-- The failure that decides which part PNL_ASSETS_INVALID names. -/
def failedPart (f : Failure) : Nat := f.1.code * 65536 + f.2 % 65536

/-- Verification of the assets in use (R367). -/
def State.verifyAssets (s : State) : State :=
  if !s.hasPanel then s else
  let s := s.ownerUse
  match checkAssets (s.assetsBytes s.pnl.slot) s.owner with
  | none => (s.setF F.PNL_STATUS_ASSETS_OK 1).setPnlState pnlIdle
  | some f => ((s.setF F.PNL_STATUS_ASSETS_OK 0).raise Ev.PNL_ASSETS_INVALID srcPanel [payloadNo Ev.PNL_ASSETS_INVALID (failedPart f)]).setPnlState
      pnlDisabled

/-- The panel is powered up: the controller copies the waveform table into the panel frame store (R368). -/
def State.panelPowerUp (s : State) : State :=
  if s.hasPanel && s.assetsOk then s.load Mem.panelWaves (asPart s.assets 3) else s

/-! ### The panel journal (R380, Table 15.6) -/

def State.panelWord (s : State) : Nat := s.rdLe Mem.panelJournal 8
def State.panelEmpty (s : State) : Bool := bitsOf s.panelWord 63 56 != 0xA5
def State.panelDisp (s : State) : Nat := if s.panelEmpty then 0 else bitsOf s.panelWord 2 2

/-- The journal word of a state (0 IDLE, 1 ACTIVE, 2 INTERRUPTED), a buffer and a region. -/
def panelWordOf (st disp : Nat) (j : PanelJob) : Nat :=
  st + 4 * disp + 2 ^ 8 * j.xb0 + 2 ^ 16 * j.xb1 + 2 ^ 24 * j.y0 + 2 ^ 35 * j.y1 + 2 ^ 56 * 0xA5

/-- The journal word is written; PNL_JOURNAL shows it. -/
def State.setPanelWord (s : State) (w : Nat) : State :=
  ((s.wrLe Mem.panelJournal 8 w).setF F.PNL_JOURNAL_LO_WORD (lo32 w)).setF F.PNL_JOURNAL_HI_WORD (hi32 w)

/-- The region that the journal word holds, for a recovery. -/
def State.journalJob (s : State) : PanelJob :=
  let w := s.panelWord
  ⟨.recovery, bitsOf w 15 8, bitsOf w 23 16, bitsOf w 34 24, bitsOf w 45 35⟩

/-- The whole screen. -/
def State.wholeScreen (s : State) (k : PanelKind) : PanelJob :=
  ⟨k, 0, asW s.assets / 8 - 1, 0, asH s.assets - 1⟩

/-! ### Requests (R379) -/

/-- The union of two regions; a refresh clears all it takes in. -/
def PanelJob.union (a b : PanelJob) : PanelJob :=
  ⟨if a.kind = .refresh ∨ b.kind = .refresh then .refresh else a.kind, min a.xb0 b.xb0, max a.xb1 b.xb1, min a.y0 b.y0,
    max a.y1 b.y1⟩

/-- PENDING: a request waits behind a running update. -/
def State.setPanelPending (s : State) : State :=
  s.setB F.PNL_STATUS_PENDING (s.pnl.request.isSome && s.pnl.run.isSome)

/-- The update that starts next: a recovery that is due comes before every request (R383). -/
def State.nextJob (s : State) : Option PanelJob :=
  match s.pnl.recovery with
  | some j => some j
  | none => s.pnl.request

/-- A request for an update: a later request replaces a pending one, in the union of their regions. -/
def State.requestUpdate (s : State) (j : PanelJob) : State :=
  (s.setPnl { s.pnl with request := some (match s.pnl.request with
    | none => j
    | some r => r.union j) }).setPanelPending

/-! ### Screens (R377, R378) -/

/-- The PANEL item, if its layout applies: W and H are those of the assets. -/
def Pattern.panelItem (p : Pattern) : Bytes := p.item Pattern.PANEL 256 0
def State.layoutOk (s : State) (p : Pattern) : Bool :=
  (p.section? Pattern.PANEL).isSome && (p.panelItem.u16 0 == asW s.assets && p.panelItem.u16 2 == asH s.assets)

/-- At activation of a Pattern or of assets, a layout for another panel is reported (R378). -/
def State.checkLayout (s : State) (p : Pattern) : State :=
  if s.hasPanel && s.assetsOk && (p.section? Pattern.PANEL).isSome && !(s.layoutOk p) then
    s.raise Ev.PNL_LAYOUT_MISMATCH srcPanel [p.panelItem.u16 0, p.panelItem.u16 2]
  else s

/-- Alarm record k of the PANEL section. -/
def Pattern.alarmRec (p : Pattern) (k : Nat) : Bytes := ((p.bytes Pattern.PANEL).drop (p.panelItem.u32 12 + 8 * k)).take 8

/-- An alarm is active while its symbol reads 1. -/
def State.alarmActive (s : State) (p : Pattern) (k : Nat) : Bool :=
  match p.symIndex ((p.alarmRec k).u32 0) with
  | none => false
  | some i => s.rdByte (Mem.shared + p.symOff i) == 1

/-- Active alarms by PRIO, then by record order. -/
def State.activeAlarms (s : State) (p : Pattern) : List Nat :=
  let on := (List.range (p.panelItem.u16 6)).filter (s.alarmActive p)
  (List.range 256).flatMap (fun prio => on.filter (fun k => (p.alarmRec k).u8 7 == prio))

/-- The words of the alarms' symbols are read (R102). -/
def State.alarmReads (s : State) (p : Pattern) : State :=
  (List.range (p.panelItem.u16 6)).foldl (fun s k =>
    match p.symIndex ((p.alarmRec k).u32 0) with
    | none => s
    | some i => s.engRead (Mem.shared + p.symOff i) 1) s

/-- An alarm's text. -/
def Pattern.alarmText (p : Pattern) (k : Nat) : List Nat :=
  let r := p.alarmRec k
  (((p.bytes Pattern.PANEL).drop (r.u16 4)).take (r.u8 6)).map BitVec.toNat

/-- The station's header line and its alarms, under either layout; `faults` are the counts of class A and class B faults
present. -/
def State.stationScreen (s : State) (p : Pattern) (faults : List Nat) : List Nat :=
  let alarms := s.activeAlarms p
  ((p.header.drop 48).take 32).map BitVec.toNat ++
    [s.getF F.RST_ADDR_ADDR, s.getF F.PAIR_STATUS_ROLE] ++ faults ++ [alarms.length] ++ alarms.flatMap p.alarmText

/-- The layout that the screens of every state take (R377, R378): whether it is the Pattern's, and its FLAGS. -/
def State.layoutWords (s : State) : List Nat :=
  match s.pat.active with
  | some p => if s.layoutOk p then [1, p.panelItem.u16 4] else [0, 0]
  | none => [0, 0]

/-- Character code of an upper-case hexadecimal digit. -/
def hexDigit (d : Nat) : Nat := if d < 10 then 48 + d else 55 + d

/-- CHECK_VALUE as it is shown (R61): two groups of four hexadecimal digits joined by a hyphen, the high half first. -/
def checkText (v : Nat) : List Nat :=
  let group (h : Nat) : List Nat := [h / 4096 % 16, h / 256 % 16, h / 16 % 16, h % 16].map hexDigit
  group (v / 2 ^ 16) ++ [45] ++ group v

/-- The content of the screen for the station state (Table 15.5); the number in front names the screen. In BOOT the
module's identity is its serial, and the two free numbers are the progress. -/
def State.screenText (s : State) (faults : List Nat) : List Nat :=
  if s.pnl.watchAt.isSome then 5 :: [lo32 (s.pnl.watchAt.getD 0), hi32 (s.pnl.watchAt.getD 0)]
  else
    let st (k : Nat) : List Nat := k :: ((s.pat.active.map (fun p => s.stationScreen p faults)).getD [])
    match s.station with
    | .boot | .off | .watch => [0, lo32 Config.serial.toNat, hi32 Config.serial.toNat] ++ faults
    | .unpatterned => [1, s.pat.shownCode, s.pat.shownDetail]
    | .stop => st 2
    | .run => st 3
    | .tacking =>
      st 4 ++ (if s.isSet F.PAT_STATE_CHECK_CONFIRMED then []
        else checkText (s.getF F.PAT_CHECK_CHECK_VALUE) ++ [s.getF F.SAF_STATUS_WINDOW])
    | .safeHalt => [6, s.getF F.SAF_STATUS_CAUSE]

def State.screen (s : State) (faults : List Nat) : List Nat := s.layoutWords ++ s.screenText faults

/-- The image of a screen of given content, with the glyphs of the assets' font. -/
def State.renderImage (s : State) (content : List Nat) : Bytes :=
  (List.range s.imageLen).map (Config.screenByte (asPart s.assets 7) content (asW s.assets) (asH s.assets))

/-- The last requested image: of the target, or of buffer DISP. -/
def State.targetImage (s : State) : Bytes :=
  match s.pnl.target with
  | some c => s.renderImage c
  | none => s.rdBytes (Mem.panelBuffer s.panelDisp) s.imageLen

/-- Least and greatest of numbers. -/
def spanOf : List Nat → Option (Nat × Nat)
  | [] => none
  | n :: l => match spanOf l with
    | none => some (n, n)
    | some (a, b) => some (min n a, max n b)

/-- The bounding rectangle of the pixels in which two images differ, widened to multiples of 8 in x. -/
def State.differing (s : State) (a b : Bytes) : Option PanelJob :=
  let per := max 1 (asW s.assets / 2)
  let diff := ((a.zip b).zipIdx.filter (fun x => x.1.1 != x.1.2)).map (·.2)
  match spanOf (diff.map (fun i => i % per / 4)), spanOf (diff.map (fun i => i / per)) with
  | some (x0, x1), some (y0, y1) => some ⟨.draw, x0, x1, y0, y1⟩
  | _, _ => none

/-- The panel works: present, with good assets, not failed or disabled, in every state but OFF and WATCH. -/
def State.panelWorks (s : State) : Bool :=
  s.hasPanel && s.assetsOk && s.station != .off && s.station != .watch && s.pnlState != pnlOff &&
    s.pnlState != pnlFailed && s.pnlState != pnlDisabled

/-- PANEL_RENDER (R379): the screen is rendered, and if it differs from the last requested image an update is
requested. What it requests waits behind a recovery that is due (R383). -/
def State.panelRender (s : State) : State :=
  if !s.panelWorks then s else
  let s := match s.pat.active with
    | some p => if s.operating || s.station == StationState.stop then s.alarmReads p else s
    | none => s
  let ((a, b), s) := s.faultCounts
  let c := s.screen [a, b]
  match s.differing s.targetImage (s.renderImage c) with
  | none => s
  | some j => (s.setPnl { s.pnl with target := some c }).requestUpdate j

def execPanelRender (s : State) : Result := .next s.panelRender

/-- A refresh of the whole screen is requested. -/
def State.requestRefresh (s : State) : State := s.requestUpdate (s.wholeScreen .refresh)

/-- REFRESH_INTERVAL (R379): REFRESH_S has elapsed. -/
def execRefreshInterval (s : State) : Result :=
  .next (match s.pat.active with
    | some p => if s.panelWorks && s.layoutOk p && p.panelItem.u32 8 != 0 then s.requestRefresh else s
    | none => s)

/-! ### Waveforms and correction (R368 to R371) -/

/-- Level of pixel (x, y) in an image. -/
def levelAt (w : Nat) (img : Bytes) (x y : Nat) : Nat :=
  let b := (img.getD ((y * w + x) / 2) 0#8).toNat
  if x % 2 = 0 then b % 16 else b / 16

/-- Entry of the waveform table in the frame store. -/
def State.wave (s : State) (range entry : Nat) : Nat := s.rdLe (Mem.panelWaves + 64 + 16 * (257 * range + entry)) 16

/-- Code of a waveform in frame f. -/
def waveCode (w f : Nat) : Nat := w / 4 ^ f % 4

/-- The last frame below LEN that drives. -/
def lastDrive (w : Nat) : Option Nat :=
  ((List.range (waveLen w)).filter (fun f => waveCode w f == 1 || waveCode w f == 2)).getLast?

/-- A pixel's code in update frame f, from its waveform and its trim (R371). -/
def pixelCode (w : Nat) (t : Int) (f : Nat) : Nat :=
  let len := waveLen w
  match lastDrive w with
  | none => if f < len then waveCode w f else 0
  | some e =>
    if f < len then
      if t < 0 ∧ (e : Int) + t < f ∧ f ≤ e then 0 else waveCode w f
    else if (f : Int) < len + t then waveCode w e
    else 0

/-- Frames that a pixel's waveform takes. -/
def pixelFrames (w : Nat) (t : Int) : Nat := waveLen w + t.toNat

/-- Region of Table 15.1 that a pixel lies in (R369). -/
def regionOfPixel (w h x y : Nat) : Nat := 8 * (8 * y / h) + 8 * x / w

/-- Range of a temperature in quarter degrees, and whether it was clamped (R369). -/
def rangeOf (a : Pattern) (t : Int) : Nat × Bool :=
  let n := asRanges a
  if t < 4 * asBound a 0 then (0, true)
  else if 4 * asBound a n ≤ t then (n - 1, true)
  else (((List.range n).find? (fun k => decide (4 * asBound a k ≤ t) && decide (t < 4 * asBound a (k + 1)))).getD (n - 1),
    false)

/-- The pixels of a region, row by row. -/
def PanelJob.pixels (j : PanelJob) : List (Nat × Nat) :=
  (List.range (j.y1 + 1 - j.y0)).flatMap (fun dy =>
    (List.range (8 * (j.xb1 + 1 - j.xb0))).map (fun dx => (8 * j.xb0 + dx, j.y0 + dy)))

def PanelJob.holds (j : PanelJob) (x y : Nat) : Bool :=
  decide (j.xb0 ≤ x / 8) && decide (x / 8 ≤ j.xb1) && decide (j.y0 ≤ y) && decide (y ≤ j.y1)

/-- The range of a pixel in the running update. -/
def State.pixelRange (s : State) (a : Pattern) (x y : Nat) : Nat :=
  s.pnl.ranges.getD (regionOfPixel (asW a) (asH a) x y) 0

/-- The drawing waveform of a pixel: from its level in buffer DISP, or from 15 after a clearing, to its level in the
frame store (R381, R383). -/
def State.drawWave (s : State) (a : Pattern) (j : PanelJob) (old new : Bytes) (x y : Nat) : Nat :=
  let from_ := if j.kind = .draw then levelAt (asW a) old x y else 15
  s.wave (s.pixelRange a x y) (16 * from_ + levelAt (asW a) new x y)

/-- The greatest of numbers. -/
def maxOf (l : List Nat) : Nat := l.foldl max 0

/-- Frames of the clearing and of the drawing of an update. -/
def State.updateFrames (s : State) (a : Pattern) (j : PanelJob) (old new : Bytes) : Nat × Nat :=
  let trim (x y : Nat) := asTrim a (y * asW a + x)
  (if j.kind = .draw then 0 else maxOf (j.pixels.map (fun q => pixelFrames (s.wave (s.pixelRange a q.1 q.2) 256) (trim q.1 q.2))),
   maxOf (j.pixels.map (fun q => pixelFrames (s.drawWave a j old new q.1 q.2) (trim q.1 q.2))))

/-! ### An update (R374, R375, R381) -/

/-- T_s of a reading in quarter degrees: outside −40 °C to +100 °C the sensor has failed and the fallback applies. -/
def State.panelTemperature (s : State) (a : Pattern) (ntc : Int) : Int × State :=
  if ntc < -160 ∨ 400 < ntc then
    (4 * asFallback a, (s.setF F.PNL_STATUS_SENSOR_FAULT 1).raise Ev.PNL_SENSOR_FAULT srcPanel [unsgn 32 ntc])
  else (ntc, s.setF F.PNL_STATUS_SENSOR_FAULT 0)

/-- VCOM of the next power-on sequence, in mV (Table 15.11). -/
def State.vcomMv (s : State) (a : Pattern) : Int :=
  if s.getF F.PNL_VCOM_CODE = 0 then asVcom a else -10 * (s.getF F.PNL_VCOM_CODE : Int)

/-! ### Rails (R373 to R375) -/

/-- The power-on sequence, in its order; the first frame waits for every rail to be within its tolerance, which a rail
fault denies (R374, R376). -/
def powerOnOrder : List PanelRail := [.vgl, .vneg, .vgh, .vpos, .vcom]

def State.railOn (s : State) (r : PanelRail) : State := s.setPnl { s.pnl with rails := s.pnl.rails ++ [r] }
def State.railOff (s : State) (r : PanelRail) : State := s.setPnl { s.pnl with rails := s.pnl.rails.filter (· != r) }

/-- The power-on sequence; VCOM takes its value of now. -/
def State.railsOn (s : State) (vcomMv : Int) : State :=
  let s := powerOnOrder.foldl State.railOn s
  s.setPnl { s.pnl with vcom := vcomMv }

/-- The discharge sequence (R375): a sweep of code 0b00 over every row, VPOS and VNEG off, VCOM at 0 V, VGH and VGL off;
of rails that are off nothing is left to discharge. -/
def State.discharge (s : State) : State :=
  if s.pnl.rails.isEmpty then s
  else
    let a := s.assets
    let s := s.setPnl { s.pnl with scan := List.replicate (asH a) ⟨List.replicate (asW a) 0#2, 0⟩ }
    let s := (s.railOff .vpos).railOff .vneg
    let s := (s.setPnl { s.pnl with vcom := 0 }).railOff .vcom
    (s.railOff .vgh).railOff .vgl

/-- A discharge that no PANEL_UPDATE_COMMIT ends: DISCHARGING is shown for its 10.0 ms. -/
def State.dischargeNow (s : State) : State :=
  let t := s.discharge.setPnlState pnlDischarging
  t.setPnl { t.pnl with dischargeAt := some s.elapsedNs }

/-- The 10.0 ms are over, seen at the first stitch boundary from then on: the model's choice (log 126). -/
def State.dischargeStep (s : State) : State :=
  match s.pnl.dischargeAt with
  | some t =>
    if t + 10000000 ≤ s.elapsedNs then
      let s := s.setPnl { s.pnl with dischargeAt := none }
      if s.pnlState = pnlDischarging then s.setPnlState pnlIdle else s
    else s
  | none => s

/-- An update may start: requested or due, none runs, rails discharged or still on from the one before, both feeds not
lost, no scan instruction (R479). -/
def State.panelMayStart (s : State) : Bool :=
  s.panelWorks && s.nextJob.isSome && s.pnl.run.isNone && !s.pnl.blocked && !s.pnl.retry && s.pnl.dischargeAt.isNone &&
    s.domainOn domPanel && !(s.isSet F.DGT_STATUS_SCAN)

/-- STATE while the frames of an update run. -/
def PanelJob.state (j : PanelJob) : Nat := if j.kind = .recovery then pnlRecovery else pnlUpdating

/-- PANEL_UPDATE_START: steps 1 to 3 of R381, with the temperature of the update and its length. -/
def State.panelStart (s : State) (j : PanelJob) (ntc : Int) : State :=
  let a := s.assets
  let (ts, s) := s.panelTemperature a ntc
  let rs := (List.range 64).map (fun r => rangeOf a (ts + asOffset a r))
  let s := s.setPnl { s.pnl with ranges := rs.map (·.1) }
  let s := s.setB F.PNL_STATUS_TEMP_CLAMP (rs.any (·.2))
  let s := (s.setF F.PNL_TEMP_TS (unsgn 16 ts)).setF F.PNL_TEMP_RANGE ((rs.map (·.1)).headD 0)
  let disp := s.panelDisp
  let old := s.rdBytes (Mem.panelBuffer disp) s.imageLen
  let new := if j.kind = .recovery then old else s.targetImage
  let s := s.load Mem.panelStore new
  let s := if j.kind = .recovery then s else s.wrBytes (Mem.panelBuffer (1 - disp)) new
  let s := s.setPanelWord (panelWordOf 1 disp j)
  let (c, d) := s.updateFrames a j old new
  let s := s.setPnl { s.pnl with
    request := if j.kind = .recovery then s.pnl.request else none
    recovery := none
    run := some j
    clearFrames := c
    scan := []
    finished := false }
  let s := (s.setF F.PNL_STATUS_LU (c + d)).setF F.PNL_STATUS_FRAME 0
  let s := if s.pnl.rails.isEmpty then (s.railsOn (s.vcomMv a)).setPnlState pnlPowerOn else s.setPnlState j.state
  s.setPanelPending

/-- The assets that the pointer names come into use (Table 17.9); a layout for another panel is reported. -/
def State.takeAssets (s : State) : State :=
  let s := (s.setPnl { s.pnl with slot := s.upd.assetsSlot, target := none }).verifyAssets.panelPowerUp
  match s.pat.active with
  | some p => s.checkLayout p
  | none => s

/-- New assets take effect at a power-on sequence, with a full refresh (Table 17.9); assets that fail disable the panel
(R367). -/
def State.panelStartNew (s : State) (ntc : Int) : State :=
  let s := s.takeAssets
  if s.assetsOk then
    let s := s.requestRefresh
    match s.pnl.request with
    | some j => s.panelStart j ntc
    | none => s
  else (s.setPnl { s.pnl with request := none }).setPanelPending

/-- PANEL_UPDATE_START. New assets wait for the recovery of an update that the former ones began. -/
def execPanelUpdateStart (ntc : Int) (s : State) : Result :=
  .next (match s.nextJob with
    | some j =>
      if !s.panelMayStart then s
      else if s.pnl.rails.isEmpty && s.pnl.slot != s.upd.assetsSlot && j.kind != .recovery then s.panelStartNew ntc
      else s.panelStart j ntc
    | none => s)

/-- Activation of panel assets (R430, Table 17.9): the pointer is written. A panel that works takes them at its next
power-on sequence, with a full refresh; one that is disabled or failed, or not ready, verifies them at once, is disabled
if they fail (R367), and refreshes once it works again. -/
def State.activateAssets (s : State) (slot : Nat) : State :=
  let s := { s with upd := { s.upd with assetsSlot := slot } }
  if !s.hasPanel then s
  else if s.panelWorks || s.pnl.run.isSome then s.requestRefresh
  else
    let t := s.takeAssets
    if t.assetsOk then (t.setPnlState s.pnlState).setPnl { t.pnl with renew := true } else t

/-! ### A frame (R372) -/

/-- The codes of one frame, row by row: pixels outside the region receive 0. -/
def State.frameCodes (s : State) (j : PanelJob) (f : Nat) : List (List (BitVec 2)) :=
  let a := s.assets
  let old := s.rdBytes (Mem.panelBuffer s.panelDisp) s.imageLen
  let new := s.rdBytes Mem.panelStore s.imageLen
  let c := s.pnl.clearFrames
  (List.range (asH a)).map (fun y => (List.range (asW a)).map (fun x =>
    if j.holds x y then
      let t := asTrim a (y * asW a + x)
      BitVec.ofNat 2 (if f < c then pixelCode (s.wave (s.pixelRange a x y) 256) t f
        else pixelCode (s.drawWave a j old new x y) t (f - c))
    else 0#2))

/-- Clocks of a row (Table 15.3): eight codes a clock, and eight more. -/
def rowClocks (w : Nat) : Nat := w / 8 + 8

/-- The H + 4 rows of a frame. A row shifts in the codes of the next one: the two preamble rows lead up to row 0 and carry
PNL_GDSP high through the gate clock of the second, the two trailing rows carry codes of 0. -/
def scanRows (w : Nat) (codes : List (List (BitVec 2))) : List PanelRow :=
  let none_ := List.replicate w 0#2
  let shifted := none_ :: codes ++ [none_, none_, none_]
  shifted.zipIdx.map (fun x => ⟨x.1, if x.2 = 0 then rowClocks w else if x.2 = 1 then w / 8 + 4 else 0⟩)

/-- Levels of the panel's outputs (Table 15.2). -/
structure PanelPins where
  sd : BitVec 16
  sdle : Bool
  sdoe : Bool
  sdceN : Bool
  gdclk : Bool
  gdsp : Bool
  gdoe : Bool
  deriving DecidableEq, Repr

/-- PNL_SD at a clock: eight codes, the leftmost in bits 1:0; after the data it holds. -/
def PanelRow.sd (w : Nat) (r : PanelRow) (clk : Nat) : BitVec 16 :=
  let k := min clk (w / 8 - 1)
  BitVec.ofNat 16 (((r.codes.drop (8 * k)).take 8).zipIdx.foldl (fun v x => v + x.1.toNat * 4 ^ x.2) 0)

/-- The outputs at a clock of a row (Table 15.3). -/
def PanelRow.pins (w : Nat) (r : PanelRow) (clk : Nat) : PanelPins :=
  let n := w / 8
  { sd := r.sd w clk
    sdle := decide (n ≤ clk) && decide (clk < n + 2)
    sdoe := decide (clk < n) || decide (n + 6 ≤ clk)
    sdceN := decide (n ≤ clk)
    gdclk := decide (n + 2 ≤ clk) && decide (clk < n + 4)
    gdsp := decide (clk < r.start)
    gdoe := true }

/-- The update that feed loss interrupted ends: discharge, event (R382). -/
def State.panelInterrupted (s : State) : State :=
  let s := (s.incSat F.PNL_COUNT_INTERRUPTED).raise Ev.PNL_UPDATE_INTERRUPTED srcPanel
    [s.getF F.PNL_STATUS_FRAME, s.getF F.PNL_STATUS_LU]
  let s := s.dischargeNow
  (s.setPnl { s.pnl with run := none, finished := false }).setPanelPending

/-- PANEL_FRAME: the next frame is scanned, the first one once the power-on sequence is complete; after the last one the
discharge sequence runs, unless another update waits (R379). -/
def State.panelFrame (s : State) (j : PanelJob) : State :=
  let f := s.getF F.PNL_STATUS_FRAME
  let s := s.setPnl { s.pnl with scan := scanRows (asW s.assets) (s.frameCodes j f) }
  let s := if s.pnlState = pnlPowerOn then s.setPnlState j.state else s
  if s.pnl.blocked then s.panelInterrupted
  else if f + 1 < s.getF F.PNL_STATUS_LU then s.setF F.PNL_STATUS_FRAME (f + 1)
  else
    let s := s.setPnl { s.pnl with finished := true }
    if s.pnl.request.isSome && !s.pnl.disable then s else s.discharge.setPnlState pnlDischarging

def execPanelFrame (s : State) : Result :=
  .next (match s.pnl.run with
    | some j => if s.pnl.finished then s else s.panelFrame j
    | none => s)

/-- The end of a PNL_CMD command (Table 15.13). -/
def State.pnlResult (s : State) (op code : Nat) : State :=
  ((s.setF F.PNL_RESULT_LAST_OP op).setF F.PNL_RESULT_CODE code).setF F.PNL_RESULT_DONE 1

/-- The panel is disabled: no request is kept, and rails that an update left on for the next are discharged. -/
def State.panelOff (s : State) : State :=
  let s := s.discharge
  let s := s.setPnl { s.pnl with request := none, recovery := none, retry := false, disable := false }
  (s.setPnlState pnlDisabled).setPanelPending.pnlResult 2 0

/-- PANEL_UPDATE_COMMIT: step 6 of R381, or the end of a recovery (R383). -/
def State.panelCommit (s : State) (j : PanelJob) : State :=
  let disp := s.panelDisp
  let done := s.pnlState == pnlDischarging
  let s := s.setPanelWord (panelWordOf 0 (if j.kind = .recovery then disp else 1 - disp) j)
  let s := if j.kind = .recovery then
      (s.incSat F.PNL_COUNT_RECOVERED).raise Ev.PNL_RECOVERED srcPanel [j.y1 + 1 - j.y0]
    else s.incSat F.PNL_COUNT_DONE
  let s := s.setPnl { s.pnl with run := none, finished := false }
  let s := if done then s.setPnlState pnlIdle else s
  if s.pnl.disable then s.panelOff else s.setPanelPending

def execPanelUpdateCommit (s : State) : Result :=
  .next (match s.pnl.run with
    | some j => if s.pnl.finished then s.panelCommit j else s
    | none => s)

/-! ### Rail faults (R376) -/

/-- An update ends without its image. A pending refresh stays, with the image it shows; of a pending drawing the region
no longer suffices, and the next screen is compared with buffer DISP anew. -/
def State.updateLost (s : State) : State :=
  let kept := s.pnl.request.filter (fun r => r.kind == .refresh)
  s.setPnl { s.pnl with
    run := none
    finished := false
    request := kept
    target := if kept.isSome then s.pnl.target else none }

/-- PNL_RAIL_FAULT: the frame stops, the rails are discharged, the journal is marked; a second fault within 60 s fails
the panel. -/
def State.railFault (s : State) (j : PanelJob) (rail : Nat) : State :=
  let now := s.elapsedNs
  let again := (s.pnl.faultAt.map (fun t => decide (now ≤ t + 60000000000))).getD false
  let s := s.dischargeNow.setPanelWord (panelWordOf 2 s.panelDisp j)
  let s := ((s.incSat F.PNL_COUNT_INTERRUPTED).setF F.PNL_STATUS_RAIL_FAULT 1).raise Ev.PNL_RAIL_FAULT srcPanel [rail]
  let s := s.updateLost
  let s := s.setPnl { s.pnl with faultAt := some now, retry := !again }
  let s := if again then
      let s := s.setPnl { s.pnl with request := none, target := none }
      (s.setPnlState pnlFailed).raise Ev.PNL_FAILED srcPanel [rail]
    else s
  if s.pnl.disable then s.panelOff else s.setPanelPending

def execPnlRailFault (rail : Nat) (s : State) : Result :=
  onUnit (rail < 5) (match s.pnl.run with
    | some j => if s.pnl.rails.isEmpty then s else s.railFault j rail
    | none => s)

/-- RAIL_FAULT_RETRY: 1 s later the update is retried as a recovery. -/
def execRailFaultRetry (s : State) : Result :=
  .next (if s.pnl.retry then
    (s.setPnl { s.pnl with retry := false, recovery := some s.journalJob }).setPanelPending
  else s)

/-! ### Boot, feed loss and commands -/

/-- PANEL_RECOVERY at BOOT (R383). -/
def State.panelBoot (s : State) : State :=
  let w := s.panelWord
  let s := (s.setF F.PNL_JOURNAL_LO_WORD (lo32 w)).setF F.PNL_JOURNAL_HI_WORD (hi32 w)
  if !(s.hasPanel && s.assetsOk) then s
  else if s.panelEmpty then
    (s.wrBytes (Mem.panelBuffer 0) (List.replicate s.imageLen 0xFF#8)).requestRefresh
  else if bitsOf w 1 0 = 0 then s
  else
    let j := s.journalJob
    let s := if bitsOf w 1 0 = 2 then s else s.raise Ev.PNL_STICK_RISK srcPanel [j.y1 + 1 - j.y0]
    s.setPnl { s.pnl with recovery := some j }

/-- Both feeds are lost (R382): the journal of a running update is marked INTERRUPTED, and no update starts. A frame in
progress is completed first; in the power-on sequence and after the last frame there is none. Rails that an update left
on for the next are discharged. -/
def State.panelFeedLoss (s : State) : State :=
  let s := s.setPnl { s.pnl with blocked := true }
  match s.pnl.run with
  | some j =>
    let s := s.setPanelWord (panelWordOf 2 s.panelDisp j)
    if s.pnl.finished || s.pnlState == pnlPowerOn then s.panelInterrupted else s
  | none => s.discharge

/-- REFRESH in PNL_CMD. -/
def State.pnlRefresh (s : State) : State :=
  if !s.hasPanel then s.pnlResult 1 3
  else if !s.assetsOk then s.pnlResult 1 2
  else if !s.panelWorks then s.pnlResult 1 1
  else s.requestRefresh.pnlResult 1 0

/-- DISABLE: after any running update. -/
def State.pnlDisableCmd (s : State) : State :=
  if !s.hasPanel then s.pnlResult 2 3
  else if s.pnlState = pnlOff then s.pnlResult 2 1
  else if s.pnl.run.isSome then
    let s := ((s.setF F.PNL_RESULT_LAST_OP 2).setF F.PNL_RESULT_CODE 0).setF F.PNL_RESULT_DONE 0
    let s := s.setPnl { s.pnl with disable := true }
    if s.pnl.finished then s.discharge.setPnlState pnlDischarging else s
  else s.panelOff

/-- ENABLE: from FAILED or DISABLED, assets permitting. An update that the journal shows unfinished is recovered as at
BOOT, the model's choice (log 127); new assets get their full refresh (Table 17.9). -/
def State.pnlEnableCmd (s : State) : State :=
  if !s.hasPanel then s.pnlResult 3 3
  else if s.pnlState ≠ pnlFailed ∧ s.pnlState ≠ pnlDisabled then s.pnlResult 3 1
  else if !s.assetsOk then s.pnlResult 3 2
  else
    let open_ := !s.panelEmpty && bitsOf s.panelWord 1 0 != 0
    let t := s.setPnl { s.pnl with
      faultAt := none, renew := false, recovery := if open_ then some s.journalJob else none }
    let t := if s.pnl.renew then t.requestRefresh else t
    (t.setPnlState pnlIdle).pnlResult 3 0

def execRefresh (req : Requester) (s : State) : Result := s.command req F.PNL_CMD_OP s.pnlRefresh
def execPnlDisable (req : Requester) (s : State) : Result := s.command req F.PNL_CMD_OP s.pnlDisableCmd
def execPnlEnable (req : Requester) (s : State) : Result := s.command req F.PNL_CMD_OP s.pnlEnableCmd

end Sys2Proof.Machine
end

