-- ==== Sys2Proof/Machine/PatternOps.lean ====
section
/-!
DEFINITION. The pattern journal, verification, the load of a Pattern, UNPATTERNED, and the PAT_CMD commands of full
activation (R36, R63, R67 to R74, R481, R482).
-/

namespace Sys2Proof.Machine

/-! ### The pattern journal word (R481, Table 3.18) -/

/-- Roles of the three slots and the active generation. -/
structure PatRoles where
  active : Nat
  shadow : Nat
  prev : Nat
  set : Bool
  prevValid : Bool
  gen : Nat
  deriving DecidableEq, Repr

/-- What a journal word says; a word that was never written names no active slot. -/
def patRoles (w : Nat) : PatRoles :=
  let a := bitsOf w 1 0
  let b := bitsOf w 3 2
  let c := bitsOf w 5 4
  if bitsOf w 63 56 = 0x3C && [0, 1, 2].all (fun k => [a, b, c].contains k) then
    ⟨a, b, c, bitOf w 6, bitOf w 7, bitsOf w 39 8⟩
  else ⟨2, 0, 1, false, false, 0⟩

def patWord (r : PatRoles) : Nat :=
  r.active + 4 * r.shadow + 16 * r.prev + (if r.set then 64 else 0) + (if r.prevValid then 128 else 0) +
    2 ^ 8 * r.gen + 2 ^ 56 * 0x3C

def State.roles (s : State) : PatRoles := patRoles (s.rdLe Mem.patJournal 8)

/-- PAT_STATE shows the journal word. -/
def State.showRoles (s : State) : State :=
  let r := s.roles
  (((s.setF F.PAT_STATE_ACTIVE_SLOT r.active).setF F.PAT_STATE_SHADOW_SLOT r.shadow).setF F.PAT_STATE_PREV_SLOT
    r.prev).setB F.PAT_STATE_PREV_VALID r.prevValid

/-- The journal word is written in one MRAM write cycle (R71). -/
def State.writeRoles (s : State) (r : PatRoles) : State := (s.wrLe Mem.patJournal 8 (patWord r)).showRoles

/-- The shadow slot becomes active, the old active slot previous, the old previous slot shadow (R70 step 2). -/
def PatRoles.rotate (r : PatRoles) (gen : Nat) : PatRoles := ⟨r.shadow, r.prev, r.active, true, r.set, gen⟩

/-- SHADOW_STATE (Table 3.10), and STATE of an update region (Table 17.7). -/
def shEmpty : Nat := 0
def shWriting : Nat := 1
def shWritten : Nat := 2
def shVerifying : Nat := 3
def shVerified : Nat := 4
def shRefused : Nat := 5
def State.shadowState (s : State) : Nat := s.getF F.PAT_STATE_SHADOW_STATE
def rgIdle : Nat := 0
def rgReceiving : Nat := 1
def rgReceived : Nat := 2
def rgVerifying : Nat := 3
def rgVerified : Nat := 4
def rgArmed : Nat := 5
def rgTrial : Nat := 6
def rgFailed : Nat := 7
def State.region (s : State) (r : Nat) : Nat := s.getF (F.UPD_R_STATE_STATE r)
def State.setRegion (s : State) (r st : Nat) : State := s.setF (F.UPD_R_STATE_STATE r) st

/-- SHADOW_STATE with the STATE of the pattern region. -/
def State.setShadow (s : State) (sh rg : Nat) : State := (s.setF F.PAT_STATE_SHADOW_STATE sh).setRegion 1 rg

/-- The update of the pattern region is over: its Pattern is active, or the shadow slot is empty (R423). -/
def State.shadowGone (s : State) : State := (s.setShadow shEmpty rgIdle).setF (F.UPD_R_STATE_POSTPONED 1) 0

/-! ### Verification (R67, Table 3.7) -/

/-- Length of the update that wrote a slot. -/
def State.slotLength (s : State) (k : Nat) : Nat := Store.get (fun _ => 0) s.pat.slotLen k

/-- The container in a slot: as many bytes as TOTAL_LEN says and the update wrote, the header at least. -/
def State.container (s : State) (k : Nat) : Bytes :=
  s.rdBytes (Mem.patSlot k) (max 128 (min (s.slotLength k) (s.rdLe (Mem.patSlot k + 12) 4)))

/-- The first failed check of a container, in the order of Table 3.7. -/
def State.verifyContainer (s : State) (c : Bytes) (maxLen : Nat) : Option Failure :=
  let p := parseContainer c
  firstFailure [
    fun _ => checkPatternContainer c maxLen s.owner,
    fun _ => check .contract 0 (p.contract < 16 && bitOf (s.getF F.SCH_CONTRACT_IMPL) p.contract),
    fun _ => check .station 0 (p.stationAddr == s.getF F.RST_ADDR_ADDR),
    fun _ => checkVersions c,
    fun _ => p.checkStructure,
    fun _ => p.checkSchedule,
    fun _ => p.checkWriters,
    fun _ => p.checkGrants,
    fun _ => p.checkResources]

def State.verifySlot (s : State) (k : Nat) : Option Failure := s.verifyContainer (s.container k) (s.slotLength k)

/-! ### Initial values (R124 step 2, Table 5.6) -/

def regionBase (r : Nat) : Nat := if r = 0 then Mem.shared else Mem.dram (r - 1)
def initKind (it : Bytes) : Nat := it.u8 0
def initRegion (it : Bytes) : Nat := it.u8 1
def initOff (it : Bytes) : Nat := it.u32 4
def initLen (it : Bytes) : Nat := it.u32 8
def Pattern.initItems (p : Pattern) (kind : Nat) : List Bytes :=
  ((List.range (p.items Pattern.INITDATA)).map p.initItem).filter (fun it => initKind it == kind)
def Pattern.initBytes (p : Pattern) (it : Bytes) : Bytes :=
  ((p.bytes Pattern.INITDATA).drop (it.u32 12)).take (initLen it)

/-- The part of a run of the shared SRAM that lies in the first half of a task's output area, in its second half. -/
def State.mirrorHalf (s : State) (p : Pattern) (k off : Nat) (bs : Bytes) : State :=
  let o := p.outOff k
  let n := p.outLen k
  let lo := max off o
  let hi := min (off + bs.length) (o + n)
  if lo < hi then s.load (Mem.shared + lo + n) ((bs.drop (lo - off)).take (hi - lo)) else s

/-- An initial value run; an output area receives it in both halves. -/
def State.initRun (s : State) (p : Pattern) (it : Bytes) : State :=
  let bs := p.initBytes it
  let s := s.load (regionBase (initRegion it) + initOff it) bs
  if initRegion it = 0 then
    (p.cyclicTasks ++ p.eventTasks).foldl (fun s k => s.mirrorHalf p k (initOff it) bs) s
  else s

/-- Data scratchpads to 0, retained runs to 0, then every initial value run. -/
def State.initData (s : State) (p : Pattern) : State :=
  let s := (s.clearRange (Mem.dram 0) 0x400000).eccClearArrays 8 15
  let s := (p.initItems 2).foldl (fun s it =>
    (s.clearRange (Mem.shared + initOff it) (initLen it)).eccClearWords (Mem.shared + initOff it) (initLen it)) s
  (p.initItems 1).foldl (fun s it => s.initRun p it) s

/-! ### The load (R70 steps 4 and 5, R12) -/

/-- Every "pattern" field reads 0; PERIOD_SEL reads 3 (R12, Table 2.14). -/
def State.clearPatternFields (s : State) : State :=
  let z (s : State) (n : Nat) (f : Nat → Fld) : State := (List.range n).foldl (fun s k => s.setF (f k) 0) s
  let s := (s.setR F.SCH_CONFIG_PERIOD_SEL.addr 3).setF F.SCH_CONTRACT_ACTIVE 0
  let s := [F.PAT_GEN_GENERATION, F.PAT_ID_LO_ID, F.PAT_ID_HI_ID, F.PAT_CHECK_CHECK_VALUE, F.QPS_STATUS_USED,
    F.QPS_STATUS_REFUSED, F.SCM_STATUS_PD_SETS, F.SCM_STATUS_TP_CONNS, F.PAIR_STATUS_PAIRED,
    F.PWR_STATIC_STATIC].foldl (fun s f => s.setF f 0) s
  let s := z s 12 F.PAT_DIGEST_DIGEST
  let s := z (z s 256 F.LPE_CH_STATUS_MODE) 256 F.LPE_CH_STATUS_COEF_BAD
  let s := z (z s 8 F.QPS_CTX_STATE_MODE) 8 F.QPS_MISS_LIMIT
  let s := z (z s 48 F.DIO_CH_STATUS_MODE) 8 F.CLO_CH_STATUS_MODE
  let s := z (z (z s 1024 F.SCM_PD_STATUS_SEND) 1024 F.SCM_PD_STATUS_SAFE) 1024 F.SCM_PD_STATUS_SET
  let s := z (z s 32 F.SCM_TP_STATUS_PRODUCER) 32 F.SCM_TP_STATUS_SAFE
  let s := z s 8 F.CAN_CTRL_MODE
  (List.range 8).foldl (fun s n => z s 64 (F.CAN_MB_STATUS_USED n)) s

/-- What the header and TOPOLOGY give the registers (R63, Tables 2.14, 2.15, 3.13 to 3.17). -/
def State.headerFields (s : State) (p : Pattern) : State :=
  let s := ((s.setF F.SCH_CONFIG_SEAM_LEN_M1 (p.seamLen - 1)).setF F.SCH_CONFIG_GUARD p.guardTicks).setF
    F.SCH_CONFIG_PERIOD_SEL p.periodSel
  let s := (s.setF F.SCH_CONTRACT_ACTIVE p.contract).setF F.PAT_GEN_GENERATION p.generation
  let s := (s.setF F.PAT_ID_LO_ID (lo32 p.patternId)).setF F.PAT_ID_HI_ID (hi32 p.patternId)
  let s := s.setF F.PAT_CHECK_CHECK_VALUE p.checkValue
  (List.range 12).foldl (fun s n => s.setF (F.PAT_DIGEST_DIGEST n) (p.digest.u32 (4 * n))) s

/-- Counters of what has happened since a Pattern's activation (R51, R476; Tables 2.19, 2.22, 4.18, 4.20). -/
def State.clearCounts (s : State) : State :=
  let z (s : State) (n : Nat) (f : Nat → Fld) : State := (List.range n).foldl (fun s k => s.setF (f k) 0) s
  let s := z (z (z s 29 F.SCH_AGENT_OVR_COUNT) 8 F.APC_CORE_EXC_COUNT) 8 F.LPE_LANE_STATUS_NOT_COMPUTED
  ([F.SCH_OVR_COUNT_COUNT, F.APC_WSIG_PASS_COUNT, F.DIO_TP_CYCLES_COUNT].foldl (fun s f => s.setF f 0) s).setR
    F.DGT_ST_PASS.addr 0

/-- Fields of channels, networks and power. -/
def State.unitFields (s : State) (p : Pattern) : State :=
  let s := (List.range 48).foldl (fun s n => s.setF (F.DIO_CH_STATUS_MODE n) (p.ioMode n)) s
  let s := (List.range 8).foldl (fun s o => s.setF (F.CLO_CH_STATUS_MODE o) (p.ioMode (cloItem o))) s
  let s := (s.safeCommConfigure p).canConfigure p
  (s.setF F.PWR_STATIC_STATIC p.pwStatic).setB F.PAIR_STATUS_PAIRED p.paired

/-- Code images go into the instruction scratchpads. -/
def State.loadCode (s : State) (p : Pattern) : State :=
  (List.range 8).foldl (fun s c => s.load (Mem.iram c + p.codeLoad c) (p.codeImage c)) (s.eccClearArrays 0 7)

/-- Functions after a restart or a load: unused, or FAULT until an accepted reset edge; with AUTO_RESET and no cause
present TRIPPED (Table 9.12), but not where a reset edge is still due after SAFE_HALT or a failed reference (R250, R254;
log 42). Counts since the last restart start again. -/
def State.restartFns (s : State) (p : Pattern) : State :=
  let s := { s with saf := { s.saf with logic := [], logicZero := [], stitchCause := [], resetRun := [], resetSeen := [] } }
  let s := (List.range 64).foldl (fun s f =>
    let s := (s.setF (F.SAF_FN_STATUS_TRIPS f) 0).setF (F.SAF_FN_STATUS_REFUSED f) 0
    s.setFnState f (match p.fnItem f with
      | none => 3
      | some it => if fnAutoReset it && !(s.causePresent p f) && !bitOf s.saf.edgeDue.toNat f then 1 else 2)) s
  (List.range 17).foldl (fun s r => (s.setF (F.SAF_RST_STATUS_SHORT r) 0).setF (F.SAF_RST_STATUS_ACCEPTED r) 0) s

/-- Every task status and trigger queue is cleared (R124 step 5). -/
def State.clearTasks (s : State) : State :=
  let s := (List.range 32).foldl (fun s k => s.setR (F.SCH_TASK_STATUS_QFILL k).addr 0) s
  { s with tasks := { s.tasks with triggers := [], cut := [], holds := [] }, wsig := [],
           sched := { s.sched with selvValid := [], selvFailed := [], selvArea := [] } }

/-- Units that start anew at an activation and at a restart: network data, mailboxes, latched outputs, group tests. -/
def State.restartUnits (s : State) (p : Pattern) : State :=
  let s := ((s.safeCommRestart p).canRestart p).unlatchAll
  (List.range 6).foldl (fun s g => s.setGrp g { s.grp g with tested := false }) s

/-- The stitch period P of a load: the stitch counter starts at 0 at the next boundary. Where P changes, the reference
becomes the N of now under the new P: the stitch in progress keeps its edge and goes on to the next multiple of the
new P (R35, R36). -/
def State.setPeriod (s : State) (ns : Nat) : State :=
  { s with clock := { s.clock with
      period := ns
      refN := if ns = s.clock.period ∨ ns = 0 then s.clock.refN else s.nowNs / ns
      counting := false } }

/-- The sections are loaded into the engines, scratchpads, queues and registers. -/
def State.loadPattern (s : State) (p : Pattern) : State :=
  let s := { s with pat := { s.pat with active := some p }, queues := [] }
  let s := ((s.clearPatternFields.headerFields p).unitFields p).setF F.PAT_STATE_ACTIVE_VALID 1
  let s := (s.ptpBegin 0).ptpBegin 1
  let s := (s.loadCode p).initData p
  let s := ((s.lpRestart p false).qpRestart p).clearTasks
  let s := (((s.restartUnits p).restartFns p).fillTokens).clearCounts
  let s := (if p.paired then s.toSyncing else s.setRole .solo).updateConfirmed
  (s.checkLayout p).setPeriod p.period

/-! ### UNPATTERNED (R74) -/

/-- The station becomes UNPATTERNED; the door panel shows a CODE and a DETAIL. -/
def State.unpattern (s : State) (code detail : Nat) : State :=
  let s := s.leaveOperation .unpatterned
  let s := (List.range 6).foldl (fun s g => s.openGroupDark g) s
  let s := { s with pat := { s.pat with active := none, shownCode := code, shownDetail := detail }, queues := [] }
  let s := (((s.clearPatternFields.setF F.PAT_STATE_ACTIVE_VALID 0).clearTasks).ptpBegin 0).ptpBegin 1
  let s := (List.range 64).foldl (fun s f => s.setFnState f 3) s
  ((s.setRole .solo).updateConfirmed.setPeriod 125000).updateModOk

/-- Steps 3 to 6 of R70, and the load at start of R72: the active slot is verified and loaded, or the station becomes
UNPATTERNED with the event. -/
def State.startPattern (s : State) : Option Failure × State :=
  let s := s.ownerUse
  let k := s.roles.active
  match s.verifySlot k with
  | some f => (some f, (s.unpattern f.1.code f.2).raise Ev.PATTERN_INVALID srcSupervisor [f.1.code, f.2])
  | none =>
    let s := s.loadPattern (parseContainer (s.container k))
    (none, (s.setStation .stop).updateModOk)

/-! ### PAT_CMD (R68, Table 3.8) -/

/-- An operation is refused. -/
def State.patRefuse (s : State) (op : Nat) (c : PatCode) : State :=
  (((s.setF F.PAT_RESULT_LAST_OP op).setF F.PAT_RESULT_CODE c.code).setF F.PAT_RESULT_DETAIL 0).setF F.PAT_RESULT_DONE 1

/-- An operation begins to execute. -/
def State.patBegin (s : State) (op : Nat) : State :=
  let s := ((s.setF F.PAT_RESULT_LAST_OP op).setF F.PAT_RESULT_CODE 0).setF F.PAT_RESULT_DETAIL 0
  let s := (s.setF F.PAT_RESULT_DONE 0).setF F.PAT_RESULT_BUSY 1
  { s with pat := { s.pat with executing := op } }

/-- An operation is accepted in the states listed for it, one at a time. -/
def State.patCmd (s : State) (op : Nat) (ok : Bool) (f : State → State) : State :=
  if s.pat.executing ≠ 0 then s.patRefuse op .busy
  else if !ok then s.patRefuse op .state
  else f (s.patBegin op)

/-- STOP or UNPATTERNED. -/
def State.atRest (s : State) : Bool := s.station == .stop || s.station == .unpatterned

/-- A restart that waits for its seam boundary is given up, with CODE 1, when the Pattern it restarted goes (log 22). -/
def State.dropStart (s : State) : State :=
  if s.sched.op = 0 then s
  else { (s.setF F.SCH_STATUS_WAIT_SEAM 0).startEnd s.sched.op 1 with
    sched := { (s.startEnd s.sched.op 1).sched with startRequest := none, stopRequest := none } }

/-- VERIFY. A PTP trigger that is armed stays armed (log 17). -/
def State.patVerify (s : State) : State :=
  let sh := s.shadowState
  let ok := s.station != .off && s.station != .boot && s.station != .watch &&
    (sh == shWritten || sh == shVerified || sh == shRefused) && !s.olcOpen
  s.patCmd 1 ok (fun s => s.setShadow shVerifying rgVerifying)

/-- VERIFICATION_END: SHADOW_STATE becomes VERIFIED or REFUSED. -/
def State.verificationEnd (s : State) : State :=
  if s.pat.executing ≠ 1 then s else
  let s := s.ownerUse
  match s.verifySlot s.roles.shadow with
  | none => (s.setShadow shVerified rgVerified).patEnd 1 0 0
  | some f => (s.setShadow shRefused rgFailed).patEnd 1 f.1.code f.2

/-- Generation that the header in a slot gives. -/
def State.slotGeneration (s : State) (k : Nat) : Nat := s.rdLe (Mem.patSlot k + 24) 4

/-- AUTO_START is not applied after ACTIVATE or REVERT (R125). -/
def State.barAutoStart (s : State) : State := { s with rst := { s.rst with autoBarred := true } }

/-- ACTIVATE: steps 1 and 2 of R70; the journal write is the commit point. -/
def State.patActivate (s : State) : State :=
  s.patCmd 2 (s.atRest && s.shadowState == shVerified) (fun s =>
    let s := s.dropStart.barAutoStart
    (s.writeRoles (s.roles.rotate (s.slotGeneration s.roles.shadow))).shadowGone)

/-- REVERT: the active and previous slots exchange their roles. PREV_VALID takes the old ACTIVE_SET and GENERATION
that of the header in the slot, the model's choices (log 12). -/
def State.patRevert (s : State) : State :=
  s.patCmd 6 (s.atRest && s.isSet F.PAT_STATE_PREV_VALID) (fun s =>
    let s := s.dropStart.barAutoStart
    let r := s.roles
    s.writeRoles ⟨r.prev, r.shadow, r.active, true, r.set, s.slotGeneration r.prev⟩)

/-- PATTERN_LOAD_END: steps 3 to 6 of R70 are complete. -/
def State.patternLoadEnd (s : State) : State :=
  let op := s.pat.executing
  if op ≠ 2 ∧ op ≠ 6 then s else
  match s.startPattern with
  | (none, s) => s.patEnd op 0 0
  | (some f, s) => s.patEnd op f.1.code f.2

/-- CLEAR: no slot is active. -/
def State.patClear (s : State) : State :=
  s.patCmd 7 (s.station == .stop) (fun s =>
    let s := s.dropStart
    ((s.writeRoles { s.roles with set := false, gen := 0 }).unpattern 0 0).patEnd 7 0 0)

def execVerify (req : Requester) (s : State) : Result := s.command req F.PAT_CMD_OP s.patVerify
def execVerificationEnd (s : State) : Result := .next s.verificationEnd
def execActivate (req : Requester) (s : State) : Result := s.command req F.PAT_CMD_OP s.patActivate
def execPatternLoadEnd (s : State) : Result := .next s.patternLoadEnd
def execRevert (req : Requester) (s : State) : Result := s.command req F.PAT_CMD_OP s.patRevert
def execClear (req : Requester) (s : State) : Result := s.command req F.PAT_CMD_OP s.patClear

end Sys2Proof.Machine
end

