-- ==== Sys2Proof/Machine/Restart.lean ====
section
/-!
DEFINITION. Retain banks, start commands, cold and warm restarts, AUTO_START, forces and wall-clock timers (R123 to
R134).
-/

namespace Sys2Proof.Machine

/-! ### Retain banks (R126 to R128) -/

def State.bankHeader (s : State) (b : Nat) : Bytes := s.rdBytes (Mem.retainBank b) 64
def bankSeq (h : Bytes) : Nat := h.u64 0
def bankLength (h : Bytes) : Nat := h.u32 24

/-- HDR_CRC checks. -/
def bankHeaderOk (h : Bytes) : Bool := h.u32 60 == (crc32c (h.take 60)).toNat

/-- DATA_CRC checks. -/
def State.bankDataOk (s : State) (b : Nat) : Bool :=
  let h := s.bankHeader b
  decide (bankLength h ≤ 0x200000 - 64) && h.u32 28 == (crc32c (s.rdBytes (Mem.retainBank b + 64) (bankLength h))).toNat

def State.bankValid (s : State) (b : Nat) : Bool := bankHeaderOk (s.bankHeader b) && s.bankDataOk b

/-- The committed bank: the valid bank with the higher SEQ. -/
def State.committedBank (s : State) : Option Nat :=
  match s.bankValid 0, s.bankValid 1 with
  | true, true => some (if bankSeq (s.bankHeader 0) < bankSeq (s.bankHeader 1) then 1 else 0)
  | true, false => some 0
  | false, true => some 1
  | false, false => none

/-- RETAIN_INVALID at boot: a bank whose header checks and whose data do not. -/
def State.retainBoot (s : State) : State :=
  [0, 1].foldl (fun s b => if bankHeaderOk (s.bankHeader b) && !(s.bankDataOk b) then
    s.raise Ev.RETAIN_INVALID srcSupervisor [b] else s) s

/-- The retained runs in INITDATA item order. -/
def State.retainedData (s : State) (p : Pattern) : Bytes :=
  (p.initItems 2).flatMap (fun it => s.rdBytes (Mem.shared + initOff it) (initLen it))

/-- The reads of the retained runs meet their ECC errors. -/
def State.retainedReads (s : State) (p : Pattern) : State :=
  (p.initItems 2).foldl (fun s it => (s.eccRead (Mem.shared + initOff it) (initLen it) 2).2) s

/-- Header of Table 5.7 without its CRC. -/
def bankHead (p : Pattern) (seq : Nat) (data : Bytes) : Bytes :=
  leBytes 8 seq ++ leBytes 8 p.patternId ++ leBytes 4 p.generation ++ leBytes 4 p.retainLayout ++
    leBytes 4 data.length ++ leBytes 4 (crc32c data).toNat ++ List.replicate 28 0#8

/-- The retain write and the bank switch (R127). -/
def State.retainCommit (s : State) (p : Pattern) : State :=
  let old := s.committedBank
  let b := match old with
    | some k => 1 - k
    | none => 0
  let seq := match old with
    | some k => bankSeq (s.bankHeader k) + 1
    | none => 1
  let s := s.retainedReads p
  let data := s.retainedData p
  let h := bankHead p seq data
  (s.wrBytes (Mem.retainBank b + 64) data).wrBytes (Mem.retainBank b) (h ++ leBytes 4 (crc32c h).toNat)

/-- The stitch is N_c − 1 of a committing on-line change (R76). -/
def State.commitStitch (s : State) : Bool :=
  s.olc == olcCommitting && (match s.pat.commitAt with
    | some n => decide (s.clock.refN + 1 = n)
    | none => false)

/-- The commit mark names the shadow slot as active; with it the pattern region's update is over, so that a reset before
N_c finds the new generation active and no update (R76, R78, R423). -/
def State.writeMark (s : State) : State :=
  match s.pat.prepared with
  | none => s
  | some q =>
    { (s.writeRoles (s.roles.rotate q.generation)).shadowGone with pat := { s.pat with markWritten := true } }

/-- A RETAIN_COMMIT entry that overran is abandoned before the bank switch (R50); in stitch N_c − 1 the on-line change
has failed (R78). -/
def State.abandonCommit (s : State) (r : Running) : State :=
  let s := if s.commitStitch then s.olcDrop olcFailed else s
  s.passEntry ioAgent r.index

/-- RETAIN_COMMIT. -/
def execRetainCommit (s : State) : Result :=
  .next (match s.nextIoEntry .retainCommit, s.pat.active with
    | some r, some p =>
      let s := s.atTick r.entry.start
      if !s.entryMayRun then s.passEntry ioAgent r.index
      else
        let s := s.retainCommit p
        (if s.commitStitch then s.writeMark else s).passEntry ioAgent r.index
    | _, _ => s)

/-! ### Wall-clock timers (R134) -/

/-- Symbol k lies in a retained run. -/
def Pattern.symRetained (p : Pattern) (k : Nat) : Bool :=
  p.symRegion k == 0 && (p.initItems 2).any (fun it =>
    decide (initOff it ≤ p.symOff k) && decide (p.symOff k + p.symSize k ≤ initOff it + initLen it))

/-- Adds ns to the elapsed count of every timer with WALL_CLOCK that `which` names, saturating. -/
def State.advanceTimers (s : State) (p : Pattern) (which : Nat → Bool) (ns : Nat) : State :=
  (List.range (p.items Pattern.SYMBOLS)).foldl (fun s k =>
    if p.symKind k = 7 ∧ bitOf (p.symFlags k) 5 ∧ p.symRegion k ≤ 8 ∧ which k then
      let a := regionBase (p.symRegion k) + p.symOff k
      let v := sgn 64 (s.rdLe a 8) + ns
      let s := s.engRead a 8
      s.load a (leBytes 8 (unsgn 64 (if 2 ^ 63 ≤ v then 2 ^ 63 - 1 else v)))
    else s) s

/-! ### Restarts (R124) -/

/-- Both banks are invalidated: HDR_CRC = 0. -/
def State.dropBanks (s : State) : State :=
  [0, 1].foldl (fun s b => s.wrLe (Mem.retainBank b + 60) 4 0) s

/-- The retained variables are copied from a bank. -/
def State.restoreRetained (s : State) (p : Pattern) (b : Nat) : State :=
  ((p.initItems 2).foldl (fun (x : State × Nat) it =>
    (x.1.load (Mem.shared + initOff it) (x.1.rdBytes (Mem.retainBank b + 64 + x.2) (initLen it)), x.2 + initLen it))
    (s, 0)).1

/-- Places of an instance header: of the symbol, and of its run B copy (Table 9.1, KIND 4). -/
def Pattern.instancePlaces (p : Pattern) (k : Nat) : List Nat :=
  (if p.symRegion k ≤ 8 then [regionBase (p.symRegion k) + p.symOff k] else []) ++
    ((p.selvItems 4).filter (fun it => it.u32 4 == p.symId k)).map (fun it => regionBase (it.u8 8) + it.u32 12)

/-- FIRST_SCAN is set in every instance header (Table 4.8). -/
def State.firstScan (s : State) (p : Pattern) : State :=
  (List.range (p.items Pattern.SYMBOLS)).foldl (fun s k =>
    if p.symKind k = 1 then
      (p.instancePlaces k).foldl (fun s a => s.engStore (a + 8) [s.rdByte (a + 8) ||| 1#8]) s
    else s) s

/-- Every core vote is withdrawn (R387). -/
def State.withdrawVotes (s : State) : State :=
  (List.range 8).foldl (fun s c => s.setR (F.PWR_VOTE_C_CLO c).addr 0) s

/-- The sleep ledger in ns (R406). -/
def State.ledgerNs (s : State) : Nat := s.pwr.ticks * 1000000000 / 32768

/-- The retained variables as a warm restart gets them: copied from a bank, and in the first one after a wake with the
ledger added to the WALL_CLOCK timers among them (R134, R405). -/
def State.retainedBack (s : State) (p : Pattern) (b : Nat) : State :=
  let s := s.restoreRetained p b
  if s.pwr.advanceDue then s.advanceTimers p p.symRetained s.ledgerNs else s

/-- Steps 2 to 7 of a restart. -/
def State.restartSteps (s : State) (p : Pattern) (warm : Option Nat) : State :=
  let s := s.initData p
  let s := match warm with
    | none => s.dropBanks
    | some b => s.retainedBack p b
  let s := { s with pwr := { s.pwr with advanceDue := false } }
  let s := ((s.lpRestart p warm.isSome).qpRestart p).clearTasks
  let s := { s with tasks := { s.tasks with forces := [] } }.setF F.GLB_FORCE_RESULT_COUNT 0
  let s := (((s.clearLoops.restartUnits p).restartFns p).withdrawVotes).setF F.PAIR_WITNESS_ROUNDS 0
  let s := s.firstScan p
  match warm with
  | none => s.raise Ev.RESTART_COLD srcSupervisor [p.generation]
  | some b =>
    let q := bankSeq (s.bankHeader b)
    s.raise Ev.RESTART_WARM srcSupervisor [p.generation, lo32 q, hi32 q]

/-- Step 8: the slot tables start at the first boundary with seam position 0 (R47); the wait for AUTO_START is over. -/
def State.startTables (s : State) (op : Nat) (dst : StationState) (auto : Bool) : State :=
  let s := ((s.setF F.GLB_START_RESULT_LAST_OP op).setF F.GLB_START_RESULT_CODE 0).setF F.GLB_START_RESULT_DONE 0
  let s := ((s.setF F.GLB_START_RESULT_BUSY 1).setB F.GLB_START_RESULT_AUTO auto).setF F.SCH_STATUS_WAIT_SEAM 1
  { s with sched := { s.sched with op := op, startRequest := some dst }, rst := { s.rst with autoDue := false } }

/-- CODE of GLB_START_RESULT. -/
def scOk : Nat := 0
def scState : Nat := 1
def scBusy : Nat := 2
def scNoRetain : Nat := 3
def scLayout : Nat := 4
def scForces : Nat := 5

/-- The bank of a warm restart, or why it is refused (R127). -/
def State.warmBank (s : State) (p : Pattern) : Except Nat Nat :=
  match s.committedBank with
  | none => .error scNoRetain
  | some b =>
    let h := s.bankHeader b
    if h.u64 8 = p.patternId ∧ h.u32 20 = p.retainLayout then .ok b else .error scLayout

/-- A command is refused and changes nothing else. -/
def State.startRefuse (s : State) (op code : Nat) : State :=
  ((s.setF F.GLB_START_RESULT_LAST_OP op).setF F.GLB_START_RESULT_CODE code).setF F.GLB_START_RESULT_DONE 1

/-- A start command executes, or a Pattern is being loaded. -/
def State.startBusy (s : State) : Bool := s.sched.op != 0 || s.pat.executing == 2 || s.pat.executing == 6

/-- Debug access is unlocked under R433. -/
def State.unlocked (s : State) : Bool := s.getF F.SEC_STATUS_DEBUG == 1 || s.getF F.SEC_STATUS_DEBUG == 2

/-- At every wake the ledger is added to the WALL_CLOCK timers, with its event, before the slot tables start (R134); a
warm restart that follows, at once or on a later command, adds it to the retained ones that it copies (R405, log 33). -/
def State.wakeTimers (s : State) : State :=
  match s.pat.active with
  | some p =>
    if s.pwr.timersDue then
      let ns := s.ledgerNs
      let s := (s.advanceTimers p (fun _ => true) ns).raise Ev.TIMERS_ADVANCED srcSupervisor
        [lo32 ns, hi32 ns, if s.pwr.onRc then 1 else 0]
      { s with pwr := { s.pwr with timersDue := false, advanceDue := true } }
    else s
  | none => s

/-- A restart from STOP, cold or warm; refused while debug access is unlocked. -/
def State.restart (s : State) (op : Nat) (warm : Bool) (dst : StationState) (auto : Bool) : State :=
  if s.startBusy then s.startRefuse op scBusy
  else if s.unlocked then s.startRefuse op scState
  else
    match s.station, s.pat.active with
    | .stop, some p =>
      if warm then
        match s.warmBank p with
        | .error c => s.startRefuse op c
        | .ok b => (s.wakeTimers.restartSteps p (some b)).startTables op dst auto
      else (s.wakeTimers.restartSteps p none).startTables op dst auto
    | _, _ => s.startRefuse op scState

/-- Stop, leave TACKING, enter TACKING: at the next boundary. -/
def State.atBoundary (s : State) (op : Nat) (dst : StationState) : State :=
  let s := ((s.setF F.GLB_START_RESULT_LAST_OP op).setF F.GLB_START_RESULT_CODE 0).setF F.GLB_START_RESULT_DONE 0
  { s.setF F.GLB_START_RESULT_BUSY 1 with sched := { s.sched with op := op, stopRequest := some dst } }

/-- The commands of Table 5.5. -/
def State.startCmd (s : State) (op : Nat) : State :=
  match op with
  | 1 => s.restart 1 false .run false
  | 2 => s.restart 2 true .run false
  | 3 => s.restart 3 false .tacking false
  | 4 => s.restart 4 true .tacking false
  | 5 => if s.startBusy then s.startRefuse 5 scBusy
    else if s.operating then s.atBoundary 5 .stop else s.startRefuse 5 scState
  | 6 => if s.startBusy then s.startRefuse 6 scBusy
    else if s.station ≠ .tacking then s.startRefuse 6 scState
    else if !s.tasks.forces.isEmpty then s.startRefuse 6 scForces
    else s.atBoundary 6 .run
  | 7 => if s.startBusy then s.startRefuse 7 scBusy
    else if s.station = .run then s.atBoundary 7 .tacking else s.startRefuse 7 scState
  | _ => s

def execColdRestartToRun (req : Requester) (s : State) : Result := s.command req F.GLB_START_CMD_OP (s.startCmd 1)
def execWarmRestartToRun (req : Requester) (s : State) : Result := s.command req F.GLB_START_CMD_OP (s.startCmd 2)
def execColdRestartToTacking (req : Requester) (s : State) : Result := s.command req F.GLB_START_CMD_OP (s.startCmd 3)
def execWarmRestartToTacking (req : Requester) (s : State) : Result := s.command req F.GLB_START_CMD_OP (s.startCmd 4)
def execStop (req : Requester) (s : State) : Result := s.command req F.GLB_START_CMD_OP (s.startCmd 5)
def execLeaveTackingForRun (req : Requester) (s : State) : Result := s.command req F.GLB_START_CMD_OP (s.startCmd 6)
def execEnterTackingFromRun (req : Requester) (s : State) : Result := s.command req F.GLB_START_CMD_OP (s.startCmd 7)

/-- A warm restart to RUN; refused, a cold one where that is asked for (AUTO_START and WAKE_START, R125, R405). On the RC
oscillator without DEGRADED_CLK_RUN the station stays in STOP (R403, R436). -/
def State.autoRestart (s : State) (mode : Nat) (auto : Bool) : State :=
  if s.isSet F.SCH_STATUS_DEGRADED_CLK && !s.patIs (·.degradedClkRun) then s else
  match mode with
  | 1 => s.restart 2 true .run auto
  | 2 =>
    let t := s.restart 2 true .run auto
    if t.sched.startRequest.isSome then t else s.restart 1 false .run auto
  | _ => s

/-- AUTO_START: applied once, after STOP is entered at the end of BOOT (R125), and the wait for a master's time is over
(R317); not after ACTIVATE or REVERT. -/
def execAutoStart (s : State) : Result :=
  .next (if s.rst.autoDue && s.station == .stop && s.pat.active.all s.acquired then
    let s := { s with rst := { s.rst with autoDue := false } }
    match s.pat.active with
    | some p => if s.rst.autoBarred then s else s.autoRestart p.autoStart true
    | none => s
  else s)

/-! ### Forces (R129 to R132) -/

/-- CODE of GLB_FORCE_RESULT. -/
def fcState : Nat := 1
def fcBusy : Nat := 2
def fcUnknown : Nat := 3
def fcNotForceable : Nat := 4
def fcFull : Nat := 5
def fcType : Nat := 6

def State.forceEnd (s : State) (code : Nat) : State :=
  ((s.setF F.GLB_FORCE_RESULT_DONE 1).setF F.GLB_FORCE_RESULT_CODE code).setF F.GLB_FORCE_RESULT_COUNT s.tasks.forces.length

/-- Offset and size of the value of every item of the input image. -/
def Pattern.imageItems (p : Pattern) : List (Nat × Nat) :=
  ((List.range 48).filter (fun n => p.ioMode n != 0)).map (fun n => (p.ioImgOff n, 4)) ++
    ((List.range 8).filter (fun o => p.ioMode (cloItem o) != 0)).map (fun o => (p.ioImgOff (cloItem o), 4)) ++
    ((p.plainSets ++ p.pairedSets).filter (fun it => !(setSend it))).map (fun it => (setBuf it, setLen it)) ++
    (p.tpItems.filter (fun it => !(tpProducer it))).map (fun it => (tpBuf it, tpLen it)) ++
    (List.range 8).flatMap (fun n => ((p.mailboxes n).filter mbImage).map (fun it => (mbImgOff it, 80)))

/-- A run of the shared SRAM lies in an output area: of a task, or run A's of a selvedge segment. -/
def Pattern.inOutputArea (p : Pattern) (off n : Nat) : Bool :=
  (p.cyclicTasks ++ p.eventTasks).any (fun k => decide (p.outOff k ≤ off) && decide (off + n ≤ p.outOff k + 2 * p.outLen k)) ||
    p.segments.any (fun g =>
      let r := p.runRecord g false
      decide (runOutOff r ≤ off) && decide (off + n ≤ runOutOff r + runOutLen r))

/-- May symbol k be forced (R129)? -/
def Pattern.forceable (p : Pattern) (k : Nat) : Bool :=
  bitOf (p.symFlags k) 3 && (p.symKind k == 0 || p.symKind k == 6) && decide (1 ≤ p.symType k) &&
    decide (p.symType k ≤ 8) && p.symRegion k == 0 &&
    (p.imageItems.contains (p.symOff k, p.symSize k) || p.inOutputArea (p.symOff k) (p.symSize k))

/-- A force command, in TACKING and while no on-line change commits. Outside TACKING the answer is STATE in COMMITTING,
too, the model's choice (log 120). -/
def State.forceCmd (s : State) (f : Pattern → State) : State :=
  if s.station ≠ .tacking then s.forceEnd fcState
  else if s.olc = olcCommitting then s.forceEnd fcBusy
  else match s.pat.active with
    | some p => f p
    | none => s.forceEnd fcState

def State.setForces (s : State) (l : List (BitVec 32 × BitVec 64)) : State :=
  { s with tasks := { s.tasks with forces := l } }

/-- SET: replaces any force on the symbol. Once OP 6 is accepted no force may come any more; it is refused with STATE,
the model's choice (log 32). -/
def State.forceSet (s : State) : State :=
  s.forceCmd (fun p =>
    if s.sched.stopRequest = some .run then s.forceEnd fcState else
    let id := s.getF F.GLB_FORCE_SYM_SYM_ID
    let v := s.getF F.GLB_FORCE_VAL_LO_VALUE + 2 ^ 32 * s.getF F.GLB_FORCE_VAL_HI_VALUE
    match p.symIndex id with
    | none => s.forceEnd fcUnknown
    | some k =>
      let others := s.tasks.forces.filter (fun f => f.1.toNat != id)
      if !(p.forceable k) then s.forceEnd fcNotForceable
      else if p.symType k = 1 ∧ 2 ≤ v then s.forceEnd fcType
      else if 256 ≤ others.length then s.forceEnd fcFull
      else
        ((s.setForces (others ++ [(BitVec.ofNat 32 id, BitVec.ofNat 64 v)])).raise Ev.FORCE_SET srcSupervisor
          [id, lo32 v, hi32 v]).forceEnd 0)

/-- RELEASE. -/
def State.forceRelease (s : State) : State :=
  s.forceCmd (fun _ =>
    let id := s.getF F.GLB_FORCE_SYM_SYM_ID
    if s.tasks.forces.any (fun f => f.1.toNat == id) then
      ((s.setForces (s.tasks.forces.filter (fun f => f.1.toNat != id))).raise Ev.FORCE_RELEASED srcSupervisor
        [id, 1]).forceEnd 0
    else s.forceEnd fcUnknown)

/-- RELEASE_ALL. -/
def State.forceReleaseAll (s : State) : State := s.forceCmd (fun _ => s.releaseForces.forceEnd 0)

def execForceSet (req : Requester) (s : State) : Result := s.command req F.GLB_FORCE_CMD_OP s.forceSet
def execForceRelease (req : Requester) (s : State) : Result := s.command req F.GLB_FORCE_CMD_OP s.forceRelease
def execReleaseAll (req : Requester) (s : State) : Result := s.command req F.GLB_FORCE_CMD_OP s.forceReleaseAll

end Sys2Proof.Machine
end

