-- ==== Sys2Proof/Machine/Power.lean ====
section
/-!
DEFINITION. Power domains and their votes, watch mode, the watch sampler, the wake and the sleep ledger (R384 to R406).
-/

namespace Sys2Proof.Machine

/-! ### Votes and domains (R384, R387, R388) -/

def allDomains : List Nat := List.range 18

/-- PHASE of PWR_STATUS. -/
def State.phase (s : State) : Nat := s.getF F.PWR_STATUS_PHASE

/-- Votes are withdrawn from step 5 of the preparation until the wake or the abandonment (R393), and in OFF. -/
def State.votesGone (s : State) : Bool := decide (2 ≤ s.phase) || s.station == .watch || s.station == .off

/-- Domain that a loopback target needs (Table 20.1). -/
def lbDomain (target : Nat) : Nat :=
  if target < 8 then domCan
  else if target < 11 then domPort (target - 8)
  else if target = 11 then domLink
  else if target < 18 then domDio
  else if target = 18 then domClo
  else domPanel

/-- The static votes, of the active Pattern and of one that is prepared. -/
def State.staticVote (s : State) (d : Nat) : Bool :=
  s.patIs (fun p => bitOf p.pwStatic d) || ((s.pat.prepared.map (fun p => bitOf p.pwStatic d)).getD false)

/-- The votes of the supervisor (Table 16.1, R366): every domain in BOOT, the cores while a Pattern is loaded, the
service port while it is enabled, the panel while an update or recovery runs or is pending, and the domain of a
loopback test without a Pattern (R470). -/
def State.supervisorVote (s : State) (d : Nat) : Bool :=
  if d = domPanel then
    s.hasPanel && (s.station == .boot || s.pnl.run.isSome || s.nextJob.isSome || s.pnl.retry ||
      (s.station != .stop && (s.dgt.lb.map (·.target)) == some 19))
  else s.station == .boot || (decide (d < 8) && (s.pat.executing == 2 || s.pat.executing == 6)) ||
    (d == domSvc && s.rst.svcEn) ||
    (s.station != .stop && (s.dgt.lb.map (fun t => lbDomain t.target)) == some d)

/-- The votes of the application cores; only domains left to dynamic votes take them. -/
def State.coreVote (s : State) (d : Nat) : Bool :=
  s.patIs (fun p => bitOf p.pwDynamic d) && (List.range 8).any (fun c => bitOf (s.getR (F.PWR_VOTE_C_CLO c).addr).toNat d)

/-- A client votes for domain d. -/
def State.vote (s : State) (d : Nat) : Bool :=
  !s.votesGone && (s.staticVote d || s.supervisorVote d || s.coreVote d)

def State.setDomain (s : State) (d : Nat) (on : Bool) : State :=
  let v := s.getF F.PWR_DOMAINS_ON
  s.setF F.PWR_DOMAINS_ON (if bitOf v d == on then v else if on then v + 2 ^ d else v - 2 ^ d)
def State.setHeld (s : State) (d : Nat) (on : Bool) : State :=
  let v := s.getF F.PWR_VOTES_HELD
  s.setF F.PWR_VOTES_HELD (if bitOf v d == on then v else if on then v + 2 ^ d else v - 2 ^ d)
def State.setPwr (s : State) (x : Power) : State := { s with pwr := x }

/-- Registers of a unit take their reset values. -/
def State.resetRegs (s : State) (lo n : Nat) : State :=
  { s with regs := s.regs.filter (fun x => !(decide (lo ≤ x.1) && decide (x.1 < lo + n))) }

/-- A plant or service port loses its power: the link is down, its frames and keys are gone, its registers are reset, its
PTP instance is off (R29). The sessions of the service port end with it (log 92). -/
def State.portOff (s : State) (port : Nat) : State :=
  let s := if s.isSet (F.ETH_P_STATUS_LINK port) then
      (s.incSat (F.ETH_P_STATUS_DOWNS port)).raise Ev.ETH_LINK_DOWN (srcEth port) [port]
    else s
  let s := s.resetRegs (F.ETH_P_STATUS_LINK port).addr 0x100
  let s := { s with net := { s.net with
    waiting := Store.set (fun _ => []) s.net.waiting port []
    macsec := Store.set (fun _ => MacsecPort.fresh) s.net.macsec port MacsecPort.fresh } }
  if port < 2 then
    ((s.ptpBegin port).setF (F.PTP_PORT_STATE_DELAY port) 0).setF (F.PTP_PORT_STATE_OFFSET port) 0
  else { s with sec := { s.sec with sessions := 0, owned := 0 } }

/-- The panel loses its power: its rails are discharged, a running update is begun anew as a recovery. -/
def State.panelPowerOff (s : State) : State :=
  let s := (s.clearRange Mem.panelStore 0x200000).eccClearArrays 41 41
  match s.pnl.run with
  | some _ =>
    let s := s.discharge.updateLost
    ((s.setPnl { s.pnl with recovery := some s.journalJob }).setPnlState pnlIdle).setPanelPending
  | none => s.discharge

/-- The CAN controllers lose their power: off, with no mailbox content and no count; the fields that the Pattern gives
stand as at its load. -/
def State.canDomainOff (s : State) : State :=
  let s := (List.range 8).foldl (fun s n => s.canOff n) s
  let s := { s.resetRegs (F.CAN_STATUS_EFF_MODE 0).addr 0x8000 with can := { s.can with mb := [] } }
  match s.pat.active with
  | some p => s.canConfigure p
  | none => s

/-- The solver loses its power: its contexts are to be loaded again, which a restart does. -/
def State.solverOff (s : State) : State :=
  let s := (s.clearRange (Mem.solver 0) 0x400000).eccClearArrays 32 39
  let s := { s.resetRegs F.QPS_STATUS_USED.addr 0x200 with qps := ⟨[], none⟩ }
  match s.pat.active with
  | some p => (List.range 8).foldl (fun s c =>
      if qpUsed (p.qp c) then
        (s.setF F.QPS_STATUS_USED (s.getF F.QPS_STATUS_USED + 2 ^ c)).setF (F.QPS_CTX_STATE_MODE c) qmLoadPending
      else s) s
  | none => s

/-- The digital channels lose their power: every switch is open, and what the channels hold is lost. -/
def State.dioOff (s : State) : State :=
  let s := (List.range 48).foldl (fun s n => if s.patIs (fun p => p.isOutput n) then s.switch n false else s) s
  let s := { s.resetRegs (F.DIO_CH_STATUS_MODE 0).addr 0x200 with fio := { s.fio with ch := [] } }
  (List.range 48).foldl (fun s n => s.setF (F.DIO_CH_STATUS_MODE n) ((s.pat.active.map (fun p => p.ioMode n)).getD 0)) s

/-- A domain is switched off: its contents are lost, its units are off (R388). -/
def State.domainOff (s : State) (d : Nat) : State :=
  let s := s.setDomain d false
  if d < 8 then
    ((((s.clearRange (Mem.iram d) 0x40000).clearRange (Mem.dram d) 0x80000).eccClearArrays d d).eccClearArrays (8 + d)
      (8 + d)).setCore d Core.idle
  else if d = domLoop then
    let s := ((s.clearRange (Mem.loopStore 0) 0x40000).clearRange Mem.bobbin 0x100000).eccClearArrays 40 40
    let s := s.eccClearArrays 42 42
    { s with lpe := { s.lpe with ch := s.lpe.ch.map (fun x => (x.1, { x.2 with gen := none })) } }
  else if d = domSolver then s.solverOff
  else if d < 13 then s.portOff (d - 10)
  else if d = domCan then s.canDomainOff
  else if d = domDio then s.dioOff
  else if d = domClo then (List.range 8).foldl (fun s o => (s.cloOff o).setClo o { (s.cloOff o).cloOut o with conv := none }) s
  else if d = domPanel then s.panelPowerOff
  else (s.setF F.PAIR_PATHS_LINK_UP 0).setF F.PAIR_PATHS_LANE_LOCK 0

/-- A domain reports ON: its units start in their reset state. The supervisor loads a core that comes up outside BOOT
with the code of the active Pattern (R21). -/
def State.domainStart (s : State) (d : Nat) : State :=
  let s := s.setDomain d true
  if d < 8 then
    match s.pat.active with
    | some p => s.load (Mem.iram d + p.codeLoad d) (p.codeImage d)
    | none => s
  else if d = domClo then (List.range 8).foldl (fun s o => s.setClo o { s.cloOut o with code := 0, written := false }) s
  else if d = domPanel then s.panelPowerUp
  else s

/-- One domain at a stitch boundary: the votes of now take effect. -/
def State.domainBoundary (s : State) (d : Nat) : State :=
  let held := bitOf (s.getF F.PWR_VOTES_HELD) d
  let v := s.vote d
  let s := s.setHeld d v
  if v then
    if s.domainOn d || s.pwr.rising.contains d || (s.pwr.failed.contains d && held) then s
    else s.setPwr { s.pwr with rising := s.pwr.rising ++ [d], failed := s.pwr.failed.filter (· != d) }
  else
    let s := s.setPwr { s.pwr with rising := s.pwr.rising.filter (· != d) }
    if s.domainOn d then s.domainOff d else s

def State.domainStep (s : State) : State := allDomains.foldl (fun s d => s.domainBoundary d) s

/-- DOMAIN_REPORTS_ON. The units of a domain that is powered in BOOT are loaded there. -/
def execDomainReportsOn (d : Nat) (s : State) : Result :=
  onUnit (d < 18) (
    if s.pwr.rising.contains d then
      let t := s.setPwr { s.pwr with rising := s.pwr.rising.filter (· != d) }
      if s.domainOn d then t else t.domainStart d
    else s)

/-- A domain did not report: its switch is opened again, its units stay off, or go off where BOOT went on without the
report. -/
def State.domainFault (s : State) (d : Nat) (offFailed : Bool) : State :=
  let s := if s.domainOn d then s.domainOff d else s
  let s := s.setPwr { s.pwr with rising := s.pwr.rising.filter (· != d), failed := s.pwr.failed.filter (· != d) ++ [d] }
  s.raise Ev.PWR_DOMAIN_FAULT srcPower [d, if offFailed then 1 else 0]

/-- PWR_DOMAIN_FAULT (R389): ON within 2.0 ms failed for a domain being switched on, or OFF within 1.0 ms for one that
was switched off. -/
def execPwrDomainFault (d : Nat) (offFailed : Bool) (s : State) : Result :=
  onUnit (d < 18) (
    if offFailed then (if s.domainOn d || bitOf (s.getF F.PWR_VOTES_HELD) d then s else s.domainFault d true)
    else if s.pwr.rising.contains d then s.domainFault d false else s)

/-- A write to PWR_VOTE_Cn: effective at the next boundary. Application code of another core is refused. -/
def State.voteWrite (s : State) (req : Requester) (core : Nat) (value : BitVec 32) : State :=
  let ok := match req with
    | .application c => c == core
    | .cmp => false
    | _ => true
  if ok then s.setR (F.PWR_VOTE_C_CLO core).addr (value &&& 0xAC00#32) else s.accErr req [.refusedRo]

/-- PWR_VOTE_WRITE. -/
def execPwrVoteWrite (req : Requester) (core : Nat) (value : BitVec 32) (s : State) : Result :=
  onUnit (core < 8) (s.writing req (F.PWR_VOTE_C_CLO core) (s.voteWrite req core value))

/-! ### PWR_CMD (R392, R399) -/

/-- CODE of PWR_RESULT. -/
def pwState : Nat := 1
def pwBusy : Nat := 2
def pwStrap : Nat := 3
def pwPattern : Nat := 4
def pwAbandoned : Nat := 5
def pwNotEntering : Nat := 6

def State.pwrResult (s : State) (op code abort : Nat) : State :=
  (((s.setF F.PWR_RESULT_LAST_OP op).setF F.PWR_RESULT_CODE code).setF F.PWR_RESULT_ABORT_POINT abort).setF
    F.PWR_RESULT_DONE 1

/-- An update transfer is running: blocks are being received or an image is being checked. -/
def State.updateTransfer (s : State) : Bool := (List.range 3).any (fun r => s.region r == 1 || s.region r == 3)

/-- Wake causes are latched (R399). -/
def State.addWake (s : State) (bits : Nat) : State :=
  let w := s.pwr.wake ||| (bits % 64)
  (s.setPwr { s.pwr with wake := w }).setF F.PWR_WAKE_CAUSE (if bits % 64 = 0 then s.getF F.PWR_WAKE_CAUSE else w)

/-- Wake sources that can occur in preparation and entry: PIN where the Pattern sets WAKE_PIN, and CANCEL. -/
def State.entrySources (s : State) : Nat := 32 + if s.patIs (fun p => p.wakePin) then 2 else 0

/-- OP = WATCH: the preparation starts, and every core vote is withdrawn (R387). -/
def State.watchCmd (s : State) (req : Requester) : State :=
  if !s.isSet F.RST_STRAPS_CFG_WATCH then s.pwrResult 1 pwStrap 0
  else if !s.patIs (fun p => p.watchEn) then s.pwrResult 1 pwPattern 0
  else if !(s.station == .stop || s.operating) then s.pwrResult 1 pwState 0
  else if s.updateTransfer || s.phase != 0 then s.pwrResult 1 pwBusy 0
  else
    let s := (s.pwrResult 1 0 0).setF F.PWR_RESULT_DONE 0
    let s := s.setPwr { s.pwr with wake := 0, retried := false, refFailed := false }
    let s := (s.setPnl { s.pnl with watchAt := none }).withdrawVotes
    (s.setF F.PWR_STATUS_PHASE 1).raise Ev.WATCH_REQUESTED srcPower [Requester.source req]

/-- OP = CANCEL: during preparation and the entry steps. -/
def State.watchCancel (s : State) : State :=
  if 1 ≤ s.phase ∧ s.phase ≤ 5 then (s.addWake 32).pwrResult 2 0 0 else s.pwrResult 2 pwNotEntering 0

def execWatch (req : Requester) (s : State) : Result := s.command req F.PWR_CMD_OP (s.watchCmd req)
def execWatchCancel (req : Requester) (s : State) : Result := s.command req F.PWR_CMD_OP s.watchCancel

/-! ### Preparation (R393) -/

/-- Step 1, at a boundary: from RUN or TACKING the slot tables stop at the first one whose seam position is 0. -/
def State.watchStopStep (s : State) : State :=
  if s.phase = 1 && s.operating && s.seamPos == 0 then s.leaveOperation .stop else s

/-- Steps 2 and 3, in STOP. -/
def State.prepareFirst (s : State) : State :=
  let s := s.postponeTriggers
  (s.setPnl { s.pnl with watchAt := some s.nowNs }).panelRender

/-- The WATCH screen stands on the panel and the journal word is IDLE again, or 2 s have passed since it was asked for. -/
def State.screenDone (s : State) (since : Nat) : Bool :=
  !s.hasPanel || (s.pnl.run.isNone && s.nextJob.isNone && (s.panelEmpty || bitsOf s.panelWord 1 0 == 0)) ||
    decide (since + 2000000000 ≤ s.nowNs)

/-- Steps 4 and 5. -/
def State.prepareLast (s : State) : State :=
  let s := s.commitAll.withdrawVotes
  (s.setF F.PWR_VOTES_HELD 0).setF F.PWR_STATUS_PHASE 2

/-- The preparation ends without an entry because the station is in no state that watch mode starts from. -/
def State.watchOff (s : State) : State :=
  ((s.setPnl { s.pnl with watchAt := none }).setF F.PWR_STATUS_PHASE 0).pwrResult 1 pwState 0

/-- WATCH_PREPARATION: what it finds to do now; sent again while the panel is drawn. `wakeBits` are the wake sources
present. -/
def execWatchPreparation (wakeBits : BitVec 6) (s : State) : Result :=
  .next (
    if s.phase ≠ 1 then s
    else if !(s.station == .stop || s.operating) then s.watchOff
    else
      let s := s.addWake (wakeBits.toNat &&& s.entrySources)
      let s := if s.pnl.watchAt.isNone && s.station == .stop then s.prepareFirst else s
      match s.pnl.watchAt with
      | some t => if s.screenDone t then s.prepareLast else s
      | none => s)

/-! ### Entry (R394 to R397) -/

/-- Step 1: every domain but AON is off. -/
def State.allOff (s : State) : State :=
  let s := s.setPwr { s.pwr with rising := [] }
  allDomains.foldl (fun s d => if s.domainOn d then s.domainOff d else s) s

/-- Step 3: the monitor is halted, so that every disconnect opens, every raise of the entry is committed (R358), and the
timebase is frozen. Step 4: the regulator
is in low-power mode, the ledger is cleared and counts. The station is in WATCH. -/
def State.enterWatch (s : State) : State :=
  let s := ((List.range 6).foldl (fun s g => s.openGroupDark g) s).commitAll
  let s := ((s.setStation .watch).setF F.PWR_STATUS_REG_LP 1).setF F.PWR_STATUS_PHASE 0
  let s := ((s.setF F.PWR_SAMPLER_FS_SKIP 0).setF F.PWR_SAMPLER_COUNT 0).updateModOk
  { s with
    pwr := { s.pwr with ticks := 0, windows := 0, onRc := false, frozen := s.nowNs } }

/-- WAKE_START. -/
def State.wakeStartNow (s : State) : State :=
  match s.pat.active with
  | none => s
  | some p =>
    if s.pwr.refFailed && !p.degradedClkRun then s else s.autoRestart p.wakeStart false

/-- The entry is abandoned at point k: the steps are undone, the causes cleared, WAKE_START applied (R395). -/
def State.abandonWatch (s : State) (k : Nat) : State :=
  let causes := s.pwr.wake
  let s := if 2 ≤ k then { s with ecc := { s.ecc with sweep := [] } } else s
  let s := if 3 ≤ k then (List.range 6).foldl (fun s g => s.openGroupDark g) s else s
  let s := (s.setPnl { s.pnl with watchAt := none }).setF F.PWR_STATUS_PHASE 0
  let s := (s.pwrResult 1 pwAbandoned k).raise Ev.WATCH_ABANDONED srcPower [k, causes]
  let s := s.setPwr { s.pwr with wake := 0 }
  s.wakeStartNow

/-- The abort points in order, n of them left: each meets the wake flags that have arisen by it. -/
def State.abortPoints : Nat → List (BitVec 6) → State → Option Nat × State
  | 0, _, s => (none, s)
  | n + 1, flags, s =>
    let s := s.addWake ((flags.headD 0#6).toNat &&& s.entrySources)
    if s.pwr.wake ≠ 0 then (some (4 - n), s) else abortPoints n flags.tail s

/-- WATCH_ENTRY: `wakeAt` gives the wake flags that arise before each abort point, `offFailed` a domain that does not
report OFF at step 1. -/
def execWatchEntry (wakeAt : List (BitVec 6)) (offFailed : Option Nat) (s : State) : Result :=
  .next (
    if s.phase ≠ 2 ∨ s.station ≠ .stop then s
    else
      let s := s.allOff
      match offFailed.filter (· < 18) with
      | some d => ((s.domainFault d true).addWake ((wakeAt.headD 0#6).toNat &&& s.entrySources)).abandonWatch 1
      | none =>
        match State.abortPoints 4 wakeAt s with
        | (some k, s) => s.abandonWatch k
        | (none, s) => s.enterWatch)

/-! ### The sampler and the wake sources (R398 to R400) -/

/-- The POWER item of the active Pattern while the station is in WATCH. -/
def State.watching (s : State) : Option Pattern := if s.station = .watch then s.pat.active else none

/-- A watch input's bit: at least 11.0 V; within the ± 0.5 V of the threshold the bit is open. -/
def watchBit (open_ : Nat) (n mv : Nat) : Bool :=
  if mv < 10500 then false else if 11500 ≤ mv then true else bitOf open_ n

/-- The watch inputs as one number. -/
def watchBits (open_ : Nat) (inputMv : List Nat) : Nat :=
  (List.range 16).foldl (fun v n => v + if watchBit open_ n (inputMv.getD n 0) then 2 ^ n else 0) 0

/-- Ticks of the ledger at the end of sampler window k: 2.0 ms after k periods of 0.25 s. -/
def windowTicks (p : Pattern) (k : Nat) : Nat := k * p.samplePeriod * 8192 + 66

/-- A compared window. -/
def State.compareWindow (s : State) (p : Pattern) (v : Nat) : State :=
  let s := s.setF F.PWR_SAMPLER_LAST v
  if (v ^^^ p.sampleExpect) &&& p.sampleMask = 0 then s.setF F.PWR_SAMPLER_COUNT 0
  else
    let n := s.getF F.PWR_SAMPLER_COUNT + 1
    let s := s.setF F.PWR_SAMPLER_COUNT n
    if p.sampleConfirm ≤ n then s.addWake 1 else s

/-- WATCH_SAMPLE: one window, unless a wake source has already ended the watch. -/
def execWatchSample (inputMv : List Nat) (fsaMv : Nat) (s : State) : Result :=
  .next (match s.watching with
    | some p =>
      if s.pwr.wake ≠ 0 then s
      else
        let k := s.pwr.windows + 1
        let s := s.setPwr { s.pwr with windows := k, ticks := max s.pwr.ticks (windowTicks p k) }
        if fsaMv < 16000 then
          let s := s.incSat F.PWR_SAMPLER_FS_SKIP
          if p.wakeFs then s.addWake 16 else s
        else
          let (o, s) := s.fresh
          s.compareWindow p (watchBits o inputMv)
    | none => s)

/-- WAKE_PIN: WAKE has been high for 1 ms, in preparation, entry or WATCH. -/
def execWakePin (s : State) : Result :=
  .next (if (1 ≤ s.phase || s.station == .watch) && s.patIs (fun p => p.wakePin) then s.addWake 2 else s)

/-- WAKE_ALARM: the ledger reaches ALARM_S. -/
def execWakeAlarm (s : State) : Result :=
  .next (match s.watching with
    | some p =>
      if p.alarmS = 0 then s
      else (s.setPwr { s.pwr with ticks := max s.pwr.ticks (p.alarmS * 32768) }).addWake 4
    | none => s)

/-- WAKE_FEED: a feed that fell below 16 V during WATCH has stayed above 18 V for 10 ms. -/
def execWakeFeed (s : State) : Result :=
  .next (match s.watching with
    | some p => if p.wakeFeed then s.addWake 8 else s
    | none => s)

/-- RTC_CRYSTAL_STOPPED: the ledger, the sampler and the alarm go on from the RC oscillator (R406). -/
def execRtcCrystalStopped (s : State) : Result :=
  .next (if s.station = .watch then s.setPwr { s.pwr with onRc := true } else s)

/-! ### Waking (R401 to R405) -/

/-- A wake source has ended the watch. -/
def State.waking (s : State) : Bool := s.station == .watch && s.pwr.wake != 0

/-- WAKE_REG_RETRY: the regulator is retried with soft-start. -/
def execWakeRegRetry (s : State) : Result :=
  .next (if s.waking then (s.setPwr { s.pwr with retried := true }).setF F.PWR_STATUS_PHASE 6 else s)

/-- WAKE_REG_RESET: the retry is not ready either. -/
def execWakeRegReset (s : State) : Result :=
  .next (if s.waking && s.pwr.retried then s.fullReset .wakeReg else s)

/-- REFCLK_LOST: during a wake. -/
def execRefclkLost (s : State) : Result :=
  .next (if s.waking && !s.pwr.refFailed then
    ((s.setPwr { s.pwr with refFailed := true }).setF F.PWR_STATUS_PHASE 6).referenceLost else s)

/-- WATCH_BROWNOUT: more than 30 mA in low-power mode. -/
def execWatchBrownout (s : State) : Result :=
  .next (if s.station = .watch then s.fullReset .watchBrownout else s)

/-- The station comes back to STOP. -/
def State.wakeUp (s : State) (extraTicks : Nat) : State :=
  let s := s.setPwr { s.pwr with ticks := s.pwr.ticks + extraTicks }
  let ns := s.ledgerNs
  let approx := s.pwr.onRc
  let s := (s.setF F.PWR_SLEEP_LEDGER_LO_NS (lo32 ns)).setF F.PWR_SLEEP_LEDGER_HI_NS (hi32 ns)
  let s := ((s.setF F.PWR_WAKE_CAUSE s.pwr.wake).setB F.PWR_WAKE_APPROXIMATE approx).setB F.PWR_WAKE_REFCLK_LOST
    s.pwr.refFailed
  let s := (s.setF F.PWR_STATUS_REG_LP 0).setF F.PWR_STATUS_PHASE 0
  let s := if s.pwr.retried then (s.setF F.PWR_WAKE_REG_RETRY 1).raise Ev.WAKE_REG_RETRY srcPower [] else s
  let s := { s with ecc := { s.ecc with sweep := [] } }
  let s := (s.setPnl { s.pnl with watchAt := none }).setStation .stop
  let s := (s.pwrResult 1 0 0).updateModOk.timeMark .wake 0
  let s := s.raise Ev.WATCH_WAKE srcPower [s.pwr.wake, lo32 ns, hi32 ns, if approx then 1 else 0]
  s.setPwr { s.pwr with wake := 0, timeDue := true, timersDue := true }

/-- WAKE: `extraTicks` RTC ticks have passed since the last sampler window or alarm. -/
def execWake (extraTicks : Nat) (s : State) : Result := .next (if s.waking then s.wakeUp extraTicks else s)

/-- WAKE_TIME_SET: the time is set from a master, or from the frozen time and the ledger (R404); then WAKE_START, unless
a start command executes already. Behind a pending step or REBASE the supervisor waits, since R315 would refuse its own
(DEDUCED, log 124). -/
def execWakeTimeSet (master : Option (BitVec 64)) (s : State) : Result :=
  .next (
    if s.pwr.timeDue && s.station == .stop && !s.stepPending then
      let s := s.setPwr { s.pwr with timeDue := false }
      let s := match master with
        | some t => s.rebaseCmd t.toNat false
        | none => s.rebaseCmd (s.pwr.frozen + s.ledgerNs) true
      if s.startBusy then s else s.wakeTimers.wakeStartNow
    else s)

end Sys2Proof.Machine
end

