-- ==== Sys2Proof/Machine/CoreFlow.lean ====
section
/-!
DEFINITION. Branches, calls and returns (R86, R93), END (R113, R118), illegal encodings (R86) and unknown services
(R95).
-/

namespace Sys2Proof.Machine

/-- Target of a word offset from the instruction's own address (R85). -/
def branchTarget {n : Nat} (pc : BitVec 32) (off : BitVec n) : BitVec 32 := pc + (off.signExtend 32 <<< 2)

/-- A conditional branch. -/
def State.branch (s : State) (c : Nat) (cond : BitVec 64 → BitVec 64 → Bool) (a b : GReg) (off : BitVec 14) : State :=
  s.coreRun c costBr (fun x s => .ok s (if cond (x.rd a) (x.rd b) then branchTarget x.pc off else x.pc + 4))

def execBcEq (c : Nat) (a b : GReg) (off : BitVec 14) (s : State) : Result := onCore c (s.branch c (· == ·) a b off)
def execBcNe (c : Nat) (a b : GReg) (off : BitVec 14) (s : State) : Result := onCore c (s.branch c (· != ·) a b off)
def execBcLts (c : Nat) (a b : GReg) (off : BitVec 14) (s : State) : Result :=
  onCore c (s.branch c (fun p q => p.slt q) a b off)
def execBcGes (c : Nat) (a b : GReg) (off : BitVec 14) (s : State) : Result :=
  onCore c (s.branch c (fun p q => q.sle p) a b off)
def execBcLtu (c : Nat) (a b : GReg) (off : BitVec 14) (s : State) : Result :=
  onCore c (s.branch c (fun p q => p.ult q) a b off)
def execBcGeu (c : Nat) (a b : GReg) (off : BitVec 14) (s : State) : Result :=
  onCore c (s.branch c (fun p q => q.ule p) a b off)

/-- Register number of the link of CALL and CALLR, and of the stack pointer (Table 4.7). -/
def linkReg : GReg := 30
def stackReg : GReg := 31

def execGo (c : Nat) (off : BitVec 24) (s : State) : Result :=
  onCore c (s.coreRun c costBr (fun x s => .ok s (branchTarget x.pc off)))

def execCall (c : Nat) (off : BitVec 24) (s : State) : Result :=
  onCore c (s.coreRun c costCall (fun x s =>
    .ok (s.setCore c (x.wr linkReg (zext64 (x.pc + 4)))) (branchTarget x.pc off)))

/-- Target of GOR and CALLR: ACCESS above 32 bits (R83), ALIGN off a multiple of 4 (R84). -/
def jumpTarget (x : Core) (a : GReg) (k : BitVec 14) : Except (ExcCause × Nat) (BitVec 32) :=
  let t := x.rd a + sext64 k
  if 2 ^ 32 ≤ t.toNat then .error (.access, t.toNat % 2 ^ 32)
  else if t.toNat % 4 ≠ 0 then .error (.align, t.toNat)
  else .ok (low32 t)

def execGor (c : Nat) (a : GReg) (k : BitVec 14) (s : State) : Result :=
  onCore c (s.coreRun c costBr (fun x s =>
    match jumpTarget x a k with
    | .error e => .exc s e.1 e.2
    | .ok t => .ok s t))

def execCallr (c : Nat) (a : GReg) (k : BitVec 14) (s : State) : Result :=
  onCore c (s.coreRun c costCall (fun x s =>
    match jumpTarget x a k with
    | .error e => .exc s e.1 e.2
    | .ok t => .ok (s.setCore c (x.wr linkReg (zext64 (x.pc + 4)))) t))

/-- RET (R85). PRESUMED: of a target above 32 bits the low 32 bits are taken, and no alignment is asked for: Table 4.6
names no cause for RET (log 18). -/
def execRet (c : Nat) (s : State) : Result :=
  onCore c (s.coreRun c costCall (fun x s => .ok s (low32 (x.rd linkReg))))

/-- The 16 stack bytes of CALLB and RETB at a core address: STACK when g31 is no multiple of 16 or they lie outside
the entry's stack region (Table 4.6). -/
def stackFault (x : Core) (sp : Nat) : Bool :=
  sp % 16 != 0 || !(x.stackTop - x.stackLen ≤ sp && sp + 16 ≤ x.stackTop) || sp < localBase ||
    localBase + localSize < sp + 16

/-- CALLB (R93). DESIGN CHOICES: of several causes the first of ACCESS, ALIGN, STACK is taken (log 19); with a = g31 the
instance base takes g31 before the decrement (log 21). -/
def execCallb (c : Nat) (a : GReg) (off : BitVec 19) (s : State) : Result :=
  onCore c (s.coreRun c costCallb (fun x s =>
    let i := x.rd a
    let sp := x.rd stackReg - 16
    if 2 ^ 32 ≤ i.toNat || i.toNat < localBase || localBase + localSize ≤ i.toNat then
      .exc s .access (i.toNat % 2 ^ 32)
    else if i.toNat % 8 ≠ 0 then .exc s .align i.toNat
    else if stackFault x sp.toNat then .exc s .stack (sp.toNat % 2 ^ 32)
    else
      let ma := Mem.dram c + (sp.toNat - localBase)
      let s := ((s.wrLe ma 8 (x.pc + 4).toNat).wrLe (ma + 8) 8 x.ib.toNat).eccClearWords ma 16
      .ok (s.setCore c { x.wr stackReg sp with ib := low32 i }) (branchTarget x.pc off)))

/-- RETB (R93); the target as in RET (log 18). -/
def execRetb (c : Nat) (s : State) : Result :=
  onCore c (s.coreRun c costCallb (fun x s =>
    let sp := x.rd stackReg
    if stackFault x sp.toNat then .exc s .stack (sp.toNat % 2 ^ 32)
    else
      let ma := Mem.dram c + (sp.toNat - localBase)
      match s.eccRead ma 16 1 with
      | (true, s) => .exc s .eccUe sp.toNat
      | (false, s) =>
        .ok (s.setCore c { x.wr stackReg (sp + 16) with ib := BitVec.ofNat 32 (s.rdLe (ma + 8) 8) })
          (BitVec.ofNat 32 (s.rdLe ma 8))))

/-- The END of a task's last segment makes the working half the published half (R118). -/
def State.publish (s : State) (k : Nat) : State :=
  (s.setF (F.SCH_TASK_STATUS_HALF k) (1 - s.getF (F.SCH_TASK_STATUS_HALF k))).setF (F.SCH_TASK_STATUS_PUBLISHED k) 1

/-- A publication at this stitch's apply point or later takes effect at the next stitch's (R26): until then the point
still to come takes what was published before. -/
def State.publishAfter (s : State) (k : Nat) : State :=
  let before := if s.isSet (F.SCH_TASK_STATUS_PUBLISHED k) then 1 + s.getF (F.SCH_TASK_STATUS_HALF k) else 3
  let late := s.tasks.late
  let late := if Store.get (fun _ => 0) late k = 0 then Store.set (fun _ => 0) late k before else late
  { s with tasks := { s.tasks with late := late } }.publish k

/-- The END of a task's last segment, `at` cycles after the edge, publishes (R118, R26). -/
def State.publishAt (s : State) (k at_ : Nat) : State :=
  if (s.applyCycle.map (fun a => decide (a ≤ at_))).getD false then s.publishAfter k else s.publish k

/-- A segment whose comparison, `at` cycles after the edge, comes after this stitch's apply point waits for the next
stitch's (R108). -/
def State.selvAt (s : State) (seg at_ : Nat) : State :=
  if (s.applyCycle.map (fun a => decide (a < at_))).getD false && Store.get (fun _ => false) s.sched.selvValid seg then
    let s := s.setSelvValid seg false
    { s with sched := { s.sched with selvLate := seg :: s.sched.selvLate } }
  else s

/-- What END does for the kind of entry (R113, R118, R108), `at` cycles after the edge: a task's last segment publishes,
unless its activation was cut; a selvedge run is over. -/
def State.endOf (s : State) (r : Running) (at_ : Nat) : State :=
  let k := taskOf r.entry.object
  match r.entry.kind with
  | .coreSeg =>
    if (s.pat.active.map (fun p => p.taskSegments k == segmentOf r.entry.object + 1)).getD false &&
      !(Store.get (fun _ => false) s.tasks.cut k) then s.publishAt k at_ else s
  | .evtSlot => s.publishAt k at_
  | .selvSeg =>
    (s.finishRun (selvSegOf r.entry.object) (selvRunB r.entry.object) false false at_).selvAt (selvSegOf r.entry.object) at_
  | _ => s

/-- END ends the slot entry (R113), unless its cost passes the budget (R49). -/
def execEndEntry (c : Nat) (s : State) : Result :=
  onCore c (match (s.agent c).running with
    | none => s
    | some r =>
      if overBudget r (s.core c).cyc then s else
      match s.fetch c (s.core c).pc with
      | (some e, s) => s.takeCoreException c r e.1 e.2
      | (none, s) =>
        let s := s.spend c costBr
        let cyc := (s.core c).cyc
        if overBudget r cyc then s else (s.endOf r (160 * r.entry.start + cyc)).coreIdle c r)

/-- A word that decodes to no instruction raises ILLEGAL (R86). -/
def execIllegalEncoding (c : Nat) (word : BitVec 32) (s : State) : Result :=
  onCore c (if (decodeStitch c word).isSome then s else s.coreRun c costAlu (fun _ s => .exc s .illegal 0))

/-- A service number not in Table 4.9 raises SYS_BAD (R95). -/
def execSysBad (c : Nat) (service : BitVec 9) (_arg : BitVec 15) (s : State) : Result :=
  onCore c (if knownService service.toNat then s else s.coreRun c costSys (fun _ s => .exc s .sysBad 0))

end Sys2Proof.Machine
end

