-- ==== Sys2Proof/Machine/OnlineChange.lean ====
section
/-!
DEFINITION. On-line change: what may differ between two generations, PREPARE, COMMIT, ABORT and the switch at the
commit boundary (R66, R75 to R79, R132, R162, Table 3.4).
-/

namespace Sys2Proof.Machine

/-! ### What an on-line change may alter (Table 3.4, last column)

In each of these `a` is the active generation and `b` the new one. -/

/-- The entries that must stay: selvedge entries of any agent, every entry of agent 28. -/
def fixedEntries (p : Pattern) (agent pos : Nat) : List SlotEntry :=
  let es := p.entriesAt agent pos
  if agent = 28 then es else es.filter (fun e => e.kind == .selvSeg)

/-- Entry of a fixed place: of agent 28 its ticks and kind, of a selvedge segment all of it. -/
def sameEntry (agent : Nat) (x y : SlotEntry) : Bool :=
  x.start == y.start && x.finish == y.finish && x.kind == y.kind && (agent == 28 || (x.object == y.object && x.budget == y.budget))

def sameEntries (agent : Nat) : List SlotEntry → List SlotEntry → Bool
  | [], [] => true
  | x :: xs, y :: ys => sameEntry agent x y && sameEntries agent xs ys
  | _, _ => false

def olcSchedule (a b : Pattern) : Bool :=
  (List.range 29).all (fun g => a.positions.all (fun pos => sameEntries g (fixedEntries a g pos) (fixedEntries b g pos)))

/-- The word that a core's image has at an address. -/
def Pattern.codeWord (p : Pattern) (c pc : Nat) : Option (BitVec 32) :=
  if p.codeLoad c ≤ pc ∧ pc + 4 ≤ p.codeLoad c + p.codeLen c then
    some (BitVec.ofNat 32 ((p.codeImage c).u32 (pc - p.codeLoad c)))
  else none

/-- Where an instruction may go on, as far as its word tells. -/
def codeNext (c pc : Nat) (w : BitVec 32) : List Nat :=
  let at_ : BitVec 32 := BitVec.ofNat 32 pc
  let far (t : BitVec 32) : List Nat := [pc + 4, t.toNat]
  match decodeStitch c w with
  | some (.bcEq _ _ _ off) => far (branchTarget at_ off)
  | some (.bcNe _ _ _ off) => far (branchTarget at_ off)
  | some (.bcLts _ _ _ off) => far (branchTarget at_ off)
  | some (.bcGes _ _ _ off) => far (branchTarget at_ off)
  | some (.bcLtu _ _ _ off) => far (branchTarget at_ off)
  | some (.bcGeu _ _ _ off) => far (branchTarget at_ off)
  | some (.go _ off) => [(branchTarget at_ off).toNat]
  | some (.call _ off) => far (branchTarget at_ off)
  | some (.callb _ _ off) => far (branchTarget at_ off)
  | some (.gor _ _ _) => []
  | some (.ret _) => []
  | some (.retb _) => []
  | some (.endEntry _) => []
  | some _ => [pc + 4]
  | none => []

/-- Addresses of a core's image that are reached from some of them. -/
def Pattern.codeReach (p : Pattern) (c : Nat) : Nat → List Nat → List Nat → List Nat
  | 0, _, seen => seen
  | _ + 1, [], seen => seen
  | n + 1, pc :: todo, seen =>
    match p.codeWord c pc with
    | none => p.codeReach c n todo seen
    | some w => if seen.contains pc then p.codeReach c n todo seen else p.codeReach c n (codeNext c pc w ++ todo) (pc :: seen)

/-- Selvedge code of a core: what its runs reach from their entries. The spec does not say where the code of a run ends;
that it is what the words of its instructions lead to is DEDUCED (log 121). -/
def Pattern.selvedgeCode (p : Pattern) (c : Nat) : List Nat :=
  let entries := p.segments.flatMap (fun g => ([false, true].map (p.runRecord g)).filterMap (fun r =>
    if runCore r = c then some (runEntry r) else none))
  p.codeReach c (entries.length + 3 * (p.codeLen c / 4)) entries []

/-- Code and tasks may change outside the selvedge. -/
def olcCode (a b : Pattern) : Bool :=
  (List.range 8).all (fun c => (a.selvedgeCode c).all (fun pc => a.codeWord c pc == b.codeWord c pc))

/-- Initial values for new variables only: what the base holds stays, and what is added covers none of it. The retained
runs stay in their order, and RETAIN_LAYOUT with them. -/
def olcInit (a b : Pattern) : Bool :=
  let key (p : Pattern) (it : Bytes) : Bytes × Bytes := (it.take 12, if initKind it = 1 then p.initBytes it else [])
  let items (p : Pattern) : List Bytes := (List.range (p.items Pattern.INITDATA)).map p.initItem
  let old := (items a).map (key a)
  a.retainLayout == b.retainLayout && a.initItems 2 == b.initItems 2 &&
  (old.all (fun k => (items b).any (fun it => key b it == k))) &&
    ((items b).filter (fun it => !(old.contains (key b it)))).all (fun it => initKind it == 1 &&
      (items a).all (fun o => initKind o == 0 || initRegion o != initRegion it || apart (initOff o, initLen o) (initOff it, initLen it)))

/-- Queues and regions that the base leaves unused may be added. -/
def olcMemory (a b : Pattern) : Bool :=
  let recs (p : Pattern) : List Bytes := (List.range p.regionCount).map (fun r => (p.bytes Pattern.MEMORY).slice (4100 + 16 * r) 16)
  (List.range 128).all (fun q => !(a.queueDefined q) || a.queue q == b.queue q) && (recs a).all (recs b).contains

/-- Channels may be added or removed, and none that runs in both generations altered. -/
def olcLoops (a b : Pattern) : Bool :=
  (List.range 256).all (fun c => !(lpUsed (a.loop c)) || !(lpUsed (b.loop c)) || a.loop c == b.loop c)

/-- Contexts unused in the base may be added, and contexts removed; one of both generations stays as it is. -/
def olcSolver (a b : Pattern) : Bool :=
  (List.range 8).all (fun c => !(qpUsed (a.qp c)) || !(qpUsed (b.qp c)) ||
    (a.qp c == b.qp c && (a.qpHeap c).take (8 * (qpBlockWords (a.qp c))) == (b.qpHeap c).take (8 * (qpBlockWords (a.qp c)))))

/-- Direction of a digital channel: none, input, output. That an unused channel has a direction of its own, so that none
becomes used or unused, is the model's choice (log 110). -/
def direction (mode : Nat) : Nat := if mode = 0 then 0 else if mode = 3 then 2 else 1

/-- Non-safety parameters may change, never the direction of a channel. -/
def olcIo (a b : Pattern) : Bool :=
  (List.range 48).all (fun n => direction (a.ioMode n) == direction (b.ioMode n) &&
    (!(a.selvedgeChannel n) || a.io n == b.io n))

/-- Two items stand for the same thing: a data set by its number and direction, a CAN mailbox or slot and an Ethernet
slot by its unit and number. -/
def sameNetItem (x y : Bytes) : Bool :=
  x.u8 0 == y.u8 0 &&
    (if x.u8 0 = plainKind ∨ x.u8 0 = pairedKind then setNo x == setNo y && setSend x == setSend y
     else x.u8 1 == y.u8 1 && x.u8 2 == y.u8 2)

def Pattern.netHeap (p : Pattern) (off len : Nat) : Bytes := ((p.bytes Pattern.NETWORK).drop off).take len

/-- The FIXED substitute that an item refers to in the heap. -/
def Pattern.netFixed (p : Pattern) (it : Bytes) : Bytes :=
  if it.u8 0 = plainKind ∨ it.u8 0 = pairedKind then
    if !(setSend it) && setSubst it == 1 then p.netHeap (setFixed it) (setLen it) else []
  else if it.u8 0 = 0x31 ∧ mbSubst it = 1 then p.netHeap (mbFixed it) 80
  else []

/-- An item as an on-line change sees it: without the heap offset, which may move, with what it refers to. -/
def Pattern.netContent (p : Pattern) (it : Bytes) : Bytes × Bytes :=
  (if it.u8 0 = plainKind ∨ it.u8 0 = pairedKind then it.take 28 else if it.u8 0 = 0x31 then it.take 24 ++ it.drop 28 else it,
   p.netFixed it)

/-- Data sets, CAN mailboxes and slots may be added or removed, and none of both generations altered (log 122); bit
timing, ports with MACsec, PTP and Terpaene connections stay. -/
def olcNetwork (a b : Pattern) : Bool :=
  [tpKind, 0x30, 0x40, 0x41].all (fun k => a.netItems k == b.netItems k) &&
  [plainKind, pairedKind, 0x31, 0x32, 0x42].all (fun k => (a.netItems k).all (fun x => (b.netItems k).all (fun y =>
    !(sameNetItem x y) || a.netContent x == b.netContent y)))

/-- Do two runs share a byte? -/
def runsMeet (x y : Nat × Nat) : Bool := decide (x.1 < y.1 + y.2) && decide (y.1 < x.1 + x.2)

/-- A place lies in storage that the on-line change may not move: the retain store, a retained run, the store of a loop
channel or of a solver context that both generations use. -/
def olcFixedPlace (a b : Pattern) (p : Pattern) (k : Nat) : Bool :=
  let run := (p.symOff k, p.symSize k)
  match p.symRegion k with
  | 0 => (a.initItems 2).any (fun it => runsMeet run (initOff it, initLen it))
  | 9 => (List.range 256).any (fun c => lpUsed (a.loop c) && lpUsed (b.loop c) && runsMeet run (0x400 * c, 0x400))
  | 10 => (List.range 8).any (fun c => qpUsed (a.qp c) && qpUsed (b.qp c) && runsMeet run (0x80000 * c, 0x80000))
  | 11 => true
  | _ => false

/-- May a symbol j of the base have another place as symbol k of the new generation (R66, Table 3.4)? Selvedge and
retained data stay (log 24). -/
def olcMayMove (a b : Pattern) (j k : Nat) : Bool :=
  !bitOf (a.symFlags j) 0 && !bitOf (a.symFlags j) 1 && !bitOf (b.symFlags k) 0 && !bitOf (b.symFlags k) 1 &&
    !olcFixedPlace a b a j && !olcFixedPlace a b b k

/-- R66: an identity of both generations keeps its KIND and TYPE, and its place where the changed sections permit no
other. -/
def olcSymbols (a b : Pattern) : Bool :=
  (List.range (b.items Pattern.SYMBOLS)).all (fun k =>
    match a.symIndex (b.symId k) with
    | none => true
    | some j => a.symKind j == b.symKind k && a.symType j == b.symType k &&
        (olcMayMove a b j k || (a.symRegion j == b.symRegion k && a.symOff j == b.symOff k && a.symSize j == b.symSize k)))

/-- The first section type that differs in a way the table does not permit. Of several the lowest is reported, the
model's choice (log 111). -/
def olcForbidden (a b : Pattern) : Option Nat :=
  let same (t : Nat) : Bool := a.bytes t == b.bytes t
  ([(Pattern.TOPOLOGY, same Pattern.TOPOLOGY), (Pattern.SCHEDULE, olcSchedule a b), (Pattern.CODE, olcCode a b),
    (Pattern.INITDATA, olcInit a b),
    (Pattern.MEMORY, olcMemory a b), (Pattern.LOOPS, olcLoops a b), (Pattern.SOLVER, olcSolver a b),
    (Pattern.IO, olcIo a b), (Pattern.NETWORK, olcNetwork a b), (Pattern.SELVEDGE, same Pattern.SELVEDGE),
    (Pattern.POWER, same Pattern.POWER), (Pattern.SYMBOLS, olcSymbols a b)].find? (fun x => !x.2)).map (·.1)

/-- The conditions of R75 but SHADOW_STATE: the code and DETAIL of the first that fails. -/
def olcCheck (a b : Pattern) : Option Failure :=
  if b.patternId ≠ a.patternId ∨ b.generation ≤ a.generation ∨ b.baseGen ≠ a.generation then some (.olcBase, 0)
  else if !a.olcEnable || !b.olcEnable then some (.olcForbidden, 0)
  else (olcForbidden a b).map (fun t => (.olcForbidden, t))

/-! ### Commands (R68, R75, R76, R78) -/

/-- PREPARE: the conditions, then the load begins. A SHADOW_STATE other than VERIFIED is refused with CODE 14, the
model's choice (log 13); a PREPARE of READY or COMMITTING prepares anew, and gives up a commit that waits (log 13). -/
def State.patPrepare (s : State) : State :=
  s.patCmd 3 (s.operating && s.shadowState == shVerified) (fun s =>
    match s.pat.active with
    | none => s.patEnd 3 PatCode.state.code 0
    | some a =>
      let b := parseContainer (s.container s.roles.shadow)
      match olcCheck a b with
      | some f => s.patEnd 3 f.1.code f.2
      | none => { s.setF F.PAT_STATE_OLC_STATE olcPreparing with
          pat := { s.pat with prepared := some b, commitAt := none, markWritten := false, loadDue := false } })

/-- The new code images agree with the running ones wherever both lie. -/
def codeFits (a b : Pattern) : Bool :=
  (List.range 8).all (fun c =>
    let lo := max (a.codeLoad c) (b.codeLoad c)
    let hi := min (a.codeLoad c + a.codeLen c) (b.codeLoad c + b.codeLen c)
    ((a.codeImage c).drop (lo - a.codeLoad c)).take (hi - lo) == ((b.codeImage c).drop (lo - b.codeLoad c)).take (hi - lo))

/-- Code, initial data, loop channels and solver contexts of the new generation go where the active one holds nothing
(R75). Queues are empty until N_c; the register settings stay staged in the prepared Pattern. -/
def State.prepareLoad (s : State) (a b : Pattern) : State :=
  let s := (List.range 8).foldl (fun s c => s.load (Mem.iram c + b.codeLoad c) (b.codeImage c)) s
  let old := (a.initItems 1).map (·.take 12)
  let s := ((b.initItems 1).filter (fun it => !(old.contains (it.take 12)))).foldl (fun s it => s.initRun b it) s
  let s := (List.range 256).foldl (fun s c =>
    if lpUsed (b.loop c) && !lpUsed (a.loop c) then s.lpLoadStore b c else s) s
  (List.range 8).foldl (fun s c => if qpUsed (b.qp c) && !qpUsed (a.qp c) then s.qpLoadStore b c else s) s

/-- No application core executes a slot entry, so that the supervisor may write their scratchpads (R21). -/
def State.coresIdle (s : State) : Bool := (List.range 8).all (fun c => (s.agent c).running.isNone)

/-- A load that waits for the cores takes place, and the change is READY (R21, R75). -/
def State.finishPrepare (s : State) : State :=
  if s.olc ≠ olcPreparing ∨ !s.pat.loadDue ∨ !s.coresIdle then s else
  match s.pat.active, s.pat.prepared with
  | some a, some b =>
    let s := { s with pat := { s.pat with loadDue := false } }
    ((s.prepareLoad a b).setF F.PAT_STATE_OLC_STATE olcReady).patEnd 3 0 0
  | _, _ => s

/-- PREPARE_LOAD_END: READY, or FAILED with RESOURCE. While a core is in a slot entry its scratchpads are not written:
the load then ends at the next boundary (log 23). -/
def State.prepareLoadEnd (s : State) (loaded : Bool) : State :=
  if s.olc ≠ olcPreparing then s else
  match s.pat.active, s.pat.prepared with
  | some a, some b =>
    if loaded && codeFits a b then { s with pat := { s.pat with loadDue := true } }.finishPrepare
    else (s.olcDrop olcFailed).patEnd 3 PatCode.resource.code 0
  | _, _ => s

/-- PREPARE_TIMEOUT: the load was not complete within 60 s. -/
def State.prepareTimeout (s : State) : State :=
  if s.olc = olcPreparing then (s.olcDrop olcFailed).patEnd 3 PatCode.prepareTimeout.code 0 else s

/-- N_c as PAT_OLC_AT holds it. -/
def State.olcAt (s : State) : Nat := s.getF F.PAT_OLC_AT_LO_N_C + 2 ^ 32 * s.getF F.PAT_OLC_AT_HI_N_C

/-- The first seam boundary after now: the next multiple of L above the stitch index. -/
def State.nextSeam (s : State) (p : Pattern) : Nat :=
  if p.seamLen = 0 then s.clock.refN + 1 else (s.clock.refN / p.seamLen + 1) * p.seamLen

/-- COMMIT takes N_c: a multiple of L later than the first seam boundary after the write. -/
def State.patCommit (s : State) : State :=
  s.patCmd 4 (s.operating && s.olc == olcReady) (fun s =>
    let n := s.olcAt
    match s.pat.active with
    | some p =>
      if p.seamLen ≠ 0 ∧ n % p.seamLen = 0 ∧ s.nextSeam p < n then
        { (s.setF F.PAT_STATE_OLC_STATE olcCommitting).patEnd 4 0 0 with
            pat := { s.pat with executing := 0, commitAt := some n, markWritten := false } }
      else s.patEnd 4 PatCode.state.code 0
    | none => s.patEnd 4 PatCode.state.code 0)

/-- ABORT: accepted while a PREPARE loads, too; after the commit mark it is refused. -/
def State.patAbort (s : State) : State :=
  if s.olcOpen && !s.pat.markWritten then
    (s.olcDrop olcAborted).patEnd 5 0 0
  else if s.pat.executing ≠ 0 then s.patRefuse 5 .busy
  else s.patRefuse 5 .state

def execPrepare (req : Requester) (s : State) : Result := s.command req F.PAT_CMD_OP s.patPrepare
def execPrepareLoadEnd (loaded : Bool) (s : State) : Result := .next (s.prepareLoadEnd loaded)
def execPrepareTimeout (s : State) : Result := .next s.prepareTimeout
def execCommit (req : Requester) (s : State) : Result := s.command req F.PAT_CMD_OP s.patCommit
def execAbort (req : Requester) (s : State) : Result := s.command req F.PAT_CMD_OP s.patAbort

/-! ### The switch at N_c (R76, R132, R162) -/

/-- A force whose symbol the new generation lacks, or no longer marks forceable, is dropped. -/
def State.dropForces (s : State) (b : Pattern) : State :=
  let gone (f : BitVec 32 × BitVec 64) : Bool :=
    match b.symIndex f.1.toNat with
    | none => true
    | some k => !(b.forceable k)
  let out := s.tasks.forces.filter gone
  let s := s.setForces (s.tasks.forces.filter (fun f => !(gone f)))
  (out.foldl (fun s f => s.raise Ev.FORCE_DROPPED srcSupervisor [f.1.toNat]) s).setF F.GLB_FORCE_RESULT_COUNT
    s.tasks.forces.length

/-- Loop channels and solver contexts that only one generation has: the new ones, loaded by PREPARE, begin; the dropped
ones stop. -/
def State.switchUnits (s : State) (a b : Pattern) : State :=
  let s := (List.range 256).foldl (fun s c =>
    if lpUsed (a.loop c) && lpUsed (b.loop c) then s else if lpUsed (a.loop c) || lpUsed (b.loop c) then s.lpEnter b c else s) s
  let s := (List.range 8).foldl (fun s c =>
    if qpUsed (a.qp c) && qpUsed (b.qp c) then s
    else if qpUsed (a.qp c) || qpUsed (b.qp c) then s.qpEnter b c else s) s
  s.setF F.QPS_STATUS_USED ((List.range 8).foldl (fun n c => n + if qpUsed (b.qp c) then 2 ^ c else 0) 0)

/-- Has current-loop output o no writer: unused, WRITER 0xFF, or the loop engine with no channel for it? -/
def Pattern.cloUnwritten (p : Pattern) (o : Nat) : Bool :=
  let k := cloItem o
  p.ioMode k == 0 || p.ioWriter k == 0xFF || (p.ioWriter k == 0xFC && !((List.range 256).any (fun c =>
    lpUsed (p.loop c) && descKind (lpDesc (p.loop c) 4) == 3 && descIdx (lpDesc (p.loop c) 4) == o)))

/-- An output without a writer in the new generation takes its off value (R162). -/
def State.switchOutputs (s : State) (b : Pattern) : State :=
  let s := ((List.range 48).filter (fun n => b.isOutput n && b.ioWriter n == 0xFF)).foldl (fun s n => s.switch n false) s
  ((List.range 8).filter b.cloUnwritten).foldl (fun s o =>
    (s.cloOff o).setClo o { (s.cloOff o).cloOut o with written := false }) s

/-- Tasks that the new generation describes otherwise start without a published half. -/
def State.switchTasks (s : State) (a b : Pattern) : State :=
  (List.range 32).foldl (fun s k =>
    if (a.outOff k, a.outLen k) = (b.outOff k, b.outLen k) ∧ (a.taskKind k = 0) = (b.taskKind k = 0) then s
    else (s.setR (F.SCH_TASK_STATUS_QFILL k).addr 0).setTriggers k []) s

/-- Status of the paired sets under their indices of the new generation; a set or a mailbox that it does not have shows
nothing and holds nothing. -/
def State.switchSets (s : State) (a b : Pattern) : State :=
  let gone (n : Nat) : Bool := !((b.plainSets ++ b.pairedSets).any (fun it => setNo it == n))
  let t := { s with
    net := { s.net with
      rx := s.net.rx.filter (fun x => !(gone x.1)), tx := s.net.tx.filter (fun x => !(gone x.1)) },
    can := { s.can with mb := s.can.mb.filter (fun x => (b.mailbox (x.1 / 64) (x.1 % 64)).isSome) } }
  (List.range 1024).foldl (fun t i =>
    t.setR (F.SCM_PD_STATUS_SET i).addr (match (b.pairedSets[i]?).bind (fun it => a.pairedIndex (setNo it)) with
      | some j => s.getR (F.SCM_PD_STATUS_SET j).addr
      | none => 0)) t

/-- Every agent switches to the new generation; the staged register settings take effect; the roles have rotated. A
change whose commit mark is not written by N_c has failed: where the RETAIN_COMMIT entry of stitch N_c - 1 did not run
at all that is the model's choice (log 109). -/
def State.olcSwitch (s : State) : State :=
  match s.pat.active, s.pat.prepared with
  | some a, some b =>
    if s.olc = olcCommitting ∧ s.pat.commitAt = some s.clock.refN ∧ s.pat.markWritten then
      let s := { s with pat := { s.pat with active := some b, prepared := none, commitAt := none, markWritten := false } }
      let s := { s with queues := s.queues.filter (fun q => a.queueDefined q.1) }
      let modes := (List.range 8).map (fun n => s.getF (F.CAN_CTRL_MODE n))
      let s := (((s.switchSets a b).headerFields b).unitFields b).switchUnits a b
      let s := (modes.zipIdx).foldl (fun s m => s.setF (F.CAN_CTRL_MODE m.2) m.1) s
      let s := (((s.switchTasks a b).switchOutputs b).dropForces b).updateConfirmed
      (s.setF F.PAT_STATE_OLC_STATE olcIdle).checkLayout b
    else if s.olc = olcCommitting ∧ s.pat.commitAt = some s.clock.refN then s.olcDrop olcFailed
    else s
  | _, _ => s

end Sys2Proof.Machine
end

