-- ==== Sys2Proof/Machine/Update.lean ====
section
/-!
DEFINITION. Firmware images, the firmware journal and the update regions (R407, R411, R412, R414, R418, R422 to R431).
-/

namespace Sys2Proof.Machine

/-! ### Firmware images (R411, R412) -/

def fwContract (c : Bytes) : Nat := c.u16 8
def fwSvn (c : Bytes) : Nat := c.u8 10
def fwComponents (c : Bytes) : Nat := c.u8 11
def fwEntry (c : Bytes) (i : Nat) : Bytes := (c.drop (256 + 32 * i)).take 32
def fwSigner (c : Bytes) : Bytes := (c.drop 32).take 96

/-- Directory entries of a firmware image. -/
def fwEntries (c : Bytes) : List Bytes := (List.range (fwComponents c)).map (fwEntry c)

/-- The bytes of a component, if its CRC holds. -/
def fwPart (c e : Bytes) : Option Bytes :=
  let b := (c.drop (dirOff e)).take (dirLen e)
  if dirCrc e = (crc32c b).toNat then some b else none

/-- Two components share no byte. -/
def fwApart (a b : Bytes) : Bool := decide (dirOff a + dirLen a ≤ dirOff b) || decide (dirOff b + dirLen b ≤ dirOff a)

/-- Where the trailer starts: the first multiple of 64 after the last component. -/
def fwTrailerAt (c : Bytes) : Nat := 64 * ceilDiv (((fwEntries c).map (fun e => dirOff e + dirLen e)).foldl max 0) 64

/-- Header, directory, components and their CRCs, and the place of the trailer (R411). -/
def fwFormatOk (c : Bytes) : Bool :=
  let n := fwComponents c
  let es := fwEntries c
  c.u32 0 == 0x57465653 && c.u16 4 == 1 && c.u16 6 == 256 && c.u32 252 == (crc32c (c.take 252)).toNat &&
    zeroes c 20 12 && zeroes c 128 120 && decide (6 ≤ n) && decide (n ≤ 16) && decide (fwSvn c ≤ 64) &&
    cTotal c % 64 == 0 && decide (cTotal c ≤ 0x2000000) && decide (256 + 32 * n + 192 ≤ cTotal c) &&
    c.u32 248 == (crc32c ((c.drop 256).take (32 * n))).toNat &&
    (List.range 6).all (fun t => (es.filter (fun e => dirTyp e == t + 1)).length == 1) &&
    es.all (fun e => decide (1 ≤ dirTyp e) && decide (dirTyp e ≤ 15) && dirVer e == 1 && dirItems e == 0 &&
      zeroes e 20 12 && dirOff e % 64 == 0 && decide (256 + 32 * n ≤ dirOff e) &&
      decide (dirOff e + dirLen e ≤ cTotal c - 192) && (fwPart c e).isSome) &&
    decide (es.Pairwise (fun a b => fwApart a b = true)) && fwTrailerAt c == cTotal c - 192 &&
    trailerOk (cTrailer c)

/-- Index of the mask-ROM key that signed an image. -/
def fwKey (c : Bytes) : Option Nat := (List.range 4).find? (fun k => sha384 (fwSigner c) == sha384 (Config.firmwareKey k))

/-- CODE of UPD_RESULT (Table 17.14). -/
inductive UpdCode where
  | ok | state | busy | length | incomplete | digest | signature | rollback | contract | format | late | revoked | noOwner
  | blockCrc
  deriving DecidableEq, Repr

def UpdCode.code : UpdCode → Nat
  | .ok => 0
  | .state => 1
  | .busy => 2
  | .length => 3
  | .incomplete => 4
  | .digest => 5
  | .signature => 6
  | .rollback => 7
  | .contract => 8
  | .format => 9
  | .late => 10
  | .revoked => 11
  | .noOwner => 12
  | .blockCrc => 13

/-- Anti-rollback counter (R418). -/
def State.counter (s : State) : Nat := s.sec.fuses

/-- The first failed check of an image in the order of R412. -/
def State.fwCheck (s : State) (c : Bytes) : Option UpdCode :=
  let t := cTrailer c
  if !fwFormatOk c then some .format
  else if trailerDigest t != sha384 (c.take (cTotal c - 192)) then some .digest
  else match fwKey c with
    | none => some .signature
    | some k =>
      if s.sec.revoked.contains k then some .revoked
      else if trailerKeyId t != keyId (fwSigner c) || !verifySig (fwSigner c) (trailerDigest t) (trailerR t) (trailerS t)
      then some .signature
      else if !(decide (fwContract c < 16) && bitOf (s.getF F.SCH_CONTRACT_IMPL) (fwContract c)) then some .contract
      else if fwSvn c < s.counter then some .rollback
      else none

/-- The image in a firmware slot, as long as its TOTAL_LEN says. -/
def State.fwBytes (s : State) (k : Nat) : Bytes :=
  s.rdBytes (Mem.fwSlot k) (max 256 (min 0x2000000 (s.rdLe (Mem.fwSlot k + 12) 4)))

/-- A slot has been programmed since production. -/
def State.fwSlotWritten (s : State) (k : Nat) : Bool := Store.get (fun _ => false) s.upd.fwWritten k
def State.markFwWritten (s : State) (k : Nat) : State :=
  { s with upd := { s.upd with fwWritten := Store.set (fun _ => false) s.upd.fwWritten k true } }

/-- A component of the image in a slot, if its CRC holds as it is loaded (R416). -/
def State.component (s : State) (slot t : Nat) : Option Bytes :=
  if s.fwSlotWritten slot then
    let c := s.fwBytes slot
    ((fwEntries c).find? (fun e => dirTyp e == t)).bind (fwPart c)
  else some (Config.factoryComponent t)

/-- The check of a slot. A slot never programmed holds the valid factory image, of SVN 0. -/
def State.fwSlotCheck (s : State) (k : Nat) : Option UpdCode :=
  if s.fwSlotWritten k then s.fwCheck (s.fwBytes k) else if 0 < s.counter then some .rollback else none

/-- SVN of the image in a slot. -/
def State.fwSlotSvn (s : State) (k : Nat) : Nat := if s.fwSlotWritten k then fwSvn (s.fwBytes k) else 0

/-! ### The firmware journal word (R414) -/

/-- Table 17.5. -/
structure FwRoles where
  active : Nat
  bootA : Bool
  bootB : Bool
  trial : Bool
  trials : Nat
  svnA : Nat
  svnB : Nat
  deriving DecidableEq, Repr

def fwRoles (w : Nat) : FwRoles :=
  if bitsOf w 63 56 = 0x5A then
    ⟨bitsOf w 0 0, bitOf w 1, bitOf w 2, bitOf w 3, bitsOf w 5 4, bitsOf w 14 8, bitsOf w 22 16⟩
  else ⟨0, true, true, false, 0, 0, 0⟩

def fwWord (r : FwRoles) : Nat :=
  r.active + (if r.bootA then 2 else 0) + (if r.bootB then 4 else 0) + (if r.trial then 8 else 0) + 16 * r.trials +
    2 ^ 8 * r.svnA + 2 ^ 16 * r.svnB + 2 ^ 56 * 0x5A

def FwRoles.bootable (r : FwRoles) (k : Nat) : Bool := if k = 0 then r.bootA else r.bootB
def FwRoles.svn (r : FwRoles) (k : Nat) : Nat := if k = 0 then r.svnA else r.svnB
def FwRoles.setBootable (r : FwRoles) (k : Nat) (b : Bool) : FwRoles :=
  if k = 0 then { r with bootA := b } else { r with bootB := b }
def FwRoles.setSvn (r : FwRoles) (k v : Nat) : FwRoles := if k = 0 then { r with svnA := v } else { r with svnB := v }

def State.fw (s : State) : FwRoles := fwRoles (s.rdLe Mem.fwJournal 8)

/-- UPD_FW shows the low word. -/
def State.showFw (s : State) : State := s.setF F.UPD_FW_JOURNAL (lo32 (s.rdLe Mem.fwJournal 8))

/-- The word is written in one MRAM write cycle. -/
def State.writeFw (s : State) (r : FwRoles) : State := (s.wrLe Mem.fwJournal 8 (fwWord r)).showFw

/-! ### Regions (R422, R423) -/

def State.updLength (s : State) (r : Nat) : Nat := Store.get (fun _ => 0) s.upd.length r
def State.updTarget (s : State) (r : Nat) : Nat := Store.get (fun _ => 0) s.upd.target r
def State.blockDone (s : State) (r k : Nat) : Bool := Store.get (fun _ => false) s.upd.bitmap (1024 * r + k)
def State.updBlocks (s : State) (r : Nat) : Nat := ceilDiv (s.updLength r) 65536
def State.nextBlock (s : State) (r : Nat) : Nat :=
  ((List.range (s.updBlocks r)).find? (fun k => !(s.blockDone r k))).getD (s.updBlocks r)
def State.showBlocks (s : State) (r : Nat) : State :=
  (s.setF (F.UPD_R_STATE_BLOCKS r) (s.updBlocks r)).setF (F.UPD_R_STATE_NEXT_BLOCK r) (s.nextBlock r)
def State.clearBitmap (s : State) (r : Nat) : State :=
  { s with upd := { s.upd with bitmap := s.upd.bitmap.filter (fun b => b.1 / 1024 != r) } }

/-- Address and size of a region's target slot. -/
def updSlot (r t : Nat) : Nat := if r = 0 then Mem.fwSlot t else if r = 1 then Mem.patSlot t else Mem.assetsSlot t
def updSlotSize (r : Nat) : Nat := if r = 2 then 0x400000 else 0x2000000

/-- A command of UPD_CMD or UPD_CANCEL has ended. -/
def State.updResult (s : State) (op r : Nat) (c : UpdCode) : State :=
  let s := ((s.setF F.UPD_RESULT_LAST_OP op).setF F.UPD_RESULT_REGION r).setF F.UPD_RESULT_CODE c.code
  (s.setF F.UPD_RESULT_NEXT_BLOCK 0).setF F.UPD_RESULT_DONE 1

/-- An update is running in a region. -/
def State.updRunning (s : State) (r : Nat) : Bool := s.region r != rgIdle && s.region r != rgFailed

/-- Slot that an update of a region writes. -/
def State.newTarget (s : State) (r : Nat) : Nat :=
  if r = 0 then 1 - s.fw.active else if r = 1 then s.roles.shadow else 1 - s.upd.assetsSlot

/-- BEGIN is accepted: the target's marks, the bitmap, the state (R424). -/
def State.updOpen (s : State) (r len : Nat) : State :=
  let t := s.newTarget r
  let s := if r = 0 then s.writeFw (s.fw.setBootable t false) else s
  let s := if r = 1 then
      { s.setF F.PAT_STATE_SHADOW_STATE shWriting with pat := { s.pat with slotLen := Store.set (fun _ => 0) s.pat.slotLen t len } }
    else s
  let s := s.clearBitmap r
  let s := { s with upd := { s.upd with
    length := Store.set (fun _ => 0) s.upd.length r len
    target := Store.set (fun _ => 0) s.upd.target r t } }
  let s := ((s.setRegion r rgReceiving).setF (F.UPD_R_ERR_BAD_BLOCKS r) 0).showBlocks r
  s.raise Ev.UPD_BEGIN srcUpdate [r, s.updBlocks r]

/-- BEGIN. -/
def State.updBegin (s : State) (r : Nat) : State :=
  let len := s.getF F.UPD_LEN_LENGTH
  if !(s.station == .stop || s.station == .unpatterned || s.operating) then s.updResult 1 r .state
  else if s.updRunning r || (r == 1 && s.olcOpen) then s.updResult 1 r .busy
  else if len = 0 ∨ len % 64 ≠ 0 ∨ updSlotSize r < len then s.updResult 1 r .length
  else (s.updOpen r len).updResult 1 r .ok

/-- RESUME. -/
def State.updResume (s : State) (r : Nat) : State :=
  if s.region r = rgReceiving then (s.updResult 2 r .ok).setF F.UPD_RESULT_NEXT_BLOCK (s.nextBlock r)
  else s.updResult 2 r .state

/-- A region's trigger is disarmed by the region's owner. -/
def State.regionDisarm (s : State) (r : Nat) : State :=
  if s.region r = rgArmed then s.setF (F.PTP_TRIG_CTRL_ARMED r) 0 else s

/-- FINISH (R427), in whatever state the region is: with no update no bit is set. In TRIAL, and for the pattern region
while its on-line change is open, it is BUSY; an armed region is disarmed: the model's choices (log 133). -/
def State.updFinish (s : State) (r : Nat) : State :=
  if s.region r = rgIdle ∨ s.nextBlock r < s.updBlocks r then s.updResult 3 r .incomplete
  else if s.region r = rgTrial ∨ (r = 1 ∧ s.olcOpen) then s.updResult 3 r .busy
  else
    let s := s.regionDisarm r
    if r = 1 then (s.setShadow shWritten rgReceived).updResult 3 r .ok
    else ((s.setRegion r rgVerifying).updResult 3 r .ok).setF F.UPD_RESULT_DONE 0

/-- The check of panel assets, as a code of UPD_RESULT. -/
def assetsCode (owner : Bool) (f : Failure) : UpdCode :=
  match f.1 with
  | .digest => .digest
  | .signature => if owner then .signature else .noOwner
  | _ => .format

/-- The whole-image check of a region. -/
def State.imageCheck (s : State) (r : Nat) : Option UpdCode :=
  if r = 0 then s.fwCheck (s.rdBytes (Mem.fwSlot (s.updTarget 0)) (s.updLength 0))
  else (checkAssets (s.rdBytes (Mem.assetsSlot (s.updTarget 2)) (s.updLength 2)) s.owner).map (assetsCode s.owner.isSome)

/-- UPD_VERIFY_END: VERIFIED, and for firmware the journal says so; or FAILED with the code. -/
def State.updVerifyEnd (s : State) (r : Nat) : State :=
  if r = 1 ∨ s.region r ≠ rgVerifying then s else
  let s := if r = 2 then s.ownerUse else s
  match s.imageCheck r with
  | none =>
    let t := s.updTarget r
    let svn := if r = 0 then s.fwSlotSvn t else 0
    let s := if r = 0 then s.writeFw ((s.fw.setBootable t true).setSvn t svn) else s
    ((s.setRegion r rgVerified).raise Ev.UPD_VERIFIED srcUpdate [r, svn]).updResult 3 r .ok
  | some c =>
    let s := (s.setRegion r rgFailed).setF (F.UPD_R_ERR_LAST_CODE r) c.code
    (s.raise Ev.UPD_VERIFY_FAILED srcUpdate [r, c.code]).updResult 3 r c

/-- UPD_CANCEL (R428). -/
def State.updCancel (s : State) (r : Nat) : State :=
  let st := s.region r
  if st = rgIdle then s.updResult 7 r .state
  else if st = rgVerifying ∨ st = rgTrial ∨ (r = 1 ∧ s.olcOpen) then s.updResult 7 r .busy
  else
    let s := (s.regionDisarm r).clearBitmap r
    let s := if r = 0 then s.writeFw (s.fw.setBootable (s.updTarget 0) false) else s
    let s := { s with upd := { s.upd with length := Store.set (fun _ => 0) s.upd.length r 0 } }
    let s := if r = 1 then s.shadowGone else s.setRegion r rgIdle
    ((s.showBlocks r).raise Ev.UPD_CANCELLED srcUpdate [r, st]).updResult 7 r .ok

/-! ### Blocks (R425) -/

def blkRegion (m : Bytes) : Nat := m.u8 0
def blkNo (m : Bytes) : Nat := m.u16 2
def blkLen (m : Bytes) : Nat := m.u32 4
def blkCrc (m : Bytes) : Nat := m.u32 8

/-- The engineering service is answered. -/
def State.answer (s : State) (c : UpdCode) : State := { s with bus := { s.bus with response := BitVec.ofNat 32 c.code } }

/-- Length that a block of a region has. -/
def State.blockLength (s : State) (r k : Nat) : Nat := min 65536 (s.updLength r - 65536 * k)

/-- The block's 64 KiB are erased and programmed; the flash then holds what the read-back gives. -/
def State.programBlock (s : State) (r k : Nat) (bytes : Bytes) : State :=
  let t := s.updTarget r
  let s := if r = 0 then s.markFwWritten t else s
  s.wrBytes (updSlot r t + 65536 * k) (bytes ++ List.replicate (65536 - bytes.length) 0xFF#8)

/-- A block message for a region. -/
def State.updBlock (s : State) (m readBack : Bytes) : State :=
  let r := blkRegion m
  let k := blkNo m
  if 3 ≤ r ∨ s.region r ≠ rgReceiving then s.answer .state
  else if s.updBlocks r ≤ k ∨ blkLen m ≠ s.blockLength r k ∨ m.length ≠ 12 + blkLen m then s.answer .length
  else if s.blockDone r k then s.answer .ok
  else
    let got := readBack.take (blkLen m)
    let s := s.programBlock r k got
    if got.length = blkLen m ∧ (crc32c got).toNat = blkCrc m then
      let s := { s with upd := { s.upd with bitmap := Store.set (fun _ => false) s.upd.bitmap (1024 * r + k) true } }
      (s.showBlocks r).answer .ok
    else
      let s := (s.incSat (F.UPD_R_ERR_BAD_BLOCKS r)).setF (F.UPD_R_ERR_LAST_CODE r) UpdCode.blockCrc.code
      (s.raise Ev.UPD_BLOCK_BAD srcUpdate [r, k]).answer .blockCrc

/-- UPD_BLOCK: a block message of the engineering service, which comes in a session of the owner's (R421), and what the
flash reads back after the programming. -/
def execUpdBlock (message readBack : Bytes) (s : State) : Result :=
  .next (if s.alive && s.station != .watch && decide (0 < s.sec.owned) then s.updBlock message readBack else s)

/-! ### Activation (R429 to R431) -/

/-- ARM. -/
def State.updArm (s : State) (r : Nat) : State :=
  let t := s.getF F.UPD_AT_LO_TIME + 2 ^ 32 * s.getF F.UPD_AT_HI_TIME
  if s.region r ≠ rgVerified then s.updResult 4 r .state
  else if t < s.nowNs + 10000000 then s.updResult 4 r .late
  else
    let s := ((s.setF (F.PTP_TRIG_LO_TIME r) (lo32 t)).setF (F.PTP_TRIG_HI_TIME r) (hi32 t)).setF (F.PTP_TRIG_CTRL_REQ_LOCK r) 1
    let s := (s.setF (F.PTP_TRIG_CTRL_ARMED r) 1).setRegion r rgArmed
    (s.raise Ev.UPD_ARMED srcUpdate [r, lo32 t, hi32 t]).updResult 4 r .ok

/-- DISARM. -/
def State.updDisarm (s : State) (r : Nat) : State :=
  if s.region r ≠ rgArmed then s.updResult 5 r .state
  else ((s.regionDisarm r).setRegion r rgVerified).updResult 5 r .ok

/-- The condition of Table 17.9. -/
def State.mayActivate (s : State) (r : Nat) : Bool :=
  if r = 0 then s.station == .stop || s.station == .unpatterned ||
    (s.isSet F.PAIR_STATUS_PAIRED &&
      (s.roleIs .standby || s.roleIs .stale || s.roleIs .isolated || s.roleIs .syncing))
  else if r = 1 then s.pat.executing == 0 && s.atRest && s.shadowState == shVerified
  else true

/-- The activation of Table 17.9. -/
def State.activateRegion (s : State) (r : Nat) : State :=
  if r = 0 then
    let s := (s.raise Ev.UPD_ACTIVATED srcUpdate [0]).commitAll
    let s := s.writeFw { s.fw with active := s.updTarget 0, trial := true, trials := 0 }
    (s.setRegion 0 rgTrial).fullReset .update
  else if r = 1 then s.patActivate
  else (s.activateAssets (s.updTarget 2)).setRegion 2 rgIdle

/-- ACTIVATE_NOW. -/
def State.updActivateNow (s : State) (r : Nat) : State :=
  if s.region r ≠ rgVerified ∨ !s.mayActivate r then s.updResult 6 r .state
  else (s.updResult 6 r .ok).activateRegion r

/-- A due trigger: the region it serves activates, or is postponed (R430). -/
def State.trigger (s : State) (k : Nat) : State :=
  match s.trigFire k with
  | (fired, s) =>
    if k < 3 ∧ s.region k = rgArmed then
      if !fired then s.postponeRegion k 0
      else if s.mayActivate k then (s.setRegion k rgVerified).activateRegion k
      else s.postponeRegion k 1
    else s

/-- PTP_TRIGGER. -/
def execPtpTrigger (k : Nat) (s : State) : Result := onUnit (k < 4) (if s.trigDue k then s.trigger k else s)

/-! ### UPD_CMD -/

/-- A command of a region; REGION 3 is reserved and has no effect. -/
def State.updOn (s : State) (r : BitVec 2) (f : State → Nat → State) : State := if r = 3#2 then s else f s r.toNat

def execUpdBegin (req : Requester) (r : BitVec 2) (s : State) : Result := s.command req F.UPD_CMD_OP (s.updOn r State.updBegin)
def execUpdResume (req : Requester) (r : BitVec 2) (s : State) : Result := s.command req F.UPD_CMD_OP (s.updOn r State.updResume)
def execUpdFinish (req : Requester) (r : BitVec 2) (s : State) : Result := s.command req F.UPD_CMD_OP (s.updOn r State.updFinish)
def execUpdArm (req : Requester) (r : BitVec 2) (s : State) : Result := s.command req F.UPD_CMD_OP (s.updOn r State.updArm)
def execUpdDisarm (req : Requester) (r : BitVec 2) (s : State) : Result := s.command req F.UPD_CMD_OP (s.updOn r State.updDisarm)
def execUpdActivateNow (req : Requester) (r : BitVec 2) (s : State) : Result :=
  s.command req F.UPD_CMD_OP (s.updOn r State.updActivateNow)
def execUpdCancel (req : Requester) (r : BitVec 2) (s : State) : Result := s.command req F.UPD_CANCEL_REGION (s.updOn r State.updCancel)
def execUpdVerifyEnd (region : Nat) (s : State) : Result := onUnit (region < 3) (s.updVerifyEnd region)

end Sys2Proof.Machine
end

