-- ==== Sys2Proof/Machine/Security.lean ====
section
/-!
DEFINITION. The owner key, engineering sessions, debug access, MACsec keys and the random generator (R409, R410, R419 to
R421, R433, R434).
-/

namespace Sys2Proof.Machine

/-- CODE of SEC_RESULT (Table 17.24). -/
inductive SecCode where
  | ok | state | presence | signature | noSlot | nonce | trng | enrolled
  deriving DecidableEq, Repr

def SecCode.code : SecCode → Nat
  | .ok => 0
  | .state => 1
  | .presence => 2
  | .signature => 3
  | .noSlot => 4
  | .nonce => 5
  | .trng => 6
  | .enrolled => 7

def State.setSec (s : State) (x : Security) : State := { s with sec := x }

/-- Bytes lo to lo + n − 1 of SEC_DATA. -/
def State.secData (s : State) (lo n : Nat) : Bytes :=
  (((List.range 64).flatMap (fun k => leBytes 4 (s.getF (F.SEC_DATA_DATA k)))).drop lo).take n

/-- A SEC_CMD has ended; SEC_DATA is cleared. -/
def State.secResult (s : State) (op : Nat) (c : SecCode) : State :=
  let s := ((s.setF F.SEC_RESULT_LAST_OP op).setF F.SEC_RESULT_CODE c.code).setF F.SEC_RESULT_DONE 1
  (List.range 64).foldl (fun s k => s.setF (F.SEC_DATA_DATA k) 0) s

/-- The module serial number as 8 bytes. -/
def serialBytes : Bytes := leBytes 8 Config.serial.toNat

/-- The keys that the store and the OTP hold, shown in SEC_STATUS and SEC_OWNER_ID. -/
def State.showKeys (s : State) : State :=
  let id := (s.owner.map keyId).getD 0
  let s := (s.setB F.SEC_STATUS_OWNER s.owner.isSome).setF F.SEC_STATUS_OWNER_SLOT (s.sec.ownerSlots.length - 1)
  let s := (s.setF F.SEC_OWNER_ID_LO_KEY_ID (lo32 id)).setF F.SEC_OWNER_ID_HI_KEY_ID (hi32 id)
  let cak (k : Nat) : Bool := (Store.get (fun _ => none) s.sec.caks k).isSome
  (s.setB F.SEC_STATUS_CAK_A (cak 0)).setB F.SEC_STATUS_CAK_B (cak 1)

/-- STOP or UNPATTERNED. -/
def State.halted (s : State) : Bool := s.station == .stop || s.station == .unpatterned

/-! ### Owner (R419, R420) -/

/-- ENROL; WAKE has been high for `wakeMs` ms. -/
def State.enrol (s : State) (wakeMs : Nat) : State :=
  let key := s.secData 0 96
  if !s.sec.ownerSlots.isEmpty then s.secResult 1 .enrolled
  else if !s.halted then s.secResult 1 .state
  else if wakeMs < 3000 then s.secResult 1 .presence
  else if !s.isSet F.SEC_STATUS_TRNG_OK then s.secResult 1 .trng
  else
    let s := (s.setSec { s.sec with ownerKey := some key, ownerSlots := [sha384 key] }).showKeys
    let s := s.setF F.SEC_STATUS_DEBUG 0
    (s.raise Ev.OWNER_ENROLLED srcUpdate [lo32 (keyId key), hi32 (keyId key)]).secResult 1 .ok

/-- ROTATE. -/
def State.rotateOwner (s : State) : State :=
  let s := s.ownerUse
  let key := s.secData 0 96
  let slot := s.sec.ownerSlots.length
  let good := match s.owner with
    | some k => verifySig k (sha384 (key ++ serialBytes ++ leBytes 1 slot)) (s.secData 96 48) (s.secData 144 48)
    | none => false
  if 8 ≤ slot then s.secResult 2 .noSlot
  else if !good then s.secResult 2 .signature
  else
    let s := (s.setSec { s.sec with ownerKey := some key, ownerSlots := s.sec.ownerSlots ++ [sha384 key] }).showKeys
    (s.raise Ev.OWNER_ROTATED srcUpdate [lo32 (keyId key), hi32 (keyId key), slot]).secResult 2 .ok

/-! ### Debug (R433) -/

/-- A nonce is shown, or none is valid. -/
def State.setNonce (s : State) (n : Option (Bytes × Nat)) : State :=
  let s := s.setSec { s.sec with nonce := n }
  let b : Bytes := (n.map (·.1)).getD []
  (List.range 8).foldl (fun s k => s.setF (F.SEC_DBG_NONCE_NONCE k) (b.u32 (4 * k))) s

/-- n bytes of the DRBG; they are free values. -/
def State.random (s : State) : Nat → Bytes × State
  | 0 => ([], s)
  | n + 1 =>
    let (rest, t) := s.random n
    let (v, t) := t.fresh
    (BitVec.ofNat 8 v :: rest, t)

/-- DBG_CHALLENGE. -/
def State.dbgChallenge (s : State) : State :=
  if !s.halted then s.secResult 3 .state
  else if !s.isSet F.SEC_STATUS_TRNG_OK then s.secResult 3 .trng
  else
    let (b, s) := s.random 32
    (s.setNonce (some (b, s.elapsedNs))).secResult 3 .ok

/-- The nonce that is valid now: for 300 s. -/
def State.validNonce (s : State) : Option Bytes :=
  match s.sec.nonce with
  | some (b, t) => if s.elapsedNs < t + 300000000000 then some b else none
  | none => none

/-- DBG_UNLOCK. -/
def State.dbgUnlock (s : State) : State :=
  let s := s.ownerUse
  let scope := (s.secData 0 1).u8 0
  match s.validNonce with
  | none => s.secResult 4 .nonce
  | some n =>
    let good := match s.owner with
      | some k => verifySig k (sha384 (n ++ serialBytes ++ leBytes 1 scope)) (s.secData 48 48) (s.secData 96 48)
      | none => false
    if good && (scope == 1 || scope == 2) then
      (((s.setNonce none).setF F.SEC_STATUS_DEBUG scope).raise Ev.DEBUG_UNLOCKED srcUpdate [scope]).secResult 4 .ok
    else s.secResult 4 .signature

/-- LOCK. -/
def State.dbgLock (s : State) : State :=
  if s.unlocked then ((s.setF F.SEC_STATUS_DEBUG 0).raise Ev.DEBUG_LOCKED srcUpdate []).secResult 5 .ok
  else s.secResult 5 .ok

/-- NONCE_EXPIRY: 300 s have passed. -/
def execNonceExpiry (s : State) : Result := .next (if s.sec.nonce.isSome then s.setNonce none else s)

/-! ### MACsec keys (R434) -/

/-- MKA starts anew on a port: its keys are gone, and it is not secured any longer. -/
def State.restartMka (s : State) (port : Nat) : State :=
  if s.isSet (F.ETH_P_STATUS_SECURED port) then
    ((s.setMacsec port MacsecPort.fresh).setF (F.ETH_P_STATUS_SECURED port) 0).raise Ev.ETH_MACSEC_LOST (srcEth port)
      [port]
  else s

/-- STOP, UNPATTERNED or TACKING. -/
def State.cakAllowed (s : State) : Bool := s.halted || s.station == .tacking

/-- The CAK of a port is stored or removed. -/
def State.putCak (s : State) (port : Nat) (k : Option Cak) : State :=
  let s := (s.setSec { s.sec with caks := Store.set (fun _ => none) s.sec.caks port k }).showKeys
  (s.restartMka port).raise Ev.MACSEC_CAK_SET srcUpdate [port, if k.isSome then 0 else 1]

/-- CAK_SET: the CAK is wrapped under the key-store key. -/
def State.cakSet (s : State) : State :=
  let port := (s.secData 0 1).u8 0
  let len := (s.secData 1 1).u8 0
  if !s.cakAllowed ∨ 2 ≤ port ∨ len = 0 ∨ 32 < len then s.secResult 6 .state
  else (s.putCak port (some ⟨s.secData 16 len, keyWrap keyStoreKey (s.secData 48 32)⟩)).secResult 6 .ok

/-- CAK_CLEAR. -/
def State.cakClear (s : State) : State :=
  let port := (s.secData 0 1).u8 0
  if !s.cakAllowed ∨ 2 ≤ port then s.secResult 7 .state
  else (s.putCak port none).secResult 7 .ok

/-- ENROL, which a session before enrolment may write, too (R421). -/
def execEnrol (req : Requester) (wakeMs : Nat) (s : State) : Result :=
  .next (s.accessBy req (if req = .cmp then s.accErr req [.refusedRo]
    else if s.mayWrite req F.SEC_CMD_OP.addr true then s.enrol wakeMs else s))

def execRotate (req : Requester) (s : State) : Result := s.command req F.SEC_CMD_OP s.rotateOwner
def execDbgChallenge (req : Requester) (s : State) : Result := s.command req F.SEC_CMD_OP s.dbgChallenge
def execDbgUnlock (req : Requester) (s : State) : Result := s.command req F.SEC_CMD_OP s.dbgUnlock
def execLock (req : Requester) (s : State) : Result := s.command req F.SEC_CMD_OP s.dbgLock
def execCakSet (req : Requester) (s : State) : Result := s.command req F.SEC_CMD_OP s.cakSet
def execCakClear (req : Requester) (s : State) : Result := s.command req F.SEC_CMD_OP s.cakClear

/-! ### Engineering sessions (R421) -/

/-- New connections are refused. -/
def State.sessionsLocked (s : State) : Bool :=
  match s.sec.lockedUntil with
  | some t => decide (s.elapsedNs < t)
  | none => false

/-- A failed authentication; the fifth within 60 s closes the port for 60 s. -/
def State.sessionFailed (s : State) : State :=
  let now := s.elapsedNs
  let l := s.sec.failures.filter (fun t => decide (now < t + 60000000000)) ++ [now]
  let s := s.setSec (if 5 ≤ l.length then { s.sec with failures := [], lockedUntil := some (now + 60000000000) }
    else { s.sec with failures := l })
  s.authFail

/-- SESSION_CONNECT: whether the client certificate is signed by the owner key, whether the client proved possession of
its key, whether the validity dates hold now. The service port is of the SVC domain (R29), and in WATCH the
supervisor that serves it is halted (R394). -/
def execSessionConnect (signedByOwner proofOfPossession dateOk : Bool) (s : State) : Result :=
  .next (
    if !s.alive || s.station == .watch || !s.domainOn domSvc || !s.rst.svcEn || s.sessionsLocked || decide (2 ≤ s.sec.sessions) then s
    else
      let s := s.ownerUse
      let good := proofOfPossession &&
        (s.owner.isNone || (signedByOwner && (dateOk || !s.isSet F.PTP_STATUS_LOCKED)))
      if good then s.setSec { s.sec with
        sessions := s.sec.sessions + 1
        owned := s.sec.owned + if s.owner.isSome then 1 else 0 } else s.sessionFailed)

/-- AUTH_LOCKOUT_END: the 60 s are over. -/
def execAuthLockoutEnd (s : State) : Result := .next (s.setSec { s.sec with lockedUntil := none })

/-! ### The random generator (R409) -/

/-- TRNG_FAIL: a health test failed; reseeding stops for the rest of the power cycle. -/
def execTrngFail (test : Nat) (s : State) : Result :=
  .next (if s.alive && s.isSet F.SEC_STATUS_TRNG_OK then
    (s.setF F.SEC_STATUS_TRNG_OK 0).raise Ev.TRNG_FAIL srcUpdate [test] else s)

end Sys2Proof.Machine
end

