-- ==== Sys2Proof/Machine/Boot.lean ====
section
/-!
DEFINITION. Power-up, resets, straps, the boot sequence, the settings memory and hold-up (R410, R415 to R417, R426, R436
to R452, R456, R460, R480).
-/

namespace Sys2Proof.Machine

def State.setRst (s : State) (x : ResetState) : State := { s with rst := x }

/-! ### Feeds and resets (R436 to R440, R456, R460) -/

/-- Main feed voltages as measured; FEED shows the lower one. -/
def State.setFeeds (s : State) (a b : Nat) : State :=
  (s.setPwr { s.pwr with feedA := a, feedB := b }).setF F.PWR_STATUS_FEED (min (min a b) 65535)

/-- Is a feed at or above 18.0 V? Within the ± 0.3 V of the threshold it is open. -/
def feedStarts (open_ mv : Nat) : Bool := if mv < 17700 then false else if 18300 ≤ mv then true else bitOf open_ 0

/-- The module leaves OFF: AON is powered, the internal reset is held. A low RST_N is a source of this reset too (R440). -/
def State.powerOn (s : State) : State :=
  { s with station := .boot, rst := { s.rst with
      held := true
      causes := ResetCause.powerOn.bit + if s.rst.rstLow then ResetCause.rstPin.bit else 0 } }

/-- FEED_RISE: feed 0 or 1 has been at `mv` for 10 ms. -/
def execFeedRise (feed mv : Nat) (s : State) : Result :=
  onUnit (feed < 2) (
    let (o, s) := s.fresh
    let s := if feed = 0 then s.setFeeds mv s.pwr.feedB else s.setFeeds s.pwr.feedA mv
    if s.station = .off ∧ feedStarts o mv then s.powerOn else s)

/-- FEED_LOSS: both feeds below 16 V start the hold-up; in WATCH they lead to OFF (R400, R438, R460). A module that is
held in reset has nothing to finish, but its store runs out all the same. -/
def execFeedLoss (mvA mvB : Nat) (s : State) : Result :=
  .next (
    let s := s.setFeeds mvA mvB
    if 16000 ≤ mvA ∨ 16000 ≤ mvB ∨ s.station = .off then s
    else if s.station = .watch then s.powerOff
    else if s.rst.holdUp then s
    else if s.rst.held then s.setRst { s.rst with holdUp := true }
    else
      let s := s.setRst { s.rst with pwrGood := false, holdUp := true }
      s.panelFeedLoss.commitAll.releaseNext 2)

/-- The actions of hold-up are complete (R460): no update runs, the rails are discharged, the pair is released. The
staged events were committed at the feed loss. -/
def State.holdUpDone (s : State) : Bool :=
  s.pnl.run.isNone && s.pnl.rails.isEmpty && s.pnl.dischargeAt.isNone && !(s.roleIs .active)

/-- HOLD_UP_END: the store is exhausted, or a feed has returned to 18 V and the actions are complete. -/
def execHoldUpEnd (storeExhausted : Bool) (s : State) : Result :=
  .next (
    if !s.rst.holdUp then s
    else if storeExhausted then s.powerOff
    else
      let (o, u) := s.fresh
      if feedStarts o (max s.pwr.feedA s.pwr.feedB) && s.holdUpDone then
        let t := u.fullReset .powerOn
        t.setRst { t.rst with holdUp := false }
      else s)

/-- SUPERVISOR_WDT. -/
def execSupervisorWdt (s : State) : Result :=
  .next (if s.alive && s.station != .watch then s.fullReset .supervisorWdt else s)

/-- BROWNOUT: in normal regulator mode. -/
def execBrownout (s : State) : Result :=
  .next (if s.station = .off ∨ s.station = .watch then s else s.fullReset .brownout)

/-- RST_PIN: the level of RST_N behind its filter; low holds the module in reset. -/
def execRstPin (low : Bool) (s : State) : Result :=
  .next (
    let s := s.setRst { s.rst with rstLow := low }
    if low then s.resetBy .rstPin else s)

/-- THERMAL_SHUTDOWN at 135 °C junction, and THERMAL_RESTART below 120 °C (R467). -/
def execThermalShutdown (s : State) : Result :=
  .next ((s.setRst { s.rst with hot := true }).resetBy .brownout)
def execThermalRestart (s : State) : Result := .next (s.setRst { s.rst with hot := false })

/-- VIO_LOST: J1 outputs are high-impedance, every CAN FD controller is off. -/
def execVioLost (s : State) : Result :=
  .next (
    if s.rst.vioOut then s
    else
      let s := s.setRst { s.rst with vioOut := true }
      if !s.alive || s.station == .watch then s
      else ((List.range 8).foldl (fun s n => s.canOff n) s).raise Ev.VIO_LOST srcSupervisor [])

/-- VIO_RESTORED: VIO has been in range for 1 ms. -/
def execVioRestored (s : State) : Result := .next (s.setRst { s.rst with vioOut := false })

/-! ### Straps (R442) -/

/-- Majority of three samples. -/
def strapMajority (x : StrapSamples) : BitVec 18 := (x.a &&& x.b) ||| (x.a &&& x.c) ||| (x.b &&& x.c)

/-- Pins that differ between samples. -/
def strapUnstable (x : StrapSamples) : BitVec 18 := (x.a ^^^ x.b) ||| (x.a ^^^ x.c)

/-- STRAP_SAMPLE: RST_STRAPS, and POS of PAIR_STATUS (R12). -/
def State.sampleStraps (s : State) (x : StrapSamples) : State :=
  let u := strapUnstable x
  let s := s.setR F.RST_STRAPS_UNSTABLE.addr ((strapMajority x).setWidth 32)
  let s := s.setF F.PAIR_STATUS_POS (s.getF F.RST_STRAPS_CFG_POS)
  if u = 0#18 then s
  else (s.setF F.RST_STRAPS_UNSTABLE 1).raise Ev.STRAP_UNSTABLE srcSupervisor [u.toNat]

def State.cfgBoot (s : State) : Nat := s.getF F.RST_STRAPS_CFG_BOOT

/-! ### Settings (R446 to R449) -/

def State.setMemory (s : State) (m : SettingsMemory) : State := s.setRst { s.rst with memory := m }
def State.smBytes (s : State) (lo n : Nat) : Bytes :=
  (List.range n).map fun i => Store.get (fun _ => 0) s.rst.memory.bytes (lo + i)
def smWrite (m : Store (BitVec 8)) (a : Nat) : Bytes → Store (BitVec 8)
  | [] => m
  | b :: bs => smWrite (Store.set (fun _ => 0) m a b) (a + 1) bs

/-- Capacity that an address width implies (R450). -/
def widthCapacity (w : Nat) : Nat := if w = 1 then 512 else if w = 2 then 65536 else if w = 3 then 2097152 else 0

def imgMagic : Nat := 0x54535653
def imgFormat (h : Bytes) : Nat := h.u16 4
def imgLen (h : Bytes) : Nat := h.u16 6
def imgSeq (h : Bytes) : Nat := h.u32 8

/-- A header that a probe accepts. -/
def imgHeaderGood (width : Nat) (h : Bytes) : Bool :=
  h.u32 0 == imgMagic && decide (imgLen h ≤ 976) && zeroes h 12 4 && decide (48 + imgLen h ≤ widthCapacity width)

/-- The TAG of 16 header bytes and the items. -/
def settingsTag (head items : Bytes) : Bytes := hmacSha256 settingsKey (head ++ items)

/-- Items of an image in order: ID and value. A last item that its SIZE does not fit is taken as far as it goes. -/
def imgItems : Nat → Bytes → List (Nat × Bytes × Bool)
  | 0, _ => []
  | _, [] => []
  | fuel + 1, id :: rest =>
    let n := Bytes.u8 rest 0
    let v := (rest.drop 1).take n
    (id.toNat, v, !rest.isEmpty && v.length == n) :: imgItems fuel (rest.drop (1 + n))

/-- A contiguous mask of 8 to 30 bits, first octet first. -/
def maskOk (m : Nat) : Bool := (List.range 23).any (fun k => m == 2 ^ 32 - 2 ^ (32 - (8 + k)))

/-- An item whose SIZE and value match Table 18.6; an unknown ID matches. -/
def itemOk (it : Nat × Bytes × Bool) : Bool :=
  let v := it.2.1
  it.2.2 && (match it.1 with
    | 1 => v.length == 2 && decide (v.u16 0 ≤ 4095)
    | 2 => v.length == 12 && maskOk (v.beAt 4 4)
    | 3 => v.length == 1 && decide (v.u8 0 ≤ 1)
    | 4 => v.length == 4 && decide (100 ≤ v.u32 0) && decide (v.u32 0 ≤ 1000000000)
    | 5 => v.length == 2 && (v.u16 0 == 0 || (decide (50 ≤ v.u16 0) && decide (v.u16 0 ≤ 300)))
    | 6 => decide (1 ≤ v.length) && decide (v.length ≤ 32) && v.all (fun b => decide (b.toNat < 128))
    | _ => true)

/-- The default of one setting. -/
def State.defaultItem (s : State) (id : Nat) : State :=
  let a := s.getF F.RST_STRAPS_ADDR
  match id with
  | 1 => (s.setF F.RST_ADDR_ADDR a).setF F.RST_ADDR_FROM_SETTINGS 0
  | 2 => ((s.setF F.RST_SVC_IP_VALUE (169 * 2 ^ 24 + 254 * 2 ^ 16 +
      (16 + 2 * (a / 256) + s.getF F.RST_STRAPS_CFG_POS) * 2 ^ 8 + a % 256)).setF F.RST_SVC_MASK_VALUE 0xFFFF0000).setF
      F.RST_SVC_GW_VALUE 0
  | 3 => s.setRst { s.rst with svcEn := true }
  | 4 => s.setF F.PTP_STEP_LIMIT_NS 1000
  | 5 => s.setF F.PNL_VCOM_CODE 0
  | 6 => s.setRst { s.rst with label := [] }
  | _ => s

/-- One item takes effect, or its setting takes the default. -/
def State.applyItem (s : State) (it : Nat × Bytes × Bool) : State :=
  let v := it.2.1
  if !itemOk it then
    if 1 ≤ it.1 ∧ it.1 ≤ 6 then (s.defaultItem it.1).raise Ev.SETTINGS_ITEM_IGNORED srcSupervisor [it.1] else s
  else match it.1 with
    | 1 => (s.setF F.RST_ADDR_ADDR (v.u16 0)).setF F.RST_ADDR_FROM_SETTINGS 1
    | 2 => ((s.setF F.RST_SVC_IP_VALUE (v.beAt 0 4)).setF F.RST_SVC_MASK_VALUE (v.beAt 4 4)).setF F.RST_SVC_GW_VALUE
        (v.beAt 8 4)
    | 3 => s.setRst { s.rst with svcEn := v.u8 0 == 1 }
    | 4 => s.setF F.PTP_STEP_LIMIT_NS (v.u32 0)
    | 5 => s.setF F.PNL_VCOM_CODE (v.u16 0)
    | 6 => s.setRst { s.rst with label := v }
    | _ => s

/-- Reasons of R448; none: the image is valid. -/
def State.settingsReason (s : State) : Option Nat :=
  let w := s.rst.memory.width
  let h := s.smBytes 0 48
  if w = 0 ∨ 3 < w ∨ !imgHeaderGood w h then some 0
  else if imgFormat h < 1 then some 1
  else if 1 < imgFormat h then some 2
  else if h.drop 16 != settingsTag (h.take 16) (s.smBytes 48 (imgLen h)) then some 3
  else none

/-- SETTINGS_READ. -/
def State.readSettings (s : State) : State :=
  let s := (List.range 6).foldl (fun s k => s.defaultItem (k + 1)) s
  let h := s.smBytes 0 48
  let width := if s.settingsReason = some 0 then 0 else s.rst.memory.width
  let s' := s.setF F.RST_SET_STATUS_WIDTH width
  match s.settingsReason with
  | some r => ((s'.setF F.RST_SET_STATUS_REASON r).setRst { s'.rst with setSeq := 0 }).raise Ev.SETTINGS_DEFAULTS
      srcSupervisor [r]
  | none =>
    let s := (s'.setF F.RST_SET_STATUS_VALID 1).setF F.RST_SET_STATUS_SEQ (imgSeq h % 65536)
    let s := s.setRst { s.rst with setSeq := imgSeq h }
    (imgItems 512 (s.smBytes 48 (imgLen h))).foldl (fun s it => s.applyItem it) s

/-! ### The boot ROM (R414 to R417) -/

/-- An event is noted for the supervisor to raise. -/
def State.note (s : State) (code : Nat) (payload : List Nat) : State :=
  s.setRst { s.rst with notes := s.rst.notes ++ [(code, payload)] }

/-- The trial counter: a failed trial makes the other slot active, a running one is counted. -/
def State.countTrial (s : State) : State :=
  let r := s.fw
  if !r.trial then s
  else if r.trials = 3 then
    let o := 1 - r.active
    let r' := { r with trial := false, trials := 0, active := if r.bootable o && decide (s.counter ≤ r.svn o) then o else r.active }
    let s := (s.writeFw r').note Ev.FW_REVERTED [r.active]
    if s.region 0 = rgTrial then s.setRegion 0 rgIdle else s
  else s.writeFw { r with trials := r.trials + 1 }

/-- A slot passes: it verifies, and each of its components loads with its CRC (R415, R416). -/
def State.slotPasses (s : State) (k : Nat) : Bool :=
  (s.fwSlotCheck k).isNone && (List.range 6).all (fun t => (s.component k (t + 1)).isSome)

/-- A component is loaded: what its engine ran before is gone. -/
def State.loadComponent (s : State) (slot t : Nat) : State :=
  match s.component slot t with
  | some b => s.setRst { s.rst with engines := Store.set (fun _ => []) s.rst.engines t b }
  | none => s

/-- Step 5 of R415: the supervisor component goes into supervisor memory, and starts. What the factory image of a slot
never programmed would write there is open (log 8), so those bytes stay unlisted. -/
def State.startSupervisor (s : State) (slot : Nat) : State :=
  let s := (s.loadComponent slot 1).setF F.SEC_STATUS_BOOT_SLOT slot
  match s.component slot 1 with
  | some b => if s.fwSlotWritten slot then s.wrBytes Mem.supervisor (b.take 0x80000) else s
  | none => s

/-- R416: components 2 to 6 go into their engines. -/
def State.loadEngines (s : State) (slot : Nat) : State :=
  (List.range 5).foldl (fun s k => s.loadComponent slot (k + 2)) s

/-- The slot that boots, if one passes (Table 17.6). -/
def State.bootSlot (s : State) : Option Nat × State :=
  match s.cfgBoot with
  | 1 => (if s.slotPasses 0 then some 0 else none, s)
  | 2 => (if s.slotPasses 1 then some 1 else none, s)
  | _ =>
    let r := s.fw
    let o := 1 - r.active
    if s.slotPasses r.active then (some r.active, s)
    else if r.bootable o then
      let s := s.writeFw { r with active := o, trial := false }
      let s := if s.region 0 = rgTrial then s.setRegion 0 rgIdle else s
      (if s.slotPasses o then some o else none, s)
    else (none, s)

/-- The fuses of the anti-rollback counter are blown up to a value. -/
def State.raiseCounter (s : State) (svn : Nat) : State :=
  let s := s.setSec { s.sec with fuses := max s.sec.fuses (min 64 svn) }
  s.setF F.SEC_STATUS_COUNTER s.counter

/-- FW_CONFIRMED at the first STOP or UNPATTERNED of a trial boot; without a trial the counter is compared (R417). -/
def State.fwConfirm (s : State) (slot : Nat) : State :=
  let r := s.fw
  let svn := s.fwSlotSvn slot
  if r.trial && r.active == slot then
    let s := (s.writeFw { r with trial := false, trials := 0 }).raiseCounter svn
    let o := 1 - slot
    let s := if s.fw.svn o < s.counter then s.writeFw (s.fw.setBootable o false) else s
    let s := s.raise Ev.FW_CONFIRMED srcUpdate [slot, svn, s.counter]
    if s.region 0 = rgTrial then s.setRegion 0 rgIdle else s
  else if r.active = slot then s.raiseCounter svn else s

/-! ### The boot sequence (R445) -/

/-- Every domain that the supervisor votes for in BOOT is on; each is still to report (R389). -/
def State.bootDomains (s : State) : State :=
  let s := s.setPwr { s.pwr with rising := allDomains.filter s.vote }
  s.pwr.rising.foldl (fun s d => (s.setHeld d true).setDomain d true) s

/-- Steps 1 and 2 as far as they come before the choice of a slot: the cause, the straps, the keys. -/
def State.bootFirst (s : State) (straps : StrapSamples) (refOk : Bool) : State :=
  let s := s.setRst { s.rst with held := false, pwrGood := decide (16000 ≤ s.pwr.feedA) || decide (16000 ≤ s.pwr.feedB) }
  let s := (s.setF F.RST_CAUSE_ALL s.rst.causes).setF F.RST_CAUSE_PRIMARY (primaryCause s.rst.causes)
  let s := s.setFeeds s.pwr.feedA s.pwr.feedB
  let s := (if refOk then s else s.referenceLost).sampleStraps straps
  let s := s.bootDomains.showKeys.showFw
  let s := (s.setF F.SEC_SERIAL_LO_SERIAL (lo32 Config.serial.toNat)).setF F.SEC_SERIAL_HI_SERIAL (hi32 Config.serial.toNat)
  let s := (s.setF F.SEC_STATUS_COUNTER s.counter).setF F.SEC_STATUS_DEBUG (if s.sec.ownerSlots.isEmpty then 3 else 0)
  (s.setF F.RST_ADDR_ADDR (s.getF F.RST_STRAPS_ADDR)).showRoles

/-- The regions resume (R426); SHADOW_STATE follows the pattern region (Table 17.7). -/
def State.resumeRegion (s : State) (r : Nat) : State :=
  let s := if s.region r = rgVerifying then s.setRegion r rgReceived else s.postponeRegion r 2
  let s := s.showBlocks r
  if r = 1 then
    let st := s.region 1
    s.setF F.PAT_STATE_SHADOW_STATE (if st = rgReceiving then shWriting else if st = rgReceived then shWritten
      else if st = rgVerified then shVerified else if st = rgFailed then shRefused else shEmpty)
  else s

/-- PATTERN_LOAD_AT_START (R72); with CFG_BOOT = 3 no Pattern is loaded, and the panel shows 0 and 0, the model's choice
(log 15). -/
def State.bootPattern (s : State) : State :=
  if s.cfgBoot = 3 then s.unpattern 0 0
  else if s.roles.set then s.startPattern.2
  else (s.unpattern 0 0).raise Ev.PATTERN_INVALID srcSupervisor [0, 0]

/-- SOURCE of a noted event. -/
def noteSource (code : Nat) : Nat :=
  if code = Ev.FORCE_RELEASED ∨ code = Ev.LOOPBACK_DONE then srcSupervisor else srcUpdate

/-- Steps 5 to 8 with the firmware of a slot. -/
def State.bootSteps (s : State) (slot : Nat) : State :=
  let s := s.fillTokens.bootScan
  let s := s.raise Ev.MODULE_RESET srcSupervisor [s.getF F.RST_CAUSE_PRIMARY, s.getF F.RST_CAUSE_ALL]
  let s := s.timeMark .start 0
  let s := s.rst.notes.foldl (fun s n => s.raise n.1 (noteSource n.1) n.2) s
  let s := s.setRst { s.rst with notes := [] }
  let s := s.setPnl { s.pnl with slot := s.upd.assetsSlot }
  let s := s.verifyAssets.panelPowerUp.panelBoot.retainBoot
  let s := (List.range 3).foldl (fun s r => s.resumeRegion r) s
  let s := s.bootPattern.fwConfirm slot
  s.setRst { s.rst with autoDue := s.station == .stop, autoBarred := false, bootEnd := s.elapsedNs }

/-- Steps 2 to 8: the boot ROM chooses a slot, the supervisor reads the settings and reloads the engines; or the module
stays in BOOT. A slot whose components cannot be loaded is a failed one (R416). -/
def State.bootRest (s : State) : State :=
  match s.countTrial.bootSlot with
  | (some k, s) => ((s.startSupervisor k).readSettings.loadEngines k).bootSteps k
  | (none, s) => s.setF F.SEC_STATUS_BOOT_FAIL 1

/-- The internal reset may be released (R436, R437, R467). Within hold-up it is not, the model's choice (log 125): hold-up
ends in a reset (R460). -/
def State.mayRelease (s : State) : Bool :=
  s.station == .boot && s.rst.held && !s.rst.rstLow && !s.rst.hot && !s.rst.vioOut && !s.rst.holdUp

/-- TAP instructions (Table 20.3). -/
def tapExtest : BitVec 8 := 0x00#8
def tapClamp : BitVec 8 := 0x03#8
def tapHighz : BitVec 8 := 0x04#8
def tapPtest : BitVec 8 := 0x3C#8

/-- RESET_RELEASE: with PTEST loaded the boot ROM goes on at PTEST_ENTRY instead. -/
def execResetRelease (straps : StrapSamples) (refOk : Bool) (s : State) : Result :=
  .next (
    if s.mayRelease then
      let s := s.bootFirst straps refOk
      if s.dgt.ir = tapPtest then s else s.bootRest
    else s)

/-! ### Production test entry (R480) -/

def State.setDgt (s : State) (x : Diagnosis) : State := { s with dgt := x }

/-- The boot ROM stands before the choice of a slot, with PTEST loaded. -/
def State.ptestDue (s : State) : Bool :=
  s.station == .boot && !s.rst.held && s.dgt.ir == tapPtest && !s.isSet F.DGT_STATUS_PTEST && !s.dgt.ptWait &&
    !s.isSet F.SEC_STATUS_BOOT_FAIL

/-- The module is in production test mode. -/
def State.enterPtest (s : State) : State :=
  let s := s.setDgt { s.dgt with ptNonce := none, ptWait := false }
  ((s.setF F.DGT_STATUS_PTEST 1).setF F.SEC_STATUS_DEBUG 2).raise Ev.PTEST_ENTERED srcSupervisor []

/-- PTEST_ENTRY: at once before enrolment, else with a nonce for PT_AUTH. -/
def execPtestEntry (s : State) : Result :=
  .next (
    if !s.ptestDue then s
    else if s.sec.ownerSlots.isEmpty then s.enterPtest
    else
      let (b, s) := s.random 32
      s.setDgt { s.dgt with ptNonce := some b, ptWait := true })

/-- The entry fails: AUTH_FAIL is noted and the boot goes on; the word "Source" of the event is free (log 73). -/
def State.ptestRefused (s : State) : State :=
  let (v, s) := s.fresh
  ((s.setDgt { s.dgt with ptNonce := none, ptWait := false }).note Ev.AUTH_FAIL [lo32 v]).bootRest

/-- PT_AUTH: the owner's signature over the SHA-384 of nonce, serial and 0x03. -/
def execPtAuth (sigR sigS : Bytes) (s : State) : Result :=
  .next (
    if !s.dgt.ptWait then s
    else
      match s.owner, s.dgt.ptNonce with
      | some k, some n =>
        if verifySig k (sha384 (n ++ serialBytes ++ [3#8])) sigR sigS then s.enterPtest else s.ptestRefused
      | _, _ => s.ptestRefused)

/-- PTEST_AUTH_TIMEOUT: the 60 s are over. -/
def execPtestAuthTimeout (s : State) : Result := .next (if s.dgt.ptWait then s.ptestRefused else s)

/-- An image is written into a firmware slot; BOOTABLE follows the check. -/
def State.ptFlash (s : State) (slot : Nat) (image : Bytes) : State :=
  let s := (s.clearRange (Mem.fwSlot slot) 0x2000000).wrBytes (Mem.fwSlot slot) (image.take 0x2000000)
  let s := s.markFwWritten slot
  let ok := (s.fwSlotCheck slot).isNone
  s.writeFw ((s.fw.setBootable slot ok).setSvn slot (if ok then s.fwSlotSvn slot else s.fw.svn slot))

/-- PT_FLASH. -/
def execPtFlash (slot : Nat) (image : Bytes) (s : State) : Result :=
  onUnit (slot < 2) (if s.isSet F.DGT_STATUS_PTEST then s.ptFlash slot image else s)

/-! ### RST_CMD (R449 to R452) -/

/-- CODE of RST_RESULT. -/
def rsState : Nat := 1
def rsBusy : Nat := 2
def rsSize : Nat := 3
def rsItem : Nat := 4
def rsTimeout : Nat := 5
def rsVerify : Nat := 6

def State.rstResult (s : State) (op code : Nat) : State :=
  ((s.setF F.RST_RESULT_LAST_OP op).setF F.RST_RESULT_CODE code).setF F.RST_RESULT_DONE 1

/-- Bytes 0 to n − 1 of RST_SET_DATA. -/
def State.setData (s : State) (n : Nat) : Bytes :=
  ((List.range 244).flatMap (fun k => leBytes 4 (s.getF (F.RST_SET_DATA_DATA k)))).take n

/-- Address width of a write: as probed, or as BYTES implies (R450). -/
def State.writeWidth (s : State) : Nat :=
  let w := s.getF F.RST_SET_STATUS_WIDTH
  let n := s.getF F.RST_SET_SIZE_BYTES
  if w ≠ 0 then w else if n ≤ 512 then 1 else if n ≤ 65536 then 2 else 3

/-- The new image without MAGIC: the header with SEQ + 1, the TAG and the items. -/
def State.newImage (s : State) (items : Bytes) : Bytes :=
  let head := leBytes 4 imgMagic ++ leBytes 2 1 ++ leBytes 2 items.length ++ leBytes 4 (s.rst.setSeq + 1) ++ leBytes 4 0
  (head ++ settingsTag head items ++ items).drop 4

/-- The memory takes bytes; with another address width than its own nothing lands. -/
def State.smStore (s : State) (a : Nat) (bs : Bytes) : State :=
  if s.writeWidth = s.rst.memory.width then
    s.setMemory { s.rst.memory with bytes := smWrite s.rst.memory.bytes a bs }
  else s

/-- A settings write begins: MAGIC is 0, the body is written. -/
def State.settingsStart (s : State) (op : Nat) (items : Bytes) : State :=
  let s := ((s.rstResult op 0).setF F.RST_RESULT_DONE 0).setF F.RST_RESULT_BUSY 1
  let s := (s.smStore 0 (leBytes 4 0)).smStore 4 (s.newImage items)
  s.setRst { s.rst with writing := some (op, items) }

/-- The read-back of step 5, with the width of the write: what another width returns is not the image. -/
def State.readBackOk (s : State) (items : Bytes) : Bool :=
  s.writeWidth == s.rst.memory.width && s.smBytes 0 4 == leBytes 4 imgMagic && s.smBytes 48 items.length == items &&
    s.smBytes 16 32 == settingsTag (s.smBytes 0 16) items

/-- States in which the settings may be written. -/
def State.settingsAllowed (s : State) : Bool := s.halted || s.operating || s.station == .safeHalt

/-- RST_SET_DATA is cleared at the end of every WRITE. -/
def State.clearSetData (s : State) : State := (List.range 244).foldl (fun s k => s.setF (F.RST_SET_DATA_DATA k) 0) s

/-- WRITE (1) with LEN, and BLANK (2). -/
def State.settingsWrite (s : State) (op len : Nat) : State :=
  let items := if op = 1 then s.setData len else []
  if s.isSet F.RST_RESULT_BUSY then s.rstResult op rsBusy
  else if !s.settingsAllowed then s.rstResult op rsState
  else if 976 < len ∨ s.getF F.RST_SET_SIZE_BYTES < 48 + len then s.rstResult op rsSize
  else if !(imgItems 512 items).all itemOk then s.rstResult op rsItem
  else s.settingsStart op items

/-- Bytes of the memory hold what no rule gives: free values. -/
def State.smLost (s : State) (a n : Nat) : State :=
  let (b, s) := s.random n
  s.smStore a b

/-- What the memory holds after polling has exceeded 10 ms at a step: the bytes of that step are open, those of a step
before it are written. -/
def State.settingsTimeout (s : State) (step : SettingsStep) (items : Bytes) : State :=
  match step with
  | .clear => s.smLost 0 4
  | .body => s.smLost 4 (44 + items.length)
  | .commit => s.smLost 0 4

/-- SETTINGS_WRITE_END: the memory has taken every page, or it holds other bytes than were sent, or a page was not ready
within 10 ms, for which only an EEPROM is polled (step 1). -/
def State.settingsEnd (s : State) (outcome : SettingsOutcome) : State :=
  match s.rst.writing with
  | none => s
  | some (op, items) =>
    let t := s.setF F.RST_RESULT_BUSY 0
    let t := t.setRst { t.rst with writing := none }
    let t := if op = 1 then t.clearSetData else t
    match outcome with
    | .timeout step =>
      if s.isSet F.RST_STRAPS_CFG_SETMEM then s else (t.settingsTimeout step items).rstResult op rsTimeout
    | .ok =>
      let seq := (t.rst.setSeq + 1) % 2 ^ 32
      let t := t.smStore 0 (leBytes 4 imgMagic)
      if t.readBackOk items then
        ((t.setRst { t.rst with setSeq := seq }).raise Ev.SETTINGS_WRITTEN srcSupervisor [seq]).rstResult op 0
      else t.rstResult op rsVerify
    | .verifyFailed => (t.smLost 0 (48 + items.length)).rstResult op rsVerify

/-- RESET. -/
def State.softReset (s : State) : State :=
  if s.isSet F.RST_RESULT_BUSY then s.rstResult 3 rsBusy
  else if s.halted || s.station == .safeHalt then s.commitAll.fullReset .software
  else s.rstResult 3 rsState

def execSettingsWrite (req : Requester) (len : Nat) (s : State) : Result := s.command req F.RST_CMD_OP (s.settingsWrite 1 len)
def execSettingsBlank (req : Requester) (s : State) : Result := s.command req F.RST_CMD_OP (s.settingsWrite 2 0)
def execResetCmd (req : Requester) (s : State) : Result := s.command req F.RST_CMD_OP s.softReset
def execSettingsWriteEnd (outcome : SettingsOutcome) (s : State) : Result := .next (s.settingsEnd outcome)

end Sys2Proof.Machine
end

