-- ==== Sys2Proof/Machine/FieldIo.lean ====
section
/-!
DEFINITION. The commands of field channels and current loops: sweep, test pulses, group tests, faults, field supply,
readback (R198 to R225).
-/

namespace Sys2Proof.Machine

/-! ### SWEEP (R198 to R201, R205) -/

/-- Class of an input from its measurement (Table 8.3): V in mV, I in uA. -/
def classifyIn (p : Pattern) (n : Nat) (mv ua : Int) : Nat :=
  let von : Int := if p.ioMode n = 1 then 15000 else 11000
  if p.wireBreak n && ua < 350 then clsBroken
  else if ua ≤ 1500 then clsOpen
  else if 2000 ≤ ua && von ≤ mv then clsClosed
  else clsInvalid

/-- Class of an output's readback (R205). -/
def classifyOut (mv : Int) : Nat := if 11000 ≤ mv then clsHigh else if mv < 5000 then clsLow else clsInvalid

/-- The filter (R200): a class enters the image after FILTER + 1 consecutive sweeps; with no class in the image the
first one enters at once. -/
def DioCh.filter (x : DioCh) (filter cls : Nat) : DioCh :=
  let n := if x.candN ≠ 0 ∧ x.cand = cls then min (x.candN + 1) (filter + 1) else 1
  let enters := x.image.isNone || filter + 1 ≤ n
  { x with cand := cls, candN := n, image := if enters then some cls else x.image }

/-- The signed current field of DIO_CHn_MEAS: units of 25 uA, saturating. -/
def measCurr (ua : Int) : Nat :=
  let u := ua / 25
  unsgn 16 (if u < -32767 then -32767 else if 32767 < u then 32767 else u)

/-- The sweep's result for one channel. -/
def State.sweepCh (s : State) (p : Pattern) (n : Nat) (mv ua : Int) : State :=
  if 48 ≤ n then s else
  let g := groupOf n
  let cut := s.groupCut g || (s.grp g).adcBad
  let cls := if cut then clsCut else if p.isOutput n then classifyOut mv else classifyIn p n mv ua
  let x := s.dio n
  let s := ((s.setF (F.DIO_CH_STATUS_CLASS n) cls).setF (F.DIO_CH_MEAS_VOLT n) (min mv.toNat 65535)).setF
    (F.DIO_CH_MEAS_CURR n) (measCurr ua)
  if p.ioMode n = 0 then s
  else if x.pulse then s.setDio n { x with ua := ua, dark := true }
  else if cut then s.setDio n { x with ua := ua, dark := false, candN := 0, image := none }
  else s.setDio n { x.filter ((p.io n).u8 2) cls with ua := ua, dark := false }

/-- The reference conversions of a group (Table 8.6, ADC_FAULT): off by more than 1 % of 2.500 V. -/
def State.sweepRef (s : State) (p : Pattern) (g : Nat) (r25 r0 : Int) : State :=
  if 6 ≤ g then s else
  let bad := 25 < (r25 - 2500).natAbs || 25 < r0.natAbs
  let x := s.grp g
  let s := s.setGrp g { x with adcBad := bad }
  if bad && !x.adcBad then
    let fs := p.fnsOfGroup g
    let s := s.setF (F.DIO_GRP_STATUS_ADC_FAULT g) 1
    let s := s.raiseCls Ev.GRP_ADC_FAULT (srcFieldOf Ev.GRP_ADC_FAULT g) (if fs.isEmpty then 2 else 1) [g]
    s.faultFns .groupOrAdc fs
  else s

/-- The sweep, from P − 20 us to P − 4 us, needs a powered DIO domain and the IO section of a loaded Pattern. -/
def execSweep (m : SweepMeas) (s : State) : Result :=
  match s.pat.active with
  | none => .next s
  | some p =>
    if !s.domainOn domDio then .next s else
    let s := m.supplies.foldl (fun s x => if x.1 < 2 then s.setF (F.DIO_FS_STATUS_MV x.1) (min x.2 65535) else s) s
    let s := m.groups.foldl (fun s x => if x.1 < 6 then s.setF (F.DIO_GRP_STATUS_CURRENT x.1) (min x.2 65535) else s) s
    let s := m.refs.foldl (fun s x => s.sweepRef p x.1 x.2.1 x.2.2) s
    let s := s.settleField (s.tickNs 0 + s.clock.period - 20000)
    .next ((m.chans.foldl (fun s x => s.sweepCh p x.1 x.2.1 x.2.2) s).settleField (s.tickNs 0 + s.clock.period - 4000))

/-! ### Test pulses (R206 to R209) -/

/-- Outputs that the test cycle pulses when they are on. -/
def Pattern.pulsed (p : Pattern) (n : Nat) : Bool := p.isOutput n && (p.selvedgeOutput n || p.testPulses n)

/-- A pulse begins: the switch opens; an output that is off is skipped. -/
def execTestPulse (n : Nat) (s : State) : Result :=
  onUnit (n < 48) (
    let s := s.settleField s.nowNs
    if s.patIs (fun p => p.pulsed n) then
      if s.isOn n then
        (s.setF (F.DIO_CH_STATUS_DRIVE n) 0).setDio n { s.dio n with pulse := true }
      else s.setF (F.DIO_CH_STATUS_PULSE_SKIPPED n) 1
    else s)

/-- An input whose test source is pulsed is sampled at the same instant (R209). -/
def State.testSource (s : State) (p : Pattern) (src n : Nat) (ua : Int) : State :=
  if n < 48 && p.isInput n && (p.io n).u8 7 = src then
    if 350 ≤ ua then
      let s := (s.setF (F.DIO_CH_STATUS_TEST_SRC_FAIL n) 1).setDio n { s.dio n with srcFail := true }
      let selv := p.selvedgeChannel n
      let s := s.raiseCls Ev.DI_TEST_FAIL (srcField n) (if selv then 1 else 2) [n]
      s.faultFns .testFail (p.fnsOfChannel n)
    else s.setDio n { s.dio n with srcFail := false }
  else s

/-- The test sample, 20 us before the pulse ends: LOW passes, HIGH is TEST_FAIL (R207). A pulse that fails is over with
its sample, neither skipped nor discarded. -/
def execTestSample (n : Nat) (mv ua : Int) (inputUa : List (Nat × Int)) (s : State) : Result :=
  onUnit (n < 48) (
    match s.pat.active with
    | none => s
    | some p =>
      let x := s.dio n
      if x.pulse && x.tail.isNone then
        let cls := classifyOut mv
        let phase := 1000000 + 2000000 * n + 1000 * (p.io n).u16 8 - 20000
        let s := s.setDio n { x with tail := some (s.sampleEnd phase), passed := x.passed || cls == clsLow }
        let s := if cls = clsHigh then
            ((s.setF (F.DIO_CH_STATUS_DRIVE n) 1).setDio n { s.dio n with pulse := false, tail := none }).testFail n ua
          else s
        inputUa.foldl (fun s i => s.testSource p n i.1 i.2) s
      else s)

/-- The end of a test cycle for one output (R208). -/
def State.cycleEndCh (s : State) (p : Pattern) (n : Nat) : State :=
  if p.pulsed n then
    let x := s.dio n
    let missed := x.wholeOn && !x.passed
    let s := if x.missed then s.testFail n x.ua else s
    s.setDio n { s.dio n with missed := missed, passed := false, wholeOn := s.isOn n }
  else s

/-- A test cycle ends (R208, Table 8.12). -/
def execTestCycleEnd (s : State) : Result :=
  match s.pat.active with
  | none => .next s
  | some p =>
    let s := (List.range 48).foldl (fun s n => s.cycleEndCh p n) (s.settleField s.nowNs)
    let s := s.incWrap F.DIO_TP_CYCLES_COUNT
    .next { s with fio := { s.fio with cycle := s.fio.cycle + 1 } }

/-! ### Group tests (R210) -/

/-- The disconnect of a group opens for its test, the switches stay; a pulse that runs is discarded (R208). -/
def State.openForTest (s : State) (g : Nat) : State :=
  let x := s.grp g
  let s := s.setGrp g { x with testing := true, wasClosed := s.discClosed g }
  let s := (List.range 8).foldl (fun s k =>
    let y := s.dio (8 * g + k)
    if y.pulse then
      ((s.setF (F.DIO_CH_STATUS_PULSE_SKIPPED (8 * g + k)) 1).setF (F.DIO_CH_STATUS_DRIVE (8 * g + k)) 1).setDio
        (8 * g + k) { y with pulse := false, passed := y.passed && y.tail.isNone, tail := none }
    else s) s
  s.setDisconnect g false

/-- A group test begins: of a group with a selvedge output in every cycle, of any other once after a restart. -/
def execGroupTest (g : Nat) (s : State) : Result :=
  onUnit (g < 6) (
    let s := s.settleField s.nowNs
    if s.domainOn domDio && !(s.inGroupTest g) && s.patIs (fun p => p.groupSelvedge g || !(s.grp g).tested) then
      s.openForTest g
    else s)

/-- The group bus is sampled, 20 us before the disconnect closes again (R210). -/
def execGroupTestSample (g busMv currentMa : Nat) (s : State) : Result :=
  onUnit (g < 6) (
    match s.pat.active with
    | none => s
    | some p =>
      let x := s.grp g
      if !x.testing then s else
      let pass := busMv < 5000 || currentMa < 5
      let phase := 110000000 + 2000000 * g + 400000 - 20000
      let s := s.setGrp g { x with
        testing := false
        tested := true
        lastPass := some pass
        closeAt := some (if p.groupSelvedge g then s.sampleEnd phase else s.nowNs + 20000) }
      if pass then s else
        let s := s.setF (F.DIO_GRP_STATUS_DISC_FAULT g) 1
        let s := (List.range 8).foldl (fun s k =>
          if p.selvedgeOutput (8 * g + k) then s.latchOff (8 * g + k) .discFault else s) s
        (s.raise Ev.DISC_FAULT (srcFieldOf Ev.DISC_FAULT g) [g]).faultFns .groupOrAdc (p.fnsOfGroup g))

/-! ### Faults of channels and groups (Table 8.6) -/

/-- SHORT_GND: an output that is on is switched off and latched off. -/
def execShortGnd (n : Nat) (s : State) : Result :=
  onUnit (n < 48) (
    if s.patIs (fun p => p.isOutput n) && s.isOn n then
      ((s.setF (F.DIO_CH_STATUS_SHORT_GND n) 1).latchOff n .shortGnd).raise Ev.DO_SHORT_GND (srcField n) [n]
    else s)

/-- GRP_OVERLOAD: all outputs of the group are latched off. -/
def execGrpOverload (g currentMa : Nat) (s : State) : Result :=
  onUnit (g < 6) (
    match s.pat.active with
    | none => s
    | some p =>
      let s := s.setF (F.DIO_GRP_STATUS_OVERLOAD g) 1
      let s := (List.range 8).foldl (fun s k =>
        if p.isOutput (8 * g + k) then s.latchOff (8 * g + k) .overload else s) s
      s.raise Ev.GRP_OVERLOAD (srcFieldOf Ev.GRP_OVERLOAD g) [g, currentMa])

/-! ### Field supply (R215, R216) -/

/-- The supply crosses 19.2 V. While it is cut off, the 100 ms of R216 count above 19.2 V. -/
def execFsLow (k mv : Nat) (s : State) : Result :=
  onUnit (k < 2) (
    let low := mv < 19200
    let was := s.isSet (F.DIO_FS_STATUS_FS_LOW k)
    let s := s.setB (F.DIO_FS_STATUS_FS_LOW k) low
    let s := s.setB (F.DIO_FS_STATUS_RETURN_WAIT k) (!low && s.isSet (F.DIO_FS_STATUS_CUTOFF k))
    if low && !was then s.raise Ev.FS_LOW (srcFieldOf Ev.FS_LOW k) [k] else s)

/-- The hardware switches off every output of the supply's groups. -/
def execFsCutoff (k : Nat) (s : State) : Result :=
  onUnit (k < 2) (
    if s.isSet (F.DIO_FS_STATUS_CUTOFF k) then s else
    let s := ((s.setF (F.DIO_FS_STATUS_CUTOFF k) 1).setF (F.DIO_FS_STATUS_CUT_SEEN k) 1).setF
      (F.DIO_FS_STATUS_RETURN_WAIT k) 0
    let s := [3 * k, 3 * k + 1, 3 * k + 2].foldl State.darkGroup s
    s.raise Ev.FS_CUTOFF (srcFieldOf Ev.FS_CUTOFF k) [k])

/-- The cut-off ends; the items are valid again from the next latch. -/
def execFsReturn (k : Nat) (s : State) : Result :=
  onUnit (k < 2) (
    if s.isSet (F.DIO_FS_STATUS_CUTOFF k) then
      (((s.setF (F.DIO_FS_STATUS_CUTOFF k) 0).setF (F.DIO_FS_STATUS_RETURN_WAIT k) 0).setF
        (F.DIO_FS_STATUS_FS_LOW k) 0).raise Ev.FS_RETURN (srcFieldOf Ev.FS_RETURN k) [k]
    else s)

/-! ### Current-loop outputs (R221 to R225) -/

/-- An output of the IO section that is used, with its domain powered. -/
def State.cloUsed (s : State) (o : Nat) : Bool :=
  s.domainOn domClo && s.patIs (fun p => p.ioMode (cloItem o) == 1 || p.ioMode (cloItem o) == 2)

/-- One readback conversion (R222, R223); none when the path delivers none. -/
def State.cloConv (s : State) (o : Nat) (c : Option (BitVec 32)) : State :=
  if !s.cloUsed o then s else
  let s := s.setClo o { s.cloOut o with conv := c }
  match c with
  | none => (s.setF (F.CLO_CH_STATUS_READBACK_LOST o) 1).raise Ev.CLO_READBACK_LOST (srcClo o) [o]
  | some v =>
    let s := s.setF (F.CLO_CH_READ_VALUE o) v.toNat
    if cloDiffers v.toNat (s.getF (F.CLO_CH_SET_VALUE o)) then s else s.setF (F.CLO_CH_STATUS_COMPLIANCE o) 0

/-- VOLT of an output from its measured terminal voltage: in source mode the adaptive supply, the terminal voltage plus
2.5 V within 8 V to 26 V, in sink mode the terminal voltage (R220, Table 8.18). -/
def State.cloSupply (s : State) (o mv : Nat) : State :=
  if !s.cloUsed o then s
  else if s.patIs (fun p => p.ioMode (cloItem o) == 1) then s.setF (F.CLO_CH_SUPPLY_VOLT o) (min 26000 (max 8000 (mv + 2500)))
  else s.setF (F.CLO_CH_SUPPLY_VOLT o) (min mv 65535)

/-- The readback path converts every output; terminal voltages and stage temperatures come with it. -/
def execCloReadback (conv : List (Option (BitVec 32))) (terminalMv : List Nat) (tempC : List Int) (s : State) : Result :=
  let s := (conv.take 8).zipIdx.foldl (fun s x => s.cloConv x.2 x.1) s
  let s := (terminalMv.take 8).zipIdx.foldl (fun s x => s.cloSupply x.2 x.1) s
  .next ((tempC.take 8).zipIdx.foldl (fun s x => s.setF (F.CLO_CH_SUPPLY_TEMP x.2) (unsgn 8 x.1)) s)

/-- A sink channel has charged its capacitor and regulates (R221). -/
def execCloStarted (o : Nat) (s : State) : Result :=
  onUnit (o < 8) (if s.isSet (F.CLO_CH_STATUS_STARTING o) then s.setF (F.CLO_CH_STATUS_STARTING o) 0 else s)

/-- COMPLIANCE is set (R223). -/
def State.cloCompliance (s : State) (o : Nat) : State :=
  if s.isSet (F.CLO_CH_STATUS_COMPLIANCE o) then s else
    ((s.setF (F.CLO_CH_STATUS_COMPLIANCE o) 1).setF (F.CLO_CH_STATUS_COMPLIANCE_SEEN o) 1).raise Ev.CLO_COMPLIANCE
      (srcClo o) [o, s.getF (F.CLO_CH_SET_VALUE o), s.getF (F.CLO_CH_READ_VALUE o)]

def execCompliance (o : Nat) (s : State) : Result := onUnit (o < 8) (if s.cloUsed o then s.cloCompliance o else s)

/-- A fold-back that has lasted 5 ms sets COMPLIANCE (R224). -/
def State.foldBack (s : State) (o : Nat) : State :=
  match (s.cloOut o).foldAt with
  | some t => if t + 5000000 ≤ s.nowNs then (s.setClo o { s.cloOut o with foldAt := none }).cloCompliance o else s
  | none => s

/-- Fold-back begins at 150 °C and ends below 140 °C (R224). -/
def execThermal (o : Nat) (tempC : Int) (s : State) : Result :=
  onUnit (o < 8) (
    if !s.cloUsed o then s else
    let s := s.setF (F.CLO_CH_SUPPLY_TEMP o) (unsgn 8 tempC)
    let was := s.isSet (F.CLO_CH_STATUS_THERMAL o)
    if 150 ≤ tempC && !was then
      (((s.setClo o { s.cloOut o with foldAt := some s.nowNs }).setF (F.CLO_CH_STATUS_THERMAL o) 1).setF
        (F.CLO_CH_STATUS_THERMAL_SEEN o) 1).raise Ev.CLO_THERMAL (srcClo o) [o]
    else if tempC < 140 then
      let s := s.foldBack o
      (s.setClo o { s.cloOut o with foldAt := none }).setF (F.CLO_CH_STATUS_THERMAL o) 0
    else s.foldBack o)

/-- No valid transfer for 1 ms: the isolated side applies the off value (R225). -/
def execLinkLost (o : Nat) (s : State) : Result :=
  onUnit (o < 8) (
    if !s.cloUsed o then s else
    let s := (s.setF (F.CLO_CH_STATUS_LINK_OK o) 0).setF (F.CLO_CH_STATUS_LINK_LOST o) 1
    let s := (s.setClo o { s.cloOut o with lost := true }).cloOff o
    s.raise Ev.CLO_LINK_LOST (srcClo o) [o])

end Sys2Proof.Machine
end

