-- ==== Sys2Proof/Machine/Diagnosis.lean ====
section
/-!
DEFINITION. Loopback tests, scheduled self-tests, ECC fault injection and the TAP (R470 to R479).
-/

namespace Sys2Proof.Machine

/-! ### Loopback tests (R470 to R475) -/

/-- CODE of DGT_LB_STATUS. -/
def lbState : Nat := 1
def lbBusy : Nat := 2
def lbDepth : Nat := 3
def lbTarget : Nat := 4
def lbSupply : Nat := 5

/-- Deepest depth of a target (Table 20.1). -/
def lbDepths (target : Nat) : Nat := if 8 ≤ target ∧ target < 11 then 3 else 2

/-- The target is configured in STOP, with its domain on (R470); a panel is present and IDLE (R475). -/
def State.lbReady (s : State) (target depth : Nat) : Bool :=
  if target = 19 then s.hasPanel && s.pnlState == pnlIdle && (s.station != .stop || s.domainOn domPanel)
  else if s.station ≠ .stop then !(target == 18 && depth == 2)
  else
    s.domainOn (lbDomain target) &&
      (if target < 8 then s.patIs (fun p => (p.canItem target).isSome)
       else if target < 10 then s.patIs (fun p => (p.portItem (target - 8)).isSome)
       else if target = 10 then s.rst.svcEn
       else if target = 11 then s.paired
       else if target < 18 then s.patIs (fun p => (List.range 8).any (fun k => p.ioMode (8 * (target - 12) + k) != 0))
       else s.patIs (fun p => (List.range 8).any (fun o => p.ioMode (cloItem o) != 0)))

/-- Why a START is refused; 0 when it is accepted. -/
def State.lbRefusal (s : State) (target depth count : Nat) : Nat :=
  if !(s.station == .stop || s.station == .unpatterned || s.isSet F.DGT_STATUS_PTEST) then lbState
  else if s.dgt.lb.isSome then lbBusy
  else if count = 0 then lbDepth
  else if 20 ≤ target then lbTarget
  else if depth = 0 ∨ lbDepths target < depth then lbDepth
  else if target < 8 && depth == 2 && s.paired then lbState
  else if !(s.lbReady target depth) then lbTarget
  else if 12 ≤ target && target < 18 && depth == 2 && s.isSet (F.DIO_FS_STATUS_FS_LOW (supplyOf (target - 12))) then lbSupply
  else 0

/-- A test starts: LOOP takes DEPTH, the counts begin anew. -/
def State.lbBegin (s : State) (target depth count : Nat) : State :=
  let s := match lbLoopField target with
    | some f => s.setF f depth
    | none => s
  let s := ((s.setF F.DGT_LB_STATUS_STATE 1).setF F.DGT_LB_STATUS_CODE 0).setF F.DGT_LB_STATUS_FIRST_BAD 0xFFFF
  let s := (s.setR F.DGT_LB_COUNT_SENT.addr 0).setR F.DGT_LB_ERR_BAD.addr 0
  s.setDgt { s.dgt with lb := some ⟨target, depth, count⟩ }

/-- OP = START; the operands have the widths of DGT_LB_CMD. -/
def State.lbStart (s : State) (target depth count : Nat) : State :=
  let c := s.lbRefusal (target % 32) (depth % 4) (count % 65536)
  if c = 0 then s.lbBegin (target % 32) (depth % 4) (count % 65536) else s.setF F.DGT_LB_STATUS_CODE c

/-- LOOPBACK_START. -/
def execLoopbackStart (req : Requester) (target depth count : Nat) (s : State) : Result :=
  s.command req F.DGT_LB_CMD_OP (s.lbStart target depth count)

/-- LOOPBACK_STOP: the running test is aborted. -/
def execLoopbackStop (req : Requester) (s : State) : Result := s.command req F.DGT_LB_CMD_OP (s.lbEnd 6)

/-! ### Test items (R474, Table 20.1) -/

/-- Payload of a test frame: the PRBS of Table 6.10 from 0x7FFF, advanced once per byte; a byte is the low eight bits of
its state, and every frame starts anew, the model's choice (log 130). -/
def lbPayload : Nat → Nat → Bytes
  | 0, _ => []
  | n + 1, s => BitVec.ofNat 8 s :: lbPayload n ((s * 2 + (s / 2 ^ 14 + s / 2 ^ 13) % 2) % 2 ^ 15)
def lbData (n : Nat) : Bytes := lbPayload n 0x7FFF

/-- The frame or packet that a test of a target sends as item k: the frame record of a CAN FD frame, an Ethernet frame of
1,518 bytes without its FCS, the header, payload and PCRC of a Nymil packet. -/
def State.lbItem (s : State) (target k : Nat) : Bytes :=
  if target < 8 then
    let id := s.getF F.DGT_LB_ID_ID
    let ide := if bitOf id 29 then 1 else 0
    if canFdEn (s.canCfg target) then mkRecord (id % 2 ^ 29) (12 + ide) 15 0 0 (lbData 64)
    else mkRecord (id % 2 ^ 29) ide 8 0 0 (lbData 8)
  else if target < 11 then ownMac (target - 8) ++ ownMac (target - 8) ++ beBytes 2 0x88B6 ++ lbData 1500
  else
    let x := nymilPacket 2 0 k 0 (lbData 256)
    nymilHead x ++ x.payload ++ leBytes 4 x.pcrc.toNat

/-- Digital channels of a group that a test of depth 2 drives in turn: outputs and unused channels, not inputs. -/
def State.lbChannels (s : State) (g : Nat) : List Nat :=
  ((List.range 8).map (8 * g + ·)).filter (fun n => !(s.patIs (fun p => p.isInput n)))

/-- Current-loop outputs of a test: at depth 2 those of MODE 1 or 2, at depth 1 without a Pattern all. -/
def State.lbOutputs (s : State) (depth : Nat) : List Nat :=
  (List.range 8).filter (fun o => if depth = 2 ∨ s.pat.active.isSome then s.patIs (fun p => p.ioMode (cloItem o) != 0)
    else true)

/-- Unit that item k of a test drives: a digital channel, an output with its step in mA, a panel pin or rail. The items
take each unit in turn, an output's steps one after the other: the model's choice (log 130). -/
def State.lbUnit (s : State) (t : LoopTest) (k : Nat) : Option (Nat × Nat) :=
  let pick (l : List Nat) (i : Nat) : Option Nat := if l.isEmpty then none else l[i % l.length]?
  if t.target < 18 then
    if t.depth = 1 then some (t.target - 12, 0) else (pick (s.lbChannels (t.target - 12)) k).map (fun n => (n, 0))
  else if t.target = 18 then (pick (s.lbOutputs t.depth) (k / 3)).map (fun o => (o, [4, 12, 20].getD (k % 3) 4))
  else some (if t.depth = 1 then k % 23 else k % 5, 0)

/-- Nominal voltage and tolerance of a rail in mV (Table 15.4). -/
def State.railMv (s : State) (r : PanelRail) : Int × Int :=
  match r with
  | .vpos => (15000, 300)
  | .vneg => (-15000, 300)
  | .vgh => (22000, 660)
  | .vgl => (-20000, 600)
  | .vcom => (s.vcomMv s.assets, 10)

/-- Does a measured item pass (Table 20.1)? DIO depth 1: the 2.5 V and 0 V references and the bus in mV; 1 % is of
2.500 V. DIO depth 2: class and switch current in uA while on, class 2 ms after off. Current loop: readback in uA. Panel
depth 1: pad level when driven 1 and 0; depth 2: the rail in mV when on and after the discharge. -/
def State.lbMeasured (s : State) (t : LoopTest) (k : Nat) (v : List Int) : Bool :=
  match s.lbUnit t k with
  | none => false
  | some u =>
    let near (x y d : Int) : Bool := decide ((x - y).natAbs ≤ d.natAbs)
    let at_ (i : Nat) : Int := v.getD i 0
    if t.target < 18 then
      if t.depth = 1 then v.length == 3 && near (at_ 0) 2500 25 && near (at_ 1) 0 25 && decide (at_ 2 < 5000)
      else v.length == 3 && at_ 0 == (clsHigh : Int) && decide (at_ 1 ≤ 1200000) && at_ 2 == (clsLow : Int)
    else if t.target = 18 then v.length == 1 && near (at_ 0) (1000 * u.2) (if t.depth = 1 then 50 else 120)
    else if t.depth = 1 then v == [1, 0]
    else
      let m := s.railMv (powerOnOrder.getD u.1 .vcom)
      v.length == 2 && near (at_ 0) m.1 m.2 && decide ((at_ 1).natAbs < 1000)

/-- How an item counts. -/
inductive LbVerdict where
  | good | bad | lost
  deriving DecidableEq, Repr

/-- The judgement of item k by what came back: identical and without error, or within the limits, is GOOD. -/
def State.lbVerdict (s : State) (t : LoopTest) (k : Nat) (o : LbOutcome) : LbVerdict :=
  match o with
  | .lost => .lost
  | .frame b err => if t.target < 12 && b == s.lbItem t.target k && !err then .good else .bad
  | .measured v => if 12 ≤ t.target && s.lbMeasured t k v then .good else .bad

/-- What the step of a measured item drives: a digital channel on for its 2 ms and off again. -/
def State.lbDrive (s : State) (t : LoopTest) (k : Nat) : State :=
  if 12 ≤ t.target ∧ t.target < 18 ∧ t.depth = 2 then
    match s.lbUnit t k with
    | some u => (s.switch u.1 true).switch u.1 false
    | none => s
  else s

/-- The item that was sent is judged. -/
def State.lbJudge (s : State) (o : LbVerdict) : State :=
  let k := s.getF F.DGT_LB_COUNT_SENT
  let s := s.setF F.DGT_LB_COUNT_SENT (k + 1)
  let bad (s : State) : State :=
    if s.getF F.DGT_LB_STATUS_FIRST_BAD = 0xFFFF then s.setF F.DGT_LB_STATUS_FIRST_BAD k else s
  match o with
  | .good => s.incSat F.DGT_LB_COUNT_GOOD
  | .bad => bad (s.incSat F.DGT_LB_ERR_BAD)
  | .lost => bad (s.incSat F.DGT_LB_ERR_LOST)

/-- LOOPBACK_ITEM: one item has been sent and judged; after COUNT items the test ends. -/
def execLoopbackItem (outcome : LbOutcome) (s : State) : Result :=
  .next (match s.dgt.lb with
    | none => s
    | some t =>
      let k := s.getF F.DGT_LB_COUNT_SENT
      let v := s.lbVerdict t k outcome
      let s := (s.lbDrive t k).lbJudge v
      if t.count ≤ s.getF F.DGT_LB_COUNT_SENT then s.lbEnd 0 else s)

/-! ### Self-test entries (R476, R477) -/

/-- Test number of a SELFTEST object (Table 2.4). -/
def testOf (object : Nat) : Nat := bitsOf object 7 0

/-- A test passed or failed. -/
def State.selftestResult (s : State) (agent test : Nat) (pass : Bool) : State :=
  if pass then s.incWrap F.DGT_ST_PASS
  else (s.incSat F.DGT_ST_FAIL).raise Ev.SELFTEST_FAIL srcSupervisor [agent, test]

/-- Does the turn of test 0x31 rest on group g: no selvedge output, and its previous test has reported? -/
def State.groupFree (s : State) (g : Nat) : Bool :=
  !(s.patIs (fun p => p.groupSelvedge g)) && !(s.dgt.reports.contains g) && !(s.inGroupTest g)

/-- Test 0x31 starts the disconnect test of the next group in turn (R210). -/
def State.startGroupTest (s : State) : State :=
  match ((List.range 6).map (fun k => (s.dgt.group + 1 + k) % 6)).find? s.groupFree with
  | none => s
  | some g =>
    (s.setDgt { s.dgt with group := g, reports := s.dgt.reports ++ [g] }).openForTest g

/-- The content of a test: what it leaves behind, and its result if it has one at the end of its entry. -/
def State.runSelftest (s : State) (agent test : Nat) (pass : Bool) : State :=
  if test = 0x31 then s.startGroupTest
  else
    let s := if test = 0x02 then
        let next := (Store.get (fun _ => 0) s.dgt.stripe agent + 1) % 512
        s.setDgt { s.dgt with stripe := Store.set (fun _ => 0) s.dgt.stripe agent next }
      else s
    s.selftestResult agent test pass

/-- The engine of an agent is at work: on an entry, or the solver on a solve. -/
def State.engineBusy (s : State) (a : Nat) : Bool := (s.agent a).running.isSome || (a == 16 && s.qps.run.isSome)

/-- A SELFTEST entry from its START tick; `pass` is the outcome of its test. -/
def State.selftestEntry (s : State) (a k : Nat) (pass : Bool) (r : Running) : State :=
  let s := s.atTick r.entry.start
  if s.engineBusy a then (s.countOverrun a 2 r).passEntry a k
  else if !s.entryMayRun then s.passEntry a k
  else (s.runSelftest a (testOf r.entry.object) pass).passEntry a k

/-- SELFTEST: entry k of an agent's table. -/
def execSelftest (agent entry : Nat) (pass : Bool) (s : State) : Result :=
  onUnit (agent < 29) (
    match s.scheduled agent entry with
    | some r => if r.entry.kind = .selftest then s.selftestEntry agent entry pass r else s
    | none => s)

/-- Results of test 0x31: the first boundary after a group's sample counts them (R476). -/
def State.groupReports (s : State) : State :=
  let done := s.dgt.reports.filter (fun g => !(s.grp g).testing)
  let s := s.setDgt { s.dgt with reports := s.dgt.reports.filter (fun g => (s.grp g).testing) }
  done.foldl (fun s g => s.selftestResult ioAgent 0x31 ((s.grp g).lastPass == some true)) s

/-! ### ECC fault injection (R478) -/

/-- Model address of word i of an array (Table 4.14). -/
def eccAddr (array i : Nat) : Nat :=
  (if array < 8 then Mem.iram array
   else if array < 16 then Mem.dram (array - 8)
   else if array < 32 then Mem.shared + (array - 16) * 0x100000
   else if array < 40 then Mem.solver (array - 32)
   else match array with
     | 40 => Mem.bobbin
     | 41 => Mem.panelStore
     | 42 => Mem.loopStore 0
     | 43 => Mem.supervisor
     | 44 => Mem.monitor
     | _ => Mem.timebase) + 8 * i

/-- The inverted data bits of a word. -/
def EccMark.bits : EccMark → Nat
  | .clean => 0
  | .correctable b => b
  | .uncorrectable b => b

/-- The mark of a word whose data bits are inverted so: one or two are corrected, three are detected (R101). -/
def flipMark (bits : Nat) : EccMark :=
  if 8 ≤ bits ∨ bits = 7 then .uncorrectable bits else if bits = 0 then .clean else .correctable bits

/-- Data bits of a word are inverted where a read would show it: in an uncorrectable word. -/
def State.flipData (s : State) (a bits : Nat) : State :=
  if bits = 7 then s.wrByte a (s.rdByte a ^^^ 7#8) else s

/-- One word takes its error. -/
def State.injectWord (s : State) (array i mask : Nat) (fold : Bool) : State :=
  let old := s.mark array i
  let new := if fold then .uncorrectable 8 else flipMark (old.bits ^^^ mask)
  let a := eccAddr array i
  ((s.flipData a old.bits).flipData a new.bits).setMark array i new

/-- ARM of DGT_ECC_INJ. -/
def State.eccInjectNow (s : State) : State :=
  let array := s.getF F.DGT_ECC_INJ_ARRAY
  let i := s.getF F.DGT_ECC_IDX_INDEX
  let n := s.getF F.DGT_ECC_INJ_COUNT
  let fold := s.isSet F.DGT_ECC_INJ_FOLD
  if (s.station == .stop || s.isSet F.DGT_STATUS_PTEST) && array != 44 && decide (i < eccWords array) && (fold || n != 0) then
    (s.injectWord array i (2 ^ n - 1) fold).raise Ev.ECC_INJECTED srcSupervisor [array, i, if fold then 4 else n]
  else s.setF F.DGT_ECC_INJ_REFUSED 1

def execEccInject (req : Requester) (s : State) : Result := s.command req F.DGT_ECC_INJ_ARM s.eccInjectNow

/-! ### TAP (R479, R480) -/

/-- The listed instructions (Table 20.3). -/
def tapListed (c : BitVec 8) : Bool :=
  [0x00#8, 0x01#8, 0x02#8, 0x03#8, 0x04#8, 0x3C#8, 0x3D#8, 0x3E#8].contains c

/-- The boundary-scan instructions (R479). -/
def tapScan (c : BitVec 8) : Bool := [0x00#8, 0x01#8, 0x03#8, 0x04#8].contains c

/-- Before enrolment, or with debug access of SCOPE 2 or in production test mode, every instruction is available; else
BYPASS and IDCODE, with SCOPE 1 those of the boundary scan, and those of the production test entry where R480 uses them:
PTEST while RST_N is low, PT_AUTH while the boot ROM waits for it. -/
def State.tapAvailable (s : State) (c : BitVec 8) : Bool :=
  s.sec.ownerSlots.isEmpty || s.getF F.SEC_STATUS_DEBUG == 2 || c == 0x02#8 || (s.unlocked && tapScan c) ||
    (c == tapPtest && s.rst.rstLow) || (c == 0x3D#8 && s.dgt.ptWait)

/-- The IDCODE: version 0x1, part number 0x5737, manufacturer 0x265, and the bit 1 of IEEE 1149.1. -/
def tapIdcode : BitVec 32 := 0x1#4 ++ 0x5737#16 ++ 0x265#11 ++ 1#1

/-- What the data register of the instruction captures, as far as the spec gives it: BYPASS a 0, IDCODE its number, PTEST
the nonce (R480). Of the boundary register the spec gives the signals, of which `J1Out` names the outputs, not their
order. -/
def State.tapData (s : State) : Option Bytes :=
  if s.dgt.ir = 0xFF#8 then some [0#8]
  else if s.dgt.ir = 0x02#8 then some (leBytes 4 tapIdcode.toNat)
  else if s.dgt.ir = tapPtest then s.dgt.ptNonce
  else none

/-- A scan instruction is loaded. Field outputs, current-loop outputs and panel rails have no boundary cell: they go off,
and stay off (R479). An update that runs ends as at a feed loss, the model's choice (log 131). -/
def State.enterScan (s : State) (c : BitVec 8) : State :=
  let s := s.setF F.DGT_STATUS_SCAN 1
  if s.alive then
    let s := (List.range 6).foldl (fun s g => s.openGroupDark g) s
    let s := (List.range 8).foldl (fun s o => s.cloOff o) s
    let s := match s.pnl.run with
      | some j => (s.setPanelWord (panelWordOf 2 s.panelDisp j)).panelInterrupted
      | none => s.discharge
    s.updateModOk.raise Ev.SCAN_MODE srcSupervisor [c.toNat]
  else s.updateModOk

/-- TAP_INSTRUCTION. -/
def execTapInstruction (code : BitVec 8) (s : State) : Result :=
  .next (
    let c := if tapListed code && s.tapAvailable code then code else 0xFF#8
    let old := s.dgt.ir
    if s.station = .off ∨ c = old then s
    else
      let t := s.setDgt { s.dgt with ir := c }
      if scanCode old then t.fullReset .debug
      else if scanCode c then t.enterScan c
      else t)

end Sys2Proof.Machine
end

