-- ==== Sys2Proof/Machine/OutApply.lean ====
section
/-!
DEFINITION. The output apply point: applied logic bytes, digital outputs of tasks, of the selvedge and of a standby,
interlock and latch edges, current-loop set values, data sets and Terpaene messages (R25, R204, R213, R214, R218, R219,
R236 to R238, R261, R271).
-/

namespace Sys2Proof.Machine

/-! ### Logic bytes (R236, R239) -/

/-- Run A's output area of a segment waits for its apply point. -/
def State.segmentValid (s : State) (seg : Nat) : Bool := Store.get (fun _ => false) s.sched.selvValid seg

/-- The areas that wait are applied: what was applied is kept, since a later run writes the area before its own
comparison (R108). -/
def State.selvApply (s : State) (p : Pattern) : State :=
  (p.segments.filter s.segmentValid).foldl (fun s seg =>
    let r := p.runRecord seg false
    { s with sched := { s.sched with
      selvArea := Store.set (fun _ => []) s.sched.selvArea seg (s.rdBytes (Mem.shared + runOutOff r) (runOutLen r)) } }) s

/-- The logic byte that the apply point takes for a function: the force that covers it (R130), else what the segment
wrote, if its comparison agreed. -/
def State.logicByte (s : State) (p : Pattern) (f : Nat) : Option Nat × State :=
  let it := p.fn f
  let off := runOutOff (p.runRecord (fnLseg it) false) + fnLogicOff it
  match s.forcedByte off with
  | some b => (some b.toNat, s)
  | none =>
    if s.segmentValid (fnLseg it) then (some (s.rdByte (Mem.shared + off)).toNat, s.engRead (Mem.shared + off) 1)
    else (none, s)

/-- The logic byte of a function is applied; a TRIP function leaves NORMAL where it is not 0. -/
def State.applyLogic (s : State) (p : Pattern) (f : Nat) : State :=
  if fnLseg (p.fn f) = 0xFFFF then s
  else
    let s := match s.logicByte p f with
      | (some v, s) => { s with saf := { s.saf with
          logic := Store.set (fun _ => 0) s.saf.logic f v
          logicZero := Store.set (fun _ => false) s.saf.logicZero f (v == 0) } }
      | (none, s) => s
    if s.logicOf f = 0 then s else s.tripFn f 0xFF

/-! ### Commands (R204, R108, R130, R214) -/

/-- The command that a channel's writer gives at this apply point; none while it has not published. -/
def State.outCommand (s : State) (p : Pattern) (n : Nat) : Option Bool :=
  let off := p.ioOutOff n
  let w := p.ioWriter n
  if w < 32 then (s.outputBytes p w off 1).map (· != [0#8])
  else if w = 0xFD then some true
  else if w = 0xFE then
    match s.forcedByte off with
    | some b => some (b != 0#8)
    | none =>
      if s.segmentValid ((p.io n).u16 20) || s.passive then some (s.rdByte (Mem.shared + off) != 0#8)
      else some (s.isSet (F.DIO_CH_STATUS_CMD n))
  else none

/-- The word that the apply point reads for a channel's command (R102). -/
def State.outCommandRead (s : State) (p : Pattern) (n : Nat) : State :=
  let w := p.ioWriter n
  if w < 32 then s.outputRead p w (p.ioOutOff n) 1
  else if w = 0xFE && (s.segmentValid ((p.io n).u16 20) || s.passive) then s.engRead (Mem.shared + p.ioOutOff n) 1
  else s

/-- Conditions of R204 that hold any output off; a group test leaves the switches as they are, and a group without a
selvedge output is tested after a restart before its outputs are applied (R210). -/
def State.stageReady (s : State) (n : Nat) : Bool :=
  let g := groupOf n
  s.operating && s.domainOn domDio && !(s.groupCut g) &&
    (s.patIs (fun p => p.groupSelvedge g) || (s.grp g).tested) &&
    (s.discClosed g || (s.inGroupTest g && (s.grp g).wasClosed))

/-- Rules 2 to 4 of R237 for a selvedge output; the demand of rule 4 is evaluated by the role that owns the outputs. -/
def State.selvedgeReady (s : State) (p : Pattern) (n : Nat) : Bool :=
  match p.fnOfOutput n with
  | none => true
  | some f => s.isSet F.SAF_STATUS_CHECK_CONFIRMED && s.fnState f == 0 &&
      (s.passive || !(fnInterlock (p.fn f) && s.fnInDemand f))

/-- The partner's heartbeat for this stitch reports output n driven, at the apply point of the stitch before; none
without a heartbeat (R214, R329). -/
def State.partnerDrives (s : State) (n : Nat) : Option Bool := s.pair.drivenNow.map (fun v => v.getLsbD n)

/-- What the role lets through: a standby only PAIRED outputs under R214, other passive roles none. -/
def State.roleCommand (s : State) (p : Pattern) (n : Nat) (cmd : Bool) : Bool :=
  if !s.passive then cmd
  else if s.roleIs .standby && p.pairedOut n then
    if p.selvedgeOutput n then cmd && s.partnerDrives n == some true
    else if (s.partnerDrives n).isNone then s.isOn n
    else cmd
  else false

/-- An INTERLOCK output held off by rule 4 of R237 waits for a command edge (R238). -/
def State.interlockWait (s : State) (p : Pattern) (n : Nat) (cmd : Bool) : EdgeWait :=
  match p.fnOfOutput n with
  | none => .none
  | some f =>
    if fnInterlock (p.fn f) && !s.passive && s.fnInDemand f then (if cmd then .needOff else .needOn)
    else (s.dio n).interlock.take cmd

/-- A latched-off output whose command edge has come is released (R213). -/
def State.takeEdge (s : State) (p : Pattern) (n : Nat) (pub : Option Bool) : State :=
  match pub with
  | none => s
  | some c =>
    let x := s.dio n
    let s := if x.wait != .none && x.wait.take c == .none then s.unlatch n
      else s.setDio n { x with wait := x.wait.take c }
    s.setDio n { s.dio n with interlock := s.interlockWait p n c }

/-- One digital output at an apply point. -/
def State.applyOutput (s : State) (p : Pattern) (n : Nat) : State :=
  let pub := s.outCommand p n
  let s := ((s.outCommandRead p n).takeEdge p n pub).setB (F.DIO_CH_STATUS_CMD n) (pub.getD false)
  let x := s.dio n
  let on := s.roleCommand p n (pub.getD false) && s.stageReady n && s.selvedgeReady p n && x.wait == .none &&
    x.interlock == .none && !(s.isSet (F.DIO_CH_STATUS_LATCHED n))
  s.switch n on

/-! ### Current-loop outputs (R218, R219, R225) -/

/-- The transfer of this stitch: after a loss it restores the set value. -/
def State.cloRefresh (s : State) (p : Pattern) (o : Nat) : State :=
  let x := s.cloOut o
  if x.lost && x.written then (s.cloTransfer o).cloApply p o x.want.toNat else s.cloTransfer o

/-- One current-loop output at an apply point: held off, or written by its task. -/
def State.applyClo (s : State) (p : Pattern) (o : Nat) : State :=
  let k := cloItem o
  if p.ioMode k = 0 then s
  else if s.cloHeld || p.ioWriter k = 0xFF then s.cloOff o
  else
    let s := s.cloRefresh p o
    if p.ioWriter k < 32 then
      let s := s.outputRead p (p.ioWriter k) (p.ioOutOff k) 4
      match s.outputBytes p (p.ioWriter k) (p.ioOutOff k) 4 with
      | some b => s.cloSet p o (Bytes.le b)
      | none => s.cloOff o
    else s

/-! ### The apply point -/

/-- Everything that takes effect at the output apply point; afterwards no run A output area compared before it waits any
more, and what was published after it is published (R26, R108). -/
def State.applyPoint (s : State) (p : Pattern) : State :=
  let s := s.selvApply p
  let s := if s.passive then s else p.functions.foldl (fun s f => s.applyLogic p f) s
  let s := ((List.range 48).filter p.isOutput).foldl (fun s n => s.applyOutput p n) s
  let s := (List.range 8).foldl (fun s o => s.applyClo p o) s
  let s := { s with pair := { s.pair with outApplied := s.closedNow } }
  let s := (s.sendSets p).tpProduceAll p
  ({ s with sched := { s.sched with selvValid := [] }, tasks := { s.tasks with late := [] } }).selvNext

/-- OUT_APPLY: the apply entry of this stitch at its tick; without DEGRADED_CLK_RUN it does not execute on the RC
oscillator (R52). -/
def execOutApply (s : State) : Result :=
  .next (match s.nextIoEntry .outApply, s.pat.active with
    | some r, some p =>
      let s := s.atTick r.entry.start
      let s := s.settleField s.nowNs
      (if s.entryMayRun then s.applyPoint p else s).passEntry ioAgent r.index
    | _, _ => s)

end Sys2Proof.Machine
end

