-- ==== Sys2Proof/Machine/Overrun.lean ====
section
/-!
DEFINITION. The budget monitor's overruns with their actions (R49 to R52), and the ECC scrubbers (R103 to R105).
-/

namespace Sys2Proof.Machine

/-! ### Overruns -/

/-- An overrun of the entry that an agent executes; on a core past its budget that came first (R49). A CAN slot's frame
that has not started is withdrawn, and counts its overrun as it is. -/
def State.overrunRunning (s : State) (a cause : Nat) (r : Running) : State :=
  if 17 ≤ a ∧ a < 25 then
    (s.canSlotOver (a - 17) r).finishEntry a r.index
  else if a < 8 then
    let cause := if overBudget r (s.core a).cyc then 0 else cause
    (s.countOverrun a cause r).abortCore a r (s.isSet F.SCH_STATUS_DEGRADED_CLK) (overrunCycle cause r.entry)
  else (s.countOverrun a cause r).finishEntry a r.index

/-- The next entry of an agent's table, not begun. -/
def State.nextEntry (s : State) (a : Nat) : Option Running := s.scheduled a (s.agent a).done

/-- An overrun of an entry whose whole work is one command: a loop group is left uncomputed, a retain commit abandoned
before the bank switch, a self-test counts as not completed. -/
def State.overrunNext (s : State) (a cause : Nat) (r : Running) : State :=
  match r.entry.kind with
  | .loopGrp =>
    match s.pat.active with
    | some p =>
      if s.entryMayRun && !s.passive then
        let s := s.countOverrun a cause r
        (if cause = 2 then s.grpNotComputed p (s.grpDue p r.entry.object) else s.grpCut p r.entry).passEntry a r.index
      else s
    | none => s
  | .retainCommit => if s.entryMayRun then (s.countOverrun a cause r).abandonCommit r else s
  | .selftest => if s.entryMayRun then (s.countOverrun a cause r).passEntry a r.index else s
  | _ => s

/-- An overrun that the budget monitor declares on an agent. -/
def State.overrun (s : State) (a cause : Nat) : State :=
  match (s.agent a).running with
  | some r => s.overrunRunning a cause r
  | none =>
    match s.nextEntry a with
    | some r => s.overrunNext a cause r
    | none => s

/-- BUDGET_EXCEEDED: CAUSE 0, of an entry that has a budget: agents 0 to 16 (Table 2.4); of a stitch code entry when
its cycles have passed the budget (R49). -/
def execBudgetExceeded (agent : Nat) (s : State) : Result :=
  onUnit (agent < 29) (
    if agent < 8 && ((s.agent agent).running.any (fun r => !(overBudget r (s.core agent).cyc))) then s
    else if agent ≤ 15 ∨ (agent = 16 ∧ (s.agent 16).running.isNone) then s.overrun agent 0 else s)

/-- END_TICK_OVERRUN: CAUSE 1, at the END tick of the entry. -/
def execEndTickOverrun (agent : Nat) (s : State) : Result :=
  onUnit (agent < 29) (
    let s := match (s.agent agent).running with
      | some r => s.atTick r.entry.finish
      | none => s
    if agent = 16 ∧ (s.agent 16).running.isSome then s else s.overrun agent 1)

/-! ### Scrubbers -/

/-- The scrubber reads word i: a correctable word is written back, an uncorrectable one is reported. What
the scrubber itself repairs is neither counted nor raised, the model's choice (log 116). -/
def State.scrubWord (s : State) (array i : Nat) : State :=
  match s.mark array i with
  | .clean => s
  | .correctable _ => s.setMark array i .clean
  | .uncorrectable _ => s.eccUncorrectable array i 0

/-- The next word of an array's sweep; after the last one the sweep is complete and reported. -/
def State.sweepWord (s : State) (array : Nat) : State :=
  let i := Store.get (fun _ => 0) s.ecc.sweep array
  let s := s.scrubWord array i
  let next := if eccWords array ≤ i + 1 then 0 else i + 1
  let s := { s with ecc := { s.ecc with sweep := Store.set (fun _ => 0) s.ecc.sweep array next } }
  if next = 0 then s.incWrap (F.APC_ECC_ARRAY_SWEEPS array) else s

/-- The scrubbers run while the module runs outside WATCH (R394). -/
def State.scrubbing (s : State) : Bool := s.station != .off && !s.rst.held && s.station != .watch

/-- SCRUB_STEP: the repair queue comes before the sweep. -/
def execScrubStep (array : Nat) (s : State) : Result :=
  onUnit (array < 46) (
    if !s.scrubbing then s else
    match Store.get (fun _ => []) s.ecc.repair array with
    | i :: rest =>
      { s with ecc := { s.ecc with repair := Store.set (fun _ => []) s.ecc.repair array rest } }.scrubWord array i
    | [] => s.sweepWord array)

/-- SCRUB_LATE: no complete sweep within 1 s; class A is module-wide (R251). -/
def execScrubLate (array : Nat) (s : State) : Result :=
  onUnit (array < 46) (
    if !s.scrubbing then s
    else if s.eccClassA array then (s.raiseCls Ev.SCRUB_LATE srcMonitor 1 [array]).moduleWide .scrubLate
    else s.raiseCls Ev.SCRUB_LATE srcMonitor 2 [array])

end Sys2Proof.Machine
end

