-- ==== Sys2Proof/Machine/Boundary.lean ====
section
/-!
DEFINITION. The stitch boundary with everything that comes about at it: time and counters, modes and roles, the input
image with its triggers, readback checks, safety functions, disconnects, steps, the slot tables, domains (R24, R34 to
R48, R114 to R121, R205, R211, R212, R236, R243, R249, R253).
-/

namespace Sys2Proof.Machine

/-! ### Before the edge: triggers of ship time (R320, R430) -/

/-- Due triggers in order of their compare times, then of their numbers. -/
def State.dueTriggers (s : State) : List Nat :=
  ((List.range 4).filter s.trigDue).foldl (fun l k =>
    l.takeWhile (fun j => s.trigTime j ≤ s.trigTime k) ++ k :: l.dropWhile (fun j => s.trigTime j ≤ s.trigTime k)) []

/-- They fire; an activation may reset the module. -/
def State.fireTriggers (s : State) : State :=
  s.dueTriggers.foldl (fun s k => if s.alive && s.trigDue k then s.trigger k else s) s

/-! ### The edge: time, N, seam position, stitch counter (R34 to R36) -/

def State.seamLength (s : State) : Nat := (s.pat.active.map (·.seamLen)).getD 1

/-- The first advance after which N is greater than the reference N. -/
def State.edgeTime (s : State) : State :=
  let c := s.clock.advance (s.clock.advancesTo ((s.clock.refN + 1) * s.clock.period) 1)
  let n := if c.period = 0 then 0 else c.now.toNat / 2 ^ 32 / c.period
  let s := { s with clock := { c with
    refN := n
    edge := BitVec.ofNat 64 (n * c.period)
    shift := 0
    stitch := if c.counting then c.stitch + 1 else 0
    counting := true } }
  s.setF F.SCH_STATUS_SEAM_POS (if s.seamLength = 0 then 0 else n % s.seamLength)

/-! ### The end of the stitch: overruns and heartbeats (R49, R249) -/

/-- Agents that still execute an entry have overrun. -/
def State.endStitch (s : State) : State :=
  (List.range 29).foldl (fun s a => if (s.agent a).running.isSome then s.overrun a 1 else s) s

/-- One agent's heartbeat for the stitch just ended. -/
def State.checkHeartbeat (s : State) (a : Nat) : State :=
  let expected := s.clock.stitch.setWidth 16
  let due := s.patIs (fun p => (p.tableAt a s.seamPos).isSome)
  if due && ((s.agent a).heartbeat.map (·.1)) != some expected then
    let v := s.getF F.SAF_HB_FAIL_AGENT
    let s := s.setF F.SAF_HB_FAIL_AGENT (if bitOf v a then v else v + 2 ^ a)
    (s.raise Ev.HEARTBEAT_FAIL srcMonitor [a, expected.toNat]).moduleWide .heartbeat
  else s

/-- HEARTBEAT_CHECK: while the slot tables run. -/
def State.checkHeartbeats (s : State) : State :=
  if s.isSet F.SCH_STATUS_RUNNING then (List.range 17).foldl State.checkHeartbeat s else s

/-! ### The input image (R24, R114 to R116, R201, R222) -/

/-- The number of a trigger source (Table 5.3). -/
def trigCode (code index : Nat) : Nat := code * 4096 + index

/-- A fault class enters the image of a digital channel. -/
def State.classSeen (s : State) (n cls : Nat) : State :=
  if cls = clsBroken then (s.setF (F.DIO_CH_STATUS_BROKEN_SEEN n) 1).raise Ev.DI_BROKEN (srcField n) [n]
  else if cls = clsInvalid then (s.setF (F.DIO_CH_STATUS_INVALID_SEEN n) 1).raise Ev.DI_INVALID (srcField n) [n]
  else s

/-- A digital channel's item; during a test pulse, and after a sweep that lay in one, it keeps value and quality (R207),
unless it is forced (R130). The measured voltage in a FIXED or SAFE substitute is a free value (log 76). Answers the
trigger that its edge posts. DESIGN CHOICES: an edge that no capture has seen, as of a force or a substitute, has
argument 0 (log 118); the first latch after a load posts no edge (log 119). -/
def State.latchDio (s : State) (p : Pattern) (n : Nat) : List (Nat × Nat) × State :=
  let x := s.dio n
  if p.ioMode n = 0 || ((x.dark || x.pulse) && (s.forcedAt (p.ioImgOff n)).isNone) then ([], s)
  else
    let cls := s.itemClass n
    let valid := s.itemValid n
    let was := s.imageState p n
    let s := if x.latched != some cls then s.classSeen n cls else s
    let s := s.setDio n { s.dio n with latched := some cls }
    let (free, s) := if valid then (0, s) else s.fresh
    let v := dioValue cls (s.getF (F.DIO_CH_MEAS_VOLT n))
    let s := s.latchItem (p.ioImgOff n) (if valid then some v else none) false (p.dioSubst n free)
    let now := s.imageState p n
    if p.isInput n && x.latched.isSome && now != was then
      let arg := match captureChannel n with
        | some c => ((Store.get (fun _ => none) s.ptp.edges (2 * c + if now then 1 else 0)).map (·.toNat)).getD 0
        | none => s.clock.stitch.toNat
      ([(trigCode (if now then 1 else 2) n, arg)], s)
    else ([], s)

/-- The readback item of a current-loop output. -/
def State.latchClo (s : State) (p : Pattern) (o : Nat) : State :=
  let it := p.io (cloItem o)
  if it.u8 0 = 0 then s
  else
    let val := if s.isSet (F.CLO_CH_STATUS_STARTING o) then none else (s.cloOut o).conv.map (fun v => leBytes 4 v.toNat)
    s.latchItem (p.ioImgOff (cloItem o)) val false ⟨it.u8 3, it.u16 4, it.slice 24 4, it.slice 24 4⟩

/-- Collects what a list of items latches: each answers whether it posts its trigger. -/
def State.latchEach {α : Type} (s : State) (l : List α) (code : α → Nat) (f : State → α → Bool × State) :
    List (Nat × Nat) × State :=
  l.foldl (fun (r : List (Nat × Nat) × State) x =>
    let q := f r.2 x
    (if q.1 then r.1 ++ [(code x, r.2.clock.stitch.toNat)] else r.1, q.2)) ([], s)

/-- Insertion of a trigger in ascending order of code and index. -/
def insertTrig (t : Nat × Nat) : List (Nat × Nat) → List (Nat × Nat)
  | [] => [t]
  | x :: xs => if x.1 ≤ t.1 then x :: insertTrig t xs else t :: x :: xs

/-- INPUT_LATCH: every item of the image, then the triggers of the latch in order (R120). -/
def State.latchImage (s : State) (p : Pattern) : State :=
  let d := (List.range 48).foldl (fun (r : List (Nat × Nat) × State) n =>
    let q := r.2.latchDio p n
    (r.1 ++ q.1, q.2)) ([], s)
  let s := (List.range 8).foldl (fun s o => s.latchClo p o) d.2
  let sets := (p.plainSets ++ p.pairedSets).filter (fun it => !(setSend it))
  let a := s.latchEach sets (fun it => trigCode 3 (setNo it)) (fun s it => s.latchSet p it)
  let boxes := (List.range 8).flatMap (fun n => ((p.mailboxes n).filter mbImage).map (fun it => (n, it)))
  let b := a.2.latchEach boxes (fun x => trigCode 4 (64 * x.1 + mbNo x.2)) (fun s x => s.latchMailbox p x.1 x.2)
  let c := b.2.latchEach (p.tpItems.filter (fun it => !(tpProducer it))) (fun it => trigCode 5 (tpConn it))
    (fun s it => s.latchConsumer p it)
  let s := (p.tpItems.filter tpProducer).foldl (fun s it => s.latchProducer it) c.2
  let all := (d.1 ++ a.1 ++ b.1 ++ c.1).foldl (fun l t => insertTrig t l) []
  all.foldl (fun s t => s.postTriggerAt t.1 t.2 0) s

/-! ### Readback checks (R205, R211, R212) -/

/-- Current limit of a switch in uA (Table 8.5). -/
def limitUa : Int := 1200000

/-- NO_DRIVE at the second latch. -/
def State.noDrive (s : State) (n : Nat) : State :=
  ((s.setF (F.DIO_CH_STATUS_NO_DRIVE n) 1).latchOff n .noDrive).raise Ev.DO_NO_DRIVE (srcField n) [n]

/-- DRIVEN_EXTERNALLY: reported at the second latch, a cause at every latch that shows it. -/
def State.drivenExt (s : State) (p : Pattern) (n count : Nat) : State :=
  let s := if count = 2 then
      (s.setF (F.DIO_CH_STATUS_DRIVEN_EXT n) 1).raiseCls Ev.DO_DRIVEN_EXT (srcField n)
        (if p.selvedgeOutput n then 1 else 2) [n]
    else s
  s.faultFns .drivenExt (p.fnsOfChannel n)

def State.openLoad (s : State) (n : Nat) : State :=
  (s.setF (F.DIO_CH_STATUS_OPEN_LOAD n) 1).raise Ev.DO_OPEN_LOAD (srcField n) [n]

/-- An output's readback at a latch, by the class of the last sweep before filtering (R205, Table 8.13), but for the first one after a command change, in a pulse, in a group test, or
while its group is cut off. -/
def State.checkOutput (s : State) (p : Pattern) (n : Nat) : State :=
  let x := s.dio n
  let g := groupOf n
  let cls := s.getF (F.DIO_CH_STATUS_CLASS n)
  if x.changed then s.setDio n { x with changed := false, low := 0, high := 0, openN := 0 }
  else if x.dark || x.pulse || s.inGroupTest g || x.latched == none || cls == clsCut then s
  else
    let on := s.isOn n
    let expected := on || (p.pairedOut n && (s.pair.partnerDriven.map (·.getLsbD n)) == some true)
    let step (b : Bool) (k : Nat) : Nat := if b then min 3 (k + 1) else 0
    let low := step (on && cls == clsLow && decide (x.ua < limitUa)) x.low
    let high := step (!expected && cls == clsHigh) x.high
    let opn := step (on && p.openLoadEn n && decide (x.ua < 2000)) x.openN
    let s := s.setDio n { x with low := low, high := high, openN := opn }
    let s := if low = 2 then s.noDrive n else s
    let s := if 2 ≤ high then s.drivenExt p n high else s
    if opn = 2 then s.openLoad n else s

def State.checkOutputs (s : State) (p : Pattern) : State :=
  ((List.range 48).filter p.isOutput).foldl (fun s n => s.checkOutput p n) s

/-! ### Safety (R250, R253, R254) -/

/-- Every function of the active Pattern is in FAULT with a cause. -/
def State.faultAll (s : State) (c : FnCause) : State := s.faultFns c (s.patFns (·.functions))

/-- The reference oscillator's failure reaches the functions at the next boundary. -/
def State.refLostStep (s : State) : State :=
  if s.saf.refLost then ({ s with saf := { s.saf with refLost := false } }.faultAll .refClock).edgeAllDue else s

/-- SAFE_HALT_ENTERED: the boundary after a module-wide cause. -/
def State.safeHaltStep (s : State) : State :=
  match s.saf.haltCause with
  | some k =>
    if s.haltable then
      let s := ((s.leaveOperation .safeHalt).faultAll .safeHalt).edgeAllDue
      ((s.setF F.SAF_STATUS_HALT 1).setF F.SAF_STATUS_CAUSE k).raise Ev.SAFE_HALT_ENTERED srcMonitor [k]
    else s
  | none => s

/-! ### The slot tables (R47) -/

/-- Every agent begins its table anew; an agent of 0 to 16 with an empty table posts its heartbeat at once. -/
def State.beginTables (s : State) : State :=
  let s := (List.range 29).foldl (fun s a => s.setAgent a Agent.idle) s
  if s.isSet F.SCH_STATUS_RUNNING then
    (List.range 17).foldl (fun s a =>
      if s.patIs (fun p => (p.tableAt a s.seamPos).isSome) && s.tableSize a == 0 then s.postHeartbeat a else s) s
  else s

/-- A start command that waits for seam position 0. -/
def State.startStep (s : State) : State :=
  match s.sched.startRequest with
  | some dst =>
    if s.seamPos = 0 ∧ s.station = .stop then
      let s := (s.setF F.SCH_STATUS_RUNNING 1).setF F.SCH_STATUS_WAIT_SEAM 0
      let s := { s with sched := { s.sched with startRequest := none } }.setStation dst
      let s := if dst = .run then s.clearLoops else s
      (s.startEnd s.sched.op 0).updateModOk
    else s
  | none => s

/-- Stop, leave TACKING for RUN, enter TACKING from RUN (Table 5.5). -/
def State.stopStep (s : State) : State :=
  match s.sched.stopRequest with
  | none => s
  | some dst =>
    let s := { s with sched := { s.sched with stopRequest := none } }
    if !s.operating then s
    else if dst = .stop then s.leaveOperation .stop
    else
      let s := if s.station = .tacking ∧ dst = .run then ((s.endInjection 1).closeWindow).clearLoops else s
      ((s.setStation dst).startEnd s.sched.op 0).updateModOk

/-! ### The boundary -/

/-- Conditions of the loop engine are sampled at t = 0 (Table 6.19). -/
def State.sampleConds (s : State) : State :=
  { s with lpe := { s.lpe with
    cond := (List.range 8).foldl (fun m k => Store.set (fun _ => 0xFFFFFFFF#32) m k (s.getR (F.LPE_COND_RUN k).addr)) [] } }

/-- A new stitch: causes and signatures of the last one are gone, what was published or compared late counts. -/
def State.newStitch (s : State) : State :=
  ({ s with
    saf := { s.saf with stitchCause := [] }
    wsig := []
    sched := { s.sched with selvFailed := [] }
    tasks := { s.tasks with late := [] }
    evr := { s.evr with
      sinceMark := s.evr.sinceMark + 1
      staged := s.evr.staged.map (fun (e : Staged) => { e with late := true }) } }).selvNext

/-- The edge itself: the old stitch ends, a load that waits for the cores takes place, a committed generation takes
over, modes and roles change, the monitor reacts. -/
def State.boundaryEdge (s : State) : State :=
  let s := s.endStitch.checkHeartbeats.finishPrepare
  let s := s.edgeTime.newStitch.refillTokens.olcSwitch
  let s := (List.range 8).foldl (fun s n => s.canModeBoundary n) s
  let s := match s.pat.active with
    | some p => s.pairBoundary p
    | none => s.pairCount.ownStep
  (s.refLostStep.safeHaltStep).stepDisconnects

/-- The latch and what is evaluated on the latched image; the function layer only in the role that owns the outputs
(R323). What it raises reaches the recorder in one cycle (R355). -/
def State.boundaryLatch (s : State) : State :=
  match s.pat.active with
  | none => s
  | some p =>
    let n := s.evr.staged.length
    let s := ((s.settleField s.clock.edge.toNat).latchImage p).checkOutputs p
    let s := (List.range 8).foldl State.foldBack s
    (if s.passive then s else s.evalFunctions p).orderRaises n

/-- STITCH_BOUNDARY. -/
def State.boundary (s : State) : State :=
  let s := s.fireTriggers
  if !s.alive || s.station = .watch then s
  else
    let s := s.boundaryEdge.boundaryLatch
    let s := s.applyStep.applyRebase
    let s := s.watchStopStep.stopStep.startStep.dischargeStep
    let s := s.sampleConds.groupReports.announceStep.domainStep
    s.drainBuffers.beginTables

/-- STITCH_BOUNDARY: boundaries are generated while the module runs and its timebase is not frozen (R397). -/
def execStitchBoundary (s : State) : Result := .next (if s.alive && s.station != .watch then s.boundary else s)

end Sys2Proof.Machine
end

