-- ==== Sys2Proof/Machine/Carrier.lean ====
section
/-!
DEFINITION. The mailbox of the carrier management port and the temperatures (R465, R467).
-/

namespace Sys2Proof.Machine

/-! ### Mailbox (R465) -/

/-- A write to the mailbox that R465 refuses: a write to an RO field. -/
def State.mailRefused (s : State) (req : Requester) : State := s.accErr req [.refusedRo]

/-- The module side of the mailbox: the supervisor, or application code, which a grant lets through. -/
def moduleSide : Requester → Bool
  | .supervisor => true
  | .application _ => true
  | .engService => false
  | .cmp => false

/-- IN_POST: of the port. -/
def State.inPost (s : State) (req : Requester) (len : Nat) : State :=
  if req ≠ .cmp ∨ s.isSet F.GLB_CMP_STATUS_IN_FULL = true ∨ len = 0 ∨ 64 < len then s.mailRefused req
  else (s.setF F.GLB_CMP_STATUS_IN_FULL 1).setF F.GLB_CMP_STATUS_IN_LEN len

/-- IN_TAKE: of the module side; refused when the POST that it meets arrives in the same cycle. -/
def State.inTake (s : State) (req : Requester) (postSameCycle : Bool) : State :=
  if moduleSide req = false ∨ postSameCycle = true then s.mailRefused req else s.setF F.GLB_CMP_STATUS_IN_FULL 0

/-- OUT_POST: of the module side. -/
def State.outPost (s : State) (req : Requester) (len : Nat) : State :=
  if moduleSide req = false ∨ s.isSet F.GLB_CMP_STATUS_OUT_FULL = true ∨ len = 0 ∨ 64 < len then s.mailRefused req
  else (s.setF F.GLB_CMP_STATUS_OUT_FULL 1).setF F.GLB_CMP_STATUS_OUT_LEN len

/-- OUT_TAKE: of the port. -/
def State.outTake (s : State) (req : Requester) (postSameCycle : Bool) : State :=
  if req ≠ .cmp ∨ postSameCycle = true then s.mailRefused req else s.setF F.GLB_CMP_STATUS_OUT_FULL 0

def execInPost (req : Requester) (len : BitVec 7) (s : State) : Result := .next (s.writing req F.GLB_CMP_CMD_OP (s.inPost req len.toNat))
def execInTake (req : Requester) (postSameCycle : Bool) (s : State) : Result :=
  .next (s.writing req F.GLB_CMP_CMD_OP (s.inTake req postSameCycle))
def execOutPost (req : Requester) (len : BitVec 7) (s : State) : Result := .next (s.writing req F.GLB_CMP_CMD_OP (s.outPost req len.toNat))
def execOutTake (req : Requester) (postSameCycle : Bool) (s : State) : Result :=
  .next (s.writing req F.GLB_CMP_CMD_OP (s.outTake req postSameCycle))

/-! ### Temperatures (R467) -/

/-- GLB_TEMP takes the base plate in units of 0.25 °C and the hottest junction in °C. -/
def State.setTemp (s : State) (base die : Int) : State :=
  (s.setF F.GLB_TEMP_BASE (unsgn 16 base)).setF F.GLB_TEMP_DIE (unsgn 8 die)

/-- TEMP_HIGH: the base plate has reached the threshold, 85.0 °C ± 1.0 °C. -/
def execTempHigh (baseQuarterC dieC : Int) (s : State) : Result :=
  .next (
    if !s.alive || baseQuarterC < 336 then s
    else
      let s := (s.setTemp baseQuarterC dieC).setF F.GLB_TEMP_HIGH 1
      if s.tmp.highArmed then
        { s with tmp := { s.tmp with highArmed := false } }.raise Ev.TEMP_HIGH srcSupervisor [unsgn 16 baseQuarterC]
      else s)

/-- TEMP_LIMIT: the base plate has reached the threshold, 95.0 °C ± 1.0 °C. -/
def execTempLimit (baseQuarterC dieC : Int) (s : State) : Result :=
  .next (
    if !s.alive || baseQuarterC < 376 then s
    else
      let s := (s.setTemp baseQuarterC dieC).setF F.GLB_TEMP_LIMIT 1
      if s.tmp.limitArmed then
        { s with tmp := { s.tmp with limitArmed := false } }.raise Ev.TEMP_LIMIT srcSupervisor [unsgn 16 baseQuarterC]
      else s)

/-- TEMP_BELOW_THRESHOLD: HIGH and LIMIT show what the base plate is below; 3 K below a threshold its event may be
raised again. -/
def execTempBelowThreshold (baseQuarterC dieC : Int) (s : State) : Result :=
  .next (
    if !s.alive then s
    else
      let s := s.setTemp baseQuarterC dieC
      let s := if baseQuarterC < 340 then s.setF F.GLB_TEMP_HIGH 0 else s
      let s := if baseQuarterC < 380 then s.setF F.GLB_TEMP_LIMIT 0 else s
      { s with tmp := ⟨s.tmp.highArmed || decide (baseQuarterC ≤ 328), s.tmp.limitArmed || decide (baseQuarterC ≤ 368)⟩ })

end Sys2Proof.Machine
end

