-- ==== Sys2Proof/Machine/CoreArith.lean ====
section
/-!
DEFINITION. Integer instructions (R86, Table 4.5, R89) and special registers (R81).
-/

namespace Sys2Proof.Machine

/-! ### Integer operations (R89) -/

/-- Shift by the whole unsigned amount (R89): at the width every bit is shifted out, and a larger amount does no more.
-/
def shiftVal (kind : ShiftKind) (w32 : Bool) (a : BitVec 64) (n : Nat) : BitVec 64 :=
  let n := min n (if w32 then 32 else 64)
  if w32 then
    match kind with
    | .shl => sx32 (low32 a <<< n)
    | .shr => sx32 (low32 a >>> n)
    | .sar => sx32 ((low32 a).sshiftRight n)
  else
    match kind with
    | .shl => a <<< n
    | .shr => a >>> n
    | .sar => a.sshiftRight n

/-- A two-operand operation in its 64-bit or .32 form. -/
def wide (w32 : Bool) (f32 : BitVec 32 → BitVec 32 → BitVec 32) (f64 : BitVec 64 → BitVec 64 → BitVec 64)
    (a b : BitVec 64) : BitVec 64 :=
  if w32 then sx32 (f32 (low32 a) (low32 b)) else f64 a b

/-- Quotient rounded toward zero and remainder with the sign of the dividend, n bits (R89): a divisor of 0 gives 0 and
the dividend; the most negative value by minus one gives the most positive value and 0. -/
def divQ {n : Nat} (signed : Bool) (a b : BitVec n) : BitVec n :=
  if b = 0#n then 0#n
  else if signed then (if a = BitVec.intMin n ∧ b = BitVec.allOnes n then BitVec.intMax n else a.sdiv b)
  else a / b

def divR {n : Nat} (signed : Bool) (a b : BitVec n) : BitVec n :=
  if b = 0#n then a
  else if signed then (if a = BitVec.intMin n ∧ b = BitVec.allOnes n then 0#n else a.srem b)
  else a % b

/-- 0 or 1. -/
def flag64 (b : Bool) : BitVec 64 := if b then 1 else 0

/-- High 64 bits of the product (MULHS, MULHU). -/
def mulHigh (signed : Bool) (a b : BitVec 64) : BitVec 64 :=
  if signed then BitVec.ofInt 64 (a.toInt * b.toInt / 2 ^ 64) else BitVec.ofNat 64 (a.toNat * b.toNat / 2 ^ 64)

/-- d := a op b. -/
def State.alu (s : State) (c cost : Nat) (f : BitVec 64 → BitVec 64 → BitVec 64) (d a b : GReg) : State :=
  s.coreReg c cost (fun x => x.wr d (f (x.rd a) (x.rd b)))

/-- d := a op constant. -/
def State.aluK (s : State) (c : Nat) (f : BitVec 64 → BitVec 64) (d a : GReg) : State :=
  s.coreReg c costAlu (fun x => x.wr d (f (x.rd a)))

/-- Division and remainder with their flags. -/
def State.divide (s : State) (c : Nat) (signed w32 rem : Bool) (d a b : GReg) : State :=
  s.coreReg c costDiv (fun x =>
    let p := x.rd a
    let q := x.rd b
    let v := if rem then wide w32 (divR signed) (divR signed) p q else wide w32 (divQ signed) (divQ signed) p q
    (x.wr d v).orFst (divFlags signed w32 p q))

def execAdd (c : Nat) (w32 : Bool) (d a b : GReg) (s : State) : Result :=
  onCore c (s.alu c costAlu (wide w32 (· + ·) (· + ·)) d a b)
def execSub (c : Nat) (w32 : Bool) (d a b : GReg) (s : State) : Result :=
  onCore c (s.alu c costAlu (wide w32 (· - ·) (· - ·)) d a b)
def execAnd (c : Nat) (d a b : GReg) (s : State) : Result := onCore c (s.alu c costAlu (· &&& ·) d a b)
def execIor (c : Nat) (d a b : GReg) (s : State) : Result := onCore c (s.alu c costAlu (· ||| ·) d a b)
def execXor (c : Nat) (d a b : GReg) (s : State) : Result := onCore c (s.alu c costAlu (· ^^^ ·) d a b)
def execShl (c : Nat) (w32 : Bool) (d a b : GReg) (s : State) : Result :=
  onCore c (s.alu c costAlu (fun p q => shiftVal .shl w32 p q.toNat) d a b)
def execShr (c : Nat) (w32 : Bool) (d a b : GReg) (s : State) : Result :=
  onCore c (s.alu c costAlu (fun p q => shiftVal .shr w32 p q.toNat) d a b)
def execSar (c : Nat) (w32 : Bool) (d a b : GReg) (s : State) : Result :=
  onCore c (s.alu c costAlu (fun p q => shiftVal .sar w32 p q.toNat) d a b)
def execCmplt (c : Nat) (d a b : GReg) (s : State) : Result :=
  onCore c (s.alu c costAlu (fun p q => flag64 (p.slt q)) d a b)
def execCmpltu (c : Nat) (d a b : GReg) (s : State) : Result :=
  onCore c (s.alu c costAlu (fun p q => flag64 (p.ult q)) d a b)
def execCmpeq (c : Nat) (d a b : GReg) (s : State) : Result :=
  onCore c (s.alu c costAlu (fun p q => flag64 (p == q)) d a b)
def execMin (c : Nat) (d a b : GReg) (s : State) : Result :=
  onCore c (s.alu c costAlu (fun p q => if q.slt p then q else p) d a b)
def execMax (c : Nat) (d a b : GReg) (s : State) : Result :=
  onCore c (s.alu c costAlu (fun p q => if p.slt q then q else p) d a b)

def execMul (c : Nat) (w32 : Bool) (d a b : GReg) (s : State) : Result :=
  onCore c (s.alu c costMul (wide w32 (· * ·) (· * ·)) d a b)
def execMulhs (c : Nat) (d a b : GReg) (s : State) : Result := onCore c (s.alu c costMul (mulHigh true) d a b)
def execMulhu (c : Nat) (d a b : GReg) (s : State) : Result := onCore c (s.alu c costMul (mulHigh false) d a b)

def execDivs (c : Nat) (w32 : Bool) (d a b : GReg) (s : State) : Result := onCore c (s.divide c true w32 false d a b)
def execDivu (c : Nat) (w32 : Bool) (d a b : GReg) (s : State) : Result := onCore c (s.divide c false w32 false d a b)
def execMods (c : Nat) (w32 : Bool) (d a b : GReg) (s : State) : Result := onCore c (s.divide c true w32 true d a b)
def execModu (c : Nat) (w32 : Bool) (d a b : GReg) (s : State) : Result := onCore c (s.divide c false w32 true d a b)

/-! ### Immediates -/

def execAddk (c : Nat) (d a : GReg) (k : BitVec 14) (s : State) : Result :=
  onCore c (s.aluK c (fun p => p + sext64 k) d a)
def execAndk (c : Nat) (d a : GReg) (k : BitVec 14) (s : State) : Result :=
  onCore c (s.aluK c (fun p => p &&& zext64 k) d a)
def execIork (c : Nat) (d a : GReg) (k : BitVec 14) (s : State) : Result :=
  onCore c (s.aluK c (fun p => p ||| zext64 k) d a)
def execXork (c : Nat) (d a : GReg) (k : BitVec 14) (s : State) : Result :=
  onCore c (s.aluK c (fun p => p ^^^ zext64 k) d a)
def execCmpltk (c : Nat) (d a : GReg) (k : BitVec 14) (s : State) : Result :=
  onCore c (s.aluK c (fun p => flag64 (p.slt (sext64 k))) d a)
def execShk (c : Nat) (kind : ShiftKind) (w32 : Bool) (d a : GReg) (amount : BitVec 6) (s : State) : Result :=
  onCore c (s.aluK c (fun p => shiftVal kind w32 p amount.toNat) d a)
def execLih (c : Nat) (d : GReg) (k : BitVec 19) (s : State) : Result :=
  onCore c (s.coreReg c costAlu (fun x => x.wr d (sext64 k <<< 13)))

/-! ### Special registers (R81) -/

def execGets (c : Nat) (d : GReg) (k : BitVec 14) (s : State) : Result :=
  onCore c (s.coreRun c costAlu (fun x s =>
    match s.special c x k.toNat with
    | none => .exc s .illegal 0
    | some v => .ok (s.setCore c (x.wr d v)) (x.pc + 4)))

def execPuts (c : Nat) (a : GReg) (k : BitVec 14) (s : State) : Result :=
  onCore c (s.coreRun c costAlu (fun x s =>
    match x.putSpecial k.toNat (x.rd a) with
    | none => .exc s .illegal 0
    | some y => .ok (s.setCore c y) (x.pc + 4)))

end Sys2Proof.Machine
end

