-- ==== Sys2Proof/Machine/CoreFloat.lean ====
section
/-!
DEFINITION. Floating-point instructions (R86, R90): binary32 operands are bits 31:0, binary32 results have bits 63:32
zero; conditions set their flags in FST and never trap.
-/

namespace Sys2Proof.Machine

/-- Format of the .64 or .32 form, and the operand it reads. -/
def fmtOf (f64b : Bool) : FFmt := if f64b then f64 else f32
def fpIn (f64b : Bool) (v : BitVec 64) : Nat := if f64b then v.toNat else v.toNat % 2 ^ 32
def costFp (f64b : Bool) : Nat := if f64b then costF64 else costF32

/-- d := result with its flags. -/
def Core.fpOut (x : Core) (d : GReg) (r : Nat × Nat) : Core := (x.wr d (BitVec.ofNat 64 r.1)).orFst r.2

def State.fp2 (s : State) (c cost : Nat) (f64b : Bool) (f : FFmt → Nat → Nat → Nat × Nat) (d a b : GReg) : State :=
  s.coreReg c cost (fun x => x.fpOut d (f (fmtOf f64b) (fpIn f64b (x.rd a)) (fpIn f64b (x.rd b))))

def State.fp1 (s : State) (c cost : Nat) (f64b : Bool) (f : FFmt → Nat → Nat × Nat) (d a : GReg) : State :=
  s.coreReg c cost (fun x => x.fpOut d (f (fmtOf f64b) (fpIn f64b (x.rd a))))

def State.fp3 (s : State) (c : Nat) (f64b : Bool) (f : FFmt → Nat → Nat → Nat → Nat × Nat) (d a b r : GReg) : State :=
  s.coreReg c (if f64b then costF64Fma else costF32)
    (fun x => x.fpOut d (f (fmtOf f64b) (fpIn f64b (x.rd a)) (fpIn f64b (x.rd b)) (fpIn f64b (x.rd r))))

def execFadd (c : Nat) (w : Bool) (d a b : GReg) (s : State) : Result := onCore c (s.fp2 c (costFp w) w FFmt.add d a b)
def execFsub (c : Nat) (w : Bool) (d a b : GReg) (s : State) : Result := onCore c (s.fp2 c (costFp w) w FFmt.sub d a b)
def execFmul (c : Nat) (w : Bool) (d a b : GReg) (s : State) : Result := onCore c (s.fp2 c (costFp w) w FFmt.mul d a b)
def execFmin (c : Nat) (w : Bool) (d a b : GReg) (s : State) : Result := onCore c (s.fp2 c (costFp w) w FFmt.fmin d a b)
def execFmax (c : Nat) (w : Bool) (d a b : GReg) (s : State) : Result := onCore c (s.fp2 c (costFp w) w FFmt.fmax d a b)
def execFcmpeq (c : Nat) (w : Bool) (d a b : GReg) (s : State) : Result :=
  onCore c (s.fp2 c (costFp w) w FFmt.cmpEq d a b)
def execFcmplt (c : Nat) (w : Bool) (d a b : GReg) (s : State) : Result :=
  onCore c (s.fp2 c (costFp w) w FFmt.cmpLt d a b)
def execFcmple (c : Nat) (w : Bool) (d a b : GReg) (s : State) : Result :=
  onCore c (s.fp2 c (costFp w) w FFmt.cmpLe d a b)
def execFdiv (c : Nat) (w : Bool) (d a b : GReg) (s : State) : Result := onCore c (s.fp2 c (costFdiv w) w FFmt.div d a b)
def execFneg (c : Nat) (w : Bool) (d a : GReg) (s : State) : Result :=
  onCore c (s.fp1 c (costFp w) w (fun f v => (f.fneg v, 0)) d a)
def execFabs (c : Nat) (w : Bool) (d a : GReg) (s : State) : Result :=
  onCore c (s.fp1 c (costFp w) w (fun f v => (f.fabs v, 0)) d a)
def execFsqrt (c : Nat) (w : Bool) (d a : GReg) (s : State) : Result := onCore c (s.fp1 c (costFsqrt w) w FFmt.sqrt d a)
def execFma (c : Nat) (w : Bool) (d a b r : GReg) (s : State) : Result := onCore c (s.fp3 c w FFmt.fma d a b r)
def execFms (c : Nat) (w : Bool) (d a b r : GReg) (s : State) : Result := onCore c (s.fp3 c w FFmt.fms d a b r)
def execFnma (c : Nat) (w : Bool) (d a b r : GReg) (s : State) : Result := onCore c (s.fp3 c w FFmt.fnma d a b r)

/-! ### Conversions, result format first -/

def State.cvt (s : State) (c : Nat) (f : BitVec 64 → Nat × Nat) (d a : GReg) : State :=
  s.coreReg c costFcvt (fun x => x.fpOut d (f (x.rd a)))

/-- Conversion to a 64-bit integer. -/
def toI64 (f : FFmt) (nearest : Bool) (v : Nat) : Nat × Nat :=
  let r := f.toInt64 nearest v
  (unsgn 64 r.1, r.2)

def execF64F32 (c : Nat) (d a : GReg) (s : State) : Result :=
  onCore c (s.cvt c (fun v => FFmt.convert f32 f64 (fpIn false v)) d a)
def execF32F64 (c : Nat) (d a : GReg) (s : State) : Result :=
  onCore c (s.cvt c (fun v => FFmt.convert f64 f32 (fpIn true v)) d a)
def execF64I64 (c : Nat) (d a : GReg) (s : State) : Result := onCore c (s.cvt c (fun v => f64.ofInt v.toInt) d a)
def execF32I64 (c : Nat) (d a : GReg) (s : State) : Result := onCore c (s.cvt c (fun v => f32.ofInt v.toInt) d a)
def execI64F64t (c : Nat) (d a : GReg) (s : State) : Result :=
  onCore c (s.cvt c (fun v => toI64 f64 false (fpIn true v)) d a)
def execI64F32t (c : Nat) (d a : GReg) (s : State) : Result :=
  onCore c (s.cvt c (fun v => toI64 f32 false (fpIn false v)) d a)
def execI64F64n (c : Nat) (d a : GReg) (s : State) : Result :=
  onCore c (s.cvt c (fun v => toI64 f64 true (fpIn true v)) d a)
def execI64F32n (c : Nat) (d a : GReg) (s : State) : Result :=
  onCore c (s.cvt c (fun v => toI64 f32 true (fpIn false v)) d a)

end Sys2Proof.Machine
end

