-- ==== Sys2Proof/Machine/CoreMemory.lean ====
section
/-!
DEFINITION. Loads, stores and the block move of stitch code (R83, R84, R86, R87, R102, R106, R107).
-/

namespace Sys2Proof.Machine

/-- A loaded value of n bytes extended to 64 bits. -/
def extendLoad (n : Nat) (signed : Bool) (v : Nat) : BitVec 64 :=
  if signed then BitVec.ofInt 64 (sgn (8 * n) v) else BitVec.ofNat 64 v

/-- Local load of n bytes at base plus sext(K). -/
def State.loadLocal (s : State) (c n : Nat) (signed : Bool) (d a : GReg) (k : BitVec 14) : State :=
  s.coreRun c costLdl (fun x s =>
    match s.checkLocal x (x.localBaseReg a + sext64 k) n n false with
    | .error e => .exc s e.1 e.2
    | .ok off =>
      match s.loadAt (Mem.dram c + off) n (off + localBase) with
      | .inl e => e
      | .inr (v, s) => .ok (s.setCore c (x.wr d (extendLoad n signed v))) (x.pc + 4))

/-- Shared load of n bytes at a plus sext(K). -/
def State.loadShared (s : State) (c n : Nat) (signed : Bool) (d a : GReg) (k : BitVec 14) : State :=
  s.coreRun c costLds (fun x s =>
    match s.checkShared c x (x.rd a + sext64 k) n n false with
    | .error e => .exc s e.1 e.2
    | .ok off =>
      match s.loadAt (Mem.shared + off) n (off + sharedBase) with
      | .inl e => e
      | .inr (v, s) => .ok (s.setCore c (x.wr d (extendLoad n signed v))) (x.pc + 4))

/-- Local store of the low n bytes of t at base plus sext(K). -/
def State.storeLocal (s : State) (c n : Nat) (t a : GReg) (k : BitVec 14) : State :=
  s.coreRun c costStl (fun x s =>
    match s.checkLocal x (x.localBaseReg a + sext64 k) n n true with
    | .error e => .exc s e.1 e.2
    | .ok off =>
      let v := (x.rd t).toNat % 2 ^ (8 * n)
      match s.storeAt (Mem.dram c + off) n v (off + localBase) with
      | .inl e => e
      | .inr s => .ok (s.signLocal x off n v) (x.pc + 4))

/-- Shared store of the low n bytes of t at a plus sext(K). -/
def State.storeShared (s : State) (c n : Nat) (t a : GReg) (k : BitVec 14) : State :=
  s.coreRun c costSts (fun x s =>
    match s.checkShared c x (x.rd a + sext64 k) n n true with
    | .error e => .exc s e.1 e.2
    | .ok off =>
      let v := (x.rd t).toNat % 2 ^ (8 * n)
      match s.storeAt (Mem.shared + off) n v (off + sharedBase) with
      | .inl e => e
      | .inr s => .ok (s.signShared x off n v) (x.pc + 4))

/-- The words written by a block move into model memory: whole words clear errors, a last part of a word is merged
(R102). -/
def State.writeBlock (s : State) (ma : Nat) (bs : Bytes) (addr : Nat) : CoreStep ⊕ State :=
  let whole := bs.length / 8 * 8
  if bs.length % 8 = 0 then .inr ((s.wrBytes ma bs).eccClearWords ma whole)
  else
    match s.eccReadWord (ma + whole) 3 with
    | (true, s) => .inl (.exc s .eccUe addr)
    | (false, s) => .inr ((s.wrBytes ma bs).eccClearWords ma (whole + 8))

/-- BMV: count bytes between the addresses in the shared and the local register (R86); every 8-byte word it writes
adds one record to a selvedge run's signature (R107), the last partial word one of width 8 with its bytes zero-extended,
the model's choice (log 113). A selvedge run may move into its data area or output area only (R106). -/
def State.blockMove (s : State) (c : Nat) (toShared : Bool) (countM1 : BitVec 15) (sh lo : GReg) : State :=
  let n := countM1.toNat + 1
  s.coreRun c (costBlock n) (fun x s =>
    match s.checkShared c x (x.rd sh) n 8 toShared, s.checkLocal x (x.rd lo) n 8 (!toShared) with
    | .error e, _ => .exc s e.1 e.2
    | _, .error e => .exc s e.1 e.2
    | .ok so, .ok lof =>
      if !toShared && x.isSelvedge && !(s.inRunData x (lof + localBase) n) then .exc s .selvStray (lof + localBase) else
      let src := if toShared then Mem.dram c + lof else Mem.shared + so
      let dst := if toShared then Mem.shared + so else Mem.dram c + lof
      match s.eccRead src n 1 with
      | (true, s) => .exc s .eccUe (if toShared then lof + localBase else so + sharedBase)
      | (false, s) =>
        let bs := s.rdBytes src n
        match s.writeBlock dst bs (if toShared then so + sharedBase else lof + localBase) with
        | .inl e => e
        | .inr s =>
          .ok (if x.isSelvedge then
            (List.range (ceilDiv n 8)).foldl (fun s k =>
              s.record x (if toShared then s.outRecord x (so + 8 * k) else s.dataRecord x (lof + 8 * k)) 8
                (Bytes.leAt bs (8 * k) 8)) s
            else s) (x.pc + 4))

def execL8s (c : Nat) (d a : GReg) (k : BitVec 14) (s : State) : Result := onCore c (s.loadLocal c 1 true d a k)
def execL8u (c : Nat) (d a : GReg) (k : BitVec 14) (s : State) : Result := onCore c (s.loadLocal c 1 false d a k)
def execL16s (c : Nat) (d a : GReg) (k : BitVec 14) (s : State) : Result := onCore c (s.loadLocal c 2 true d a k)
def execL16u (c : Nat) (d a : GReg) (k : BitVec 14) (s : State) : Result := onCore c (s.loadLocal c 2 false d a k)
def execL32s (c : Nat) (d a : GReg) (k : BitVec 14) (s : State) : Result := onCore c (s.loadLocal c 4 true d a k)
def execL32u (c : Nat) (d a : GReg) (k : BitVec 14) (s : State) : Result := onCore c (s.loadLocal c 4 false d a k)
def execL64 (c : Nat) (d a : GReg) (k : BitVec 14) (s : State) : Result := onCore c (s.loadLocal c 8 false d a k)
def execLs8s (c : Nat) (d a : GReg) (k : BitVec 14) (s : State) : Result := onCore c (s.loadShared c 1 true d a k)
def execLs8u (c : Nat) (d a : GReg) (k : BitVec 14) (s : State) : Result := onCore c (s.loadShared c 1 false d a k)
def execLs16s (c : Nat) (d a : GReg) (k : BitVec 14) (s : State) : Result := onCore c (s.loadShared c 2 true d a k)
def execLs16u (c : Nat) (d a : GReg) (k : BitVec 14) (s : State) : Result := onCore c (s.loadShared c 2 false d a k)
def execLs32s (c : Nat) (d a : GReg) (k : BitVec 14) (s : State) : Result := onCore c (s.loadShared c 4 true d a k)
def execLs32u (c : Nat) (d a : GReg) (k : BitVec 14) (s : State) : Result := onCore c (s.loadShared c 4 false d a k)
def execLs64 (c : Nat) (d a : GReg) (k : BitVec 14) (s : State) : Result := onCore c (s.loadShared c 8 false d a k)
def execS8 (c : Nat) (t a : GReg) (k : BitVec 14) (s : State) : Result := onCore c (s.storeLocal c 1 t a k)
def execS16 (c : Nat) (t a : GReg) (k : BitVec 14) (s : State) : Result := onCore c (s.storeLocal c 2 t a k)
def execS32 (c : Nat) (t a : GReg) (k : BitVec 14) (s : State) : Result := onCore c (s.storeLocal c 4 t a k)
def execS64 (c : Nat) (t a : GReg) (k : BitVec 14) (s : State) : Result := onCore c (s.storeLocal c 8 t a k)
def execSs8 (c : Nat) (t a : GReg) (k : BitVec 14) (s : State) : Result := onCore c (s.storeShared c 1 t a k)
def execSs16 (c : Nat) (t a : GReg) (k : BitVec 14) (s : State) : Result := onCore c (s.storeShared c 2 t a k)
def execSs32 (c : Nat) (t a : GReg) (k : BitVec 14) (s : State) : Result := onCore c (s.storeShared c 4 t a k)
def execSs64 (c : Nat) (t a : GReg) (k : BitVec 14) (s : State) : Result := onCore c (s.storeShared c 8 t a k)
def execBmv (c : Nat) (toShared : Bool) (countM1 : BitVec 15) (sh lo : GReg) (s : State) : Result :=
  onCore c (s.blockMove c toShared countM1 sh lo)

end Sys2Proof.Machine
end

