-- ==== Sys2Proof/Machine/CoreSys.lean ====
section
/-!
DEFINITION. System calls (R95, R96, Table 4.9) but for REG_RD and REG_WR, which stand with the register access. g1
returns the result code; g2 and g3 return values; where a service returns no value in g2 or g3, the spec preserves only
g4 to g31, and the register takes a free value (log 9).
-/

namespace Sys2Proof.Machine

/-- Result codes (R95). -/
def sysOk : Nat := 0
def sysFull : Nat := 1
def sysDenied : Nat := 2

/-- A value a service returns, or none: then the register is not preserved (R95). -/
def State.retVal (s : State) (v : Option (BitVec 64)) : BitVec 64 × State :=
  match v with
  | some x => (x, s)
  | none => (BitVec.ofNat 64 s.fresh.1, s.fresh.2)

/-- The end of a service: result code and values into g1, g2, g3. -/
def State.sysReturn (s : State) (c : Nat) (x : Core) (code : Nat) (g2 g3 : Option (BitVec 64)) : CoreStep :=
  let r2 := s.retVal g2
  let r3 := r2.2.retVal g3
  .ok (r3.2.setCore c (((x.wr 1 (BitVec.ofNat 64 code)).wr 2 r2.1).wr 3 r3.1)) (x.pc + 4)

/-- Queue number of ARG, and the queue's element size. -/
def State.queueSizeOf (s : State) (q : Nat) : Nat := (s.pat.active.map (fun p => p.queueSize q)).getD 0

/-- Q_PUT: a queue that is undefined or not the core's to fill is DENIED, a full one counts an overflow (R23, R96).
DESIGN CHOICES: the address in g1 needs no alignment (log 20), the element is checked before the queue's fill (log 117),
and SELV_STRAY has FADDR 0 (log 114). -/
def execQPut (c : Nat) (arg : BitVec 15) (s : State) : Result :=
  onCore c (s.coreRun c (costSys + costQPut (s.queueSizeOf arg.toNat)) (fun x s =>
    if x.isSelvedge then .exc s .selvStray 0 else
    match s.pat.active with
    | none => s.sysReturn c x sysDenied none none
    | some p =>
      let q := arg.toNat
      if !(q < 128 && p.queueDefined q && p.queueProducer q == c) then s.sysReturn c x sysDenied none none else
      match s.checkLocal x (x.rd 1) (p.queueSize q) 1 false with
      | .error e => .exc s e.1 e.2
      | .ok off =>
        match s.eccRead (Mem.dram c + off) (p.queueSize q) 1 with
        | (true, s) => .exc s .eccUe (off + localBase)
        | (false, s) =>
          let r := s.queueStore p q (s.rdBytes (Mem.dram c + off) (p.queueSize q))
          r.2.sysReturn c x (if r.1 then sysOk else sysFull) none none))

/-- A block written into the data scratchpad from a core offset: whole words are rewritten, a part of a word is merged,
and an uncorrectable old word is ECC_UE (R102). -/
def State.storeBlock (s : State) (c off : Nat) (bs : Bytes) : CoreStep ⊕ State :=
  let a := Mem.dram c + off
  let part (s : State) (w : Nat) : Bool × State := if w < a ∨ a + bs.length < w + 8 then s.eccReadWord w 3 else (false, s)
  let (bad, s) := part s (a / 8 * 8)
  let (bad', s) := if bad then (true, s) else part s ((a + bs.length - 1) / 8 * 8)
  if bad' then .inl (.exc s .eccUe (off + localBase))
  else .inr ((s.wrBytes a bs).eccClearWords (a / 8 * 8) (8 * ceilDiv (a % 8 + bs.length) 8))

/-- Q_GET: the oldest element into the local destination, or EMPTY (R96). A selvedge run may write nothing with it
(R106). -/
def execQGet (c : Nat) (arg : BitVec 15) (s : State) : Result :=
  onCore c (s.coreRun c (costSys + costQGet (s.queueSizeOf arg.toNat)) (fun x s =>
    match s.pat.active with
    | none => s.sysReturn c x sysDenied none none
    | some p =>
      let q := arg.toNat
      if !(q < 128 && p.queueDefined q && p.queueConsumer q == c) then s.sysReturn c x sysDenied none none else
      match s.checkLocal x (x.rd 1) (p.queueSize q) 1 false with
      | .error e => .exc s e.1 e.2
      | .ok off =>
        let place := queuePlace p q (s.queueState q).head
        if (s.queueState q).fill = 0 then s.sysReturn c x sysFull none none
        else if x.isSelvedge then .exc s .selvStray (off + localBase)
        else
          match s.eccRead place (p.queueSize q) 1 with
          | (true, s) => .exc s .eccUe (place - Mem.shared + sharedBase)
          | (false, s) =>
            match s.storeBlock c off (s.rdBytes place (p.queueSize q)) with
            | .inl e => e
            | .inr s => (s.queueGet p q).2.sysReturn c x sysOk none none))

/-- Q_STAT: elements held and the overflow counter (R23). -/
def execQStat (c : Nat) (arg : BitVec 15) (s : State) : Result :=
  onCore c (s.coreRun c (costSys + costQStat) (fun x s =>
    let q := arg.toNat
    if q < 128 && (s.pat.active.map (fun p => p.queueDefined q)).getD false then
      s.sysReturn c x sysOk (some (BitVec.ofNat 64 (s.queueState q).fill)) (some (zext64 (s.queueState q).overflow))
    else s.sysReturn c x sysDenied none none))

/-- The tick in which a core's entry has spent a number of cycles. -/
def State.coreTick (s : State) (c cyc : Nat) : Nat :=
  ((s.agent c).running.map (fun r => r.entry.start)).getD 0 + cyc / tickCycles c

/-- EVT_RAISE: a trigger to event task 16 + n with the raising core's code, posted when the service is complete (R120,
Table 5.3). SELV_STRAY of a service has no address: FADDR is 0, the model's choice (log 114). -/
def execEvtRaise (c : Nat) (arg : BitVec 15) (s : State) : Result :=
  onCore c (s.coreRun c (costSys + costQPut 8) (fun x s =>
    if x.isSelvedge then .exc s .selvStray 0 else
    if 15 < arg.toNat then s.sysReturn c x sysDenied none none else
      let r := s.postAt (16 + arg.toNat) (0x8000 + c) (x.rd 1).toNat (s.coreTick c (x.cyc + costSys + costQPut 8))
      r.2.sysReturn c x (if r.1 then sysOk else sysFull) none none))

/-- EVT_ARG: argument and source code of the trigger that started the slot (R120). An ARG other than 0 changes
nothing, the model's choice (log 112). -/
def execEvtArg (c : Nat) (_arg : BitVec 15) (s : State) : Result :=
  onCore c (s.coreRun c (costSys + costQStat) (fun x s =>
    match x.evt with
    | none => s.sysReturn c x sysDenied none none
    | some (code, v) => s.sysReturn c x sysOk (some v) (some (zext64 code))))

/-- REC_RAISE: event 0x8000 + ARG with g1 and g2 as payload words; 1 when the recorder's queue is full (R95, R483). -/
def execRecRaise (c : Nat) (arg : BitVec 15) (s : State) : Result :=
  onCore c (s.coreRun c (costSys + costQPut 16) (fun x s =>
    let full := 64 ≤ s.evr.staged.length
    (s.raise (0x8000 + arg.toNat) (srcCore c) [(x.rd 1).toNat, (x.rd 2).toNat]).sysReturn c x
      (if full then sysFull else sysOk) none none))

/-- TIME_RD: ship time of the current stitch edge and the stitch counter. An ARG other than 0 changes nothing
(log 112). -/
def execTimeRd (c : Nat) (_arg : BitVec 15) (s : State) : Result :=
  onCore c (s.coreRun c (costSys + costQStat) (fun x s =>
    s.sysReturn c x sysOk (some s.clock.edge) (some s.clock.stitch)))

end Sys2Proof.Machine
end

