-- ==== Sys2Proof/Machine/RegisterAccess.lean ====
section
/-!
DEFINITION. Register accesses by a requester: the width and address rules, the access types of fields, the refusals of
GLB_ACCERR, the commands that a written register carries, grants of application code, and the carrier management port
(R8 to R14, R32, R33, R97, R462 to R465).
-/

namespace Sys2Proof.Machine

/-! ### Fields of a written register (R9, R10, R11) -/

/-- Bits of a field. -/
def FieldDef.mask (f : FieldDef) : BitVec 32 := maskBits (f.hi - f.lo + 1) <<< f.lo

/-- What a write of v makes of one field of a register: the word, and the refusal, if any. `free`: STOP or TACKING;
`bad`: the field refuses the value. -/
def FieldDef.write (f : FieldDef) (free bad : Bool) (w v : BitVec 32) : BitVec 32 × Option AccErr :=
  let m := f.mask
  let stored := (w &&& ~~~m) ||| (v &&& m)
  match f.acc with
  | .ro => (w, if v &&& m = 0 then none else some .refusedRo)
  | .rw => if bad then (w, some .refusedRo) else (stored, none)
  | .rws =>
    if v &&& m = w &&& m then (w, none)
    else if !free then (w, some .refusedRws)
    else if bad then (w, some .refusedRo)
    else (stored, none)
  | .w1c => if bad && v &&& m != 0 then (w, some .refusedRo) else (w &&& ~~~(v &&& m), none)
  | .w1s => (w, none)
  | .wo => (w, none)

/-- The fields of a register in turn. -/
def writeFields (free : Bool) (bad : FieldDef → Bool) (v : BitVec 32) :
    List FieldDef → BitVec 32 → BitVec 32 × List AccErr
  | [], w => (w, [])
  | f :: fs, w =>
    let r := f.write free (bad f) w v
    let t := writeFields free bad v fs r.1
    (t.1, r.2.toList ++ t.2)

/-- A register of nothing but RO fields: every write reaches them. -/
def RegDef.readOnly (r : RegDef) : Bool := r.fields.all (fun f => f.acc == .ro)

/-- Number of the array element at an address of `base + stride * n`, n < count. -/
def elementAt (base stride count a : Nat) : Option Nat :=
  if base ≤ a ∧ (a - base) % stride = 0 ∧ (a - base) / stride < count then some ((a - base) / stride) else none

/-- Trigger k whose register, at one of its three offsets, lies at an address. -/
def triggerAt (a : Nat) : Option (Nat × Bool) :=
  match elementAt (F.PTP_TRIG_LO_TIME 0).addr 16 4 a, elementAt (F.PTP_TRIG_HI_TIME 0).addr 16 4 a,
    elementAt (F.PTP_TRIG_CTRL_ARMED 0).addr 16 4 a with
  | some k, _, _ => some (k, true)
  | _, some k, _ => some (k, true)
  | _, _, some k => some (k, false)
  | _, _, _ => none

/-- Sizes that RST_SET_SIZE takes: powers of 2 from 128 to 2,097,152. -/
def settingsSizes : List Nat := (List.range 15).map (fun k => 128 * 2 ^ k)

/-- The configuration registers of the Bobbin, which are locked while it is ARMED or RUNNING (R164): generator, start
stitch and capture set. -/
def bobConfig (a : Nat) : Bool :=
  [F.LPE_BOB_GEN_TYPE, F.LPE_BOB_AMP_VALUE, F.LPE_BOB_F0_VALUE, F.LPE_BOB_DF_VALUE, F.LPE_BOB_LEN_VALUE,
    F.LPE_BOB_AT_LO_N, F.LPE_BOB_AT_HI_N].any (fun f => f.addr == a) ||
  (elementAt (F.LPE_BOB_SET_EN 0).addr 4 16 a).isSome

/-- The lock of R164; of LPE_BOB_CTRL, whose OP stays open, a DECIM or MODE that differs is refused (log 37). -/
def State.bobLocks (s : State) (a : Nat) (f : FieldDef) (x : Nat) : Bool :=
  (s.bobState == 1 || s.bobState == 2) &&
  (bobConfig a || (a == F.LPE_BOB_CTRL_OP.addr && x != s.getF (Fld.mk a f.hi f.lo)))

/-- The field refuses the value, by its Description. -/
def State.fieldRefuses (s : State) (req : Requester) (a : Nat) (v : BitVec 32) (f : FieldDef) : Bool :=
  let x := (Fld.mk a f.hi f.lo).pick v
  let app := match req with
    | .application _ => true
    | _ => false
  if s.bobLocks a f x then true
  else if a = F.PTP_STEP_LIMIT_NS.addr then x < 100 || 1000000000 < x
  else if a = F.PTP_STEP_VALUE.addr then app
  else if a = F.PNL_VCOM_CODE.addr then x != 0 && (x < 50 || 300 < x)
  else if a = F.RST_SET_SIZE_BYTES.addr then !settingsSizes.contains x
  else if a = F.PAT_OLC_AT_LO_N_C.addr || a = F.PAT_OLC_AT_HI_N_C.addr then s.olc == olcCommitting
  else
    match elementAt (F.CAN_CTRL_LOOP 0).addr 0x1000 8 a with
    | some _ => f.lo == 4 && x == 3
    | none =>
      match triggerAt a with
      | some (k, time) => (k < 3 && s.region k == rgArmed) || (time && s.isSet (F.PTP_TRIG_CTRL_ARMED k))
      | none => false

/-- RWS fields take a write in STOP and TACKING. -/
def State.rwsFree (s : State) : Bool := s.station == .stop || s.station == .tacking

/-- A write to the fields of a register; refusals are recorded as one access. -/
def State.fieldWrite (s : State) (req : Requester) (a : Nat) (r : RegDef) (v : BitVec 32) : State :=
  if r.readOnly then s.accErr req [.refusedRo]
  else
    let x := writeFields s.rwsFree (s.fieldRefuses req a v) v r.fields (s.getR a)
    (s.setR a x.1).accErr req x.2

/-! ### Commands that a written register carries -/

/-- Command registers of one OP field. -/
def State.opCommand (s : State) (req : Requester) (a : Nat) (v : BitVec 32) : State :=
  let op (f : Fld) : Nat := f.pick v
  if a = F.GLB_START_CMD_OP.addr then s.startCmd (op F.GLB_START_CMD_OP)
  else if a = F.GLB_FORCE_CMD_OP.addr then
    match op F.GLB_FORCE_CMD_OP with
    | 1 => s.forceSet
    | 2 => s.forceRelease
    | 3 => s.forceReleaseAll
    | _ => s
  else if a = F.PAT_CMD_OP.addr then
    match op F.PAT_CMD_OP with
    | 1 => s.patVerify
    | 2 => s.patActivate
    | 3 => s.patPrepare
    | 4 => s.patCommit
    | 5 => s.patAbort
    | 6 => s.patRevert
    | 7 => s.patClear
    | _ => s
  else if a = F.LPE_BOB_CTRL_OP.addr then
    match op F.LPE_BOB_CTRL_OP with
    | 1 => s.bobArm
    | 2 => s.bobStop
    | 3 => s.bobClear
    | _ => s
  else if a = F.SAF_CMD_OP.addr then
    match op F.SAF_CMD_OP with
    | 1 => s.safConfirm
    | 2 => s.safClearHalt
    | 3 => s.safCancel
    | _ => s
  else if a = F.PAIR_CMD_OP.addr then
    match op F.PAIR_CMD_OP with
    | 1 => s.pairClaim
    | 2 => s.pairRelease
    | 3 => s.pairWitness
    | _ => s
  else if a = F.PTP_CMD_OP.addr then
    match op F.PTP_CMD_OP with
    | 1 => s.timeCommand req s.ptpStep
    | 2 => s.timeCommand req s.ptpRebase
    | 3 => s.timeCommand req s.ptpCancel
    | _ => s.timeCommand req s
  else if a = F.EVR_CMD_OP.addr then
    match op F.EVR_CMD_OP with
    | 1 => s.timeMarkCmd
    | _ => s
  else if a = F.PNL_CMD_OP.addr then
    match op F.PNL_CMD_OP with
    | 1 => s.pnlRefresh
    | 2 => s.pnlDisableCmd
    | 3 => s.pnlEnableCmd
    | _ => s
  else if a = F.PWR_CMD_OP.addr then
    match op F.PWR_CMD_OP with
    | 1 => s.watchCmd req
    | 2 => s.watchCancel
    | _ => s
  else if a = F.SEC_CMD_OP.addr then
    match op F.SEC_CMD_OP with
    | 1 => s.fresh.2.enrol s.fresh.1
    | 2 => s.rotateOwner
    | 3 => s.dbgChallenge
    | 4 => s.dbgUnlock
    | 5 => s.dbgLock
    | 6 => s.cakSet
    | 7 => s.cakClear
    | _ => s
  else s

/-- Command registers whose OP goes with a unit or a length. -/
def State.unitCommand (s : State) (a : Nat) (v : BitVec 32) : State :=
  let fld (f : Fld) : Nat := f.pick v
  if a = F.LPE_CH_CMD_OP.addr then
    let op := fld F.LPE_CH_CMD_OP
    if 1 ≤ op ∧ op ≤ 3 then s.lpCmd (fld F.LPE_CH_CMD_CHANNEL) op else s
  else if a = F.QPS_CTX_CMD_OP.addr then
    let op := fld F.QPS_CTX_CMD_OP
    if 1 ≤ op ∧ op ≤ 3 then s.qpCmd (fld F.QPS_CTX_CMD_CTX) op else s
  else if a = F.UPD_CMD_OP.addr then
    let r := BitVec.ofNat 2 (fld F.UPD_CMD_REGION)
    match fld F.UPD_CMD_OP with
    | 1 => s.updOn r State.updBegin
    | 2 => s.updOn r State.updResume
    | 3 => s.updOn r State.updFinish
    | 4 => s.updOn r State.updArm
    | 5 => s.updOn r State.updDisarm
    | 6 => s.updOn r State.updActivateNow
    | _ => s
  else if a = F.UPD_CANCEL_REGION.addr then s.updOn (BitVec.ofNat 2 (fld F.UPD_CANCEL_REGION)) State.updCancel
  else if a = F.RST_CMD_OP.addr then
    match fld F.RST_CMD_OP with
    | 1 => s.settingsWrite 1 (fld F.RST_CMD_LEN)
    | 2 => s.settingsWrite 2 0
    | 3 => s.softReset
    | _ => s
  else if a = F.DGT_LB_CMD_OP.addr then
    match fld F.DGT_LB_CMD_OP with
    | 1 => s.lbStart (fld F.DGT_LB_CMD_TARGET) (fld F.DGT_LB_CMD_DEPTH) (fld F.DGT_LB_CMD_COUNT)
    | 2 => s.lbEnd 6
    | _ => s
  else
    match elementAt (F.CAN_CMD_OP 0).addr 0x1000 8 a with
    | some n =>
      match fld (F.CAN_CMD_OP n) with
      | 1 => s.canRecover n
      | 2 => s.canClearCounts n
      | _ => s
    | none => s

/-- Fields whose write acts beyond the register: keys and messages written as data, a fault acknowledged, an ECC
injection. -/
def State.fieldActs (s : State) (a : Nat) (v : BitVec 32) : State :=
  match elementAt (F.SEC_DATA_DATA 0).addr 4 64 a, elementAt (F.APC_CORE_FAULT_VALID 0).addr 0x20 8 a with
  | some _, _ => s.setR a v
  | _, some n =>
    if (F.APC_CORE_FAULT_VALID n).pick v = 1 && bitOf (s.getF F.APC_STATUS_FAULT) n then
      s.setF F.APC_STATUS_FAULT (s.getF F.APC_STATUS_FAULT - 2 ^ n)
    else s
  | _, _ => if a = F.DGT_ECC_INJ_ARM.addr ∧ F.DGT_ECC_INJ_ARM.pick v = 1 then s.eccInjectNow else s

/-! ### The mailbox (R465) -/

/-- GLB_CMP_CMD: the operation, by its OP and LEN. A write of the register is an access of its own, in a later arbiter
cycle than the last: the model's choice (log 129); the rows IN_TAKE and OUT_TAKE say whether a POST is of their cycle. -/
def State.mailCommand (s : State) (req : Requester) (v : BitVec 32) : State :=
  let len := F.GLB_CMP_CMD_LEN.pick v
  match F.GLB_CMP_CMD_OP.pick v with
  | 1 => s.inPost req len
  | 2 => s.inTake req false
  | 3 => s.outPost req len
  | 4 => s.outTake req false
  | _ => s

/-- A write to the mailbox, if the address is one of it: IN words are the port's while IN_FULL is clear, OUT words the
module side's while OUT_FULL is clear. -/
def State.mailWrite (s : State) (req : Requester) (a : Nat) (v : BitVec 32) : Option State :=
  if a = F.GLB_CMP_CMD_OP.addr then some (s.mailCommand req v)
  else
    match elementAt (F.GLB_CMP_IN_DATA 0).addr 4 16 a, elementAt (F.GLB_CMP_OUT_DATA 0).addr 4 16 a with
    | some _, _ =>
      some (if req = .cmp ∧ s.isSet F.GLB_CMP_STATUS_IN_FULL = false then s.setR a v else s.mailRefused req)
    | _, some _ =>
      some (if moduleSide req = true ∧ s.isSet F.GLB_CMP_STATUS_OUT_FULL = false then s.setR a v
        else s.mailRefused req)
    | _, _ => none

/-! ### A write (R10, R13, R14, R32) -/

/-- GLB_ACCERR: first the flags, and COUNT with them if one was cleared; then what the same write has refused. -/
def State.accerrWrite (s : State) (req : Requester) (v : BitVec 32) : State :=
  let a := F.GLB_ACCERR_COUNT.addr
  let old := s.getR a
  let s := s.setR a (old &&& ~~~(v &&& 0xF#32))
  let s := if old &&& v &&& 0xF#32 = 0 then s else s.setF F.GLB_ACCERR_COUNT 0
  if v &&& 0xF000FF00#32 = 0 then s else s.accErr req [.refusedRo]

/-- Registers whose chapter gives a write its own reaction. -/
def State.ownWrite (s : State) (req : Requester) (a : Nat) (v : BitVec 32) : Option State :=
  if a = F.GLB_ACCERR_COUNT.addr then some (s.accerrWrite req v)
  else if a = F.PTP_INCR_LO_FRAC.addr then some (s.timeCommand req (s.incrLoWrite v))
  else if a = F.PTP_INCR_HI_NS.addr then some (s.timeCommand req (s.incrHiWrite v))
  else
    match elementAt (F.PWR_VOTE_C_CLO 0).addr 4 8 a, elementAt (F.CAN_MB_LOCK_LOCK 0).addr 0x1000 8 a with
    | some n, _ => some (s.voteWrite req n v)
    | _, some n => some (s.mbLockWrite n v)
    | _, _ => s.mailWrite req a v

/-- A write through a window. -/
def State.windowWrite (s : State) (req : Requester) (w : Window) (off : Nat) (v : BitVec 32) : State :=
  match w with
  | .store => s.storeWindow req off v
  | .problem => s.qpWindowWrite req off v
  | .bobbin => s.accErr req [.refusedRo]
  | .mailbox _ => s.accErr req [.refusedRo]
  | .record => s.accErr req [.refusedRo]

/-- An aligned write of a word by the supervisor, the engineering service or application code. -/
def State.busWrite (s : State) (req : Requester) (a : Nat) (v : BitVec 32) : State :=
  match windowAt a with
  | some (w, off) => s.windowWrite req w off v
  | none =>
    match s.ownWrite req a v with
    | some t => t
    | none =>
      match findReg a with
      | none => s.accErr req [.reservedAddr]
      | some r => (((s.fieldWrite req a r v).fieldActs a v).opCommand req a v).unitCommand a v

/-- An aligned write of a word by the carrier management port: the mailbox only (R13). -/
def State.portWrite (s : State) (a : Nat) (v : BitVec 32) : State :=
  match s.mailWrite .cmp a v with
  | some t => t
  | none => s.accErr .cmp [.refusedRo]

/-- A write access of nbytes at any address. -/
def State.regWrite (s : State) (req : Requester) (a : Nat) (v : BitVec 32) (nbytes : Nat) : State :=
  if nbytes ≠ 4 ∨ a % 4 ≠ 0 then s.accErr req [.badWidth]
  else if req = .cmp then s.portWrite a v
  else s.busWrite req a v

/-- A write of OP ENROL to SEC_CMD. -/
def isEnrol (a : Nat) (v : BitVec 32) : Bool := a == F.SEC_CMD_OP.addr && F.SEC_CMD_OP.pick v == 1

/-- REGISTER_WRITE, by a requester whose writes reach the register (R33). -/
def execRegisterWrite (req : Requester) (addr value : BitVec 32) (nbytes : Nat) (s : State) : Result :=
  .next (s.accessBy req (if s.mayWrite req addr.toNat (isEnrol addr.toNat value) then s.regWrite req addr.toNat value nbytes
    else s))

/-- GLB_ACCERR_WRITE (R14). -/
def execGlbAccerrWrite (req : Requester) (value : BitVec 32) (s : State) : Result :=
  .next (s.writing req F.GLB_ACCERR_COUNT (s.regWrite req F.GLB_ACCERR_COUNT.addr value 4))

/-! ### The carrier management port (R462 to R464) -/

/-- Registers of Table 19.7. -/
def portReads : List String :=
  ["GLB_ACCERR", "GLB_TEMP", "GLB_CMP_STATUS", "GLB_CMP_OUTn", "PAT_STATE", "PAT_GEN", "PAT_CHECK", "APC_STATUS",
   "LPE_STATUS", "QPS_STATUS", "DIO_FSk_STATUS", "DIO_GRPg_STATUS", "CLO_CHn_STATUS", "SAF_STATUS", "SCM_STATUS",
   "PAIR_STATUS", "PAIR_PARTNER", "CANn_STATUS", "ETH_Pp_STATUS", "EVR_STATUS", "EVR_NEXT_LO", "EVR_NEXT_HI",
   "PNL_STATUS", "PWR_STATUS", "PWR_DOMAINS", "UPD_Rr_STATE", "UPD_FW", "SEC_STATUS", "RST_CAUSE", "RST_STRAPS",
   "RST_ADDR", "DGT_STATUS", "DGT_LB_STATUS"]

/-- The port reads the register at an address. -/
def portListed (a : Nat) : Bool :=
  match findReg a with
  | some r => portReads.contains r.name
  | none => false

/-- A PWR_ or RST_ register, which the port reads in WATCH too. -/
def portWatch (a : Nat) : Bool := a / 0x10000 == 0xF || a / 0x10000 == 0x11

/-- A read that returns 0 is counted, with SOURCE = 3 and no flag. -/
def State.portMissed (s : State) : State := (s.incSat F.GLB_ACCERR_COUNT).setF F.GLB_ACCERR_SOURCE 3

/-- A read of one word by the port, with latches of its own. In WATCH a register that is listed but not of PWR_ or RST_
returns 0. -/
def State.portRead (s : State) (a : Nat) : BitVec 32 × State :=
  if a % 4 ≠ 0 then (0, s.accErr .cmp [.badWidth])
  else if !portListed a then (0, s.portMissed)
  else if s.station = .watch && !portWatch a then (0, s)
  else if isLatched a then (Store.get (fun _ => 0) s.bus.cmpLatch a, s)
  else
    let latch := (latchedBy a).foldl (fun m h => Store.set (fun _ => 0) m h (s.liveWord h)) s.bus.cmpLatch
    (s.liveWord a, { s with bus := { s.bus with cmpLatch := latch } })

/-- The words of a READ transaction, at rising addresses. -/
def State.portReads (s : State) (a : Nat) : Nat → List (BitVec 32) × State
  | 0 => ([], s)
  | n + 1 =>
    let r := s.portRead a
    let t := r.2.portReads (a + 4) n
    (r.1 :: t.1, t.2)

/-- The 4-byte groups of a WRITE transaction; an incomplete group is discarded (R463). -/
def State.portWrites (s : State) (a : Nat) : Bytes → State
  | b0 :: b1 :: b2 :: b3 :: rest =>
    (s.regWrite .cmp a (BitVec.ofNat 32 (Bytes.le [b0, b1, b2, b3])) 4).portWrites (a + 4) rest
  | [] => s
  | _ => s.accErr .cmp [.badWidth]

/-- CMP_READ. While VIO is out of range CMP_MISO is high-impedance, and the carrier reads 0 (R456, Table 18.4). -/
def execCmpRead (addr : BitVec 32) (count : Nat) (s : State) : Result :=
  .next (
    if s.alive then
      let r := s.portReads addr.toNat count
      { r.2 with bus := { r.2.bus with cmpData := if s.rst.vioOut then r.1.map (fun _ => 0) else r.1 } }
    else s)

/-- CMP_WRITE. -/
def execCmpWrite (addr : BitVec 32) (data : Bytes) (s : State) : Result :=
  .next (s.accessBy .cmp (s.portWrites addr.toNat data))

/-! ### Reads -/

/-- The requester gets the value of a read. -/
def State.respond (r : BitVec 32 × State) : State := { r.2 with bus := { r.2.bus with response := r.1 } }

/-- A read access of nbytes at any address. -/
def State.regRead (s : State) (req : Requester) (a nbytes : Nat) : BitVec 32 × State :=
  if nbytes ≠ 4 ∨ a % 4 ≠ 0 then (0, s.accErr req [.badWidth])
  else if req = .cmp then s.portRead a
  else s.busRead a

/-- A read by a requester whose reads reach the register (R33). -/
def State.reading (s : State) (req : Requester) (a nbytes : Nat) : State :=
  s.accessBy req (if s.mayRead req a then State.respond (s.regRead req a nbytes) else s)

/-- REGISTER_READ. -/
def execRegisterRead (req : Requester) (addr : BitVec 32) (nbytes : Nat) (s : State) : Result :=
  .next (s.reading req addr.toNat nbytes)

/-- CAPTURE_READ: PTP_CAPc_HI returns the high word of the oldest capture and removes it (R321). -/
def execCaptureRead (req : Requester) (ch : Nat) (s : State) : Result :=
  onUnit (ch < 16) (s.reading req (F.PTP_CAP_HI_TIME ch).addr 4)

/-! ### Grants of application code (R97, R100) -/

/-- Grant k lets core c read (access bit 0) or write (access bit 1): the register's address. -/
def State.granted (s : State) (c k bit : Nat) : Option Nat :=
  match s.pat.active with
  | none => none
  | some p =>
    if k < p.items Pattern.GRANTS ∧ bitOf (p.grantAccess k) bit = true ∧ bitOf (p.grantCores k) c = true then
      some (p.grantAddr k)
    else none

/-- REG_RD. -/
def execRegRd (c : Nat) (arg : BitVec 15) (s : State) : Result :=
  onCore c (s.coreRun c (costSys + costQStat) (fun x s =>
    match s.granted c arg.toNat 0 with
    | none => s.sysReturn c x sysDenied none none
    | some a =>
      let r := s.regRead (.application c) a 4
      r.2.sysReturn c x sysOk (some (zext64 r.1)) none))

/-- REG_WR: g1 is the value; a selvedge run may not (R106); FADDR of that is 0, the model's choice (log 114). -/
def execRegWr (c : Nat) (arg : BitVec 15) (s : State) : Result :=
  onCore c (s.coreRun c (costSys + costQStat) (fun x s =>
    if x.isSelvedge then .exc s .selvStray 0 else
    match s.granted c arg.toNat 1 with
    | none => s.sysReturn c x sysDenied none none
    | some a => (s.regWrite (.application c) a ((x.rd 1).setWidth 32) 4).sysReturn c x sysOk none none))

end Sys2Proof.Machine
end

