-- ==== Sys2Proof/Machine/Dispatch.lean ====
section
/-!
DEFINITION. The dispatch of commands to their meanings: one arm per constructor of Instr.
-/

namespace Sys2Proof.Machine

def exec (i : Instr) (s : State) : Host.Outcome State Fault Refusal :=
  match i with
  | .registerWrite req addr value nbytes => Sys2Proof.Machine.execRegisterWrite req addr value nbytes s
  | .glbAccerrWrite req value => Sys2Proof.Machine.execGlbAccerrWrite req value s
  | .stitchBoundary => Sys2Proof.Machine.execStitchBoundary s
  | .coreSeg core entry => Sys2Proof.Machine.execCoreSeg core entry s
  | .selvSeg core entry => Sys2Proof.Machine.execSelvSeg core entry s
  | .evtSlot core entry => Sys2Proof.Machine.execEvtSlot core entry s
  | .loopGrp lane entry => Sys2Proof.Machine.execLoopGrp lane entry s
  | .qpStart entry => Sys2Proof.Machine.execQpStart entry s
  | .outApply => Sys2Proof.Machine.execOutApply s
  | .retainCommit => Sys2Proof.Machine.execRetainCommit s
  | .selftest agent entry pass => Sys2Proof.Machine.execSelftest agent entry pass s
  | .budgetExceeded agent => Sys2Proof.Machine.execBudgetExceeded agent s
  | .endTickOverrun agent => Sys2Proof.Machine.execEndTickOverrun agent s
  | .canSlotStart ctrl entry => Sys2Proof.Machine.execCanSlotStart ctrl entry s
  | .canSlotEnd ctrl => Sys2Proof.Machine.execCanSlotEnd ctrl s
  | .ethSlotStart port entry => Sys2Proof.Machine.execEthSlotStart port entry s
  | .nymilSendEntry send => Sys2Proof.Machine.execNymilSendEntry send s
  | .nymilApplyEntry entry => Sys2Proof.Machine.execNymilApplyEntry entry s
  | .add core w32 d a b => Sys2Proof.Machine.execAdd core w32 d a b s
  | .sub core w32 d a b => Sys2Proof.Machine.execSub core w32 d a b s
  | .shl core w32 d a b => Sys2Proof.Machine.execShl core w32 d a b s
  | .shr core w32 d a b => Sys2Proof.Machine.execShr core w32 d a b s
  | .sar core w32 d a b => Sys2Proof.Machine.execSar core w32 d a b s
  | .mul core w32 d a b => Sys2Proof.Machine.execMul core w32 d a b s
  | .divs core w32 d a b => Sys2Proof.Machine.execDivs core w32 d a b s
  | .divu core w32 d a b => Sys2Proof.Machine.execDivu core w32 d a b s
  | .mods core w32 d a b => Sys2Proof.Machine.execMods core w32 d a b s
  | .modu core w32 d a b => Sys2Proof.Machine.execModu core w32 d a b s
  | .and core d a b => Sys2Proof.Machine.execAnd core d a b s
  | .ior core d a b => Sys2Proof.Machine.execIor core d a b s
  | .xor core d a b => Sys2Proof.Machine.execXor core d a b s
  | .cmplt core d a b => Sys2Proof.Machine.execCmplt core d a b s
  | .cmpltu core d a b => Sys2Proof.Machine.execCmpltu core d a b s
  | .cmpeq core d a b => Sys2Proof.Machine.execCmpeq core d a b s
  | .min core d a b => Sys2Proof.Machine.execMin core d a b s
  | .max core d a b => Sys2Proof.Machine.execMax core d a b s
  | .mulhs core d a b => Sys2Proof.Machine.execMulhs core d a b s
  | .mulhu core d a b => Sys2Proof.Machine.execMulhu core d a b s
  | .gets core d k => Sys2Proof.Machine.execGets core d k s
  | .puts core a k => Sys2Proof.Machine.execPuts core a k s
  | .addk core d a k => Sys2Proof.Machine.execAddk core d a k s
  | .andk core d a k => Sys2Proof.Machine.execAndk core d a k s
  | .iork core d a k => Sys2Proof.Machine.execIork core d a k s
  | .xork core d a k => Sys2Proof.Machine.execXork core d a k s
  | .cmpltk core d a k => Sys2Proof.Machine.execCmpltk core d a k s
  | .shk core kind w32 d a amount => Sys2Proof.Machine.execShk core kind w32 d a amount s
  | .lih core d k => Sys2Proof.Machine.execLih core d k s
  | .fadd core f64 d a b => Sys2Proof.Machine.execFadd core f64 d a b s
  | .fsub core f64 d a b => Sys2Proof.Machine.execFsub core f64 d a b s
  | .fmul core f64 d a b => Sys2Proof.Machine.execFmul core f64 d a b s
  | .fmin core f64 d a b => Sys2Proof.Machine.execFmin core f64 d a b s
  | .fmax core f64 d a b => Sys2Proof.Machine.execFmax core f64 d a b s
  | .fcmpeq core f64 d a b => Sys2Proof.Machine.execFcmpeq core f64 d a b s
  | .fcmplt core f64 d a b => Sys2Proof.Machine.execFcmplt core f64 d a b s
  | .fcmple core f64 d a b => Sys2Proof.Machine.execFcmple core f64 d a b s
  | .fdiv core f64 d a b => Sys2Proof.Machine.execFdiv core f64 d a b s
  | .fneg core f64 d a => Sys2Proof.Machine.execFneg core f64 d a s
  | .fabs core f64 d a => Sys2Proof.Machine.execFabs core f64 d a s
  | .fsqrt core f64 d a => Sys2Proof.Machine.execFsqrt core f64 d a s
  | .fma core f64 d a b c => Sys2Proof.Machine.execFma core f64 d a b c s
  | .fms core f64 d a b c => Sys2Proof.Machine.execFms core f64 d a b c s
  | .fnma core f64 d a b c => Sys2Proof.Machine.execFnma core f64 d a b c s
  | .f64F32 core d a => Sys2Proof.Machine.execF64F32 core d a s
  | .f32F64 core d a => Sys2Proof.Machine.execF32F64 core d a s
  | .f64I64 core d a => Sys2Proof.Machine.execF64I64 core d a s
  | .f32I64 core d a => Sys2Proof.Machine.execF32I64 core d a s
  | .i64F64t core d a => Sys2Proof.Machine.execI64F64t core d a s
  | .i64F32t core d a => Sys2Proof.Machine.execI64F32t core d a s
  | .i64F64n core d a => Sys2Proof.Machine.execI64F64n core d a s
  | .i64F32n core d a => Sys2Proof.Machine.execI64F32n core d a s
  | .l8s core d a k => Sys2Proof.Machine.execL8s core d a k s
  | .l8u core d a k => Sys2Proof.Machine.execL8u core d a k s
  | .l16s core d a k => Sys2Proof.Machine.execL16s core d a k s
  | .l16u core d a k => Sys2Proof.Machine.execL16u core d a k s
  | .l32s core d a k => Sys2Proof.Machine.execL32s core d a k s
  | .l32u core d a k => Sys2Proof.Machine.execL32u core d a k s
  | .l64 core d a k => Sys2Proof.Machine.execL64 core d a k s
  | .ls8s core d a k => Sys2Proof.Machine.execLs8s core d a k s
  | .ls8u core d a k => Sys2Proof.Machine.execLs8u core d a k s
  | .ls16s core d a k => Sys2Proof.Machine.execLs16s core d a k s
  | .ls16u core d a k => Sys2Proof.Machine.execLs16u core d a k s
  | .ls32s core d a k => Sys2Proof.Machine.execLs32s core d a k s
  | .ls32u core d a k => Sys2Proof.Machine.execLs32u core d a k s
  | .ls64 core d a k => Sys2Proof.Machine.execLs64 core d a k s
  | .s8 core t a k => Sys2Proof.Machine.execS8 core t a k s
  | .s16 core t a k => Sys2Proof.Machine.execS16 core t a k s
  | .s32 core t a k => Sys2Proof.Machine.execS32 core t a k s
  | .s64 core t a k => Sys2Proof.Machine.execS64 core t a k s
  | .ss8 core t a k => Sys2Proof.Machine.execSs8 core t a k s
  | .ss16 core t a k => Sys2Proof.Machine.execSs16 core t a k s
  | .ss32 core t a k => Sys2Proof.Machine.execSs32 core t a k s
  | .ss64 core t a k => Sys2Proof.Machine.execSs64 core t a k s
  | .bmv core toShared countM1 sharedReg localReg => Sys2Proof.Machine.execBmv core toShared countM1 sharedReg localReg s
  | .bcEq core a b off => Sys2Proof.Machine.execBcEq core a b off s
  | .bcNe core a b off => Sys2Proof.Machine.execBcNe core a b off s
  | .bcLts core a b off => Sys2Proof.Machine.execBcLts core a b off s
  | .bcGes core a b off => Sys2Proof.Machine.execBcGes core a b off s
  | .bcLtu core a b off => Sys2Proof.Machine.execBcLtu core a b off s
  | .bcGeu core a b off => Sys2Proof.Machine.execBcGeu core a b off s
  | .go core off => Sys2Proof.Machine.execGo core off s
  | .call core off => Sys2Proof.Machine.execCall core off s
  | .gor core a k => Sys2Proof.Machine.execGor core a k s
  | .callr core a k => Sys2Proof.Machine.execCallr core a k s
  | .ret core => Sys2Proof.Machine.execRet core s
  | .retb core => Sys2Proof.Machine.execRetb core s
  | .endEntry core => Sys2Proof.Machine.execEndEntry core s
  | .callb core a off => Sys2Proof.Machine.execCallb core a off s
  | .illegalEncoding core word => Sys2Proof.Machine.execIllegalEncoding core word s
  | .sysBad core service arg => Sys2Proof.Machine.execSysBad core service arg s
  | .qPut core arg => Sys2Proof.Machine.execQPut core arg s
  | .qGet core arg => Sys2Proof.Machine.execQGet core arg s
  | .qStat core arg => Sys2Proof.Machine.execQStat core arg s
  | .evtRaise core arg => Sys2Proof.Machine.execEvtRaise core arg s
  | .evtArg core arg => Sys2Proof.Machine.execEvtArg core arg s
  | .regRd core arg => Sys2Proof.Machine.execRegRd core arg s
  | .regWr core arg => Sys2Proof.Machine.execRegWr core arg s
  | .recRaise core arg => Sys2Proof.Machine.execRecRaise core arg s
  | .timeRd core arg => Sys2Proof.Machine.execTimeRd core arg s
  | .scrubStep array => Sys2Proof.Machine.execScrubStep array s
  | .scrubLate array => Sys2Proof.Machine.execScrubLate array s
  | .coldRestartToRun req => Sys2Proof.Machine.execColdRestartToRun req s
  | .warmRestartToRun req => Sys2Proof.Machine.execWarmRestartToRun req s
  | .coldRestartToTacking req => Sys2Proof.Machine.execColdRestartToTacking req s
  | .warmRestartToTacking req => Sys2Proof.Machine.execWarmRestartToTacking req s
  | .stop req => Sys2Proof.Machine.execStop req s
  | .leaveTackingForRun req => Sys2Proof.Machine.execLeaveTackingForRun req s
  | .enterTackingFromRun req => Sys2Proof.Machine.execEnterTackingFromRun req s
  | .autoStart => Sys2Proof.Machine.execAutoStart s
  | .forceSet req => Sys2Proof.Machine.execForceSet req s
  | .forceRelease req => Sys2Proof.Machine.execForceRelease req s
  | .releaseAll req => Sys2Proof.Machine.execReleaseAll req s
  | .verify req => Sys2Proof.Machine.execVerify req s
  | .activate req => Sys2Proof.Machine.execActivate req s
  | .prepare req => Sys2Proof.Machine.execPrepare req s
  | .commit req => Sys2Proof.Machine.execCommit req s
  | .abort req => Sys2Proof.Machine.execAbort req s
  | .revert req => Sys2Proof.Machine.execRevert req s
  | .clear req => Sys2Proof.Machine.execClear req s
  | .verificationEnd => Sys2Proof.Machine.execVerificationEnd s
  | .patternLoadEnd => Sys2Proof.Machine.execPatternLoadEnd s
  | .prepareTimeout => Sys2Proof.Machine.execPrepareTimeout s
  | .prepareLoadEnd loaded => Sys2Proof.Machine.execPrepareLoadEnd loaded s
  | .hold req channel => Sys2Proof.Machine.execHold req channel s
  | .close req channel => Sys2Proof.Machine.execClose req channel s
  | .swap req channel => Sys2Proof.Machine.execSwap req channel s
  | .storeWindowWrite req offset value => Sys2Proof.Machine.execStoreWindowWrite req offset value s
  | .problemWindowWrite req offset value => Sys2Proof.Machine.execProblemWindowWrite req offset value s
  | .arm req => Sys2Proof.Machine.execArm req s
  | .lpeBobStop req => Sys2Proof.Machine.execLpeBobStop req s
  | .bobbinClear req => Sys2Proof.Machine.execBobbinClear req s
  | .qpDisable req ctx => Sys2Proof.Machine.execQpDisable req ctx s
  | .qpEnable req ctx => Sys2Proof.Machine.execQpEnable req ctx s
  | .qpClearWarm req ctx => Sys2Proof.Machine.execQpClearWarm req ctx s
  | .disableCopyEnd ctx => Sys2Proof.Machine.execDisableCopyEnd ctx s
  | .solveEnd => Sys2Proof.Machine.execSolveEnd s
  | .qpDeadline => Sys2Proof.Machine.execQpDeadline s
  | .sweep meas => Sys2Proof.Machine.execSweep meas s
  | .testPulse ch => Sys2Proof.Machine.execTestPulse ch s
  | .shortGnd ch => Sys2Proof.Machine.execShortGnd ch s
  | .testSample ch mv ua inputUa => Sys2Proof.Machine.execTestSample ch mv ua inputUa s
  | .groupTest g => Sys2Proof.Machine.execGroupTest g s
  | .groupTestSample g busMv currentMa => Sys2Proof.Machine.execGroupTestSample g busMv currentMa s
  | .grpOverload g currentMa => Sys2Proof.Machine.execGrpOverload g currentMa s
  | .fsLow supply mv => Sys2Proof.Machine.execFsLow supply mv s
  | .fsCutoff supply => Sys2Proof.Machine.execFsCutoff supply s
  | .fsReturn supply => Sys2Proof.Machine.execFsReturn supply s
  | .cloReadback conv terminalMv tempC => Sys2Proof.Machine.execCloReadback conv terminalMv tempC s
  | .cloStarted out => Sys2Proof.Machine.execCloStarted out s
  | .compliance out => Sys2Proof.Machine.execCompliance out s
  | .linkLost out => Sys2Proof.Machine.execLinkLost out s
  | .thermal out tempC => Sys2Proof.Machine.execThermal out tempC s
  | .discrepancy input => Sys2Proof.Machine.execDiscrepancy input s
  | .resetHeld rst => Sys2Proof.Machine.execResetHeld rst s
  | .disconnectDrop g => Sys2Proof.Machine.execDisconnectDrop g s
  | .supplyFail rail => Sys2Proof.Machine.execSupplyFail rail s
  | .clockVote refHz monHz rcHz => Sys2Proof.Machine.execClockVote refHz monHz rcHz s
  | .monitorSelftest test pass => Sys2Proof.Machine.execMonitorSelftest test pass s
  | .confirm req => Sys2Proof.Machine.execConfirm req s
  | .clearHalt req => Sys2Proof.Machine.execClearHalt req s
  | .safCancel req => Sys2Proof.Machine.execSafCancel req s
  | .checkWindowExpired => Sys2Proof.Machine.execCheckWindowExpired s
  | .pdCopy port set record => Sys2Proof.Machine.execPdCopy port set record s
  | .pdSingle set => Sys2Proof.Machine.execPdSingle set s
  | .pdStale set => Sys2Proof.Machine.execPdStale set s
  | .tpMessage conn path message => Sys2Proof.Machine.execTpMessage conn path message s
  | .tpTimeout conn => Sys2Proof.Machine.execTpTimeout conn s
  | .tpCrcLimit conn => Sys2Proof.Machine.execTpCrcLimit conn s
  | .recover req ctrl => Sys2Proof.Machine.execRecover req ctrl s
  | .clearCounts req ctrl => Sys2Proof.Machine.execClearCounts req ctrl s
  | .canArbitration ctrl moment => Sys2Proof.Machine.execCanArbitration ctrl moment s
  | .canFrameSent ctrl echoes => Sys2Proof.Machine.execCanFrameSent ctrl echoes s
  | .canFrameReceived ctrl frame own => Sys2Proof.Machine.execCanFrameReceived ctrl frame own s
  | .canError ctrl kind effect place => Sys2Proof.Machine.execCanError ctrl kind effect place s
  | .busOffRecoveryEnd ctrl => Sys2Proof.Machine.execBusOffRecoveryEnd ctrl s
  | .integrationEnd ctrl => Sys2Proof.Machine.execIntegrationEnd ctrl s
  | .canProtocolExc ctrl => Sys2Proof.Machine.execCanProtocolExc ctrl s
  | .mbLockWrite req ctrl value => Sys2Proof.Machine.execMbLockWrite req ctrl value s
  | .ethFrameReceived port frame status => Sys2Proof.Machine.execEthFrameReceived port frame status s
  | .ethLinkUp port speed full matched => Sys2Proof.Machine.execEthLinkUp port speed full matched s
  | .ethLinkDown port => Sys2Proof.Machine.execEthLinkDown port s
  | .unscheduledSend port => Sys2Proof.Machine.execUnscheduledSend port s
  | .ethMacsecSecured install => Sys2Proof.Machine.execEthMacsecSecured install s
  | .ethMacsecLost port => Sys2Proof.Machine.execEthMacsecLost port s
  | .ptpSync port offsetNs delayNs incr => Sys2Proof.Machine.execPtpSync port offsetNs delayNs incr s
  | .ptpAnnounceTimeout => Sys2Proof.Machine.execPtpAnnounceTimeout s
  | .ptpIncrLoWrite req value => Sys2Proof.Machine.execPtpIncrLoWrite req value s
  | .ptpIncrHiWrite req value => Sys2Proof.Machine.execPtpIncrHiWrite req value s
  | .step req => Sys2Proof.Machine.execStep req s
  | .rebase req => Sys2Proof.Machine.execRebase req s
  | .ptpCancel req => Sys2Proof.Machine.execPtpCancel req s
  | .ptpTrigger k => Sys2Proof.Machine.execPtpTrigger k s
  | .capture ch rising ageNs => Sys2Proof.Machine.execCapture ch rising ageNs s
  | .captureRead req ch => Sys2Proof.Machine.execCaptureRead req ch s
  | .ownSenseEdge level => Sys2Proof.Machine.execOwnSenseEdge level s
  | .nymilLinkUp => Sys2Proof.Machine.execNymilLinkUp s
  | .nymilLinkLost lane => Sys2Proof.Machine.execNymilLinkLost lane s
  | .nymilPacket pkt => Sys2Proof.Machine.execNymilPacket pkt s
  | .epochDiscard => Sys2Proof.Machine.execEpochDiscard s
  | .partnerReadyLost => Sys2Proof.Machine.execPartnerReadyLost s
  | .pairMessage port station msg => Sys2Proof.Machine.execPairMessage port station msg s
  | .witnessProbeTimeout station qpos qseq => Sys2Proof.Machine.execWitnessProbeTimeout station qpos qseq s
  | .witWaitExpiry => Sys2Proof.Machine.execWitWaitExpiry s
  | .isolatedRound => Sys2Proof.Machine.execIsolatedRound s
  | .claim req => Sys2Proof.Machine.execClaim req s
  | .release req => Sys2Proof.Machine.execRelease req s
  | .witness req => Sys2Proof.Machine.execWitness req s
  | .eventRaise code source payload => Sys2Proof.Machine.execEventRaise code source payload s
  | .recordCommit => Sys2Proof.Machine.execRecordCommit s
  | .timeMark req => Sys2Proof.Machine.execTimeMark req s
  | .timeMarkPeriodic => Sys2Proof.Machine.execTimeMarkPeriodic s
  | .panelRender => Sys2Proof.Machine.execPanelRender s
  | .panelUpdateStart ntcQuarterC => Sys2Proof.Machine.execPanelUpdateStart ntcQuarterC s
  | .panelFrame => Sys2Proof.Machine.execPanelFrame s
  | .panelUpdateCommit => Sys2Proof.Machine.execPanelUpdateCommit s
  | .pnlRailFault rail => Sys2Proof.Machine.execPnlRailFault rail s
  | .railFaultRetry => Sys2Proof.Machine.execRailFaultRetry s
  | .refresh req => Sys2Proof.Machine.execRefresh req s
  | .pnlDisable req => Sys2Proof.Machine.execPnlDisable req s
  | .pnlEnable req => Sys2Proof.Machine.execPnlEnable req s
  | .refreshInterval => Sys2Proof.Machine.execRefreshInterval s
  | .watch req => Sys2Proof.Machine.execWatch req s
  | .watchCancel req => Sys2Proof.Machine.execWatchCancel req s
  | .watchPreparation wakeBits => Sys2Proof.Machine.execWatchPreparation wakeBits s
  | .watchEntry wakeAt offFailed => Sys2Proof.Machine.execWatchEntry wakeAt offFailed s
  | .watchSample inputMv fsaMv => Sys2Proof.Machine.execWatchSample inputMv fsaMv s
  | .wakePin => Sys2Proof.Machine.execWakePin s
  | .wakeAlarm => Sys2Proof.Machine.execWakeAlarm s
  | .wakeFeed => Sys2Proof.Machine.execWakeFeed s
  | .wake extraTicks => Sys2Proof.Machine.execWake extraTicks s
  | .wakeRegRetry => Sys2Proof.Machine.execWakeRegRetry s
  | .wakeRegReset => Sys2Proof.Machine.execWakeRegReset s
  | .refclkLost => Sys2Proof.Machine.execRefclkLost s
  | .wakeTimeSet master => Sys2Proof.Machine.execWakeTimeSet master s
  | .watchBrownout => Sys2Proof.Machine.execWatchBrownout s
  | .pwrVoteWrite req core value => Sys2Proof.Machine.execPwrVoteWrite req core value s
  | .pwrDomainFault domain offFailed => Sys2Proof.Machine.execPwrDomainFault domain offFailed s
  | .updBegin req region => Sys2Proof.Machine.execUpdBegin req region s
  | .updResume req region => Sys2Proof.Machine.execUpdResume req region s
  | .updFinish req region => Sys2Proof.Machine.execUpdFinish req region s
  | .updArm req region => Sys2Proof.Machine.execUpdArm req region s
  | .updDisarm req region => Sys2Proof.Machine.execUpdDisarm req region s
  | .updActivateNow req region => Sys2Proof.Machine.execUpdActivateNow req region s
  | .updCancel req region => Sys2Proof.Machine.execUpdCancel req region s
  | .updVerifyEnd region => Sys2Proof.Machine.execUpdVerifyEnd region s
  | .updBlock message readBack => Sys2Proof.Machine.execUpdBlock message readBack s
  | .enrol req wakeMs => Sys2Proof.Machine.execEnrol req wakeMs s
  | .rotate req => Sys2Proof.Machine.execRotate req s
  | .dbgChallenge req => Sys2Proof.Machine.execDbgChallenge req s
  | .dbgUnlock req => Sys2Proof.Machine.execDbgUnlock req s
  | .lock req => Sys2Proof.Machine.execLock req s
  | .cakSet req => Sys2Proof.Machine.execCakSet req s
  | .cakClear req => Sys2Proof.Machine.execCakClear req s
  | .nonceExpiry => Sys2Proof.Machine.execNonceExpiry s
  | .authLockoutEnd => Sys2Proof.Machine.execAuthLockoutEnd s
  | .sessionConnect signedByOwner proofOfPossession dateOk => Sys2Proof.Machine.execSessionConnect signedByOwner proofOfPossession dateOk s
  | .trngFail test => Sys2Proof.Machine.execTrngFail test s
  | .feedRise feed mv => Sys2Proof.Machine.execFeedRise feed mv s
  | .resetRelease straps refOk => Sys2Proof.Machine.execResetRelease straps refOk s
  | .rstPin low => Sys2Proof.Machine.execRstPin low s
  | .feedLoss mvA mvB => Sys2Proof.Machine.execFeedLoss mvA mvB s
  | .holdUpEnd storeExhausted => Sys2Proof.Machine.execHoldUpEnd storeExhausted s
  | .supervisorWdt => Sys2Proof.Machine.execSupervisorWdt s
  | .brownout => Sys2Proof.Machine.execBrownout s
  | .vioLost => Sys2Proof.Machine.execVioLost s
  | .vioRestored => Sys2Proof.Machine.execVioRestored s
  | .settingsWrite req len => Sys2Proof.Machine.execSettingsWrite req len s
  | .settingsBlank req => Sys2Proof.Machine.execSettingsBlank req s
  | .resetCmd req => Sys2Proof.Machine.execResetCmd req s
  | .settingsWriteEnd outcome => Sys2Proof.Machine.execSettingsWriteEnd outcome s
  | .cmpRead addr count => Sys2Proof.Machine.execCmpRead addr count s
  | .cmpWrite addr data => Sys2Proof.Machine.execCmpWrite addr data s
  | .inPost req len => Sys2Proof.Machine.execInPost req len s
  | .outPost req len => Sys2Proof.Machine.execOutPost req len s
  | .inTake req postSameCycle => Sys2Proof.Machine.execInTake req postSameCycle s
  | .outTake req postSameCycle => Sys2Proof.Machine.execOutTake req postSameCycle s
  | .tempHigh baseQuarterC dieC => Sys2Proof.Machine.execTempHigh baseQuarterC dieC s
  | .tempLimit baseQuarterC dieC => Sys2Proof.Machine.execTempLimit baseQuarterC dieC s
  | .thermalShutdown => Sys2Proof.Machine.execThermalShutdown s
  | .thermalRestart => Sys2Proof.Machine.execThermalRestart s
  | .loopbackStart req target depth count => Sys2Proof.Machine.execLoopbackStart req target depth count s
  | .loopbackStop req => Sys2Proof.Machine.execLoopbackStop req s
  | .loopbackItem outcome => Sys2Proof.Machine.execLoopbackItem outcome s
  | .eccInject req => Sys2Proof.Machine.execEccInject req s
  | .tapInstruction code => Sys2Proof.Machine.execTapInstruction code s
  | .ptestEntry => Sys2Proof.Machine.execPtestEntry s
  | .ptAuth sigR sigS => Sys2Proof.Machine.execPtAuth sigR sigS s
  | .ptFlash slot image => Sys2Proof.Machine.execPtFlash slot image s
  | .registerRead req addr nbytes => Sys2Proof.Machine.execRegisterRead req addr nbytes s
  | .testCycleEnd => Sys2Proof.Machine.execTestCycleEnd s
  | .rtcCrystalStopped => Sys2Proof.Machine.execRtcCrystalStopped s
  | .ptestAuthTimeout => Sys2Proof.Machine.execPtestAuthTimeout s
  | .tempBelowThreshold baseQuarterC dieC => Sys2Proof.Machine.execTempBelowThreshold baseQuarterC dieC s
  | .ptpMessageInterval port kind => Sys2Proof.Machine.execPtpMessageInterval port kind s
  | .domainReportsOn domain => Sys2Proof.Machine.execDomainReportsOn domain s

end Sys2Proof.Machine
end

