-- ==== Sys2Proof/Machine/Pins.lean ====
section
/-!
DEFINITION. The levels of the J1 outputs, as far as the state gives them (R218, R283, R325, R372, R438, R444, R456, R479,
Table 18.4).
-/

namespace Sys2Proof.Machine

/-- J1 outputs (Table 18.4); `panel` stands for the panel's outputs but PNL_SDCE_N. -/
inductive J1Out where
  | canTxd (n : Nat) | canStb (n : Nat) | panel | panelCe | nymilTx (lane : Nat) | ownHold | cmpMiso
  | setSclk | setMosi | setCsN | pwrGood | modOk | tdo
  deriving DecidableEq, Repr

/-- What an output does: not driven, a level, or bits that its function sends or a data register holds. -/
inductive J1Level where
  | highZ | low | high | signal
  deriving DecidableEq, Repr

def levelOf (b : Bool) : J1Level := if b then .high else .low

/-- The module drives its outputs: not while it is unpowered or in reset, nor while VIO is out of range (R444, R456). -/
def State.drivesJ1 (s : State) : Bool := s.alive && !s.rst.vioOut

/-- The level that an output's own function gives from reset release on (R444). CANn_TXD of a controller that may not drive
is recessive; MOD_OK is open-drain and conducts for OK; CMP_MISO and TDO are driven only within a transaction or shift,
which the model has as one step. A module without a panel leaves the panel's outputs high-impedance (R366). -/
def State.j1Function (s : State) : J1Out → J1Level
  | .canTxd n => if s.canMode n = 0 ∨ s.canMode n = 3 ∨ s.canLoop n = 1 then .high else .signal
  | .canStb n => levelOf (s.canStb n)
  | .panel =>
    if !s.hasPanel then .highZ
    else if s.pnl.run.isSome && s.pnlState != pnlPowerOn && !s.pnl.finished then .signal else .low
  | .panelCe =>
    if !s.hasPanel then .highZ
    else if s.pnl.run.isSome && s.pnlState != pnlPowerOn && !s.pnl.finished then .signal else .high
  | .nymilTx _ => if s.domainOn domLink then .signal else .highZ
  | .ownHold => (s.pair.ownHold.map levelOf).getD .low
  | .cmpMiso => .highZ
  | .setSclk => if s.rst.writing.isSome then .signal else .low
  | .setMosi => if s.rst.writing.isSome then .signal else .low
  | .setCsN => if s.rst.writing.isSome then .signal else .high
  | .pwrGood => levelOf s.rst.pwrGood
  | .modOk => if s.isSet F.SAF_STATUS_MOD_OK then .low else .highZ
  | .tdo => .highZ

/-- Does an output have a boundary cell: every J1 signal but the Nymil lanes and the TAP pins (R479)? -/
def J1Out.hasCell : J1Out → Bool
  | .nymilTx _ => false
  | .tdo => false
  | _ => true

/-- The level of a J1 output: HIGHZ takes the cells' outputs off, EXTEST and CLAMP drive them from the boundary register,
which no command shifts. -/
def State.j1 (s : State) (o : J1Out) : J1Level :=
  if !s.drivesJ1 then .highZ
  else if o.hasCell && s.dgt.ir == tapHighz then .highZ
  else if o.hasCell && (s.dgt.ir == tapExtest || s.dgt.ir == tapClamp) then .signal
  else s.j1Function o

end Sys2Proof.Machine
end

