-- ==== Sys2Proof/WellFormed.lean ====
section
/-!
DEFINITION. Well-formed commands: every operand that names a unit names one that the module has (Table 1.1, R33, R14).
-/

namespace Sys2Proof

/-- A requester that exists: application code runs on cores 0 to 7. -/
def Requester.wellFormed : Requester → Bool
  | .supervisor => true
  | .application core => decide (core < 8)
  | .engService => true
  | .cmp => true

/-- The units that a command names exist; a raise carries at most eight payload words (R355). -/
def Instr.wellFormed : Instr → Bool
  | .registerWrite req _ _ _ => req.wellFormed
  | .glbAccerrWrite req _ => req.wellFormed
  | .stitchBoundary => true
  | .coreSeg core _ => decide (core < 8)
  | .selvSeg core _ => decide (core < 8)
  | .evtSlot core _ => decide (core < 8)
  | .loopGrp lane _ => decide (lane < 8)
  | .qpStart _ => true
  | .outApply => true
  | .retainCommit => true
  | .selftest agent _ _ => decide (agent < 29)
  | .budgetExceeded agent => decide (agent < 29)
  | .endTickOverrun agent => decide (agent < 29)
  | .canSlotStart ctrl _ => decide (ctrl < 8)
  | .canSlotEnd ctrl => decide (ctrl < 8)
  | .ethSlotStart port _ => decide (port < 2)
  | .nymilSendEntry _ => true
  | .nymilApplyEntry _ => true
  | .add core _ _ _ _ => decide (core < 8)
  | .sub core _ _ _ _ => decide (core < 8)
  | .shl core _ _ _ _ => decide (core < 8)
  | .shr core _ _ _ _ => decide (core < 8)
  | .sar core _ _ _ _ => decide (core < 8)
  | .mul core _ _ _ _ => decide (core < 8)
  | .divs core _ _ _ _ => decide (core < 8)
  | .divu core _ _ _ _ => decide (core < 8)
  | .mods core _ _ _ _ => decide (core < 8)
  | .modu core _ _ _ _ => decide (core < 8)
  | .and core _ _ _ => decide (core < 8)
  | .ior core _ _ _ => decide (core < 8)
  | .xor core _ _ _ => decide (core < 8)
  | .cmplt core _ _ _ => decide (core < 8)
  | .cmpltu core _ _ _ => decide (core < 8)
  | .cmpeq core _ _ _ => decide (core < 8)
  | .min core _ _ _ => decide (core < 8)
  | .max core _ _ _ => decide (core < 8)
  | .mulhs core _ _ _ => decide (core < 8)
  | .mulhu core _ _ _ => decide (core < 8)
  | .gets core _ _ => decide (core < 8)
  | .puts core _ _ => decide (core < 8)
  | .addk core _ _ _ => decide (core < 8)
  | .andk core _ _ _ => decide (core < 8)
  | .iork core _ _ _ => decide (core < 8)
  | .xork core _ _ _ => decide (core < 8)
  | .cmpltk core _ _ _ => decide (core < 8)
  | .shk core _ _ _ _ _ => decide (core < 8)
  | .lih core _ _ => decide (core < 8)
  | .fadd core _ _ _ _ => decide (core < 8)
  | .fsub core _ _ _ _ => decide (core < 8)
  | .fmul core _ _ _ _ => decide (core < 8)
  | .fmin core _ _ _ _ => decide (core < 8)
  | .fmax core _ _ _ _ => decide (core < 8)
  | .fcmpeq core _ _ _ _ => decide (core < 8)
  | .fcmplt core _ _ _ _ => decide (core < 8)
  | .fcmple core _ _ _ _ => decide (core < 8)
  | .fdiv core _ _ _ _ => decide (core < 8)
  | .fneg core _ _ _ => decide (core < 8)
  | .fabs core _ _ _ => decide (core < 8)
  | .fsqrt core _ _ _ => decide (core < 8)
  | .fma core _ _ _ _ _ => decide (core < 8)
  | .fms core _ _ _ _ _ => decide (core < 8)
  | .fnma core _ _ _ _ _ => decide (core < 8)
  | .f64F32 core _ _ => decide (core < 8)
  | .f32F64 core _ _ => decide (core < 8)
  | .f64I64 core _ _ => decide (core < 8)
  | .f32I64 core _ _ => decide (core < 8)
  | .i64F64t core _ _ => decide (core < 8)
  | .i64F32t core _ _ => decide (core < 8)
  | .i64F64n core _ _ => decide (core < 8)
  | .i64F32n core _ _ => decide (core < 8)
  | .l8s core _ _ _ => decide (core < 8)
  | .l8u core _ _ _ => decide (core < 8)
  | .l16s core _ _ _ => decide (core < 8)
  | .l16u core _ _ _ => decide (core < 8)
  | .l32s core _ _ _ => decide (core < 8)
  | .l32u core _ _ _ => decide (core < 8)
  | .l64 core _ _ _ => decide (core < 8)
  | .ls8s core _ _ _ => decide (core < 8)
  | .ls8u core _ _ _ => decide (core < 8)
  | .ls16s core _ _ _ => decide (core < 8)
  | .ls16u core _ _ _ => decide (core < 8)
  | .ls32s core _ _ _ => decide (core < 8)
  | .ls32u core _ _ _ => decide (core < 8)
  | .ls64 core _ _ _ => decide (core < 8)
  | .s8 core _ _ _ => decide (core < 8)
  | .s16 core _ _ _ => decide (core < 8)
  | .s32 core _ _ _ => decide (core < 8)
  | .s64 core _ _ _ => decide (core < 8)
  | .ss8 core _ _ _ => decide (core < 8)
  | .ss16 core _ _ _ => decide (core < 8)
  | .ss32 core _ _ _ => decide (core < 8)
  | .ss64 core _ _ _ => decide (core < 8)
  | .bmv core _ _ _ _ => decide (core < 8)
  | .bcEq core _ _ _ => decide (core < 8)
  | .bcNe core _ _ _ => decide (core < 8)
  | .bcLts core _ _ _ => decide (core < 8)
  | .bcGes core _ _ _ => decide (core < 8)
  | .bcLtu core _ _ _ => decide (core < 8)
  | .bcGeu core _ _ _ => decide (core < 8)
  | .go core _ => decide (core < 8)
  | .call core _ => decide (core < 8)
  | .gor core _ _ => decide (core < 8)
  | .callr core _ _ => decide (core < 8)
  | .ret core => decide (core < 8)
  | .retb core => decide (core < 8)
  | .endEntry core => decide (core < 8)
  | .callb core _ _ => decide (core < 8)
  | .illegalEncoding core _ => decide (core < 8)
  | .sysBad core _ _ => decide (core < 8)
  | .qPut core _ => decide (core < 8)
  | .qGet core _ => decide (core < 8)
  | .qStat core _ => decide (core < 8)
  | .evtRaise core _ => decide (core < 8)
  | .evtArg core _ => decide (core < 8)
  | .regRd core _ => decide (core < 8)
  | .regWr core _ => decide (core < 8)
  | .recRaise core _ => decide (core < 8)
  | .timeRd core _ => decide (core < 8)
  | .scrubStep array => decide (array < 46)
  | .scrubLate array => decide (array < 46)
  | .coldRestartToRun req => req.wellFormed
  | .warmRestartToRun req => req.wellFormed
  | .coldRestartToTacking req => req.wellFormed
  | .warmRestartToTacking req => req.wellFormed
  | .stop req => req.wellFormed
  | .leaveTackingForRun req => req.wellFormed
  | .enterTackingFromRun req => req.wellFormed
  | .autoStart => true
  | .forceSet req => req.wellFormed
  | .forceRelease req => req.wellFormed
  | .releaseAll req => req.wellFormed
  | .verify req => req.wellFormed
  | .activate req => req.wellFormed
  | .prepare req => req.wellFormed
  | .commit req => req.wellFormed
  | .abort req => req.wellFormed
  | .revert req => req.wellFormed
  | .clear req => req.wellFormed
  | .verificationEnd => true
  | .patternLoadEnd => true
  | .prepareTimeout => true
  | .prepareLoadEnd _ => true
  | .hold req _ => req.wellFormed
  | .close req _ => req.wellFormed
  | .swap req _ => req.wellFormed
  | .storeWindowWrite req offset _ => req.wellFormed && decide (offset < 1024)
  | .problemWindowWrite req offset _ => req.wellFormed && decide (offset < 32768)
  | .arm req => req.wellFormed
  | .lpeBobStop req => req.wellFormed
  | .bobbinClear req => req.wellFormed
  | .qpDisable req _ => req.wellFormed
  | .qpEnable req _ => req.wellFormed
  | .qpClearWarm req _ => req.wellFormed
  | .disableCopyEnd ctx => decide (ctx < 8)
  | .solveEnd => true
  | .qpDeadline => true
  | .sweep _ => true
  | .testPulse ch => decide (ch < 48)
  | .shortGnd ch => decide (ch < 48)
  | .testSample ch _ _ _ => decide (ch < 48)
  | .groupTest g => decide (g < 6)
  | .groupTestSample g _ _ => decide (g < 6)
  | .grpOverload g _ => decide (g < 6)
  | .fsLow supply _ => decide (supply < 2)
  | .fsCutoff supply => decide (supply < 2)
  | .fsReturn supply => decide (supply < 2)
  | .cloReadback _ _ _ => true
  | .cloStarted out => decide (out < 8)
  | .compliance out => decide (out < 8)
  | .linkLost out => decide (out < 8)
  | .thermal out _ => decide (out < 8)
  | .discrepancy input => decide (input < 48)
  | .resetHeld rst => decide (rst < 17)
  | .disconnectDrop g => decide (g < 6)
  | .supplyFail _ => true
  | .clockVote _ _ _ => true
  | .monitorSelftest _ _ => true
  | .confirm req => req.wellFormed
  | .clearHalt req => req.wellFormed
  | .safCancel req => req.wellFormed
  | .checkWindowExpired => true
  | .pdCopy port set _ => decide (port < 2) && decide (set < 1024)
  | .pdSingle set => decide (set < 1024)
  | .pdStale set => decide (set < 1024)
  | .tpMessage conn _ _ => decide (conn < 32)
  | .tpTimeout conn => decide (conn < 32)
  | .tpCrcLimit conn => decide (conn < 32)
  | .recover req ctrl => req.wellFormed && decide (ctrl < 8)
  | .clearCounts req ctrl => req.wellFormed && decide (ctrl < 8)
  | .canArbitration ctrl _ => decide (ctrl < 8)
  | .canFrameSent ctrl _ => decide (ctrl < 8)
  | .canFrameReceived ctrl _ _ => decide (ctrl < 8)
  | .canError ctrl _ _ _ => decide (ctrl < 8)
  | .busOffRecoveryEnd ctrl => decide (ctrl < 8)
  | .integrationEnd ctrl => decide (ctrl < 8)
  | .canProtocolExc ctrl => decide (ctrl < 8)
  | .mbLockWrite req ctrl _ => req.wellFormed && decide (ctrl < 8)
  | .ethFrameReceived port _ _ => decide (port < 3)
  | .ethLinkUp port _ _ _ => decide (port < 3)
  | .ethLinkDown port => decide (port < 3)
  | .unscheduledSend port => decide (port < 2)
  | .ethMacsecSecured x => decide (x.port < 2) && x.sak.length == 32
  | .ethMacsecLost port => decide (port < 2)
  | .ptpSync port _ _ _ => decide (port < 2)
  | .ptpAnnounceTimeout => true
  | .ptpIncrLoWrite req _ => req.wellFormed
  | .ptpIncrHiWrite req _ => req.wellFormed
  | .step req => req.wellFormed
  | .rebase req => req.wellFormed
  | .ptpCancel req => req.wellFormed
  | .ptpTrigger k => decide (k < 4)
  | .capture ch _ _ => decide (ch < 16)
  | .captureRead req ch => req.wellFormed && decide (ch < 16)
  | .ownSenseEdge _ => true
  | .nymilLinkUp => true
  | .nymilLinkLost lane => decide (lane < 2)
  | .nymilPacket _ => true
  | .epochDiscard => true
  | .partnerReadyLost => true
  | .pairMessage port _ _ => decide (port < 2)
  | .witnessProbeTimeout _ _ _ => true
  | .witWaitExpiry => true
  | .isolatedRound => true
  | .claim req => req.wellFormed
  | .release req => req.wellFormed
  | .witness req => req.wellFormed
  | .eventRaise _ _ payload => decide (payload.length ≤ 8)
  | .recordCommit => true
  | .timeMark req => req.wellFormed
  | .timeMarkPeriodic => true
  | .panelRender => true
  | .panelUpdateStart _ => true
  | .panelFrame => true
  | .panelUpdateCommit => true
  | .pnlRailFault rail => decide (rail < 5)
  | .railFaultRetry => true
  | .refresh req => req.wellFormed
  | .pnlDisable req => req.wellFormed
  | .pnlEnable req => req.wellFormed
  | .refreshInterval => true
  | .watch req => req.wellFormed
  | .watchCancel req => req.wellFormed
  | .watchPreparation _ => true
  | .watchEntry _ _ => true
  | .watchSample _ _ => true
  | .wakePin => true
  | .wakeAlarm => true
  | .wakeFeed => true
  | .wake _ => true
  | .wakeRegRetry => true
  | .wakeRegReset => true
  | .refclkLost => true
  | .wakeTimeSet _ => true
  | .watchBrownout => true
  | .pwrVoteWrite req core _ => req.wellFormed && decide (core < 8)
  | .pwrDomainFault domain _ => decide (domain < 18)
  | .updBegin req _ => req.wellFormed
  | .updResume req _ => req.wellFormed
  | .updFinish req _ => req.wellFormed
  | .updArm req _ => req.wellFormed
  | .updDisarm req _ => req.wellFormed
  | .updActivateNow req _ => req.wellFormed
  | .updCancel req _ => req.wellFormed
  | .updVerifyEnd region => decide (region < 3)
  | .updBlock _ _ => true
  | .enrol req _ => req.wellFormed
  | .rotate req => req.wellFormed
  | .dbgChallenge req => req.wellFormed
  | .dbgUnlock req => req.wellFormed
  | .lock req => req.wellFormed
  | .cakSet req => req.wellFormed
  | .cakClear req => req.wellFormed
  | .nonceExpiry => true
  | .authLockoutEnd => true
  | .sessionConnect _ _ _ => true
  | .trngFail _ => true
  | .feedRise feed _ => decide (feed < 2)
  | .resetRelease _ _ => true
  | .rstPin _ => true
  | .feedLoss _ _ => true
  | .holdUpEnd _ => true
  | .supervisorWdt => true
  | .brownout => true
  | .vioLost => true
  | .vioRestored => true
  | .settingsWrite req _ => req.wellFormed
  | .settingsBlank req => req.wellFormed
  | .resetCmd req => req.wellFormed
  | .settingsWriteEnd _ => true
  | .cmpRead _ _ => true
  | .cmpWrite _ _ => true
  | .inPost req _ => req.wellFormed
  | .outPost req _ => req.wellFormed
  | .inTake req _ => req.wellFormed
  | .outTake req _ => req.wellFormed
  | .tempHigh _ _ => true
  | .tempLimit _ _ => true
  | .thermalShutdown => true
  | .thermalRestart => true
  | .loopbackStart req _ _ _ => req.wellFormed
  | .loopbackStop req => req.wellFormed
  | .loopbackItem _ => true
  | .eccInject req => req.wellFormed
  | .tapInstruction _ => true
  | .ptestEntry => true
  | .ptAuth _ _ => true
  | .ptFlash slot _ => decide (slot < 2)
  | .registerRead req _ _ => req.wellFormed
  | .testCycleEnd => true
  | .rtcCrystalStopped => true
  | .ptestAuthTimeout => true
  | .tempBelowThreshold _ _ => true
  | .ptpMessageInterval port _ => decide (port < 2)
  | .domainReportsOn domain => decide (domain < 18)

end Sys2Proof
end

