-- ==== Sys2Proof/Safety.lean ====
section
/-!
DEFINITION. What counts as a safe run, and the terms in which claims say what a command leaves alone.
-/

namespace Sys2Proof.Machine

/-- Every command that waits is well formed. -/
def State.queueWf (s : State) : Bool := s.pending.all Instr.wellFormed

/-- Memory and register file are in their canonical forms. -/
def State.storesWf (s : State) : Bool := Memory.wf s.mem && Store.wf regReset s.regs

/-! ### Frames -/

/-- The parts of the state: one per field. -/
inductive Part where
  | pending | station | regs | mem | bus | clock | sched | pat | cores | queues | wsig | ecc | tasks | evr | saf | fio
  | lpe | qps | net | can | ptp | pair | pnl | pwr | upd | sec | rst | tmp | dgt | free
  deriving DecidableEq, Repr

/-- A part is as it was: registers, memory and cores by what a read of them gives. -/
def Part.same (s t : State) : Part → Prop
  | .pending => t.pending = s.pending
  | .station => t.station = s.station
  | .regs => ∀ a, t.getR a = s.getR a
  | .mem => ∀ a, t.rdByte a = s.rdByte a
  | .bus => t.bus = s.bus
  | .clock => t.clock = s.clock
  | .sched => t.sched = s.sched
  | .pat => t.pat = s.pat
  | .cores => ∀ c, t.core c = s.core c
  | .queues => ∀ q, t.queueState q = s.queueState q
  | .wsig => t.wsig = s.wsig
  | .ecc => t.ecc = s.ecc
  | .tasks => t.tasks = s.tasks
  | .evr => t.evr = s.evr
  | .saf => t.saf = s.saf
  | .fio => t.fio = s.fio
  | .lpe => t.lpe = s.lpe
  | .qps => t.qps = s.qps
  | .net => t.net = s.net
  | .can => t.can = s.can
  | .ptp => t.ptp = s.ptp
  | .pair => t.pair = s.pair
  | .pnl => t.pnl = s.pnl
  | .pwr => t.pwr = s.pwr
  | .upd => t.upd = s.upd
  | .sec => t.sec = s.sec
  | .rst => t.rst = s.rst
  | .tmp => t.tmp = s.tmp
  | .dgt => t.dgt = s.dgt
  | .free => t.freeCount = s.freeCount

/-- Every part but those named is as it was. -/
def State.keeps (s t : State) (changed : List Part) : Prop := ∀ p, p ∉ changed → p.same s t

/-- Every register but those named reads as it did. -/
def State.regsBut (s t : State) (changed : List Nat) : Prop := ∀ a, a ∉ changed → t.getR a = s.getR a

/-- A state in which a requester's write reaches the register at an address: the register bus is served, the requester
is not the carrier management port, and it may write there (R33). -/
def State.served (s : State) (req : Requester) (a : Nat) : Prop :=
  s.reachable = true ∧ req ≠ .cmp ∧ s.mayWrite req a = true

/-- The same for a read. -/
def State.readable (s : State) (req : Requester) (a : Nat) : Prop :=
  s.reachable = true ∧ req ≠ .cmp ∧ s.mayRead req a = true

/-- An event is raised, and nothing else happens to the recorder. -/
def State.raised (s t : State) (code source : Nat) (payload : List Nat) : Prop :=
  t.evr = (s.raise code source payload).evr

/-! ### Cores -/

/-- Core c executes an entry, and the word at its PC is fetched without an exception. -/
def State.fetches (s : State) (c : Nat) : Prop :=
  c < 8 ∧ (s.agent c).running ≠ none ∧ (s.fetch c (s.core c).pc).1 = none

/-- Core c has the cycles left for a cost in the budget of its entry (R49). -/
def State.affords (s : State) (c cost : Nat) : Prop :=
  ∃ r, (s.agent c).running = some r ∧ (s.core c).cyc + cost ≤ r.entry.budget

/-- The state with whatever the fetch of core c found (R102). -/
def State.fetched (s : State) (c : Nat) : State := (s.fetch c (s.core c).pc).2

/-- The core after an instruction: the next PC, the cycles added. -/
def Core.retire (x : Core) (pc : BitVec 32) (cost : Nat) : Core := { x with pc := pc, cyc := x.cyc + cost }

/-- Core c stands as given; every other core and every part but the cores and those named are as in u. -/
def State.coreIs (u t : State) (c : Nat) (y : Core) (changed : List Part) : Prop :=
  t.core c = y ∧ (∀ j, j ≠ c → t.core j = u.core j) ∧ u.keeps t (.cores :: changed)

end Sys2Proof.Machine
end

