-- ==== Sys2Proof/Certificates/Slice0/Obligations.lean ====
section
/-!
DEFINITION. The statements for the provers.
-/

open Sys2Proof Sys2Proof.Machine

/-! ### Application cores -/

/-- An instruction whose cost passes the entry's budget spends its cycles and does nothing else (R49; the model's choice,
log 31). -/
def Claims.Overspends (c : Nat) (i : Instr) (s : State) (cost : Nat) : Prop :=
  s.affords c 0 → ¬s.affords c cost →
    ∃ t, exec i s = .next t ∧ (s.fetched c).coreIs t c { s.core c with cyc := (s.core c).cyc + cost } []

/-- Core c, in a state that fetches its next instruction and has the cycles for it, executes i: it goes on at pc with
registers y, the cost is added, and nothing else changes but the parts named. -/
def Claims.Executes (c : Nat) (i : Instr) (s : State) (y : Core) (pc : BitVec 32) (cost : Nat) (changed : List Part) :
    Prop :=
  (s.affords c cost → ∃ t, exec i s = .next t ∧ (s.fetched c).coreIs t c (y.retire pc cost) changed) ∧
  Claims.Overspends c i s cost

/-- A register instruction: the next instruction follows, and only core c changes. -/
def Claims.Computes (c : Nat) (i : Instr) (s : State) (y : Core) (cost : Nat) : Prop :=
  Claims.Executes c i s y ((s.core c).pc + 4) cost []

/-- R80: g0 reads 0 and discards writes; every other register reads what was written last; a write changes no other
register. -/
def Obligations.CoreRegisters : Prop :=
  ∀ (x : Core) (r q : GReg) (v : BitVec 64),
    (x.wr r v).rd 0 = 0 ∧ x.wr 0 v = x ∧ (r ≠ 0 → (x.wr r v).rd r = v) ∧ (q ≠ r → (x.wr r v).rd q = x.rd q) ∧
    (x.wr r v).pc = x.pc ∧ (x.wr r v).ib = x.ib ∧ (x.wr r v).fst = x.fst ∧ (x.wr r v).cyc = x.cyc

/-- R89: what the integer instructions of OP 0x01 write, in both forms, with a frame. -/
def Obligations.IntegerResults : Prop :=
  ∀ (c : Nat) (s : State) (d a b : GReg), s.fetches c →
    let x := s.core c
    let p := x.rd a
    let q := x.rd b
    let lo (v : BitVec 64) : BitVec 32 := v.setWidth 32
    let sx (v : BitVec 32) : BitVec 64 := v.signExtend 64
    Claims.Computes c (.add c false d a b) s (x.wr d (p + q)) 1 ∧
    Claims.Computes c (.add c true d a b) s (x.wr d (sx (lo p + lo q))) 1 ∧
    Claims.Computes c (.sub c false d a b) s (x.wr d (p - q)) 1 ∧
    Claims.Computes c (.sub c true d a b) s (x.wr d (sx (lo p - lo q))) 1 ∧
    Claims.Computes c (.and c d a b) s (x.wr d (p &&& q)) 1 ∧
    Claims.Computes c (.ior c d a b) s (x.wr d (p ||| q)) 1 ∧
    Claims.Computes c (.xor c d a b) s (x.wr d (p ^^^ q)) 1 ∧
    Claims.Computes c (.shl c false d a b) s (x.wr d (if 64 ≤ q.toNat then 0 else p <<< q.toNat)) 1 ∧
    Claims.Computes c (.shl c true d a b) s (x.wr d (if 32 ≤ q.toNat then 0 else sx (lo p <<< q.toNat))) 1 ∧
    Claims.Computes c (.shr c false d a b) s (x.wr d (if 64 ≤ q.toNat then 0 else p >>> q.toNat)) 1 ∧
    Claims.Computes c (.shr c true d a b) s (x.wr d (if 32 ≤ q.toNat then 0 else sx (lo p >>> q.toNat))) 1 ∧
    Claims.Computes c (.sar c false d a b) s (x.wr d (p.sshiftRight (Nat.min q.toNat 63))) 1 ∧
    Claims.Computes c (.sar c true d a b) s (x.wr d (sx ((lo p).sshiftRight (Nat.min q.toNat 31)))) 1 ∧
    Claims.Computes c (.cmplt c d a b) s (x.wr d (if p.toInt < q.toInt then 1 else 0)) 1 ∧
    Claims.Computes c (.cmpltu c d a b) s (x.wr d (if p.toNat < q.toNat then 1 else 0)) 1 ∧
    Claims.Computes c (.cmpeq c d a b) s (x.wr d (if p = q then 1 else 0)) 1 ∧
    Claims.Computes c (.min c d a b) s (x.wr d (if p.toInt ≤ q.toInt then p else q)) 1 ∧
    Claims.Computes c (.max c d a b) s (x.wr d (if p.toInt ≤ q.toInt then q else p)) 1

/-- R89: products, quotients and remainders: a divisor of 0 gives 0 and the dividend with IDIV_ZERO; the most negative
value by minus one gives the most positive value and 0 with IDIV_OVF; else the quotient is rounded toward zero and the
remainder has the sign of the dividend. -/
def Obligations.MultiplyDivide : Prop :=
  ∀ (c : Nat) (s : State) (d a b : GReg), s.fetches c →
    let x := s.core c
    let p := x.rd a
    let q := x.rd b
    let lo (v : BitVec 64) : BitVec 32 := v.setWidth 32
    let sx (v : BitVec 32) : BitVec 64 := v.signExtend 64
    let zero (y : Core) : Core := { y with fst := y.fst ||| 0x100#32 }
    let ovf (y : Core) : Core := { y with fst := y.fst ||| 0x200#32 }
    Claims.Computes c (.mul c false d a b) s (x.wr d (p * q)) 3 ∧
    Claims.Computes c (.mul c true d a b) s (x.wr d (sx (lo p * lo q))) 3 ∧
    Claims.Computes c (.mulhu c d a b) s (x.wr d (BitVec.ofNat 64 (p.toNat * q.toNat / 2 ^ 64))) 3 ∧
    Claims.Computes c (.mulhs c d a b) s (x.wr d (BitVec.ofInt 64 (p.toInt * q.toInt / 2 ^ 64))) 3 ∧
    (q = 0 →
      Claims.Computes c (.divs c false d a b) s (zero (x.wr d 0)) 36 ∧
      Claims.Computes c (.divu c false d a b) s (zero (x.wr d 0)) 36 ∧
      Claims.Computes c (.mods c false d a b) s (zero (x.wr d p)) 36 ∧
      Claims.Computes c (.modu c false d a b) s (zero (x.wr d p)) 36) ∧
    (lo q = 0 →
      Claims.Computes c (.divs c true d a b) s (zero (x.wr d 0)) 36 ∧
      Claims.Computes c (.divu c true d a b) s (zero (x.wr d 0)) 36 ∧
      Claims.Computes c (.mods c true d a b) s (zero (x.wr d (sx (lo p)))) 36 ∧
      Claims.Computes c (.modu c true d a b) s (zero (x.wr d (sx (lo p)))) 36) ∧
    (p.toInt = -2 ^ 63 → q.toInt = -1 →
      Claims.Computes c (.divs c false d a b) s (ovf (x.wr d (BitVec.ofInt 64 (2 ^ 63 - 1)))) 36 ∧
      Claims.Computes c (.mods c false d a b) s (ovf (x.wr d 0)) 36) ∧
    ((lo p).toInt = -2 ^ 31 → (lo q).toInt = -1 →
      Claims.Computes c (.divs c true d a b) s (ovf (x.wr d (sx (BitVec.ofInt 32 (2 ^ 31 - 1))))) 36 ∧
      Claims.Computes c (.mods c true d a b) s (ovf (x.wr d 0)) 36) ∧
    (q ≠ 0 →
      Claims.Computes c (.divu c false d a b) s (x.wr d (BitVec.ofNat 64 (p.toNat / q.toNat))) 36 ∧
      Claims.Computes c (.modu c false d a b) s (x.wr d (BitVec.ofNat 64 (p.toNat % q.toNat))) 36) ∧
    (q ≠ 0 → ¬(p.toInt = -2 ^ 63 ∧ q.toInt = -1) →
      Claims.Computes c (.divs c false d a b) s (x.wr d (BitVec.ofInt 64 (p.toInt.tdiv q.toInt))) 36 ∧
      Claims.Computes c (.mods c false d a b) s (x.wr d (BitVec.ofInt 64 (p.toInt.tmod q.toInt))) 36) ∧
    (lo q ≠ 0 →
      Claims.Computes c (.divu c true d a b) s (x.wr d (sx (BitVec.ofNat 32 ((lo p).toNat / (lo q).toNat)))) 36 ∧
      Claims.Computes c (.modu c true d a b) s (x.wr d (sx (BitVec.ofNat 32 ((lo p).toNat % (lo q).toNat)))) 36) ∧
    (lo q ≠ 0 → ¬((lo p).toInt = -2 ^ 31 ∧ (lo q).toInt = -1) →
      Claims.Computes c (.divs c true d a b) s (x.wr d (sx (BitVec.ofInt 32 ((lo p).toInt.tdiv (lo q).toInt)))) 36 ∧
      Claims.Computes c (.mods c true d a b) s (x.wr d (sx (BitVec.ofInt 32 ((lo p).toInt.tmod (lo q).toInt)))) 36)

/-- R81, R86, R89: immediates and special registers. -/
def Obligations.ImmediatesAndSpecials : Prop :=
  ∀ (c : Nat) (s : State) (d a : GReg) (k : BitVec 14) (h : BitVec 19) (n : BitVec 6), s.fetches c →
    let x := s.core c
    let p := x.rd a
    let se (v : BitVec 14) : BitVec 64 := v.signExtend 64
    let ze (v : BitVec 14) : BitVec 64 := v.setWidth 64
    let lo (v : BitVec 64) : BitVec 32 := v.setWidth 32
    let sx (v : BitVec 32) : BitVec 64 := v.signExtend 64
    Claims.Computes c (.addk c d a k) s (x.wr d (p + se k)) 1 ∧
    Claims.Computes c (.andk c d a k) s (x.wr d (p &&& ze k)) 1 ∧
    Claims.Computes c (.iork c d a k) s (x.wr d (p ||| ze k)) 1 ∧
    Claims.Computes c (.xork c d a k) s (x.wr d (p ^^^ ze k)) 1 ∧
    Claims.Computes c (.cmpltk c d a k) s (x.wr d (if p.toInt < k.toInt then 1 else 0)) 1 ∧
    Claims.Computes c (.shk c .shl false d a n) s (x.wr d (p <<< n.toNat)) 1 ∧
    Claims.Computes c (.shk c .shr false d a n) s (x.wr d (p >>> n.toNat)) 1 ∧
    Claims.Computes c (.shk c .sar false d a n) s (x.wr d (p.sshiftRight n.toNat)) 1 ∧
    Claims.Computes c (.shk c .shl true d a n) s (x.wr d (sx (lo p <<< n.toNat))) 1 ∧
    Claims.Computes c (.shk c .shr true d a n) s (x.wr d (sx (lo p >>> n.toNat))) 1 ∧
    Claims.Computes c (.shk c .sar true d a n) s (x.wr d (sx ((lo p).sshiftRight n.toNat))) 1 ∧
    Claims.Computes c (.lih c d h) s (x.wr d (BitVec.ofInt 64 (h.toInt * 8192))) 1 ∧
    Claims.Computes c (.gets c d 0) s (x.wr d (x.pc.setWidth 64)) 1 ∧
    Claims.Computes c (.gets c d 1) s (x.wr d (x.ib.setWidth 64)) 1 ∧
    Claims.Computes c (.gets c d 2) s (x.wr d (x.fst.setWidth 64)) 1 ∧
    Claims.Computes c (.gets c d 3) s (x.wr d (BitVec.ofNat 64 c)) 1 ∧
    Claims.Computes c (.gets c d 4) s (x.wr d (BitVec.ofNat 64 x.cyc)) 1 ∧
    Claims.Computes c (.gets c d 5) s (x.wr d (BitVec.ofNat 64 (s.clock.stitch.toNat % 2 ^ 32))) 1 ∧
    Claims.Computes c (.gets c d 6) s (x.wr d (x.object.setWidth 64)) 1 ∧
    Claims.Computes c (.gets c d 7) s (x.wr d (BitVec.ofNat 64 x.run.code)) 1 ∧
    Claims.Computes c (.puts c a 1) s { x with ib := lo p } 1 ∧
    Claims.Computes c (.puts c a 2) s { x with fst := lo p &&& 0x31F#32 } 1

/-- R90, of the arithmetic of a format: a NaN result is the canonical quiet NaN; FNEG and FABS act on the sign bit alone, of
NaNs too; comparisons are quiet, with 0 for a NaN; FMIN and FMAX order minus zero below plus zero, give the other operand of
one NaN and the canonical NaN of two, and set INVALID for a signalling NaN only. -/
def Claims.FloatRules (f : FFmt) (n : Nat) : Prop :=
  ∀ x y z : BitVec n,
    let a := x.toNat
    let b := y.toNat
    let e := z.toNat
    let invalid (c : Bool) : Nat := if c then 16 else 0
    let canonical (r : Nat) : Prop := f.isNan r = true → r = f.qnan
    canonical (f.add a b).1 ∧ canonical (f.sub a b).1 ∧ canonical (f.mul a b).1 ∧ canonical (f.div a b).1 ∧
    canonical (f.sqrt a).1 ∧ canonical (f.fma a b e).1 ∧ canonical (f.fms a b e).1 ∧ canonical (f.fnma a b e).1 ∧
    (f.isNan a = true ∨ f.isNan b = true →
      (f.add a b).1 = f.qnan ∧ (f.sub a b).1 = f.qnan ∧ (f.mul a b).1 = f.qnan ∧ (f.div a b).1 = f.qnan) ∧
    BitVec.ofNat n (f.fneg a) = x ^^^ (1#n <<< (n - 1)) ∧ BitVec.ofNat n (f.fabs a) = x &&& ~~~(1#n <<< (n - 1)) ∧
    (f.isNan a = true ∨ f.isNan b = true → (f.cmpEq a b).1 = 0 ∧ f.cmpLt a b = (0, 16) ∧ f.cmpLe a b = (0, 16)) ∧
    (f.cmpEq a b).2 = invalid (f.isSNan a || f.isSNan b) ∧
    (f.isNan a = false → f.isNan b = false → (f.cmpLt a b).2 = 0 ∧ (f.cmpLe a b).2 = 0) ∧
    (∀ wantMax, (f.minMax wantMax a b).2 = invalid (f.isSNan a || f.isSNan b) ∧
      (f.isNan a = true → f.isNan b = true → (f.minMax wantMax a b).1 = f.qnan) ∧
      (f.isNan a = true → f.isNan b = false → (f.minMax wantMax a b).1 = b) ∧
      (f.isNan a = false → f.isNan b = true → (f.minMax wantMax a b).1 = a)) ∧
    (f.lt a b = true → (f.fmin a b).1 = a ∧ (f.fmax a b).1 = b ∧ (f.fmin b a).1 = a ∧ (f.fmax b a).1 = b) ∧
    (f.fmin f.signBit 0).1 = f.signBit ∧ (f.fmin 0 f.signBit).1 = f.signBit ∧ (f.fmax f.signBit 0).1 = 0 ∧
    (f.fmax 0 f.signBit).1 = 0

/-- R90: floating-point results and conditions: the destination takes the result of IEEE 754 arithmetic in the
instruction's format, FST takes the conditions beside those it holds, binary32 operands are bits 31:0, and bits 63:32 of a
binary32 result are 0. -/
def Claims.FloatInstructions : Prop :=
  ∀ (c : Nat) (s : State) (w : Bool) (d a b e : GReg), s.fetches c →
    let x := s.core c
    let f : FFmt := if w then f64 else f32
    let arg (r : GReg) : Nat := if w then (x.rd r).toNat else (x.rd r).toNat % 2 ^ 32
    let out (r : Nat × Nat) : Core := { x.wr d (BitVec.ofNat 64 r.1) with fst := x.fst ||| BitVec.ofNat 32 r.2 }
    let cost := if w then 5 else 4
    Claims.Computes c (.fadd c w d a b) s (out (f.add (arg a) (arg b))) cost ∧
    Claims.Computes c (.fsub c w d a b) s (out (f.sub (arg a) (arg b))) cost ∧
    Claims.Computes c (.fmul c w d a b) s (out (f.mul (arg a) (arg b))) cost ∧
    Claims.Computes c (.fmin c w d a b) s (out (f.fmin (arg a) (arg b))) cost ∧
    Claims.Computes c (.fmax c w d a b) s (out (f.fmax (arg a) (arg b))) cost ∧
    Claims.Computes c (.fneg c w d a) s (out (f.fneg (arg a), 0)) cost ∧
    Claims.Computes c (.fabs c w d a) s (out (f.fabs (arg a), 0)) cost ∧
    Claims.Computes c (.fcmpeq c w d a b) s (out (f.cmpEq (arg a) (arg b))) cost ∧
    Claims.Computes c (.fcmplt c w d a b) s (out (f.cmpLt (arg a) (arg b))) cost ∧
    Claims.Computes c (.fcmple c w d a b) s (out (f.cmpLe (arg a) (arg b))) cost ∧
    Claims.Computes c (.fdiv c w d a b) s (out (f.div (arg a) (arg b))) (if w then 24 else 14) ∧
    Claims.Computes c (.fsqrt c w d a) s (out (f.sqrt (arg a))) (if w then 28 else 16) ∧
    Claims.Computes c (.fma c w d a b e) s (out (f.fma (arg a) (arg b) (arg e))) (if w then 6 else 4) ∧
    Claims.Computes c (.fms c w d a b e) s (out (f.fms (arg a) (arg b) (arg e))) (if w then 6 else 4) ∧
    Claims.Computes c (.fnma c w d a b e) s (out (f.fnma (arg a) (arg b) (arg e))) (if w then 6 else 4) ∧
    (w = false → (f.add (arg a) (arg b)).1 < 2 ^ 32 ∧ (f.sub (arg a) (arg b)).1 < 2 ^ 32 ∧
      (f.mul (arg a) (arg b)).1 < 2 ^ 32 ∧ (f.fmin (arg a) (arg b)).1 < 2 ^ 32 ∧ (f.fmax (arg a) (arg b)).1 < 2 ^ 32 ∧
      f.fneg (arg a) < 2 ^ 32 ∧ f.fabs (arg a) < 2 ^ 32 ∧ (f.div (arg a) (arg b)).1 < 2 ^ 32 ∧
      (f.sqrt (arg a)).1 < 2 ^ 32 ∧ (f.fma (arg a) (arg b) (arg e)).1 < 2 ^ 32 ∧
      (f.fms (arg a) (arg b) (arg e)).1 < 2 ^ 32 ∧ (f.fnma (arg a) (arg b) (arg e)).1 < 2 ^ 32)

/-- R90: what the floating-point instructions write, and the rules of the spec about NaNs, signs, comparisons, FMIN and
FMAX. -/
def Obligations.FloatResults : Prop :=
  Claims.FloatInstructions ∧ Claims.FloatRules f32 32 ∧ Claims.FloatRules f64 64

/-- R90, of conversions from a format: to an integer a NaN gives 0 and a value outside the range the nearest representable
integer, both with INVALID; in range no flag is set, and the value is rounded toward zero, or to nearest with ties to even.
A NaN between formats gives the canonical one. -/
def Claims.ConversionRules (f dst : FFmt) (n : Nat) : Prop :=
  ∀ x : BitVec n,
    let a := x.toNat
    (∀ near, f.isNan a = true → f.toInt64 near a = (0, 16)) ∧
    (∀ near neg, f.unpack a = .inf neg → f.toInt64 near a = (if neg then -(2 ^ 63 : Int) else 2 ^ 63 - 1, 16)) ∧
    (∀ near neg m e, f.unpack a = .fin neg m e → 0 ≤ e →
      let v := signed neg (m * 2 ^ e.toNat)
      f.toInt64 near a = if v < -(2 ^ 63 : Int) then (-(2 ^ 63 : Int), 16)
        else if (2 ^ 63 - 1 : Int) < v then (2 ^ 63 - 1, 16) else (v, 0)) ∧
    (∀ neg m e, f.unpack a = .fin neg m e → e < 0 →
      let k := (-e).toNat
      f.toInt64 false a = (signed neg (m / 2 ^ k), 0) ∧
      ∃ q : Nat, f.toInt64 true a = (signed neg q, 0) ∧ 2 * q * 2 ^ k ≤ 2 * m + 2 ^ k ∧ 2 * m ≤ 2 * q * 2 ^ k + 2 ^ k ∧
        (2 * q * 2 ^ k = 2 * m + 2 ^ k ∨ 2 * m = 2 * q * 2 ^ k + 2 ^ k → q % 2 = 0)) ∧
    (f.isNan a = true → (f.convert dst a).1 = dst.qnan) ∧ (f.isNan a = false → dst.isNan (f.convert dst a).1 = false)

/-- R90: conversions between the formats and the 64-bit integers, by truncation and to nearest. -/
def Claims.ConversionInstructions : Prop :=
  ∀ (c : Nat) (s : State) (d a : GReg), s.fetches c →
    let x := s.core c
    let p := x.rd a
    let out (r : Nat × Nat) : Core := { x.wr d (BitVec.ofNat 64 r.1) with fst := x.fst ||| BitVec.ofNat 32 r.2 }
    let int (r : Int × Nat) : Core := { x.wr d (BitVec.ofInt 64 r.1) with fst := x.fst ||| BitVec.ofNat 32 r.2 }
    Claims.Computes c (.f64F32 c d a) s (out (FFmt.convert f32 f64 (p.toNat % 2 ^ 32))) 3 ∧
    Claims.Computes c (.f32F64 c d a) s (out (FFmt.convert f64 f32 p.toNat)) 3 ∧
    Claims.Computes c (.f64I64 c d a) s (out (f64.ofInt p.toInt)) 3 ∧
    Claims.Computes c (.f32I64 c d a) s (out (f32.ofInt p.toInt)) 3 ∧
    Claims.Computes c (.i64F64t c d a) s (int (f64.toInt64 false p.toNat)) 3 ∧
    Claims.Computes c (.i64F32t c d a) s (int (f32.toInt64 false (p.toNat % 2 ^ 32))) 3 ∧
    Claims.Computes c (.i64F64n c d a) s (int (f64.toInt64 true p.toNat)) 3 ∧
    Claims.Computes c (.i64F32n c d a) s (int (f32.toInt64 true (p.toNat % 2 ^ 32))) 3

/-- R90: what the conversions write, and the rules of the spec about NaNs, ranges and rounding. -/
def Obligations.Conversions : Prop :=
  Claims.ConversionInstructions ∧ Claims.ConversionRules f32 f64 32 ∧ Claims.ConversionRules f64 f32 64

/-- Value of n bytes at a model address, extended. -/
def Claims.loaded (s : State) (n : Nat) (signed : Bool) (ma : Nat) : BitVec 64 :=
  if signed then BitVec.ofInt 64 (sgn (8 * n) (s.rdLe ma n)) else BitVec.ofNat 64 (s.rdLe ma n)

/-- R83, R84, R86, R87: loads from the data scratchpad and from shared SRAM. The read may find ECC errors, which
change the ECC record, its registers and the recorder only. -/
def Obligations.Loads : Prop :=
  ∀ (c : Nat) (s : State) (d a : GReg) (k : BitVec 14), s.fetches c →
    let u := s.fetched c
    let x := s.core c
    let va := ((if a = 0 then x.ib.setWidth 64 else x.rd a) + k.signExtend 64).toNat
    let vs := (x.rd a + k.signExtend 64).toNat
    let here (n : Nat) : Prop := 0x10000000 ≤ va ∧ va + n ≤ 0x10080000 ∧ va % n = 0 ∧
      (u.eccRead (Mem.dram c + (va - 0x10000000)) n 1).1 = false
    let there (n : Nat) : Prop := 0x20000000 ≤ vs ∧ vs + n ≤ 0x21000000 ∧ vs % n = 0 ∧
      (∃ p, u.pat.active = some p ∧ p.granted c (vs - 0x20000000) n false = true) ∧
      (u.eccRead (Mem.shared + (vs - 0x20000000)) n 1).1 = false
    let loc (i : Instr) (n : Nat) (signed : Bool) : Prop := here n →
      Claims.Executes c i s (x.wr d (Claims.loaded s n signed (Mem.dram c + (va - 0x10000000)))) (x.pc + 4) 2
        [.ecc, .regs, .evr, .saf]
    let shr (i : Instr) (n : Nat) (signed : Bool) : Prop := there n →
      Claims.Executes c i s (x.wr d (Claims.loaded s n signed (Mem.shared + (vs - 0x20000000)))) (x.pc + 4) 48
        [.ecc, .regs, .evr, .saf]
    loc (.l8s c d a k) 1 true ∧ loc (.l8u c d a k) 1 false ∧ loc (.l16s c d a k) 2 true ∧ loc (.l16u c d a k) 2 false ∧
    loc (.l32s c d a k) 4 true ∧ loc (.l32u c d a k) 4 false ∧ loc (.l64 c d a k) 8 false ∧
    shr (.ls8s c d a k) 1 true ∧ shr (.ls8u c d a k) 1 false ∧ shr (.ls16s c d a k) 2 true ∧
    shr (.ls16u c d a k) 2 false ∧ shr (.ls32s c d a k) 4 true ∧ shr (.ls32u c d a k) 4 false ∧
    shr (.ls64 c d a k) 8 false

/-- The n bytes from ma hold the low bytes of v; every other byte of memory is as it was. -/
def Claims.stored (s t : State) (ma n : Nat) (v : BitVec 64) : Prop :=
  (∀ i, i < n → t.rdByte (ma + i) = BitVec.ofNat 8 (v.toNat / 256 ^ i)) ∧
  ∀ i, ¬(ma ≤ i ∧ i < ma + n) → t.rdByte i = s.rdByte i

/-- R107, Table 4.15: the signature of a run has taken in one record; every other signature is as it was. -/
def Claims.recorded (w : WSig) (off n v : Nat) : WSig :=
  { w with
    crc := crc32cMore w.crc (leBytes 4 off ++ leBytes 1 n ++ leBytes 3 0 ++ leBytes 8 v)
    count := w.count + 1 }
def Claims.signedAs (u t : State) (seg : Nat) (b : Bool) (w : WSig) : Prop :=
  t.sig seg b = w ∧ ∀ q r, ¬(q = seg ∧ r = b) → t.sig q r = u.sig q r

/-- R83, R84, R86, R87, R102: stores to the data scratchpad and to shared SRAM, outside selvedge runs: the bytes of
the store, the rest of memory, and the core. -/
def Claims.PlainStores : Prop :=
  ∀ (c : Nat) (s : State) (r a : GReg) (k : BitVec 14), s.fetches c → (s.core c).run = .none →
    let u := s.fetched c
    let x := s.core c
    let va := ((if a = 0 then x.ib.setWidth 64 else x.rd a) + k.signExtend 64).toNat
    let vs := (x.rd a + k.signExtend 64).toNat
    let here (n : Nat) : Prop := 0x10000000 ≤ va ∧ va + n ≤ 0x10080000 ∧ va % n = 0 ∧
      (n = 8 ∨ (u.eccRead (Mem.dram c + (va - 0x10000000)) n 3).1 = false)
    let there (n : Nat) : Prop := 0x20000000 ≤ vs ∧ vs + n ≤ 0x21000000 ∧ vs % n = 0 ∧
      (∃ p, u.pat.active = some p ∧ p.granted c (vs - 0x20000000) n true = true) ∧
      (n = 8 ∨ (u.eccRead (Mem.shared + (vs - 0x20000000)) n 3).1 = false)
    let loc (i : Instr) (n : Nat) : Prop := here n → s.affords c 1 →
      ∃ t, exec i s = .next t ∧ Claims.stored s t (Mem.dram c + (va - 0x10000000)) n (x.rd r) ∧
        u.coreIs t c (x.retire (x.pc + 4) 1) [.mem, .ecc, .regs, .evr, .saf]
    let shr (i : Instr) (n : Nat) : Prop := there n → s.affords c 32 →
      ∃ t, exec i s = .next t ∧ Claims.stored s t (Mem.shared + (vs - 0x20000000)) n (x.rd r) ∧
        u.coreIs t c (x.retire (x.pc + 4) 32) [.mem, .ecc, .regs, .evr, .saf]
    loc (.s8 c r a k) 1 ∧ loc (.s16 c r a k) 2 ∧ loc (.s32 c r a k) 4 ∧ loc (.s64 c r a k) 8 ∧
    shr (.ss8 c r a k) 1 ∧ shr (.ss16 c r a k) 2 ∧ shr (.ss32 c r a k) 4 ∧ shr (.ss64 c r a k) 8

/-- R106, R107: stores of a selvedge run: into its data area or output area they add a record to its signature, into the
stack region none. -/
def Claims.SelvedgeStores : Prop :=
  ∀ (c : Nat) (s : State) (r a : GReg) (k : BitVec 14) (p : Pattern), s.fetches c → (s.core c).run ≠ .none →
    (s.fetched c).pat.active = some p →
    let u := s.fetched c
    let x := s.core c
    let seg := selvSegOf x.object.toNat
    let b := x.run == .runB
    let rec_ := p.runRecord seg b
    let va := ((if a = 0 then x.ib.setWidth 64 else x.rd a) + k.signExtend 64).toNat
    let vs := (x.rd a + k.signExtend 64).toNat
    let low (n : Nat) : Nat := (x.rd r).toNat % 2 ^ (8 * n)
    let inData (n : Nat) : Prop := runDataOff rec_ ≤ va ∧ va + n ≤ runDataOff rec_ + runDataLen rec_
    let inStack (n : Nat) : Prop := x.stackTop - x.stackLen ≤ va ∧ va + n ≤ x.stackTop
    let here (n : Nat) : Prop := 0x10000000 ≤ va ∧ va + n ≤ 0x10080000 ∧ va % n = 0 ∧
      (n = 8 ∨ (u.eccRead (Mem.dram c + (va - 0x10000000)) n 3).1 = false)
    let there (n : Nat) : Prop := 0x20000000 ≤ vs ∧ vs + n ≤ 0x21000000 ∧ vs % n = 0 ∧
      p.granted c (vs - 0x20000000) n true = true ∧ runOutOff rec_ ≤ vs - 0x20000000 ∧
      vs - 0x20000000 + n ≤ runOutOff rec_ + runOutLen rec_ ∧
      (n = 8 ∨ (u.eccRead (Mem.shared + (vs - 0x20000000)) n 3).1 = false)
    let loc (i : Instr) (n : Nat) : Prop := here n → s.affords c 1 →
      let done (t : State) : Prop := Claims.stored s t (Mem.dram c + (va - 0x10000000)) n (x.rd r) ∧
        u.coreIs t c (x.retire (x.pc + 4) 1) [.mem, .ecc, .regs, .evr, .saf, .wsig]
      (inData n → ∃ t, exec i s = .next t ∧ done t ∧
        Claims.signedAs u t seg b (Claims.recorded (u.sig seg b) (va - runDataOff rec_) n (low n))) ∧
      (¬inData n → inStack n → ∃ t, exec i s = .next t ∧ done t ∧ t.wsig = u.wsig)
    let shr (i : Instr) (n : Nat) : Prop := there n → s.affords c 32 →
      ∃ t, exec i s = .next t ∧ Claims.stored s t (Mem.shared + (vs - 0x20000000)) n (x.rd r) ∧
        u.coreIs t c (x.retire (x.pc + 4) 32) [.mem, .ecc, .regs, .evr, .saf, .wsig] ∧
        Claims.signedAs u t seg b
          (Claims.recorded (u.sig seg b) (2 ^ 31 + (vs - 0x20000000 - runOutOff rec_)) n (low n))
    loc (.s8 c r a k) 1 ∧ loc (.s16 c r a k) 2 ∧ loc (.s32 c r a k) 4 ∧ loc (.s64 c r a k) 8 ∧
    shr (.ss8 c r a k) 1 ∧ shr (.ss16 c r a k) 2 ∧ shr (.ss32 c r a k) 4 ∧ shr (.ss64 c r a k) 8

/-- R83, R84, R86, R87, R102, R106, R107: stores, outside selvedge runs and in them. -/
def Obligations.Stores : Prop := Claims.PlainStores ∧ Claims.SelvedgeStores

/-- R86: BMV moves 1 to 32,768 bytes between shared SRAM and the data scratchpad, in either direction, outside
selvedge runs. The bytes of a whole number of words are written without a merge, those of a last part of a word are merged
into it. -/
def Claims.PlainBlockMove : Prop :=
  ∀ (c : Nat) (s : State) (k : BitVec 15) (sh lo : GReg), s.fetches c → (s.core c).run = .none →
    let u := s.fetched c
    let x := s.core c
    let n := k.toNat + 1
    let vs := (x.rd sh).toNat
    let vl := (x.rd lo).toNat
    let so := Mem.shared + (vs - 0x20000000)
    let ll := Mem.dram c + (vl - 0x10000000)
    vs % 8 = 0 → vl % 8 = 0 → 0x20000000 ≤ vs → vs + n ≤ 0x21000000 → 0x10000000 ≤ vl →
    vl + n ≤ 0x10080000 → s.affords c (48 + 32 * ((n + 31) / 32)) →
    (∀ p, u.pat.active = some p → p.granted c (vs - 0x20000000) n true = true → (u.eccRead ll n 1).1 = false →
      (n % 8 = 0 ∨ (u.eccReadWord (so + n / 8 * 8) 3).1 = false) →
      ∃ t, exec (.bmv c true k sh lo) s = .next t ∧
        (∀ i, i < n → t.rdByte (so + i) = s.rdByte (ll + i)) ∧
        (∀ i, ¬(so ≤ i ∧ i < so + n) → t.rdByte i = s.rdByte i) ∧
        u.coreIs t c (x.retire (x.pc + 4) (48 + 32 * ((n + 31) / 32))) [.mem, .ecc, .regs, .evr, .saf]) ∧
    (∀ p, u.pat.active = some p → p.granted c (vs - 0x20000000) n false = true → (u.eccRead so n 1).1 = false →
      (n % 8 = 0 ∨ (u.eccReadWord (ll + n / 8 * 8) 3).1 = false) →
      ∃ t, exec (.bmv c false k sh lo) s = .next t ∧
        (∀ i, i < n → t.rdByte (ll + i) = s.rdByte (so + i)) ∧
        (∀ i, ¬(ll ≤ i ∧ i < ll + n) → t.rdByte i = s.rdByte i) ∧
        u.coreIs t c (x.retire (x.pc + 4) (48 + 32 * ((n + 31) / 32))) [.mem, .ecc, .regs, .evr, .saf])

/-- R106, R107: BMV of a selvedge run, into its output area or its data area: one record of width 8 for each word, the last
part of a word zero-extended, which is the model's choice (log 113). -/
def Claims.SelvedgeBlockMove : Prop :=
  ∀ (c : Nat) (s : State) (k : BitVec 15) (sh lo : GReg) (p : Pattern), s.fetches c → (s.core c).run ≠ .none →
    (s.fetched c).pat.active = some p →
    let u := s.fetched c
    let x := s.core c
    let n := k.toNat + 1
    let seg := selvSegOf x.object.toNat
    let b := x.run == .runB
    let rec_ := p.runRecord seg b
    let vs := (x.rd sh).toNat
    let vl := (x.rd lo).toNat
    let so := Mem.shared + (vs - 0x20000000)
    let ll := Mem.dram c + (vl - 0x10000000)
    let cost := 48 + 32 * ((n + 31) / 32)
    let moved (t : State) (src dst off : Nat) : Prop :=
      (∀ i, i < n → t.rdByte (dst + i) = s.rdByte (src + i)) ∧
      (∀ i, ¬(dst ≤ i ∧ i < dst + n) → t.rdByte i = s.rdByte i) ∧
      Claims.signedAs u t seg b ((List.range ((n + 7) / 8)).foldl
        (fun w j => Claims.recorded w (off + 8 * j) 8 (s.rdLe (src + 8 * j) (min 8 (n - 8 * j)))) (u.sig seg b)) ∧
      u.coreIs t c (x.retire (x.pc + 4) cost) [.mem, .ecc, .regs, .evr, .saf, .wsig]
    vs % 8 = 0 → vl % 8 = 0 → 0x20000000 ≤ vs → vs + n ≤ 0x21000000 → 0x10000000 ≤ vl → vl + n ≤ 0x10080000 →
    s.affords c cost →
    (p.granted c (vs - 0x20000000) n true = true → runOutOff rec_ ≤ vs - 0x20000000 →
      vs - 0x20000000 + n ≤ runOutOff rec_ + runOutLen rec_ → (u.eccRead ll n 1).1 = false →
      (n % 8 = 0 ∨ (u.eccReadWord (so + n / 8 * 8) 3).1 = false) →
      ∃ t, exec (.bmv c true k sh lo) s = .next t ∧ moved t ll so (2 ^ 31 + (vs - 0x20000000 - runOutOff rec_))) ∧
    (p.granted c (vs - 0x20000000) n false = true → runDataOff rec_ ≤ vl → vl + n ≤ runDataOff rec_ + runDataLen rec_ →
      (u.eccRead so n 1).1 = false → (n % 8 = 0 ∨ (u.eccReadWord (ll + n / 8 * 8) 3).1 = false) →
      ∃ t, exec (.bmv c false k sh lo) s = .next t ∧ moved t so ll (vl - runDataOff rec_))

/-- R86, R106, R107: the block move, outside selvedge runs and in them. -/
def Obligations.BlockMove : Prop := Claims.PlainBlockMove ∧ Claims.SelvedgeBlockMove

/-- R85, R86: branches, jumps and calls; no condition reads anything but the two registers. -/
def Claims.Branches : Prop :=
  ∀ (c : Nat) (s : State) (a b : GReg) (o : BitVec 14) (n : BitVec 24), s.fetches c →
    let x := s.core c
    let p := x.rd a
    let q := x.rd b
    let far : BitVec 32 := x.pc + BitVec.ofInt 32 (4 * o.toInt)
    let wide : BitVec 32 := x.pc + BitVec.ofInt 32 (4 * n.toInt)
    let reg := (x.rd a + o.signExtend 64).toNat
    let linked := x.wr 30 ((x.pc + 4).setWidth 64)
    let pick (b : Bool) : BitVec 32 := if b then far else x.pc + 4
    Claims.Executes c (.bcEq c a b o) s x (pick (decide (p = q))) 2 [] ∧
    Claims.Executes c (.bcNe c a b o) s x (pick (decide (p ≠ q))) 2 [] ∧
    Claims.Executes c (.bcLts c a b o) s x (pick (decide (p.toInt < q.toInt))) 2 [] ∧
    Claims.Executes c (.bcGes c a b o) s x (pick (decide (q.toInt ≤ p.toInt))) 2 [] ∧
    Claims.Executes c (.bcLtu c a b o) s x (pick (decide (p.toNat < q.toNat))) 2 [] ∧
    Claims.Executes c (.bcGeu c a b o) s x (pick (decide (q.toNat ≤ p.toNat))) 2 [] ∧
    Claims.Executes c (.go c n) s x wide 2 [] ∧
    Claims.Executes c (.call c n) s linked wide 3 [] ∧
    (reg < 2 ^ 32 → reg % 4 = 0 →
      Claims.Executes c (.gor c a o) s x (BitVec.ofNat 32 reg) 2 [] ∧
      Claims.Executes c (.callr c a o) s linked (BitVec.ofNat 32 reg) 3 []) ∧
    Claims.Executes c (.ret c) s x ((x.rd 30).setWidth 32) 3 []

/-- R93: CALLB pushes the return address and IB and takes a as the new IB; RETB gives both back. -/
def Claims.InstanceCalls : Prop :=
  ∀ (c : Nat) (s : State) (a : GReg) (o : BitVec 19), s.fetches c →
    let u := s.fetched c
    let x := s.core c
    let inst := (x.rd a).toNat
    let sp := (x.rd 31 - 16).toNat
    let top := (x.rd 31).toNat
    let ma := Mem.dram c + (sp - 0x10000000)
    let mt := Mem.dram c + (top - 0x10000000)
    (0x10000000 ≤ inst → inst < 0x10080000 → inst % 8 = 0 → sp % 16 = 0 → x.stackTop - x.stackLen ≤ sp →
      sp + 16 ≤ x.stackTop → 0x10000000 ≤ sp → sp + 16 ≤ 0x10080000 → s.affords c 6 →
      ∃ t, exec (.callb c a o) s = .next t ∧
        (∀ i, i < 8 → t.rdByte (ma + i) = BitVec.ofNat 8 ((x.pc + 4).toNat / 256 ^ i)) ∧
        (∀ i, i < 8 → t.rdByte (ma + 8 + i) = BitVec.ofNat 8 (x.ib.toNat / 256 ^ i)) ∧
        (∀ i, ¬(ma ≤ i ∧ i < ma + 16) → t.rdByte i = s.rdByte i) ∧
        u.coreIs t c ({ x.wr 31 (x.rd 31 - 16) with ib := (x.rd a).setWidth 32 }.retire
          (x.pc + BitVec.ofInt 32 (4 * o.toInt)) 6) [.mem, .ecc]) ∧
    (top % 16 = 0 → x.stackTop - x.stackLen ≤ top → top + 16 ≤ x.stackTop → 0x10000000 ≤ top → top + 16 ≤ 0x10080000 →
      (u.eccRead mt 16 1).1 = false →
      Claims.Executes c (.retb c) s { x.wr 31 (x.rd 31 + 16) with ib := BitVec.ofNat 32 (s.rdLe (mt + 8) 8) }
        (BitVec.ofNat 32 (s.rdLe mt 8)) 6 [.ecc, .regs, .evr, .saf])

/-- R85, R86, R93: branches, jumps, calls and returns, plain and with an instance. That RET and RETB take the low 32 bits of
the saved word with no check of its alignment is the model's presumption (log 18), that CALLB with a = g31 takes the instance
base before the decrement its choice (log 21). -/
def Obligations.BranchesAndCalls : Prop := Claims.Branches ∧ Claims.InstanceCalls

/-- R113, R118: END within the budget, of an entry of kind CORE_SEG: of a task's last segment, publishes the task's working half, and the core executes
nothing more; of an earlier segment, or of a cut activation, it publishes nothing. -/
def Claims.TaskEnd : Prop :=
  ∀ (c : Nat) (s : State) (r : Running) (p : Pattern), c < 8 → (s.agent c).running = some r →
    s.fetch c (s.core c).pc = (none, s) → s.pat.active = some p → r.entry.kind = .coreSeg → s.affords c 2 →
    let k := bitsOf r.entry.object 12 8
    let last := p.taskSegments k = bitsOf r.entry.object 7 0 + 1 ∧ Store.get (fun _ => false) s.tasks.cut k = false
    ∃ t, exec (.endEntry c) s = .next t ∧ (t.agent c).running = none ∧ (t.agent c).done = max (s.agent c).done (r.index + 1) ∧
      (t.core c).cyc = (s.core c).cyc + 2 ∧
      (last → t.getF (F.SCH_TASK_STATUS_PUBLISHED k) = 1 ∧
        t.getF (F.SCH_TASK_STATUS_HALF k) = 1 - s.getF (F.SCH_TASK_STATUS_HALF k)) ∧
      (¬last → t.getF (F.SCH_TASK_STATUS_PUBLISHED k) = s.getF (F.SCH_TASK_STATUS_PUBLISHED k) ∧
        t.getF (F.SCH_TASK_STATUS_HALF k) = s.getF (F.SCH_TASK_STATUS_HALF k)) ∧
      s.regsBut t [(F.SCH_TASK_STATUS_PUBLISHED k).addr, F.APC_STATUS_BUSY.addr] ∧
      s.keeps t [.regs, .sched, .cores, .tasks] ∧ (¬last → t.tasks = s.tasks)

/-- R113, R118, R120: END of an entry of kind EVT_SLOT publishes the event task's working half. -/
def Claims.EventEnd : Prop :=
  ∀ (c : Nat) (s : State) (r : Running), c < 8 → (s.agent c).running = some r →
    s.fetch c (s.core c).pc = (none, s) → r.entry.kind = .evtSlot → s.affords c 2 →
    let k := bitsOf r.entry.object 12 8
    ∃ t, exec (.endEntry c) s = .next t ∧ (t.agent c).running = none ∧ (t.agent c).done = max (s.agent c).done (r.index + 1) ∧
      (t.core c).cyc = (s.core c).cyc + 2 ∧ t.getF (F.SCH_TASK_STATUS_PUBLISHED k) = 1 ∧
      t.getF (F.SCH_TASK_STATUS_HALF k) = 1 - s.getF (F.SCH_TASK_STATUS_HALF k) ∧
      s.regsBut t [(F.SCH_TASK_STATUS_PUBLISHED k).addr, F.APC_STATUS_BUSY.addr] ∧ s.keeps t [.regs, .sched, .cores, .tasks]

/-- R108, R113: END of an entry of kind SELV_SEG: the run is over. While the other run is not, nothing is compared. When it
has ended, equal signatures with equal counts are a pass: run A's output area waits for this stitch's apply point, or, where
the comparison comes after it, for the next one's. Any difference is a mismatch: the outputs are not applied, the capture
registers take it if they are free, and every function of the segment takes a class A fault. -/
def Claims.SelvedgeEnd : Prop :=
  ∀ (c : Nat) (s : State) (r : Running) (p : Pattern), c < 8 → (s.agent c).running = some r →
    s.fetch c (s.core c).pc = (none, s) → s.pat.active = some p → r.entry.kind = .selvSeg → s.affords c 2 →
    let seg := bitsOf r.entry.object 11 0
    let b := bitOf r.entry.object 15
    let w := s.sig seg b
    let o := s.sig seg (!b)
    let at_ := 160 * r.entry.start + (s.core c).cyc + 2
    let late : Prop := ∃ a, s.applyCycle = some a ∧ a < at_
    let waits (t : State) : Bool := Store.get (fun _ => false) t.sched.selvValid seg
    ∃ t, exec (.endEntry c) s = .next t ∧ (t.agent c).running = none ∧ (t.core c).cyc = (s.core c).cyc + 2 ∧
      Claims.signedAs s t seg b { w with ended := true } ∧ (∀ a, t.rdByte a = s.rdByte a) ∧
      (o.ended = false → o.aborted = false → s.regsBut t [F.APC_STATUS_BUSY.addr] ∧
        s.keeps t [.regs, .sched, .cores, .wsig]) ∧
      (o.ended = true → w.crc = o.crc → w.count = o.count →
        t.getF F.APC_WSIG_PASS_COUNT = (s.getF F.APC_WSIG_PASS_COUNT + 1) % 2 ^ 32 ∧
        (¬late → waits t = true) ∧ (late → waits t = false ∧ seg ∈ t.sched.selvLate) ∧
        s.regsBut t [F.APC_STATUS_BUSY.addr, F.APC_WSIG_PASS_COUNT.addr] ∧ s.keeps t [.regs, .sched, .cores, .wsig]) ∧
      (o.ended = true → o.aborted = false → w.aborted = false → w.crc ≠ o.crc ∨ w.count ≠ o.count →
        waits t = false ∧ seg ∈ t.sched.selvFailed ∧
        (s.getF F.APC_WSIG_MM_VALID = 0 → t.getF F.APC_WSIG_MM_VALID = 1 ∧ t.getF F.APC_WSIG_MM_SEGMENT = seg ∧
          t.getF F.APC_WSIG_MM_REASON = 0 ∧
          t.getF F.APC_WSIG_SIGA_VALUE = (if b then o.crc else w.crc).toNat ∧
          t.getF F.APC_WSIG_SIGB_VALUE = (if b then w.crc else o.crc).toNat) ∧
        ∀ f, f < 64 → f ∈ p.fnsOfSegment seg → t.fnState f = 2 ∧ t.getF (F.SAF_FN_STATUS_CAUSE f) = 1)

/-- R108, R113, R118, R120: END of the entries that application cores execute: of a task's segment, of an event task, of a
selvedge run. -/
def Obligations.EndPublishes : Prop := Claims.TaskEnd ∧ Claims.EventEnd ∧ Claims.SelvedgeEnd

/-- R91: an instruction takes an exception: the core stops, no register of a core and no byte of memory changes, the first
unacknowledged exception is captured with its cause, PC and address, and it is counted. -/
def Claims.Raises (c : Nat) (i : Instr) (s : State) (cause addr : Nat) : Prop :=
  ∃ t, exec i s = .next t ∧ (t.agent c).running = none ∧
    (s.getF (F.APC_CORE_FAULT_VALID c) = 0 → t.getF (F.APC_CORE_FAULT_VALID c) = 1 ∧
      t.getF (F.APC_CORE_FAULT_CAUSE c) = cause ∧ t.getF (F.APC_CORE_FPC_PC c) = (s.core c).pc.toNat ∧
      t.getF (F.APC_CORE_FADDR_ADDR c) = addr) ∧
    (s.getF (F.APC_CORE_FAULT_VALID c) = 1 → t.getR (F.APC_CORE_FAULT_VALID c).addr = s.getR (F.APC_CORE_FAULT_VALID c).addr ∧
      t.getR (F.APC_CORE_FPC_PC c).addr = s.getR (F.APC_CORE_FPC_PC c).addr ∧
      t.getR (F.APC_CORE_FADDR_ADDR c).addr = s.getR (F.APC_CORE_FADDR_ADDR c).addr) ∧
    t.getF (F.APC_CORE_EXC_COUNT c) = Nat.min 65535 (s.getF (F.APC_CORE_EXC_COUNT c) + 1) ∧
    (∀ a, t.rdByte a = s.rdByte a) ∧ ∀ j, t.core j = s.core j

/-- R83, R86, R91, R95: ILLEGAL, SYS_BAD, and FETCH and ECC_UE at the fetch of any instruction. -/
def Claims.FetchExceptions : Prop :=
  ∀ (c : Nat) (s : State) (w : BitVec 32) (i : Instr) (n : BitVec 9) (arg : BitVec 15), c < 8 → s.affords c 0 →
    let pc := (s.core c).pc.toNat
    (s.fetches c → decodeStitch c w = none → Claims.Raises c (.illegalEncoding c w) s 1 0) ∧
    (s.fetches c → knownService n.toNat = false → Claims.Raises c (.sysBad c n arg) s 7 0) ∧
    (decodeStitch c w = some i → s.inCode c (s.core c).pc = false → Claims.Raises c i s 2 pc) ∧
    (decodeStitch c w = some i → s.inCode c (s.core c).pc = true →
      (s.eccReadWord (Mem.iram c + pc / 8 * 8) 1).1 = true → Claims.Raises c i s 6 pc)

/-- R83, R84, R91, R102: ACCESS, ALIGN and ECC_UE of loads and, outside selvedge runs, of stores; ACCESS and ALIGN of GOR
and CALLR. Of an address above 32 bits FADDR has the low 32, the model's choice (log 115), as is the order of the causes (log
19). -/
def Claims.AddressExceptions : Prop :=
  ∀ (c : Nat) (s : State) (d a : GReg) (k : BitVec 14), s.fetches c → s.affords c 0 →
    let u := s.fetched c
    let x := s.core c
    let va := ((if a = 0 then x.ib.setWidth 64 else x.rd a) + k.signExtend 64).toNat
    let vs := (x.rd a + k.signExtend 64).toNat
    let noLocal (n : Nat) : Prop := 2 ^ 32 ≤ va ∨ va < 0x10000000 ∨ 0x10080000 < va + n
    let noShared (n : Nat) (write : Bool) : Prop := 2 ^ 32 ≤ vs ∨ vs < 0x20000000 ∨ 0x21000000 < vs + n ∨
      ∀ p, u.pat.active = some p → p.granted c (vs - 0x20000000) n write = false
    let loc (i : Instr) (n finder : Nat) : Prop :=
      (noLocal n → Claims.Raises c i s 3 (va % 2 ^ 32)) ∧
      (¬noLocal n → va % n ≠ 0 → Claims.Raises c i s 4 va) ∧
      (¬noLocal n → va % n = 0 → (finder = 1 ∨ n ≠ 8) →
        (u.eccRead (Mem.dram c + (va - 0x10000000)) n finder).1 = true → Claims.Raises c i s 6 va)
    let shr (i : Instr) (n finder : Nat) : Prop :=
      (noShared n (finder == 3) → Claims.Raises c i s 3 (vs % 2 ^ 32)) ∧
      (¬noShared n (finder == 3) → vs % n ≠ 0 → Claims.Raises c i s 4 vs) ∧
      (¬noShared n (finder == 3) → vs % n = 0 → (finder = 1 ∨ n ≠ 8) →
        (u.eccRead (Mem.shared + (vs - 0x20000000)) n finder).1 = true → Claims.Raises c i s 6 vs)
    loc (.l8s c d a k) 1 1 ∧ loc (.l8u c d a k) 1 1 ∧ loc (.l16s c d a k) 2 1 ∧ loc (.l16u c d a k) 2 1 ∧
    loc (.l32s c d a k) 4 1 ∧ loc (.l32u c d a k) 4 1 ∧ loc (.l64 c d a k) 8 1 ∧
    shr (.ls8s c d a k) 1 1 ∧ shr (.ls8u c d a k) 1 1 ∧ shr (.ls16s c d a k) 2 1 ∧ shr (.ls16u c d a k) 2 1 ∧
    shr (.ls32s c d a k) 4 1 ∧ shr (.ls32u c d a k) 4 1 ∧ shr (.ls64 c d a k) 8 1 ∧
    (x.run = .none → loc (.s8 c d a k) 1 3 ∧ loc (.s16 c d a k) 2 3 ∧ loc (.s32 c d a k) 4 3 ∧ loc (.s64 c d a k) 8 3 ∧
      shr (.ss8 c d a k) 1 3 ∧ shr (.ss16 c d a k) 2 3 ∧ shr (.ss32 c d a k) 4 3 ∧ shr (.ss64 c d a k) 8 3) ∧
    (2 ^ 32 ≤ vs → Claims.Raises c (.gor c a k) s 3 (vs % 2 ^ 32) ∧ Claims.Raises c (.callr c a k) s 3 (vs % 2 ^ 32)) ∧
    (vs < 2 ^ 32 → vs % 4 ≠ 0 → Claims.Raises c (.gor c a k) s 4 vs ∧ Claims.Raises c (.callr c a k) s 4 vs)

/-- R91, R93: STACK, ACCESS and ALIGN of CALLB, and STACK and ECC_UE of RETB. -/
def Claims.StackExceptions : Prop :=
  ∀ (c : Nat) (s : State) (a : GReg) (o : BitVec 19), s.fetches c → s.affords c 0 →
    let u := s.fetched c
    let x := s.core c
    let inst := (x.rd a).toNat
    let noStack (sp : Nat) : Prop := sp % 16 ≠ 0 ∨ ¬(x.stackTop - x.stackLen ≤ sp ∧ sp + 16 ≤ x.stackTop) ∨
      sp < 0x10000000 ∨ 0x10080000 < sp + 16
    let noInst : Prop := 2 ^ 32 ≤ inst ∨ inst < 0x10000000 ∨ 0x10080000 ≤ inst
    let down := (x.rd 31 - 16).toNat
    let top := (x.rd 31).toNat
    (noInst → Claims.Raises c (.callb c a o) s 3 (inst % 2 ^ 32)) ∧
    (¬noInst → inst % 8 ≠ 0 → Claims.Raises c (.callb c a o) s 4 inst) ∧
    (¬noInst → inst % 8 = 0 → noStack down → Claims.Raises c (.callb c a o) s 5 (down % 2 ^ 32)) ∧
    (noStack top → Claims.Raises c (.retb c) s 5 (top % 2 ^ 32)) ∧
    (¬noStack top → (u.eccRead (Mem.dram c + (top - 0x10000000)) 16 1).1 = true → Claims.Raises c (.retb c) s 6 top)

/-- R106: SELV_STRAY of a selvedge run: a store outside its data area and stack region, or outside its output area, and the
services Q_PUT, EVT_RAISE and REG_WR, whose FADDR is 0 (the model's choice, log 114). -/
def Claims.StrayExceptions : Prop :=
  ∀ (c : Nat) (s : State) (r a : GReg) (k : BitVec 14) (arg : BitVec 15) (p : Pattern), s.fetches c → s.affords c 0 →
    (s.core c).run ≠ .none → (s.fetched c).pat.active = some p →
    let x := s.core c
    let rec_ := p.runRecord (selvSegOf x.object.toNat) (x.run == .runB)
    let va := ((if a = 0 then x.ib.setWidth 64 else x.rd a) + k.signExtend 64).toNat
    let vs := (x.rd a + k.signExtend 64).toNat
    let loc (i : Instr) (n : Nat) : Prop := va < 2 ^ 32 → 0x10000000 ≤ va → va + n ≤ 0x10080000 →
      ¬(runDataOff rec_ ≤ va ∧ va + n ≤ runDataOff rec_ + runDataLen rec_) →
      ¬(x.stackTop - x.stackLen ≤ va ∧ va + n ≤ x.stackTop) → Claims.Raises c i s 8 va
    let shr (i : Instr) (n : Nat) : Prop := vs < 2 ^ 32 → 0x20000000 ≤ vs → vs + n ≤ 0x21000000 →
      p.granted c (vs - 0x20000000) n true = true →
      ¬(runOutOff rec_ ≤ vs - 0x20000000 ∧ vs - 0x20000000 + n ≤ runOutOff rec_ + runOutLen rec_) →
      Claims.Raises c i s 8 vs
    loc (.s8 c r a k) 1 ∧ loc (.s16 c r a k) 2 ∧ loc (.s32 c r a k) 4 ∧ loc (.s64 c r a k) 8 ∧
    shr (.ss8 c r a k) 1 ∧ shr (.ss16 c r a k) 2 ∧ shr (.ss32 c r a k) 4 ∧ shr (.ss64 c r a k) 8 ∧
    Claims.Raises c (.qPut c arg) s 8 0 ∧ Claims.Raises c (.evtRaise c arg) s 8 0 ∧ Claims.Raises c (.regWr c arg) s 8 0

/-- R83, R84, R86, R91, R93, R95, R102, R106: every exception cause of Table 4.6, where it arises and what it leaves. -/
def Obligations.UnknownInstructions : Prop :=
  Claims.FetchExceptions ∧ Claims.AddressExceptions ∧ Claims.StackExceptions ∧ Claims.StrayExceptions

/-! ### System calls -/

/-- What every service leaves of its own core, x before and y after: its code in g1, its values in g2 and g3 where it
has any, g4 to g31 as they were, the next instruction, its cost. -/
def Claims.Returns (x y : Core) (code : Nat) (g2 g3 : Option (BitVec 64)) (cost : Nat) : Prop :=
  y.rd 1 = BitVec.ofNat 64 code ∧ (∀ v, g2 = some v → y.rd 2 = v) ∧ (∀ v, g3 = some v → y.rd 3 = v) ∧
  (∀ r : GReg, r ≠ 1 → r ≠ 2 → r ≠ 3 → y.rd r = x.rd r) ∧ y.pc = x.pc + 4 ∧ y.cyc = x.cyc + cost ∧ y.ib = x.ib ∧
  y.fst = x.fst

/-- The same, and every other core is as it was. -/
def Claims.Answers (c : Nat) (s t : State) (code : Nat) (g2 g3 : Option (BitVec 64)) (cost : Nat) : Prop :=
  Claims.Returns (s.core c) (t.core c) code g2 g3 cost ∧ ∀ j, j ≠ c → t.core j = s.core j

/-- R95, R96, Table 4.9: TIME_RD, EVT_ARG, Q_STAT, REC_RAISE and EVT_RAISE. -/
def Claims.SmallServices : Prop :=
  ∀ (c : Nat) (s : State) (arg : BitVec 15), s.fetches c →
    let u := s.fetched c
    let x := s.core c
    let k := arg.toNat
    Claims.Overspends c (.timeRd c arg) s 26 ∧ Claims.Overspends c (.evtArg c arg) s 26 ∧
    Claims.Overspends c (.qStat c arg) s 26 ∧ Claims.Overspends c (.recRaise c arg) s 98 ∧
    (s.affords c 26 → ∃ t, exec (.timeRd c arg) s = .next t ∧
      Claims.Answers c s t 0 (some s.clock.edge) (some s.clock.stitch) 26 ∧ u.keeps t [.cores]) ∧
    (∀ code v, x.evt = some (code, v) → s.affords c 26 → ∃ t, exec (.evtArg c arg) s = .next t ∧
      Claims.Answers c s t 0 (some v) (some (code.setWidth 64)) 26 ∧ u.keeps t [.cores]) ∧
    (x.evt = none → s.affords c 26 → ∃ t, exec (.evtArg c arg) s = .next t ∧
      Claims.Answers c s t 2 none none 26 ∧ u.keeps t [.cores, .free]) ∧
    (∀ p, u.pat.active = some p → k < 128 → p.queueDefined k = true →
      s.affords c 26 → ∃ t, exec (.qStat c arg) s = .next t ∧ Claims.Answers c s t 0 (some (BitVec.ofNat 64 (s.queueState k).fill))
        (some ((s.queueState k).overflow.setWidth 64)) 26 ∧ u.keeps t [.cores]) ∧
    (u.evr.staged.length < 64 → s.affords c 98 → ∃ t, exec (.recRaise c arg) s = .next t ∧ Claims.Answers c s t 0 none none 98 ∧
      u.raised t (0x8000 + k) (0x2000 + c) [(x.rd 1).toNat, (x.rd 2).toNat] ∧
      u.regsBut t [F.EVR_STATUS_STAGED.addr] ∧ u.keeps t [.cores, .free, .regs, .evr]) ∧
    (64 ≤ u.evr.staged.length → s.affords c 98 → ∃ t, exec (.recRaise c arg) s = .next t ∧ Claims.Answers c s t 1 none none 98) ∧
    (k ≤ 15 → x.run = .none → (u.triggersOf (16 + k)).length < 8 →
      s.affords c 98 → ∃ t, exec (.evtRaise c arg) s = .next t ∧ Claims.Answers c s t 0 none none 98 ∧
        t.triggersOf (16 + k) = u.triggersOf (16 + k) ++ [⟨BitVec.ofNat 16 (0x8000 + c), x.rd 1, u.clock.stitch, u.coreTick c (x.cyc + 98)⟩] ∧
        (∀ j, j ≠ 16 + k → t.triggersOf j = u.triggersOf j) ∧
        u.regsBut t [(F.SCH_TASK_STATUS_QFILL (16 + k)).addr] ∧ u.keeps t [.cores, .free, .regs, .tasks]) ∧
    (k ≤ 15 → x.run = .none → 8 ≤ (u.triggersOf (16 + k)).length →
      s.affords c 98 → ∃ t, exec (.evtRaise c arg) s = .next t ∧ Claims.Answers c s t 1 none none 98 ∧
        t.getF (F.SCH_TASK_STATUS_OVERFLOW (16 + k)) = Nat.min 255 (u.getF (F.SCH_TASK_STATUS_OVERFLOW (16 + k)) + 1) ∧
        u.keeps t [.cores, .free, .regs, .evr])

/-- R23, R96: Q_PUT puts the element at the end of the queue its core fills, Q_GET takes the oldest of the queue its
core empties; a full queue counts an overflow. That the address in g1 may have any alignment is the model's choice
(log 20), and so is that Q_PUT reads its element before it looks whether the queue is full (log 117). -/
def Claims.QueueServices : Prop :=
  ∀ (c : Nat) (s : State) (arg : BitVec 15) (p : Pattern), s.fetches c → (s.fetched c).pat.active = some p →
    let u := s.fetched c
    let x := s.core c
    let q := arg.toNat
    let n := p.queueSize q
    let va := (x.rd 1).toNat
    let ma := Mem.dram c + (va - 0x10000000)
    let fill := (u.queueState q).fill
    let head := (u.queueState q).head
    q < 128 → p.queueDefined q = true → n ≠ 0 → 0x10000000 ≤ va → va + n ≤ 0x10080000 →
    (p.queueProducer q = c → x.run = .none → (u.eccRead ma n 1).1 = false → fill < p.queueDepth q →
      s.affords c (66 + 32 * ((n + 31) / 32)) → ∃ t, exec (.qPut c arg) s = .next t ∧ Claims.Answers c s t 0 none none (66 + 32 * ((n + 31) / 32)) ∧
        t.queueState q = { u.queueState q with fill := fill + 1 } ∧ (∀ j, j ≠ q → t.queueState j = u.queueState j) ∧
        let place := queuePlace p q (head + fill)
        (∀ i, i < n → t.rdByte (place + i) = s.rdByte (ma + i)) ∧
        (∀ i, ¬(place ≤ i ∧ i < place + n) → t.rdByte i = s.rdByte i) ∧
        u.keeps t [.cores, .free, .queues, .mem, .ecc, .regs, .evr]) ∧
    (p.queueProducer q = c → x.run = .none → (u.eccRead ma n 1).1 = false → p.queueDepth q ≤ fill →
      s.affords c (66 + 32 * ((n + 31) / 32)) → ∃ t, exec (.qPut c arg) s = .next t ∧ Claims.Answers c s t 1 none none (66 + 32 * ((n + 31) / 32)) ∧
        (t.queueState q).fill = fill ∧
        (t.queueState q).overflow.toNat = Nat.min 0xFFFFFFFF ((u.queueState q).overflow.toNat + 1) ∧
        u.keeps t [.cores, .free, .queues, .ecc, .regs, .evr]) ∧
    (p.queueConsumer q = c → x.run = .none → fill ≠ 0 → (u.eccRead (queuePlace p q head) n 1).1 = false →
      (va % 8 = 0 ∨ (u.eccReadWord (ma / 8 * 8) 3).1 = false) →
      ((va + n) % 8 = 0 ∨ (u.eccReadWord ((ma + n - 1) / 8 * 8) 3).1 = false) →
      s.affords c (82 + 32 * ((n + 31) / 32)) → ∃ t, exec (.qGet c arg) s = .next t ∧ Claims.Answers c s t 0 none none (82 + 32 * ((n + 31) / 32)) ∧
        (t.queueState q).fill = fill - 1 ∧ (t.queueState q).head = (head + 1) % p.queueDepth q ∧
        (∀ i, i < n → t.rdByte (ma + i) = s.rdByte (queuePlace p q head + i)) ∧
        (∀ i, ¬(ma ≤ i ∧ i < ma + n) → t.rdByte i = s.rdByte i) ∧
        u.keeps t [.cores, .free, .queues, .mem, .ecc, .regs, .evr]) ∧
    (p.queueConsumer q = c → x.run = .none → fill = 0 →
      s.affords c (82 + 32 * ((n + 31) / 32)) → ∃ t, exec (.qGet c arg) s = .next t ∧ Claims.Answers c s t 1 none none (82 + 32 * ((n + 31) / 32)) ∧
        u.keeps t [.cores, .free])

/-- R23, R95, R96, Table 4.9: the services that stitch code calls, but for those on registers. The alignment of g1 and
the order of the checks of Q_PUT are the model's choice (logs 20 and 117), and so is that an ARG of TIME_RD or EVT_ARG
changes nothing (log 112). -/
def Obligations.Services : Prop := Claims.SmallServices ∧ Claims.QueueServices

/-- R97: a REG_RD or REG_WR whose grant check fails returns 2 and reaches no register. One whose check passes does what a
register access of application code to the granted address does, refused or not (R10), and returns 0 whatever becomes of
it; a REG_RD returns in g2 what the access gives. -/
def Obligations.GrantedAccesses : Prop :=
  ∀ (c : Nat) (s : State) (arg : BitVec 15) (p : Pattern), s.fetches c → (s.fetched c).pat.active = some p →
    let u := s.fetched c
    let x := s.core c
    let k := arg.toNat
    let may (bit : Nat) : Prop :=
      k < p.items Pattern.GRANTS ∧ bitOf (p.grantAccess k) bit = true ∧ bitOf (p.grantCores k) c = true
    (¬may 0 → s.affords c 26 → ∃ t, exec (.regRd c arg) s = .next t ∧ Claims.Answers c s t 2 none none 26 ∧ u.keeps t [.cores, .free]) ∧
    (¬may 1 → x.run = .none →
      s.affords c 26 → ∃ t, exec (.regWr c arg) s = .next t ∧ Claims.Answers c s t 2 none none 26 ∧ u.keeps t [.cores, .free]) ∧
    (may 0 → p.grantAddr k % 4 = 0 → windowAt (p.grantAddr k) = none → isLatched (p.grantAddr k) = false →
      captureHi (p.grantAddr k) = none →
      s.affords c 26 → ∃ t, exec (.regRd c arg) s = .next t ∧
        Claims.Answers c s t 0 (some ((u.liveWord (p.grantAddr k)).setWidth 64)) none 26 ∧
        u.keeps t [.cores, .free, .bus]) ∧
    (may 0 → u.readable (.application c) (p.grantAddr k) → s.affords c 26 →
      ∃ t w, exec (.regRd c arg) s = .next t ∧
        exec (.registerRead (.application c) (BitVec.ofNat 32 (p.grantAddr k)) 4) u = .next w ∧
        Claims.Returns x (t.core c) 0 (some (w.bus.response.setWidth 64)) none 26 ∧
        (∀ j, j ≠ c → t.core j = w.core j) ∧ w.keeps t [.cores, .free, .bus]) ∧
    (may 1 → x.run = .none → u.served (.application c) (p.grantAddr k) → s.affords c 26 →
      ∃ t w, exec (.regWr c arg) s = .next t ∧
        exec (.registerWrite (.application c) (BitVec.ofNat 32 (p.grantAddr k)) ((x.rd 1).setWidth 32) 4) u = .next w ∧
        Claims.Returns x (t.core c) 0 none none 26 ∧
        (∀ j, j ≠ c → t.core j = w.core j) ∧ w.keeps t [.cores, .free]) ∧
    (may 1 → x.run = .none → p.grantAddr k = (F.GLB_FORCE_SYM_SYM_ID).addr →
      s.affords c 26 → ∃ t, exec (.regWr c arg) s = .next t ∧ Claims.Answers c s t 0 none none 26 ∧
        t.getR (p.grantAddr k) = (x.rd 1).setWidth 32 ∧ u.regsBut t [p.grantAddr k] ∧
        u.keeps t [.cores, .free, .regs])

/-! ### Register accesses -/

/-- A refused access (R10, R14): its flag is set, COUNT rises by 1 and stops at 255, SOURCE is the requester; no other
register and no other part of the state changes. -/
def Claims.Refused (i : Instr) (s : State) (flag : Fld) (source : Nat) : Prop :=
  ∃ t, exec i s = .next t ∧ t.getF flag = 1 ∧ t.getF F.GLB_ACCERR_COUNT = Nat.min 255 (s.getF F.GLB_ACCERR_COUNT + 1) ∧
    t.getF F.GLB_ACCERR_SOURCE = source ∧ s.regsBut t [F.GLB_ACCERR_COUNT.addr] ∧ s.keeps t [.regs]

/-- R8, R10, R11, R32, R33: narrow and misaligned accesses, reserved offsets, addresses outside every block, and
registers of RO fields alone are refused; RW fields take a write; RWS fields take one in STOP and TACKING only; a 1
clears a W1C field. A write of a requester that no grant and no session lets write there changes nothing (the model's
choice, log 90). -/
def Claims.RegisterWrites : Prop :=
  ∀ (s : State) (req : Requester) (addr v : BitVec 32) (n : Nat),
    let a := addr.toNat
    let src := Requester.source req
    (s.mayWrite req a (isEnrol a v) = false → exec (.registerWrite req addr v n) s = .next s) ∧ (s.served req a →
    (n ≠ 4 ∨ a % 4 ≠ 0 → Claims.Refused (.registerWrite req addr v n) s F.GLB_ACCERR_BAD_WIDTH src) ∧
    (a % 4 = 0 → findReg a = none → windowAt a = none →
      Claims.Refused (.registerWrite req addr v 4) s F.GLB_ACCERR_RESERVED_ADDR src) ∧
    (0x00130000 ≤ a → a % 4 = 0 → Claims.Refused (.registerWrite req addr v 4) s F.GLB_ACCERR_RESERVED_ADDR src) ∧
    (a = F.PAT_GEN_GENERATION.addr ∨ a = F.SCH_STITCH_LO_COUNT.addr ∨ a = F.EVR_NEXT_LO_NEXT.addr →
      Claims.Refused (.registerWrite req addr v 4) s F.GLB_ACCERR_REFUSED_RO src) ∧
    (a = F.LPE_BOB_AMP_VALUE.addr → s.bobState = 1 ∨ s.bobState = 2 →
      Claims.Refused (.registerWrite req addr v 4) s F.GLB_ACCERR_REFUSED_RO src) ∧
    (a = F.GLB_FORCE_SYM_SYM_ID.addr ∨ a = F.UPD_LEN_LENGTH.addr ∨
        a = F.LPE_BOB_AMP_VALUE.addr ∧ s.bobState ≠ 1 ∧ s.bobState ≠ 2 →
      ∃ t, exec (.registerWrite req addr v 4) s = .next t ∧ t.getR a = v ∧ s.regsBut t [a] ∧ s.keeps t [.regs]) ∧
    (∀ k, k < 8 → a = (F.CAN_CTRL_LOOP k).addr → s.station = .run → (F.CAN_CTRL_LOOP k).pick v ≠ s.getF (F.CAN_CTRL_LOOP k) →
      Claims.Refused (.registerWrite req addr v 4) s F.GLB_ACCERR_REFUSED_RWS src) ∧
    (∀ k, k < 8 → a = (F.CAN_CTRL_LOOP k).addr → s.station = .stop ∨ s.station = .tacking →
      (F.CAN_CTRL_LOOP k).pick v ≠ 3 →
      ∃ t, exec (.registerWrite req addr v 4) s = .next t ∧ t.getF (F.CAN_CTRL_LOOP k) = (F.CAN_CTRL_LOOP k).pick v ∧
        s.regsBut t [a] ∧ s.keeps t [.regs]) ∧
    (a = F.APC_WSIG_MM_VALID.addr → v = 0x80000000#32 →
      ∃ t, exec (.registerWrite req addr v 4) s = .next t ∧ t.getF F.APC_WSIG_MM_VALID = 0 ∧
        t.getF F.APC_WSIG_MM_SEGMENT = s.getF F.APC_WSIG_MM_SEGMENT ∧ s.regsBut t [a] ∧ s.keeps t [.regs]))

/-- R9, R10, R11: what a write does to a register of the map, of whatever chapter, whose fields are RO, RW, RWS and W1C and
whose chapter gives its write no reaction of its own: a register of RO fields alone refuses it; else each field takes what
its access type says, a field that its chapter lets refuse the value keeps its own, and what was refused is recorded as one
access. A CORE_FAULT register whose VALID is cleared takes its bit out of APC_STATUS with it (R91). -/
def Claims.RegisterFields : Prop :=
  ∀ (s : State) (req : Requester) (addr v : BitVec 32) (r : RegDef),
    let a := addr.toNat
    s.served req a → a % 4 = 0 → windowAt a = none → findReg a = some r → s.ownWrite req a v = none →
    (∀ f ∈ r.fields, f.acc ≠ .wo ∧ f.acc ≠ .w1s) →
    ((∀ f ∈ r.fields, f.acc = .ro) → Claims.Refused (.registerWrite req addr v 4) s F.GLB_ACCERR_REFUSED_RO (Requester.source req)) ∧
    ((∃ f ∈ r.fields, f.acc ≠ .ro) →
      let old (f : FieldDef) : Nat := s.getF (Fld.mk a f.hi f.lo)
      let new (f : FieldDef) : Nat := (Fld.mk a f.hi f.lo).pick v
      let free : Prop := s.station = .stop ∨ s.station = .tacking
      let bad (f : FieldDef) : Prop := s.fieldRefuses req a v f = true
      let refusedRws : Prop := ∃ f ∈ r.fields, f.acc = .rws ∧ new f ≠ old f ∧ ¬free
      let refusedRo : Prop := ∃ f ∈ r.fields, (f.acc = .ro ∧ new f ≠ 0) ∨ (f.acc = .rw ∧ bad f) ∨
        (f.acc = .rws ∧ new f ≠ old f ∧ free ∧ bad f) ∨ (f.acc = .w1c ∧ new f ≠ 0 ∧ bad f)
      ∃ t, exec (.registerWrite req addr v 4) s = .next t ∧
        (∀ f ∈ r.fields,
          let now : Nat := t.getF (Fld.mk a f.hi f.lo)
          (f.acc = .ro → now = old f) ∧ (f.acc = .rw → ¬bad f → now = new f) ∧ (f.acc = .rw → bad f → now = old f) ∧
          (f.acc = .rws → free → ¬bad f → now = new f) ∧ (f.acc = .rws → (¬free ∨ bad f) → now = old f) ∧
          (f.acc = .w1c → ¬bad f → ∀ i, f.lo ≤ i → i ≤ f.hi →
            (t.getR a).getLsbD i = ((s.getR a).getLsbD i && !v.getLsbD i)) ∧
          (f.acc = .w1c → bad f → now = old f)) ∧
        (refusedRws → t.getF F.GLB_ACCERR_REFUSED_RWS = 1) ∧ (refusedRo → t.getF F.GLB_ACCERR_REFUSED_RO = 1) ∧
        (refusedRws ∨ refusedRo → t.getF F.GLB_ACCERR_SOURCE = Requester.source req ∧
          t.getF F.GLB_ACCERR_COUNT = Nat.min 255 (s.getF F.GLB_ACCERR_COUNT + 1)) ∧
        (¬refusedRws → ¬refusedRo → t.getR F.GLB_ACCERR_COUNT.addr = s.getR F.GLB_ACCERR_COUNT.addr) ∧
        (t.getR F.APC_STATUS_FAULT.addr ≠ s.getR F.APC_STATUS_FAULT.addr →
          ∃ n, n < 8 ∧ a = (F.APC_CORE_FAULT_VALID n).addr ∧ (F.APC_CORE_FAULT_VALID n).pick v = 1) ∧
        s.regsBut t [a, F.GLB_ACCERR_COUNT.addr, F.APC_STATUS_FAULT.addr] ∧ s.keeps t [.regs])

/-- R14: a write to GLB_ACCERR clears the flags it puts a 1 into, and COUNT with them if it cleared one; a 1 in SOURCE
or COUNT of the same write is then recorded as a refusal. -/
def Claims.AccessErrorRegister : Prop :=
  ∀ (s : State) (req : Requester) (v : BitVec 32), s.served req F.GLB_ACCERR_COUNT.addr →
    let a := F.GLB_ACCERR_COUNT.addr
    let old := s.getR a
    let clears : Prop := old &&& v &&& 0xF#32 ≠ 0
    let refused : Prop := v &&& 0xF000FF00#32 ≠ 0
    ∃ t, exec (.glbAccerrWrite req v) s = .next t ∧ s.regsBut t [a] ∧ s.keeps t [.regs] ∧
      (¬refused → t.getR a &&& 0xF#32 = old &&& ~~~v &&& 0xF#32 ∧
        t.getF F.GLB_ACCERR_SOURCE = s.getF F.GLB_ACCERR_SOURCE) ∧
      (¬refused → clears → t.getF F.GLB_ACCERR_COUNT = 0) ∧
      (¬refused → ¬clears → t.getF F.GLB_ACCERR_COUNT = s.getF F.GLB_ACCERR_COUNT) ∧
      (refused → t.getF F.GLB_ACCERR_REFUSED_RO = 1 ∧ t.getF F.GLB_ACCERR_SOURCE = Requester.source req) ∧
      (refused → clears → t.getF F.GLB_ACCERR_COUNT = 1) ∧
      (refused → ¬clears → t.getF F.GLB_ACCERR_COUNT = Nat.min 255 (s.getF F.GLB_ACCERR_COUNT + 1))

/-- R8, R10, R11, R14, R32, R33: writes of registers, what is refused, and the register that records refusals. -/
def Obligations.RegisterWritesAndRefusals : Prop :=
  Claims.RegisterWrites ∧ Claims.RegisterFields ∧ Claims.AccessErrorRegister

/-- R8, R10, R11, R34, R321: a read returns the register's value, 0 for a reserved offset; a refused one returns 0; a
low word latches its high word, which the read of the high word returns; a read of PTP_CAPc_HI returns the high word of
the oldest capture and removes it. A read of a requester that no grant and no session lets read there does nothing (the
model's choice, log 90). -/
def Obligations.RegisterReads : Prop :=
  ∀ (s : State) (req : Requester) (addr : BitVec 32) (n c : Nat),
    let a := addr.toNat
    (s.mayRead req a = false → exec (.registerRead req addr n) s = .next s) ∧ (s.readable req a →
    (n ≠ 4 ∨ a % 4 ≠ 0 → ∃ t, exec (.registerRead req addr n) s = .next t ∧ t.bus.response = 0 ∧
      t.getF F.GLB_ACCERR_BAD_WIDTH = 1 ∧ s.regsBut t [F.GLB_ACCERR_COUNT.addr] ∧ s.keeps t [.regs, .bus]) ∧
    (a % 4 = 0 → windowAt a = none → isLatched a = false → captureHi a = none →
      ∃ t, exec (.registerRead req addr 4) s = .next t ∧ t.bus.response = s.liveWord a ∧ s.keeps t [.bus]) ∧
    (a % 4 = 0 → windowAt a = none → findReg a = none →
      ∃ t, exec (.registerRead req addr 4) s = .next t ∧ t.bus.response = 0 ∧ s.keeps t [.bus]) ∧
    (a = F.SCH_STITCH_LO_COUNT.addr → s.readable req F.SCH_STITCH_HI_COUNT.addr → ∃ t, exec (.registerRead req addr 4) s = .next t ∧
      t.bus.response = s.clock.stitch.setWidth 32 ∧
      ∃ u, exec (.registerRead req (BitVec.ofNat 32 F.SCH_STITCH_HI_COUNT.addr) 4) t = .next u ∧
        u.bus.response = (s.clock.stitch >>> 32).setWidth 32 ∧ t.keeps u [.bus])) ∧
    (∀ e rest, c < 16 → s.readable req (F.PTP_CAP_HI_TIME c).addr → s.capturesOf c = e :: rest → ∃ t, exec (.captureRead req c) s = .next t ∧
      t.bus.response = (e >>> 32).setWidth 32 ∧ t.capturesOf c = rest ∧
      (∀ j, j ≠ c → t.capturesOf j = s.capturesOf j) ∧ s.regsBut t [(F.PTP_CAP_STATUS_FILL c).addr] ∧
      s.keeps t [.regs, .bus, .ptp])

/-- R13, R33, R462 to R464: outside WATCH the carrier management port reads the registers listed for it and gets 0 from
every other address, counted without a flag; it writes GLB_CMP_INn while IN_FULL is clear, and nothing else. -/
def Obligations.CarrierPort : Prop :=
  ∀ (s : State) (addr : BitVec 32) (b0 b1 b2 b3 : Byte), s.reachable = true → s.rst.vioOut = false →
    let a := addr.toNat
    (a % 4 = 0 → portListed a = true → isLatched a = false →
      ∃ t, exec (.cmpRead addr 1) s = .next t ∧ t.bus.cmpData = [s.liveWord a] ∧ s.keeps t [.bus]) ∧
    (a % 4 = 0 → portListed a = false → ∃ t, exec (.cmpRead addr 1) s = .next t ∧ t.bus.cmpData = [0] ∧
      t.getF F.GLB_ACCERR_COUNT = Nat.min 255 (s.getF F.GLB_ACCERR_COUNT + 1) ∧ t.getF F.GLB_ACCERR_SOURCE = 3 ∧
      t.getR F.GLB_ACCERR_COUNT.addr &&& 0xF#32 = s.getR F.GLB_ACCERR_COUNT.addr &&& 0xF#32 ∧
      s.regsBut t [F.GLB_ACCERR_COUNT.addr] ∧ s.keeps t [.regs, .bus]) ∧
    (a % 4 = 0 → a ≠ F.GLB_CMP_CMD_OP.addr → (∀ k, k < 16 → a ≠ (F.GLB_CMP_IN_DATA k).addr) →
      Claims.Refused (.cmpWrite addr [b0, b1, b2, b3]) s F.GLB_ACCERR_REFUSED_RO 3) ∧
    (∀ k, k < 16 → a = (F.GLB_CMP_IN_DATA k).addr → s.getF F.GLB_CMP_STATUS_IN_FULL = 0 →
      ∃ t, exec (.cmpWrite addr [b0, b1, b2, b3]) s = .next t ∧ t.getR a = b3 ++ b2 ++ b1 ++ b0 ∧
        s.regsBut t [a] ∧ s.keeps t [.regs]) ∧
    (∀ k, k < 16 → a = (F.GLB_CMP_IN_DATA k).addr → s.getF F.GLB_CMP_STATUS_IN_FULL = 1 →
      Claims.Refused (.cmpWrite addr [b0, b1, b2, b3]) s F.GLB_ACCERR_REFUSED_RO 3) ∧
    (a % 4 ≠ 0 → Claims.Refused (.cmpWrite addr [b0, b1, b2, b3]) s F.GLB_ACCERR_BAD_WIDTH 3)

/-- R465: the mailbox. A POST of its side with a length of 1 to 64 fills a free direction, a TAKE of the other side
empties it; the engineering service is of neither side; a POST into a full direction, of a wrong length or by the wrong side, a TAKE by the wrong side and one that
meets its POST in one cycle are refused as writes to an RO field. -/
def Obligations.Mailbox : Prop :=
  ∀ (s : State) (req : Requester) (len : BitVec 7), s.served req F.GLB_CMP_CMD_OP.addr →
    let src := Requester.source req
    let ok := 1 ≤ len.toNat ∧ len.toNat ≤ 64
    let done (i : Instr) (f : Fld) (v : Nat) (l : Fld) : Prop := ∃ t, exec i s = .next t ∧ t.getF f = v ∧
      (v = 1 → t.getF l = len.toNat) ∧ s.regsBut t [F.GLB_CMP_STATUS_IN_FULL.addr] ∧ s.keeps t [.regs]
    let no (i : Instr) (source : Nat) : Prop := Claims.Refused i s F.GLB_ACCERR_REFUSED_RO source
    (req = .engService → no (.inTake req false) 2 ∧ no (.outPost req len) 2) ∧
    (ok → s.getF F.GLB_CMP_STATUS_IN_FULL = 0 →
      done (.inPost .cmp len) F.GLB_CMP_STATUS_IN_FULL 1 F.GLB_CMP_STATUS_IN_LEN) ∧
    (¬ok ∨ s.getF F.GLB_CMP_STATUS_IN_FULL = 1 → no (.inPost .cmp len) 3) ∧ no (.inPost req len) src ∧
    (req ≠ .engService → done (.inTake req false) F.GLB_CMP_STATUS_IN_FULL 0 F.GLB_CMP_STATUS_IN_LEN) ∧ no (.inTake req true) src ∧
    no (.inTake .cmp false) 3 ∧
    (req ≠ .engService → ok → s.getF F.GLB_CMP_STATUS_OUT_FULL = 0 →
      done (.outPost req len) F.GLB_CMP_STATUS_OUT_FULL 1 F.GLB_CMP_STATUS_OUT_LEN) ∧
    (¬ok ∨ s.getF F.GLB_CMP_STATUS_OUT_FULL = 1 → no (.outPost req len) src) ∧ no (.outPost .cmp len) 3 ∧
    done (.outTake .cmp false) F.GLB_CMP_STATUS_OUT_FULL 0 F.GLB_CMP_STATUS_OUT_LEN ∧ no (.outTake .cmp true) 3 ∧
    no (.outTake req false) src

/-! ### Slot entries -/

/-- R17, R46, R82, R106, R122: an entry of a core that is free starts at its tick: PC at its first instruction, g31 at
the top of its stack, every other register, IB, FST and CYC 0; an event slot takes the oldest trigger posted before its
tick: in an earlier stitch or an earlier tick of this one, the model's choice (log 108). An entry whose core is still busy does not start and is counted as an overrun of CAUSE 2; a core without power
executes nothing (R29); that such an entry passes without an overrun is the model's choice (log 105). -/
def Obligations.CoreEntriesStart : Prop :=
  ∀ (c k : Nat) (s : State) (r : Running) (p : Pattern), c < 8 → s.scheduled c k = some r → s.pat.active = some p →
    let obj := r.entry.object
    let task := bitsOf obj 12 8
    let seg := bitsOf obj 7 0
    let fresh (x : Core) (pc sp : Nat) (run : RunKind) : Prop := x.pc = BitVec.ofNat 32 pc ∧
      x.rd 31 = BitVec.ofNat 64 sp ∧ (∀ q : GReg, q ≠ 31 → x.rd q = 0) ∧ x.ib = 0 ∧ x.fst = 0 ∧ x.cyc = 0 ∧
      x.object = BitVec.ofNat 16 obj ∧ x.run = run
    let owns := s.roleIs .solo = true ∨ s.roleIs .active = true
    let clocked := s.getF F.SCH_STATUS_DEGRADED_CLK = 0
    let others (t : State) : Prop := (∀ j, j ≠ c → t.core j = s.core j) ∧ (∀ a, t.rdByte a = s.rdByte a) ∧
      s.regsBut t [F.APC_STATUS_BUSY.addr]
    ((s.agent c).running = none → owns → clocked → s.domainOn c = true →
      (r.entry.kind = .coreSeg → s.getF (F.SCH_TASK_STATUS_SUSPENDED task) = 0 →
        (seg = 0 ∨ Store.get (fun _ => false) s.tasks.cut task = false) →
        ∃ t, exec (.coreSeg c k) s = .next t ∧ (t.agent c).running = some r ∧
          fresh (t.core c) (p.segEntry task seg) (p.segStackTop task seg) .none ∧ others t ∧
          s.keeps t [.clock, .sched, .cores, .regs, .tasks]) ∧
      (r.entry.kind = .selvSeg → ∃ t, exec (.selvSeg c k) s = .next t ∧ (t.agent c).running = some r ∧
        (let runB := bitOf obj 15
         let rr := p.runRecord (bitsOf obj 11 0) runB
         fresh (t.core c) (runEntry rr) (runStackTop rr) (if runB then .runB else .runA) ∧
         t.sig (bitsOf obj 11 0) runB = WSig.clear) ∧ others t ∧ s.keeps t [.clock, .sched, .cores, .regs, .wsig]) ∧
      (∀ g rest, r.entry.kind = .evtSlot → s.getF (F.SCH_TASK_STATUS_SUSPENDED task) = 0 →
        s.triggersOf task = g :: rest → (g.stitch ≠ s.clock.stitch ∨ g.tick < r.entry.start) →
        ∃ t, exec (.evtSlot c k) s = .next t ∧ (t.agent c).running = some r ∧
          fresh (t.core c) (p.segEntry task 0) (p.segStackTop task 0) .none ∧
          (t.core c).evt = some (g.code, g.arg) ∧ t.triggersOf task = rest ∧
          s.keeps t [.clock, .sched, .cores, .regs, .tasks]) ∧
      (r.entry.kind = .evtSlot → s.triggersOf task = [] →
        ∃ t, exec (.evtSlot c k) s = .next t ∧ (t.agent c).running = none ∧ (t.agent c).done = k + 1 ∧
          (∀ j, t.core j = s.core j) ∧ s.keeps t [.clock, .sched, .regs])) ∧
    (s.domainOn c = false → r.entry.kind = .coreSeg → ∃ t, exec (.coreSeg c k) s = .next t ∧
      (t.agent c).running = (s.agent c).running ∧ (t.agent c).done = k + 1 ∧ s.keeps t [.clock, .sched]) ∧
    (∀ q, (s.agent c).running = some q → r.entry.kind = .coreSeg → owns → clocked → s.domainOn c = true →
      s.getF (F.SCH_TASK_STATUS_SUSPENDED task) = 0 → (seg = 0 ∨ Store.get (fun _ => false) s.tasks.cut task = false) →
      ∃ t, exec (.coreSeg c k) s = .next t ∧ (t.agent c).running = some q ∧ (∀ j, t.core j = s.core j) ∧
        t.getF F.SCH_OVR_COUNT_COUNT = Nat.min (2 ^ F.SCH_OVR_COUNT_COUNT.width - 1) (s.getF F.SCH_OVR_COUNT_COUNT + 1) ∧
        (s.getF F.SCH_OVR_FIRST_VALID = 0 → t.getF F.SCH_OVR_FIRST_VALID = 1 ∧ t.getF F.SCH_OVR_FIRST_CAUSE = 2 ∧
          t.getF F.SCH_OVR_FIRST_AGENT = c))

/-- R135, R144, R50: a group entry of a free lane samples the due channels of its object in ascending order and ends. -/
def Obligations.LoopGroups : Prop :=
  ∀ (l k : Nat) (s : State) (r : Running) (p : Pattern), l < 8 → s.scheduled (8 + l) k = some r →
    s.pat.active = some p → r.entry.kind = .loopGrp → (s.agent (8 + l)).running = none →
    (s.roleIs .solo = true ∨ s.roleIs .active = true) → s.getF F.SCH_STATUS_DEGRADED_CLK = 0 → s.domainOn domLoop = true →
    let chans := (List.range (bitsOf r.entry.object 15 8 + 1)).map (fun i => bitsOf r.entry.object 7 0 + i)
    ∃ u t, exec (.loopGrp l k) s = .next t ∧
      u = (((s.atTick r.entry.start).setF F.LPE_STATUS_STANDBY_PASS 0).grpCompute p r.entry.start
        (chans.filter (fun c => lpDue (p.loop c) s.seamPos))).2 ∧
      (t.agent (8 + l)).running = none ∧ (t.agent (8 + l)).done = max (s.agent (8 + l)).done (k + 1) ∧
      u.regsBut t [F.LPE_STATUS_BUSY.addr] ∧ u.keeps t [.regs, .sched]

/-- R175 to R177, R184, R189, R191, R194: a QP_START of a free solver starts the solve of an enabled context whose input is
there. A DISABLING or DISABLED context delivers its fallback vector: the descriptor names buffer 3 with status DISABLED and
the next SEQ, the export block takes that buffer's values, no buffer is written, the warm start is cleared, no miss is
counted, and no solve starts. -/
def Obligations.SolveStarts : Prop :=
  ∀ (k : Nat) (s : State) (r : Running) (p : Pattern), s.scheduled 16 k = some r → s.pat.active = some p →
    r.entry.kind = .qpStart → s.qps.run = none → (s.roleIs .solo = true ∨ s.roleIs .active = true) →
    s.getF F.SCH_STATUS_DEGRADED_CLK = 0 → s.domainOn domSolver = true →
    let c := r.entry.object % 8
    qpUsed (p.qp c) = true →
    (s.getF (F.QPS_CTX_STATE_MODE c) = qmEnabled → ∃ t, exec (.qpStart k) s = .next t ∧
      (∃ v, t.qps.run = some v ∧ v.ctx = c ∧ v.start = s.clock.stitch ∧ v.warm = (s.qpCtx c).warm) ∧
      t.getF F.QPS_STATUS_BUSY = 1 ∧ t.getF F.QPS_STATUS_CTX = c ∧ (t.agent 16).done = max (s.agent 16).done (k + 1)) ∧
    (s.getF (F.QPS_CTX_STATE_MODE c) = qmDisabled ∨ s.getF (F.QPS_CTX_STATE_MODE c) = qmDisabling →
      let it := p.qp c
      let out := Mem.shared + qpOutOff it
      let exp := Mem.shared + qpExpOff it
      let seq := (s.getF (F.QPS_CTX_SEQ_SEQ c) + 1) % 2 ^ 32
      let exports := (qpExpIdx it).any (· != 0xFF)
      ∃ t, exec (.qpStart k) s = .next t ∧ t.qps.run = none ∧
      (t.qpCtx c).warm = [] ∧ (t.qpCtx c).valid = (s.qpCtx c).valid ∧ (t.agent 16).done = max (s.agent 16).done (k + 1) ∧
      t.getF (F.QPS_CTX_SEQ_SEQ c) = seq ∧ t.getF (F.QPS_CTX_STATE_LAST_STATUS c) = 8 ∧
      t.getF (F.QPS_CTX_CYC_CYCLES c) = 0 ∧ t.getR (F.QPS_MISS_COUNT c).addr = s.getR (F.QPS_MISS_COUNT c).addr ∧
      t.rdLe out 8 = seq + 2 ^ 32 * 8 + 2 ^ 40 * 3 ∧ t.rdLe (out + 8) 4 = s.clock.stitch.toNat % 2 ^ 32 ∧
      t.rdLe (out + 12) 4 = 0 ∧ (∀ i, i < 16 → t.rdByte (out + 16 + i) = 0#8) ∧
      (exports = true → exp + 32 ≤ out ∨ out + 32 ≤ exp → ∀ i, i < 8 →
        t.rdLe (exp + 4 * i) 4 = if it.u8 (32 + i) = 0xFF then 0
          else exportWord (s.rdLe (out + 32 + 3 * qpBufBytes it + 8 * it.u8 (32 + i)) 8)) ∧
      ∀ a, ¬(out ≤ a ∧ a < out + 32) → (exports = false ∨ ¬(exp ≤ a ∧ a < exp + 32)) → t.rdByte a = s.rdByte a)

/-- R25, R127: OUT_APPLY applies everything of its apply point and ends its entry, after which only the output areas of
selvedge runs compared after it wait (R108); RETAIN_COMMIT writes the retained data and then the header into the bank that is not committed, and
no other byte. -/
def Obligations.SequencerEntries : Prop :=
  ∀ (s : State) (r : Running) (p : Pattern), s.pat.active = some p → s.getF F.SCH_STATUS_DEGRADED_CLK = 0 →
    (s.nextIoEntry .outApply = some r → ∃ t, exec .outApply s = .next t ∧
      (let v := s.atTick r.entry.start
       let u := (v.settleField v.nowNs).applyPoint p
       t.fio = u.fio ∧ t.net = u.net ∧ (∀ a, t.getR a = u.getR a) ∧ (∀ a, t.rdByte a = u.rdByte a)) ∧
      (∀ g, t.segmentValid g = s.sched.selvLate.contains g) ∧ (t.agent 28).done = r.index + 1) ∧
    (s.nextIoEntry .retainCommit = some r → s.commitStitch = false → ∃ t, exec .retainCommit s = .next t ∧
      (let u := s.retainedReads p
       let bank := match s.committedBank with
         | some b => 1 - b
         | none => 0
       let seq := match s.committedBank with
         | some b => bankSeq (s.bankHeader b) + 1
         | none => 1
       let data := u.retainedData p
       let base := Mem.retainBank bank
       let head := bankHead p seq data
       (∀ i, i < 64 → t.rdByte (base + i) = (head ++ leBytes 4 (crc32c head).toNat).getD i 0#8) ∧
       (∀ i, i < data.length → t.rdByte (base + 64 + i) = data.getD i 0#8) ∧
       (∀ a, ¬(base ≤ a ∧ a < base + 64 + data.length) → t.rdByte a = s.rdByte a)) ∧
      (t.agent 28).done = r.index + 1)

/-- R204: what an apply point does to a digital output: CMD shows the command its writer gives, and the output is on
only if its conditions hold and nothing latches it off. That an output is off until its group has been tested is the
model's choice (log 62). -/
def Obligations.OutputsAtApply : Prop :=
  ∀ (s : State) (p : Pattern) (n : Nat), n < 48 →
    let t := s.applyOutput p n
    t.getF (F.DIO_CH_STATUS_CMD n) = (if s.outCommand p n = some true then 1 else 0) ∧
    (t.isOn n = true → (t.station = .run ∨ t.station = .tacking) ∧ t.domainOn domDio = true ∧
      t.groupCut (groupOf n) = false ∧ t.getF (F.DIO_CH_STATUS_LATCHED n) = 0 ∧ (t.dio n).wait = .none) ∧
    (let u := s.outCommandRead p n
     (∀ q, q ≠ n → t.dio q = s.dio q) ∧ u.regsBut t [(F.DIO_CH_STATUS_CMD n).addr] ∧ u.keeps t [.regs, .fio] ∧
     s.keeps u [.ecc, .regs, .evr, .saf])

/-- R476, R477: a scheduled self-test that passes counts in DGT_ST.PASS; one that fails counts in FAIL and raises
SELFTEST_FAIL with its agent and test. -/
def Claims.SelfTests : Prop :=
  ∀ (a k : Nat) (s : State) (r : Running), a < 29 → s.scheduled a k = some r → r.entry.kind = .selftest →
    (s.agent a).running = none → s.getF F.SCH_STATUS_DEGRADED_CLK = 0 → bitsOf r.entry.object 7 0 ≠ 0x31 →
    (∃ t, exec (.selftest a k true) s = .next t ∧
      t.getF F.DGT_ST_PASS = (s.getF F.DGT_ST_PASS + 1) % 2 ^ 16 ∧ t.getF F.DGT_ST_FAIL = s.getF F.DGT_ST_FAIL ∧
      (t.agent a).done = k + 1 ∧ s.regsBut t [F.DGT_ST_PASS.addr] ∧ s.keeps t [.clock, .sched, .regs, .dgt]) ∧
    (∃ t, exec (.selftest a k false) s = .next t ∧ t.getF F.DGT_ST_PASS = s.getF F.DGT_ST_PASS ∧
      t.getF F.DGT_ST_FAIL = Nat.min (2 ^ 16 - 1) (s.getF F.DGT_ST_FAIL + 1) ∧
      s.raised t 0x00F0 0 [a, bitsOf r.entry.object 7 0] ∧ (t.agent a).done = k + 1 ∧
      s.regsBut t [F.DGT_ST_PASS.addr, F.EVR_STATUS_STAGED.addr] ∧ s.keeps t [.clock, .sched, .regs, .dgt, .evr])

/-- R49, R50, R51: an overrun of a task's entry ends it on its core, whose activation is cut and counted in ABORTS,
with CAUSE 0 when its cycles have passed its budget, and CAUSE 1 at its END tick; the first overrun is captured. That
BUDGET_EXCEEDED of an entry within its budget changes nothing is the model's choice: a command whose condition does not
hold has no effect (log 55). -/
def Obligations.Overruns : Prop :=
  ∀ (c : Nat) (s : State) (q : Running) (p : Pattern), c < 8 → (s.agent c).running = some q →
    s.pat.active = some p → q.entry.kind = .coreSeg →
    let task := bitsOf q.entry.object 12 8
    p.taskSuspend task = false →
    let ended (i : Instr) (cause : Nat) : Prop := ∃ t, exec i s = .next t ∧ (t.agent c).running = none ∧
      (t.agent c).overran = true ∧ Store.get (fun _ => false) t.tasks.cut task = true ∧
      t.getF F.SCH_OVR_COUNT_COUNT = Nat.min (2 ^ F.SCH_OVR_COUNT_COUNT.width - 1) (s.getF F.SCH_OVR_COUNT_COUNT + 1) ∧
      t.getF (F.SCH_TASK_STATUS_ABORTS task) = Nat.min 255 (s.getF (F.SCH_TASK_STATUS_ABORTS task) + 1) ∧
      (s.getF F.SCH_OVR_FIRST_VALID = 0 → t.getF F.SCH_OVR_FIRST_VALID = 1 ∧ t.getF F.SCH_OVR_FIRST_CAUSE = cause ∧
        t.getF F.SCH_OVR_FIRST_AGENT = c) ∧
      t.getF (F.SCH_TASK_STATUS_PUBLISHED task) = s.getF (F.SCH_TASK_STATUS_PUBLISHED task) ∧
      t.getF (F.SCH_TASK_STATUS_HALF task) = s.getF (F.SCH_TASK_STATUS_HALF task) ∧
      s.keeps t [.clock, .sched, .regs, .tasks]
    (q.entry.budget < (s.core c).cyc → ended (.budgetExceeded c) 0 ∧ ended (.endTickOverrun c) 0) ∧
    ((s.core c).cyc ≤ q.entry.budget → exec (.budgetExceeded c) s = .next s ∧ ended (.endTickOverrun c) 1)

/-- R290, R291, R308: a CAN slot takes its frame at START, which waits for the bus; without data it is counted; at END
a frame that is not in transmission is withdrawn and counted, as where the frame on the bus is an earlier entry's; one
that is goes on without a retry. A slot whose agent is still busy overruns and takes no frame, which stays where it is:
the model's choice (log 89). A slot of a plant port sends its frame, or counts that it had none, in a counter of the model
for which the spec has no register (log 82). -/
def Claims.NetworkSlots : Prop :=
  ∀ (n k : Nat) (s : State) (r : Running) (p : Pattern), s.pat.active = some p → r.entry.kind = .netTx →
    s.getF F.SCH_STATUS_DEGRADED_CLK = 0 →
    let slot := slotOf r.entry.object
    (∀ it, n < 8 → s.scheduled (17 + n) k = some r → (s.agent (17 + n)).running = none → p.canSlot n slot = some it →
      (∀ rec u, (s.atTick r.entry.start).canSlotTake p n slot it = (some rec, u) →
        recBad (canFdEn (u.canCfg n)) false rec = false →
        ∃ t, exec (.canSlotStart n k) s = .next t ∧ (t.canOf n).slot = some (slot, rec) ∧
          (t.agent (17 + n)).running = some r ∧ u.keeps t [.sched, .can]) ∧
      (∀ u, (s.atTick r.entry.start).canSlotTake p n slot it = (none, u) →
        ∃ t, exec (.canSlotStart n k) s = .next t ∧ (t.agent (17 + n)).running = none ∧
          (t.agent (17 + n)).done = max (s.agent (17 + n)).done (k + 1) ∧ t.getF (F.CAN_TX_STAT_NO_DATA n) =
            Nat.min 255 (u.getF (F.CAN_TX_STAT_NO_DATA n) + 1) ∧ u.keeps t [.sched, .regs])) ∧
    (∀ q, n < 8 → s.scheduled (17 + n) k = some r → (s.agent (17 + n)).running = some q →
      ∃ t, exec (.canSlotStart n k) s = .next t ∧ (t.agent (17 + n)).running = some q ∧ t.can = s.can ∧
        t.getF F.SCH_OVR_COUNT_COUNT = Nat.min (2 ^ F.SCH_OVR_COUNT_COUNT.width - 1) (s.getF F.SCH_OVR_COUNT_COUNT + 1) ∧
        s.keeps t [.clock, .sched, .regs]) ∧
    (∀ q rec x, n < 8 → (s.agent (17 + n)).running = some r → (s.canOf n).slot = some (q, rec) →
      (s.canOf n).tx = some x → x.slot ≠ none → x.expired = none → ∃ t, exec (.canSlotEnd n) s = .next t ∧
        (t.canOf n).tx = some { x with expired := some r } ∧ (t.canOf n).slot = none ∧
        (t.agent (17 + n)).running = none ∧ (t.agent (17 + n)).done = max (s.agent (17 + n)).done (r.index + 1) ∧
        s.keeps t [.clock, .sched, .can]) ∧
    (∀ q rec, n < 8 → (s.agent (17 + n)).running = some r → (s.canOf n).slot = some (q, rec) →
      (∀ x, (s.canOf n).tx = some x → x.slot = none ∨ x.expired ≠ none) → ∃ t, exec (.canSlotEnd n) s = .next t ∧ (t.canOf n).slot = none ∧
        (t.agent (17 + n)).running = none ∧ (t.agent (17 + n)).done = max (s.agent (17 + n)).done (r.index + 1) ∧
        t.getF (F.CAN_TX_STAT_WITHDRAWN n) = Nat.min 255 (s.getF (F.CAN_TX_STAT_WITHDRAWN n) + 1) ∧
        s.keeps t [.clock, .sched, .can, .regs, .evr]) ∧
    (∀ it, n < 2 → s.scheduled (25 + n) k = some r → p.ethSlot n slot = some it →
      (∀ f u, s.filledAt (ethSlotKey n slot) = true →
        ((s.atTick r.entry.start).setFilled (ethSlotKey n slot) false).ethTake p n it = (some f, u) →
        u.getF (F.ETH_P_STATUS_LINK n) = 1 → u.portOpen n = true →
        ∃ t, exec (.ethSlotStart n k) s = .next t ∧ Store.get (fun _ => []) t.net.wire n = f ∧
          t.getF (F.ETH_P_TX_OK_COUNT n) = (u.getF (F.ETH_P_TX_OK_COUNT n) + 1) % 2 ^ 32 ∧
          (t.agent (25 + n)).done = max (s.agent (25 + n)).done (k + 1) ∧ u.keeps t [.net, .regs, .sched]) ∧
      (s.filledAt (ethSlotKey n slot) = false → ∃ t, exec (.ethSlotStart n k) s = .next t ∧
        Store.get (fun _ => 0) t.net.noData n = Store.get (fun _ => 0) s.net.noData n + 1 ∧
        (t.agent (25 + n)).done = max (s.agent (25 + n)).done (k + 1) ∧ s.keeps t [.clock, .net, .sched]))

/-- A packet without its credit and its check sum. -/
def Claims.body (x : NymilPacket) : BitVec 8 × BitVec 16 × BitVec 16 × BitVec 8 × Bytes :=
  (x.ptype, x.epoch, x.pktNo, x.vlen, x.payload)

/-- R327, R328, R334, R336, R337: a send entry of the active sends the pieces of its slot's items as DATA packets,
numbered across the epoch, after the last slot the END_MARK; one credit a packet: what has none by the END, and all while
the link is down, is abandoned and counted, without the END_MARK the epoch is short. That the packet numbers run on across
the slots of an epoch, and how many credits come back within an entry, are the model's choice (log 94). An apply entry of
another role writes the items of a committed slot from the committed half; the health report of the epoch waits for a
credit in the first one, and the next entry abandons and counts one that still waits. -/
def Claims.NymilEntries : Prop :=
  ∀ (k returned : Nat) (s : State) (r : Running) (p : Pattern), s.scheduled 27 k = some r → s.pat.active = some p →
    r.entry.kind = .netTx → s.getF F.SCH_STATUS_DEGRADED_CLK = 0 →
    let slot := slotOf r.entry.object
    let v := (s.atTick r.entry.start).dropHealth
    let read := v.liningReads p (p.liningItems slot)
    let pkts := (read.1.map (fun b => chunks 256 (b.length / 256 + 1) b)).flatten
    let u := v.slotPackets p slot
    let e := s.epochNow p
    let data := (pkts.zipIdx (p.packetBase slot)).map (fun c => nymilPacket 2 e c.2 0 c.1)
    let all := if slot = p.lastSlot then data ++ [nymilPacket 3 e (p.packetBase slot + pkts.length) 0 (u.2.endMarkBytes p)]
      else data
    let may := if s.getF F.PAIR_PATHS_LINK_UP = 1 then s.pair.credits + returned else 0
    let counted (t : State) (f : Fld) (b : Prop) [Decidable b] : Prop :=
      t.getF f = if b then Nat.min (2 ^ f.width - 1) (u.2.getF f + 1) else u.2.getF f
    (s.pair.healthWait ≠ none →
      v.getF F.PAIR_EPOCH_STAT_CREDIT_STALL =
        Nat.min (2 ^ F.PAIR_EPOCH_STAT_CREDIT_STALL.width - 1) (s.getF F.PAIR_EPOCH_STAT_CREDIT_STALL + 1)) ∧
    (s.pair.healthWait = none → v = s.atTick r.entry.start) ∧
    (slot < 32 → s.roleIs .active = true → ∃ t, exec (.nymilSendEntry ⟨k, returned⟩) s = .next t ∧
      t.pair.sent.map Claims.body = s.pair.sent.map Claims.body ++ (all.take may).map Claims.body ∧
      (∀ x ∈ t.pair.sent.drop s.pair.sent.length, x.pcrc = nymilCrc x) ∧
      counted t F.PAIR_EPOCH_STAT_CREDIT_STALL (may < all.length) ∧
      counted t F.PAIR_EPOCH_STAT_SHORT (slot = p.lastSlot ∧ may < all.length) ∧
      (slot = p.lastSlot → all.length ≤ may → t.getF F.PAIR_EPOCH_LO_EPOCH = lo32 e ∧ t.getF F.PAIR_EPOCH_HI_EPOCH = hi32 e) ∧
      (t.agent 27).done = max (s.agent 27).done (k + 1) ∧
      s.keeps t [.clock, .sched, .pair, .net, .regs, .ecc, .evr, .saf]) ∧
    (∀ e half n, 32 ≤ slot → slot < 64 → s.roleIs .active = false → s.pair.committed = some (e, half, n) →
      s.pair.toApply.contains (slot - 32) = true →
      ∃ t, exec (.nymilApplyEntry k) s = .next t ∧ t.pair.toApply = s.pair.toApply.erase (slot - 32) ∧
        t.pair.healthDue = false ∧ (t.agent 27).done = max (s.agent 27).done (k + 1) ∧
        (s.pair.healthDue = true → s.pair.key ≠ none → s.getF F.PAIR_PATHS_LINK_UP = 0 ∨ s.pair.credits = 0 →
          v.tickNow < r.entry.finish → t.pair.healthWait = some r.entry.finish ∧ t.pair.sent = s.pair.sent) ∧
        ∀ a, t.rdByte a = (v.applySlot p half (slot - 32)).rdByte a)

/-- R290, R291, R308, R327, R328, R334, R336, R337: slots of the networks, and the send and apply entries of a pair. -/
def Obligations.NetworkAndNymilEntries : Prop := Claims.NetworkSlots ∧ Claims.NymilEntries

/-- R101 to R105: a scrubber step repairs the oldest queued word first, else takes the next word of its sweep: a
correctable word is written back; a sweep that is late is reported. That what a step repairs itself is neither counted
nor raised is the model's choice (log 116). -/
def Claims.Scrubbing : Prop :=
  ∀ (k : Nat) (s : State), k < 46 → s.scrubbing = true →
    let queue := Store.get (fun _ => []) s.ecc.repair k
    let pos := Store.get (fun _ => 0) s.ecc.sweep k
    (∀ i rest b, queue = i :: rest → s.mark k i = .correctable b → ∃ t, exec (.scrubStep k) s = .next t ∧
      t.mark k i = .clean ∧ Store.get (fun _ => []) t.ecc.repair k = rest ∧ t.ecc.sweep = s.ecc.sweep ∧
      s.keeps t [.ecc]) ∧
    (queue = [] → (∀ b, s.mark k pos ≠ .uncorrectable b) → ∃ t, exec (.scrubStep k) s = .next t ∧
      t.mark k pos = .clean ∧ Store.get (fun _ => 0) t.ecc.sweep k = (if eccWords k ≤ pos + 1 then 0 else pos + 1) ∧
      t.getF (F.APC_ECC_ARRAY_SWEEPS k) =
        (if eccWords k ≤ pos + 1 then (s.getF (F.APC_ECC_ARRAY_SWEEPS k) + 1) % 2 ^ (F.APC_ECC_ARRAY_SWEEPS k).width
         else s.getF (F.APC_ECC_ARRAY_SWEEPS k)) ∧ s.keeps t [.ecc, .regs]) ∧
    (s.eccClassA k = false → ∃ t, exec (.scrubLate k) s = .next t ∧
      t.evr = (s.raiseCls Ev.SCRUB_LATE 0x1000 2 [k]).evr ∧ s.keeps t [.regs, .evr])

/-- R101 to R105, R476, R477: scheduled self-tests, and the scrubbers. -/
def Obligations.SelfTestsAndScrubbing : Prop := Claims.SelfTests ∧ Claims.Scrubbing

/-! ### Boundary, modes, forces, Patterns -/

/-- R34 to R36, R40, R316: the time of STITCH_BOUNDARY. The edge comes at the first advance at which ship time reaches it; N
is ship time divided by P, the edge stands at N times P, the stitch counter rises by 1, the seam position is N modulo L.
With no trigger of ship time due the boundary leaves the clock and the seam position of the edge, but for a STEP or a REBASE
that waits: after the latch a STEP moves ship time by its ns and keeps N, a REBASE sets ship time, N and the edge anew and
postpones every armed trigger. -/
def Claims.BoundaryTime : Prop :=
  ∀ (s : State), s.alive = true → s.station ≠ .watch → (∀ k, k < 4 → s.trigDue k = false) →
    0 < s.clock.incr.toNat → 0 < s.clock.period →
    let e := s.edgeTime
    (∃ m : Nat,
      let edge := (s.clock.refN + 1) * s.clock.period * 2 ^ 32
      e.clock.now = s.clock.now + BitVec.ofNat 96 (m * s.clock.incr.toNat) ∧ 1 ≤ m ∧
      edge ≤ s.clock.now.toNat + m * s.clock.incr.toNat ∧
      (m = 1 ∨ s.clock.now.toNat + (m - 1) * s.clock.incr.toNat < edge) ∧
      e.clock.refN = e.clock.now.toNat / 2 ^ 32 / s.clock.period ∧
      e.clock.edge = BitVec.ofNat 64 (e.clock.refN * s.clock.period) ∧
      e.clock.stitch = (if s.clock.counting then s.clock.stitch + 1 else 0) ∧ e.clock.counting = true ∧
      (∀ p, s.pat.active = some p → 1 ≤ p.seamLen → p.seamLen ≤ 8192 →
        e.getF F.SCH_STATUS_SEAM_POS = e.clock.refN % p.seamLen)) ∧
    (s.clock.pendingRebase = none → s.clock.pendingStep = none → ∃ t, exec .stitchBoundary s = .next t ∧ t.clock = e.clock ∧
      t.getF F.SCH_STATUS_SEAM_POS = e.getF F.SCH_STATUS_SEAM_POS) ∧
    (∀ d, s.clock.pendingRebase = none → s.clock.pendingStep = some d → ∃ t, exec .stitchBoundary s = .next t ∧
      t.clock = { e.clock with
        now := BitVec.ofNat 96 ((e.clock.now.toNat : Int) + d * 2 ^ 32).toNat
        shift := d
        pendingStep := none
        moved := e.clock.moved + d } ∧
      t.getF F.SCH_STATUS_SEAM_POS = e.getF F.SCH_STATUS_SEAM_POS ∧ t.getF F.SCH_STATUS_STEP_APPLIED = 1 ∧
      t.getF F.PTP_STATUS_STEP_PENDING = 0) ∧
    (∀ v, s.clock.pendingRebase = some v → s.clock.pendingStep = none → ∃ t, exec .stitchBoundary s = .next t ∧
      t.clock.now = BitVec.ofNat 96 (v.toNat * 2 ^ 32) ∧ t.clock.refN = v.toNat / s.clock.period ∧
      t.clock.edge = BitVec.ofNat 64 (v.toNat / s.clock.period * s.clock.period) ∧ t.clock.stitch = e.clock.stitch ∧
      t.clock.pendingRebase = none ∧ t.getF F.PTP_STATUS_DISCONT = 1 ∧ t.getF F.PTP_STATUS_STEP_PENDING = 0 ∧
      (∀ k, k < 4 → t.getF (F.PTP_TRIG_CTRL_ARMED k) = 0) ∧
      (∀ k, k < 4 → s.getF (F.PTP_TRIG_CTRL_ARMED k) = 1 → t.getF (F.PTP_TRIG_CTRL_POSTPONED k) = 1))

/-- R47, R123, R253, R393: what changes the station at STITCH_BOUNDARY. A module-wide cause takes it to SAFE_HALT: the slot
tables stop, every output is off, every force released. A start that waits takes effect at the first boundary of seam
position 0. A stop, and the changes between RUN and TACKING, take effect at the next boundary, if its edge does not
enter SAFE_HALT; the preparation of WATCH stops the tables at one of seam position 0. -/
def Claims.BoundaryChanges : Prop :=
  ∀ (s : State), s.alive = true → s.station ≠ .watch → (∀ k, k < 4 → s.trigDue k = false) →
    let pos := s.edgeTime.getF F.SCH_STATUS_SEAM_POS
    let result (t : State) : Prop := t.getF F.GLB_START_RESULT_LAST_OP = s.sched.op % 8 ∧
      t.getF F.GLB_START_RESULT_CODE = 0 ∧ t.getF F.GLB_START_RESULT_DONE = 1 ∧ t.getF F.GLB_START_RESULT_BUSY = 0 ∧
      t.sched.op = 0
    let stopped (t : State) : Prop := t.getF F.SCH_STATUS_RUNNING = 0 ∧ t.getF F.SCH_STATUS_WAIT_SEAM = 0 ∧
      t.sched.startRequest = none ∧ t.sched.stopRequest = none ∧
      (∀ p n, t.pat.active = some p → n < 48 → p.isOutput n = true → t.isOn n = false) ∧
      (s.station = .tacking → t.tasks.forces = [])
    (∀ k, s.saf.haltCause = some k → s.haltable = true → ∃ t, exec .stitchBoundary s = .next t ∧ t.station = .safeHalt ∧
      t.getF F.SAF_STATUS_HALT = 1 ∧ t.getF F.SAF_STATUS_CAUSE = k % 2 ^ F.SAF_STATUS_CAUSE.width ∧
      t.getF F.SAF_STATUS_MOD_OK = 0 ∧ stopped t) ∧
    (∀ dst, s.station = .stop → s.saf.haltCause = none → s.olcOpen = false → s.getF F.SCH_STATUS_RUNNING = 0 →
      (∀ a, a < 29 → (s.agent a).running = none) → s.sched.startRequest = some dst → dst = .run ∨ dst = .tacking →
      (pos = 0 → ∃ t, exec .stitchBoundary s = .next t ∧ t.station = dst ∧ t.getF F.SCH_STATUS_RUNNING = 1 ∧
        t.getF F.SCH_STATUS_WAIT_SEAM = 0 ∧ t.sched.startRequest = none ∧ result t) ∧
      (pos ≠ 0 → ∃ t, exec .stitchBoundary s = .next t ∧ t.station = .stop ∧ t.getF F.SCH_STATUS_RUNNING = 0 ∧
        t.sched.startRequest = some dst ∧ t.sched.op = s.sched.op)) ∧
    (∀ dst, s.sched.stopRequest = some dst → s.boundaryEdge.operating = true → s.phase ≠ 1 →
      (dst = .stop → s.sched.op = 5 → ∃ t, exec .stitchBoundary s = .next t ∧ t.station = .stop ∧ stopped t ∧ result t) ∧
      (dst = .run ∨ dst = .tacking → ∃ t, exec .stitchBoundary s = .next t ∧ t.station = dst ∧ t.sched.stopRequest = none ∧
        t.getF F.SCH_STATUS_RUNNING = s.getF F.SCH_STATUS_RUNNING ∧ result t)) ∧
    (s.boundaryEdge.operating = true → s.phase = 1 → pos = 0 → ∃ t, exec .stitchBoundary s = .next t ∧ t.station = .stop ∧
      stopped t)

/-- R34 to R36, R40, R47, R123, R253, R316, R393: STITCH_BOUNDARY: its time, the changes of the station at it, and after it
every agent is at the beginning of its table. While the module is off, held in reset or in WATCH there is no boundary, and
the command changes nothing: the model's choice (log 55). -/
def Obligations.Boundaries : Prop :=
  Claims.BoundaryTime ∧ Claims.BoundaryChanges ∧ ∀ (s : State),
    ((s.alive = false ∨ s.station = .watch) → exec .stitchBoundary s = .next s) ∧
    (s.alive = true → s.station ≠ .watch → (∀ k, k < 4 → s.trigDue k = false) →
      ∃ t, exec .stitchBoundary s = .next t ∧
        ∀ a, a < 29 → (t.agent a).running = none ∧ (t.agent a).done = 0 ∧ (t.agent a).overran = false)

/-- R123 to R127, R433, R471: what a start command leaves when it is accepted and when it is refused: cold restarts
from STOP, warm restarts from a bank that agrees, stop from RUN and TACKING, and the two changes between them. A
restart waits for seam position 0, with no force and no trigger left; the others wait for the next boundary. -/
def Claims.StartCommands : Prop :=
  ∀ (s : State) (req : Requester), s.served req F.GLB_START_CMD_OP.addr → s.startBusy = false →
    let result (t : State) (op code done busy : Nat) : Prop := t.getF F.GLB_START_RESULT_LAST_OP = op ∧
      t.getF F.GLB_START_RESULT_CODE = code ∧ t.getF F.GLB_START_RESULT_DONE = done ∧
      t.getF F.GLB_START_RESULT_BUSY = busy
    let starts (i : Instr) (op : Nat) (dst : StationState) : Prop := ∃ t, exec i s = .next t ∧ result t op 0 0 1 ∧
      t.getF F.SCH_STATUS_WAIT_SEAM = 1 ∧ t.sched.startRequest = some dst ∧ t.sched.op = op ∧ t.tasks.forces = [] ∧
      t.tasks.triggers = [] ∧ t.station = s.station ∧ t.pat = s.pat ∧ t.clock = s.clock
    let refused (i : Instr) (op code : Nat) : Prop := ∃ t, exec i s = .next t ∧
      result t op code 1 (s.getF F.GLB_START_RESULT_BUSY) ∧ s.regsBut t [F.GLB_START_RESULT_CODE.addr] ∧
      s.keeps t [.regs]
    let waits (i : Instr) (op : Nat) (dst : StationState) : Prop := ∃ t, exec i s = .next t ∧ result t op 0 0 1 ∧
      t.sched = { s.sched with op := op, stopRequest := some dst } ∧ s.regsBut t [F.GLB_START_RESULT_CODE.addr] ∧
      s.keeps t [.regs, .sched]
    (∀ p, s.station = .stop → s.pat.active = some p → s.unlocked = false →
      starts (.coldRestartToRun req) 1 .run ∧ starts (.coldRestartToTacking req) 3 .tacking ∧
      (∀ b, s.committedBank = some b → (s.bankHeader b).u64 8 = p.patternId →
        (s.bankHeader b).u32 20 = p.retainLayout →
        starts (.warmRestartToRun req) 2 .run ∧ starts (.warmRestartToTacking req) 4 .tacking) ∧
      (s.committedBank = none → refused (.warmRestartToRun req) 2 3 ∧ refused (.warmRestartToTacking req) 4 3)) ∧
    (s.unlocked = true ∨ s.station ≠ .stop → refused (.coldRestartToRun req) 1 1 ∧
      refused (.warmRestartToRun req) 2 1 ∧ refused (.coldRestartToTacking req) 3 1 ∧
      refused (.warmRestartToTacking req) 4 1) ∧
    (s.station = .run ∨ s.station = .tacking → waits (.stop req) 5 .stop) ∧
    (s.station = .stop → refused (.stop req) 5 1) ∧
    (s.station = .tacking → s.tasks.forces = [] → waits (.leaveTackingForRun req) 6 .run) ∧
    (s.station = .tacking → s.tasks.forces ≠ [] → refused (.leaveTackingForRun req) 6 5) ∧
    (s.station = .run → waits (.enterTackingFromRun req) 7 .tacking)

/-- R125, R317, R403: AUTO_START is applied once, in STOP, when the wait for a master's time is over: 1 a warm restart to RUN;
2 a warm one, else a cold one; 0 nothing, and nothing on the RC oscillator without DEGRADED_CLK_RUN. That the command changes
nothing before that time is the model's choice: its condition does not hold (log 55). -/
def Claims.AutoStart : Prop :=
  ∀ (s : State) (p : Pattern), s.rst.autoDue = true → s.station = .stop → s.pat.active = some p →
    s.startBusy = false → s.unlocked = false →
    let runs := s.getF F.SCH_STATUS_DEGRADED_CLK = 0 ∨ p.degradedClkRun = true
    let stays : Prop := ∃ t, exec .autoStart s = .next t ∧ t.rst = { s.rst with autoDue := false } ∧ s.keeps t [.rst]
    (s.acquired p = false → exec .autoStart s = .next s) ∧ (s.acquired p = true → s.rst.autoBarred = true ∨ ¬runs → stays) ∧
    (s.acquired p = true → s.rst.autoBarred = false → runs →
    let starts (op : Nat) : Prop := ∃ t, exec .autoStart s = .next t ∧ t.rst = { s.rst with autoDue := false } ∧
      t.getF F.GLB_START_RESULT_LAST_OP = op ∧ t.getF F.GLB_START_RESULT_AUTO = 1 ∧
      t.sched.startRequest = some .run ∧ t.getF F.SCH_STATUS_WAIT_SEAM = 1
    (∀ b, s.warmBank p = .ok b → p.autoStart = 1 ∨ p.autoStart = 2 → starts 2) ∧
    (∀ e, s.warmBank p = .error e → p.autoStart = 2 → s.sched.startRequest = none → starts 1) ∧
    (p.autoStart = 0 → stays))

/-- R123 to R127, R317, R433, R471: the start commands, and AUTO_START. -/
def Obligations.Starts : Prop := Claims.StartCommands ∧ Claims.AutoStart

/-- R129 to R131: SET puts the value of GLB_FORCE_VAL on the symbol of GLB_FORCE_SYM, in place of any force it had;
RELEASE takes it off; RELEASE_ALL takes off every force; outside TACKING a force command is refused with STATE, also while
an on-line change commits (the model's choice, log 120), in TACKING with BUSY while one commits, and a SET with STATE while
the change to RUN waits for its boundary (the model's choice, log 32). -/
def Obligations.Forces : Prop :=
  ∀ (s : State) (req : Requester), s.served req F.GLB_FORCE_CMD_OP.addr →
    let id := s.getF F.GLB_FORCE_SYM_SYM_ID
    let v := s.getF F.GLB_FORCE_VAL_LO_VALUE + 2 ^ 32 * s.getF F.GLB_FORCE_VAL_HI_VALUE
    let others := s.tasks.forces.filter (fun f => f.1.toNat != id)
    let ends (i : Instr) (code : Nat) (forces : List (BitVec 32 × BitVec 64)) (changed : List Part) : Prop :=
      ∃ t, exec i s = .next t ∧ t.tasks = { s.tasks with forces := forces } ∧
        t.getF F.GLB_FORCE_RESULT_CODE = code ∧ t.getF F.GLB_FORCE_RESULT_DONE = 1 ∧
        t.getF F.GLB_FORCE_RESULT_COUNT = forces.length % 512 ∧ s.keeps t changed
    (s.station ≠ .tacking → ends (.forceSet req) 1 s.tasks.forces [.regs] ∧
      ends (.forceRelease req) 1 s.tasks.forces [.regs] ∧ ends (.releaseAll req) 1 s.tasks.forces [.regs]) ∧
    (s.station = .tacking → s.olc = olcCommitting → ends (.forceSet req) 2 s.tasks.forces [.regs] ∧
      ends (.forceRelease req) 2 s.tasks.forces [.regs] ∧ ends (.releaseAll req) 2 s.tasks.forces [.regs]) ∧
    (s.sched.stopRequest = some .run → s.olc ≠ olcCommitting → ends (.forceSet req) 1 s.tasks.forces [.regs]) ∧
    (∀ p, s.station = .tacking → s.sched.stopRequest ≠ some .run → s.olc ≠ olcCommitting → s.pat.active = some p →
      (∀ k, p.symIndex id = some k → p.forceable k = true → (p.symType k = 1 → v < 2) → others.length < 256 →
        ends (.forceSet req) 0 (others ++ [(BitVec.ofNat 32 id, BitVec.ofNat 64 v)]) [.regs, .tasks, .evr]) ∧
      (p.symIndex id = none → ends (.forceSet req) 3 s.tasks.forces [.regs]) ∧
      (∀ k, p.symIndex id = some k → p.forceable k = false → ends (.forceSet req) 4 s.tasks.forces [.regs]) ∧
      ((∃ f ∈ s.tasks.forces, f.1.toNat = id) → ends (.forceRelease req) 0 others [.regs, .tasks, .evr]) ∧
      ((∀ f ∈ s.tasks.forces, f.1.toNat ≠ id) → ends (.forceRelease req) 3 s.tasks.forces [.regs]) ∧
      ends (.releaseAll req) 0 [] [.regs, .tasks, .evr])

/-- R67 to R74, R481: VERIFY starts on the shadow slot and its end gives VERIFIED or REFUSED with the failed check;
ACTIVATE, at rest and with a verified shadow slot, writes the journal word with the roles rotated, and gives up a restart
that waits (the model's choice, log 22); REVERT exchanges the
active and the previous slot (neither is followed by AUTO_START), with the PREV_VALID and GENERATION of its journal word the model's choice (log 12), as is
VERIFY while a region is ARMED (log 17); CLEAR leaves the station UNPATTERNED; the end of the load leaves STOP with the Pattern
active, or UNPATTERNED with PATTERN_INVALID. -/
def Obligations.PatternCommands : Prop :=
  ∀ (s : State) (req : Requester),
    let begun (t : State) (op : Nat) : Prop := t.getF F.PAT_RESULT_LAST_OP = op ∧ t.getF F.PAT_RESULT_CODE = 0 ∧
      t.getF F.PAT_RESULT_DONE = 0 ∧ t.getF F.PAT_RESULT_BUSY = 1 ∧ t.pat = { s.pat with executing := op }
    let ended (t : State) (op code detail : Nat) : Prop := t.getF F.PAT_RESULT_LAST_OP = op ∧
      t.getF F.PAT_RESULT_CODE = code ∧ t.getF F.PAT_RESULT_DETAIL = detail % 65536 ∧ t.getF F.PAT_RESULT_DONE = 1 ∧
      t.getF F.PAT_RESULT_BUSY = 0 ∧ t.pat.executing = 0
    let shadow (t : State) (sh rg : Nat) : Prop := t.shadowState = sh ∧ t.region 1 = rg
    let barred (t : State) : Prop := t.rst = { s.rst with autoBarred := true }
    let journal (t : State) (r : PatRoles) : Prop := t.rdLe Mem.patJournal 8 = patWord r ∧
      ∀ a, ¬(Mem.patJournal ≤ a ∧ a < Mem.patJournal + 8) → t.rdByte a = s.rdByte a
    (s.served req F.PAT_CMD_OP.addr → s.pat.executing = 0 → s.station ≠ .off → s.station ≠ .boot → s.station ≠ .watch → s.olcOpen = false →
      s.shadowState = shWritten ∨ s.shadowState = shVerified ∨ s.shadowState = shRefused →
      ∃ t, exec (.verify req) s = .next t ∧ begun t 1 ∧ shadow t shVerifying rgVerifying ∧
        s.regsBut t [F.PAT_RESULT_CODE.addr, F.PAT_STATE_SHADOW_STATE.addr, (F.UPD_R_STATE_STATE 1).addr] ∧
        s.keeps t [.regs, .pat]) ∧
    (s.pat.executing = 1 → s.ownerBad = false →
      (s.verifySlot s.roles.shadow = none → ∃ t, exec .verificationEnd s = .next t ∧ ended t 1 0 0 ∧
        shadow t shVerified rgVerified ∧ s.keeps t [.regs, .pat]) ∧
      (∀ f, s.verifySlot s.roles.shadow = some f → ∃ t, exec .verificationEnd s = .next t ∧
        ended t 1 (f.1.code % 256) f.2 ∧ shadow t shRefused rgFailed ∧ s.keeps t [.regs, .pat])) ∧
    (s.served req F.PAT_CMD_OP.addr → s.pat.executing = 0 → s.atRest = true → s.shadowState = shVerified →
      ∃ t, exec (.activate req) s = .next t ∧ begun t 2 ∧ shadow t shEmpty rgIdle ∧
        journal t (s.roles.rotate (s.slotGeneration s.roles.shadow)) ∧ barred t ∧
        s.keeps t [.regs, .pat, .mem, .sched, .rst] ∧ (s.sched.op = 0 → s.keeps t [.regs, .pat, .mem, .rst])) ∧
    (s.served req F.PAT_CMD_OP.addr → s.pat.executing = 0 → s.atRest = true → s.getF F.PAT_STATE_PREV_VALID = 1 →
      ∃ t, exec (.revert req) s = .next t ∧ begun t 6 ∧
        (let r := s.roles
         journal t ⟨r.prev, r.shadow, r.active, true, r.set, s.slotGeneration r.prev⟩) ∧
        barred t ∧ s.keeps t [.regs, .pat, .mem, .sched, .rst] ∧ (s.sched.op = 0 → s.keeps t [.regs, .pat, .mem, .rst])) ∧
    (s.served req F.PAT_CMD_OP.addr → s.pat.executing = 0 → s.station = .stop →
      ∃ t, exec (.clear req) s = .next t ∧ ended t 7 0 0 ∧ t.station = .unpatterned ∧ t.pat.active = none ∧
        t.getF F.PAT_STATE_ACTIVE_VALID = 0 ∧
        t.rdLe Mem.patJournal 8 = patWord { s.roles with set := false, gen := 0 }) ∧
    (s.pat.executing = 2 ∨ s.pat.executing = 6 → s.ownerBad = false →
      (s.verifySlot s.roles.active = none → ∃ t, exec .patternLoadEnd s = .next t ∧
        ended t s.pat.executing 0 0 ∧ t.station = .stop ∧ t.pat.active = some (parseContainer (s.container s.roles.active))) ∧
      (∀ f, s.verifySlot s.roles.active = some f → ∃ t, exec .patternLoadEnd s = .next t ∧
        ended t s.pat.executing (f.1.code % 256) f.2 ∧ t.station = .unpatterned ∧ t.pat.active = none)) ∧
    (s.served req F.PAT_CMD_OP.addr → s.pat.executing ≠ 0 → ∃ t, exec (.activate req) s = .next t ∧
      t.getF F.PAT_RESULT_CODE = PatCode.busy.code % 256 ∧ s.regsBut t [F.PAT_RESULT_CODE.addr] ∧ s.keeps t [.regs])

/-- R75 to R79: PREPARE checks the base and what may differ, and begins to load; the end of its load makes the change
READY, or FAILED, and waits while a core executes a slot entry (R21; log 23); a load that is not complete in time
fails; COMMIT takes a later multiple of L as N_c; ABORT before the commit mark drops the change. That a PREPARE in
READY prepares anew is the model's choice (log 13). -/
def Obligations.OnlineChange : Prop :=
  ∀ (s : State) (req : Requester),
    let olcIs (t : State) (st : Nat) : Prop := t.getF F.PAT_STATE_OLC_STATE = st
    let ended (t : State) (op code : Nat) : Prop := t.getF F.PAT_RESULT_LAST_OP = op ∧ t.getF F.PAT_RESULT_CODE = code ∧
      t.getF F.PAT_RESULT_DONE = 1 ∧ t.getF F.PAT_RESULT_BUSY = 0 ∧ t.pat.executing = 0
    (∀ a, s.served req F.PAT_CMD_OP.addr → s.pat.executing = 0 → s.operating = true → s.shadowState = shVerified →
      s.pat.active = some a →
      (olcCheck a (parseContainer (s.container s.roles.shadow)) = none → ∃ t, exec (.prepare req) s = .next t ∧
        olcIs t olcPreparing ∧ t.getF F.PAT_RESULT_BUSY = 1 ∧ t.pat.active = s.pat.active ∧
        t.pat.prepared = some (parseContainer (s.container s.roles.shadow)) ∧ t.pat.commitAt = none ∧ s.keeps t [.regs, .pat]) ∧
      (∀ f, olcCheck a (parseContainer (s.container s.roles.shadow)) = some f → ∃ t, exec (.prepare req) s = .next t ∧
        ended t 3 (f.1.code % 256) ∧ t.getF F.PAT_RESULT_DETAIL = f.2 % 65536 ∧ olcIs t s.olc ∧
        t.pat.prepared = s.pat.prepared ∧ s.keeps t [.regs, .pat])) ∧
    (∀ a b, s.olc = olcPreparing → s.pat.active = some a → s.pat.prepared = some b →
      (codeFits a b = true → s.coresIdle = true → ∃ t, exec (.prepareLoadEnd true) s = .next t ∧ olcIs t olcReady ∧
        ended t 3 0 ∧ t.pat = { s.pat with executing := 0, loadDue := false } ∧ s.keeps t [.regs, .pat, .mem, .ecc]) ∧
      (codeFits a b = true → s.coresIdle = false → ∃ t, exec (.prepareLoadEnd true) s = .next t ∧
        t.pat = { s.pat with loadDue := true } ∧ s.keeps t [.pat]) ∧
      (codeFits a b = false → ∃ t, exec (.prepareLoadEnd true) s = .next t ∧ olcIs t olcFailed ∧
        ended t 3 (PatCode.resource.code % 256) ∧ t.pat.prepared = none ∧ s.keeps t [.regs, .pat]) ∧
      (∃ t, exec (.prepareLoadEnd false) s = .next t ∧ olcIs t olcFailed ∧ ended t 3 (PatCode.resource.code % 256) ∧
        t.pat.prepared = none ∧ s.keeps t [.regs, .pat])) ∧
    (s.olc = olcPreparing → ∃ t, exec .prepareTimeout s = .next t ∧ olcIs t olcFailed ∧
      ended t 3 (PatCode.prepareTimeout.code % 256) ∧ t.pat.prepared = none ∧ s.keeps t [.regs, .pat]) ∧
    (∀ p, s.served req F.PAT_CMD_OP.addr → s.pat.executing = 0 → s.operating = true → s.olc = olcReady → s.pat.active = some p →
      0 < p.seamLen → s.olcAt % p.seamLen = 0 →
      ((s.clock.refN / p.seamLen + 1) * p.seamLen < s.olcAt → ∃ t, exec (.commit req) s = .next t ∧
        olcIs t olcCommitting ∧ ended t 4 0 ∧ t.pat.commitAt = some s.olcAt ∧ t.pat.markWritten = false ∧
        t.pat.prepared = s.pat.prepared ∧ s.keeps t [.regs, .pat]) ∧
      (s.olcAt ≤ (s.clock.refN / p.seamLen + 1) * p.seamLen → ∃ t, exec (.commit req) s = .next t ∧
        olcIs t olcReady ∧ ended t 4 (PatCode.state.code % 256) ∧ t.pat.commitAt = s.pat.commitAt ∧
        s.keeps t [.regs, .pat])) ∧
    (s.served req F.PAT_CMD_OP.addr → s.olcOpen = true → s.pat.markWritten = false → ∃ t, exec (.abort req) s = .next t ∧
      olcIs t olcAborted ∧ ended t 5 0 ∧ t.pat.prepared = none ∧ t.pat.commitAt = none ∧ s.keeps t [.regs, .pat])


/-! ### Loop engine and solver -/

/-- R152, R153: HOLD, CLOSE and SWAP of a used channel wait in PENDING for its next due sample, one at a time; the codes
of the refusals. -/
def Obligations.LoopCommands : Prop :=
  ∀ (s : State) (req : Requester) (c : BitVec 8), s.served req F.LPE_CH_CMD_OP.addr →
    let n := c.toNat
    let it := (s.pat.active.map (fun p => p.loop n)).getD []
    let m := s.lpMode n
    let res (t : State) (code : Nat) : Prop :=
      t.getF F.LPE_CH_RESULT_CHANNEL = n ∧ t.getF F.LPE_CH_RESULT_CODE = code
    let waits (i : Instr) (op : Nat) : Prop :=
      (s.getF (F.LPE_CH_STATUS_PENDING n) = 0 → ∃ t, exec i s = .next t ∧ res t 0 ∧
        t.getF (F.LPE_CH_STATUS_PENDING n) = op ∧ t.getF (F.LPE_CH_STATUS_LAST n) = s.getF (F.LPE_CH_STATUS_LAST n) ∧
        t.lpMode n = m ∧ s.regsBut t [F.LPE_CH_RESULT_CODE.addr, (F.LPE_CH_STATUS_MODE n).addr] ∧ s.keeps t [.regs]) ∧
      (s.getF (F.LPE_CH_STATUS_PENDING n) ≠ 0 → ∃ t, exec i s = .next t ∧ res t 4 ∧
        t.getF (F.LPE_CH_STATUS_PENDING n) = op ∧ t.getF (F.LPE_CH_STATUS_LAST n) = 3 ∧ s.keeps t [.regs])
    let refused (i : Instr) (code : Nat) : Prop := ∃ t, exec i s = .next t ∧ res t code ∧
      s.regsBut t [F.LPE_CH_RESULT_CODE.addr] ∧ s.keeps t [.regs]
    (lpUsed it = true → m ≠ lpHeld → waits (.hold req c) 1 ∧ refused (.close req c) 3) ∧
    (lpUsed it = true → m = lpHeld → waits (.close req c) 2 ∧ refused (.hold req c) 3) ∧
    (lpUsed it = true → lpBanked it = true → m ≠ lpFaulted → waits (.swap req c) 3) ∧
    (lpUsed it = true → lpBanked it = true → m = lpFaulted → refused (.swap req c) 3) ∧
    (lpUsed it = true → lpBanked it = false → refused (.swap req c) 2) ∧
    (lpUsed it = false → refused (.hold req c) 1 ∧ refused (.close req c) 1 ∧ refused (.swap req c) 1)

/-- R155, R157: the store window writes a word of the selected channel: a word of a bank that may be written, or a
supply word, unless its 64-bit word is uncorrectable (R102) or the store has no power (R29); a word of a bank in use and a state word are refused as RO, an
offset above the store as reserved. -/
def Claims.StoreWindow : Prop :=
  ∀ (s : State) (req : Requester) (v : BitVec 32) (off : Nat), s.served req (0x48000 + off) → off % 4 = 0 → off < 0x400 →
    let c := s.getF F.LPE_WIN_CH_CHANNEL
    let it := (s.pat.active.map (fun p => p.loop c)).getD []
    let b := if off < 0x90 then 0 else 1
    let i := Instr.storeWindowWrite req off v
    let bad := (s.eccReadWord ((Mem.loopStore c + off) / 8 * 8) 3).1
    let stored : Prop :=
      (s.domainOn domLoop = false → exec i s = .next s) ∧
      (s.domainOn domLoop = true → bad = false → ∃ t, exec i s = .next t ∧ t.lpWord c off = v.toNat ∧
        (∀ a, ¬(Mem.loopStore c + off ≤ a ∧ a < Mem.loopStore c + off + 4) → t.rdByte a = s.rdByte a) ∧
        s.keeps t [.mem, .ecc, .regs, .evr, .saf]) ∧
      (s.domainOn domLoop = true → bad = true → ∃ t, exec i s = .next t ∧ s.keeps t [.ecc, .regs, .evr, .saf])
    (0x40 ≤ off → off < 0xE0 → s.bankWritable it c b = true → stored) ∧
    (0x40 ≤ off → off < 0xE0 → s.bankWritable it c b = false →
      Claims.Refused i s F.GLB_ACCERR_REFUSED_RO (Requester.source req)) ∧
    (0xE0 ≤ off → off < 0xF0 → off ≠ 0xE4 ∨ s.patIs (fun p => p.nextTarget c) = false → stored) ∧
    (off = 0xE4 → s.patIs (fun p => p.nextTarget c) = true →
      Claims.Refused i s F.GLB_ACCERR_REFUSED_RO (Requester.source req)) ∧
    (off < 0x40 → Claims.Refused i s F.GLB_ACCERR_REFUSED_RO (Requester.source req)) ∧
    (0xF0 ≤ off → Claims.Refused i s F.GLB_ACCERR_RESERVED_ADDR (Requester.source req))

/-- R164 to R166: ARM of a valid capture set takes its start stitch, the next one where LPE_BOB_AT is 0, and fixes the
settings; STOP ends a capture, or an injection that outlasted it (log 37); CLEAR sets the Bobbin to 0; ARM and CLEAR while a capture is under way, and STOP with none, answer code 1. -/
def Claims.Bobbin : Prop :=
  ∀ (s : State) (req : Requester), s.served req F.LPE_BOB_CTRL_OP.addr →
    let at_ := s.getF F.LPE_BOB_AT_LO_N + 2 ^ 32 * s.getF F.LPE_BOB_AT_HI_N
    let n := if at_ = 0 then s.clock.refN + 1 else at_
    let busy := s.bobState = 1 ∨ s.bobState = 2
    let code (t : State) (k : Nat) : Prop := t.getF F.LPE_BOB_STATUS_CODE = k
    let refused (i : Instr) (k : Nat) : Prop := ∃ t, exec i s = .next t ∧ code t k ∧ t.bobState = s.bobState ∧
      s.regsBut t [F.LPE_BOB_STATUS_STATE.addr] ∧ s.keeps t [.regs]
    (¬busy → s.patIs s.bobSetOk = true → (∀ j, j < 16 → s.getF (F.LPE_BOB_SET_INJ j) = 0) → s.clock.refN < n →
      ∃ t, exec (.arm req) s = .next t ∧ t.bobState = 1 ∧ code t 0 ∧ t.lpe.startN = n ∧ t.lpe.injOn = false ∧ t.lpe.cfg = s.bobCfg ∧
        (∀ j, j < 16 → t.getF (F.LPE_BOB_WR_NEXT j) = 0 ∧ t.getF (F.LPE_BOB_WR_WRAPPED j) = 0) ∧ s.keeps t [.regs, .lpe, .evr] ∧
        (s.lpe.injOn = false → t.evr = s.evr)) ∧
    (¬busy → s.patIs s.bobSetOk = true → (∀ j, j < 16 → s.getF (F.LPE_BOB_SET_INJ j) = 0) → n ≤ s.clock.refN →
      refused (.arm req) 4) ∧
    (¬busy → s.patIs s.bobSetOk = false → refused (.arm req) 2) ∧
    (busy → refused (.arm req) 1 ∧ refused (.bobbinClear req) 1 ∧
      ∃ t, exec (.lpeBobStop req) s = .next t ∧ t.bobState = 4 ∧ code t 0 ∧ t.lpe.injOn = false ∧
        t.lpe.areas = s.lpe.areas ∧ s.keeps t [.regs, .lpe, .evr]) ∧
    (¬busy → s.lpe.injOn = false → refused (.lpeBobStop req) 1) ∧
    (¬busy → s.lpe.injOn = true → ∃ t, exec (.lpeBobStop req) s = .next t ∧ code t 0 ∧ t.lpe.injOn = false ∧
      t.bobState = s.bobState ∧ s.keeps t [.regs, .lpe, .evr]) ∧
    (¬busy → ∃ t, exec (.bobbinClear req) s = .next t ∧ t.bobState = 0 ∧ code t 0 ∧
      (∀ a, Mem.bobbin ≤ a → a < Mem.bobbin + 0x100000 → t.rdByte a = 0) ∧
      (∀ a, ¬(Mem.bobbin ≤ a ∧ a < Mem.bobbin + 0x100000) → t.rdByte a = s.rdByte a) ∧ s.keeps t [.regs, .mem, .ecc])

/-- R155, R157, R164 to R166: the store window of the loop engine, and the Bobbin. -/
def Obligations.StoreWindowAndBobbin : Prop := Claims.StoreWindow ∧ Claims.Bobbin

/-- R191, R192: DISABLE, ENABLE and CLEAR_WARM of a context: where they are accepted, what they change, and that one
whose context is being solved waits in PENDING; the end of the copy leaves DISABLED with the Pattern's problem data;
the problem-data window writes a word of a DISABLED context whose memory has power (R29), else the write is refused. That
UNUSED comes before BUSY and BUSY before STATE is the model's choice (log 29). -/
def Claims.SolverCommands : Prop :=
  ∀ (s : State) (req : Requester) (c : BitVec 3),
    let n := c.toNat
    let m := s.qpMode n
    let res (t : State) (code : Nat) : Prop :=
      t.getF F.QPS_CTX_RESULT_CTX = n ∧ t.getF F.QPS_CTX_RESULT_CODE = code
    let refused (i : Instr) (code : Nat) : Prop := ∃ t, exec i s = .next t ∧ res t code ∧
      s.regsBut t [F.QPS_CTX_RESULT_CODE.addr] ∧ s.keeps t [.regs]
    let used := s.patIs (fun p => qpUsed (p.qp n))
    let copying := ∃ k, k < 8 ∧ s.qpMode k = qmDisabling
    (s.served req F.QPS_CTX_CMD_OP.addr →
      (used = false →
        refused (.qpDisable req c) 1 ∧ refused (.qpEnable req c) 1 ∧ refused (.qpClearWarm req c) 1) ∧
      (used = true → copying →
        refused (.qpDisable req c) 3 ∧ refused (.qpEnable req c) 3 ∧ refused (.qpClearWarm req c) 3) ∧
      (used = true → ¬copying → s.station = .stop ∨ s.station = .tacking → m = qmEnabled ∨ m = qmRefused →
        (s.qpSolving n = false → ∃ t, exec (.qpDisable req c) s = .next t ∧ res t 0 ∧ t.qpMode n = qmDisabling ∧
          s.keeps t [.regs]) ∧
        (s.qpSolving n = true → ∃ t, exec (.qpDisable req c) s = .next t ∧ res t 0 ∧ t.qpMode n = m ∧
          t.getF (F.QPS_CTX_STATE_PENDING n) = 1 ∧ t.qps.run = s.qps.run ∧ s.keeps t [.regs, .qps])) ∧
      (used = true → ¬copying → s.station = .run → m = qmEnabled → refused (.qpDisable req c) 2) ∧
      (used = true → ¬copying → s.station = .stop ∨ s.station = .tacking ∨ s.station = .run → m = qmDisabled →
        ∃ t, exec (.qpEnable req c) s = .next t ∧ res t 0 ∧ t.qpMode n = qmLoadPending ∧ s.keeps t [.regs]) ∧
      (used = true → ¬copying → m = qmEnabled → s.qpSolving n = true →
        ∃ t, exec (.qpClearWarm req c) s = .next t ∧ res t 0 ∧ t.qpMode n = m ∧ (t.qpCtx n).warm = (s.qpCtx n).warm ∧
          t.getF (F.QPS_CTX_STATE_PENDING n) = 1 ∧ t.qps.run = s.qps.run ∧ s.keeps t [.regs, .qps]) ∧
      (used = true → ¬copying → m = qmEnabled → s.qpSolving n = false →
        ∃ t, exec (.qpClearWarm req c) s = .next t ∧ res t 0 ∧ t.qpMode n = m ∧ (t.qpCtx n).warm = [] ∧
          t.getF (F.QPS_CTX_STATE_WARM_Q n) = 0 ∧ s.keeps t [.regs, .qps])) ∧
    (∀ (off : Nat) (v : BitVec 32), s.served req (0x58000 + off) → off % 4 = 0 → off < 0x8000 →
        let bad := (s.eccReadWord (s.qpWindowAt off / 8 * 8) 3).1
        (s.qpWindowOpen = true → s.domainOn domSolver = false → exec (.problemWindowWrite req off v) s = .next s) ∧
        (s.qpWindowOpen = true → s.domainOn domSolver = true → bad = true → ∃ t, exec (.problemWindowWrite req off v) s = .next t ∧
          s.keeps t [.ecc, .regs, .evr, .saf]) ∧
        (s.qpWindowOpen = true → s.domainOn domSolver = true → bad = false → ∃ t, exec (.problemWindowWrite req off v) s = .next t ∧
          t.rdLe (s.qpWindowAt off) 4 = v.toNat ∧
          (∀ a, ¬(s.qpWindowAt off ≤ a ∧ a < s.qpWindowAt off + 4) → t.rdByte a = s.rdByte a) ∧
          s.keeps t [.mem, .ecc, .regs, .evr, .saf]) ∧
        (s.qpWindowOpen = false →
          Claims.Refused (.problemWindowWrite req off v) s F.GLB_ACCERR_REFUSED_RO (Requester.source req))) ∧
    (∀ p, s.pat.active = some p → m = qmDisabling → ∃ t, exec (.disableCopyEnd n) s = .next t ∧ t.qpMode n = qmDisabled ∧
      (let data := (p.qpHeap n).take (8 * qpAreaWords (p.qp n))
       t.rdBytes (Mem.solver n) data.length = data) ∧ s.keeps t [.regs, .mem, .ecc])

/-- R175, R186 to R189: a solve that ends before its deadline boundary is published with its own status: an OPTIMAL one
into the next buffer of the rotation, with the count of consecutive misses at 0; any other one is a miss. At the
deadline boundary a solve is abandoned as a miss with status DEADLINE. The solver is free afterwards. -/
def Claims.SolveEnds : Prop :=
  ∀ (s : State) (p : Pattern) (v : Solve), s.qps.run = some v → v.ctx < 8 → s.pat.active = some p →
    let c := v.ctx
    let it := p.qp c
    let r := s.qpOutcome p v (qpMaxPass it)
    let free (t : State) (status : Nat) : Prop := t.qps.run = none ∧ t.getF F.QPS_STATUS_BUSY = 0 ∧
      t.getF (F.QPS_CTX_STATE_LAST_STATUS c) = status % 256 ∧
      t.getF (F.QPS_CTX_SEQ_SEQ c) = (s.getF (F.QPS_CTX_SEQ_SEQ c) + 1) % 2 ^ 32
    let missed (t : State) : Prop :=
      t.getF (F.QPS_MISS_CONSEC c) = Nat.min 255 (s.getF (F.QPS_MISS_CONSEC c) + 1) ∧
      t.getF (F.QPS_MISS_COUNT c) = Nat.min 65535 (s.getF (F.QPS_MISS_COUNT c) + 1)
    (s.qpLate p v = false →
      (r.status = qsOptimal → ∃ t, exec .solveEnd s = .next t ∧ free t qsOptimal ∧ t.getF (F.QPS_MISS_CONSEC c) = 0 ∧
        (t.qpCtx c).valid = some (s.qpCtx c).next ∧ (t.qpCtx c).next = ((s.qpCtx c).next + 1) % 3 ∧
        ((qpExpIdx it).all (· == 0xFF) = true →
          t.rdBytes (qpBufAt it (s.qpCtx c).next) (8 * r.x.length) = r.x.flatMap (leBytes 8))) ∧
      (r.status ≠ qsOptimal → ∃ t, exec .solveEnd s = .next t ∧ free t r.status ∧ missed t ∧
        (t.qpCtx c).valid = (s.qpCtx c).valid)) ∧
    (s.qpLate p v = true → exec .solveEnd s = .next s ∧
      ∃ t, exec .qpDeadline s = .next t ∧ free t qsDeadline ∧ missed t) ∧
    (s.qpLate p v = false → exec .qpDeadline s = .next s)

/-- The commands of the QP solver, and how a solve ends. -/
def Obligations.Solver : Prop := Claims.SolverCommands ∧ Claims.SolveEnds

/-! ### Field I/O and safety -/

/-- R198 to R201, R205 to R209: what a sweep leaves of a channel that it measures once: CLASS by the thresholds, the
measured values, and the filtered class after FILTER + 1 equal classes; a test pulse opens the switch of an output
that is on, it closes again 20 us after the sample, LOW passes, HIGH latches off and is no skipped pulse, and an input
fed by it that still draws current has TEST_SRC_FAIL; the end of a cycle counts, and an output that missed two cycles
in a row has TEST_FAIL. The model's choices and deductions: the first class enters at once (log 59), the end of a
pulse (log 61), what counts as missed (log 63). -/
def Obligations.SweepsAndPulses : Prop :=
  ∀ (s : State) (p : Pattern), s.pat.active = some p →
    (∀ (m : SweepMeas) (n : Nat) (mv ua : Int), s.domainOn domDio = true → n < 48 → p.ioMode n ≠ 0 →
      m.chans.filter (fun x => x.1 == n) = [(n, mv, ua)] → (s.dio n).pulse = false → s.groupCut (groupOf n) = false →
      (s.grp (groupOf n)).adcBad = false → (∀ x ∈ m.refs, x.1 ≠ groupOf n) →
      let x := s.dio n
      let filter := (p.io n).u8 2
      let cls := if p.isOutput n then (if 11000 ≤ mv then 6 else if mv < 5000 then 5 else 3)
        else if p.wireBreak n ∧ ua < 350 then 0 else if ua ≤ 1500 then 1
        else if 2000 ≤ ua ∧ (if p.ioMode n = 1 then 15000 else 11000) ≤ mv then 2 else 3
      let k := if x.candN ≠ 0 ∧ x.cand = cls then x.candN + 1 else 1
      ∃ t, exec (.sweep m) s = .next t ∧ t.getF (F.DIO_CH_STATUS_CLASS n) = cls ∧
        t.getF (F.DIO_CH_MEAS_VOLT n) = Nat.min mv.toNat 65535 ∧
        (x.image = none ∨ filter + 1 ≤ k → (t.dio n).image = some cls) ∧
        (x.image ≠ none → k < filter + 1 → (t.dio n).image = x.image) ∧ s.keeps t [.regs, .fio, .evr, .saf]) ∧
    (∀ n, n < 48 → p.pulsed n = true →
      let v := s.settleField s.nowNs
      (s.isOn n = true → ∃ t, exec (.testPulse n) s = .next t ∧ t.getF (F.DIO_CH_STATUS_DRIVE n) = 0 ∧
        t.dio n = { v.dio n with pulse := true } ∧ t.isOn n = true ∧ (∀ q, q ≠ n → t.dio q = v.dio q) ∧
        v.regsBut t [(F.DIO_CH_STATUS_DRIVE n).addr] ∧ s.keeps t [.regs, .fio]) ∧
      (s.isOn n = false → ∃ t, exec (.testPulse n) s = .next t ∧ t.getF (F.DIO_CH_STATUS_PULSE_SKIPPED n) = 1 ∧
        v.regsBut t [(F.DIO_CH_STATUS_DRIVE n).addr] ∧ v.keeps t [.regs])) ∧
    (∀ n mv ua inputUa, n < 48 → (s.dio n).pulse = true → (s.dio n).tail = none →
      ∃ t, exec (.testSample n mv ua inputUa) s = .next t ∧ s.keeps t [.regs, .fio, .evr, .saf] ∧
      (mv < 11000 → (t.dio n).pulse = true ∧ (t.dio n).tail ≠ none ∧
        t.getF (F.DIO_CH_STATUS_DRIVE n) = s.getF (F.DIO_CH_STATUS_DRIVE n)) ∧ (mv < 5000 → (t.dio n).passed = true) ∧
      (11000 ≤ mv → t.getF (F.DIO_CH_STATUS_PULSE_SKIPPED n) = s.getF (F.DIO_CH_STATUS_PULSE_SKIPPED n) ∧ t.isOn n = false ∧ t.getF (F.DIO_CH_STATUS_TEST_FAIL n) = 1 ∧
        t.getF (F.DIO_CH_STATUS_LATCHED n) = 1) ∧
      (∀ x ∈ inputUa, x.1 < 48 → p.isInput x.1 = true → (p.io x.1).u8 7 = n → 350 ≤ x.2 →
        t.getF (F.DIO_CH_STATUS_TEST_SRC_FAIL x.1) = 1)) ∧
    (∀ n e now, n < 48 → (s.dio n).pulse = true → (s.dio n).tail = some e → e ≤ now →
      (s.settleField now).getF (F.DIO_CH_STATUS_DRIVE n) = 1 ∧ ((s.settleField now).dio n).pulse = false) ∧
    (∃ t, exec .testCycleEnd s = .next t ∧
      t.getF F.DIO_TP_CYCLES_COUNT = (s.getF F.DIO_TP_CYCLES_COUNT + 1) % 2 ^ 32 ∧ t.fio.cycle = s.fio.cycle + 1 ∧
      s.keeps t [.regs, .fio, .evr, .saf] ∧
      ∀ n, n < 48 → p.pulsed n = true → (s.dio n).missed = true →
        t.getF (F.DIO_CH_STATUS_TEST_FAIL n) = 1 ∧ t.getF (F.DIO_CH_STATUS_LATCHED n) = 1)

/-- R210, R211, R215, R216: a group test opens the disconnect and leaves the switches, the disconnect closes again 20
us after the sample if it was closed and is still driven; a failed one is DISC_FAULT. SHORT_GND, GRP_OVERLOAD and the
cut-off of a field supply take outputs off; the supply's return ends the cut-off. The end of the opening is DEDUCED
(log 61); that a group without selvedge outputs waits for its first test is the model's choice (log 62), SOURCE of a
supply is free (log 75). -/
def Claims.GroupsAndFaults : Prop :=
  ∀ (s : State) (g n k : Nat), g < 6 → n < 48 → k < 2 →
    let off (t : State) (q : Nat) : Prop := t.isOn q = false
    let latched (t : State) (q : Nat) : Prop := t.getF (F.DIO_CH_STATUS_LATCHED q) = 1
    (∀ p, s.pat.active = some p → s.domainOn domDio = true → (s.settleField s.nowNs).inGroupTest g = false →
      p.groupSelvedge g = true ∨ (s.grp g).tested = false →
      ∃ t, exec (.groupTest g) s = .next t ∧ t.getF (F.DIO_GRP_STATUS_DISC_OPEN g) = 1 ∧ (t.grp g).testing = true ∧
        (t.grp g).wasClosed = (s.settleField s.nowNs).discClosed g ∧ (∀ q, q < 48 → t.isOn q = s.isOn q) ∧ s.keeps t [.regs, .fio]) ∧
    (∀ p mv ma, s.pat.active = some p → (s.grp g).testing = true →
      (mv < 5000 ∨ ma < 5 → ∃ t, exec (.groupTestSample g mv ma) s = .next t ∧ (t.grp g).testing = false ∧
        (t.grp g).tested = true ∧ (t.grp g).lastPass = some true ∧ (t.grp g).wasClosed = (s.grp g).wasClosed ∧
        (t.grp g).closeAt ≠ none ∧ (∀ q, q < 48 → t.isOn q = s.isOn q) ∧ s.keeps t [.fio]) ∧
      (5000 ≤ mv → 5 ≤ ma → ∃ t, exec (.groupTestSample g mv ma) s = .next t ∧ (t.grp g).lastPass = some false ∧
        t.getF (F.DIO_GRP_STATUS_DISC_FAULT g) = 1 ∧ s.keeps t [.regs, .fio, .evr, .saf] ∧
        ∀ q, groupOf q = g → p.selvedgeOutput q = true → off t q ∧ latched t q)) ∧
    (∀ e now, (s.grp g).closeAt = some e → e ≤ now → (s.grp g).wasClosed = true → s.saf.drive.getLsbD g = true →
      (s.settleField now).getF (F.DIO_GRP_STATUS_DISC_OPEN g) = 0) ∧
    (∀ p, s.pat.active = some p → p.isOutput n = true → s.isOn n = true → ∃ t, exec (.shortGnd n) s = .next t ∧
      t.getF (F.DIO_CH_STATUS_SHORT_GND n) = 1 ∧ off t n ∧ latched t n ∧ (∀ q, q ≠ n → t.dio q = s.dio q) ∧
      s.keeps t [.regs, .fio, .evr, .saf]) ∧
    (∀ p ma, s.pat.active = some p → ∃ t, exec (.grpOverload g ma) s = .next t ∧ t.getF (F.DIO_GRP_STATUS_OVERLOAD g) = 1 ∧
      (∀ q, groupOf q = g → p.isOutput q = true → off t q ∧ latched t q) ∧
      (∀ q, groupOf q ≠ g → t.dio q = s.dio q) ∧ s.keeps t [.regs, .fio, .evr, .saf]) ∧
    (∀ mv, ∃ t, exec (.fsLow k mv) s = .next t ∧ t.getF (F.DIO_FS_STATUS_FS_LOW k) = (if mv < 19200 then 1 else 0) ∧
      s.keeps t [.regs, .evr] ∧
      (mv < 19200 → s.getF (F.DIO_FS_STATUS_FS_LOW k) = 0 → s.raised t 0x0080 (srcFieldOf 0x0080 k) [k])) ∧
    (s.getF (F.DIO_FS_STATUS_CUTOFF k) = 0 → ∃ t, exec (.fsCutoff k) s = .next t ∧
      t.getF (F.DIO_FS_STATUS_CUTOFF k) = 1 ∧ t.getF (F.DIO_FS_STATUS_CUT_SEEN k) = 1 ∧
      (∀ p q, s.pat.active = some p → p.isOutput q = true → supplyOf (groupOf q) = k → off t q) ∧
      (∀ q, supplyOf (groupOf q) ≠ k → t.dio q = s.dio q) ∧ s.keeps t [.regs, .fio, .evr]) ∧
    (s.getF (F.DIO_FS_STATUS_CUTOFF k) = 1 → ∃ t, exec (.fsReturn k) s = .next t ∧
      t.getF (F.DIO_FS_STATUS_CUTOFF k) = 0 ∧ t.getF (F.DIO_FS_STATUS_RETURN_WAIT k) = 0 ∧ t.fio = s.fio ∧
      s.keeps t [.regs, .evr])

/-- R220 to R225: current-loop outputs: a readback shows its conversion, or that there was none; the supply of a
source output follows its terminal voltage (R220); a sink output that regulates is no longer STARTING; COMPLIANCE,
which a fold-back of 5 ms sets, THERMAL from 150 to 140 degrees, and a lost link, which takes the output to its off
value. That a fold-back is judged at THERMAL or COMPLIANCE is DEDUCED (log 70). -/
def Claims.CurrentLoops : Prop :=
  ∀ (s : State) (o : Nat), o < 8 →
    let used := s.domainOn domClo = true ∧
      ∃ p, s.pat.active = some p ∧ (p.ioMode (48 + o) = 1 ∨ p.ioMode (48 + o) = 2)
    let st := (F.CLO_CH_STATUS_MODE o).addr
    (∀ conv volts temps, used → ∃ t, exec (.cloReadback conv volts temps) s = .next t ∧
      s.keeps t [.regs, .fio, .evr] ∧
      (∀ v, conv[o]? = some (some v) → t.getR (F.CLO_CH_READ_VALUE o).addr = v ∧ (t.cloOut o).conv = some v) ∧
      (conv[o]? = some none → t.getF (F.CLO_CH_STATUS_READBACK_LOST o) = 1 ∧ (t.cloOut o).conv = none) ∧
      (∀ v p, volts[o]? = some v → s.pat.active = some p → t.getF (F.CLO_CH_SUPPLY_VOLT o) =
        if p.ioMode (48 + o) = 1 then Nat.min 26000 (Nat.max 8000 (v + 2500)) else Nat.min v 65535)) ∧
    (∃ t, exec (.cloStarted o) s = .next t ∧ t.getF (F.CLO_CH_STATUS_STARTING o) = 0 ∧ s.regsBut t [st] ∧
      s.keeps t [.regs]) ∧
    (used → s.getF (F.CLO_CH_STATUS_COMPLIANCE o) = 0 → ∃ t, exec (.compliance o) s = .next t ∧
      t.getF (F.CLO_CH_STATUS_COMPLIANCE o) = 1 ∧ t.getF (F.CLO_CH_STATUS_COMPLIANCE_SEEN o) = 1 ∧
      s.raised t 0x0090 (0x5100 + o) [o, s.getF (F.CLO_CH_SET_VALUE o), s.getF (F.CLO_CH_READ_VALUE o)] ∧
      s.regsBut t [st, F.EVR_STATUS_STAGED.addr] ∧ s.keeps t [.regs, .evr]) ∧
    (∀ c : Int, used →
      (150 ≤ c → s.getF (F.CLO_CH_STATUS_THERMAL o) = 0 → ∃ t, exec (.thermal o c) s = .next t ∧
        t.getF (F.CLO_CH_STATUS_THERMAL o) = 1 ∧ t.getF (F.CLO_CH_STATUS_THERMAL_SEEN o) = 1 ∧
        s.raised t 0x0091 (0x5100 + o) [o] ∧ s.keeps t [.regs, .fio, .evr]) ∧
      (c < 140 → ∃ t, exec (.thermal o c) s = .next t ∧ t.getF (F.CLO_CH_STATUS_THERMAL o) = 0 ∧
        (t.cloOut o).foldAt = none ∧ s.keeps t [.regs, .fio, .evr]) ∧
      (∀ at_, (s.cloOut o).foldAt = some at_ → at_ + 5000000 ≤ s.nowNs → c < 150 → ∃ t, exec (.thermal o c) s = .next t ∧
        t.getF (F.CLO_CH_STATUS_COMPLIANCE o) = 1) ∧
      (140 ≤ c → c < 150 → ∃ t, exec (.thermal o c) s = .next t ∧
        t.getF (F.CLO_CH_STATUS_THERMAL o) = s.getF (F.CLO_CH_STATUS_THERMAL o) ∧ s.keeps t [.regs, .fio, .evr])) ∧
    (used → ∃ t, exec (.linkLost o) s = .next t ∧ t.getF (F.CLO_CH_STATUS_LINK_OK o) = 0 ∧
      t.getF (F.CLO_CH_STATUS_LINK_LOST o) = 1 ∧ t.getF (F.CLO_CH_STATUS_OFF o) = 1 ∧ t.getF (F.CLO_CH_SET_VALUE o) = 0 ∧
      (t.cloOut o).lost = true ∧ s.raised t 0x0092 (0x5100 + o) [o] ∧ s.keeps t [.regs, .fio, .evr])

/-- R210, R211, R215, R216, R220 to R225: output groups and their faults, and the current-loop outputs. -/
def Obligations.GroupsAndCurrentLoops : Prop := Claims.GroupsAndFaults ∧ Claims.CurrentLoops

/-- R228, R234, R244, R248 to R254, R256: what the monitor's detections leave, and CONFIRM, CLEAR_HALT and CANCEL. A
module-wide cause stops every disconnect drive and releases MOD_OK at once, and takes the station to SAFE_HALT at the
next boundary. Which causes last, and that CLEAR_HALT needs a self-test passed since, is DEDUCED (log 68); that CANCEL
raises nothing is the model's choice (log 67). -/
def Obligations.Monitor : Prop :=
  ∀ (s : State) (req : Requester),
    let wide (t : State) (cause : Nat) : Prop := t.saf.drive = 0 ∧ t.getF F.SAF_STATUS_MOD_OK = 0 ∧
      t.saf.haltCause = some cause ∧ t.saf.testedSince = false ∧ t.station = s.station
    let result (t : State) (op code : Nat) : Prop := t.getF F.SAF_RESULT_DONE = 1 ∧
      t.getF F.SAF_RESULT_LAST_OP = op ∧ t.getF F.SAF_RESULT_CODE = code
    let fresh := s.haltable = true ∧ s.saf.haltCause = none
    (∀ p i it, s.pat.active = some p → (∀ f ∈ p.functions, f < 64) → i < 48 → p.inputItem i = some it → inForm it ≠ 0 → 0 < inDisc it → inDisc it ≤ s.getF (F.SAF_IN_STATUS_K i) →
      s.getF (F.SAF_IN_STATUS_DISCREPANCY i) = 0 → ∃ t, exec (.discrepancy i) s = .next t ∧
      t.getF (F.SAF_IN_STATUS_DISCREPANCY i) = 1 ∧ t.getF (F.SAF_IN_STATUS_PHASE i) = 0 ∧
      (∀ f ∈ p.fnsOfInput i, t.fnState f = 2) ∧ s.keeps t [.regs, .saf, .evr]) ∧
    (∀ p r, s.pat.active = some p → r < 17 → s.tooLong (s.resetRunOf r) = true → s.getF (F.SAF_RST_STATUS_HELD r) = 0 →
      ∃ t, exec (.resetHeld r) s = .next t ∧ t.getF (F.SAF_RST_STATUS_HELD r) = 1 ∧
        t.getF (F.SAF_RST_STATUS_HELD_SEEN r) = 1 ∧ s.raised t 0x1030 0x1000 [p.resetCh r] ∧ s.keeps t [.regs, .evr]) ∧
    (∀ g, g < 6 → s.saf.drive.getLsbD g = false → s.discClosed g = true → ∃ t, exec (.disconnectDrop g) s = .next t ∧
      t.getF (F.DIO_GRP_STATUS_DISC_OPEN g) = 1 ∧ (∀ p q, s.pat.active = some p → groupOf q = g → p.isOutput q = true → t.isOn q = false) ∧
      s.keeps t [.regs, .fio]) ∧
    (∀ rail, fresh → ∃ t, exec (.supplyFail rail) s = .next t ∧ wide t 2 ∧ s.raised t 0x1052 0x1000 [rail] ∧
      s.keeps t [.regs, .saf, .evr]) ∧
    (∀ a b c, let rm := clkDeviates a 25000000 b 64000000
      let rr := clkDeviates a 25000000 c 100000000
      let mr := clkDeviates b 64000000 c 100000000
      (rm = true → rr = true → mr = false → s.getF F.SAF_CLK_REF_FAIL = 0 → ∃ t, exec (.clockVote a b c) s = .next t ∧
        t.getF F.SAF_CLK_REF_FAIL = 1 ∧ t.getF F.SCH_STATUS_DEGRADED_CLK = 1 ∧ t.getF F.PWR_STATUS_RC_CLOCK = 1) ∧
      (rm = false → rr = false → mr = false → s.getF F.SAF_CLK_REF_FAIL = 1 → ∃ t, exec (.clockVote a b c) s = .next t ∧
        t.getF F.SAF_CLK_REF_FAIL = 0 ∧ t.getF F.SCH_STATUS_DEGRADED_CLK = 0 ∧ t.getF F.PWR_STATUS_RC_CLOCK = 0) ∧
      (rm = true → mr = true → rr = false → fresh → s.getF F.SAF_CLK_MON_FAIL = 0 → ∃ t, exec (.clockVote a b c) s = .next t ∧
        t.getF F.SAF_CLK_MON_FAIL = 1 ∧ wide t 3) ∧
      (rm = true → rr = true → mr = true → fresh → s.saf.present = [] → ∃ t, exec (.clockVote a b c) s = .next t ∧
        wide t 4)) ∧
    (∀ test, (∃ t, exec (.monitorSelftest test true) s = .next t ∧ t.saf.selftestOk = true ∧ t.saf.testedSince = true ∧
        s.regsBut t [F.SAF_STATUS_MOD_OK.addr] ∧ s.keeps t [.regs, .saf]) ∧
      (fresh → ∃ t, exec (.monitorSelftest test false) s = .next t ∧ t.saf.selftestOk = false ∧ wide t 5 ∧
        s.keeps t [.regs, .saf, .evr])) ∧
    (s.served req F.SAF_CMD_OP.addr →
      (s.station = .tacking → s.getF F.SAF_CONFIRM_VAL_VALUE = s.getF F.PAT_CHECK_CHECK_VALUE →
        ∃ t, exec (.confirm req) s = .next t ∧ result t 1 0 ∧ t.getF F.SAF_STATUS_WINDOW = 1 ∧
          t.saf = { s.saf with windowEnd := some (s.nowNs + 60000000000), pressInside := false } ∧
          s.keeps t [.regs, .saf]) ∧
      (s.station = .tacking → s.getF F.SAF_CONFIRM_VAL_VALUE ≠ s.getF F.PAT_CHECK_CHECK_VALUE →
        ∃ t, exec (.confirm req) s = .next t ∧ result t 1 2 ∧ s.regsBut t [F.SAF_RESULT_DONE.addr] ∧ s.keeps t [.regs]) ∧
      (s.station = .safeHalt → s.saf.present = [] → s.saf.testedSince = true →
        ∃ t, exec (.clearHalt req) s = .next t ∧ result t 2 0 ∧ t.station = .stop ∧ t.getF F.SAF_STATUS_HALT = 0 ∧
          t.saf = { s.saf with haltCause := none } ∧ s.raised t 0x1002 0x1000 [] ∧
          s.keeps t [.regs, .saf, .station, .evr]) ∧
      (s.station = .safeHalt → s.saf.present ≠ [] ∨ s.saf.testedSince = false →
        ∃ t, exec (.clearHalt req) s = .next t ∧ result t 2 3 ∧ s.keeps t [.regs]) ∧
      ∃ t, exec (.safCancel req) s = .next t ∧ result t 3 0 ∧ t.getF F.SAF_STATUS_WINDOW = 0 ∧
        t.saf = { s.saf with windowEnd := none, pressInside := false } ∧ s.keeps t [.regs, .saf]) ∧
    (s.getF F.SAF_STATUS_WINDOW = 1 → ∃ t, exec .checkWindowExpired s = .next t ∧ t.getF F.SAF_STATUS_WINDOW = 0 ∧
      t.saf = { s.saf with windowEnd := none, pressInside := false } ∧ s.raised t 0x1061 0x1000 [] ∧
      s.keeps t [.regs, .saf, .evr])


/-! ### Networks and time -/

/-- R265 to R267: a copy of a paired set waits for the other port's copy; equal copies deliver, unequal ones do not
and are counted; an old number and a copy on the wrong port are counted and discarded, but none for its number while
no delivery has set the last one; a later number takes the held copy's place, which resolves SINGLE; a window that
passes without the other copy resolves SINGLE; a set without a delivery for TIMEOUT latches is stale and loses its
last number. That byte 6 is not compared, and what counts as old against a held copy, is DEDUCED (log 72). -/
def Obligations.PairedDelivery : Prop :=
  ∀ (s : State) (p : Pattern) (i port : Nat) (r : Bytes), s.pat.active = some p → port < 2 → i < 1024 →
    i < p.pairedSets.length → setSend (p.pairedSet i) = false →
    let it := p.pairedSet i
    let set := setNo it
    let x := s.rxOf set
    let n := 12 + setLen it
    let seq := BitVec.ofNat 32 (r.beAt 0 4)
    let good := r.beAt 4 2 = set ∧ r.beAt 8 2 = setLen it ∧ r.u8 7 = (if setSafe it then 1 else 0) ∧ n ≤ r.length
    let counts (t : State) (f : Fld) : Prop := t.getF f = Nat.min 255 (s.getF f + 1)
    let others (t : State) : Prop := ∀ q, q ≠ set → t.rxOf q = s.rxOf q
    (good → r.u8 6 = port → seqOld seq x.last = false →
      (x.held = none → ∃ t, exec (.pdCopy port i r) s = .next t ∧
        t.rxOf set = { x with held := some (port, r), heldFor := 0 } ∧ others t ∧
        t.getF (F.SCM_PD_STATUS_HELD i) = 1 ∧ s.regsBut t [(F.SCM_PD_STATUS_HELD i).addr] ∧ s.keeps t [.regs, .net]) ∧
      (∀ hr, x.held = some (1 - port, hr) → BitVec.ofNat 32 (hr.beAt 0 4) = seq →
        ((hr.take n).eraseIdx 6 = (r.take n).eraseIdx 6 → ∃ t, exec (.pdCopy port i r) s = .next t ∧
          t.rxOf set = { x with held := none, heldFor := 0, deliver := some (r.slice 12 (setLen it), false),
                                mismatch := false, last := some seq } ∧ others t ∧
          t.getF (F.SCM_PD_STATUS_LAST i) = 1 ∧ t.getF (F.SCM_PD_STATUS_HELD i) = 0 ∧
          t.getF (F.SCM_PD_SEQ_SEQ i) = seq.toNat ∧ s.keeps t [.regs, .net]) ∧
        ((hr.take n).eraseIdx 6 ≠ (r.take n).eraseIdx 6 → ∃ t, exec (.pdCopy port i r) s = .next t ∧
          t.rxOf set = { x with held := none, heldFor := 0, mismatch := true, last := some seq } ∧ others t ∧
          t.getF (F.SCM_PD_STATUS_LAST i) = 3 ∧ counts t (F.SCM_PD_CNT_MISMATCH i) ∧
          s.raised t 0x2100 0x7000 [set] ∧ s.keeps t [.regs, .net, .evr])) ∧
      (∀ hp hr, x.held = some (hp, hr) → hp < 2 →
        let hs := BitVec.ofNat 32 (hr.beAt 0 4)
        (seq = hs → hp = port → ∃ t, exec (.pdCopy port i r) s = .next t ∧ counts t (F.SCM_PD_CNT_OLD i) ∧ s.keeps t [.regs]) ∧
        (seq ≠ hs → x.last ≠ none → seqOld seq (some hs) = true → ∃ t, exec (.pdCopy port i r) s = .next t ∧
          counts t (F.SCM_PD_CNT_OLD i) ∧ s.keeps t [.regs]) ∧
        (seq ≠ hs → x.last = none ∨ seqOld seq (some hs) = false → ∃ t, exec (.pdCopy port i r) s = .next t ∧
          (t.rxOf set).held = some (port, r) ∧ (t.rxOf set).heldFor = 0 ∧ (t.rxOf set).last = some hs ∧
          (t.rxOf set).deliver = (if setSafe it then x.deliver else some (hr.slice 12 (setLen it), true)) ∧ others t ∧
          counts t (F.SCM_PD_CNT_SINGLE i) ∧ t.getF (F.SCM_PD_STATUS_HELD i) = 1 ∧ s.keeps t [.regs, .net, .evr]))) ∧
    (good → r.u8 6 = port → seqOld seq x.last = true → ∃ t, exec (.pdCopy port i r) s = .next t ∧
      counts t (F.SCM_PD_CNT_OLD i) ∧ s.regsBut t [(F.SCM_PD_CNT_OLD i).addr] ∧ s.keeps t [.regs]) ∧
    (good → r.u8 6 ≠ port → ∃ t, exec (.pdCopy port i r) s = .next t ∧ counts t (F.SCM_PD_CNT_CROSS i) ∧
      s.raised t 0x2103 (0x7000 + port) [set, port] ∧ s.keeps t [.regs, .evr]) ∧
    (¬good → ∃ t, exec (.pdCopy port i r) s = .next t ∧ counts t (F.ETH_P_ERR_UNKNOWN port) ∧ s.keeps t [.regs]) ∧
    (∀ hp hr, x.held = some (hp, hr) → hp < 2 → setWindow it ≤ x.heldFor → ∃ t, exec (.pdSingle i) s = .next t ∧
      (t.rxOf set).held = none ∧ (t.rxOf set).last = some (BitVec.ofNat 32 (hr.beAt 0 4)) ∧
      (t.rxOf set).deliver = (if setSafe it then x.deliver else some (hr.slice 12 (setLen it), true)) ∧ others t ∧
      t.getF (F.SCM_PD_STATUS_LAST i) = 2 ∧ t.getF (F.SCM_PD_STATUS_MISS_PORT i) = 1 - hp ∧
      counts t (F.SCM_PD_CNT_SINGLE i) ∧ s.raised t 0x2102 (0x7000 + (1 - hp)) [set, 1 - hp] ∧
      s.keeps t [.regs, .net, .evr]) ∧
    (∀ a, x.valid = true → x.age = some a → setTimeout it ≤ a → ∃ t, exec (.pdStale i) s = .next t ∧
      (t.rxOf set).valid = false ∧ (t.rxOf set).last = none ∧ t.getF (F.SCM_PD_STATUS_VALID i) = 0 ∧ others t ∧
      s.keeps t [.regs, .net, .evr, .mem, .ecc, .saf, .tasks, .free])

/-- R269, R270, R272, R274: a message that passes its checks waits for the next latch; one with a wrong length or
safety CRC is counted; wrong parameters, a watchdog that has run out and CRC_LIMIT discards take a connection to
FAILED with their causes. That a message waits for the next latch is DEDUCED (log 80); SOURCE of a connection is free
(log 75). -/
def Obligations.Terpaene : Prop :=
  ∀ (s : State) (p : Pattern) (it : Bytes) (c : Nat), s.pat.active = some p → c < 32 → p.tpItem c = some it →
    let fails (t : State) (cause : Nat) : Prop := t.tpState c = tpFailed ∧ t.getF (F.SCM_TP_STATUS_CAUSE c) = cause ∧
      t.getF (F.SCM_TP_STATUS_FAILS c) = Nat.min 255 (s.getF (F.SCM_TP_STATUS_FAILS c) + 1) ∧
      (t.getR F.SCM_TP_RUN_RUN.addr).getLsbD c = false ∧ s.keeps t [.regs, .evr]
    let len := if tpProducer it then 0 else tpLen it
    let n := 16 + len
    (∀ path (m : Bytes), pathIncludes (tpRxPath it) path = true →
      let intact := n + 4 ≤ m.length ∧ m.beAt 12 2 = len ∧ m.beAt n 4 = (tpCrc (tpSeed it) (m.take n)).toNat
      let mine := m.beAt 4 4 = tpId it ∧ m.u8 0 = (if tpProducer it then 2 else 1) ∧ m.beAt 2 2 = tpWdtMs it
      (intact → mine → ∃ t, exec (.tpMessage c path m) s = .next t ∧
        t.tpOf c = { s.tpOf c with inbox := (s.tpOf c).inbox ++ [(path, m.take (n + 4))] } ∧
        (∀ q, q ≠ c → t.tpOf q = s.tpOf q) ∧ s.keeps t [.net]) ∧
      (intact → ¬mine → s.tpState c ≠ tpFailed → ∃ t, exec (.tpMessage c path m) s = .next t ∧ fails t 4) ∧
      (¬intact → s.tpState c ≠ tpRun → ∃ t, exec (.tpMessage c path m) s = .next t ∧
        t.getF (F.SCM_TP_ERR_CRC_ERR c) = Nat.min 65535 (s.getF (F.SCM_TP_ERR_CRC_ERR c) + 1) ∧
        t.getF (F.SCM_TP_ERR_SINCE_ACC c) = Nat.min 255 (s.getF (F.SCM_TP_ERR_SINCE_ACC c) + 1) ∧
        s.regsBut t [(F.SCM_TP_ERR_CRC_ERR c).addr] ∧ s.keeps t [.regs])) ∧
    (tpProducer it = false → s.tpState c = tpRun → s.tpWd it ≤ s.getF (F.SCM_TP_STATUS_AGE c) →
      ∃ t, exec (.tpTimeout c) s = .next t ∧ fails t 1 ∧ s.raised t 0x2110 (tpSource 0x2110 it) [c, 0]) ∧
    (tpProducer it = true → s.tpState c = tpRun ∨ s.tpState c = tpWait → (s.tpOf c).sent = true →
      (s.tpOf c).acked = false → s.tpWd it ≤ (s.tpOf c).count →
      ∃ t, exec (.tpTimeout c) s = .next t ∧ fails t 1 ∧ s.raised t 0x2110 (tpSource 0x2110 it) [c, 1]) ∧
    (tpProducer it = false → s.tpState c = tpRun → tpCrcLimit it ≤ s.getF (F.SCM_TP_ERR_SINCE_ACC c) →
      ∃ t, exec (.tpCrcLimit c) s = .next t ∧ fails t 3 ∧ s.raised t 0x2112 (tpSource 0x2112 it) [c])

/-- R284, R287, R291, R293, R295, R298 to R300: a controller in normal mode offers its slot frame before the head of
its FIFO; a frame sent frees its place and lowers TEC; a received frame goes to the first mailbox it matches; errors
raise TEC by 8 up to bus-off above 255; RECOVER and the end of the recovery; a protocol exception; the mailbox lock.
When the bus is busy, and what a waiting mode holds back, is presumed (log 88), as is what unlocking a mailbox shows
(log 89). -/
def Obligations.CanControllers : Prop :=
  ∀ (s : State) (n : Nat), n < 8 →
    let st (t : State) (f : Fld) (v : Nat) : Prop := t.getF f = v
    let up (t : State) (f : Fld) : Prop := t.getF f = Nat.min 255 (s.getF f + 1)
    let others (t : State) : Prop := ∀ q, q ≠ n → t.canOf q = s.canOf q
    let normal := s.canTakesPart n = true ∧ s.canMode n = 1 ∧ (s.canOf n).waits = none
    let offer (slot : Option Nat) (rec : Bytes) (won : Bool) : CanCtrl := { s.canOf n with
      tx := some ⟨slot, s.canOutgoing n rec, BitVec.ofNat 32 s.nowNs, won, none⟩, busy := true }
    let head (rec : Bytes) : Prop := (s.canOf n).slot = none ∧ s.canHead n = some rec ∧
      recBad (canFdEn (s.canCfg n)) true rec = false
    ((s.canOf n).waits = none → ∃ t, exec (.integrationEnd n) s = .next t ∧ st t (F.CAN_STATUS_INTEGRATING n) 0 ∧
      t.canOf n = { s.canOf n with busy := false } ∧ others t ∧ s.regsBut t [(F.CAN_STATUS_STATE n).addr] ∧
      s.keeps t [.regs, .can]) ∧
    (normal → (s.canOf n).tx = none →
      (∀ q rec, (s.canOf n).slot = some (q, rec) →
        (∃ t, exec (.canArbitration n .start) s = .next t ∧ t.canOf n = offer (some q) rec false ∧ others t ∧
          s.keeps t [.can]) ∧
        (∃ t, exec (.canArbitration n .won) s = .next t ∧ t.canOf n = offer (some q) rec true ∧ others t ∧
          s.keeps t [.can]) ∧
        (∃ t, exec (.canArbitration n .lost) s = .next t ∧ t.canOf n = { s.canOf n with busy := true } ∧ others t ∧
          up t (F.CAN_TX_STAT_ARB_LOST n) ∧ s.keeps t [.regs, .can])) ∧
      (∀ rec p, head rec → s.pat.active = some p → ∃ t, exec (.canArbitration n .won) s = .next t ∧
        t.canOf n = offer none rec true ∧ others t ∧ s.keeps t [.can, .ecc, .regs, .evr, .saf])) ∧
    (∀ q x echo, s.canFaultState n = 1 → s.getF (F.CAN_STATUS_TEC n) < 128 → (s.canOf n).waits = none →
      s.getF (F.CAN_STATUS_REC n) < 128 → (s.canOf n).tx = some x → x.slot = some q → x.expired = none →
      recBrs x.record = false → s.canLoop n ≠ 1 → ∃ t, exec (.canFrameSent n echo) s = .next t ∧
        t.canOf n = CanCtrl.fresh ∧ others t ∧
        st t (F.CAN_TX_OK_COUNT n) ((s.getF (F.CAN_TX_OK_COUNT n) + 1) % 2 ^ 32) ∧
        st t (F.CAN_STATUS_TEC n) (s.getF (F.CAN_STATUS_TEC n) - 1) ∧
        Store.get (fun _ => []) t.net.wire (16 + n) = x.record ∧ s.keeps t [.regs, .can, .net]) ∧
    (∀ x echo, (s.canOf n).tx = some x → s.canLoop n = 1 → ∃ t, exec (.canFrameSent n echo) s = .next t ∧
      t.net = s.net ∧ (t.canOf n).tx = none) ∧
    (∀ p f it, s.pat.active = some p → s.canTakesPart n = true → it ∈ p.mailboxes n → mbNo it < 64 →
      canMatches f (mbId it) (mbMask it) = true →
      (∀ j ∈ p.mailboxes n, canMatches f (mbId j) (mbMask j) = true → mbNo it ≤ mbNo j) →
      s.mbLocked n (mbNo it) = false → s.getF (F.CAN_MB_STATUS_NEW n (mbNo it)) = 0 → s.getF (F.CAN_STATUS_REC n) = 0 →
      ∃ t, exec (.canFrameReceived n f false) s = .next t ∧
        t.mbOf n (mbNo it) = { s.mbOf n (mbNo it) with main := canRecord f (mbNo it), isNew := true } ∧
        st t (F.CAN_MB_STATUS_NEW n (mbNo it)) 1 ∧
        st t (F.CAN_RX_OK_COUNT n) ((s.getF (F.CAN_RX_OK_COUNT n) + 1) % 2 ^ 32) ∧ s.keeps t [.regs, .can]) ∧
    (∀ kind d e, normal → (s.canOf n).tx = none → s.canFaultState n = 1 → s.getF (F.CAN_STATUS_REC n) < 128 →
      (s.getF (F.CAN_STATUS_TEC n) < 120 → ∃ t, exec (.canError n kind .transmit ⟨d, e⟩) s = .next t ∧
        st t (F.CAN_STATUS_TEC n) (s.getF (F.CAN_STATUS_TEC n) + 8) ∧ st t (F.CAN_STATUS_STATE n) 1 ∧
        st t (F.CAN_ERR_LAST_ERR n) (canErrCode kind) ∧ st t (F.CAN_ERR_DPHASE n) (if d then 1 else 0) ∧
        s.keeps t [.regs, .can]) ∧
      (247 < s.getF (F.CAN_STATUS_TEC n) → ∃ t, exec (.canError n kind .transmit ⟨d, e⟩) s = .next t ∧
        st t (F.CAN_STATUS_STATE n) 3 ∧ up t (F.CAN_ERR_BUSOFF n) ∧ s.keeps t [.regs, .can, .evr])) ∧
    (∀ req, s.served req (F.CAN_CMD_OP n).addr →
      (s.canFaultState n = 3 → ∃ t, exec (.recover req n) s = .next t ∧ st t (F.CAN_STATUS_RECOVERING n) 1 ∧
        s.regsBut t [(F.CAN_STATUS_STATE n).addr] ∧ s.keeps t [.regs]) ∧
      (∃ t, exec (.clearCounts req n) s = .next t ∧ t.getR (F.CAN_TX_STAT_WITHDRAWN n).addr = 0 ∧
        t.getR (F.CAN_RX_STAT_RXQ_FULL n).addr = 0 ∧
        t.getR (F.CAN_ERR_BUSOFF n).addr = s.getR (F.CAN_ERR_BUSOFF n).addr &&& 0xFF#32 ∧
        s.regsBut t [(F.CAN_TX_STAT_WITHDRAWN n).addr, (F.CAN_RX_STAT_RXQ_FULL n).addr, (F.CAN_ERR_BUSOFF n).addr] ∧
        s.keeps t [.regs])) ∧
    (∀ req, s.served req (F.CAN_MB_LOCK_LOCK n).addr →
      (∀ m : BitVec 6, s.getF (F.CAN_MB_LOCK_LOCK n) = 0 → ∃ t,
        exec (.mbLockWrite req n (0x80000000#32 ||| m.setWidth 32)) s = .next t ∧ st t (F.CAN_MB_LOCK_LOCK n) 1 ∧
        st t (F.CAN_MB_LOCK_MB n) m.toNat ∧ s.regsBut t [(F.CAN_MB_LOCK_LOCK n).addr] ∧ s.keeps t [.regs]) ∧
      (∀ rec, s.getF (F.CAN_MB_LOCK_LOCK n) = 1 → (s.mbOf n (s.getF (F.CAN_MB_LOCK_MB n))).shadow = some rec →
        ∃ t, exec (.mbLockWrite req n 0) s = .next t ∧ st t (F.CAN_MB_LOCK_LOCK n) 0 ∧
          (t.mbOf n (s.getF (F.CAN_MB_LOCK_MB n))).main = rec ∧
          (t.mbOf n (s.getF (F.CAN_MB_LOCK_MB n))).shadow = none ∧ s.keeps t [.regs, .can])) ∧
    (s.canFaultState n = 3 → s.getF (F.CAN_STATUS_RECOVERING n) = 1 → ∃ t, exec (.busOffRecoveryEnd n) s = .next t ∧
      st t (F.CAN_STATUS_STATE n) 1 ∧ st t (F.CAN_STATUS_TEC n) 0 ∧ st t (F.CAN_STATUS_REC n) 0 ∧
      st t (F.CAN_STATUS_RECOVERING n) 0 ∧ s.raised t 0x2202 (0x6000 + n) [n] ∧ s.keeps t [.regs, .evr]) ∧
    (canPexEn (s.canCfg n) = true → s.canTakesPart n = true → (s.canOf n).waits = none → ∃ t, exec (.canProtocolExc n) s = .next t ∧
      st t (F.CAN_STATUS_INTEGRATING n) 1 ∧ up t (F.CAN_ERR_PEX n) ∧ s.raised t 0x2206 (0x6000 + n) [n] ∧
      s.keeps t [.regs, .evr, .can])

/-- R301 to R303, R308 to R313, R318: links, MACsec, unscheduled sending and the reception classes of the ports. The
fields of an Announce frame are those of IEEE 1588, presumed (log 49); a SAK arrives with the command (log 48). -/
def Obligations.EthernetPorts : Prop :=
  ∀ (s : State) (n : Nat), n < 2 →
    let link := s.getF (F.ETH_P_STATUS_LINK n) = 1
    let counts (t : State) (f : Fld) : Prop :=
      t.getF f = Nat.min 255 (s.getF f + 1) ∧ s.regsBut t [f.addr] ∧ s.keeps t [.regs]
    (∀ it speed full matched, s.domainOn (domPort n) = true → s.portCfg n = some it → speed < 4 →
      let tested := ∃ b, s.dgt.lb = some b ∧ b.target = 8 + n ∧ b.depth = 3
      let fits := matched = true ∧ full = true ∧ (tested → speed = 1) ∧ (¬tested → portSpeed it = speed)
      (fits → ∃ t, exec (.ethLinkUp n speed full matched) s = .next t ∧
        t.getF (F.ETH_P_STATUS_LINK n) = 1 ∧ t.getF (F.ETH_P_STATUS_SPEED n) = speed ∧
        t.getF (F.ETH_P_STATUS_FULL n) = 1 ∧ t.getF (F.ETH_P_STATUS_SPEED_FAULT n) = 0 ∧
        s.raised t 0x2301 (0x7000 + n) [n, speed] ∧ s.keeps t [.regs, .evr, .ptp]) ∧
      (¬fits → ∃ t, exec (.ethLinkUp n speed full matched) s = .next t ∧
        t.getF (F.ETH_P_STATUS_SPEED_FAULT n) = 1 ∧
        t.getF (F.ETH_P_STATUS_LINK n) = s.getF (F.ETH_P_STATUS_LINK n) ∧
        s.raised t 0x2302 (0x7000 + n) [n] ∧ s.keeps t [.regs, .evr])) ∧
    (∀ speed full, s.domainOn (domPort 2) = true → speed ≤ 1 → ∃ t, exec (.ethLinkUp 2 speed full true) s = .next t ∧
      t.getF (F.ETH_P_STATUS_LINK 2) = 1 ∧ t.getF (F.ETH_P_STATUS_SPEED 2) = speed ∧
      t.getF (F.ETH_P_STATUS_FULL 2) = (if full then 1 else 0) ∧ s.raised t 0x2301 0x7002 [2, speed] ∧
      s.keeps t [.regs, .evr]) ∧
    (link → ∃ t, exec (.ethLinkDown n) s = .next t ∧ t.getF (F.ETH_P_STATUS_LINK n) = 0 ∧
      t.getF (F.ETH_P_STATUS_DOWNS n) = Nat.min 65535 (s.getF (F.ETH_P_STATUS_DOWNS n) + 1) ∧
      s.raised t 0x2300 (0x7000 + n) [n] ∧ s.keeps t [.regs, .evr, .ptp]) ∧
    (∀ an sak, s.portMacsecOn n = true → s.domainOn (domPort n) = true →
      ∃ t, exec (.ethMacsecSecured ⟨n, an, sak⟩) s = .next t ∧ t.getF (F.ETH_P_STATUS_SECURED n) = 1 ∧
        (t.macsecOf n).tx = some (an.toNat, sak.slice 0 32) ∧ (t.macsecOf n).pn = 1 ∧
        s.raised t 0x2303 (0x7000 + n) [n] ∧ s.keeps t [.regs, .evr, .net]) ∧
    (s.getF (F.ETH_P_STATUS_SECURED n) = 1 → ∃ t, exec (.ethMacsecLost n) s = .next t ∧
      t.getF (F.ETH_P_STATUS_SECURED n) = 0 ∧ t.macsecOf n = MacsecPort.fresh ∧
      s.raised t 0x2304 (0x7000 + n) [n] ∧ s.keeps t [.regs, .evr, .net]) ∧
    (∀ w, link → s.nextWaiting n = some w → s.getF F.SCH_STATUS_RUNNING = 0 → s.portMacsecOn n = false →
      w.frame.beAt 12 2 ≠ 0x88F7 →
      ∃ t, exec (.unscheduledSend n) s = .next t ∧ t.waitingOf n = (s.waitingOf n).erase w ∧
        Store.get (fun _ => []) t.net.wire n = w.frame ∧
        t.getF (F.ETH_P_TX_OK_COUNT n) = (s.getF (F.ETH_P_TX_OK_COUNT n) + 1) % 2 ^ 32 ∧ s.keeps t [.regs, .net]) ∧
    (∀ w p at_, link → s.nextWaiting n = some w → s.getF F.SCH_STATUS_RUNNING = 1 → s.pat.active = some p →
      s.nextNetTx p (25 + n) = some at_ → s.portMacsecOn n = false →
      at_ < s.nowNs + wireNs (s.getF (F.ETH_P_STATUS_SPEED n)) w.len →
      exec (.unscheduledSend n) s = .next s) ∧
    (∀ f st, link → st.fcsOk = false → ∃ t, exec (.ethFrameReceived n f st) s = .next t ∧
      counts t (F.ETH_P_ERR_FCS n)) ∧
    (∀ f st p it, let h : Bytes := (untagged f).drop 2
      link → s.pat.active = some p → s.portMacsecOn n = false →
      st.fcsOk = true → 60 ≤ f.length → f.length ≤ 1518 → (untagged f).beAt 0 2 = 0x88B5 →
      h.u8 0 = 1 → h.u8 1 = 1 →
      (p.plainSets ++ p.pairedSets).find? (fun i => !(setSend i) && setNo i == h.beAt 4 2 && setOnPort i n &&
        setPeer i == h.beAt 2 2 && i.u8 0 == plainKind) = some it →
      h.beAt 6 2 = setLen it → 12 + setLen it ≤ h.length →
      let stitch := BitVec.ofNat 32 (h.beAt 8 4)
      seqOld stitch (s.rxOf (setNo it)).last = false →
      ∃ t, exec (.ethFrameReceived n f st) s = .next t ∧
        t.rxOf (setNo it) = { s.rxOf (setNo it) with
          last := some stitch, deliver := some ((h.drop 12).take (setLen it), false) } ∧
        t.getF (F.ETH_P_RX_OK_COUNT n) = (s.getF (F.ETH_P_RX_OK_COUNT n) + 1) % 2 ^ 32 ∧
        s.regsBut t [(F.ETH_P_RX_OK_COUNT n).addr] ∧ s.keeps t [.regs, .net, .pair]) ∧
    (∀ p it, s.pat.active = some p → p.ptpItem n = some it → s.getF (F.PTP_PORT_STATE_STATE n) = 5 →
      s.domainOn (domPort n) = true → link → (s.waitingOf n).length < 32 →
      ∃ t w, exec (.ptpMessageInterval n .announce) s = .next t ∧ w.cls = 0 ∧ w.len = w.frame.length + 4 ∧
        w.frame.take 6 = [0x01, 0x1B, 0x19, 0x00, 0x00, 0x00] ∧
        t.waitingOf n = (s.waitingOf n).filter (fun x => x.cls ≤ 0) ++ [w] ++ (s.waitingOf n).filter (fun x => 0 < x.cls) ∧
        s.keeps t [.net, .ptp])

/-- R314 to R316, R319 to R321: the increment is committed only within its limits; a STEP and a REBASE wait for the
next boundary or are refused with their codes; CANCEL withdraws them; only the supervisor and the engineering service
may; a Sync shows its offset and delay and counts towards LOCKED; a due trigger fires; an edge is captured. The
model's own: BUSY before STATE, and the one payload word of PTP_INCR_REFUSED (log 86), the increment of a Sync and
what PTP_ANNOUNCE_TIMEOUT forgets (log 85), the rounding of captures (log 87). -/
def Obligations.ShipTime : Prop :=
  ∀ (s : State) (req : Requester), s.reachable = true →
    let d : Int := (s.getR F.PTP_STEP_VALUE.addr).toInt
    let none_ := s.clock.pendingStep = none ∧ s.clock.pendingRebase = none
    let code (t : State) (k : Nat) : Prop := t.getF F.PTP_STATUS_CODE = k
    let to_ := s.getF F.PTP_REBASE_HI_VALUE * 2 ^ 32 + s.getF F.PTP_REBASE_LO_VALUE
    (req = .supervisor ∨ req = .engService → (∀ a, s.mayWrite req a = true) →
      (∀ v, ∃ t, exec (.ptpIncrLoWrite req v) s = .next t ∧ t.clock = { s.clock with incrLo := some v } ∧
        s.keeps t [.clock]) ∧
      (∀ v : BitVec 32,
        let n := v.toNat % 16 * 2 ^ 32 + (s.clock.incrLo.map (·.toNat)).getD (s.clock.incr.toNat % 2 ^ 32)
        (0x4FFBE76C9 ≤ n → n ≤ 0x500418937 → ∃ t, exec (.ptpIncrHiWrite req v) s = .next t ∧
          t.clock = { s.clock with incr := BitVec.ofNat 36 n, incrLo := none } ∧ s.keeps t [.clock]) ∧
        (n < 0x4FFBE76C9 ∨ 0x500418937 < n → ∃ t, exec (.ptpIncrHiWrite req v) s = .next t ∧
          t.clock = { s.clock with incrLo := none } ∧ t.getF F.PTP_STATUS_INCR_REFUSED = 1 ∧
          s.raised t 0x2317 0x7100 [n % 2 ^ 32] ∧ s.keeps t [.clock, .regs, .evr])) ∧
      (none_ → s.station = .stop → d.natAbs ≤ s.getF F.PTP_STEP_LIMIT_NS → 0 ≤ (s.nowNs : Int) + d →
        (s.nowNs : Int) + d < 2 ^ 64 → ∃ t, exec (.step req) s = .next t ∧
          t.clock = { s.clock with pendingStep := some d } ∧ t.getF F.PTP_STATUS_STEP_PENDING = 1 ∧ code t 0 ∧
          s.keeps t [.clock, .regs]) ∧
      (none_ → s.getF F.PTP_STEP_LIMIT_NS < d.natAbs → ∃ t, exec (.step req) s = .next t ∧ t.clock = s.clock ∧
        code t 3 ∧ s.keeps t [.regs, .evr]) ∧
      (∀ p, none_ → s.station = .run → s.pat.active = some p → d.natAbs ≤ s.getF F.PTP_STEP_LIMIT_NS →
        200 * p.guardTicks < d.natAbs → ∃ t, exec (.step req) s = .next t ∧ t.clock = s.clock ∧ code t 4 ∧
          t.getF F.SCH_STATUS_STEP_REFUSED = 1 ∧ s.keeps t [.regs, .evr]) ∧
      (none_ → s.station = .stop → ∃ t, exec (.rebase req) s = .next t ∧
        t.clock = { s.clock with pendingRebase := some (BitVec.ofNat 64 to_), rebaseKeeps := false } ∧
        t.getF F.PTP_STATUS_STEP_PENDING = 1 ∧ code t 0 ∧ s.keeps t [.clock, .regs]) ∧
      (none_ → s.station = .run → ∃ t, exec (.rebase req) s = .next t ∧ code t 1 ∧ s.keeps t [.regs]) ∧
      (¬none_ → (∃ t, exec (.step req) s = .next t ∧ code t 2 ∧ s.keeps t [.regs]) ∧
        ∃ t, exec (.rebase req) s = .next t ∧ code t 2 ∧ s.keeps t [.regs]) ∧
      ∃ t, exec (.ptpCancel req) s = .next t ∧
        t.clock = { s.clock with pendingStep := none, pendingRebase := none, rebaseKeeps := false } ∧
        t.getF F.PTP_STATUS_STEP_PENDING = 0 ∧ code t 0 ∧ s.keeps t [.clock, .regs]) ∧
    (∀ c, req = .application c ∨ req = .cmp → s.mayWrite req F.PTP_CMD_OP.addr = true →
      Claims.Refused (.step req) s F.GLB_ACCERR_REFUSED_RO (Requester.source req)) ∧
    (∀ p it port off delay incr, port < 2 → s.pat.active = some p → p.ptpItem port = some it →
      s.domainOn (domPort port) = true →
      s.getF (F.PTP_PORT_STATE_STATE port) = 7 ∨ s.getF (F.PTP_PORT_STATE_STATE port) = 8 →
      s.getF (F.PTP_PORT_STATE_STATE (1 - port)) ≠ 8 → s.getF F.PTP_STATUS_USABLE = 1 → s.rst.autoDue = false →
      Int.natAbs off ≤ ptpLockNs it → ∃ t, exec (.ptpSync port off delay incr) s = .next t ∧
        t.getF (F.PTP_PORT_STATE_STATE port) = 8 ∧ t.getF (F.PTP_PORT_STATE_DELAY port) = Nat.min delay 4095 ∧
        t.getF F.PTP_STATUS_SOURCE = port + 1 ∧ t.ptp.within = s.ptp.within + 1 ∧ t.ptp.beyond = 0 ∧
        t.ptp.lastOffset = some off ∧
        (16 ≤ s.ptp.within + 1 → t.getF F.PTP_STATUS_LOCKED = 1) ∧ s.keeps t [.regs, .clock, .ptp, .evr]) ∧
    (∀ p, s.pat.active = some p → (∀ k it, k < 2 → p.ptpItem k = some it → ptpGmLock it = false) →
      ∃ t, exec .ptpAnnounceTimeout s = .next t ∧ t.getF F.PTP_STATUS_LOCKED = 0 ∧
        (∀ k it, k < 2 → p.ptpItem k = some it → t.getF (F.PTP_PORT_STATE_STATE k) =
          if s.getF (F.PTP_PORT_STATE_STATE k) < 3 then s.getF (F.PTP_PORT_STATE_STATE k)
          else if ptpSlaveOnly it then 3 else 5) ∧ s.keeps t [.regs, .evr, .ptp]) ∧
    (∀ p k it, s.pat.active = some p → k < 2 → p.ptpItem k = some it → ptpGmLock it = true → ptpSlaveOnly it = false →
      3 ≤ s.getF (F.PTP_PORT_STATE_STATE k) → s.getF F.PTP_STATUS_USABLE = 1 →
      (p.ptpItem (1 - k) = none → s.getF (F.PTP_PORT_STATE_STATE (1 - k)) < 3) →
      ∃ t, exec .ptpAnnounceTimeout s = .next t ∧ t.getF (F.PTP_PORT_STATE_STATE k) = 5 ∧
        t.getF F.PTP_STATUS_LOCKED = 1 ∧ t.getF F.PTP_STATUS_SOURCE = 3 ∧ s.keeps t [.regs, .evr, .ptp]) ∧
    (∀ k, k < 4 → k = 3 ∨ s.region k ≠ rgArmed → s.trigDue k = true → s.getF (F.PTP_TRIG_CTRL_REQ_LOCK k) = 0 →
      ∃ t, exec (.ptpTrigger k) s = .next t ∧ t.getF (F.PTP_TRIG_CTRL_ARMED k) = 0 ∧
        t.getF (F.PTP_TRIG_CTRL_FIRED k) = 1 ∧
        (s.clock.incr ≠ 0 → s.clock.now.toNat + s.clock.incr.toNat + s.trigTime k * 2 ^ 32 < 2 ^ 96 →
          s.trigTime k ≤ t.nowNs) ∧ s.regsBut t [(F.PTP_TRIG_CTRL_ARMED k).addr] ∧ s.keeps t [.regs, .clock]) ∧
    (∀ ch rising age, ch < 16 → edgeSelected ch (s.getF (F.PTP_CAP_STATUS_EDGE ch)) rising = true →
      let at_ := BitVec.ofNat 64 (if ch < 8 then (s.nowNs - age) / 100 * 100 else s.nowNs - age)
      ((s.capturesOf ch).length < 4 → ∃ t, exec (.capture ch rising age) s = .next t ∧
        t.capturesOf ch = s.capturesOf ch ++ [at_] ∧
        t.getF (F.PTP_CAP_STATUS_FILL ch) = (s.capturesOf ch).length + 1 ∧ s.keeps t [.regs, .ptp, .can] ∧
        (ch < 8 → t.can = s.can)) ∧
      (4 ≤ (s.capturesOf ch).length → ∃ t, exec (.capture ch rising age) s = .next t ∧
        t.capturesOf ch = s.capturesOf ch ∧
        t.getF (F.PTP_CAP_STATUS_OVERFLOW ch) = Nat.min 65535 (s.getF (F.PTP_CAP_STATUS_OVERFLOW ch) + 1) ∧
        s.keeps t [.regs, .ptp, .can]))


/-! ### Pairs -/

/-- R325 to R328, R336, R338, R339: the ownership line, the Nymil link, packets with a good and a bad CRC, DATA and
END_MARK packets, the credits that go back for them, an epoch that is discarded, and a partner that is no longer
ready. The reason word of a discard is free (log 74); the order of the reasons is DEDUCED (log 95), as is what a
PKT_NO of 2,048 does (log 94). -/
def Obligations.NymilLink : Prop :=
  ∀ s : State,
    let links (t : State) : Prop := s.regsBut t [F.PAIR_PATHS_LINK_UP.addr]
    (∀ level, ∃ t, exec (.ownSenseEdge level) s = .next t ∧
      t.pair = { s.pair with sense := level, changed := s.pair.changed || (level != s.pair.sense) } ∧
      s.keeps t [.pair]) ∧
    (s.domainOn domLink = false → exec .nymilLinkUp s = .next s) ∧
    (s.domainOn domLink = true → s.pair.healthWait = none → s.pair.waitTx = [] → ∃ t, exec .nymilLinkUp s = .next t ∧
      t.getF F.PAIR_PATHS_LINK_UP = 1 ∧ t.getF F.PAIR_PATHS_LANE_LOCK = 3 ∧
      t.pair = { s.pair with credits := 16, owed := 0 } ∧ links t ∧ s.keeps t [.regs, .pair]) ∧
    (∀ lane, lane < 2 → ∃ t, exec (.nymilLinkLost lane) s = .next t ∧ t.getF F.PAIR_PATHS_LINK_UP = 0 ∧
      bitOf (t.getF F.PAIR_PATHS_LANE_LOCK) lane = false ∧
      bitOf (t.getF F.PAIR_PATHS_LANE_LOCK) (1 - lane) = bitOf (s.getF F.PAIR_PATHS_LANE_LOCK) (1 - lane) ∧
      t.pair.credits = 0 ∧ t.pair.waitTx = [] ∧ links t ∧ s.keeps t [.regs, .pair]) ∧
    (∀ k : BitVec 8, s.paired = true → s.getF F.PAIR_PATHS_LINK_UP = 1 → s.pair.waitTx = [] →
      let credits := min 16 (s.pair.credits + k.toNat)
      (s.pair.healthWait = none → ∃ t, exec (.nymilPacket (.credits k)) s = .next t ∧
        t.pair = { s.pair with credits := credits } ∧ s.keeps t [.pair]) ∧
      (∀ e, s.pair.healthWait = some e → e ≤ s.tickNow → ∃ t, exec (.nymilPacket (.credits k)) s = .next t ∧
        t.pair = { s.pair with credits := credits, healthWait := none } ∧
        t.getF F.PAIR_EPOCH_STAT_CREDIT_STALL = Nat.min 255 (s.getF F.PAIR_EPOCH_STAT_CREDIT_STALL + 1) ∧
        s.regsBut t [F.PAIR_EPOCH_STAT_CREDIT_STALL.addr] ∧ s.keeps t [.pair, .regs]) ∧
      (∀ e, s.pair.healthWait = some e → s.tickNow < e → credits = 0 →
        exec (.nymilPacket (.credits k)) s = .next { s with pair := { s.pair with credits := 0 } }) ∧
      (∀ e key c, s.pair.healthWait = some e → s.tickNow < e → 0 < credits → s.pair.key = some key →
        s.pair.committed = some c → ∃ t, exec (.nymilPacket (.credits k)) s = .next t ∧ t.pair.healthWait = none ∧
          t.pair.healthSent = true ∧ t.pair.credits = credits - 1 ∧ t.pair.owed = 0 ∧
          (∃ x, t.pair.sent = s.pair.sent ++ [x] ∧ x.ptype = 4 ∧ x.epoch.toNat = c.1.toNat % 2 ^ 16 ∧
            x.payload.u64 0 = c.1.toNat ∧
            x.payload.slice 48 16 = (hmacSha256 key (x.payload.slice 0 48)).take 16))) ∧
    (∀ x : NymilPacket, s.paired = true → s.getF F.PAIR_PATHS_LINK_UP = 1 → s.pair.healthWait = none →
      let i : Instr := .nymilPacket (.packet x)
      let settled (t : State) : Prop := t.pair.owed = 0 ∧
        (s.pair.waitTx = [] → t.pair.credits = min 16 (s.pair.credits + x.credit.toNat))
      (x.pcrc ≠ nymilCrc x → ∃ t, exec i s = .next t ∧
        t.getF F.PAIR_EPOCH_STAT_PKT_CRC = Nat.min 255 (s.getF F.PAIR_EPOCH_STAT_PKT_CRC + 1) ∧
        s.regsBut t [F.PAIR_EPOCH_STAT_PKT_CRC.addr] ∧ s.keeps t [.regs]) ∧
      (∀ p, x.pcrc = nymilCrc x → s.pat.active = some p → x.ptype = 0 ∨ 5 < x.ptype.toNat → exec i s = .next s) ∧
      (∀ p, x.pcrc = nymilCrc x → s.pat.active = some p → s.receivesLining = true →
        (x.ptype = 2 → s.partnerDiffers = false → x.pktNo.toNat < 2048 →
          let a0 := p.mirrorAddr s.pair.rxHalf x.pktNo.toNat
          ∃ t, exec i s = .next t ∧ t.pair.rxEpoch = some x.epoch ∧ t.pair.rxHalf = s.pair.rxHalf ∧
            t.pair.committed = s.pair.committed ∧ t.pair.rxValid = Store.set (fun _ => 0)
              (if s.pair.rxEpoch = some x.epoch then s.pair.rxValid else []) x.pktNo.toNat (x.vlen.toNat + 1) ∧
            t.rdBytes a0 256 = x.payload.slice 0 256 ∧ (∀ a, a < a0 ∨ a0 + 256 ≤ a → t.rdByte a = s.rdByte a) ∧
            settled t ∧ s.keeps t [.pair, .mem, .ecc, .net]) ∧
        (x.ptype = 2 → s.partnerDiffers = true ∨ 2048 ≤ x.pktNo.toNat → ∃ t, exec i s = .next t ∧
          t.pair.rxEpoch = s.pair.rxEpoch ∧ t.pair.rxValid = s.pair.rxValid ∧ settled t ∧ s.keeps t [.pair, .net]) ∧
        (x.ptype = 3 →
          let b := x.payload
          let n := b.u16 20
          let mine := b.u64 0 = s.epochNow p
          let same := s.partnerDiffers = false ∧ b.u64 8 = p.patternId ∧ b.u32 16 = p.generation
          let whole := n = p.packetsOf p.liningSlots ∧ b.u32 24 = p.liningBytes ∧
            (∀ k, k < n → Store.get (fun _ => 0) s.pair.rxValid k ≠ 0) ∧
            b.u32 28 = (crc32c (s.rxBytes p n).1).toNat
          (mine → same → whole → ∃ t, exec i s = .next t ∧
            t.pair.committed = some (BitVec.ofNat 64 (b.u64 0), s.pair.rxHalf, s.clock.refN) ∧
            t.pair.rxHalf = (!s.pair.rxHalf) ∧ t.pair.rxEpoch = none ∧ t.pair.rxValid = [] ∧
            t.pair.toApply = p.liningSlots ∧ t.pair.healthDue = true ∧ t.pair.epochAge = 0 ∧
            t.getF F.PAIR_EPOCH_LO_EPOCH = b.u64 0 % 2 ^ 32 ∧ t.getF F.PAIR_EPOCH_HI_EPOCH = b.u64 0 / 2 ^ 32 ∧
            settled t ∧ s.keeps t [.regs, .pair, .net, .ecc, .evr, .saf]) ∧
          (mine → ¬same → ∃ t, exec i s = .next t ∧ t.pair.rxEpoch = none ∧ t.pair.rxValid = [] ∧
            t.pair.committed = s.pair.committed ∧ t.pair.judged = some (s.epochNow p) ∧
            t.getF F.PAIR_EPOCH_STAT_DISCARDED = Nat.min 255 (s.getF F.PAIR_EPOCH_STAT_DISCARDED + 1) ∧
            s.raised t 0x2005 0x8000 [b.u64 0 % 2 ^ 32, b.u64 0 / 2 ^ 32 % 2 ^ 32, payloadNo 0x2005 2] ∧
            settled t ∧ s.keeps t [.regs, .pair, .evr, .net]))) ∧
      (∀ p k, x.pcrc = nymilCrc x → s.pat.active = some p → x.ptype = 4 → s.roleIs .active = true →
        s.pair.key = some k →
        let good := x.payload.slice 48 16 = (hmacSha256 k (x.payload.slice 0 48)).take 16
        (good → ∃ t, exec i s = .next t ∧ t.getF F.PAIR_HEALTH_VALID = 1 ∧
          t.getF F.PAIR_HEALTH_EPOCH = x.payload.u16 0 ∧
          t.getF F.PAIR_HEALTH_SELFTEST_FAIL = x.payload.u32 20 % 256 ∧ settled t ∧ s.keeps t [.regs, .pair, .net]) ∧
        (¬good → ∃ t, exec i s = .next t ∧ t.getF F.PAIR_HEALTH_TAG_BAD = 1 ∧ t.pair.readyAge = s.pair.readyAge ∧
          settled t ∧ s.regsBut t [F.PAIR_HEALTH_TAG_BAD.addr] ∧ s.keeps t [.regs, .pair, .net]))) ∧
    (∀ p, s.pat.active = some p →
      (s.pair.judged = some (s.epochNow p) → exec .epochDiscard s = .next s) ∧
      (s.receivesLining = true → s.pair.judged ≠ some (s.epochNow p) → ∃ t, exec .epochDiscard s = .next t ∧
        t.pair = { s.pair with rxEpoch := none, rxValid := [], judged := some (s.epochNow p) } ∧
        t.getF F.PAIR_EPOCH_STAT_DISCARDED = Nat.min 255 (s.getF F.PAIR_EPOCH_STAT_DISCARDED + 1) ∧
        s.raised t 0x2005 0x8000 [s.epochNow p % 2 ^ 32, s.epochNow p / 2 ^ 32 % 2 ^ 32, payloadNo 0x2005 6] ∧
        s.keeps t [.regs, .pair, .evr]) ∧
      (∀ age, s.roleIs .active = true → s.getF F.PAIR_STATUS_PARTNER_READY = 1 → s.pair.readyAge = some age →
        3 * p.epochLen < age → ∃ t, exec .partnerReadyLost s = .next t ∧
          t.getF F.PAIR_STATUS_PARTNER_READY = 0 ∧ s.raised t 0x2007 0x8000 [] ∧ s.keeps t [.regs, .evr]))

/-- R330, R341 to R343: the five pair messages, the probe that no partner answers, the end of WIT_WAIT, a round of an
ISOLATED module, and CLAIM, RELEASE and WITNESS with their codes. One round for each querier within 4 ms is DEDUCED
(log 96); what PAIR_CLAIM names is free (log 74). -/
def Obligations.PairMessages : Prop :=
  ∀ (s : State) (p : Pattern), s.pat.active = some p →
    let round (t : State) : Prop := t.pair.round = some ⟨s.pair.qseq + 1, [], false⟩ ∧
      t.pair.qseq = s.pair.qseq + 1 ∧ t.getF F.PAIR_WITNESS_ROUND = 1 ∧ t.getF F.PAIR_WITNESS_REPLIED = 0 ∧
      t.getF F.PAIR_WITNESS_SILENT = 0 ∧
      t.getF F.PAIR_WITNESS_ROUNDS = Nat.min 255 (s.getF F.PAIR_WITNESS_ROUNDS + 1) ∧ s.keeps t [.pair, .regs, .net]
    let result (t : State) (op code : Nat) : Prop := t.getF F.PAIR_RESULT_DONE = 1 ∧
      t.getF F.PAIR_RESULT_LAST_OP = op ∧ t.getF F.PAIR_RESULT_CODE = code
    (∀ port station (m : Bytes), port < 2 →
      let qst := m.beAt 2 2
      let b := hbSwap (m.slice 8 56)
      (m.u8 0 = 1 → s.paired = true → station = p.stationAddr → s.roleIs .active = false →
        s.roleIs .isolated = false → s.pair.round = none → hbRole b < 8 → hbState b < 8 → hbFlags b < 16 →
        ∃ t, exec (.pairMessage port station m) s = .next t ∧ t.getF F.PAIR_PARTNER_ROLE = hbRole b ∧
          t.getF F.PAIR_PARTNER_STATE = hbState b ∧ t.getF F.PAIR_PARTNER_FLAGS = hbFlags b ∧
          t.getF F.PAIR_PARTNER_AGE = 0 ∧ t.pair.body = some b ∧
          t.pair.plantA = (if port = 0 then 0 else s.pair.plantA) ∧
          t.pair.plantB = (if port = 1 then 0 else s.pair.plantB) ∧
          s.regsBut t [F.PAIR_PARTNER_ROLE.addr] ∧ s.keeps t [.regs, .pair, .net]) ∧
      (m.u8 0 = 2 → s.mayWitness = true → (∀ v ∈ s.pair.served, v.station ≠ qst ∨ v.qpos ≠ m.u8 4) →
        ∃ t, exec (.pairMessage port station m) s = .next t ∧
          t.pair = { s.pair with
            served := s.pair.served ++ [⟨qst, m.u8 4, m.beAt 6 2, 2 ^ port, station, false, s.elapsedNs⟩] } ∧
          t.waitingOf port = (s.sendPair port qst (pairMsg 3 s.msgPos qst (m.u8 4) 0 (m.beAt 6 2) [])).waitingOf port ∧
          s.keeps t [.regs, .pair, .net]) ∧
      (∀ v ∈ s.pair.served, m.u8 0 = 2 → s.mayWitness = true → v.station = qst → v.qpos = m.u8 4 →
        s.elapsedNs < v.at_ + 4000000 →
        (v.qseq = m.beAt 6 2 → ∃ t, exec (.pairMessage port station m) s = .next t ∧
          t.pair.served.length = s.pair.served.length ∧
          t.waitingOf port = (s.sendPair port qst (pairMsg 3 s.msgPos qst (m.u8 4) 0 (m.beAt 6 2) [])).waitingOf port ∧
          s.keeps t [.regs, .pair, .net]) ∧
        ((∀ w ∈ s.pair.served, w.station = qst → w.qpos = m.u8 4 → w.qseq ≠ m.beAt 6 2) →
          ∃ t, exec (.pairMessage port station m) s = .next t ∧ (∀ q, t.waitingOf q = s.waitingOf q) ∧ s.keeps t [.net])) ∧
      (m.u8 0 = 3 → s.roleIs .active = true → qst = p.stationAddr →
        ∃ t, exec (.pairMessage port station m) s = .next t ∧
          t.waitingOf port =
            (s.sendPair port station (pairMsg 4 s.msgPos qst (m.u8 4) 1 (m.beAt 6 2) [])).waitingOf port ∧
          s.keeps t [.regs, .net]) ∧
      (∀ v, m.u8 0 = 4 → s.servedRound qst (m.u8 4) (m.beAt 6 2) = some v → m.u8 5 = 1 → m.u8 1 ≠ m.u8 4 →
        ∃ t, exec (.pairMessage port station m) s = .next t ∧
          t.pair = { s.pair with
            served := s.pair.served.map (fun w => if w = v then { w with answered := true } else w) } ∧
          (∀ k, k < 2 → t.waitingOf k = (s.sendOn v.ports v.querier
            (pairMsg 5 s.msgPos v.station v.qpos 0 v.qseq [])).waitingOf k) ∧ s.keeps t [.regs, .pair, .net]) ∧
      (∀ r k w, m.u8 0 = 5 → s.paired = true → qst = p.stationAddr → m.u8 4 = s.position → s.pair.round = some r →
        r.qseq.toNat = m.beAt 6 2 → p.witnesses.find? (fun x => x.2 == station) = some (k, w) →
        Store.find? r.replies k = none → bitOf (s.getF F.PAIR_WITNESS_REPLIED) k = false →
        bitOf (s.getF F.PAIR_WITNESS_SILENT) k = false → ∃ t, exec (.pairMessage port station m) s = .next t ∧
          t.pair = { s.pair with round := some { r with replies := Store.insert r.replies k (m.u8 5) } } ∧
          t.getF F.PAIR_WITNESS_REPLIED = s.getF F.PAIR_WITNESS_REPLIED + 2 ^ k ∧
          t.getF F.PAIR_WITNESS_SILENT = s.getF F.PAIR_WITNESS_SILENT + (if m.u8 5 = 1 then 2 ^ k else 0) ∧
          s.regsBut t [F.PAIR_WITNESS_REPLIED.addr] ∧ s.keeps t [.regs, .pair, .net])) ∧
    (∀ v, s.servedRound v.station v.qpos v.qseq = some v →
      ∃ t, exec (.witnessProbeTimeout v.station v.qpos v.qseq) s = .next t ∧
        t.pair = { s.pair with
          served := s.pair.served.map (fun w => if w = v then { w with answered := true } else w) } ∧
        (∀ k, k < 2 → t.waitingOf k = (s.sendOn v.ports v.querier
          (pairMsg 5 s.msgPos v.station v.qpos 1 v.qseq [])).waitingOf k) ∧ s.keeps t [.regs, .pair, .net]) ∧
    (∀ r, s.pair.round = some r → ∃ t, exec .witWaitExpiry s = .next t ∧
      t.pair = { s.pair with round := some { r with expired := true } } ∧ s.keeps t [.pair]) ∧
    (s.roleIs .isolated = true → s.everyPathSilent = true → s.pair.round = none →
      (p.witnesses ≠ [] → s.pair.dunhelAge ≤ 64 → ∃ t, exec .isolatedRound s = .next t ∧ round t) ∧
      (p.witnesses = [] ∨ 64 < s.pair.dunhelAge → ∃ t, exec .isolatedRound s = .next t ∧
        s.regsBut t [F.PAIR_WITNESS_ROUND.addr] ∧ s.keeps t [.regs])) ∧
    (∀ req, s.served req F.PAIR_CMD_OP.addr →
      (s.roleIs .isolated = true → s.pair.round = none →
        (∃ t, exec (.claim req) s = .next t ∧ t.pair = { s.pair with takeover := some 4 } ∧ result t 1 0 ∧
          s.raised t 0x200B 0x8000 [payloadNo 0x200B 1] ∧ s.keeps t [.pair, .regs, .evr]) ∧
        (p.witnesses ≠ [] → s.pair.dunhelAge ≤ 64 → ∃ t, exec (.witness req) s = .next t ∧ round t ∧ result t 3 0)) ∧
      (s.roleIs .isolated = false →
        (∃ t, exec (.claim req) s = .next t ∧ result t 1 1 ∧ s.regsBut t [F.PAIR_RESULT_DONE.addr] ∧
          s.keeps t [.regs]) ∧
        ∃ t, exec (.witness req) s = .next t ∧ result t 3 1 ∧ s.regsBut t [F.PAIR_RESULT_DONE.addr] ∧
          s.keeps t [.regs]) ∧
      let code := if s.roleIs .active = false then 1 else if s.pair.release ≠ .none then 2
        else if s.getF F.PAIR_STATUS_PARTNER_READY = 0 then 3 else 0
      ∃ t, exec (.release req) s = .next t ∧ result t 2 code ∧
        t.pair = { s.pair with release := if code = 0 then .waitMark else s.pair.release } ∧
        s.regsBut t [F.PAIR_RESULT_DONE.addr] ∧ s.keeps t [.pair, .regs])

/-! ### Recorder -/

/-- R353, R355 to R358, R362: a raise is staged with its suppressed count, suppressed without a token, or lost when 64
are staged, and one that R15 excludes never arises; a committed record stands in its slot with its CRC and valid mark,
and EVR_NEXT rises; time marks by command and by the minute. That TIME_MARK_PERIODIC before its minute changes nothing
is the model's choice (log 55). -/
def Obligations.EventRecorder : Prop :=
  ∀ s : State,
    let flags := 2 * s.getF F.PTP_STATUS_TIME_INITIAL + 4 * s.getF F.PTP_STATUS_LOCKED +
      8 * s.getF F.PTP_STATUS_USABLE
    let words (cause : Nat) := [s.nowNs % 2 ^ 32, s.nowNs / 2 ^ 32 % 2 ^ 32, s.clock.now.toNat % 2 ^ 32,
      s.clock.stitch.toNat % 2 ^ 32, s.clock.stitch.toNat / 2 ^ 32 % 2 ^ 32, flags + 256 * cause, 0, 0]
    let mark (t : State) (cause : Nat) : Prop :=
      t.evr = { (s.raise 0x0010 0x7100 (words cause)).evr with sinceMark := 0 } ∧ s.keeps t [.regs, .evr]
    (∀ (code source : BitVec 16) (payload : List (BitVec 32)),
      let n := code.toNat
      (raisable n source.toNat = false → exec (.eventRaise code source payload) s = .next s) ∧
      (s.reachable = true → raisable n source.toNat = true →
      (s.evr.staged.length < 64 → s.missingOf n < (s.bucket n).1 →
        ∃ t, exec (.eventRaise code source payload) s = .next t ∧
          t.evr.staged = s.evr.staged ++ [⟨code, source, classOf n, payload, s.suppressedOf n, false⟩] ∧
          t.missingOf n = s.missingOf n + 1 ∧ t.suppressedOf n = 0 ∧
          (∀ k, k ≠ n → t.missingOf k = s.missingOf k ∧ t.suppressedOf k = s.suppressedOf k) ∧
          t.getF F.EVR_STATUS_STAGED = s.evr.staged.length + 1 ∧ s.regsBut t [F.EVR_STATUS_STAGED.addr] ∧
          s.keeps t [.regs, .evr]) ∧
      (s.evr.staged.length < 64 → (s.bucket n).1 ≤ s.missingOf n →
        ∃ t, exec (.eventRaise code source payload) s = .next t ∧ t.evr.staged = s.evr.staged ∧
          t.suppressedOf n = Nat.min 0xFFFF (s.suppressedOf n + 1) ∧
          (∀ k, k ≠ n → t.suppressedOf k = s.suppressedOf k) ∧ s.keeps t [.evr]) ∧
      (64 ≤ s.evr.staged.length → ∃ t, exec (.eventRaise code source payload) s = .next t ∧
        t.evr = { s.evr with lostFlag := true } ∧
        t.getF F.EVR_STATUS_LOST = Nat.min 0xFFFF (s.getF F.EVR_STATUS_LOST + 1) ∧
        s.regsBut t [F.EVR_STATUS_LOST.addr] ∧ s.keeps t [.regs, .evr]))) ∧
    (∀ e rest, s.reachable = true → s.evr.staged = e :: rest → rest.length < 256 → s.getF F.EVR_STATUS_SCANNED = 1 →
      s.pat.active.bind (fun p => p.recItem e.code.toNat) = none → s.nextSeq + 1 < 2 ^ 64 →
      let seq := s.nextSeq
      let a0 := 0x10000000 + 256 * (seq % 32768)
      let body := recordBody seq e (s.recordedPayload e) [] (s.recordFlags e [])
      ∃ t, exec .recordCommit s = .next t ∧ t.evr.staged = rest ∧ t.evr.lostFlag = false ∧
        t.getF F.EVR_STATUS_STAGED = rest.length ∧ t.nextSeq = seq + 1 ∧
        t.rdBytes a0 248 = body ∧ t.rdLe (a0 + 248) 4 = (crc32c body).toNat ∧
        t.rdLe (a0 + 252) 4 = 2 * (seq % 2 ^ 31) + 1 ∧
        (∀ a, a < a0 ∨ a0 + 256 ≤ a → a < Mem.floorWord ∨ Mem.floorWord + 8 ≤ a → t.rdByte a = s.rdByte a) ∧
        t.rdLe Mem.floorWord 8 = (if (seq + 1) % 1024 = 0 then seq + 1 else s.rdLe Mem.floorWord 8) ∧
        s.keeps t [.regs, .mem, .evr]) ∧
    (∀ req, s.served req F.EVR_CMD_OP.addr → ∃ t, exec (.timeMark req) s = .next t ∧ mark t 6) ∧
    (60000000000 / s.clock.period ≤ s.evr.sinceMark → s.clock.period ≠ 0 →
      ∃ t, exec .timeMarkPeriodic s = .next t ∧ mark t 1) ∧
    (s.evr.sinceMark < 60000000000 / s.clock.period → exec .timeMarkPeriodic s = .next s)

/-! ### Door panel -/

/-- R379 and Table 15.13: a refresh takes the whole screen into the pending request, by command and by REFRESH_S;
rendering reads the alarms (R102) and requests the rectangle in which the new screen differs; DISABLE and ENABLE with
their codes. The image of a screen is free (log 40), and the counts of faults beyond 0 (log 53); that ENABLE makes a
recovery due is DEDUCED (log 127), that a command whose condition does not hold changes nothing the model's choice
(log 55). -/
def Obligations.PanelRequests : Prop :=
  ∀ s : State,
    let result (t : State) (op code : Nat) : Prop := t.getF F.PNL_RESULT_LAST_OP = op ∧ t.getF F.PNL_RESULT_CODE = code
    let asks (t : State) (j : PanelJob) (target : Option (List Nat)) : Prop :=
      t.pnl = { s.pnl with
        target := target
        request := some (match s.pnl.request with
          | none => j
          | some r => r.union j) } ∧
      t.getF F.PNL_STATUS_PENDING = (if s.pnl.run = none then 0 else 1)
    let whole := s.wholeScreen .refresh
    let joined (j : PanelJob) : PanelJob := match s.pnl.request with
      | none => j
      | some r => r.union j
    let bare (x : Panel) : Panel := if x.rails = [] then x else
      { x with rails := [], vcom := 0, scan := List.replicate (asH s.assets) ⟨List.replicate (asW s.assets) 0#2, 0⟩ }
    (∀ req, s.served req F.PNL_CMD_OP.addr →
      (s.panelWorks = true → ∃ t, exec (.refresh req) s = .next t ∧ asks t whole s.pnl.target ∧ result t 1 0 ∧
        t.getF F.PNL_RESULT_DONE = 1 ∧ s.keeps t [.regs, .pnl]) ∧
      (s.panelWorks = false → ∃ t, exec (.refresh req) s = .next t ∧
        result t 1 (if s.hasPanel = false then 3 else if s.assetsOk = false then 2 else 1) ∧
        s.regsBut t [F.PNL_RESULT_DONE.addr] ∧ s.keeps t [.regs]) ∧
      (s.hasPanel = true → s.pnlState ≠ 0 → s.pnl.run = none → ∃ t, exec (.pnlDisable req) s = .next t ∧
        t.pnl = { bare s.pnl with request := none, recovery := none, retry := false, disable := false } ∧
        t.pnlState = 7 ∧ result t 2 0 ∧ t.getF F.PNL_RESULT_DONE = 1 ∧ s.keeps t [.regs, .pnl]) ∧
      (s.hasPanel = true → s.pnlState ≠ 0 → s.pnl.run ≠ none → ∃ t, exec (.pnlDisable req) s = .next t ∧
        t.pnl = { (if s.pnl.finished then bare s.pnl else s.pnl) with disable := true } ∧ result t 2 0 ∧
        t.getF F.PNL_RESULT_DONE = 0 ∧ t.pnlState = (if s.pnl.finished then 4 else s.pnlState) ∧
        s.keeps t [.regs, .pnl]) ∧
      (s.hasPanel = true → s.pnlState = 6 ∨ s.pnlState = 7 → s.assetsOk = true →
        let due := if s.panelEmpty = false ∧ s.panelWord % 4 ≠ 0 then some s.journalJob else none
        ∃ t, exec (.pnlEnable req) s = .next t ∧
          t.pnl = { s.pnl with
            faultAt := none, renew := false, recovery := due,
            request := if s.pnl.renew then some (joined whole) else s.pnl.request } ∧
          t.pnlState = 1 ∧ result t 3 0 ∧ s.keeps t [.regs, .pnl]) ∧
      (s.hasPanel = false ∨ s.assetsOk = false ∨ (s.pnlState ≠ 6 ∧ s.pnlState ≠ 7) →
        ∃ t, exec (.pnlEnable req) s = .next t ∧
          result t 3 (if s.hasPanel = false then 3 else if s.pnlState = 6 ∨ s.pnlState = 7 then 2 else 1) ∧
          s.regsBut t [F.PNL_RESULT_DONE.addr] ∧ s.keeps t [.regs])) ∧
    (∀ p, s.pat.active = some p → s.panelWorks = true → s.layoutOk p = true → p.panelItem.u32 8 ≠ 0 →
      ∃ t, exec .refreshInterval s = .next t ∧ asks t whole s.pnl.target ∧ s.keeps t [.regs, .pnl]) ∧
    (s.panelWorks = false → exec .refreshInterval s = .next s ∧ exec .panelRender s = .next s) ∧
    (s.panelWorks = true →
      let v := match s.pat.active with
        | some p => if s.operating || s.station == StationState.stop then s.alarmReads p else s
        | none => s
      let n := v.faultCounts.1
      let c := v.screen [n.1, n.2]
      (v.differing v.targetImage (v.renderImage c) = none → ∃ t, exec .panelRender s = .next t ∧
        t.freeCount = v.freeCount + 2 ∧ v.keeps t [.free]) ∧
      (∀ j, v.differing v.targetImage (v.renderImage c) = some j → ∃ t, exec .panelRender s = .next t ∧
        t.pnl = { v.pnl with
          target := some c
          request := some (match v.pnl.request with
            | none => j
            | some r => r.union j) } ∧
        t.getF F.PNL_STATUS_PENDING = (if v.pnl.run = none then 0 else 1) ∧ v.keeps t [.regs, .pnl, .free]))

/-- R369, R374 to R376, R380 to R383: an update starts with its journal word and the temperature of its waveforms,
scans its frames, swaps the buffers when it is committed; a rail fault discharges, marks the journal and leads to a
retry, a second one within 60 s fails the panel. When DISCHARGING ends is the model's choice (log 126), and that a
command whose condition does not hold changes nothing (log 55). -/
def Obligations.PanelUpdates : Prop :=
  ∀ (s : State) (j : PanelJob),
    let word (t : State) (k disp : Nat) : Prop := panelWordOf k disp j < 2 ^ 64 → t.panelWord = panelWordOf k disp j
    let rec_ := j.kind = .recovery
    let bare (x : Panel) : Panel := if x.rails = [] then x else
      { x with rails := [], vcom := 0, scan := List.replicate (asH s.assets) ⟨List.replicate (asW s.assets) 0#2, 0⟩ }
    (∀ ntc : Int, s.panelMayStart = false → exec (.panelUpdateStart ntc) s = .next s) ∧
    (∀ ntc : Int, s.panelMayStart = true → s.pnl.recovery = some j ∨ (s.pnl.recovery = none ∧ s.pnl.request = some j) →
      s.pnl.rails = [] → s.pnl.slot ≠ s.upd.assetsSlot → ¬rec_ → ∃ t, exec (.panelUpdateStart ntc) s = .next t ∧
        t.pnl.slot = s.upd.assetsSlot ∧
        (t.assetsOk = true → t.pnl.run.map (·.kind) = some .refresh ∧ t.pnlState = 2 ∧
          t.pnl.rails = [.vgl, .vneg, .vgh, .vpos, .vcom]) ∧
        (t.assetsOk = false → t.pnl.run = none ∧ t.pnl.request = none ∧ t.pnlState = 7)) ∧
    (∀ ntc : Int, s.panelMayStart = true → s.pnl.recovery = some j ∨ (s.pnl.recovery = none ∧ s.pnl.request = some j) →
      s.pnl.rails ≠ [] ∨ s.pnl.slot = s.upd.assetsSlot ∨ rec_ →
      let failed := ntc < -160 ∨ 400 < ntc
      let ts := if failed then 4 * asFallback s.assets else ntc
      let new := if rec_ then s.rdBytes (Mem.panelBuffer s.panelDisp) s.imageLen else s.targetImage
      let within (a base : Nat) : Prop := base ≤ a ∧ a < base + s.imageLen
      ∃ t, exec (.panelUpdateStart ntc) s = .next t ∧
        t.pnl.run = some j ∧ t.pnl.request = (if rec_ then s.pnl.request else none) ∧ t.pnl.recovery = none ∧
        t.pnl.rails = (if s.pnl.rails = [] then [.vgl, .vneg, .vgh, .vpos, .vcom] else s.pnl.rails) ∧
        t.pnl.finished = false ∧
        t.pnl.ranges = (List.range 64).map (fun r => (rangeOf s.assets (ts + asOffset s.assets r)).1) ∧
        t.pnl.vcom = (if s.pnl.rails = [] then s.vcomMv s.assets else s.pnl.vcom) ∧
        t.pnlState = (if s.pnl.rails = [] then 2 else if rec_ then 5 else 3) ∧ t.getF F.PNL_STATUS_FRAME = 0 ∧
        t.getF F.PNL_STATUS_SENSOR_FAULT = (if failed then 1 else 0) ∧ t.getF F.PNL_TEMP_TS = unsgn 16 ts ∧
        (failed → s.raised t 0x00A5 0x9000 [unsgn 32 ntc]) ∧ (¬failed → t.evr = s.evr) ∧
        word t 1 s.panelDisp ∧
        (∀ a, a < 0x07000000 ∨ 0x07000000 + s.imageLen ≤ a →
          (¬rec_ → ¬within a (Mem.panelBuffer (1 - s.panelDisp))) →
          a < Mem.panelJournal ∨ Mem.panelJournal + 8 ≤ a → t.rdByte a = s.rdByte a) ∧
        (s.imageLen ≤ 960000 → t.rdBytes 0x07000000 s.imageLen = new) ∧
        s.keeps t [.regs, .mem, .pnl, .evr, .ecc]) ∧
    (s.pnl.run = some j → s.pnl.finished = false → s.pnl.blocked = false →
      let f := s.getF F.PNL_STATUS_FRAME
      let scan := scanRows (asW s.assets) (s.frameCodes j f)
      let state := if s.pnlState = 2 then (if rec_ then 5 else 3) else s.pnlState
      (f + 1 < s.getF F.PNL_STATUS_LU → ∃ t, exec .panelFrame s = .next t ∧ t.pnl = { s.pnl with scan := scan } ∧
        t.getF F.PNL_STATUS_FRAME = f + 1 ∧ t.pnlState = state ∧ s.regsBut t [F.PNL_STATUS_FRAME.addr] ∧ s.keeps t [.regs, .pnl]) ∧
      (s.getF F.PNL_STATUS_LU ≤ f + 1 → s.pnl.request ≠ none → s.pnl.disable = false →
        ∃ t, exec .panelFrame s = .next t ∧ t.pnl = { s.pnl with scan := scan, finished := true } ∧ t.pnlState = state ∧
          s.regsBut t [F.PNL_STATUS_FRAME.addr] ∧ s.keeps t [.regs, .pnl]) ∧
      (s.getF F.PNL_STATUS_LU ≤ f + 1 → s.pnl.request = none ∨ s.pnl.disable = true → ∃ t, exec .panelFrame s = .next t ∧
        t.pnl = bare { s.pnl with scan := scan, finished := true } ∧ t.pnlState = 4 ∧
        s.regsBut t [F.PNL_STATUS_FRAME.addr] ∧ s.keeps t [.regs, .pnl])) ∧
    (s.pnl.run = some j → s.pnl.finished = false → s.pnl.blocked = true → ∃ t, exec .panelFrame s = .next t ∧
      t.pnl.run = none ∧ t.pnl.rails = [] ∧ t.pnlState = 4 ∧ t.pnl.dischargeAt = some s.elapsedNs ∧
      t.getF F.PNL_COUNT_INTERRUPTED = Nat.min 255 (s.getF F.PNL_COUNT_INTERRUPTED + 1) ∧
      s.raised t 0x00A0 0x9000 [s.getF F.PNL_STATUS_FRAME, s.getF F.PNL_STATUS_LU] ∧ s.keeps t [.regs, .pnl, .evr]) ∧
    (s.pnl.run = some j → s.pnl.finished = true → s.pnl.disable = true → ∃ t, exec .panelUpdateCommit s = .next t ∧
      word t 0 (if rec_ then s.panelDisp else 1 - s.panelDisp) ∧ t.pnl.run = none ∧ t.pnl.request = none ∧
      t.pnl.recovery = none ∧ t.pnl.rails = [] ∧ t.pnlState = 7 ∧ t.getF F.PNL_RESULT_DONE = 1 ∧
      t.getF F.PNL_RESULT_LAST_OP = 2 ∧ t.getF F.PNL_RESULT_CODE = 0) ∧
    (s.pnl.run = some j → s.pnl.finished = true → s.pnl.disable = false →
      let state := if s.pnlState = 4 then 1 else s.pnlState
      (¬rec_ → ∃ t, exec .panelUpdateCommit s = .next t ∧ word t 0 (1 - s.panelDisp) ∧
        t.getF F.PNL_COUNT_DONE = Nat.min 65535 (s.getF F.PNL_COUNT_DONE + 1) ∧
        t.pnl = { s.pnl with run := none, finished := false } ∧ t.pnlState = state ∧ s.keeps t [.regs, .mem, .pnl]) ∧
      (rec_ → ∃ t, exec .panelUpdateCommit s = .next t ∧ word t 0 s.panelDisp ∧
        t.getF F.PNL_COUNT_RECOVERED = Nat.min 255 (s.getF F.PNL_COUNT_RECOVERED + 1) ∧
        t.pnl = { s.pnl with run := none, finished := false } ∧ t.pnlState = state ∧
        s.raised t 0x00A1 0x9000 [j.y1 + 1 - j.y0] ∧ s.keeps t [.regs, .mem, .pnl, .evr])) ∧
    (∀ rail, rail < 5 → s.pnl.run = some j → s.pnl.rails = [] → exec (.pnlRailFault rail) s = .next s) ∧
    (∀ rail, rail < 5 → s.pnl.run = some j → s.pnl.rails ≠ [] → s.pnl.disable = true →
      ∃ t, exec (.pnlRailFault rail) s = .next t ∧ word t 2 s.panelDisp ∧ t.pnl.run = none ∧ t.pnl.request = none ∧
        t.pnl.retry = false ∧ t.pnl.rails = [] ∧ t.pnlState = 7 ∧ t.getF F.PNL_STATUS_RAIL_FAULT = 1) ∧
    (∀ rail, rail < 5 → s.pnl.run = some j → s.pnl.rails ≠ [] → s.pnl.disable = false →
      let kept := s.pnl.request.filter (fun r => r.kind == .refresh)
      let faulted (t : State) (retry : Bool) : Prop := word t 2 s.panelDisp ∧
        t.pnl = { bare s.pnl with
          run := none, finished := false, request := if retry then kept else none,
          target := if retry && kept.isSome then s.pnl.target else none,
          dischargeAt := some s.elapsedNs, faultAt := some s.elapsedNs, retry := retry } ∧
        t.getF F.PNL_STATUS_RAIL_FAULT = 1 ∧
        t.getF F.PNL_COUNT_INTERRUPTED = Nat.min 255 (s.getF F.PNL_COUNT_INTERRUPTED + 1) ∧
        s.keeps t [.regs, .mem, .pnl, .evr]
      (s.pnl.faultAt = none → ∃ t, exec (.pnlRailFault rail) s = .next t ∧ faulted t true ∧ t.pnlState = 4 ∧
        s.raised t 0x00A3 0x9000 [rail]) ∧
      (∀ t0, s.pnl.faultAt = some t0 → t0 + 60000000000 < s.elapsedNs → ∃ t, exec (.pnlRailFault rail) s = .next t ∧
        faulted t true ∧ t.pnlState = 4 ∧ s.raised t 0x00A3 0x9000 [rail]) ∧
      (∀ t0, s.pnl.faultAt = some t0 → s.elapsedNs ≤ t0 + 60000000000 → ∃ t, exec (.pnlRailFault rail) s = .next t ∧
        faulted t false ∧ t.pnlState = 6 ∧
        t.evr = ((s.raise 0x00A3 0x9000 [rail]).raise 0x00A4 0x9000 [rail]).evr)) ∧
    (s.pnl.retry = true → ∃ t, exec .railFaultRetry s = .next t ∧
      t.pnl = { s.pnl with retry := false, recovery := some s.journalJob } ∧ s.keeps t [.regs, .pnl]) ∧
    (s.pnl.retry = false → exec .railFaultRetry s = .next s)

/-! ### Power and watch mode -/

/-- R387 to R389, R392, R393, R395 to R397: core votes, domains that report ON and domains that fail; WATCH with the
codes of its refusals, CANCEL, the end of the preparation, and the entry with and without a wake flag at its first
abort point. Moments of the preparation and the entry are DEDUCED (log 100). -/
def Obligations.PowerAndWatchEntry : Prop :=
  ∀ s : State,
    let result (t : State) (op code : Nat) : Prop := t.getF F.PWR_RESULT_LAST_OP = op ∧ t.getF F.PWR_RESULT_CODE = code
    let strap := s.getF F.RST_STRAPS_CFG_WATCH = 1
    let mayWatch := s.station = .stop ∨ s.operating = true
    let busy := s.updateTransfer = true ∨ s.phase ≠ 0
    (∀ req core v, core < 8 → s.served req (F.PWR_VOTE_C_CLO core).addr →
      ((∀ c, req = .application c → c = core) →
        ∃ t, exec (.pwrVoteWrite req core v) s = .next t ∧ t.getR (F.PWR_VOTE_C_CLO core).addr = v &&& 0xAC00#32 ∧
          s.regsBut t [(F.PWR_VOTE_C_CLO core).addr] ∧ s.keeps t [.regs]) ∧
      (∀ c, req = .application c → c ≠ core →
        Claims.Refused (.pwrVoteWrite req core v) s F.GLB_ACCERR_REFUSED_RO (Requester.source req))) ∧
    (∀ d, d < 18 → d ∈ s.pwr.rising → ∃ t, exec (.domainReportsOn d) s = .next t ∧
      bitOf (t.getF F.PWR_DOMAINS_ON) d = true ∧
      (∀ k, k < 19 → k ≠ d → bitOf (t.getF F.PWR_DOMAINS_ON) k = bitOf (s.getF F.PWR_DOMAINS_ON) k) ∧
      t.pwr = { s.pwr with rising := s.pwr.rising.filter (· != d) } ∧ s.regsBut t [F.PWR_DOMAINS_ON.addr] ∧
      s.keeps t [.regs, .pwr, .mem, .ecc, .fio]) ∧
    (∀ d, d < 18 → d ∈ s.pwr.rising → s.domainOn d = true → ∃ t, exec (.pwrDomainFault d false) s = .next t ∧
      t.domainOn d = false ∧ t.pwr.rising = s.pwr.rising.filter (· != d) ∧ d ∈ t.pwr.failed) ∧
    (∀ d, d < 18 → d ∈ s.pwr.rising → s.domainOn d = false → ∃ t, exec (.pwrDomainFault d false) s = .next t ∧
      t.pwr = { s.pwr with
        rising := s.pwr.rising.filter (· != d), failed := s.pwr.failed.filter (· != d) ++ [d] } ∧
      s.raised t 0x00B6 0xA000 [d, 0] ∧ s.keeps t [.regs, .pwr, .evr]) ∧
    (∀ d, d < 18 → s.domainOn d = false → bitOf (s.getF F.PWR_VOTES_HELD) d = false →
      ∃ t, exec (.pwrDomainFault d true) s = .next t ∧ s.raised t 0x00B6 0xA000 [d, 1] ∧
        s.keeps t [.regs, .pwr, .evr]) ∧
    (∀ req, s.served req F.PWR_CMD_OP.addr →
      (strap → s.patIs (fun p => p.watchEn) = true → mayWatch → ¬busy → ∃ t, exec (.watch req) s = .next t ∧
        result t 1 0 ∧ t.getF F.PWR_RESULT_DONE = 0 ∧ t.getF F.PWR_STATUS_PHASE = 1 ∧
        t.pwr = { s.pwr with wake := 0, retried := false, refFailed := false } ∧
        t.pnl = { s.pnl with watchAt := none } ∧ (∀ c, c < 8 → t.getR (F.PWR_VOTE_C_CLO c).addr = 0) ∧
        s.raised t 0x00B0 0xA000 [Requester.source req] ∧ s.keeps t [.regs, .pwr, .pnl, .evr]) ∧
      (¬strap ∨ s.patIs (fun p => p.watchEn) = false ∨ ¬mayWatch ∨ busy → ∃ t, exec (.watch req) s = .next t ∧
        (¬strap → result t 1 3) ∧ (strap → s.patIs (fun p => p.watchEn) = false → result t 1 4) ∧
        (strap → s.patIs (fun p => p.watchEn) = true → ¬mayWatch → result t 1 1) ∧
        (strap → s.patIs (fun p => p.watchEn) = true → mayWatch → result t 1 2) ∧
        s.regsBut t [F.PWR_RESULT_DONE.addr] ∧ s.keeps t [.regs]) ∧
      (1 ≤ s.phase → s.phase ≤ 5 → ∃ t, exec (.watchCancel req) s = .next t ∧ result t 2 0 ∧
        t.pwr = { s.pwr with wake := s.pwr.wake ||| 32 } ∧ s.keeps t [.regs, .pwr]) ∧
      (s.phase = 0 ∨ 5 < s.phase → ∃ t, exec (.watchCancel req) s = .next t ∧ result t 2 6 ∧
        s.regsBut t [F.PWR_RESULT_DONE.addr] ∧ s.keeps t [.regs])) ∧
    (∀ wake : BitVec 6, s.phase = 1 →
      let flags := { s.pwr with wake := s.pwr.wake ||| (wake.toNat &&& s.entrySources) }
      (s.operating = true → s.pnl.watchAt = none → ∃ t, exec (.watchPreparation wake) s = .next t ∧ t.pwr = flags ∧
        t.phase = 1 ∧ t.station = s.station ∧ s.keeps t [.regs, .pwr]) ∧
      (s.station = .stop → s.pnl.watchAt = none → ∃ t, exec (.watchPreparation wake) s = .next t ∧ t.pwr = flags ∧
        t.pnl.watchAt = some s.nowNs ∧ (∀ k, k < 4 → t.getF (F.PTP_TRIG_CTRL_ARMED k) = 0) ∧
        (s.hasPanel = false → t.phase = 2)) ∧
      (∀ t0, mayWatch → s.pnl.watchAt = some t0 → s.evr.staged = [] → s.screenDone t0 = true →
        ∃ t, exec (.watchPreparation wake) s = .next t ∧ t.pwr = flags ∧ t.phase = 2 ∧
          t.getF F.PWR_VOTES_HELD = 0 ∧ (∀ c, c < 8 → t.getR (F.PWR_VOTE_C_CLO c).addr = 0) ∧
          s.keeps t [.regs, .pwr]) ∧
      (∀ t0, mayWatch → s.pnl.watchAt = some t0 → s.screenDone t0 = false →
        ∃ t, exec (.watchPreparation wake) s = .next t ∧ t.pwr = flags ∧ t.phase = 1 ∧ s.keeps t [.regs, .pwr]) ∧
      (¬mayWatch → ∃ t, exec (.watchPreparation wake) s = .next t ∧ t.phase = 0 ∧ result t 1 1 ∧
        s.keeps t [.regs, .pnl])) ∧
    (s.phase = 2 → s.station = .stop →
      (s.pwr.wake = 0 → ∃ t, exec (.watchEntry [] none) s = .next t ∧ t.station = .watch ∧ t.phase = 0 ∧
        t.getF F.PWR_STATUS_REG_LP = 1 ∧ t.pwr.ticks = 0 ∧ t.pwr.windows = 0 ∧
        (∀ d, d < 18 → t.domainOn d = false) ∧ (∀ g, g < 6 → t.discClosed g = false) ∧
        t.pat = s.pat ∧ t.clock = s.clock) ∧
      (∀ p f rest, s.pat.active = some p → p.wakeStart = 0 → s.pwr.wake ||| (f.toNat &&& s.entrySources) ≠ 0 →
        ∃ t, exec (.watchEntry (f :: rest) none) s = .next t ∧ t.station = .stop ∧ t.phase = 0 ∧ result t 1 5 ∧
          t.getF F.PWR_RESULT_ABORT_POINT = 1 ∧ t.pwr.wake = 0 ∧ t.pat = s.pat ∧ t.clock = s.clock))

/-- R440: the command resets the module: it is held in reset with one cause, MRAM and flash keep their contents, all
other memory reads 0, the cores are idle and only the domain AON is on. -/
def Claims.ResetBy (i : Instr) (s : State) (bit : Nat) : Prop :=
  ∃ t, exec i s = .next t ∧ t.station = .boot ∧ t.rst.held = true ∧ t.rst.causes = bit ∧ t.pending = s.pending ∧
    (∀ a, t.rdByte a = if a < 0x10000000 then 0 else s.rdByte a) ∧ t.upd = s.upd ∧ (∀ c, t.core c = Core.idle) ∧
    t.getF F.PWR_DOMAINS_ON = 0x40000 ∧ t.pat.active = none

/-- R398 to R405: a sampler window below and above the field supply limit, the wake sources, the retry of the
regulator and the resets of a failed wake, a lost reference, the wake itself with its ledger, and the time set after
it, with the ledger added to the WALL_CLOCK timers (R134). When a window ends and its free bits are DEDUCED (log 100),
as is that WAKE_TIME_SET waits behind a pending step (log 124); that it changes nothing unless it is due is the
model's choice (log 55). -/
def Obligations.WatchAndWake : Prop :=
  ∀ s : State,
    let wakes (t : State) (bits : Nat) : Prop := t.pwr.wake = s.pwr.wake ||| bits
    (∀ p, s.station = .watch → s.pat.active = some p →
      (∀ inputs fsa, s.pwr.wake = 0 →
        let k := s.pwr.windows + 1
        let v := watchBits (Config.freeNat s.freeCount) inputs
        let differs := (v ^^^ p.sampleExpect) &&& p.sampleMask ≠ 0
        let n := s.getF F.PWR_SAMPLER_COUNT + 1
        let timed (t : State) (wake : Nat) : Prop := t.pwr = { s.pwr with
          windows := k, ticks := max s.pwr.ticks (k * p.samplePeriod * 8192 + 66), wake := wake }
        (16000 ≤ fsa → ¬differs → ∃ t, exec (.watchSample inputs fsa) s = .next t ∧ timed t 0 ∧
          t.getF F.PWR_SAMPLER_LAST = v ∧ t.getF F.PWR_SAMPLER_COUNT = 0 ∧ t.freeCount = s.freeCount + 1 ∧
          s.regsBut t [F.PWR_SAMPLER_LAST.addr] ∧ s.keeps t [.regs, .pwr, .free]) ∧
        (16000 ≤ fsa → differs → n < 8 → ∃ t, exec (.watchSample inputs fsa) s = .next t ∧
          timed t (if p.sampleConfirm ≤ n then 1 else 0) ∧ t.getF F.PWR_SAMPLER_LAST = v ∧
          t.getF F.PWR_SAMPLER_COUNT = n ∧ t.freeCount = s.freeCount + 1 ∧ s.keeps t [.regs, .pwr, .free]) ∧
        (fsa < 16000 → ∃ t, exec (.watchSample inputs fsa) s = .next t ∧ timed t (if p.wakeFs then 16 else 0) ∧
          t.getF F.PWR_SAMPLER_FS_SKIP = Nat.min 255 (s.getF F.PWR_SAMPLER_FS_SKIP + 1) ∧ s.keeps t [.regs, .pwr])) ∧
      (p.wakePin = true → ∃ t, exec .wakePin s = .next t ∧ wakes t 2 ∧ s.keeps t [.regs, .pwr]) ∧
      (p.alarmS ≠ 0 → ∃ t, exec .wakeAlarm s = .next t ∧ wakes t 4 ∧ p.alarmS * 32768 ≤ t.pwr.ticks ∧
        s.keeps t [.regs, .pwr]) ∧
      (p.wakeFeed = true → ∃ t, exec .wakeFeed s = .next t ∧ wakes t 8 ∧ s.keeps t [.regs, .pwr])) ∧
    (s.station = .watch → Claims.ResetBy .watchBrownout s 4 ∧
      ∃ t, exec .rtcCrystalStopped s = .next t ∧ t.pwr = { s.pwr with onRc := true } ∧ s.keeps t [.pwr]) ∧
    (s.station = .watch → s.pwr.wake ≠ 0 →
      (∃ t, exec .wakeRegRetry s = .next t ∧ t.pwr = { s.pwr with retried := true } ∧ t.phase = 6 ∧
        s.regsBut t [F.PWR_STATUS_PHASE.addr] ∧ s.keeps t [.regs, .pwr]) ∧
      (s.pwr.retried = true → Claims.ResetBy .wakeRegReset s 8) ∧
      (s.pwr.refFailed = false → s.getF F.PTP_STATUS_USABLE = 0 → ∃ t, exec .refclkLost s = .next t ∧
        t.pwr = { s.pwr with refFailed := true } ∧ t.phase = 6 ∧ t.getF F.PWR_STATUS_RC_CLOCK = 1 ∧
        t.getF F.SCH_STATUS_DEGRADED_CLK = 1 ∧ t.saf.refLost = true ∧ s.raised t 0x00B4 0xA000 [] ∧
        s.keeps t [.regs, .pwr, .saf, .ptp, .evr]) ∧
      (∀ extra, s.pwr.wake < 64 →
        let ns := (s.pwr.ticks + extra) * 1000000000 / 32768
        ∃ t, exec (.wake extra) s = .next t ∧ t.station = .stop ∧
          t.getF F.PWR_SLEEP_LEDGER_LO_NS = ns % 2 ^ 32 ∧ t.getF F.PWR_SLEEP_LEDGER_HI_NS = ns / 2 ^ 32 % 2 ^ 32 ∧
          t.getF F.PWR_WAKE_CAUSE = s.pwr.wake ∧ t.getF F.PWR_WAKE_APPROXIMATE = (if s.pwr.onRc then 1 else 0) ∧
          t.getF F.PWR_STATUS_REG_LP = 0 ∧ t.phase = 0 ∧ t.pwr.wake = 0 ∧ t.pwr.timeDue = true ∧ t.pwr.timersDue = true ∧
          s.keeps t [.station, .regs, .evr, .pwr, .pnl, .ecc, .dgt])) ∧
    (∀ m, s.pwr.timeDue = false ∨ s.station ≠ .stop ∨ s.clock.pendingStep ≠ none ∨ s.clock.pendingRebase ≠ none →
      exec (.wakeTimeSet m) s = .next s) ∧
    (∀ m, s.pwr.timeDue = true → s.station = .stop → s.clock.pendingStep = none → s.clock.pendingRebase = none →
      s.startBusy = true → ∃ t, exec (.wakeTimeSet m) s = .next t ∧ t.pwr = { s.pwr with timeDue := false } ∧
        t.clock.pendingRebase = some (m.getD (BitVec.ofNat 64 (s.pwr.frozen + s.ledgerNs))) ∧
        s.keeps t [.pwr, .clock, .regs]) ∧
    (∀ p m, s.pwr.timeDue = true → s.station = .stop → s.clock.pendingStep = none → s.clock.pendingRebase = none →
      s.pat.active = some p → p.wakeStart = 0 → s.startBusy = false → s.pwr.timersDue = true →
      ∃ t, exec (.wakeTimeSet m) s = .next t ∧
        t.pwr = { s.pwr with timeDue := false, timersDue := false, advanceDue := true } ∧
        t.clock = { s.clock with
          pendingRebase := some (match m with
            | some v => v
            | none => BitVec.ofNat 64 (s.pwr.frozen + s.ledgerNs)),
          rebaseKeeps := m.isNone } ∧
        t.getF F.PTP_STATUS_STEP_PENDING = 1 ∧ s.keeps t [.pwr, .clock, .regs, .mem, .ecc, .evr, .saf] ∧
        let wallClock (k : Nat) : Prop := k < p.items Pattern.SYMBOLS ∧ p.symKind k = 7 ∧ bitOf (p.symFlags k) 5 = true ∧
          p.symRegion k ≤ 8
        ((∀ k, ¬wallClock k) → t.mem = s.mem ∧ s.raised t 0x0058 0 [s.ledgerNs % 2 ^ 32, s.ledgerNs / 2 ^ 32 % 2 ^ 32,
          if s.pwr.onRc then 1 else 0]) ∧
        ∀ k0, (∀ k, wallClock k ↔ k = k0) →
          let a := regionBase (p.symRegion k0) + p.symOff k0
          let v := sgn 64 (s.rdLe a 8) + s.ledgerNs
          t.rdLe a 8 = unsgn 64 (if 2 ^ 63 ≤ v then 2 ^ 63 - 1 else v) ∧
            ∀ b, b < a ∨ a + 8 ≤ b → t.rdByte b = s.rdByte b)

/-! ### Updates and security -/

/-- R423 to R431 and Table 17.14: BEGIN, RESUME, FINISH, the whole-image check, ARM, DISARM, ACTIVATE_NOW and CANCEL
of the three regions with their codes, and the blocks with a right and a wrong read-back. FINISH of the pattern region
at once, and the order of the answers to a block, are DEDUCED (log 101); FINISH in IDLE, TRIAL, ARMED and with an open
on-line change is the model's choice (log 133). -/
def Obligations.Updates : Prop :=
  ∀ (s : State) (r : BitVec 2), r ≠ 3#2 →
    let n := r.toNat
    let st := s.region n
    let result (t : State) (op code : Nat) : Prop := t.getF F.UPD_RESULT_LAST_OP = op ∧ t.getF F.UPD_RESULT_REGION = n ∧
      t.getF F.UPD_RESULT_CODE = code
    let only (t : State) : Prop := s.regsBut t [F.UPD_RESULT_DONE.addr] ∧ s.keeps t [.regs]
    let at_ := s.getF F.UPD_AT_LO_TIME + 2 ^ 32 * s.getF F.UPD_AT_HI_TIME
    (∀ req, s.served req F.UPD_CMD_OP.addr →
      (let len := s.getF F.UPD_LEN_LENGTH
        let allowed := s.station = .stop ∨ s.station = .unpatterned ∨ s.operating = true
        let busy := (st ≠ 0 ∧ st ≠ 7) ∨ (n = 1 ∧ s.olcOpen = true)
        let fits := len ≠ 0 ∧ len % 64 = 0 ∧ len ≤ (if n = 2 then 0x400000 else 0x2000000)
        (allowed → ¬busy → fits → ∃ t, exec (.updBegin req r) s = .next t ∧ t.region n = 1 ∧ t.updLength n = len ∧
          t.updTarget n = s.newTarget n ∧ (∀ k, k < 1024 → t.blockDone n k = false) ∧
          t.getF (F.UPD_R_ERR_BAD_BLOCKS n) = 0 ∧ result t 1 0 ∧ s.raised t 0x00C0 0xB000 [n, (len + 65535) / 65536] ∧
          (∀ q, q ≠ n → q < 3 → t.region q = s.region q ∧ t.updLength q = s.updLength q) ∧
          s.keeps t [.regs, .mem, .pat, .upd, .evr]) ∧
        (¬allowed → ∃ t, exec (.updBegin req r) s = .next t ∧ result t 1 1 ∧ only t) ∧
        (allowed → busy → ∃ t, exec (.updBegin req r) s = .next t ∧ result t 1 2 ∧ only t) ∧
        (allowed → ¬busy → ¬fits → ∃ t, exec (.updBegin req r) s = .next t ∧ result t 1 3 ∧ only t)) ∧
      (∃ t, exec (.updResume req r) s = .next t ∧ result t 2 (if st = 1 then 0 else 1) ∧
        (st = 1 → t.getF F.UPD_RESULT_NEXT_BLOCK = s.nextBlock n % 1024) ∧ only t) ∧
      (st = 0 ∨ s.nextBlock n < s.updBlocks n → ∃ t, exec (.updFinish req r) s = .next t ∧ result t 3 4 ∧ only t) ∧
      (st ≠ 0 → s.updBlocks n ≤ s.nextBlock n → st = 6 ∨ (n = 1 ∧ s.olcOpen = true) →
        ∃ t, exec (.updFinish req r) s = .next t ∧ result t 3 2 ∧ only t) ∧
      (st ≠ 0 → s.updBlocks n ≤ s.nextBlock n → st ≠ 6 → ¬(n = 1 ∧ s.olcOpen = true) →
        ∃ t, exec (.updFinish req r) s = .next t ∧ result t 3 0 ∧ t.region n = (if n = 1 then 2 else 3) ∧
          t.getF F.UPD_RESULT_DONE = (if n = 1 then 1 else 0) ∧
          t.getF (F.PTP_TRIG_CTRL_ARMED n) = (if st = 5 then 0 else s.getF (F.PTP_TRIG_CTRL_ARMED n)) ∧ s.keeps t [.regs]) ∧
      (st = 4 → s.nowNs + 10000000 ≤ at_ → ∃ t, exec (.updArm req r) s = .next t ∧ result t 4 0 ∧ t.region n = 5 ∧
        t.trigTime n = at_ ∧ t.getF (F.PTP_TRIG_CTRL_ARMED n) = 1 ∧ t.getF (F.PTP_TRIG_CTRL_REQ_LOCK n) = 1 ∧
        s.raised t 0x00C5 0xB000 [n, at_ % 2 ^ 32, at_ / 2 ^ 32 % 2 ^ 32] ∧ s.keeps t [.regs, .evr]) ∧
      (st ≠ 4 ∨ at_ < s.nowNs + 10000000 → ∃ t, exec (.updArm req r) s = .next t ∧
        result t 4 (if st = 4 then 10 else 1) ∧ only t) ∧
      (st = 5 → ∃ t, exec (.updDisarm req r) s = .next t ∧ result t 5 0 ∧ t.region n = 4 ∧
        t.getF (F.PTP_TRIG_CTRL_ARMED n) = 0 ∧ s.keeps t [.regs]) ∧
      (st ≠ 5 → ∃ t, exec (.updDisarm req r) s = .next t ∧ result t 5 1 ∧ only t) ∧
      (st ≠ 4 ∨ s.mayActivate n = false → ∃ t, exec (.updActivateNow req r) s = .next t ∧ result t 6 1 ∧ only t) ∧
      (st = 4 → s.mayActivate n = true →
        (n = 0 → ¬(s.station = .boot ∧ s.rst.held = true) → ∃ t, exec (.updActivateNow req r) s = .next t ∧
          t.station = .boot ∧ t.rst.held = true ∧ t.rst.causes = 64 ∧ t.region 0 = 6 ∧ t.pending = s.pending) ∧
        (n = 1 → exec (.updActivateNow req r) s = .next (s.updResult 6 1 .ok).patActivate) ∧
        (n = 2 → ∃ t, exec (.updActivateNow req r) s = .next t ∧ result t 6 0 ∧ t.region 2 = 0 ∧
          t.upd = { s.upd with assetsSlot := s.updTarget 2 })) ) ∧
    (∀ req, s.served req F.UPD_CANCEL_REGION.addr →
      (st = 0 → ∃ t, exec (.updCancel req r) s = .next t ∧ result t 7 1 ∧ only t) ∧
      (st = 3 ∨ st = 6 ∨ (n = 1 ∧ st ≠ 0 ∧ s.olcOpen = true) → ∃ t, exec (.updCancel req r) s = .next t ∧ result t 7 2 ∧
        only t) ∧
      (st ≠ 0 → st ≠ 3 → st ≠ 6 → ¬(n = 1 ∧ s.olcOpen = true) → ∃ t, exec (.updCancel req r) s = .next t ∧
        result t 7 0 ∧ t.region n = 0 ∧ t.updLength n = 0 ∧ (∀ k, k < 1024 → t.blockDone n k = false) ∧
        s.raised t 0x00C4 0xB000 [n, st] ∧ s.keeps t [.regs, .mem, .upd, .evr])) ∧
    (n ≠ 1 → st = 3 → s.ownerBad = false →
      (s.imageCheck n = none → ∃ t, exec (.updVerifyEnd n) s = .next t ∧ t.region n = 4 ∧ result t 3 0 ∧
        s.raised t 0x00C2 0xB000 [n, if n = 0 then s.fwSlotSvn (s.updTarget 0) else 0] ∧
        s.keeps t [.regs, .mem, .evr]) ∧
      (∀ c, s.imageCheck n = some c → ∃ t, exec (.updVerifyEnd n) s = .next t ∧ t.region n = 7 ∧
        t.getF (F.UPD_R_ERR_LAST_CODE n) = c.code ∧ result t 3 c.code ∧ s.raised t 0x00C3 0xB000 [n, c.code] ∧
        s.keeps t [.regs, .evr])) ∧
    (∀ m got : Bytes, s.alive = true → s.station ≠ .watch → 0 < s.sec.owned → blkRegion m = n → st = 1 →
      let k := blkNo m
      let at0 := updSlot n (s.updTarget n) + 65536 * k
      k < s.updBlocks n → k < 1024 → blkLen m = s.blockLength n k → m.length = 12 + blkLen m → got.length = blkLen m →
      s.blockDone n k = false →
      let stored (t : State) : Prop := t.rdBytes at0 got.length = got ∧
        ∀ a, a < at0 ∨ at0 + 65536 ≤ a → t.rdByte a = s.rdByte a
      ((crc32c got).toNat = blkCrc m → ∃ t, exec (.updBlock m got) s = .next t ∧ stored t ∧ t.blockDone n k = true ∧
        (∀ j, j ≠ k → j < 1024 → t.blockDone n j = s.blockDone n j) ∧ t.bus.response = 0 ∧
        s.keeps t [.regs, .mem, .upd, .bus]) ∧
      ((crc32c got).toNat ≠ blkCrc m → ∃ t, exec (.updBlock m got) s = .next t ∧ stored t ∧ t.blockDone n k = false ∧
        t.getF (F.UPD_R_ERR_BAD_BLOCKS n) = Nat.min 65535 (s.getF (F.UPD_R_ERR_BAD_BLOCKS n) + 1) ∧
        t.bus.response = 13 ∧ s.raised t 0x00C1 0xB000 [n, k] ∧ s.keeps t [.regs, .mem, .upd, .bus, .evr]))

/-- R409, R419 to R421, R433, R434: enrolment and rotation of the owner, the debug challenge, its unlocking and
locking, MACsec keys, engineering sessions with their lockout, and the failure of the random generator. The order of
the checks is DEDUCED (log 102); the word of AUTH_FAIL is free (log 73); a session that cannot open, and a nonce that
is not there, change nothing (log 55). -/
def Obligations.Security : Prop :=
  ∀ s : State,
    let result (t : State) (op code : Nat) : Prop := t.getF F.SEC_RESULT_LAST_OP = op ∧ t.getF F.SEC_RESULT_CODE = code ∧
      t.getF F.SEC_RESULT_DONE = 1 ∧ ∀ k, k < 64 → t.getF (F.SEC_DATA_DATA k) = 0
    let halted := s.station = .stop ∨ s.station = .unpatterned
    let trng := s.getF F.SEC_STATUS_TRNG_OK = 1
    let ended (i : Instr) (op code : Nat) : Prop := ∃ t, exec i s = .next t ∧ result t op code ∧ s.keeps t [.regs]
    (∀ req, s.reachable = true → req ≠ .cmp → s.mayWrite req F.SEC_CMD_OP.addr true = true →
      (∀ wakeMs, let key := s.secData 0 96
        (s.sec.ownerSlots = [] → halted → 3000 ≤ wakeMs → trng → ∃ t, exec (.enrol req wakeMs) s = .next t ∧
          t.sec = { s.sec with ownerKey := some key, ownerSlots := [sha384 key] } ∧ t.getF F.SEC_STATUS_OWNER = 1 ∧
          t.getF F.SEC_STATUS_DEBUG = 0 ∧ result t 1 0 ∧
          s.raised t 0x00D0 0xB000 [keyId key % 2 ^ 32, keyId key / 2 ^ 32 % 2 ^ 32] ∧ s.keeps t [.regs, .sec, .evr]) ∧
        (s.sec.ownerSlots ≠ [] → ended (.enrol req wakeMs) 1 7) ∧
        (s.sec.ownerSlots = [] → ¬halted → ended (.enrol req wakeMs) 1 1) ∧
        (s.sec.ownerSlots = [] → halted → wakeMs < 3000 → ended (.enrol req wakeMs) 1 2) ∧
        (s.sec.ownerSlots = [] → halted → 3000 ≤ wakeMs → ¬trng → ended (.enrol req wakeMs) 1 6))) ∧
    (∀ req, s.served req F.SEC_CMD_OP.addr →
      (∀ k, s.owner = some k →
        let key := s.secData 0 96
        let slot := s.sec.ownerSlots.length
        let signed := verifySig k (sha384 (key ++ serialBytes ++ leBytes 1 slot)) (s.secData 96 48) (s.secData 144 48)
        (slot < 8 → signed = true → ∃ t, exec (.rotate req) s = .next t ∧
          t.sec = { s.sec with ownerKey := some key, ownerSlots := s.sec.ownerSlots ++ [sha384 key] } ∧
          t.getF F.SEC_STATUS_OWNER_SLOT = slot ∧ result t 2 0 ∧
          s.raised t 0x00D1 0xB000 [keyId key % 2 ^ 32, keyId key / 2 ^ 32 % 2 ^ 32, slot] ∧
          s.keeps t [.regs, .sec, .evr]) ∧
        (8 ≤ slot → ended (.rotate req) 2 4) ∧ (slot < 8 → signed = false → ended (.rotate req) 2 3)) ∧
      (halted → trng → ∃ t b, exec (.dbgChallenge req) s = .next t ∧ b.length = 32 ∧
        t.sec = { s.sec with nonce := some (b, s.elapsedNs) } ∧
        (∀ k, k < 8 → t.getF (F.SEC_DBG_NONCE_NONCE k) = b.u32 (4 * k)) ∧ result t 3 0 ∧
        s.keeps t [.regs, .sec, .free]) ∧
      (¬halted → ended (.dbgChallenge req) 3 1) ∧ (halted → ¬trng → ended (.dbgChallenge req) 3 6) ∧
      (∀ k n, s.owner = some k → s.validNonce = some n →
        let scope := (s.secData 0 1).u8 0
        let signed := verifySig k (sha384 (n ++ serialBytes ++ leBytes 1 scope)) (s.secData 48 48) (s.secData 96 48)
        (signed = true → scope = 1 ∨ scope = 2 → ∃ t, exec (.dbgUnlock req) s = .next t ∧
          t.sec = { s.sec with nonce := none } ∧ t.getF F.SEC_STATUS_DEBUG = scope ∧ result t 4 0 ∧
          s.raised t 0x00D2 0xB000 [scope] ∧ s.keeps t [.regs, .sec, .evr]) ∧
        (signed = false ∨ (scope ≠ 1 ∧ scope ≠ 2) → ended (.dbgUnlock req) 4 3)) ∧
      (s.validNonce = none → s.ownerBad = false → ended (.dbgUnlock req) 4 5) ∧
      (s.getF F.SEC_STATUS_DEBUG = 1 ∨ s.getF F.SEC_STATUS_DEBUG = 2 → ∃ t, exec (.lock req) s = .next t ∧
        t.getF F.SEC_STATUS_DEBUG = 0 ∧ result t 5 0 ∧ s.raised t 0x00D3 0xB000 [] ∧ s.keeps t [.regs, .evr]) ∧
      (s.getF F.SEC_STATUS_DEBUG = 0 ∨ s.getF F.SEC_STATUS_DEBUG = 3 → ended (.lock req) 5 0) ∧
      (let port := (s.secData 0 1).u8 0
        let len := (s.secData 1 1).u8 0
        let allowed := (halted ∨ s.station = .tacking) ∧ port < 2
        let put (t : State) (k : Option Cak) : Prop :=
          t.sec = { s.sec with caks := Store.set (fun _ => none) s.sec.caks port k } ∧
          t.getF (F.ETH_P_STATUS_SECURED port) = 0 ∧ s.keeps t [.regs, .sec, .evr, .net]
        (allowed → len ≠ 0 → len ≤ 32 → ∃ t, exec (.cakSet req) s = .next t ∧
          put t (some ⟨s.secData 16 len, keyWrap keyStoreKey (s.secData 48 32)⟩) ∧ result t 6 0) ∧
        (¬allowed ∨ len = 0 ∨ 32 < len → ended (.cakSet req) 6 1) ∧
        (allowed → ∃ t, exec (.cakClear req) s = .next t ∧ put t none ∧ result t 7 0) ∧
        (¬allowed → ended (.cakClear req) 7 1))) ∧
    (s.sec.nonce ≠ none → ∃ t, exec .nonceExpiry s = .next t ∧ t.sec = { s.sec with nonce := none } ∧
      (∀ k, k < 8 → t.getF (F.SEC_DBG_NONCE_NONCE k) = 0) ∧ s.keeps t [.regs, .sec]) ∧
    (∀ sig pop date, s.alive = false ∨ s.station = .watch ∨ s.domainOn domSvc = false ∨ s.rst.svcEn = false ∨
      s.sessionsLocked = true ∨ 2 ≤ s.sec.sessions → exec (.sessionConnect sig pop date) s = .next s) ∧
    (∀ sig pop date, s.alive = true → s.station ≠ .watch → s.domainOn domSvc = true → s.rst.svcEn = true →
      s.sessionsLocked = false → s.sec.sessions < 2 → s.ownerBad = false →
      let good := pop = true ∧ (s.owner = none ∨ (sig = true ∧ (date = true ∨ s.getF F.PTP_STATUS_LOCKED = 0)))
      let recent := s.sec.failures.filter (fun a => decide (s.elapsedNs < a + 60000000000)) ++ [s.elapsedNs]
      (good → ∃ t, exec (.sessionConnect sig pop date) s = .next t ∧
        t.sec = { s.sec with
          sessions := s.sec.sessions + 1, owned := s.sec.owned + (if s.owner.isSome then 1 else 0) } ∧ s.keeps t [.sec]) ∧
      (¬good → ∃ t, exec (.sessionConnect sig pop date) s = .next t ∧
        t.sec = { s.sec with
          failures := if 5 ≤ recent.length then [] else recent
          lockedUntil := if 5 ≤ recent.length then some (s.elapsedNs + 60000000000) else s.sec.lockedUntil } ∧
        s.raised t 0x00D5 0xB000 [Config.freeNat s.freeCount % 2 ^ 32] ∧ s.keeps t [.sec, .regs, .evr, .free])) ∧
    (∃ t, exec .authLockoutEnd s = .next t ∧ t.sec = { s.sec with lockedUntil := none } ∧ s.keeps t [.sec]) ∧
    (∀ test, s.alive = true → trng → ∃ t, exec (.trngFail test) s = .next t ∧ t.getF F.SEC_STATUS_TRNG_OK = 0 ∧
      s.raised t 0x00D4 0xB000 [test] ∧ s.keeps t [.regs, .evr])

/-! ### Resets, boot, settings, temperatures -/

/-- R436 to R440, R442, R452, R456, R460, R467: feeds, hold-up, the resets with their causes, VIO, the release of the
reset with PTEST loaded and without, the thermal shutdown and the temperature thresholds. That no reset is released
within hold-up is the model's choice (log 125), and that a command whose condition does not hold changes nothing (log
55). -/
def Obligations.ResetsAndTemperatures : Prop :=
  ∀ s : State,
    let feed (t : State) (a b : Nat) : Prop := t.pwr = { s.pwr with feedA := a, feedB := b } ∧
      t.getF F.PWR_STATUS_FEED = Nat.min (Nat.min a b) 65535
    let runs := s.alive = true ∧ s.station ≠ .watch
    let bare (x : Panel) : Panel := if x.rails = [] then x else
      { x with rails := [], vcom := 0, scan := List.replicate (asH s.assets) ⟨List.replicate (asW s.assets) 0#2, 0⟩ }
    (∀ k mv, k < 2 →
      let a := if k = 0 then mv else s.pwr.feedA
      let b := if k = 0 then s.pwr.feedB else mv
      (s.station = .off → 18300 ≤ mv → ∃ t, exec (.feedRise k mv) s = .next t ∧ feed t a b ∧ t.station = .boot ∧
        t.rst = { s.rst with held := true, causes := if s.rst.rstLow then 33 else 1 } ∧
        s.keeps t [.station, .regs, .pwr, .rst, .free]) ∧
      (s.station ≠ .off ∨ mv < 17700 → ∃ t, exec (.feedRise k mv) s = .next t ∧ feed t a b ∧ s.keeps t [.regs, .pwr, .free])) ∧
    (∀ a b, a < 16000 → b < 16000 →
      (s.station = .watch → ∃ t, exec (.feedLoss a b) s = .next t ∧ t.station = .off ∧ t.pending = s.pending) ∧
      (s.station = .off ∨ (s.station ≠ .watch ∧ s.rst.holdUp = true) → ∃ t, exec (.feedLoss a b) s = .next t ∧
        feed t a b ∧ s.keeps t [.regs, .pwr]) ∧
      (s.station ≠ .off → s.station ≠ .watch → s.rst.held = true → s.rst.holdUp = false →
        ∃ t, exec (.feedLoss a b) s = .next t ∧ feed t a b ∧ t.rst = { s.rst with holdUp := true } ∧
          s.keeps t [.regs, .pwr, .rst]) ∧
      (∀ j, runs → s.rst.holdUp = false → s.pnl.run = some j → s.evr.staged = [] → s.roleIs .active = false →
        (s.pnl.finished = false → s.pnlState ≠ 2 → ∃ t, exec (.feedLoss a b) s = .next t ∧ feed t a b ∧
          t.rst = { s.rst with pwrGood := false, holdUp := true } ∧ t.pnl = { s.pnl with blocked := true } ∧
          (panelWordOf 2 s.panelDisp j < 2 ^ 64 → t.panelWord = panelWordOf 2 s.panelDisp j) ∧
          s.keeps t [.regs, .mem, .pwr, .rst, .pnl]) ∧
        (s.pnl.finished = true ∨ s.pnlState = 2 → ∃ t, exec (.feedLoss a b) s = .next t ∧ t.pnl.run = none ∧
          t.pnl.rails = [] ∧ t.pnl.blocked = true ∧ t.pnlState = 4 ∧ t.rst.holdUp = true ∧
          t.getF F.PNL_COUNT_INTERRUPTED = Nat.min 255 (s.getF F.PNL_COUNT_INTERRUPTED + 1))) ∧
      (runs → s.rst.holdUp = false → s.pnl.run = none → s.evr.staged = [] → s.roleIs .active = false →
        ∃ t, exec (.feedLoss a b) s = .next t ∧ feed t a b ∧ t.rst = { s.rst with pwrGood := false, holdUp := true } ∧
          t.pnl = bare { s.pnl with blocked := true } ∧ s.keeps t [.regs, .pwr, .rst, .pnl])) ∧
    (∀ a b, 16000 ≤ a ∨ 16000 ≤ b → ∃ t, exec (.feedLoss a b) s = .next t ∧ feed t a b ∧ s.keeps t [.regs, .pwr]) ∧
    (s.rst.holdUp = true → ∃ t, exec (.holdUpEnd true) s = .next t ∧ t.station = .off ∧ t.pending = s.pending) ∧
    (runs → Claims.ResetBy .supervisorWdt s 16 ∧ Claims.ResetBy .brownout s 2 ∧ Claims.ResetBy (.rstPin true) s 32 ∧
      Claims.ResetBy .thermalShutdown s 2 ∧ (s.rst.holdUp = true → s.holdUpDone = true →
        18300 ≤ max s.pwr.feedA s.pwr.feedB → Claims.ResetBy (.holdUpEnd false) s 1) ∧
      (s.rst.vioOut = false → ∃ t, exec .vioLost s = .next t ∧ t.rst = { s.rst with vioOut := true } ∧
        (∀ n, n < 8 → t.canFaultState n = 0 ∧ t.canMode n = 0) ∧ (∀ o, t.j1 o = .highZ) ∧ s.raised t 0x00E2 0 [] ∧
        s.keeps t [.regs, .rst, .can, .evr])) ∧
    (s.rst.holdUp = false ∨ s.holdUpDone = false ∨ max s.pwr.feedA s.pwr.feedB < 17700 →
      exec (.holdUpEnd false) s = .next s) ∧
    (s.rst.vioOut = true → exec .vioLost s = .next s) ∧
    (∃ t, exec .vioRestored s = .next t ∧ t.rst = { s.rst with vioOut := false } ∧ s.keeps t [.rst]) ∧
    (∃ t, exec (.rstPin false) s = .next t ∧ t.rst = { s.rst with rstLow := false } ∧ s.keeps t [.rst]) ∧
    (∃ t, exec .thermalRestart s = .next t ∧ t.rst = { s.rst with hot := false } ∧ s.keeps t [.rst]) ∧
    (∀ req, s.served req F.RST_CMD_OP.addr →
      (s.getF F.RST_RESULT_BUSY = 0 → s.evr.staged = [] →
        (s.station = .stop ∨ s.station = .unpatterned ∨ s.station = .safeHalt → Claims.ResetBy (.resetCmd req) s 128) ∧
        (s.station = .run ∨ s.station = .tacking → ∃ t, exec (.resetCmd req) s = .next t ∧
          t.getF F.RST_RESULT_CODE = 1 ∧ t.getF F.RST_RESULT_LAST_OP = 3 ∧ s.regsBut t [F.RST_RESULT_CODE.addr] ∧
          s.keeps t [.regs])) ∧
      (s.getF F.RST_RESULT_BUSY = 1 → ∃ t, exec (.resetCmd req) s = .next t ∧ t.getF F.RST_RESULT_CODE = 2 ∧
        s.regsBut t [F.RST_RESULT_CODE.addr] ∧ s.keeps t [.regs])) ∧
    (∀ x : StrapSamples, s.mayRelease = true →
      (s.dgt.ir = 0x3C#8 → ∃ t, exec (.resetRelease x true) s = .next t ∧ t.rst.held = false ∧ t.station = .boot ∧
        t.getF F.RST_CAUSE_ALL = s.rst.causes % 512 ∧
        t.getR F.RST_STRAPS_UNSTABLE.addr = ((x.a &&& x.b) ||| (x.a &&& x.c) ||| (x.b &&& x.c)).setWidth 32 |||
          (if x.a = x.b ∧ x.a = x.c then 0 else 0x80000000#32)) ∧
      (∀ ref, s.dgt.ir ≠ 0x3C#8 → ((s.bootFirst x ref).countTrial.bootSlot).1 = none →
        ∃ t, exec (.resetRelease x ref) s = .next t ∧ t.rst.held = false ∧ t.station = .boot ∧
          t.getF F.SEC_STATUS_BOOT_FAIL = 1) ∧
      (∀ ref k, s.dgt.ir ≠ 0x3C#8 → ((s.bootFirst x ref).countTrial.bootSlot).1 = some k →
        ∃ t, exec (.resetRelease x ref) s = .next t ∧ t.rst.held = false ∧
          (t.station = .stop ∨ t.station = .unpatterned) ∧ t.rst.autoDue = (t.station == .stop))) ∧
    (∀ x ref, s.mayRelease = false → exec (.resetRelease x ref) s = .next s) ∧
    (∀ base die : Int, s.alive = true → 0 ≤ base → base < 2000 →
      let temps (t : State) : Prop := t.getF F.GLB_TEMP_BASE = base.toNat ∧ s.regsBut t [F.GLB_TEMP_BASE.addr]
      (336 ≤ base → ∃ t, exec (.tempHigh base die) s = .next t ∧ temps t ∧ t.getF F.GLB_TEMP_HIGH = 1 ∧
        t.tmp = { s.tmp with highArmed := false } ∧ (s.tmp.highArmed = true → s.raised t 0x00E0 0 [base.toNat]) ∧
        (s.tmp.highArmed = false → t.evr = s.evr) ∧ s.keeps t [.regs, .tmp, .evr]) ∧
      (376 ≤ base → ∃ t, exec (.tempLimit base die) s = .next t ∧ temps t ∧ t.getF F.GLB_TEMP_LIMIT = 1 ∧
        t.tmp = { s.tmp with limitArmed := false } ∧ (s.tmp.limitArmed = true → s.raised t 0x00E1 0 [base.toNat]) ∧
        s.keeps t [.regs, .tmp, .evr]) ∧
      ∃ t, exec (.tempBelowThreshold base die) s = .next t ∧ temps t ∧
        t.getF F.GLB_TEMP_HIGH = (if base < 340 then 0 else s.getF F.GLB_TEMP_HIGH) ∧
        t.getF F.GLB_TEMP_LIMIT = (if base < 380 then 0 else s.getF F.GLB_TEMP_LIMIT) ∧
        t.tmp = ⟨s.tmp.highArmed || decide (base ≤ 328), s.tmp.limitArmed || decide (base ≤ 368)⟩ ∧
        s.keeps t [.regs, .tmp])

/-- R446, R449 to R451: a settings write begins with BUSY and MAGIC 0, or is refused with its code; it ends with
MAGIC, the sequence number and its event, or with the code of what failed. What a write that failed leaves is free
(log 57); the width of a write is DEDUCED (log 103). -/
def Obligations.SettingsWrites : Prop :=
  ∀ s : State,
    let result (t : State) (op code : Nat) : Prop := t.getF F.RST_RESULT_LAST_OP = op ∧ t.getF F.RST_RESULT_CODE = code
    let byte (t : State) (a : Nat) : BitVec 8 := Store.get (fun _ => 0) t.rst.memory.bytes a
    (∀ req i op len, s.served req F.RST_CMD_OP.addr → i = Instr.settingsWrite req len ∧ op = 1 ∨ i = Instr.settingsBlank req ∧ op = 2 ∧ len = 0 →
      let items := if op = 1 then s.setData len else []
      let free := s.getF F.RST_RESULT_BUSY = 0
      let size := len ≤ 976 ∧ 48 + len ≤ s.getF F.RST_SET_SIZE_BYTES
      let good := (imgItems 512 items).all itemOk = true
      let refused (code : Nat) : Prop := ∃ t, exec i s = .next t ∧ result t op code ∧ t.getF F.RST_RESULT_DONE = 1 ∧
        s.regsBut t [F.RST_RESULT_DONE.addr] ∧ s.keeps t [.regs]
      (free → s.settingsAllowed = true → size → good → ∃ t, exec i s = .next t ∧ result t op 0 ∧
        t.getF F.RST_RESULT_BUSY = 1 ∧ t.getF F.RST_RESULT_DONE = 0 ∧ t.rst.writing = some (op, items) ∧
        (s.writeWidth = s.rst.memory.width → ∀ k, k < 4 → byte t k = 0) ∧
        (s.writeWidth ≠ s.rst.memory.width → t.rst.memory = s.rst.memory) ∧
        s.regsBut t [F.RST_RESULT_DONE.addr] ∧ s.keeps t [.regs, .rst]) ∧
      (¬free → refused 2) ∧ (free → s.settingsAllowed = false → refused 1) ∧
      (free → s.settingsAllowed = true → ¬size → refused 3) ∧
      (free → s.settingsAllowed = true → size → ¬good → refused 4)) ∧
    (∀ op items, s.rst.writing = some (op, items) → op = 1 ∨ op = 2 →
      let ended (t : State) : Prop := t.getF F.RST_RESULT_BUSY = 0 ∧ t.getF F.RST_RESULT_DONE = 1 ∧ t.rst.writing = none ∧
        (op = 1 → ∀ k, k < 244 → t.getF (F.RST_SET_DATA_DATA k) = 0)
      let seq := (s.rst.setSeq + 1) % 2 ^ 32
      let magic : Bytes := [0x53#8, 0x56#8, 0x53#8, 0x54#8]
      let reads := s.writeWidth = s.rst.memory.width ∧ s.smBytes 48 items.length = items ∧
        s.smBytes 16 32 = settingsTag (magic ++ s.smBytes 4 12) items
      (reads → ∃ t, exec (.settingsWriteEnd .ok) s = .next t ∧ ended t ∧ result t op 0 ∧ t.rst.setSeq = seq ∧
        [byte t 0, byte t 1, byte t 2, byte t 3] = magic ∧ (∀ k, 4 ≤ k → byte t k = byte s k) ∧
        s.raised t 0x0004 0 [seq] ∧ s.keeps t [.regs, .rst, .evr]) ∧
      (¬reads → ∃ t, exec (.settingsWriteEnd .ok) s = .next t ∧ ended t ∧ result t op 6 ∧ t.rst.setSeq = s.rst.setSeq ∧
        s.keeps t [.regs, .rst]) ∧
      (∀ step, s.getF F.RST_STRAPS_CFG_SETMEM = 1 → exec (.settingsWriteEnd (.timeout step)) s = .next s) ∧
      (∀ step, s.getF F.RST_STRAPS_CFG_SETMEM = 0 → ∃ t, exec (.settingsWriteEnd (.timeout step)) s = .next t ∧ ended t ∧
        result t op 5 ∧ t.evr = s.evr ∧
        (∀ k, (if step = .body then k < 4 ∨ 48 + items.length ≤ k else 4 ≤ k) → byte t k = byte s k) ∧
        s.keeps t [.regs, .rst, .free]) ∧
      ∃ t, exec (.settingsWriteEnd .verifyFailed) s = .next t ∧ ended t ∧ result t op 6 ∧ t.evr = s.evr ∧
        (∀ k, 48 + items.length ≤ k → byte t k = byte s k) ∧ s.keeps t [.regs, .rst, .free])

/-! ### Diagnosis -/

/-- R470, R471, R474, R478 to R480: a loopback test on a CAN FD controller in STOP begins with LOOP = DEPTH, is
refused while another runs, counts its items and ends; an injected ECC error; TAP instructions; the entry into
production test mode and what it allows. The bytes of a test frame and the order of the units are the model's choice
(log 130), as is that several injections add up (DEDUCED, log 104). -/
def Obligations.Diagnosis : Prop :=
  ∀ s : State,
    (∀ req n d c p it, s.served req F.DGT_LB_CMD_OP.addr → s.station = .stop → n < 8 → 1 ≤ d → d ≤ 2 → 1 ≤ c → c < 65536 → s.paired = false →
      s.pat.active = some p → p.canItem n = some it → s.domainOn domCan = true →
      (s.dgt.lb = none → ∃ t, exec (.loopbackStart req n d c) s = .next t ∧ t.dgt = { s.dgt with lb := some ⟨n, d, c⟩ } ∧
        t.getF (F.CAN_CTRL_LOOP n) = d ∧ t.getF F.DGT_LB_STATUS_STATE = 1 ∧ t.getF F.DGT_LB_STATUS_CODE = 0 ∧
        t.getF F.DGT_LB_COUNT_SENT = 0 ∧ t.getF F.DGT_LB_COUNT_GOOD = 0 ∧ s.keeps t [.regs, .dgt]) ∧
      (s.dgt.lb ≠ none → ∃ t, exec (.loopbackStart req n d c) s = .next t ∧ t.getF F.DGT_LB_STATUS_CODE = 2 ∧
        s.regsBut t [F.DGT_LB_STATUS_CODE.addr] ∧ s.keeps t [.regs])) ∧
    (∀ x, s.dgt.lb = some x →
      let sent := s.getF F.DGT_LB_COUNT_SENT
      let good := s.getF F.DGT_LB_COUNT_GOOD
      (∀ req, s.served req F.DGT_LB_CMD_OP.addr → x.target < 8 → ∃ t, exec (.loopbackStop req) s = .next t ∧
        t.dgt = { s.dgt with lb := none } ∧ t.getF (F.CAN_CTRL_LOOP x.target) = 0 ∧ t.getF F.DGT_LB_STATUS_STATE = 3 ∧
        t.getF F.DGT_LB_STATUS_CODE = 6 ∧ s.raised t 0x00F1 0 [x.target, x.depth, 3, good, sent] ∧
        s.keeps t [.regs, .dgt, .evr]) ∧
      let passes (o : LbOutcome) : Prop := (x.target < 12 ∧ o = .frame (s.lbItem x.target sent) false) ∨
        (12 ≤ x.target ∧ x.target < 18 ∧ x.depth = 1 ∧ ∃ ref25 ref0 bus : Int, o = .measured [ref25, ref0, bus] ∧
          2475 ≤ ref25 ∧ ref25 ≤ 2525 ∧ -25 ≤ ref0 ∧ ref0 ≤ 25 ∧ bus < 5000)
      let fails (o : LbOutcome) : Prop := (x.target < 12 ∧ ∃ b err, o = .frame b err ∧
          (b ≠ s.lbItem x.target sent ∨ err = true)) ∨
        (12 ≤ x.target ∧ x.target < 18 ∧ x.depth = 1 ∧ ∃ ref25 ref0 bus : Int, o = .measured [ref25, ref0, bus] ∧
          (ref25 < 2475 ∨ 2525 < ref25 ∨ ref0 < -25 ∨ 25 < ref0 ∨ 5000 ≤ bus))
      (∀ o, sent + 1 < x.count → x.count < 65536 → ∃ t, exec (.loopbackItem o) s = .next t ∧
        t.getF F.DGT_LB_COUNT_SENT = sent + 1 ∧ t.dgt = s.dgt ∧ s.keeps t [.regs, .fio]) ∧
      (∀ o, passes o → sent + 1 < x.count → x.count < 65536 → ∃ t, exec (.loopbackItem o) s = .next t ∧
        t.getF F.DGT_LB_COUNT_SENT = sent + 1 ∧ t.getF F.DGT_LB_COUNT_GOOD = Nat.min 65535 (good + 1) ∧
        s.regsBut t [F.DGT_LB_COUNT_SENT.addr] ∧ s.keeps t [.regs]) ∧
      (∀ o, fails o → sent + 1 < x.count → x.count < 65536 → s.getF F.DGT_LB_STATUS_FIRST_BAD = 0xFFFF →
        ∃ t, exec (.loopbackItem o) s = .next t ∧ t.getF F.DGT_LB_COUNT_SENT = sent + 1 ∧
          t.getF F.DGT_LB_ERR_BAD = Nat.min 65535 (s.getF F.DGT_LB_ERR_BAD + 1) ∧
          t.getF F.DGT_LB_STATUS_FIRST_BAD = sent ∧ t.getF F.DGT_LB_COUNT_GOOD = good ∧ s.keeps t [.regs]) ∧
      (∀ o, passes o → sent + 1 = x.count → x.count < 65536 → good = sent → ∃ t, exec (.loopbackItem o) s = .next t ∧
        t.dgt = { s.dgt with lb := none } ∧ t.getF F.DGT_LB_STATUS_STATE = 2 ∧ t.getF F.DGT_LB_STATUS_CODE = 0 ∧
        s.raised t 0x00F1 0 [x.target, x.depth, 2, sent + 1, sent + 1] ∧ s.keeps t [.regs, .dgt, .evr]) ∧
      (sent + 1 < x.count → x.count < 65536 → s.getF F.DGT_LB_STATUS_FIRST_BAD = 0xFFFF →
        ∃ t, exec (.loopbackItem .lost) s = .next t ∧ t.getF F.DGT_LB_COUNT_SENT = sent + 1 ∧
          t.getF F.DGT_LB_ERR_LOST = Nat.min 65535 (s.getF F.DGT_LB_ERR_LOST + 1) ∧
          t.getF F.DGT_LB_STATUS_FIRST_BAD = sent ∧ s.keeps t [.regs, .fio])) ∧
    (∀ req, s.served req F.DGT_ECC_INJ_ARM.addr →
      let array := s.getF F.DGT_ECC_INJ_ARRAY
      let i := s.getF F.DGT_ECC_IDX_INDEX
      let n := s.getF F.DGT_ECC_INJ_COUNT
      let accepted := (s.station = .stop ∨ s.getF F.DGT_STATUS_PTEST = 1) ∧ array ≠ 44 ∧ i < eccWords array ∧
        (s.getF F.DGT_ECC_INJ_FOLD = 1 ∨ n ≠ 0)
      (accepted → s.mark array i = .clean → s.getF F.DGT_ECC_INJ_FOLD = 0 → n = 1 ∨ n = 2 →
        ∃ t, exec (.eccInject req) s = .next t ∧ t.mark array i = .correctable (2 ^ n - 1) ∧
          s.raised t 0x00F2 0 [array, i, n] ∧ s.keeps t [.regs, .ecc, .evr]) ∧
      (¬accepted → ∃ t, exec (.eccInject req) s = .next t ∧ t.getF F.DGT_ECC_INJ_REFUSED = 1 ∧
        s.regsBut t [F.DGT_ECC_INJ_REFUSED.addr] ∧ s.keeps t [.regs])) ∧
    (∀ c : BitVec 8, s.alive = true → scanCode s.dgt.ir = false → c ≠ s.dgt.ir → tapListed c = true →
      s.tapAvailable c = true →
      (scanCode c = false → ∃ t, exec (.tapInstruction c) s = .next t ∧ t.dgt = { s.dgt with ir := c } ∧
        s.keeps t [.dgt]) ∧
      (scanCode c = true → ∃ t, exec (.tapInstruction c) s = .next t ∧ t.dgt.ir = c ∧ t.getF F.DGT_STATUS_SCAN = 1 ∧
        t.getF F.SAF_STATUS_MOD_OK = 0 ∧ (∀ g, g < 6 → t.discClosed g = false) ∧ t.pnl.rails = [] ∧
        ∀ o, o < 8 → (t.cloOut o).code = 0)) ∧
    (∀ c : BitVec 8, s.alive = true → s.station ≠ .boot → scanCode s.dgt.ir = true → tapListed c = false →
      Claims.ResetBy (.tapInstruction c) s 256) ∧
    (s.ptestDue = true →
      (s.sec.ownerSlots = [] → ∃ t, exec .ptestEntry s = .next t ∧ t.getF F.DGT_STATUS_PTEST = 1 ∧
        t.getF F.SEC_STATUS_DEBUG = 2 ∧ s.raised t 0x00F3 0 [] ∧ s.keeps t [.regs, .dgt, .evr]) ∧
      (s.sec.ownerSlots ≠ [] → ∃ t b, exec .ptestEntry s = .next t ∧ b.length = 32 ∧
        t.dgt = { s.dgt with ptNonce := some b, ptWait := true } ∧ s.keeps t [.dgt, .free])) ∧
    (∀ k n r sg, s.dgt.ptWait = true → s.owner = some k → s.dgt.ptNonce = some n →
      verifySig k (sha384 (n ++ serialBytes ++ [3#8])) r sg = true → ∃ t, exec (.ptAuth r sg) s = .next t ∧
        t.dgt = { s.dgt with ptNonce := none, ptWait := false } ∧ t.getF F.DGT_STATUS_PTEST = 1 ∧
        t.getF F.SEC_STATUS_DEBUG = 2 ∧ s.raised t 0x00F3 0 [] ∧ s.keeps t [.regs, .dgt, .evr]) ∧
    (s.dgt.ptWait = true → exec .ptestAuthTimeout s = .next s.ptestRefused) ∧
    (∀ slot image, slot < 2 → image.length ≤ 0x2000000 → s.getF F.DGT_STATUS_PTEST = 1 →
      ∃ t, exec (.ptFlash slot image) s = .next t ∧ t.rdBytes (Mem.fwSlot slot) image.length = image ∧
        t.fwSlotWritten slot = true ∧ (∀ a, a < Mem.fwJournal ∨ Mem.fwJournal + 8 ≤ a →
          a < Mem.fwSlot slot ∨ Mem.fwSlot slot + 0x2000000 ≤ a → t.rdByte a = s.rdByte a) ∧
        s.keeps t [.regs, .mem, .upd])

/-! ### The whole block -/

/-- The block takes its commands in the order in which they were sent: a step with command c at the front of the queue
is exec of c on the state with the queue's rest; on an empty queue the block idles, which is the model's own choice
(log 1). -/
def Obligations.StepRunsTheFront : Prop :=
  (∀ (s : State) (c : Instr) (rest : List Instr), s.pending = c :: rest →
    step s = exec c { s with pending := rest }) ∧ ∀ s : State, s.pending = [] → step s = .next s

/-- R8, R314, R326, R440, R445: the state after reset: BOOT with the internal reset held after power-on, nothing waits,
every register has the reset value of its table, the timebase advances by 5 ns, no link, no Pattern, the memory and the
register file are in canonical form. What no register shows (the queue, memory that reads 0, the cores' registers) is the
model's choice (logs 2 and 3). -/
def Obligations.AfterReset : Prop :=
  State.reset.station = .boot ∧ State.reset.rst.held = true ∧ State.reset.rst.causes = 1 ∧ State.reset.pending = [] ∧
    State.reset.storesWf = true ∧ State.reset.queueWf = true ∧
    (∀ a, State.reset.getR a = regReset a) ∧ (∀ a, State.reset.rdByte a = 0) ∧
    State.reset.clock.incr = 0x500000000#36 ∧ State.reset.pat.active = none ∧
    State.reset.getF F.PWR_DOMAINS_ON = 0x40000 ∧ State.reset.getF F.PAIR_PATHS_LINK_UP = 0 ∧
    (∀ c, State.reset.core c = Core.idle) ∧ State.reset.sec.ownerSlots = []

/-- R85, R86, Tables 4.4 and 4.5: the word of an instruction decodes to it with every operand, and a word that decodes to
an instruction is that instruction's word; what a word of core c decodes to is well formed. -/
def Obligations.StitchRoundTrip : Prop :=
  (∀ (i : Instr) (w : BitVec 32), encodeStitch i = some w → ∃ c, decodeStitch c w = some i) ∧
    ∀ (c : Nat) (w : BitVec 32) (i : Instr), c < 8 → decodeStitch c w = some i →
      encodeStitch i = some w ∧ i.wellFormed = true

/-- R85, R86, Tables 4.4 and 4.5: words written out from the formats decode to the instructions that they stand for; a
word of zeros is no instruction. -/
def Obligations.StitchWords : Prop :=
  ∀ c, decodeStitch c 0x00082301#32 = some (.add c false 3 1 2) ∧
    decodeStitch c 0xFFFC0108#32 = some (.addk c 1 0 0x3FFF) ∧
    decodeStitch c 0x0000250E#32 = some (.lih c 5 1) ∧
    decodeStitch c 0x050C220D#32 = some (.shk c .shr true 2 1 3) ∧
    decodeStitch c 0x0020C424#32 = some (.l32s c 4 6 8) ∧
    decodeStitch c 0x000C4140#32 = some (.bcEq c 1 2 3) ∧
    decodeStitch c 0x438C4112#32 = some (.fma c true 1 2 3 7) ∧
    decodeStitch c 0x08000550#32 = some (.evtRaise c 5) ∧
    decodeStitch c 0xFFFFE24D#32 = some (.callb c 2 0x7FFFF) ∧
    decodeStitch c 0x0000004F#32 = some (.endEntry c) ∧ decodeStitch c 0 = none

/-- Every instruction of a core but REG_WR, which may write any register, keeps memory and register file in their
canonical forms and leaves the waiting commands alone: from every state in canonical form, whatever the instruction does,
an exception included; so does the step that runs it. -/
def Obligations.StitchCodeKeepsCanonicalForm : Prop :=
  ∀ (s t : State) (i : Instr), encodeStitch i ≠ none → (∀ c a, i ≠ .regWr c a) → s.storesWf = true →
    (exec i s = .next t → t.storesWf = true ∧ t.pending = s.pending) ∧
    (∀ rest, s.pending = i :: rest → step s = .next t → t.storesWf = true ∧ t.pending = rest)

/-- Every command, of every row of the table, keeps memory and register file in their canonical forms and leaves the
waiting commands alone, from every state in canonical form; so does a step, whichever command waits at the front. -/
def Obligations.EveryCommandKeepsCanonicalForm : Prop :=
  ∀ s t : State, s.storesWf = true →
    (∀ i, exec i s = .next t → t.storesWf = true ∧ t.pending = s.pending) ∧
    (step s = .next t → t.storesWf = true ∧ t.pending = s.pending.tail)
end

