-- ==== Sys2Proof/Laws/Store.lean ====
section
/-!
SUPPORT. The laws of the sparse maps: reading after writing, and that every write keeps the canonical form.
-/

namespace Sys2Proof.Machine

variable {α : Type}

theorem Store.find?_insert_same (m : Store α) (j : Nat) (w : α) : (Store.insert m j w).find? j = some w := by
  induction m with
  | nil => simp [Store.insert, Store.find?]
  | cons p m ih =>
    obtain ⟨k, v⟩ := p
    simp only [Store.insert]
    split_ifs with h1 h2 <;> simp [Store.find?, *]

theorem Store.find?_insert_ne (m : Store α) (j i : Nat) (w : α) (h : i ≠ j) :
    (Store.insert m j w).find? i = m.find? i := by
  induction m with
  | nil => simp [Store.insert, Store.find?, Ne.symm h]
  | cons p m ih =>
    obtain ⟨k, v⟩ := p
    simp only [Store.insert]
    split_ifs with h1 h2
    · simp [Store.find?, Ne.symm h]
    · subst h2; simp [Store.find?, Ne.symm h]
    · simp [Store.find?, ih]

theorem Store.find?_of_above (m : Store α) (j i : Nat) (h : Store.above j m = true) (hi : i ≤ j) :
    m.find? i = none := by
  induction m with
  | nil => rfl
  | cons p m ih =>
    obtain ⟨k, v⟩ := p
    simp only [Store.above, Bool.and_eq_true, decide_eq_true_eq] at h
    have : k ≠ i := by omega
    simp [Store.find?, this, ih h.2]

theorem Store.find?_erase_ne (m : Store α) (j i : Nat) (h : i ≠ j) :
    (Store.erase m j).find? i = m.find? i := by
  induction m with
  | nil => rfl
  | cons p m ih =>
    obtain ⟨k, v⟩ := p
    simp only [Store.erase]
    split_ifs with h1
    · subst h1; simp [Store.find?, Ne.symm h, ih]
    · simp [Store.find?, ih]

theorem Store.find?_erase_same (m : Store α) (j : Nat) : (Store.erase m j).find? j = none := by
  induction m with
  | nil => rfl
  | cons p m ih =>
    obtain ⟨k, v⟩ := p
    simp only [Store.erase]
    split_ifs with h1
    · exact ih
    · simp [Store.find?, h1, ih]

/-- A write is read back, in every map. -/
@[simp] theorem Store.get_set_same [DecidableEq α] (d : Nat → α) (m : Store α) (j : Nat) (w : α) :
    Store.get d (Store.set d m j w) j = w := by
  unfold Store.set Store.get
  split_ifs with hw
  · rw [Store.find?_erase_same m j, hw]; rfl
  · rw [Store.find?_insert_same]; rfl

theorem Store.get_set_ne [DecidableEq α] (d : Nat → α) (m : Store α) (j i : Nat) (w : α) (h : i ≠ j) :
    Store.get d (Store.set d m j w) i = Store.get d m i := by
  unfold Store.set Store.get
  split_ifs with hw
  · rw [Store.find?_erase_ne m j i h]
  · rw [Store.find?_insert_ne m j i w h]

theorem Store.above_insert (k : Nat) (m : Store α) (j : Nat) (w : α) (hk : k < j)
    (h : Store.above k m = true) : Store.above k (Store.insert m j w) = true := by
  induction m with
  | nil => simp [Store.insert, Store.above, hk]
  | cons p m ih =>
    obtain ⟨i, v⟩ := p
    simp only [Store.above, Bool.and_eq_true, decide_eq_true_eq] at h
    simp only [Store.insert]
    split_ifs with h1 h2
    · simp [Store.above, hk, h.1, h.2]
    · simp [Store.above, hk, h.2]
    · simp [Store.above, h.1, ih h.2]

theorem Store.above_mono (k i : Nat) (m : Store α) (hk : i ≤ k) (h : Store.above k m = true) :
    Store.above i m = true := by
  induction m with
  | nil => rfl
  | cons p m ih =>
    obtain ⟨j, v⟩ := p
    simp only [Store.above, Bool.and_eq_true, decide_eq_true_eq] at h ⊢
    exact ⟨by omega, ih h.2⟩

theorem Store.above_erase (k : Nat) (m : Store α) (j : Nat) (h : Store.above k m = true) :
    Store.above k (Store.erase m j) = true := by
  induction m with
  | nil => rfl
  | cons p m ih =>
    obtain ⟨i, v⟩ := p
    simp only [Store.above, Bool.and_eq_true, decide_eq_true_eq] at h
    simp only [Store.erase]
    split_ifs with h1
    · exact ih h.2
    · simp [Store.above, h.1, ih h.2]

theorem Store.wf_insert [DecidableEq α] (d : Nat → α) (m : Store α) (j : Nat) (w : α) (hw : w ≠ d j)
    (h : Store.wf d m = true) : Store.wf d (Store.insert m j w) = true := by
  induction m with
  | nil => simp [Store.insert, Store.wf, Store.above, hw]
  | cons p m ih =>
    obtain ⟨k, v⟩ := p
    simp only [Store.wf, Bool.and_eq_true, decide_eq_true_eq] at h
    simp only [Store.insert]
    split_ifs with h1 h2
    · have := Store.above_mono k j m (by omega) h.1.2
      simp [Store.wf, Store.above, hw, h1, h.1.1, h.1.2, h.2, this]
    · subst h2; simp [Store.wf, hw, h.1.2, h.2]
    · have : Store.above k (Store.insert m j w) = true := Store.above_insert k m j w (by omega) h.1.2
      simp [Store.wf, h.1.1, this, ih h.2]

theorem Store.wf_erase [DecidableEq α] (d : Nat → α) (m : Store α) (j : Nat)
    (h : Store.wf d m = true) : Store.wf d (Store.erase m j) = true := by
  induction m with
  | nil => rfl
  | cons p m ih =>
    obtain ⟨k, v⟩ := p
    simp only [Store.wf, Bool.and_eq_true, decide_eq_true_eq] at h
    simp only [Store.erase]
    split_ifs with h1
    · exact ih h.2
    · simp [Store.wf, h.1.1, Store.above_erase k m j h.1.2, ih h.2]

/-- Every write keeps the canonical form. -/
theorem Store.wf_set [DecidableEq α] (d : Nat → α) (m : Store α) (j : Nat) (w : α)
    (h : Store.wf d m = true) : Store.wf d (Store.set d m j w) = true := by
  unfold Store.set
  split_ifs with hw
  · exact Store.wf_erase d m j h
  · exact Store.wf_insert d m j w hw h

end Sys2Proof.Machine
end

