-- ==== Sys2Proof/Laws/Regs.lean ====
section
/-!
SUPPORT. Reading registers and fields after writing them (R8, R9).
-/

namespace Sys2Proof.Machine

/-- A field that lies inside a word. -/
def Fld.inWord (f : Fld) : Prop := f.lo ≤ f.hi ∧ f.hi < 32

/-- Two fields that share no bit of one word. -/
def Fld.apart (f g : Fld) : Prop := f.hi < g.lo ∨ g.hi < f.lo

theorem maskBits_getLsbD (n i : Nat) (h : n ≤ 32) : (maskBits n).getLsbD i = decide (i < n) := by
  have : 2 ^ n - 1 < 2 ^ 32 ∨ n = 32 := by
    rcases Nat.lt_or_ge n 32 with h1 | h1
    · left; have := Nat.pow_lt_pow_right (a := 2) (by omega) h1; omega
    · right; omega
  simp only [maskBits, BitVec.getLsbD_ofNat, Nat.testBit_two_pow_sub_one]
  by_cases hi : i < n
  · simp [hi]; omega
  · simp [hi]

theorem Fld.put_getLsbD (f : Fld) (w : BitVec 32) (v i : Nat) (hf : f.inWord) (hi : i < 32) :
    (f.put w v).getLsbD i = if f.lo ≤ i ∧ i ≤ f.hi then (BitVec.ofNat 32 v).getLsbD (i - f.lo) else w.getLsbD i := by
  obtain ⟨h1, h2⟩ := hf
  have hw : f.width ≤ 32 := by simp only [Fld.width]; omega
  simp only [Fld.put, BitVec.getLsbD_or, BitVec.getLsbD_and, BitVec.getLsbD_not, BitVec.getLsbD_shiftLeft,
    maskBits_getLsbD _ _ hw, hi]
  by_cases ha : f.lo ≤ i
  · have : ¬ i < f.lo := by omega
    by_cases hb : i ≤ f.hi
    · have : i - f.lo < f.width := by simp only [Fld.width]; omega
      simp [*]
    · have : ¬ i - f.lo < f.width := by simp only [Fld.width]; omega
      simp [*]
  · have : i < f.lo := by omega
    simp [*]

theorem Fld.pick_testBit (f : Fld) (w : BitVec 32) (i : Nat) (hf : f.inWord) :
    (f.pick w).testBit i = (decide (i < f.width) && w.getLsbD (f.lo + i)) := by
  have hw : f.width ≤ 32 := by obtain ⟨h1, h2⟩ := hf; simp only [Fld.width]; omega
  have : (f.pick w).testBit i = ((w >>> f.lo) &&& maskBits f.width).getLsbD i := by simp [Fld.pick, BitVec.getLsbD]
  rw [this, BitVec.getLsbD_and, maskBits_getLsbD _ _ hw, BitVec.getLsbD_ushiftRight, Bool.and_comm]

/-- A field read after it was written: the value, cut to the field's width. -/
theorem Fld.pick_put_same (f : Fld) (w : BitVec 32) (v : Nat) (hf : f.inWord) :
    f.pick (f.put w v) = v % 2 ^ f.width := by
  apply Nat.eq_of_testBit_eq
  intro i
  rw [f.pick_testBit _ _ hf, Nat.testBit_mod_two_pow]
  by_cases hi : i < f.width
  · have hb : f.lo + i < 32 := by obtain ⟨h1, h2⟩ := hf; simp only [Fld.width] at hi; omega
    have hc : f.lo ≤ f.lo + i ∧ f.lo + i ≤ f.hi := by
      obtain ⟨h1, h2⟩ := hf; simp only [Fld.width] at hi; omega
    rw [f.put_getLsbD _ _ _ hf hb, if_pos hc]
    have : i < 32 := by omega
    simp only [hi, decide_true, Bool.true_and, Nat.add_sub_cancel_left, BitVec.getLsbD_ofNat, this]
  · simp [hi]

/-- A field read after another field of its word was written. -/
theorem Fld.pick_put_apart (f g : Fld) (w : BitVec 32) (v : Nat) (hf : f.inWord) (hg : g.inWord) (h : f.apart g) :
    g.pick (f.put w v) = g.pick w := by
  apply Nat.eq_of_testBit_eq
  intro i
  rw [g.pick_testBit _ _ hg, g.pick_testBit _ _ hg]
  by_cases hi : i < g.width
  · have hb : g.lo + i < 32 := by obtain ⟨h1, h2⟩ := hg; simp only [Fld.width] at hi; omega
    have hc : ¬ (f.lo ≤ g.lo + i ∧ g.lo + i ≤ f.hi) := by
      obtain ⟨h1, h2⟩ := hg; simp only [Fld.width] at hi; unfold Fld.apart at h; omega
    rw [f.put_getLsbD _ _ _ hf hb, if_neg hc]
  · simp [hi]

/-! ### Registers of a state -/

@[simp] theorem State.getR_setR_same (s : State) (a : Nat) (w : BitVec 32) : (s.setR a w).getR a = w :=
  Store.get_set_same regReset s.regs a w

theorem State.getR_setR_ne (s : State) (a b : Nat) (w : BitVec 32) (h : b ≠ a) : (s.setR a w).getR b = s.getR b :=
  Store.get_set_ne regReset s.regs a b w h

theorem State.getF_setR_ne (s : State) (a : Nat) (w : BitVec 32) (g : Fld) (h : g.addr ≠ a) :
    (s.setR a w).getF g = s.getF g := by
  simp only [State.getF, s.getR_setR_ne a g.addr w h]

theorem State.getR_setF_same (s : State) (f : Fld) (v : Nat) : (s.setF f v).getR f.addr = f.put (s.getR f.addr) v :=
  s.getR_setR_same _ _

theorem State.getR_setF_ne (s : State) (f : Fld) (v b : Nat) (h : b ≠ f.addr) : (s.setF f v).getR b = s.getR b :=
  s.getR_setR_ne _ _ _ h

theorem State.getF_setF_same (s : State) (f : Fld) (v : Nat) (hf : f.inWord) :
    (s.setF f v).getF f = v % 2 ^ f.width := by
  simp only [State.getF, s.getR_setF_same, f.pick_put_same _ _ hf]

theorem State.getF_setF_ne (s : State) (f g : Fld) (v : Nat) (h : g.addr ≠ f.addr) : (s.setF f v).getF g = s.getF g :=
  s.getF_setR_ne _ _ _ h

theorem State.getF_setF_apart (s : State) (f g : Fld) (v : Nat) (ha : g.addr = f.addr) (hf : f.inWord) (hg : g.inWord)
    (h : f.apart g) : (s.setF f v).getF g = s.getF g := by
  simp only [State.getF, ha, s.getR_setF_same, f.pick_put_apart g _ _ hf hg h]

end Sys2Proof.Machine
end

