-- ==== Sys2Proof/Laws/State.lean ====
section
/-!
SUPPORT. What each operation on a part of the state leaves alone: one lemma per part and operation.
-/

namespace Sys2Proof.Machine

@[simp] theorem State.setR_pending (s : State) (a : Nat) (w : BitVec 32) : (s.setR a w).pending = s.pending := rfl
@[simp] theorem State.setR_station (s : State) (a : Nat) (w : BitVec 32) : (s.setR a w).station = s.station := rfl
@[simp] theorem State.setR_mem (s : State) (a : Nat) (w : BitVec 32) : (s.setR a w).mem = s.mem := rfl
@[simp] theorem State.setR_bus (s : State) (a : Nat) (w : BitVec 32) : (s.setR a w).bus = s.bus := rfl
@[simp] theorem State.setR_clock (s : State) (a : Nat) (w : BitVec 32) : (s.setR a w).clock = s.clock := rfl
@[simp] theorem State.setR_sched (s : State) (a : Nat) (w : BitVec 32) : (s.setR a w).sched = s.sched := rfl
@[simp] theorem State.setR_pat (s : State) (a : Nat) (w : BitVec 32) : (s.setR a w).pat = s.pat := rfl
@[simp] theorem State.setR_cores (s : State) (a : Nat) (w : BitVec 32) : (s.setR a w).cores = s.cores := rfl
@[simp] theorem State.setR_queues (s : State) (a : Nat) (w : BitVec 32) : (s.setR a w).queues = s.queues := rfl
@[simp] theorem State.setR_wsig (s : State) (a : Nat) (w : BitVec 32) : (s.setR a w).wsig = s.wsig := rfl
@[simp] theorem State.setR_ecc (s : State) (a : Nat) (w : BitVec 32) : (s.setR a w).ecc = s.ecc := rfl
@[simp] theorem State.setR_tasks (s : State) (a : Nat) (w : BitVec 32) : (s.setR a w).tasks = s.tasks := rfl
@[simp] theorem State.setR_evr (s : State) (a : Nat) (w : BitVec 32) : (s.setR a w).evr = s.evr := rfl
@[simp] theorem State.setR_saf (s : State) (a : Nat) (w : BitVec 32) : (s.setR a w).saf = s.saf := rfl
@[simp] theorem State.setR_fio (s : State) (a : Nat) (w : BitVec 32) : (s.setR a w).fio = s.fio := rfl
@[simp] theorem State.setR_lpe (s : State) (a : Nat) (w : BitVec 32) : (s.setR a w).lpe = s.lpe := rfl
@[simp] theorem State.setR_qps (s : State) (a : Nat) (w : BitVec 32) : (s.setR a w).qps = s.qps := rfl
@[simp] theorem State.setR_net (s : State) (a : Nat) (w : BitVec 32) : (s.setR a w).net = s.net := rfl
@[simp] theorem State.setR_can (s : State) (a : Nat) (w : BitVec 32) : (s.setR a w).can = s.can := rfl
@[simp] theorem State.setR_ptp (s : State) (a : Nat) (w : BitVec 32) : (s.setR a w).ptp = s.ptp := rfl
@[simp] theorem State.setR_pair (s : State) (a : Nat) (w : BitVec 32) : (s.setR a w).pair = s.pair := rfl
@[simp] theorem State.setR_pnl (s : State) (a : Nat) (w : BitVec 32) : (s.setR a w).pnl = s.pnl := rfl
@[simp] theorem State.setR_pwr (s : State) (a : Nat) (w : BitVec 32) : (s.setR a w).pwr = s.pwr := rfl
@[simp] theorem State.setR_upd (s : State) (a : Nat) (w : BitVec 32) : (s.setR a w).upd = s.upd := rfl
@[simp] theorem State.setR_sec (s : State) (a : Nat) (w : BitVec 32) : (s.setR a w).sec = s.sec := rfl
@[simp] theorem State.setR_rst (s : State) (a : Nat) (w : BitVec 32) : (s.setR a w).rst = s.rst := rfl
@[simp] theorem State.setR_tmp (s : State) (a : Nat) (w : BitVec 32) : (s.setR a w).tmp = s.tmp := rfl
@[simp] theorem State.setR_dgt (s : State) (a : Nat) (w : BitVec 32) : (s.setR a w).dgt = s.dgt := rfl
@[simp] theorem State.setR_freeCount (s : State) (a : Nat) (w : BitVec 32) : (s.setR a w).freeCount = s.freeCount := rfl

@[simp] theorem State.setF_pending (s : State) (f : Fld) (v : Nat) : (s.setF f v).pending = s.pending := rfl
@[simp] theorem State.setF_station (s : State) (f : Fld) (v : Nat) : (s.setF f v).station = s.station := rfl
@[simp] theorem State.setF_mem (s : State) (f : Fld) (v : Nat) : (s.setF f v).mem = s.mem := rfl
@[simp] theorem State.setF_bus (s : State) (f : Fld) (v : Nat) : (s.setF f v).bus = s.bus := rfl
@[simp] theorem State.setF_clock (s : State) (f : Fld) (v : Nat) : (s.setF f v).clock = s.clock := rfl
@[simp] theorem State.setF_sched (s : State) (f : Fld) (v : Nat) : (s.setF f v).sched = s.sched := rfl
@[simp] theorem State.setF_pat (s : State) (f : Fld) (v : Nat) : (s.setF f v).pat = s.pat := rfl
@[simp] theorem State.setF_cores (s : State) (f : Fld) (v : Nat) : (s.setF f v).cores = s.cores := rfl
@[simp] theorem State.setF_queues (s : State) (f : Fld) (v : Nat) : (s.setF f v).queues = s.queues := rfl
@[simp] theorem State.setF_wsig (s : State) (f : Fld) (v : Nat) : (s.setF f v).wsig = s.wsig := rfl
@[simp] theorem State.setF_ecc (s : State) (f : Fld) (v : Nat) : (s.setF f v).ecc = s.ecc := rfl
@[simp] theorem State.setF_tasks (s : State) (f : Fld) (v : Nat) : (s.setF f v).tasks = s.tasks := rfl
@[simp] theorem State.setF_evr (s : State) (f : Fld) (v : Nat) : (s.setF f v).evr = s.evr := rfl
@[simp] theorem State.setF_saf (s : State) (f : Fld) (v : Nat) : (s.setF f v).saf = s.saf := rfl
@[simp] theorem State.setF_fio (s : State) (f : Fld) (v : Nat) : (s.setF f v).fio = s.fio := rfl
@[simp] theorem State.setF_lpe (s : State) (f : Fld) (v : Nat) : (s.setF f v).lpe = s.lpe := rfl
@[simp] theorem State.setF_qps (s : State) (f : Fld) (v : Nat) : (s.setF f v).qps = s.qps := rfl
@[simp] theorem State.setF_net (s : State) (f : Fld) (v : Nat) : (s.setF f v).net = s.net := rfl
@[simp] theorem State.setF_can (s : State) (f : Fld) (v : Nat) : (s.setF f v).can = s.can := rfl
@[simp] theorem State.setF_ptp (s : State) (f : Fld) (v : Nat) : (s.setF f v).ptp = s.ptp := rfl
@[simp] theorem State.setF_pair (s : State) (f : Fld) (v : Nat) : (s.setF f v).pair = s.pair := rfl
@[simp] theorem State.setF_pnl (s : State) (f : Fld) (v : Nat) : (s.setF f v).pnl = s.pnl := rfl
@[simp] theorem State.setF_pwr (s : State) (f : Fld) (v : Nat) : (s.setF f v).pwr = s.pwr := rfl
@[simp] theorem State.setF_upd (s : State) (f : Fld) (v : Nat) : (s.setF f v).upd = s.upd := rfl
@[simp] theorem State.setF_sec (s : State) (f : Fld) (v : Nat) : (s.setF f v).sec = s.sec := rfl
@[simp] theorem State.setF_rst (s : State) (f : Fld) (v : Nat) : (s.setF f v).rst = s.rst := rfl
@[simp] theorem State.setF_tmp (s : State) (f : Fld) (v : Nat) : (s.setF f v).tmp = s.tmp := rfl
@[simp] theorem State.setF_dgt (s : State) (f : Fld) (v : Nat) : (s.setF f v).dgt = s.dgt := rfl
@[simp] theorem State.setF_freeCount (s : State) (f : Fld) (v : Nat) : (s.setF f v).freeCount = s.freeCount := rfl

@[simp] theorem State.setB_pending (s : State) (f : Fld) (b : Bool) : (s.setB f b).pending = s.pending := rfl
@[simp] theorem State.setB_station (s : State) (f : Fld) (b : Bool) : (s.setB f b).station = s.station := rfl
@[simp] theorem State.setB_mem (s : State) (f : Fld) (b : Bool) : (s.setB f b).mem = s.mem := rfl
@[simp] theorem State.setB_bus (s : State) (f : Fld) (b : Bool) : (s.setB f b).bus = s.bus := rfl
@[simp] theorem State.setB_clock (s : State) (f : Fld) (b : Bool) : (s.setB f b).clock = s.clock := rfl
@[simp] theorem State.setB_sched (s : State) (f : Fld) (b : Bool) : (s.setB f b).sched = s.sched := rfl
@[simp] theorem State.setB_pat (s : State) (f : Fld) (b : Bool) : (s.setB f b).pat = s.pat := rfl
@[simp] theorem State.setB_cores (s : State) (f : Fld) (b : Bool) : (s.setB f b).cores = s.cores := rfl
@[simp] theorem State.setB_queues (s : State) (f : Fld) (b : Bool) : (s.setB f b).queues = s.queues := rfl
@[simp] theorem State.setB_wsig (s : State) (f : Fld) (b : Bool) : (s.setB f b).wsig = s.wsig := rfl
@[simp] theorem State.setB_ecc (s : State) (f : Fld) (b : Bool) : (s.setB f b).ecc = s.ecc := rfl
@[simp] theorem State.setB_tasks (s : State) (f : Fld) (b : Bool) : (s.setB f b).tasks = s.tasks := rfl
@[simp] theorem State.setB_evr (s : State) (f : Fld) (b : Bool) : (s.setB f b).evr = s.evr := rfl
@[simp] theorem State.setB_saf (s : State) (f : Fld) (b : Bool) : (s.setB f b).saf = s.saf := rfl
@[simp] theorem State.setB_fio (s : State) (f : Fld) (b : Bool) : (s.setB f b).fio = s.fio := rfl
@[simp] theorem State.setB_lpe (s : State) (f : Fld) (b : Bool) : (s.setB f b).lpe = s.lpe := rfl
@[simp] theorem State.setB_qps (s : State) (f : Fld) (b : Bool) : (s.setB f b).qps = s.qps := rfl
@[simp] theorem State.setB_net (s : State) (f : Fld) (b : Bool) : (s.setB f b).net = s.net := rfl
@[simp] theorem State.setB_can (s : State) (f : Fld) (b : Bool) : (s.setB f b).can = s.can := rfl
@[simp] theorem State.setB_ptp (s : State) (f : Fld) (b : Bool) : (s.setB f b).ptp = s.ptp := rfl
@[simp] theorem State.setB_pair (s : State) (f : Fld) (b : Bool) : (s.setB f b).pair = s.pair := rfl
@[simp] theorem State.setB_pnl (s : State) (f : Fld) (b : Bool) : (s.setB f b).pnl = s.pnl := rfl
@[simp] theorem State.setB_pwr (s : State) (f : Fld) (b : Bool) : (s.setB f b).pwr = s.pwr := rfl
@[simp] theorem State.setB_upd (s : State) (f : Fld) (b : Bool) : (s.setB f b).upd = s.upd := rfl
@[simp] theorem State.setB_sec (s : State) (f : Fld) (b : Bool) : (s.setB f b).sec = s.sec := rfl
@[simp] theorem State.setB_rst (s : State) (f : Fld) (b : Bool) : (s.setB f b).rst = s.rst := rfl
@[simp] theorem State.setB_tmp (s : State) (f : Fld) (b : Bool) : (s.setB f b).tmp = s.tmp := rfl
@[simp] theorem State.setB_dgt (s : State) (f : Fld) (b : Bool) : (s.setB f b).dgt = s.dgt := rfl
@[simp] theorem State.setB_freeCount (s : State) (f : Fld) (b : Bool) : (s.setB f b).freeCount = s.freeCount := rfl

@[simp] theorem State.incSat_pending (s : State) (f : Fld) : (s.incSat f).pending = s.pending := rfl
@[simp] theorem State.incSat_station (s : State) (f : Fld) : (s.incSat f).station = s.station := rfl
@[simp] theorem State.incSat_mem (s : State) (f : Fld) : (s.incSat f).mem = s.mem := rfl
@[simp] theorem State.incSat_bus (s : State) (f : Fld) : (s.incSat f).bus = s.bus := rfl
@[simp] theorem State.incSat_clock (s : State) (f : Fld) : (s.incSat f).clock = s.clock := rfl
@[simp] theorem State.incSat_sched (s : State) (f : Fld) : (s.incSat f).sched = s.sched := rfl
@[simp] theorem State.incSat_pat (s : State) (f : Fld) : (s.incSat f).pat = s.pat := rfl
@[simp] theorem State.incSat_cores (s : State) (f : Fld) : (s.incSat f).cores = s.cores := rfl
@[simp] theorem State.incSat_queues (s : State) (f : Fld) : (s.incSat f).queues = s.queues := rfl
@[simp] theorem State.incSat_wsig (s : State) (f : Fld) : (s.incSat f).wsig = s.wsig := rfl
@[simp] theorem State.incSat_ecc (s : State) (f : Fld) : (s.incSat f).ecc = s.ecc := rfl
@[simp] theorem State.incSat_tasks (s : State) (f : Fld) : (s.incSat f).tasks = s.tasks := rfl
@[simp] theorem State.incSat_evr (s : State) (f : Fld) : (s.incSat f).evr = s.evr := rfl
@[simp] theorem State.incSat_saf (s : State) (f : Fld) : (s.incSat f).saf = s.saf := rfl
@[simp] theorem State.incSat_fio (s : State) (f : Fld) : (s.incSat f).fio = s.fio := rfl
@[simp] theorem State.incSat_lpe (s : State) (f : Fld) : (s.incSat f).lpe = s.lpe := rfl
@[simp] theorem State.incSat_qps (s : State) (f : Fld) : (s.incSat f).qps = s.qps := rfl
@[simp] theorem State.incSat_net (s : State) (f : Fld) : (s.incSat f).net = s.net := rfl
@[simp] theorem State.incSat_can (s : State) (f : Fld) : (s.incSat f).can = s.can := rfl
@[simp] theorem State.incSat_ptp (s : State) (f : Fld) : (s.incSat f).ptp = s.ptp := rfl
@[simp] theorem State.incSat_pair (s : State) (f : Fld) : (s.incSat f).pair = s.pair := rfl
@[simp] theorem State.incSat_pnl (s : State) (f : Fld) : (s.incSat f).pnl = s.pnl := rfl
@[simp] theorem State.incSat_pwr (s : State) (f : Fld) : (s.incSat f).pwr = s.pwr := rfl
@[simp] theorem State.incSat_upd (s : State) (f : Fld) : (s.incSat f).upd = s.upd := rfl
@[simp] theorem State.incSat_sec (s : State) (f : Fld) : (s.incSat f).sec = s.sec := rfl
@[simp] theorem State.incSat_rst (s : State) (f : Fld) : (s.incSat f).rst = s.rst := rfl
@[simp] theorem State.incSat_tmp (s : State) (f : Fld) : (s.incSat f).tmp = s.tmp := rfl
@[simp] theorem State.incSat_dgt (s : State) (f : Fld) : (s.incSat f).dgt = s.dgt := rfl
@[simp] theorem State.incSat_freeCount (s : State) (f : Fld) : (s.incSat f).freeCount = s.freeCount := rfl

@[simp] theorem State.incWrap_pending (s : State) (f : Fld) : (s.incWrap f).pending = s.pending := rfl
@[simp] theorem State.incWrap_station (s : State) (f : Fld) : (s.incWrap f).station = s.station := rfl
@[simp] theorem State.incWrap_mem (s : State) (f : Fld) : (s.incWrap f).mem = s.mem := rfl
@[simp] theorem State.incWrap_bus (s : State) (f : Fld) : (s.incWrap f).bus = s.bus := rfl
@[simp] theorem State.incWrap_clock (s : State) (f : Fld) : (s.incWrap f).clock = s.clock := rfl
@[simp] theorem State.incWrap_sched (s : State) (f : Fld) : (s.incWrap f).sched = s.sched := rfl
@[simp] theorem State.incWrap_pat (s : State) (f : Fld) : (s.incWrap f).pat = s.pat := rfl
@[simp] theorem State.incWrap_cores (s : State) (f : Fld) : (s.incWrap f).cores = s.cores := rfl
@[simp] theorem State.incWrap_queues (s : State) (f : Fld) : (s.incWrap f).queues = s.queues := rfl
@[simp] theorem State.incWrap_wsig (s : State) (f : Fld) : (s.incWrap f).wsig = s.wsig := rfl
@[simp] theorem State.incWrap_ecc (s : State) (f : Fld) : (s.incWrap f).ecc = s.ecc := rfl
@[simp] theorem State.incWrap_tasks (s : State) (f : Fld) : (s.incWrap f).tasks = s.tasks := rfl
@[simp] theorem State.incWrap_evr (s : State) (f : Fld) : (s.incWrap f).evr = s.evr := rfl
@[simp] theorem State.incWrap_saf (s : State) (f : Fld) : (s.incWrap f).saf = s.saf := rfl
@[simp] theorem State.incWrap_fio (s : State) (f : Fld) : (s.incWrap f).fio = s.fio := rfl
@[simp] theorem State.incWrap_lpe (s : State) (f : Fld) : (s.incWrap f).lpe = s.lpe := rfl
@[simp] theorem State.incWrap_qps (s : State) (f : Fld) : (s.incWrap f).qps = s.qps := rfl
@[simp] theorem State.incWrap_net (s : State) (f : Fld) : (s.incWrap f).net = s.net := rfl
@[simp] theorem State.incWrap_can (s : State) (f : Fld) : (s.incWrap f).can = s.can := rfl
@[simp] theorem State.incWrap_ptp (s : State) (f : Fld) : (s.incWrap f).ptp = s.ptp := rfl
@[simp] theorem State.incWrap_pair (s : State) (f : Fld) : (s.incWrap f).pair = s.pair := rfl
@[simp] theorem State.incWrap_pnl (s : State) (f : Fld) : (s.incWrap f).pnl = s.pnl := rfl
@[simp] theorem State.incWrap_pwr (s : State) (f : Fld) : (s.incWrap f).pwr = s.pwr := rfl
@[simp] theorem State.incWrap_upd (s : State) (f : Fld) : (s.incWrap f).upd = s.upd := rfl
@[simp] theorem State.incWrap_sec (s : State) (f : Fld) : (s.incWrap f).sec = s.sec := rfl
@[simp] theorem State.incWrap_rst (s : State) (f : Fld) : (s.incWrap f).rst = s.rst := rfl
@[simp] theorem State.incWrap_tmp (s : State) (f : Fld) : (s.incWrap f).tmp = s.tmp := rfl
@[simp] theorem State.incWrap_dgt (s : State) (f : Fld) : (s.incWrap f).dgt = s.dgt := rfl
@[simp] theorem State.incWrap_freeCount (s : State) (f : Fld) : (s.incWrap f).freeCount = s.freeCount := rfl

@[simp] theorem State.wrByte_pending (s : State) (a : Nat) (b : BitVec 8) : (s.wrByte a b).pending = s.pending := rfl
@[simp] theorem State.wrByte_station (s : State) (a : Nat) (b : BitVec 8) : (s.wrByte a b).station = s.station := rfl
@[simp] theorem State.wrByte_bus (s : State) (a : Nat) (b : BitVec 8) : (s.wrByte a b).bus = s.bus := rfl
@[simp] theorem State.wrByte_clock (s : State) (a : Nat) (b : BitVec 8) : (s.wrByte a b).clock = s.clock := rfl
@[simp] theorem State.wrByte_sched (s : State) (a : Nat) (b : BitVec 8) : (s.wrByte a b).sched = s.sched := rfl
@[simp] theorem State.wrByte_pat (s : State) (a : Nat) (b : BitVec 8) : (s.wrByte a b).pat = s.pat := rfl
@[simp] theorem State.wrByte_cores (s : State) (a : Nat) (b : BitVec 8) : (s.wrByte a b).cores = s.cores := rfl
@[simp] theorem State.wrByte_queues (s : State) (a : Nat) (b : BitVec 8) : (s.wrByte a b).queues = s.queues := rfl
@[simp] theorem State.wrByte_wsig (s : State) (a : Nat) (b : BitVec 8) : (s.wrByte a b).wsig = s.wsig := rfl
@[simp] theorem State.wrByte_ecc (s : State) (a : Nat) (b : BitVec 8) : (s.wrByte a b).ecc = s.ecc := rfl
@[simp] theorem State.wrByte_tasks (s : State) (a : Nat) (b : BitVec 8) : (s.wrByte a b).tasks = s.tasks := rfl
@[simp] theorem State.wrByte_evr (s : State) (a : Nat) (b : BitVec 8) : (s.wrByte a b).evr = s.evr := rfl
@[simp] theorem State.wrByte_saf (s : State) (a : Nat) (b : BitVec 8) : (s.wrByte a b).saf = s.saf := rfl
@[simp] theorem State.wrByte_fio (s : State) (a : Nat) (b : BitVec 8) : (s.wrByte a b).fio = s.fio := rfl
@[simp] theorem State.wrByte_lpe (s : State) (a : Nat) (b : BitVec 8) : (s.wrByte a b).lpe = s.lpe := rfl
@[simp] theorem State.wrByte_qps (s : State) (a : Nat) (b : BitVec 8) : (s.wrByte a b).qps = s.qps := rfl
@[simp] theorem State.wrByte_net (s : State) (a : Nat) (b : BitVec 8) : (s.wrByte a b).net = s.net := rfl
@[simp] theorem State.wrByte_can (s : State) (a : Nat) (b : BitVec 8) : (s.wrByte a b).can = s.can := rfl
@[simp] theorem State.wrByte_ptp (s : State) (a : Nat) (b : BitVec 8) : (s.wrByte a b).ptp = s.ptp := rfl
@[simp] theorem State.wrByte_pair (s : State) (a : Nat) (b : BitVec 8) : (s.wrByte a b).pair = s.pair := rfl
@[simp] theorem State.wrByte_pnl (s : State) (a : Nat) (b : BitVec 8) : (s.wrByte a b).pnl = s.pnl := rfl
@[simp] theorem State.wrByte_pwr (s : State) (a : Nat) (b : BitVec 8) : (s.wrByte a b).pwr = s.pwr := rfl
@[simp] theorem State.wrByte_upd (s : State) (a : Nat) (b : BitVec 8) : (s.wrByte a b).upd = s.upd := rfl
@[simp] theorem State.wrByte_sec (s : State) (a : Nat) (b : BitVec 8) : (s.wrByte a b).sec = s.sec := rfl
@[simp] theorem State.wrByte_rst (s : State) (a : Nat) (b : BitVec 8) : (s.wrByte a b).rst = s.rst := rfl
@[simp] theorem State.wrByte_tmp (s : State) (a : Nat) (b : BitVec 8) : (s.wrByte a b).tmp = s.tmp := rfl
@[simp] theorem State.wrByte_dgt (s : State) (a : Nat) (b : BitVec 8) : (s.wrByte a b).dgt = s.dgt := rfl
@[simp] theorem State.wrByte_freeCount (s : State) (a : Nat) (b : BitVec 8) : (s.wrByte a b).freeCount = s.freeCount := rfl
@[simp] theorem State.wrByte_regs (s : State) (a : Nat) (b : BitVec 8) : (s.wrByte a b).regs = s.regs := rfl

@[simp] theorem State.wrBytes_pending (s : State) (a : Nat) (bs : Bytes) : (s.wrBytes a bs).pending = s.pending := rfl
@[simp] theorem State.wrBytes_station (s : State) (a : Nat) (bs : Bytes) : (s.wrBytes a bs).station = s.station := rfl
@[simp] theorem State.wrBytes_bus (s : State) (a : Nat) (bs : Bytes) : (s.wrBytes a bs).bus = s.bus := rfl
@[simp] theorem State.wrBytes_clock (s : State) (a : Nat) (bs : Bytes) : (s.wrBytes a bs).clock = s.clock := rfl
@[simp] theorem State.wrBytes_sched (s : State) (a : Nat) (bs : Bytes) : (s.wrBytes a bs).sched = s.sched := rfl
@[simp] theorem State.wrBytes_pat (s : State) (a : Nat) (bs : Bytes) : (s.wrBytes a bs).pat = s.pat := rfl
@[simp] theorem State.wrBytes_cores (s : State) (a : Nat) (bs : Bytes) : (s.wrBytes a bs).cores = s.cores := rfl
@[simp] theorem State.wrBytes_queues (s : State) (a : Nat) (bs : Bytes) : (s.wrBytes a bs).queues = s.queues := rfl
@[simp] theorem State.wrBytes_wsig (s : State) (a : Nat) (bs : Bytes) : (s.wrBytes a bs).wsig = s.wsig := rfl
@[simp] theorem State.wrBytes_ecc (s : State) (a : Nat) (bs : Bytes) : (s.wrBytes a bs).ecc = s.ecc := rfl
@[simp] theorem State.wrBytes_tasks (s : State) (a : Nat) (bs : Bytes) : (s.wrBytes a bs).tasks = s.tasks := rfl
@[simp] theorem State.wrBytes_evr (s : State) (a : Nat) (bs : Bytes) : (s.wrBytes a bs).evr = s.evr := rfl
@[simp] theorem State.wrBytes_saf (s : State) (a : Nat) (bs : Bytes) : (s.wrBytes a bs).saf = s.saf := rfl
@[simp] theorem State.wrBytes_fio (s : State) (a : Nat) (bs : Bytes) : (s.wrBytes a bs).fio = s.fio := rfl
@[simp] theorem State.wrBytes_lpe (s : State) (a : Nat) (bs : Bytes) : (s.wrBytes a bs).lpe = s.lpe := rfl
@[simp] theorem State.wrBytes_qps (s : State) (a : Nat) (bs : Bytes) : (s.wrBytes a bs).qps = s.qps := rfl
@[simp] theorem State.wrBytes_net (s : State) (a : Nat) (bs : Bytes) : (s.wrBytes a bs).net = s.net := rfl
@[simp] theorem State.wrBytes_can (s : State) (a : Nat) (bs : Bytes) : (s.wrBytes a bs).can = s.can := rfl
@[simp] theorem State.wrBytes_ptp (s : State) (a : Nat) (bs : Bytes) : (s.wrBytes a bs).ptp = s.ptp := rfl
@[simp] theorem State.wrBytes_pair (s : State) (a : Nat) (bs : Bytes) : (s.wrBytes a bs).pair = s.pair := rfl
@[simp] theorem State.wrBytes_pnl (s : State) (a : Nat) (bs : Bytes) : (s.wrBytes a bs).pnl = s.pnl := rfl
@[simp] theorem State.wrBytes_pwr (s : State) (a : Nat) (bs : Bytes) : (s.wrBytes a bs).pwr = s.pwr := rfl
@[simp] theorem State.wrBytes_upd (s : State) (a : Nat) (bs : Bytes) : (s.wrBytes a bs).upd = s.upd := rfl
@[simp] theorem State.wrBytes_sec (s : State) (a : Nat) (bs : Bytes) : (s.wrBytes a bs).sec = s.sec := rfl
@[simp] theorem State.wrBytes_rst (s : State) (a : Nat) (bs : Bytes) : (s.wrBytes a bs).rst = s.rst := rfl
@[simp] theorem State.wrBytes_tmp (s : State) (a : Nat) (bs : Bytes) : (s.wrBytes a bs).tmp = s.tmp := rfl
@[simp] theorem State.wrBytes_dgt (s : State) (a : Nat) (bs : Bytes) : (s.wrBytes a bs).dgt = s.dgt := rfl
@[simp] theorem State.wrBytes_freeCount (s : State) (a : Nat) (bs : Bytes) : (s.wrBytes a bs).freeCount = s.freeCount := rfl
@[simp] theorem State.wrBytes_regs (s : State) (a : Nat) (bs : Bytes) : (s.wrBytes a bs).regs = s.regs := rfl

@[simp] theorem State.wrLe_pending (s : State) (a n v : Nat) : (s.wrLe a n v).pending = s.pending := rfl
@[simp] theorem State.wrLe_station (s : State) (a n v : Nat) : (s.wrLe a n v).station = s.station := rfl
@[simp] theorem State.wrLe_bus (s : State) (a n v : Nat) : (s.wrLe a n v).bus = s.bus := rfl
@[simp] theorem State.wrLe_clock (s : State) (a n v : Nat) : (s.wrLe a n v).clock = s.clock := rfl
@[simp] theorem State.wrLe_sched (s : State) (a n v : Nat) : (s.wrLe a n v).sched = s.sched := rfl
@[simp] theorem State.wrLe_pat (s : State) (a n v : Nat) : (s.wrLe a n v).pat = s.pat := rfl
@[simp] theorem State.wrLe_cores (s : State) (a n v : Nat) : (s.wrLe a n v).cores = s.cores := rfl
@[simp] theorem State.wrLe_queues (s : State) (a n v : Nat) : (s.wrLe a n v).queues = s.queues := rfl
@[simp] theorem State.wrLe_wsig (s : State) (a n v : Nat) : (s.wrLe a n v).wsig = s.wsig := rfl
@[simp] theorem State.wrLe_ecc (s : State) (a n v : Nat) : (s.wrLe a n v).ecc = s.ecc := rfl
@[simp] theorem State.wrLe_tasks (s : State) (a n v : Nat) : (s.wrLe a n v).tasks = s.tasks := rfl
@[simp] theorem State.wrLe_evr (s : State) (a n v : Nat) : (s.wrLe a n v).evr = s.evr := rfl
@[simp] theorem State.wrLe_saf (s : State) (a n v : Nat) : (s.wrLe a n v).saf = s.saf := rfl
@[simp] theorem State.wrLe_fio (s : State) (a n v : Nat) : (s.wrLe a n v).fio = s.fio := rfl
@[simp] theorem State.wrLe_lpe (s : State) (a n v : Nat) : (s.wrLe a n v).lpe = s.lpe := rfl
@[simp] theorem State.wrLe_qps (s : State) (a n v : Nat) : (s.wrLe a n v).qps = s.qps := rfl
@[simp] theorem State.wrLe_net (s : State) (a n v : Nat) : (s.wrLe a n v).net = s.net := rfl
@[simp] theorem State.wrLe_can (s : State) (a n v : Nat) : (s.wrLe a n v).can = s.can := rfl
@[simp] theorem State.wrLe_ptp (s : State) (a n v : Nat) : (s.wrLe a n v).ptp = s.ptp := rfl
@[simp] theorem State.wrLe_pair (s : State) (a n v : Nat) : (s.wrLe a n v).pair = s.pair := rfl
@[simp] theorem State.wrLe_pnl (s : State) (a n v : Nat) : (s.wrLe a n v).pnl = s.pnl := rfl
@[simp] theorem State.wrLe_pwr (s : State) (a n v : Nat) : (s.wrLe a n v).pwr = s.pwr := rfl
@[simp] theorem State.wrLe_upd (s : State) (a n v : Nat) : (s.wrLe a n v).upd = s.upd := rfl
@[simp] theorem State.wrLe_sec (s : State) (a n v : Nat) : (s.wrLe a n v).sec = s.sec := rfl
@[simp] theorem State.wrLe_rst (s : State) (a n v : Nat) : (s.wrLe a n v).rst = s.rst := rfl
@[simp] theorem State.wrLe_tmp (s : State) (a n v : Nat) : (s.wrLe a n v).tmp = s.tmp := rfl
@[simp] theorem State.wrLe_dgt (s : State) (a n v : Nat) : (s.wrLe a n v).dgt = s.dgt := rfl
@[simp] theorem State.wrLe_freeCount (s : State) (a n v : Nat) : (s.wrLe a n v).freeCount = s.freeCount := rfl
@[simp] theorem State.wrLe_regs (s : State) (a n v : Nat) : (s.wrLe a n v).regs = s.regs := rfl

@[simp] theorem State.clearRange_pending (s : State) (lo n : Nat) : (s.clearRange lo n).pending = s.pending := rfl
@[simp] theorem State.clearRange_station (s : State) (lo n : Nat) : (s.clearRange lo n).station = s.station := rfl
@[simp] theorem State.clearRange_bus (s : State) (lo n : Nat) : (s.clearRange lo n).bus = s.bus := rfl
@[simp] theorem State.clearRange_clock (s : State) (lo n : Nat) : (s.clearRange lo n).clock = s.clock := rfl
@[simp] theorem State.clearRange_sched (s : State) (lo n : Nat) : (s.clearRange lo n).sched = s.sched := rfl
@[simp] theorem State.clearRange_pat (s : State) (lo n : Nat) : (s.clearRange lo n).pat = s.pat := rfl
@[simp] theorem State.clearRange_cores (s : State) (lo n : Nat) : (s.clearRange lo n).cores = s.cores := rfl
@[simp] theorem State.clearRange_queues (s : State) (lo n : Nat) : (s.clearRange lo n).queues = s.queues := rfl
@[simp] theorem State.clearRange_wsig (s : State) (lo n : Nat) : (s.clearRange lo n).wsig = s.wsig := rfl
@[simp] theorem State.clearRange_ecc (s : State) (lo n : Nat) : (s.clearRange lo n).ecc = s.ecc := rfl
@[simp] theorem State.clearRange_tasks (s : State) (lo n : Nat) : (s.clearRange lo n).tasks = s.tasks := rfl
@[simp] theorem State.clearRange_evr (s : State) (lo n : Nat) : (s.clearRange lo n).evr = s.evr := rfl
@[simp] theorem State.clearRange_saf (s : State) (lo n : Nat) : (s.clearRange lo n).saf = s.saf := rfl
@[simp] theorem State.clearRange_fio (s : State) (lo n : Nat) : (s.clearRange lo n).fio = s.fio := rfl
@[simp] theorem State.clearRange_lpe (s : State) (lo n : Nat) : (s.clearRange lo n).lpe = s.lpe := rfl
@[simp] theorem State.clearRange_qps (s : State) (lo n : Nat) : (s.clearRange lo n).qps = s.qps := rfl
@[simp] theorem State.clearRange_net (s : State) (lo n : Nat) : (s.clearRange lo n).net = s.net := rfl
@[simp] theorem State.clearRange_can (s : State) (lo n : Nat) : (s.clearRange lo n).can = s.can := rfl
@[simp] theorem State.clearRange_ptp (s : State) (lo n : Nat) : (s.clearRange lo n).ptp = s.ptp := rfl
@[simp] theorem State.clearRange_pair (s : State) (lo n : Nat) : (s.clearRange lo n).pair = s.pair := rfl
@[simp] theorem State.clearRange_pnl (s : State) (lo n : Nat) : (s.clearRange lo n).pnl = s.pnl := rfl
@[simp] theorem State.clearRange_pwr (s : State) (lo n : Nat) : (s.clearRange lo n).pwr = s.pwr := rfl
@[simp] theorem State.clearRange_upd (s : State) (lo n : Nat) : (s.clearRange lo n).upd = s.upd := rfl
@[simp] theorem State.clearRange_sec (s : State) (lo n : Nat) : (s.clearRange lo n).sec = s.sec := rfl
@[simp] theorem State.clearRange_rst (s : State) (lo n : Nat) : (s.clearRange lo n).rst = s.rst := rfl
@[simp] theorem State.clearRange_tmp (s : State) (lo n : Nat) : (s.clearRange lo n).tmp = s.tmp := rfl
@[simp] theorem State.clearRange_dgt (s : State) (lo n : Nat) : (s.clearRange lo n).dgt = s.dgt := rfl
@[simp] theorem State.clearRange_freeCount (s : State) (lo n : Nat) : (s.clearRange lo n).freeCount = s.freeCount := rfl
@[simp] theorem State.clearRange_regs (s : State) (lo n : Nat) : (s.clearRange lo n).regs = s.regs := rfl

@[simp] theorem State.setAgent_pending (s : State) (a : Nat) (x : Agent) : (s.setAgent a x).pending = s.pending := rfl
@[simp] theorem State.setAgent_station (s : State) (a : Nat) (x : Agent) : (s.setAgent a x).station = s.station := rfl
@[simp] theorem State.setAgent_mem (s : State) (a : Nat) (x : Agent) : (s.setAgent a x).mem = s.mem := rfl
@[simp] theorem State.setAgent_bus (s : State) (a : Nat) (x : Agent) : (s.setAgent a x).bus = s.bus := rfl
@[simp] theorem State.setAgent_clock (s : State) (a : Nat) (x : Agent) : (s.setAgent a x).clock = s.clock := rfl
@[simp] theorem State.setAgent_pat (s : State) (a : Nat) (x : Agent) : (s.setAgent a x).pat = s.pat := rfl
@[simp] theorem State.setAgent_cores (s : State) (a : Nat) (x : Agent) : (s.setAgent a x).cores = s.cores := rfl
@[simp] theorem State.setAgent_queues (s : State) (a : Nat) (x : Agent) : (s.setAgent a x).queues = s.queues := rfl
@[simp] theorem State.setAgent_wsig (s : State) (a : Nat) (x : Agent) : (s.setAgent a x).wsig = s.wsig := rfl
@[simp] theorem State.setAgent_ecc (s : State) (a : Nat) (x : Agent) : (s.setAgent a x).ecc = s.ecc := rfl
@[simp] theorem State.setAgent_tasks (s : State) (a : Nat) (x : Agent) : (s.setAgent a x).tasks = s.tasks := rfl
@[simp] theorem State.setAgent_evr (s : State) (a : Nat) (x : Agent) : (s.setAgent a x).evr = s.evr := rfl
@[simp] theorem State.setAgent_saf (s : State) (a : Nat) (x : Agent) : (s.setAgent a x).saf = s.saf := rfl
@[simp] theorem State.setAgent_fio (s : State) (a : Nat) (x : Agent) : (s.setAgent a x).fio = s.fio := rfl
@[simp] theorem State.setAgent_lpe (s : State) (a : Nat) (x : Agent) : (s.setAgent a x).lpe = s.lpe := rfl
@[simp] theorem State.setAgent_qps (s : State) (a : Nat) (x : Agent) : (s.setAgent a x).qps = s.qps := rfl
@[simp] theorem State.setAgent_net (s : State) (a : Nat) (x : Agent) : (s.setAgent a x).net = s.net := rfl
@[simp] theorem State.setAgent_can (s : State) (a : Nat) (x : Agent) : (s.setAgent a x).can = s.can := rfl
@[simp] theorem State.setAgent_ptp (s : State) (a : Nat) (x : Agent) : (s.setAgent a x).ptp = s.ptp := rfl
@[simp] theorem State.setAgent_pair (s : State) (a : Nat) (x : Agent) : (s.setAgent a x).pair = s.pair := rfl
@[simp] theorem State.setAgent_pnl (s : State) (a : Nat) (x : Agent) : (s.setAgent a x).pnl = s.pnl := rfl
@[simp] theorem State.setAgent_pwr (s : State) (a : Nat) (x : Agent) : (s.setAgent a x).pwr = s.pwr := rfl
@[simp] theorem State.setAgent_upd (s : State) (a : Nat) (x : Agent) : (s.setAgent a x).upd = s.upd := rfl
@[simp] theorem State.setAgent_sec (s : State) (a : Nat) (x : Agent) : (s.setAgent a x).sec = s.sec := rfl
@[simp] theorem State.setAgent_rst (s : State) (a : Nat) (x : Agent) : (s.setAgent a x).rst = s.rst := rfl
@[simp] theorem State.setAgent_tmp (s : State) (a : Nat) (x : Agent) : (s.setAgent a x).tmp = s.tmp := rfl
@[simp] theorem State.setAgent_dgt (s : State) (a : Nat) (x : Agent) : (s.setAgent a x).dgt = s.dgt := rfl
@[simp] theorem State.setAgent_freeCount (s : State) (a : Nat) (x : Agent) : (s.setAgent a x).freeCount = s.freeCount := rfl
@[simp] theorem State.setAgent_regs (s : State) (a : Nat) (x : Agent) : (s.setAgent a x).regs = s.regs := rfl

@[simp] theorem State.setCore_pending (s : State) (c : Nat) (x : Core) : (s.setCore c x).pending = s.pending := rfl
@[simp] theorem State.setCore_station (s : State) (c : Nat) (x : Core) : (s.setCore c x).station = s.station := rfl
@[simp] theorem State.setCore_mem (s : State) (c : Nat) (x : Core) : (s.setCore c x).mem = s.mem := rfl
@[simp] theorem State.setCore_bus (s : State) (c : Nat) (x : Core) : (s.setCore c x).bus = s.bus := rfl
@[simp] theorem State.setCore_clock (s : State) (c : Nat) (x : Core) : (s.setCore c x).clock = s.clock := rfl
@[simp] theorem State.setCore_sched (s : State) (c : Nat) (x : Core) : (s.setCore c x).sched = s.sched := rfl
@[simp] theorem State.setCore_pat (s : State) (c : Nat) (x : Core) : (s.setCore c x).pat = s.pat := rfl
@[simp] theorem State.setCore_queues (s : State) (c : Nat) (x : Core) : (s.setCore c x).queues = s.queues := rfl
@[simp] theorem State.setCore_wsig (s : State) (c : Nat) (x : Core) : (s.setCore c x).wsig = s.wsig := rfl
@[simp] theorem State.setCore_ecc (s : State) (c : Nat) (x : Core) : (s.setCore c x).ecc = s.ecc := rfl
@[simp] theorem State.setCore_tasks (s : State) (c : Nat) (x : Core) : (s.setCore c x).tasks = s.tasks := rfl
@[simp] theorem State.setCore_evr (s : State) (c : Nat) (x : Core) : (s.setCore c x).evr = s.evr := rfl
@[simp] theorem State.setCore_saf (s : State) (c : Nat) (x : Core) : (s.setCore c x).saf = s.saf := rfl
@[simp] theorem State.setCore_fio (s : State) (c : Nat) (x : Core) : (s.setCore c x).fio = s.fio := rfl
@[simp] theorem State.setCore_lpe (s : State) (c : Nat) (x : Core) : (s.setCore c x).lpe = s.lpe := rfl
@[simp] theorem State.setCore_qps (s : State) (c : Nat) (x : Core) : (s.setCore c x).qps = s.qps := rfl
@[simp] theorem State.setCore_net (s : State) (c : Nat) (x : Core) : (s.setCore c x).net = s.net := rfl
@[simp] theorem State.setCore_can (s : State) (c : Nat) (x : Core) : (s.setCore c x).can = s.can := rfl
@[simp] theorem State.setCore_ptp (s : State) (c : Nat) (x : Core) : (s.setCore c x).ptp = s.ptp := rfl
@[simp] theorem State.setCore_pair (s : State) (c : Nat) (x : Core) : (s.setCore c x).pair = s.pair := rfl
@[simp] theorem State.setCore_pnl (s : State) (c : Nat) (x : Core) : (s.setCore c x).pnl = s.pnl := rfl
@[simp] theorem State.setCore_pwr (s : State) (c : Nat) (x : Core) : (s.setCore c x).pwr = s.pwr := rfl
@[simp] theorem State.setCore_upd (s : State) (c : Nat) (x : Core) : (s.setCore c x).upd = s.upd := rfl
@[simp] theorem State.setCore_sec (s : State) (c : Nat) (x : Core) : (s.setCore c x).sec = s.sec := rfl
@[simp] theorem State.setCore_rst (s : State) (c : Nat) (x : Core) : (s.setCore c x).rst = s.rst := rfl
@[simp] theorem State.setCore_tmp (s : State) (c : Nat) (x : Core) : (s.setCore c x).tmp = s.tmp := rfl
@[simp] theorem State.setCore_dgt (s : State) (c : Nat) (x : Core) : (s.setCore c x).dgt = s.dgt := rfl
@[simp] theorem State.setCore_freeCount (s : State) (c : Nat) (x : Core) : (s.setCore c x).freeCount = s.freeCount := rfl
@[simp] theorem State.setCore_regs (s : State) (c : Nat) (x : Core) : (s.setCore c x).regs = s.regs := rfl

@[simp] theorem State.setQueue_pending (s : State) (q : Nat) (x : QueueState) : (s.setQueue q x).pending = s.pending := rfl
@[simp] theorem State.setQueue_station (s : State) (q : Nat) (x : QueueState) : (s.setQueue q x).station = s.station := rfl
@[simp] theorem State.setQueue_mem (s : State) (q : Nat) (x : QueueState) : (s.setQueue q x).mem = s.mem := rfl
@[simp] theorem State.setQueue_bus (s : State) (q : Nat) (x : QueueState) : (s.setQueue q x).bus = s.bus := rfl
@[simp] theorem State.setQueue_clock (s : State) (q : Nat) (x : QueueState) : (s.setQueue q x).clock = s.clock := rfl
@[simp] theorem State.setQueue_sched (s : State) (q : Nat) (x : QueueState) : (s.setQueue q x).sched = s.sched := rfl
@[simp] theorem State.setQueue_pat (s : State) (q : Nat) (x : QueueState) : (s.setQueue q x).pat = s.pat := rfl
@[simp] theorem State.setQueue_cores (s : State) (q : Nat) (x : QueueState) : (s.setQueue q x).cores = s.cores := rfl
@[simp] theorem State.setQueue_wsig (s : State) (q : Nat) (x : QueueState) : (s.setQueue q x).wsig = s.wsig := rfl
@[simp] theorem State.setQueue_ecc (s : State) (q : Nat) (x : QueueState) : (s.setQueue q x).ecc = s.ecc := rfl
@[simp] theorem State.setQueue_tasks (s : State) (q : Nat) (x : QueueState) : (s.setQueue q x).tasks = s.tasks := rfl
@[simp] theorem State.setQueue_evr (s : State) (q : Nat) (x : QueueState) : (s.setQueue q x).evr = s.evr := rfl
@[simp] theorem State.setQueue_saf (s : State) (q : Nat) (x : QueueState) : (s.setQueue q x).saf = s.saf := rfl
@[simp] theorem State.setQueue_fio (s : State) (q : Nat) (x : QueueState) : (s.setQueue q x).fio = s.fio := rfl
@[simp] theorem State.setQueue_lpe (s : State) (q : Nat) (x : QueueState) : (s.setQueue q x).lpe = s.lpe := rfl
@[simp] theorem State.setQueue_qps (s : State) (q : Nat) (x : QueueState) : (s.setQueue q x).qps = s.qps := rfl
@[simp] theorem State.setQueue_net (s : State) (q : Nat) (x : QueueState) : (s.setQueue q x).net = s.net := rfl
@[simp] theorem State.setQueue_can (s : State) (q : Nat) (x : QueueState) : (s.setQueue q x).can = s.can := rfl
@[simp] theorem State.setQueue_ptp (s : State) (q : Nat) (x : QueueState) : (s.setQueue q x).ptp = s.ptp := rfl
@[simp] theorem State.setQueue_pair (s : State) (q : Nat) (x : QueueState) : (s.setQueue q x).pair = s.pair := rfl
@[simp] theorem State.setQueue_pnl (s : State) (q : Nat) (x : QueueState) : (s.setQueue q x).pnl = s.pnl := rfl
@[simp] theorem State.setQueue_pwr (s : State) (q : Nat) (x : QueueState) : (s.setQueue q x).pwr = s.pwr := rfl
@[simp] theorem State.setQueue_upd (s : State) (q : Nat) (x : QueueState) : (s.setQueue q x).upd = s.upd := rfl
@[simp] theorem State.setQueue_sec (s : State) (q : Nat) (x : QueueState) : (s.setQueue q x).sec = s.sec := rfl
@[simp] theorem State.setQueue_rst (s : State) (q : Nat) (x : QueueState) : (s.setQueue q x).rst = s.rst := rfl
@[simp] theorem State.setQueue_tmp (s : State) (q : Nat) (x : QueueState) : (s.setQueue q x).tmp = s.tmp := rfl
@[simp] theorem State.setQueue_dgt (s : State) (q : Nat) (x : QueueState) : (s.setQueue q x).dgt = s.dgt := rfl
@[simp] theorem State.setQueue_freeCount (s : State) (q : Nat) (x : QueueState) : (s.setQueue q x).freeCount = s.freeCount := rfl
@[simp] theorem State.setQueue_regs (s : State) (q : Nat) (x : QueueState) : (s.setQueue q x).regs = s.regs := rfl

@[simp] theorem State.raiseCls_pending (s : State) (code source cls : Nat) (payload : List Nat) : (s.raiseCls code source cls payload).pending = s.pending := by
  simp only [State.raiseCls]; split_ifs <;> rfl
@[simp] theorem State.raiseCls_station (s : State) (code source cls : Nat) (payload : List Nat) : (s.raiseCls code source cls payload).station = s.station := by
  simp only [State.raiseCls]; split_ifs <;> rfl
@[simp] theorem State.raiseCls_mem (s : State) (code source cls : Nat) (payload : List Nat) : (s.raiseCls code source cls payload).mem = s.mem := by
  simp only [State.raiseCls]; split_ifs <;> rfl
@[simp] theorem State.raiseCls_bus (s : State) (code source cls : Nat) (payload : List Nat) : (s.raiseCls code source cls payload).bus = s.bus := by
  simp only [State.raiseCls]; split_ifs <;> rfl
@[simp] theorem State.raiseCls_clock (s : State) (code source cls : Nat) (payload : List Nat) : (s.raiseCls code source cls payload).clock = s.clock := by
  simp only [State.raiseCls]; split_ifs <;> rfl
@[simp] theorem State.raiseCls_sched (s : State) (code source cls : Nat) (payload : List Nat) : (s.raiseCls code source cls payload).sched = s.sched := by
  simp only [State.raiseCls]; split_ifs <;> rfl
@[simp] theorem State.raiseCls_pat (s : State) (code source cls : Nat) (payload : List Nat) : (s.raiseCls code source cls payload).pat = s.pat := by
  simp only [State.raiseCls]; split_ifs <;> rfl
@[simp] theorem State.raiseCls_cores (s : State) (code source cls : Nat) (payload : List Nat) : (s.raiseCls code source cls payload).cores = s.cores := by
  simp only [State.raiseCls]; split_ifs <;> rfl
@[simp] theorem State.raiseCls_queues (s : State) (code source cls : Nat) (payload : List Nat) : (s.raiseCls code source cls payload).queues = s.queues := by
  simp only [State.raiseCls]; split_ifs <;> rfl
@[simp] theorem State.raiseCls_wsig (s : State) (code source cls : Nat) (payload : List Nat) : (s.raiseCls code source cls payload).wsig = s.wsig := by
  simp only [State.raiseCls]; split_ifs <;> rfl
@[simp] theorem State.raiseCls_ecc (s : State) (code source cls : Nat) (payload : List Nat) : (s.raiseCls code source cls payload).ecc = s.ecc := by
  simp only [State.raiseCls]; split_ifs <;> rfl
@[simp] theorem State.raiseCls_tasks (s : State) (code source cls : Nat) (payload : List Nat) : (s.raiseCls code source cls payload).tasks = s.tasks := by
  simp only [State.raiseCls]; split_ifs <;> rfl
@[simp] theorem State.raiseCls_saf (s : State) (code source cls : Nat) (payload : List Nat) : (s.raiseCls code source cls payload).saf = s.saf := by
  simp only [State.raiseCls]; split_ifs <;> rfl
@[simp] theorem State.raiseCls_fio (s : State) (code source cls : Nat) (payload : List Nat) : (s.raiseCls code source cls payload).fio = s.fio := by
  simp only [State.raiseCls]; split_ifs <;> rfl
@[simp] theorem State.raiseCls_lpe (s : State) (code source cls : Nat) (payload : List Nat) : (s.raiseCls code source cls payload).lpe = s.lpe := by
  simp only [State.raiseCls]; split_ifs <;> rfl
@[simp] theorem State.raiseCls_qps (s : State) (code source cls : Nat) (payload : List Nat) : (s.raiseCls code source cls payload).qps = s.qps := by
  simp only [State.raiseCls]; split_ifs <;> rfl
@[simp] theorem State.raiseCls_net (s : State) (code source cls : Nat) (payload : List Nat) : (s.raiseCls code source cls payload).net = s.net := by
  simp only [State.raiseCls]; split_ifs <;> rfl
@[simp] theorem State.raiseCls_can (s : State) (code source cls : Nat) (payload : List Nat) : (s.raiseCls code source cls payload).can = s.can := by
  simp only [State.raiseCls]; split_ifs <;> rfl
@[simp] theorem State.raiseCls_ptp (s : State) (code source cls : Nat) (payload : List Nat) : (s.raiseCls code source cls payload).ptp = s.ptp := by
  simp only [State.raiseCls]; split_ifs <;> rfl
@[simp] theorem State.raiseCls_pair (s : State) (code source cls : Nat) (payload : List Nat) : (s.raiseCls code source cls payload).pair = s.pair := by
  simp only [State.raiseCls]; split_ifs <;> rfl
@[simp] theorem State.raiseCls_pnl (s : State) (code source cls : Nat) (payload : List Nat) : (s.raiseCls code source cls payload).pnl = s.pnl := by
  simp only [State.raiseCls]; split_ifs <;> rfl
@[simp] theorem State.raiseCls_pwr (s : State) (code source cls : Nat) (payload : List Nat) : (s.raiseCls code source cls payload).pwr = s.pwr := by
  simp only [State.raiseCls]; split_ifs <;> rfl
@[simp] theorem State.raiseCls_upd (s : State) (code source cls : Nat) (payload : List Nat) : (s.raiseCls code source cls payload).upd = s.upd := by
  simp only [State.raiseCls]; split_ifs <;> rfl
@[simp] theorem State.raiseCls_sec (s : State) (code source cls : Nat) (payload : List Nat) : (s.raiseCls code source cls payload).sec = s.sec := by
  simp only [State.raiseCls]; split_ifs <;> rfl
@[simp] theorem State.raiseCls_rst (s : State) (code source cls : Nat) (payload : List Nat) : (s.raiseCls code source cls payload).rst = s.rst := by
  simp only [State.raiseCls]; split_ifs <;> rfl
@[simp] theorem State.raiseCls_tmp (s : State) (code source cls : Nat) (payload : List Nat) : (s.raiseCls code source cls payload).tmp = s.tmp := by
  simp only [State.raiseCls]; split_ifs <;> rfl
@[simp] theorem State.raiseCls_dgt (s : State) (code source cls : Nat) (payload : List Nat) : (s.raiseCls code source cls payload).dgt = s.dgt := by
  simp only [State.raiseCls]; split_ifs <;> rfl
@[simp] theorem State.raiseCls_freeCount (s : State) (code source cls : Nat) (payload : List Nat) : (s.raiseCls code source cls payload).freeCount = s.freeCount := by
  simp only [State.raiseCls]; split_ifs <;> rfl

@[simp] theorem State.raise_pending (s : State) (code source : Nat) (payload : List Nat) : (s.raise code source payload).pending = s.pending := s.raiseCls_pending code source _ payload
@[simp] theorem State.raise_station (s : State) (code source : Nat) (payload : List Nat) : (s.raise code source payload).station = s.station := s.raiseCls_station code source _ payload
@[simp] theorem State.raise_mem (s : State) (code source : Nat) (payload : List Nat) : (s.raise code source payload).mem = s.mem := s.raiseCls_mem code source _ payload
@[simp] theorem State.raise_bus (s : State) (code source : Nat) (payload : List Nat) : (s.raise code source payload).bus = s.bus := s.raiseCls_bus code source _ payload
@[simp] theorem State.raise_clock (s : State) (code source : Nat) (payload : List Nat) : (s.raise code source payload).clock = s.clock := s.raiseCls_clock code source _ payload
@[simp] theorem State.raise_sched (s : State) (code source : Nat) (payload : List Nat) : (s.raise code source payload).sched = s.sched := s.raiseCls_sched code source _ payload
@[simp] theorem State.raise_pat (s : State) (code source : Nat) (payload : List Nat) : (s.raise code source payload).pat = s.pat := s.raiseCls_pat code source _ payload
@[simp] theorem State.raise_cores (s : State) (code source : Nat) (payload : List Nat) : (s.raise code source payload).cores = s.cores := s.raiseCls_cores code source _ payload
@[simp] theorem State.raise_queues (s : State) (code source : Nat) (payload : List Nat) : (s.raise code source payload).queues = s.queues := s.raiseCls_queues code source _ payload
@[simp] theorem State.raise_wsig (s : State) (code source : Nat) (payload : List Nat) : (s.raise code source payload).wsig = s.wsig := s.raiseCls_wsig code source _ payload
@[simp] theorem State.raise_ecc (s : State) (code source : Nat) (payload : List Nat) : (s.raise code source payload).ecc = s.ecc := s.raiseCls_ecc code source _ payload
@[simp] theorem State.raise_tasks (s : State) (code source : Nat) (payload : List Nat) : (s.raise code source payload).tasks = s.tasks := s.raiseCls_tasks code source _ payload
@[simp] theorem State.raise_saf (s : State) (code source : Nat) (payload : List Nat) : (s.raise code source payload).saf = s.saf := s.raiseCls_saf code source _ payload
@[simp] theorem State.raise_fio (s : State) (code source : Nat) (payload : List Nat) : (s.raise code source payload).fio = s.fio := s.raiseCls_fio code source _ payload
@[simp] theorem State.raise_lpe (s : State) (code source : Nat) (payload : List Nat) : (s.raise code source payload).lpe = s.lpe := s.raiseCls_lpe code source _ payload
@[simp] theorem State.raise_qps (s : State) (code source : Nat) (payload : List Nat) : (s.raise code source payload).qps = s.qps := s.raiseCls_qps code source _ payload
@[simp] theorem State.raise_net (s : State) (code source : Nat) (payload : List Nat) : (s.raise code source payload).net = s.net := s.raiseCls_net code source _ payload
@[simp] theorem State.raise_can (s : State) (code source : Nat) (payload : List Nat) : (s.raise code source payload).can = s.can := s.raiseCls_can code source _ payload
@[simp] theorem State.raise_ptp (s : State) (code source : Nat) (payload : List Nat) : (s.raise code source payload).ptp = s.ptp := s.raiseCls_ptp code source _ payload
@[simp] theorem State.raise_pair (s : State) (code source : Nat) (payload : List Nat) : (s.raise code source payload).pair = s.pair := s.raiseCls_pair code source _ payload
@[simp] theorem State.raise_pnl (s : State) (code source : Nat) (payload : List Nat) : (s.raise code source payload).pnl = s.pnl := s.raiseCls_pnl code source _ payload
@[simp] theorem State.raise_pwr (s : State) (code source : Nat) (payload : List Nat) : (s.raise code source payload).pwr = s.pwr := s.raiseCls_pwr code source _ payload
@[simp] theorem State.raise_upd (s : State) (code source : Nat) (payload : List Nat) : (s.raise code source payload).upd = s.upd := s.raiseCls_upd code source _ payload
@[simp] theorem State.raise_sec (s : State) (code source : Nat) (payload : List Nat) : (s.raise code source payload).sec = s.sec := s.raiseCls_sec code source _ payload
@[simp] theorem State.raise_rst (s : State) (code source : Nat) (payload : List Nat) : (s.raise code source payload).rst = s.rst := s.raiseCls_rst code source _ payload
@[simp] theorem State.raise_tmp (s : State) (code source : Nat) (payload : List Nat) : (s.raise code source payload).tmp = s.tmp := s.raiseCls_tmp code source _ payload
@[simp] theorem State.raise_dgt (s : State) (code source : Nat) (payload : List Nat) : (s.raise code source payload).dgt = s.dgt := s.raiseCls_dgt code source _ payload
@[simp] theorem State.raise_freeCount (s : State) (code source : Nat) (payload : List Nat) : (s.raise code source payload).freeCount = s.freeCount := s.raiseCls_freeCount code source _ payload

end Sys2Proof.Machine
end

