-- ==== Sys2Proof/Laws/Events.lean ====
section
/-!
SUPPORT. What a raise does (R355 to R357), and what a refused access records (R14).
-/

namespace Sys2Proof.Machine

/-- A raise changes no register but EVR_STATUS. -/
theorem State.getR_raiseCls (s : State) (code source cls : Nat) (payload : List Nat) (a : Nat)
    (h : a ≠ F.EVR_STATUS_STAGED.addr) : (s.raiseCls code source cls payload).getR a = s.getR a := by
  have h2 : a ≠ F.EVR_STATUS_LOST.addr := h
  simp only [State.raiseCls]
  split_ifs with h3 h4
  · exact s.getR_setF_ne _ _ _ h2
  · rfl
  · exact State.getR_setF_ne _ _ _ _ h

theorem State.getR_raise (s : State) (code source : Nat) (payload : List Nat) (a : Nat)
    (h : a ≠ F.EVR_STATUS_STAGED.addr) : (s.raise code source payload).getR a = s.getR a :=
  s.getR_raiseCls _ _ _ _ _ h

theorem State.getF_raise (s : State) (code source : Nat) (payload : List Nat) (f : Fld)
    (h : f.addr ≠ F.EVR_STATUS_STAGED.addr) : (s.raise code source payload).getF f = s.getF f := by
  simp only [State.getF, s.getR_raise _ _ _ _ h]

/-- A raise with room and a token is staged, with the suppressed count of its code. -/
theorem State.raiseCls_staged (s : State) (code source cls : Nat) (payload : List Nat)
    (h1 : s.evr.staged.length < 64) (h2 : s.missingOf code < (s.bucket code).1) :
    (s.raiseCls code source cls payload).evr.staged = s.evr.staged ++ [⟨BitVec.ofNat 16 code, BitVec.ofNat 16 source,
      cls, payload.map (BitVec.ofNat 32), s.suppressedOf code, false⟩] := by
  simp only [State.raiseCls, if_neg (Nat.not_le.mpr h1), if_neg (Nat.not_le.mpr h2)]
  rfl

/-- A refused access changes no register but GLB_ACCERR. -/
theorem State.getR_accErr (s : State) (req : Requester) (es : List AccErr) (a : Nat)
    (h : a ≠ F.GLB_ACCERR_COUNT.addr) : (s.accErr req es).getR a = s.getR a := by
  have fold : ∀ (es : List AccErr) (s : State), (es.foldl (fun s e => s.setF e.flag 1) s).getR a = s.getR a := by
    intro es
    induction es with
    | nil => intro s; rfl
    | cons e es ih =>
      intro s
      rw [List.foldl_cons, ih, State.getR_setF_ne]
      cases e <;> exact h
  simp only [State.accErr]
  split
  · rfl
  · have h2 : a ≠ F.GLB_ACCERR_SOURCE.addr := h
    rw [State.getR_setF_ne _ _ _ _ h2, State.incSat, State.addSat, State.getR_setF_ne _ _ _ _ h, fold]

end Sys2Proof.Machine
end

