-- ==== Sys2Proof/Laws/Memory.lean ====
section
/-!
SUPPORT. Memory: reading after writing, and that every memory operation keeps the canonical form.
-/

namespace Sys2Proof.Machine

theorem State.rdByte_wrByte_same (s : State) (a : Nat) (b : BitVec 8) : (s.wrByte a b).rdByte a = b :=
  Store.get_set_same memDefault s.mem a b

theorem State.rdByte_wrByte_ne (s : State) (a i : Nat) (b : BitVec 8) (h : i ≠ a) :
    (s.wrByte a b).rdByte i = s.rdByte i :=
  Store.get_set_ne memDefault s.mem a i b h

/-- A byte after a run of bytes was written: from the run inside it, as before outside. -/
theorem get_writeBytes (bs : Bytes) (m : List Host.Cell) (a i : Nat) :
    Store.get memDefault (writeBytes m a bs) i =
      if a ≤ i ∧ i < a + bs.length then bs.getD (i - a) 0#8 else Store.get memDefault m i := by
  induction bs generalizing m a with
  | nil => simp [writeBytes]
  | cons b bs ih =>
    simp only [writeBytes, ih, List.length_cons]
    by_cases h1 : i = a
    · subst h1
      rw [if_neg (by omega), if_pos (by omega), Store.get_set_same]; simp
    · rw [Store.get_set_ne _ _ _ _ _ h1]
      by_cases h2 : a + 1 ≤ i ∧ i < a + 1 + bs.length
      · rw [if_pos h2, if_pos (by omega)]
        have : i - a = (i - (a + 1)) + 1 := by omega
        rw [this, List.getD_cons_succ]
      · rw [if_neg h2, if_neg (by omega)]

theorem State.rdByte_wrBytes (s : State) (a i : Nat) (bs : Bytes) :
    (s.wrBytes a bs).rdByte i = if a ≤ i ∧ i < a + bs.length then bs.getD (i - a) 0#8 else s.rdByte i :=
  get_writeBytes bs s.mem a i

@[simp] theorem length_leBytes (n v : Nat) : (leBytes n v).length = n := by
  induction n generalizing v with
  | zero => rfl
  | succ n ih => simp [leBytes, ih]

/-- A byte outside a little-endian number that was written. -/
theorem State.rdByte_wrLe_out (s : State) (a n v i : Nat) (h : ¬ (a ≤ i ∧ i < a + n)) :
    (s.wrLe a n v).rdByte i = s.rdByte i := by
  simp only [State.wrLe, State.rdByte_wrBytes, length_leBytes, if_neg h]

theorem leBytes_getD (n v k : Nat) (h : k < n) : (leBytes n v).getD k 0#8 = BitVec.ofNat 8 (v / 256 ^ k) := by
  induction n generalizing v k with
  | zero => omega
  | succ n ih =>
    cases k with
    | zero => simp [leBytes]
    | succ k =>
      rw [leBytes, List.getD_cons_succ, ih _ _ (by omega), Nat.div_div_eq_div_mul, Nat.pow_succ, Nat.mul_comm]

/-- A byte of a little-endian number that was written. -/
theorem State.rdByte_wrLe_in (s : State) (a n v k : Nat) (h : k < n) :
    (s.wrLe a n v).rdByte (a + k) = BitVec.ofNat 8 (v / 256 ^ k) := by
  simp only [State.wrLe, State.rdByte_wrBytes, length_leBytes]
  rw [if_pos (by omega), Nat.add_sub_cancel_left, leBytes_getD _ _ _ h]

/-! ### The canonical form (R7) -/

theorem wf_writeBytes (bs : Bytes) (m : List Host.Cell) (a : Nat) (h : Memory.wf m = true) :
    Memory.wf (writeBytes m a bs) = true := by
  induction bs generalizing m a with
  | nil => exact h
  | cons b bs ih => exact ih _ _ (Store.wf_set memDefault m a b h)

theorem above_filter (p : Host.Cell → Bool) (k : Nat) (m : List Host.Cell) (h : Store.above k m = true) :
    Store.above k (m.filter p) = true := by
  induction m with
  | nil => rfl
  | cons c m ih =>
    obtain ⟨j, v⟩ := c
    simp only [Store.above, Bool.and_eq_true] at h
    by_cases hp : p (j, v) = true
    · simp [hp, Store.above, h.1, ih h.2]
    · simp [hp, ih h.2]

theorem wf_filter (p : Host.Cell → Bool) (m : List Host.Cell) (h : Memory.wf m = true) :
    Memory.wf (m.filter p) = true := by
  induction m with
  | nil => rfl
  | cons c m ih =>
    obtain ⟨j, v⟩ := c
    simp only [Memory.wf, Store.wf, Bool.and_eq_true] at h
    by_cases hp : p (j, v) = true
    · simp only [List.filter_cons, hp, if_true, Memory.wf, Store.wf, Bool.and_eq_true]
      exact ⟨⟨h.1.1, above_filter p j m h.1.2⟩, ih h.2⟩
    · simpa [List.filter_cons, hp] using ih h.2

theorem State.wrByte_wf (s : State) (a : Nat) (b : BitVec 8) (h : Memory.wf s.mem = true) :
    Memory.wf (s.wrByte a b).mem = true := Store.wf_set memDefault s.mem a b h

theorem State.wrBytes_wf (s : State) (a : Nat) (bs : Bytes) (h : Memory.wf s.mem = true) :
    Memory.wf (s.wrBytes a bs).mem = true := wf_writeBytes bs s.mem a h

theorem State.wrLe_wf (s : State) (a n v : Nat) (h : Memory.wf s.mem = true) :
    Memory.wf (s.wrLe a n v).mem = true := s.wrBytes_wf _ _ h

theorem State.clearRange_wf (s : State) (lo n : Nat) (h : Memory.wf s.mem = true) :
    Memory.wf (s.clearRange lo n).mem = true := wf_filter _ s.mem h

/-- The register file keeps its canonical form too. -/
theorem State.setR_wf (s : State) (a : Nat) (w : BitVec 32) (h : Store.wf regReset s.regs = true) :
    Store.wf regReset (s.setR a w).regs = true := Store.wf_set regReset s.regs a w h

theorem State.setF_wf (s : State) (f : Fld) (v : Nat) (h : Store.wf regReset s.regs = true) :
    Store.wf regReset (s.setF f v).regs = true := s.setR_wf _ _ h

end Sys2Proof.Machine
end

