-- ==== Sys2Proof/Laws/PerInstr.lean ====
section
/-!
SUPPORT. Facts about every command as syntax, one lemma per constructor. Opcode: no stitch code word has OP 0x00, so
that a word of zeros is ILLEGAL (Table 4.5, R86).
-/

namespace Sys2Proof.Laws.Opcode

/-- The word of the command, if it is an instruction of a core, has an OP other than 0. -/
def Statement (i : Instr) : Prop := ∀ w, encodeStitch i = some w → opOf w ≠ 0

/-- The low byte of a word is the byte appended last. -/
theorem low_append {n : Nat} (x : BitVec n) (o : BitVec 8) : BitVec.extractLsb' 0 8 (x ++ o) = o := by
  ext i hi; simp [BitVec.getElem_extractLsb', BitVec.getLsbD_append, hi]

/-! OP of each format. -/
@[simp] theorem op_encR (op : BitVec 8) (fn : BitVec 9) (b a d : GReg) : opOf (encR op fn b a d) = op.toNat :=
  congrArg BitVec.toNat (low_append _ op)
@[simp] theorem op_encT (op : BitVec 8) (fn : BitVec 4) (c b a d : GReg) : opOf (encT op fn c b a d) = op.toNat :=
  congrArg BitVec.toNat (low_append _ op)
@[simp] theorem op_encK (op : BitVec 8) (k : BitVec 14) (a d : GReg) : opOf (encK op k a d) = op.toNat :=
  congrArg BitVec.toNat (low_append _ op)
@[simp] theorem op_encH (op : BitVec 8) (k : BitVec 19) (d : GReg) : opOf (encH op k d) = op.toNat :=
  congrArg BitVec.toNat (low_append _ op)
@[simp] theorem op_encN (op : BitVec 8) (n : BitVec 24) : opOf (encN op n) = op.toNat :=
  congrArg BitVec.toNat (low_append _ op)
@[simp] theorem op_encSys (service : BitVec 9) (arg : BitVec 15) : opOf (encSys service arg) = 0x50 :=
  congrArg BitVec.toNat (low_append _ 0x50#8)

theorem registerWrite (req : Requester) (addr : BitVec 32) (value : BitVec 32) (nbytes : Nat) : Statement (.registerWrite req addr value nbytes) := fun _ h => nomatch h
theorem glbAccerrWrite (req : Requester) (value : BitVec 32) : Statement (.glbAccerrWrite req value) := fun _ h => nomatch h
theorem stitchBoundary : Statement (.stitchBoundary) := fun _ h => nomatch h
theorem coreSeg (core : Nat) (entry : Nat) : Statement (.coreSeg core entry) := fun _ h => nomatch h
theorem selvSeg (core : Nat) (entry : Nat) : Statement (.selvSeg core entry) := fun _ h => nomatch h
theorem evtSlot (core : Nat) (entry : Nat) : Statement (.evtSlot core entry) := fun _ h => nomatch h
theorem loopGrp (lane : Nat) (entry : Nat) : Statement (.loopGrp lane entry) := fun _ h => nomatch h
theorem qpStart (entry : Nat) : Statement (.qpStart entry) := fun _ h => nomatch h
theorem outApply : Statement (.outApply) := fun _ h => nomatch h
theorem retainCommit : Statement (.retainCommit) := fun _ h => nomatch h
theorem selftest (agent : Nat) (entry : Nat) (pass : Bool) : Statement (.selftest agent entry pass) := fun _ h => nomatch h
theorem budgetExceeded (agent : Nat) : Statement (.budgetExceeded agent) := fun _ h => nomatch h
theorem endTickOverrun (agent : Nat) : Statement (.endTickOverrun agent) := fun _ h => nomatch h
theorem canSlotStart (ctrl : Nat) (entry : Nat) : Statement (.canSlotStart ctrl entry) := fun _ h => nomatch h
theorem canSlotEnd (ctrl : Nat) : Statement (.canSlotEnd ctrl) := fun _ h => nomatch h
theorem ethSlotStart (port : Nat) (entry : Nat) : Statement (.ethSlotStart port entry) := fun _ h => nomatch h
theorem nymilSendEntry (send : NymilSend) : Statement (.nymilSendEntry send) := fun _ h => nomatch h
theorem nymilApplyEntry (entry : Nat) : Statement (.nymilApplyEntry entry) := fun _ h => nomatch h
theorem add (core : Nat) (w32 : Bool) (d : GReg) (a : GReg) (b : GReg) : Statement (.add core w32 d a b) := by rintro w ⟨⟩; simp
theorem sub (core : Nat) (w32 : Bool) (d : GReg) (a : GReg) (b : GReg) : Statement (.sub core w32 d a b) := by rintro w ⟨⟩; simp
theorem shl (core : Nat) (w32 : Bool) (d : GReg) (a : GReg) (b : GReg) : Statement (.shl core w32 d a b) := by rintro w ⟨⟩; simp
theorem shr (core : Nat) (w32 : Bool) (d : GReg) (a : GReg) (b : GReg) : Statement (.shr core w32 d a b) := by rintro w ⟨⟩; simp
theorem sar (core : Nat) (w32 : Bool) (d : GReg) (a : GReg) (b : GReg) : Statement (.sar core w32 d a b) := by rintro w ⟨⟩; simp
theorem mul (core : Nat) (w32 : Bool) (d : GReg) (a : GReg) (b : GReg) : Statement (.mul core w32 d a b) := by rintro w ⟨⟩; simp
theorem divs (core : Nat) (w32 : Bool) (d : GReg) (a : GReg) (b : GReg) : Statement (.divs core w32 d a b) := by rintro w ⟨⟩; simp
theorem divu (core : Nat) (w32 : Bool) (d : GReg) (a : GReg) (b : GReg) : Statement (.divu core w32 d a b) := by rintro w ⟨⟩; simp
theorem mods (core : Nat) (w32 : Bool) (d : GReg) (a : GReg) (b : GReg) : Statement (.mods core w32 d a b) := by rintro w ⟨⟩; simp
theorem modu (core : Nat) (w32 : Bool) (d : GReg) (a : GReg) (b : GReg) : Statement (.modu core w32 d a b) := by rintro w ⟨⟩; simp
theorem and (core : Nat) (d : GReg) (a : GReg) (b : GReg) : Statement (.and core d a b) := by rintro w ⟨⟩; simp
theorem ior (core : Nat) (d : GReg) (a : GReg) (b : GReg) : Statement (.ior core d a b) := by rintro w ⟨⟩; simp
theorem xor (core : Nat) (d : GReg) (a : GReg) (b : GReg) : Statement (.xor core d a b) := by rintro w ⟨⟩; simp
theorem cmplt (core : Nat) (d : GReg) (a : GReg) (b : GReg) : Statement (.cmplt core d a b) := by rintro w ⟨⟩; simp
theorem cmpltu (core : Nat) (d : GReg) (a : GReg) (b : GReg) : Statement (.cmpltu core d a b) := by rintro w ⟨⟩; simp
theorem cmpeq (core : Nat) (d : GReg) (a : GReg) (b : GReg) : Statement (.cmpeq core d a b) := by rintro w ⟨⟩; simp
theorem min (core : Nat) (d : GReg) (a : GReg) (b : GReg) : Statement (.min core d a b) := by rintro w ⟨⟩; simp
theorem max (core : Nat) (d : GReg) (a : GReg) (b : GReg) : Statement (.max core d a b) := by rintro w ⟨⟩; simp
theorem mulhs (core : Nat) (d : GReg) (a : GReg) (b : GReg) : Statement (.mulhs core d a b) := by rintro w ⟨⟩; simp
theorem mulhu (core : Nat) (d : GReg) (a : GReg) (b : GReg) : Statement (.mulhu core d a b) := by rintro w ⟨⟩; simp
theorem gets (core : Nat) (d : GReg) (k : BitVec 14) : Statement (.gets core d k) := by rintro w ⟨⟩; simp
theorem puts (core : Nat) (a : GReg) (k : BitVec 14) : Statement (.puts core a k) := by rintro w ⟨⟩; simp
theorem addk (core : Nat) (d : GReg) (a : GReg) (k : BitVec 14) : Statement (.addk core d a k) := by rintro w ⟨⟩; simp
theorem andk (core : Nat) (d : GReg) (a : GReg) (k : BitVec 14) : Statement (.andk core d a k) := by rintro w ⟨⟩; simp
theorem iork (core : Nat) (d : GReg) (a : GReg) (k : BitVec 14) : Statement (.iork core d a k) := by rintro w ⟨⟩; simp
theorem xork (core : Nat) (d : GReg) (a : GReg) (k : BitVec 14) : Statement (.xork core d a k) := by rintro w ⟨⟩; simp
theorem cmpltk (core : Nat) (d : GReg) (a : GReg) (k : BitVec 14) : Statement (.cmpltk core d a k) := by rintro w ⟨⟩; simp
theorem shk (core : Nat) (kind : ShiftKind) (w32 : Bool) (d : GReg) (a : GReg) (amount : BitVec 6) : Statement (.shk core kind w32 d a amount) := by rintro w ⟨⟩; simp
theorem lih (core : Nat) (d : GReg) (k : BitVec 19) : Statement (.lih core d k) := by rintro w ⟨⟩; simp
theorem fadd (core : Nat) (f64 : Bool) (d : GReg) (a : GReg) (b : GReg) : Statement (.fadd core f64 d a b) := by rintro w ⟨⟩; cases f64 <;> simp [opFp]
theorem fsub (core : Nat) (f64 : Bool) (d : GReg) (a : GReg) (b : GReg) : Statement (.fsub core f64 d a b) := by rintro w ⟨⟩; cases f64 <;> simp [opFp]
theorem fmul (core : Nat) (f64 : Bool) (d : GReg) (a : GReg) (b : GReg) : Statement (.fmul core f64 d a b) := by rintro w ⟨⟩; cases f64 <;> simp [opFp]
theorem fmin (core : Nat) (f64 : Bool) (d : GReg) (a : GReg) (b : GReg) : Statement (.fmin core f64 d a b) := by rintro w ⟨⟩; cases f64 <;> simp [opFp]
theorem fmax (core : Nat) (f64 : Bool) (d : GReg) (a : GReg) (b : GReg) : Statement (.fmax core f64 d a b) := by rintro w ⟨⟩; cases f64 <;> simp [opFp]
theorem fcmpeq (core : Nat) (f64 : Bool) (d : GReg) (a : GReg) (b : GReg) : Statement (.fcmpeq core f64 d a b) := by rintro w ⟨⟩; cases f64 <;> simp [opFp]
theorem fcmplt (core : Nat) (f64 : Bool) (d : GReg) (a : GReg) (b : GReg) : Statement (.fcmplt core f64 d a b) := by rintro w ⟨⟩; cases f64 <;> simp [opFp]
theorem fcmple (core : Nat) (f64 : Bool) (d : GReg) (a : GReg) (b : GReg) : Statement (.fcmple core f64 d a b) := by rintro w ⟨⟩; cases f64 <;> simp [opFp]
theorem fdiv (core : Nat) (f64 : Bool) (d : GReg) (a : GReg) (b : GReg) : Statement (.fdiv core f64 d a b) := by rintro w ⟨⟩; cases f64 <;> simp [opFp]
theorem fneg (core : Nat) (f64 : Bool) (d : GReg) (a : GReg) : Statement (.fneg core f64 d a) := by rintro w ⟨⟩; cases f64 <;> simp [opFp]
theorem fabs (core : Nat) (f64 : Bool) (d : GReg) (a : GReg) : Statement (.fabs core f64 d a) := by rintro w ⟨⟩; cases f64 <;> simp [opFp]
theorem fsqrt (core : Nat) (f64 : Bool) (d : GReg) (a : GReg) : Statement (.fsqrt core f64 d a) := by rintro w ⟨⟩; cases f64 <;> simp [opFp]
theorem fma (core : Nat) (f64 : Bool) (d : GReg) (a : GReg) (b : GReg) (c : GReg) : Statement (.fma core f64 d a b c) := by rintro w ⟨⟩; simp
theorem fms (core : Nat) (f64 : Bool) (d : GReg) (a : GReg) (b : GReg) (c : GReg) : Statement (.fms core f64 d a b c) := by rintro w ⟨⟩; simp
theorem fnma (core : Nat) (f64 : Bool) (d : GReg) (a : GReg) (b : GReg) (c : GReg) : Statement (.fnma core f64 d a b c) := by rintro w ⟨⟩; simp
theorem f64F32 (core : Nat) (d : GReg) (a : GReg) : Statement (.f64F32 core d a) := by rintro w ⟨⟩; simp
theorem f32F64 (core : Nat) (d : GReg) (a : GReg) : Statement (.f32F64 core d a) := by rintro w ⟨⟩; simp
theorem f64I64 (core : Nat) (d : GReg) (a : GReg) : Statement (.f64I64 core d a) := by rintro w ⟨⟩; simp
theorem f32I64 (core : Nat) (d : GReg) (a : GReg) : Statement (.f32I64 core d a) := by rintro w ⟨⟩; simp
theorem i64F64t (core : Nat) (d : GReg) (a : GReg) : Statement (.i64F64t core d a) := by rintro w ⟨⟩; simp
theorem i64F32t (core : Nat) (d : GReg) (a : GReg) : Statement (.i64F32t core d a) := by rintro w ⟨⟩; simp
theorem i64F64n (core : Nat) (d : GReg) (a : GReg) : Statement (.i64F64n core d a) := by rintro w ⟨⟩; simp
theorem i64F32n (core : Nat) (d : GReg) (a : GReg) : Statement (.i64F32n core d a) := by rintro w ⟨⟩; simp
theorem l8s (core : Nat) (d : GReg) (a : GReg) (k : BitVec 14) : Statement (.l8s core d a k) := by rintro w ⟨⟩; simp
theorem l8u (core : Nat) (d : GReg) (a : GReg) (k : BitVec 14) : Statement (.l8u core d a k) := by rintro w ⟨⟩; simp
theorem l16s (core : Nat) (d : GReg) (a : GReg) (k : BitVec 14) : Statement (.l16s core d a k) := by rintro w ⟨⟩; simp
theorem l16u (core : Nat) (d : GReg) (a : GReg) (k : BitVec 14) : Statement (.l16u core d a k) := by rintro w ⟨⟩; simp
theorem l32s (core : Nat) (d : GReg) (a : GReg) (k : BitVec 14) : Statement (.l32s core d a k) := by rintro w ⟨⟩; simp
theorem l32u (core : Nat) (d : GReg) (a : GReg) (k : BitVec 14) : Statement (.l32u core d a k) := by rintro w ⟨⟩; simp
theorem l64 (core : Nat) (d : GReg) (a : GReg) (k : BitVec 14) : Statement (.l64 core d a k) := by rintro w ⟨⟩; simp
theorem ls8s (core : Nat) (d : GReg) (a : GReg) (k : BitVec 14) : Statement (.ls8s core d a k) := by rintro w ⟨⟩; simp
theorem ls8u (core : Nat) (d : GReg) (a : GReg) (k : BitVec 14) : Statement (.ls8u core d a k) := by rintro w ⟨⟩; simp
theorem ls16s (core : Nat) (d : GReg) (a : GReg) (k : BitVec 14) : Statement (.ls16s core d a k) := by rintro w ⟨⟩; simp
theorem ls16u (core : Nat) (d : GReg) (a : GReg) (k : BitVec 14) : Statement (.ls16u core d a k) := by rintro w ⟨⟩; simp
theorem ls32s (core : Nat) (d : GReg) (a : GReg) (k : BitVec 14) : Statement (.ls32s core d a k) := by rintro w ⟨⟩; simp
theorem ls32u (core : Nat) (d : GReg) (a : GReg) (k : BitVec 14) : Statement (.ls32u core d a k) := by rintro w ⟨⟩; simp
theorem ls64 (core : Nat) (d : GReg) (a : GReg) (k : BitVec 14) : Statement (.ls64 core d a k) := by rintro w ⟨⟩; simp
theorem s8 (core : Nat) (t : GReg) (a : GReg) (k : BitVec 14) : Statement (.s8 core t a k) := by rintro w ⟨⟩; simp
theorem s16 (core : Nat) (t : GReg) (a : GReg) (k : BitVec 14) : Statement (.s16 core t a k) := by rintro w ⟨⟩; simp
theorem s32 (core : Nat) (t : GReg) (a : GReg) (k : BitVec 14) : Statement (.s32 core t a k) := by rintro w ⟨⟩; simp
theorem s64 (core : Nat) (t : GReg) (a : GReg) (k : BitVec 14) : Statement (.s64 core t a k) := by rintro w ⟨⟩; simp
theorem ss8 (core : Nat) (t : GReg) (a : GReg) (k : BitVec 14) : Statement (.ss8 core t a k) := by rintro w ⟨⟩; simp
theorem ss16 (core : Nat) (t : GReg) (a : GReg) (k : BitVec 14) : Statement (.ss16 core t a k) := by rintro w ⟨⟩; simp
theorem ss32 (core : Nat) (t : GReg) (a : GReg) (k : BitVec 14) : Statement (.ss32 core t a k) := by rintro w ⟨⟩; simp
theorem ss64 (core : Nat) (t : GReg) (a : GReg) (k : BitVec 14) : Statement (.ss64 core t a k) := by rintro w ⟨⟩; simp
theorem bmv (core : Nat) (toShared : Bool) (countM1 : BitVec 15) (sharedReg : GReg) (localReg : GReg) : Statement (.bmv core toShared countM1 sharedReg localReg) := by
  rintro w ⟨⟩; cases toShared <;> simp <;> split <;> simp
theorem bcEq (core : Nat) (a : GReg) (b : GReg) (off : BitVec 14) : Statement (.bcEq core a b off) := by rintro w ⟨⟩; simp
theorem bcNe (core : Nat) (a : GReg) (b : GReg) (off : BitVec 14) : Statement (.bcNe core a b off) := by rintro w ⟨⟩; simp
theorem bcLts (core : Nat) (a : GReg) (b : GReg) (off : BitVec 14) : Statement (.bcLts core a b off) := by rintro w ⟨⟩; simp
theorem bcGes (core : Nat) (a : GReg) (b : GReg) (off : BitVec 14) : Statement (.bcGes core a b off) := by rintro w ⟨⟩; simp
theorem bcLtu (core : Nat) (a : GReg) (b : GReg) (off : BitVec 14) : Statement (.bcLtu core a b off) := by rintro w ⟨⟩; simp
theorem bcGeu (core : Nat) (a : GReg) (b : GReg) (off : BitVec 14) : Statement (.bcGeu core a b off) := by rintro w ⟨⟩; simp
theorem go (core : Nat) (off : BitVec 24) : Statement (.go core off) := by rintro w ⟨⟩; simp
theorem call (core : Nat) (off : BitVec 24) : Statement (.call core off) := by rintro w ⟨⟩; simp
theorem gor (core : Nat) (a : GReg) (k : BitVec 14) : Statement (.gor core a k) := by rintro w ⟨⟩; simp
theorem callr (core : Nat) (a : GReg) (k : BitVec 14) : Statement (.callr core a k) := by rintro w ⟨⟩; simp
theorem ret (core : Nat) : Statement (.ret core) := by rintro w ⟨⟩; simp
theorem retb (core : Nat) : Statement (.retb core) := by rintro w ⟨⟩; simp
theorem endEntry (core : Nat) : Statement (.endEntry core) := by rintro w ⟨⟩; simp
theorem callb (core : Nat) (a : GReg) (off : BitVec 19) : Statement (.callb core a off) := by rintro w ⟨⟩; simp
theorem illegalEncoding (core : Nat) (word : BitVec 32) : Statement (.illegalEncoding core word) := fun _ h => nomatch h
theorem sysBad (core : Nat) (service : BitVec 9) (arg : BitVec 15) : Statement (.sysBad core service arg) := by
  intro w h; simp only [encodeStitch] at h; split at h
  · cases h
  · cases h; simp
theorem qPut (core : Nat) (arg : BitVec 15) : Statement (.qPut core arg) := by rintro w ⟨⟩; simp
theorem qGet (core : Nat) (arg : BitVec 15) : Statement (.qGet core arg) := by rintro w ⟨⟩; simp
theorem qStat (core : Nat) (arg : BitVec 15) : Statement (.qStat core arg) := by rintro w ⟨⟩; simp
theorem evtRaise (core : Nat) (arg : BitVec 15) : Statement (.evtRaise core arg) := by rintro w ⟨⟩; simp
theorem evtArg (core : Nat) (arg : BitVec 15) : Statement (.evtArg core arg) := by rintro w ⟨⟩; simp
theorem regRd (core : Nat) (arg : BitVec 15) : Statement (.regRd core arg) := by rintro w ⟨⟩; simp
theorem regWr (core : Nat) (arg : BitVec 15) : Statement (.regWr core arg) := by rintro w ⟨⟩; simp
theorem recRaise (core : Nat) (arg : BitVec 15) : Statement (.recRaise core arg) := by rintro w ⟨⟩; simp
theorem timeRd (core : Nat) (arg : BitVec 15) : Statement (.timeRd core arg) := by rintro w ⟨⟩; simp
theorem scrubStep (array : Nat) : Statement (.scrubStep array) := fun _ h => nomatch h
theorem scrubLate (array : Nat) : Statement (.scrubLate array) := fun _ h => nomatch h
theorem coldRestartToRun (req : Requester) : Statement (.coldRestartToRun req) := fun _ h => nomatch h
theorem warmRestartToRun (req : Requester) : Statement (.warmRestartToRun req) := fun _ h => nomatch h
theorem coldRestartToTacking (req : Requester) : Statement (.coldRestartToTacking req) := fun _ h => nomatch h
theorem warmRestartToTacking (req : Requester) : Statement (.warmRestartToTacking req) := fun _ h => nomatch h
theorem stop (req : Requester) : Statement (.stop req) := fun _ h => nomatch h
theorem leaveTackingForRun (req : Requester) : Statement (.leaveTackingForRun req) := fun _ h => nomatch h
theorem enterTackingFromRun (req : Requester) : Statement (.enterTackingFromRun req) := fun _ h => nomatch h
theorem autoStart : Statement (.autoStart) := fun _ h => nomatch h
theorem forceSet (req : Requester) : Statement (.forceSet req) := fun _ h => nomatch h
theorem forceRelease (req : Requester) : Statement (.forceRelease req) := fun _ h => nomatch h
theorem releaseAll (req : Requester) : Statement (.releaseAll req) := fun _ h => nomatch h
theorem verify (req : Requester) : Statement (.verify req) := fun _ h => nomatch h
theorem activate (req : Requester) : Statement (.activate req) := fun _ h => nomatch h
theorem prepare (req : Requester) : Statement (.prepare req) := fun _ h => nomatch h
theorem commit (req : Requester) : Statement (.commit req) := fun _ h => nomatch h
theorem abort (req : Requester) : Statement (.abort req) := fun _ h => nomatch h
theorem revert (req : Requester) : Statement (.revert req) := fun _ h => nomatch h
theorem clear (req : Requester) : Statement (.clear req) := fun _ h => nomatch h
theorem verificationEnd : Statement (.verificationEnd) := fun _ h => nomatch h
theorem patternLoadEnd : Statement (.patternLoadEnd) := fun _ h => nomatch h
theorem prepareTimeout : Statement (.prepareTimeout) := fun _ h => nomatch h
theorem prepareLoadEnd (loaded : Bool) : Statement (.prepareLoadEnd loaded) := fun _ h => nomatch h
theorem hold (req : Requester) (channel : BitVec 8) : Statement (.hold req channel) := fun _ h => nomatch h
theorem close (req : Requester) (channel : BitVec 8) : Statement (.close req channel) := fun _ h => nomatch h
theorem swap (req : Requester) (channel : BitVec 8) : Statement (.swap req channel) := fun _ h => nomatch h
theorem storeWindowWrite (req : Requester) (offset : Nat) (value : BitVec 32) : Statement (.storeWindowWrite req offset value) := fun _ h => nomatch h
theorem problemWindowWrite (req : Requester) (offset : Nat) (value : BitVec 32) : Statement (.problemWindowWrite req offset value) := fun _ h => nomatch h
theorem arm (req : Requester) : Statement (.arm req) := fun _ h => nomatch h
theorem lpeBobStop (req : Requester) : Statement (.lpeBobStop req) := fun _ h => nomatch h
theorem bobbinClear (req : Requester) : Statement (.bobbinClear req) := fun _ h => nomatch h
theorem qpDisable (req : Requester) (ctx : BitVec 3) : Statement (.qpDisable req ctx) := fun _ h => nomatch h
theorem qpEnable (req : Requester) (ctx : BitVec 3) : Statement (.qpEnable req ctx) := fun _ h => nomatch h
theorem qpClearWarm (req : Requester) (ctx : BitVec 3) : Statement (.qpClearWarm req ctx) := fun _ h => nomatch h
theorem disableCopyEnd (ctx : Nat) : Statement (.disableCopyEnd ctx) := fun _ h => nomatch h
theorem solveEnd : Statement (.solveEnd) := fun _ h => nomatch h
theorem qpDeadline : Statement (.qpDeadline) := fun _ h => nomatch h
theorem sweep (meas : SweepMeas) : Statement (.sweep meas) := fun _ h => nomatch h
theorem testPulse (ch : Nat) : Statement (.testPulse ch) := fun _ h => nomatch h
theorem shortGnd (ch : Nat) : Statement (.shortGnd ch) := fun _ h => nomatch h
theorem testSample (ch : Nat) (mv : Int) (ua : Int) (inputUa : List (Nat × Int)) : Statement (.testSample ch mv ua inputUa) := fun _ h => nomatch h
theorem groupTest (g : Nat) : Statement (.groupTest g) := fun _ h => nomatch h
theorem groupTestSample (g : Nat) (busMv : Nat) (currentMa : Nat) : Statement (.groupTestSample g busMv currentMa) := fun _ h => nomatch h
theorem grpOverload (g : Nat) (currentMa : Nat) : Statement (.grpOverload g currentMa) := fun _ h => nomatch h
theorem fsLow (supply : Nat) (mv : Nat) : Statement (.fsLow supply mv) := fun _ h => nomatch h
theorem fsCutoff (supply : Nat) : Statement (.fsCutoff supply) := fun _ h => nomatch h
theorem fsReturn (supply : Nat) : Statement (.fsReturn supply) := fun _ h => nomatch h
theorem cloReadback (conv : List (Option (BitVec 32))) (terminalMv : List Nat) (tempC : List Int) : Statement (.cloReadback conv terminalMv tempC) := fun _ h => nomatch h
theorem cloStarted (out : Nat) : Statement (.cloStarted out) := fun _ h => nomatch h
theorem compliance (out : Nat) : Statement (.compliance out) := fun _ h => nomatch h
theorem linkLost (out : Nat) : Statement (.linkLost out) := fun _ h => nomatch h
theorem thermal (out : Nat) (tempC : Int) : Statement (.thermal out tempC) := fun _ h => nomatch h
theorem discrepancy (input : Nat) : Statement (.discrepancy input) := fun _ h => nomatch h
theorem resetHeld (rst : Nat) : Statement (.resetHeld rst) := fun _ h => nomatch h
theorem disconnectDrop (g : Nat) : Statement (.disconnectDrop g) := fun _ h => nomatch h
theorem supplyFail (rail : Nat) : Statement (.supplyFail rail) := fun _ h => nomatch h
theorem clockVote (refHz : Nat) (monHz : Nat) (rcHz : Nat) : Statement (.clockVote refHz monHz rcHz) := fun _ h => nomatch h
theorem monitorSelftest (test : Nat) (pass : Bool) : Statement (.monitorSelftest test pass) := fun _ h => nomatch h
theorem confirm (req : Requester) : Statement (.confirm req) := fun _ h => nomatch h
theorem clearHalt (req : Requester) : Statement (.clearHalt req) := fun _ h => nomatch h
theorem safCancel (req : Requester) : Statement (.safCancel req) := fun _ h => nomatch h
theorem checkWindowExpired : Statement (.checkWindowExpired) := fun _ h => nomatch h
theorem pdCopy (port : Nat) (set : Nat) (record : Bytes) : Statement (.pdCopy port set record) := fun _ h => nomatch h
theorem pdSingle (set : Nat) : Statement (.pdSingle set) := fun _ h => nomatch h
theorem pdStale (set : Nat) : Statement (.pdStale set) := fun _ h => nomatch h
theorem tpMessage (conn : Nat) (path : Nat) (message : Bytes) : Statement (.tpMessage conn path message) := fun _ h => nomatch h
theorem tpTimeout (conn : Nat) : Statement (.tpTimeout conn) := fun _ h => nomatch h
theorem tpCrcLimit (conn : Nat) : Statement (.tpCrcLimit conn) := fun _ h => nomatch h
theorem recover (req : Requester) (ctrl : Nat) : Statement (.recover req ctrl) := fun _ h => nomatch h
theorem clearCounts (req : Requester) (ctrl : Nat) : Statement (.clearCounts req ctrl) := fun _ h => nomatch h
theorem canArbitration (ctrl : Nat) (moment : CanArbitration) : Statement (.canArbitration ctrl moment) := fun _ h => nomatch h
theorem canFrameSent (ctrl : Nat) (echoes : List Nat) : Statement (.canFrameSent ctrl echoes) := fun _ h => nomatch h
theorem canFrameReceived (ctrl : Nat) (frame : CanFrame) (own : Bool) : Statement (.canFrameReceived ctrl frame own) := fun _ h => nomatch h
theorem canError (ctrl : Nat) (kind : CanErrKind) (effect : CanErrEffect) (place : CanErrPlace) :
    Statement (.canError ctrl kind effect place) := fun _ h => nomatch h
theorem busOffRecoveryEnd (ctrl : Nat) : Statement (.busOffRecoveryEnd ctrl) := fun _ h => nomatch h
theorem integrationEnd (ctrl : Nat) : Statement (.integrationEnd ctrl) := fun _ h => nomatch h
theorem canProtocolExc (ctrl : Nat) : Statement (.canProtocolExc ctrl) := fun _ h => nomatch h
theorem mbLockWrite (req : Requester) (ctrl : Nat) (value : BitVec 32) : Statement (.mbLockWrite req ctrl value) := fun _ h => nomatch h
theorem ethFrameReceived (port : Nat) (frame : Bytes) (status : EthRxStatus) : Statement (.ethFrameReceived port frame status) := fun _ h => nomatch h
theorem ethLinkUp (port : Nat) (speed : Nat) (full : Bool) (matched : Bool) : Statement (.ethLinkUp port speed full matched) := fun _ h => nomatch h
theorem ethLinkDown (port : Nat) : Statement (.ethLinkDown port) := fun _ h => nomatch h
theorem unscheduledSend (port : Nat) : Statement (.unscheduledSend port) := fun _ h => nomatch h
theorem ethMacsecSecured (install : SakInstall) : Statement (.ethMacsecSecured install) := fun _ h => nomatch h
theorem ethMacsecLost (port : Nat) : Statement (.ethMacsecLost port) := fun _ h => nomatch h
theorem ptpSync (port : Nat) (offsetNs : Int) (delayNs : Nat) (incr : BitVec 36) : Statement (.ptpSync port offsetNs delayNs incr) := fun _ h => nomatch h
theorem ptpAnnounceTimeout : Statement (.ptpAnnounceTimeout) := fun _ h => nomatch h
theorem ptpIncrLoWrite (req : Requester) (value : BitVec 32) : Statement (.ptpIncrLoWrite req value) := fun _ h => nomatch h
theorem ptpIncrHiWrite (req : Requester) (value : BitVec 32) : Statement (.ptpIncrHiWrite req value) := fun _ h => nomatch h
theorem step (req : Requester) : Statement (.step req) := fun _ h => nomatch h
theorem rebase (req : Requester) : Statement (.rebase req) := fun _ h => nomatch h
theorem ptpCancel (req : Requester) : Statement (.ptpCancel req) := fun _ h => nomatch h
theorem ptpTrigger (k : Nat) : Statement (.ptpTrigger k) := fun _ h => nomatch h
theorem capture (ch : Nat) (rising : Bool) (ageNs : Nat) : Statement (.capture ch rising ageNs) := fun _ h => nomatch h
theorem captureRead (req : Requester) (ch : Nat) : Statement (.captureRead req ch) := fun _ h => nomatch h
theorem ownSenseEdge (level : Bool) : Statement (.ownSenseEdge level) := fun _ h => nomatch h
theorem nymilLinkUp : Statement (.nymilLinkUp) := fun _ h => nomatch h
theorem nymilLinkLost (lane : Nat) : Statement (.nymilLinkLost lane) := fun _ h => nomatch h
theorem nymilPacket (pkt : NymilArrival) : Statement (.nymilPacket pkt) := fun _ h => nomatch h
theorem epochDiscard : Statement (.epochDiscard) := fun _ h => nomatch h
theorem partnerReadyLost : Statement (.partnerReadyLost) := fun _ h => nomatch h
theorem pairMessage (port : Nat) (station : Nat) (msg : Bytes) : Statement (.pairMessage port station msg) := fun _ h => nomatch h
theorem witnessProbeTimeout (station : Nat) (qpos : Nat) (qseq : Nat) : Statement (.witnessProbeTimeout station qpos qseq) := fun _ h => nomatch h
theorem witWaitExpiry : Statement (.witWaitExpiry) := fun _ h => nomatch h
theorem isolatedRound : Statement (.isolatedRound) := fun _ h => nomatch h
theorem claim (req : Requester) : Statement (.claim req) := fun _ h => nomatch h
theorem release (req : Requester) : Statement (.release req) := fun _ h => nomatch h
theorem witness (req : Requester) : Statement (.witness req) := fun _ h => nomatch h
theorem eventRaise (code : BitVec 16) (source : BitVec 16) (payload : List (BitVec 32)) : Statement (.eventRaise code source payload) := fun _ h => nomatch h
theorem recordCommit : Statement (.recordCommit) := fun _ h => nomatch h
theorem timeMark (req : Requester) : Statement (.timeMark req) := fun _ h => nomatch h
theorem timeMarkPeriodic : Statement (.timeMarkPeriodic) := fun _ h => nomatch h
theorem panelRender : Statement (.panelRender) := fun _ h => nomatch h
theorem panelUpdateStart (ntcQuarterC : Int) : Statement (.panelUpdateStart ntcQuarterC) := fun _ h => nomatch h
theorem panelFrame : Statement (.panelFrame) := fun _ h => nomatch h
theorem panelUpdateCommit : Statement (.panelUpdateCommit) := fun _ h => nomatch h
theorem pnlRailFault (rail : Nat) : Statement (.pnlRailFault rail) := fun _ h => nomatch h
theorem railFaultRetry : Statement (.railFaultRetry) := fun _ h => nomatch h
theorem refresh (req : Requester) : Statement (.refresh req) := fun _ h => nomatch h
theorem pnlDisable (req : Requester) : Statement (.pnlDisable req) := fun _ h => nomatch h
theorem pnlEnable (req : Requester) : Statement (.pnlEnable req) := fun _ h => nomatch h
theorem refreshInterval : Statement (.refreshInterval) := fun _ h => nomatch h
theorem watch (req : Requester) : Statement (.watch req) := fun _ h => nomatch h
theorem watchCancel (req : Requester) : Statement (.watchCancel req) := fun _ h => nomatch h
theorem watchPreparation (wakeBits : BitVec 6) : Statement (.watchPreparation wakeBits) := fun _ h => nomatch h
theorem watchEntry (wakeAt : List (BitVec 6)) (offFailed : Option Nat) : Statement (.watchEntry wakeAt offFailed) := fun _ h => nomatch h
theorem watchSample (inputMv : List Nat) (fsaMv : Nat) : Statement (.watchSample inputMv fsaMv) := fun _ h => nomatch h
theorem wakePin : Statement (.wakePin) := fun _ h => nomatch h
theorem wakeAlarm : Statement (.wakeAlarm) := fun _ h => nomatch h
theorem wakeFeed : Statement (.wakeFeed) := fun _ h => nomatch h
theorem wake (extraTicks : Nat) : Statement (.wake extraTicks) := fun _ h => nomatch h
theorem wakeRegRetry : Statement (.wakeRegRetry) := fun _ h => nomatch h
theorem wakeRegReset : Statement (.wakeRegReset) := fun _ h => nomatch h
theorem refclkLost : Statement (.refclkLost) := fun _ h => nomatch h
theorem wakeTimeSet (master : Option (BitVec 64)) : Statement (.wakeTimeSet master) := fun _ h => nomatch h
theorem watchBrownout : Statement (.watchBrownout) := fun _ h => nomatch h
theorem pwrVoteWrite (req : Requester) (core : Nat) (value : BitVec 32) : Statement (.pwrVoteWrite req core value) := fun _ h => nomatch h
theorem pwrDomainFault (domain : Nat) (offFailed : Bool) : Statement (.pwrDomainFault domain offFailed) := fun _ h => nomatch h
theorem updBegin (req : Requester) (region : BitVec 2) : Statement (.updBegin req region) := fun _ h => nomatch h
theorem updResume (req : Requester) (region : BitVec 2) : Statement (.updResume req region) := fun _ h => nomatch h
theorem updFinish (req : Requester) (region : BitVec 2) : Statement (.updFinish req region) := fun _ h => nomatch h
theorem updArm (req : Requester) (region : BitVec 2) : Statement (.updArm req region) := fun _ h => nomatch h
theorem updDisarm (req : Requester) (region : BitVec 2) : Statement (.updDisarm req region) := fun _ h => nomatch h
theorem updActivateNow (req : Requester) (region : BitVec 2) : Statement (.updActivateNow req region) := fun _ h => nomatch h
theorem updCancel (req : Requester) (region : BitVec 2) : Statement (.updCancel req region) := fun _ h => nomatch h
theorem updVerifyEnd (region : Nat) : Statement (.updVerifyEnd region) := fun _ h => nomatch h
theorem updBlock (message : Bytes) (readBack : Bytes) : Statement (.updBlock message readBack) := fun _ h => nomatch h
theorem enrol (req : Requester) (wakeMs : Nat) : Statement (.enrol req wakeMs) := fun _ h => nomatch h
theorem rotate (req : Requester) : Statement (.rotate req) := fun _ h => nomatch h
theorem dbgChallenge (req : Requester) : Statement (.dbgChallenge req) := fun _ h => nomatch h
theorem dbgUnlock (req : Requester) : Statement (.dbgUnlock req) := fun _ h => nomatch h
theorem lock (req : Requester) : Statement (.lock req) := fun _ h => nomatch h
theorem cakSet (req : Requester) : Statement (.cakSet req) := fun _ h => nomatch h
theorem cakClear (req : Requester) : Statement (.cakClear req) := fun _ h => nomatch h
theorem nonceExpiry : Statement (.nonceExpiry) := fun _ h => nomatch h
theorem authLockoutEnd : Statement (.authLockoutEnd) := fun _ h => nomatch h
theorem sessionConnect (signedByOwner : Bool) (proofOfPossession : Bool) (dateOk : Bool) : Statement (.sessionConnect signedByOwner proofOfPossession dateOk) := fun _ h => nomatch h
theorem trngFail (test : Nat) : Statement (.trngFail test) := fun _ h => nomatch h
theorem feedRise (feed : Nat) (mv : Nat) : Statement (.feedRise feed mv) := fun _ h => nomatch h
theorem resetRelease (straps : StrapSamples) (refOk : Bool) : Statement (.resetRelease straps refOk) := fun _ h => nomatch h
theorem rstPin (low : Bool) : Statement (.rstPin low) := fun _ h => nomatch h
theorem feedLoss (mvA : Nat) (mvB : Nat) : Statement (.feedLoss mvA mvB) := fun _ h => nomatch h
theorem holdUpEnd (storeExhausted : Bool) : Statement (.holdUpEnd storeExhausted) := fun _ h => nomatch h
theorem supervisorWdt : Statement (.supervisorWdt) := fun _ h => nomatch h
theorem brownout : Statement (.brownout) := fun _ h => nomatch h
theorem vioLost : Statement (.vioLost) := fun _ h => nomatch h
theorem vioRestored : Statement (.vioRestored) := fun _ h => nomatch h
theorem settingsWrite (req : Requester) (len : Nat) : Statement (.settingsWrite req len) := fun _ h => nomatch h
theorem settingsBlank (req : Requester) : Statement (.settingsBlank req) := fun _ h => nomatch h
theorem resetCmd (req : Requester) : Statement (.resetCmd req) := fun _ h => nomatch h
theorem settingsWriteEnd (outcome : SettingsOutcome) : Statement (.settingsWriteEnd outcome) := fun _ h => nomatch h
theorem cmpRead (addr : BitVec 32) (count : Nat) : Statement (.cmpRead addr count) := fun _ h => nomatch h
theorem cmpWrite (addr : BitVec 32) (data : Bytes) : Statement (.cmpWrite addr data) := fun _ h => nomatch h
theorem inPost (req : Requester) (len : BitVec 7) : Statement (.inPost req len) := fun _ h => nomatch h
theorem outPost (req : Requester) (len : BitVec 7) : Statement (.outPost req len) := fun _ h => nomatch h
theorem inTake (req : Requester) (postSameCycle : Bool) : Statement (.inTake req postSameCycle) := fun _ h => nomatch h
theorem outTake (req : Requester) (postSameCycle : Bool) : Statement (.outTake req postSameCycle) := fun _ h => nomatch h
theorem tempHigh (baseQuarterC : Int) (dieC : Int) : Statement (.tempHigh baseQuarterC dieC) := fun _ h => nomatch h
theorem tempLimit (baseQuarterC : Int) (dieC : Int) : Statement (.tempLimit baseQuarterC dieC) := fun _ h => nomatch h
theorem thermalShutdown : Statement (.thermalShutdown) := fun _ h => nomatch h
theorem thermalRestart : Statement (.thermalRestart) := fun _ h => nomatch h
theorem loopbackStart (req : Requester) (target : Nat) (depth : Nat) (count : Nat) : Statement (.loopbackStart req target depth count) := fun _ h => nomatch h
theorem loopbackStop (req : Requester) : Statement (.loopbackStop req) := fun _ h => nomatch h
theorem loopbackItem (outcome : LbOutcome) : Statement (.loopbackItem outcome) := fun _ h => nomatch h
theorem eccInject (req : Requester) : Statement (.eccInject req) := fun _ h => nomatch h
theorem tapInstruction (code : BitVec 8) : Statement (.tapInstruction code) := fun _ h => nomatch h
theorem ptestEntry : Statement (.ptestEntry) := fun _ h => nomatch h
theorem ptAuth (sigR : Bytes) (sigS : Bytes) : Statement (.ptAuth sigR sigS) := fun _ h => nomatch h
theorem ptFlash (slot : Nat) (image : Bytes) : Statement (.ptFlash slot image) := fun _ h => nomatch h
theorem registerRead (req : Requester) (addr : BitVec 32) (nbytes : Nat) : Statement (.registerRead req addr nbytes) := fun _ h => nomatch h
theorem testCycleEnd : Statement (.testCycleEnd) := fun _ h => nomatch h
theorem rtcCrystalStopped : Statement (.rtcCrystalStopped) := fun _ h => nomatch h
theorem ptestAuthTimeout : Statement (.ptestAuthTimeout) := fun _ h => nomatch h
theorem tempBelowThreshold (baseQuarterC : Int) (dieC : Int) : Statement (.tempBelowThreshold baseQuarterC dieC) := fun _ h => nomatch h
theorem ptpMessageInterval (port : Nat) (kind : PtpTxKind) : Statement (.ptpMessageInterval port kind) := fun _ h => nomatch h
theorem domainReportsOn (domain : Nat) : Statement (.domainReportsOn domain) := fun _ h => nomatch h

end Sys2Proof.Laws.Opcode
end

