-- ==== Sys2Proof/Tests/Slice0.lean ====
section
/-!
SUPPORT. Small tests: words of stitch code from the spec's formats, ill-formed commands that each check refuses, and for
every obligation a witness: concrete states and operands that meet the hypotheses of its clauses together, at boundary
values of their ranges. Where a clause takes a case of a value that Config leaves free (a serial number, a key, a free
number), its witness meets the other hypotheses of the clause, and the case itself is one side of a distinction.
-/

open Sys2Proof Sys2Proof.Machine

namespace Sys2Proof.Slice0
set_option Elab.async false

/-! ### Helpers -/

/-- Bytes of a record: n zeros with little-endian fields (offset, width, value) written in. -/
def fill (n : Nat) (fs : List (Nat × Nat × Nat)) : Bytes :=
  fs.foldl (fun b f => b.take f.1 ++ leBytes f.2.1 f.2.2 ++ b.drop (f.1 + f.2.1)) (List.replicate n 0#8)

/-- A Pattern with sections and a header. -/
def pat (hd : List (Nat × Nat × Nat)) (ss : List Section) : Pattern := ⟨fill 64 hd, ss, []⟩

/-- Released from reset, in a station state, with a Pattern and power in every domain. -/
def live (st : StationState) (p : Option Pattern) : State :=
  State.setF { State.reset with
    station := st, rst := { State.reset.rst with held := false }, pat := { State.reset.pat with active := p } }
    F.PWR_DOMAINS_ON 0x7FFFF

/-- The same with registers. -/
def State.withF (s : State) (fs : List (Fld × Nat)) : State := fs.foldl (fun s f => s.setF f.1 f.2) s

/-- An entry word (Table 2.4). -/
def entryWord (start kind object : Nat) : Nat := start + 2 ^ 12 * (start + 10) + 2 ^ 24 * kind + 2 ^ 28 * 100 + 2 ^ 48 * object

/-- A SCHEDULE section in which agent a has one table of one entry for the one seam position. -/
def oneEntry (a w : Nat) : Section :=
  ⟨2, 29, fill 496 [(16 * a, 2, 1), (16 * a + 4, 4, 464), (16 * a + 8, 4, 468), (464, 2, 0), (468, 2, 1), (472, 4, 480),
    (480, 8, w)]⟩

/-- A TOPOLOGY section with seam length 1. -/
def topo (fs : List (Nat × Nat × Nat)) : Section := ⟨1, 1, fill 64 ((2, 2, 1) :: fs)⟩

/-- The running entry that `oneEntry` schedules. -/
def oneRunning (w : Nat) : Running := ⟨0, 0, slotEntry w⟩

end Sys2Proof.Slice0

namespace Sys2Proof.Slice0
set_option Elab.async false

/-! ### Application cores -/

/-- CODE: 40 items, core 0's image of 256 bytes from 0, task 0 on core 0 with one segment, task 16 an event task. -/
def codeSec : Section :=
  ⟨3, 40, fill 640 [(0, 4, 700), (4, 4, 256), (128, 1, 1), (137, 1, 1), (140, 4, 640), (384, 1, 2), (393, 1, 1), (396, 4, 664)] ++
    fill 60 [(0, 4, 0x40), (4, 4, 0x10001000), (8, 4, 0x1000), (24, 4, 0x40), (28, 4, 0x10001000), (32, 4, 0x1000)]⟩

/-- MEMORY: queue 0 of depth 2 with elements of n bytes from core 0 to core 0 at 0x100, and one region that core 0 may
read and write. -/
def memSec (n : Nat) : Section :=
  ⟨5, 128, fill 32 [(0, 1, 1), (4, 2, 2), (6, 2, n), (8, 4, 0x100)] ++ List.replicate 4064 0#8 ++
    fill 20 [(0, 4, 1), (4, 4, 0x1000), (8, 4, 0xFFF000), (12, 1, 0), (13, 1, 1), (14, 1, 1)]⟩

/-- GRANTS: core 0 may read and write GLB_FORCE_SYM. -/
def grantSec : Section := ⟨15, 1, fill 8 [(0, 4, F.GLB_FORCE_SYM_SYM_ID.addr), (4, 1, 3), (5, 1, 1)]⟩

def corePat : Pattern := pat [] [topo [], codeSec, memSec 8, grantSec]

/-- A running entry of a kind and an object. -/
def entryOf (kind : EntryKind) (no object : Nat) : Running := ⟨0, 0, ⟨0, 10, kind, no, 100, object⟩⟩

/-- Core 0 executes the one segment of task 0 with registers g1 and g2. -/
def coreState (a b : BitVec 64) : State :=
  let s := live .run (some corePat)
  let s := { s with sched := { s.sched with agents := [(0, ⟨some (entryOf .coreSeg 0 0), 0, false, none⟩)] } }
  s.setCore 0 ((Core.idle.wr 1 a).wr 2 b)

def minus1 : BitVec 64 := 0xFFFFFFFFFFFFFFFF#64
def least : BitVec 64 := 0x8000000000000000#64
def least32 : BitVec 64 := 0x80000000#64

/-- IntegerResults, ImmediatesAndSpecials, FloatResults, Conversions and the branches ask only for a fetch. -/
theorem test_witness_fetches : (coreState 1 2).fetches 0 := by unfold State.fetches; decide +kernel

/-- MultiplyDivide: a divisor 0, the most negative value by minus one in both widths, and plain operands. -/
theorem test_witness_MultiplyDivide :
    ((coreState 1 0).fetches 0 ∧ ((coreState 1 0).core 0).rd 2 = 0) ∧
    ((coreState least minus1).fetches 0 ∧ (((coreState least minus1).core 0).rd 1).toInt = -2 ^ 63 ∧
      (((coreState least minus1).core 0).rd 2).toInt = -1) ∧
    ((coreState least32 minus1).fetches 0 ∧ (((coreState least32 minus1).core 0).rd 1).setWidth 32 = 0x80000000#32 ∧
      ((((coreState least32 minus1).core 0).rd 2).setWidth 32 : BitVec 32).toInt = -1) ∧
    ((coreState 7 2).fetches 0 ∧ ((coreState 7 2).core 0).rd 2 ≠ 0) := by unfold State.fetches; decide +kernel

/-- Loads and Stores: the first and the last aligned place of the data scratchpad and of the shared SRAM. -/
theorem test_witness_LoadsStores :
    (∀ v ∈ [0x10000000, 0x1007FFF8], let s := coreState (BitVec.ofNat 64 v) 0
      s.fetches 0 ∧ (s.core 0).run = .none ∧ 0x10000000 ≤ ((s.core 0).rd 1).toNat ∧
        ((s.core 0).rd 1).toNat + 8 ≤ 0x10080000 ∧ ((s.core 0).rd 1).toNat % 8 = 0 ∧
        ((s.fetched 0).eccRead (Mem.dram 0 + (((s.core 0).rd 1).toNat - 0x10000000)) 8 1).1 = false) ∧
    (∀ v ∈ [0x20001000, 0x20FFFFF8], let s := coreState (BitVec.ofNat 64 v) 0
      s.fetches 0 ∧ 0x20000000 ≤ ((s.core 0).rd 1).toNat ∧ ((s.core 0).rd 1).toNat + 8 ≤ 0x21000000 ∧
        ((s.core 0).rd 1).toNat % 8 = 0 ∧
        (∀ w, corePat.granted 0 (((s.core 0).rd 1).toNat - 0x20000000) 8 w = true) ∧
        ((s.fetched 0).eccRead (Mem.shared + (((s.core 0).rd 1).toNat - 0x20000000)) 8 1).1 = false) := by
  unfold State.fetches; decide +kernel

/-- BlockMove: eight bytes between the last places of both memories. -/
theorem test_witness_BlockMove : let s := coreState 0x20FFFFF8#64 0x1007FFF8#64
    s.fetches 0 ∧ (s.core 0).run = .none ∧ ((s.core 0).rd 1).toNat % 8 = 0 ∧ ((s.core 0).rd 2).toNat % 8 = 0 ∧
      ((7#15).toNat + 1) % 8 = 0 ∧ (∀ w, corePat.granted 0 0xFFFFF8 8 w = true) ∧
      ((s.fetched 0).eccRead (Mem.dram 0 + 0x7FFF8) 8 1).1 = false ∧
      ((s.fetched 0).eccRead (Mem.shared + 0xFFFFF8) 8 1).1 = false := by unfold State.fetches; decide +kernel

/-- A core whose stack region reaches from 0x10000000 to 0x10001000, with g31 and g1. -/
def stackState (sp inst : BitVec 64) : State :=
  let s := coreState inst 0
  s.setCore 0 { (s.core 0).wr 31 sp with stackTop := 0x10001000, stackLen := 0x1000 }

/-- BranchesAndCalls: CALLB from the top of the stack and from its last place, RETB from its last place. -/
theorem test_witness_BranchesAndCalls :
    (∀ v ∈ [0x10001000, 0x10000010], let s := stackState (BitVec.ofNat 64 v) 0x10000008#64
      let x := s.core 0
      s.fetches 0 ∧ (x.rd 31 - 16).toNat % 16 = 0 ∧ x.stackTop - x.stackLen ≤ (x.rd 31 - 16).toNat ∧
        (x.rd 31 - 16).toNat + 16 ≤ x.stackTop ∧ 0x10000000 ≤ (x.rd 1).toNat ∧ (x.rd 1).toNat < 0x10080000 ∧
        (x.rd 1).toNat % 8 = 0) ∧
    (let s := stackState 0x10000FF0#64 0
     let x := s.core 0
     s.fetches 0 ∧ (x.rd 31).toNat % 16 = 0 ∧ x.stackTop - x.stackLen ≤ (x.rd 31).toNat ∧
       (x.rd 31).toNat + 16 ≤ x.stackTop ∧ ((s.fetched 0).eccRead (Mem.dram 0 + 0xFF0) 16 1).1 = false) ∧
    ((((coreState 8 0).core 0).rd 1 + (0#14).signExtend 64).toNat % 4 = 0) := by unfold State.fetches; decide +kernel

/-- SELVEDGE with segment 3 (run records with a data area, an output area and a stack region of 4 KiB each) and function 63,
whose LSEG it is. -/
def runSec : Section :=
  let run := fill 32 [(0, 4, 0x40), (4, 4, 0x10001000), (8, 4, 0x1000), (12, 4, 0x10002000), (16, 4, 0x1000),
    (20, 4, 0xFFF000), (24, 4, 0x1000)]
  ⟨10, 3, fill 32 [] ++ fill 32 [(0, 1, 1), (2, 2, 3), (4, 4, 96)] ++
    fill 32 [(0, 1, 2), (2, 1, 63), (4, 8, 2 ^ 64 - 1), (12, 4, 2 ^ 32 - 1), (16, 2, 3)] ++ run ++ run⟩
def runPat : Pattern := pat [] [topo [], oneEntry 28 (entryWord 5 7 0), codeSec, memSec 8, runSec]

/-- Core 0 executes run A or B of segment 3. -/
def runState (b : Bool) (v w : BitVec 64) : State :=
  let s := (live .run (some runPat)).setF F.SCH_STATUS_RUNNING 1
  let r := entryOf .selvSeg 1 (if b then 0x8003 else 3)
  let s := { s with sched := { s.sched with agents := [(0, ⟨some r, 0, false, none⟩)] } }
  s.setCore 0 { (Core.idle.wr 1 v).wr 2 w with
    object := if b then 0x8003#16 else 3#16, run := if b then .runB else .runA, stackTop := 0x10001000, stackLen := 0x1000 }

/-- Stores, selvedge runs: the first and the last place of the data area, of the stack region and of the output area. -/
theorem test_witness_SelvedgeStores : ∀ b ∈ [false, true],
    let rec_ := runPat.runRecord 3 b
    (∀ v ∈ [0x10002000, 0x10002FF8], let s := runState b (BitVec.ofNat 64 v) 0
      s.fetches 0 ∧ (s.core 0).run ≠ .none ∧ selvSegOf (s.core 0).object.toNat = 3 ∧ ((s.core 0).run == .runB) = b ∧
        ((s.core 0).rd 1).toNat % 8 = 0 ∧ runDataOff rec_ ≤ ((s.core 0).rd 1).toNat ∧
        ((s.core 0).rd 1).toNat + 8 ≤ runDataOff rec_ + runDataLen rec_) ∧
    (∀ v ∈ [0x10000000, 0x10000FF8], let s := runState b (BitVec.ofNat 64 v) 0
      s.fetches 0 ∧ ¬runDataOff rec_ ≤ ((s.core 0).rd 1).toNat ∧
        (s.core 0).stackTop - (s.core 0).stackLen ≤ ((s.core 0).rd 1).toNat ∧
        ((s.core 0).rd 1).toNat + 8 ≤ (s.core 0).stackTop) ∧
    (∀ v ∈ [0x20FFF000, 0x20FFFFF8], let s := runState b (BitVec.ofNat 64 v) 0
      s.fetches 0 ∧ runPat.granted 0 (((s.core 0).rd 1).toNat - 0x20000000) 8 true = true ∧
        runOutOff rec_ ≤ ((s.core 0).rd 1).toNat - 0x20000000 ∧
        ((s.core 0).rd 1).toNat - 0x20000000 + 8 ≤ runOutOff rec_ + runOutLen rec_) := by
  unfold State.fetches; decide +kernel

/-- BlockMove, selvedge runs: 15 bytes into the output area, and from shared SRAM into the data area. -/
theorem test_witness_SelvedgeBlockMove : let s := runState true 0x20FFF000#64 0x10002000#64
    let rec_ := runPat.runRecord 3 true
    s.fetches 0 ∧ s.affords 0 (48 + 32) ∧ (s.core 0).run ≠ .none ∧ (14#15).toNat + 1 = 15 ∧
      (∀ w, runPat.granted 0 0xFFF000 15 w = true) ∧ runOutOff rec_ = 0xFFF000 ∧ 15 ≤ runOutLen rec_ ∧
      runDataOff rec_ = 0x10002000 ∧ 15 ≤ runDataLen rec_ ∧
      ((s.fetched 0).eccRead (Mem.dram 0 + 0x2000) 15 1).1 = false ∧
      ((s.fetched 0).eccRead (Mem.shared + 0xFFF000) 15 1).1 = false ∧
      ((s.fetched 0).eccReadWord (Mem.shared + 0xFFF000 + 8) 3).1 = false ∧
      ((s.fetched 0).eccReadWord (Mem.dram 0 + 0x2000 + 8) 3).1 = false := by unfold State.fetches State.affords; decide +kernel

/-- EndPublishes: the end of an event task; of a run while the other one is under way, has ended with the same signature
(before the apply point of tick 5, and after it), and with another one. -/
theorem test_witness_EndPublishes_kinds :
    (let s := { coreState 0 0 with
       sched := { (coreState 0 0).sched with agents := [(0, ⟨some (entryOf .evtSlot 2 0x1000), 0, false, none⟩)] } }
     (s.agent 0).running = some (entryOf .evtSlot 2 0x1000) ∧ s.affords 0 2 ∧ s.fetch 0 (s.core 0).pc = (none, s)) ∧
    (∀ b ∈ [false, true], let s := runState b 0 0
      (s.agent 0).running = some (entryOf .selvSeg 1 (if b then 0x8003 else 3)) ∧ s.affords 0 2 ∧
        s.pat.active = some runPat ∧ s.fetch 0 (s.core 0).pc = (none, s) ∧ bitsOf (if b then 0x8003 else 3) 11 0 = 3 ∧
        (s.sig 3 (!b)).ended = false ∧ (s.sig 3 (!b)).aborted = false ∧
        ((s.setSig 3 (!b) { s.sig 3 b with ended := true }).sig 3 (!b)).ended = true ∧
        ((s.setSig 3 (!b) { s.sig 3 b with ended := true }).sig 3 (!b)).crc = (s.sig 3 b).crc ∧
        ((s.setSig 3 (!b) { s.sig 3 b with ended := true, count := 1 }).sig 3 (!b)).count ≠ (s.sig 3 b).count ∧
        s.applyCycle = some 800 ∧ ¬800 < 160 * 0 + (s.core 0).cyc + 2 ∧
        800 < 160 * 6 + (s.core 0).cyc + 2 ∧ s.getF F.APC_WSIG_MM_VALID = 0 ∧ runPat.fnsOfSegment 3 = [63]) :=
  ⟨⟨by decide, by unfold State.affords; decide, rfl⟩, by
    intro b hb
    have h : ∀ b ∈ [false, true], (runState b 0 0).fetch 0 ((runState b 0 0).core 0).pc = (none, runState b 0 0) := by
      intro b hb; cases b <;> rfl
    refine ⟨?_, ?_, rfl, h b hb, ?_⟩
    · revert b; decide
    · revert b; unfold State.affords; decide
    · revert b; decide +kernel⟩

/-- UnknownInstructions: a free and a held capture; a fetch beyond the code and from an uncorrectable word; addresses that
wrap, leave each memory and are not aligned; words that cannot be read; a stack pointer off its region and one off its
alignment; stores of a run outside its areas. -/
theorem test_witness_UnknownInstructions_causes :
    (let s := coreState 0 0
     decodeStitch 0 0x00082301#32 = some (.add 0 false 3 1 2) ∧ s.inCode 0 (s.core 0).pc = true ∧ s.affords 0 0 ∧
       (s.setF (F.APC_CORE_FAULT_VALID 0) 1).getF (F.APC_CORE_FAULT_VALID 0) = 1 ∧ s.inCode 0 256#32 = false ∧
       ((s.setMark 0 0 (.uncorrectable 7)).eccReadWord (Mem.iram 0) 1).1 = true) ∧
    (∀ x ∈ [(0x100000000, true), (0x0FFFFFFF, true), (0x10080000, true), (0x10000001, false)],
      let s := coreState (BitVec.ofNat 64 x.1) 0
      s.fetches 0 ∧ decide (2 ^ 32 ≤ ((s.core 0).rd 1).toNat ∨ ((s.core 0).rd 1).toNat < 0x10000000 ∨
        0x10080000 < ((s.core 0).rd 1).toNat + 8) = x.2) ∧
    (∀ x ∈ [(0x20000000, false), (0x20001001, true)], let s := coreState (BitVec.ofNat 64 x.1) 0
      s.fetches 0 ∧ ∀ w, corePat.granted 0 (((s.core 0).rd 1).toNat - 0x20000000) 8 w = x.2) ∧
    (let s := (coreState 0x10000000 0).setMark 8 0 (.uncorrectable 7)
     s.fetches 0 ∧ (s.core 0).run = .none ∧ ((s.fetched 0).eccRead (Mem.dram 0) 8 1).1 = true ∧
       ((s.fetched 0).eccRead (Mem.dram 0) 4 3).1 = true) ∧
    (∀ v ∈ [0x10000000, 0x10001010, 0x10000FF8], let s := stackState (BitVec.ofNat 64 v) 0x10000008#64
      let x := s.core 0
      s.fetches 0 ∧ ((x.rd 31 - 16).toNat % 16 ≠ 0 ∨ ¬(x.stackTop - x.stackLen ≤ (x.rd 31 - 16).toNat ∧
        (x.rd 31 - 16).toNat + 16 ≤ x.stackTop))) ∧
    (∀ v ∈ [0x10001000, 0x10080000], let s := runState false (BitVec.ofNat 64 v) 0
      s.fetches 0 ∧ (s.core 0).run ≠ .none ∧ v < 2 ^ 32 ∧
        ¬((s.core 0).stackTop - (s.core 0).stackLen ≤ v ∧ v + 8 ≤ (s.core 0).stackTop) ∧
        ¬(runDataOff (runPat.runRecord 3 false) ≤ v)  = (v == 0x10001000)) := by
  unfold State.fetches State.affords; decide +kernel

/-- EndPublishes: the last segment of task 0, whole and cut. -/
theorem test_witness_EndPublishes : let s := coreState 0 0
    s.pat.active = some corePat ∧ (s.agent 0).running = some (entryOf .coreSeg 0 0) ∧
      s.fetch 0 (s.core 0).pc = (none, s) ∧ corePat.taskSegments 0 = bitsOf 0 7 0 + 1 ∧ s.affords 0 2 ∧
      Store.get (fun _ => false) s.tasks.cut 0 = false ∧
      Store.get (fun _ => false) (Store.set (fun _ => false) s.tasks.cut 0 true) 0 = true :=
  ⟨rfl, rfl, rfl, by decide, by unfold State.affords; decide, rfl, rfl⟩

/-- UnknownInstructions: a word of zeros, and service 0x1FF. -/
theorem test_witness_UnknownInstructions : let s := coreState 0 0
    s.fetches 0 ∧ s.getF (F.APC_CORE_FAULT_VALID 0) = 0 ∧ decodeStitch 0 0 = none ∧ knownService 0x1FF = false := by
  unfold State.fetches; decide +kernel

/-! ### System calls -/

/-- Services: a core with a trigger, a full recorder queue, an event task's queue that is empty and full. -/
theorem test_witness_Services :
    (let s := coreState 0 0
     s.fetches 0 ∧ (s.core 0).evt = none ∧ (s.core 0).run = .none ∧ corePat.queueDefined 0 = true ∧
       (s.fetched 0).evr.staged.length < 64 ∧ ((s.fetched 0).triggersOf 16).length < 8) ∧
    (let s := (coreState 0 0).setCore 0 { Core.idle with evt := some (0x8000, 5) }
     s.fetches 0 ∧ (s.core 0).evt = some (0x8000, 5)) ∧
    (let s := { coreState 0 0 with
       evr := { State.reset.evr with staged := List.replicate 64 ⟨0, 0, 0, [], 0, false⟩ } }
     s.fetches 0 ∧ 64 ≤ (s.fetched 0).evr.staged.length) ∧
    (let s := (coreState 0 0).setTriggers 31 (List.replicate 8 ⟨0, 0, 0, 0⟩)
     s.fetches 0 ∧ 8 ≤ ((s.fetched 0).triggersOf (16 + 15)).length) := by unfold State.fetches; decide +kernel

/-- QueueServices: queue 0 empty, with one element, and full; its element at the end of the data scratchpad. -/
theorem test_witness_QueueServices :
    (coreState 0 0).pat.active = some corePat ∧
    (∀ n ∈ [0, 1, 2], let s := (coreState 0x1007FFF8#64 0).setQueue 0 ⟨1, n, 0⟩
      s.fetches 0 ∧ 0x10000000 ≤ ((s.core 0).rd 1).toNat ∧
        ((s.core 0).rd 1).toNat + corePat.queueSize 0 ≤ 0x10080000 ∧ corePat.queueProducer 0 = 0 ∧
        corePat.queueConsumer 0 = 0 ∧ corePat.queueDepth 0 = 2 ∧ ((s.fetched 0).queueState 0).fill = n ∧
        ((s.fetched 0).eccRead (Mem.dram 0 + 0x7FFF8) 8 1).1 = false ∧
        ((s.fetched 0).eccRead (queuePlace corePat 0 1) 8 1).1 = false) := by
  refine ⟨rfl, ?_⟩; unfold State.fetches; decide +kernel

/-- GrantedAccesses: grant 0, and grant 1, which there is not. -/
theorem test_witness_GrantedAccesses : let s := coreState 0 0
    s.fetches 0 ∧ (s.core 0).run = .none ∧ 0 < corePat.items Pattern.GRANTS ∧ bitOf (corePat.grantAccess 0) 0 = true ∧
      bitOf (corePat.grantAccess 0) 1 = true ∧ bitOf (corePat.grantCores 0) 0 = true ∧
      corePat.grantAddr 0 = F.GLB_FORCE_SYM_SYM_ID.addr ∧ corePat.grantAddr 0 % 4 = 0 ∧
      windowAt (corePat.grantAddr 0) = none ∧ isLatched (corePat.grantAddr 0) = false ∧
      captureHi (corePat.grantAddr 0) = none ∧ ¬ 1 < corePat.items Pattern.GRANTS ∧
      (s.fetched 0).readable (.application 0) (corePat.grantAddr 0) ∧
      (s.fetched 0).served (.application 0) (corePat.grantAddr 0) := by
  unfold State.fetches State.readable State.served; decide +kernel

end Sys2Proof.Slice0

namespace Sys2Proof.Slice0
set_option Elab.async false

/-! ### Registers -/

/-- The module in STOP, with no Pattern. -/
def stopped : State := live .stop none
def running : State := live .run none

/-- With two engineering sessions, opened by an enrolled owner. -/
def State.session (s : State) : State := { s with sec := { s.sec with sessions := 2, owned := 2 } }

/-- RegisterWritesAndRefusals: a misaligned address, a reserved offset inside a block and the first address above every
block, registers of each kind, LOOP in RUN and in STOP, and writes to GLB_ACCERR that are refused, clear, and neither. -/
theorem test_witness_RegisterWritesAndRefusals :
    (∀ a, stopped.served .supervisor a ∧ running.served .supervisor a) ∧ stopped.mayWrite (.application 0) 0 false = false ∧
    stopped.station = .stop ∧ running.station = .run ∧
    3 % 4 ≠ 0 ∧ (0x3FC % 4 = 0 ∧ findReg 0x3FC = none ∧ windowAt 0x3FC = none) ∧ 0x00130000 % 4 = 0 ∧
    ((F.CAN_CTRL_LOOP 7).pick (BitVec.ofNat 32 (2 ^ (F.CAN_CTRL_LOOP 7).lo)) ≠ running.getF (F.CAN_CTRL_LOOP 7) ∧
      (F.CAN_CTRL_LOOP 7).pick (BitVec.ofNat 32 (2 ^ (F.CAN_CTRL_LOOP 7).lo)) ≠ 3) ∧
    (let s := stopped.setF F.GLB_ACCERR_BAD_WIDTH 1
     s.getR F.GLB_ACCERR_COUNT.addr &&& 4 &&& 0xF#32 ≠ 0 ∧ (0x100#32 &&& 0xF000FF00#32) ≠ 0 ∧
      ¬(s.getR F.GLB_ACCERR_COUNT.addr &&& 8 &&& 0xF#32 ≠ 0) ∧ ¬((4#32 &&& 0xF000FF00#32) ≠ 0)) ∧
    F.GLB_ACCERR_COUNT.addr ≠ 0 := by
  refine ⟨fun a => ⟨⟨rfl, by decide, rfl⟩, ⟨rfl, by decide, rfl⟩⟩, ?_⟩
  decide +kernel

/-- RegisterFields: registers of RO fields alone, of an RW field, of RW fields that refuse a value, of an RWS field in STOP,
in TACKING and in RUN with another value, of a W1C field beside RO fields, and a CORE_FAULT register. -/
theorem test_witness_RegisterFields :
    (∀ x ∈ [(F.PAT_GEN_GENERATION.addr, 1#32), (F.GLB_FORCE_SYM_SYM_ID.addr, 5#32), (F.PTP_STEP_LIMIT_NS.addr, 5#32),
        ((F.CAN_CTRL_LOOP 7).addr, BitVec.ofNat 32 (2 ^ (F.CAN_CTRL_LOOP 7).lo)),
        ((F.CAN_CTRL_LOOP 7).addr, BitVec.ofNat 32 (3 * 2 ^ (F.CAN_CTRL_LOOP 7).lo)),
        (F.APC_WSIG_MM_VALID.addr, 0x80000000#32), ((F.APC_CORE_FAULT_VALID 7).addr, 0x80000000#32)],
      ∀ s ∈ [stopped, running, live .tacking none],
        x.1 % 4 = 0 ∧ windowAt x.1 = none ∧ (findReg x.1).isSome ∧ s.ownWrite .supervisor x.1 x.2 = none ∧
          (findReg x.1).all (fun r => r.fields.all (fun f => f.acc != .wo && f.acc != .w1s)) = true) ∧
    (findReg F.PAT_GEN_GENERATION.addr).any (fun r => r.fields.all (fun f => f.acc == .ro)) = true ∧
    (findReg (F.CAN_CTRL_LOOP 7).addr).any (fun r => r.fields.any (fun f => f.acc == .rws && 
      stopped.fieldRefuses .supervisor (F.CAN_CTRL_LOOP 7).addr (BitVec.ofNat 32 (3 * 2 ^ (F.CAN_CTRL_LOOP 7).lo)) f)) = true ∧
    (findReg (F.CAN_CTRL_LOOP 7).addr).any (fun r => r.fields.all (fun f =>
      !stopped.fieldRefuses .supervisor (F.CAN_CTRL_LOOP 7).addr (BitVec.ofNat 32 (2 ^ (F.CAN_CTRL_LOOP 7).lo)) f)) = true ∧
    (findReg F.APC_WSIG_MM_VALID.addr).any (fun r => r.fields.any (fun f => f.acc == .w1c)) = true ∧
    (F.APC_CORE_FAULT_VALID 7).pick 0x80000000#32 = 1 := by decide +kernel

/-- RegisterReads: misaligned, plain, reserved, a low word, and capture channel 15 with one capture. -/
theorem test_witness_RegisterReads :
    2 % 4 ≠ 0 ∧ (let a := F.PTP_STATUS_CODE.addr
      a % 4 = 0 ∧ windowAt a = none ∧ isLatched a = false ∧ captureHi a = none) ∧
    (0x3FC % 4 = 0 ∧ windowAt 0x3FC = none ∧ findReg 0x3FC = none) ∧ isLatched F.SCH_STITCH_HI_COUNT.addr = true ∧
    stopped.mayRead .engService 0 = false ∧
    (let s := { State.session stopped with ptp := { stopped.ptp with captures := [(15, [0x123456789A#64])] } }
     s.readable .engService F.SCH_STITCH_LO_COUNT.addr ∧ s.readable .engService F.SCH_STITCH_HI_COUNT.addr ∧
      s.readable .engService (F.PTP_CAP_HI_TIME 15).addr ∧ s.capturesOf 15 = [0x123456789A#64]) := by
  unfold State.readable; decide +kernel

/-- CarrierPort: a listed and an unlisted address, the last mailbox word, with IN_FULL clear and set. -/
theorem test_witness_CarrierPort :
    stopped.reachable = true ∧ stopped.rst.vioOut = false ∧ (let a := F.GLB_CMP_STATUS_IN_FULL.addr
      a % 4 = 0 ∧ portListed a = true ∧ isLatched a = false) ∧
    (F.LPE_BOB_AMP_VALUE.addr % 4 = 0 ∧ portListed F.LPE_BOB_AMP_VALUE.addr = false ∧
      F.LPE_BOB_AMP_VALUE.addr ≠ F.GLB_CMP_CMD_OP.addr) ∧
    (∀ k < 16, F.LPE_BOB_AMP_VALUE.addr ≠ (F.GLB_CMP_IN_DATA k).addr) ∧
    stopped.getF F.GLB_CMP_STATUS_IN_FULL = 0 ∧
    (let s := stopped.setF F.GLB_CMP_STATUS_IN_FULL 1
     s.reachable = true ∧ s.getF F.GLB_CMP_STATUS_IN_FULL = 1) := by decide +kernel

/-- Mailbox: lengths 1, 64, 0 and 65, both directions empty and full. -/
theorem test_witness_Mailbox :
    (∀ n ∈ [1, 64], 1 ≤ (BitVec.ofNat 7 n).toNat ∧ (BitVec.ofNat 7 n).toNat ≤ 64) ∧
    (∀ n ∈ [0, 65], ¬(1 ≤ (BitVec.ofNat 7 n).toNat ∧ (BitVec.ofNat 7 n).toNat ≤ 64)) ∧
    stopped.reachable = true ∧ stopped.getF F.GLB_CMP_STATUS_IN_FULL = 0 ∧
    stopped.getF F.GLB_CMP_STATUS_OUT_FULL = 0 ∧ stopped.served .supervisor F.GLB_CMP_CMD_OP.addr ∧
    (State.session stopped).served .engService F.GLB_CMP_CMD_OP.addr ∧
    (let s := (stopped.setF F.GLB_CMP_STATUS_IN_FULL 1).setF F.GLB_CMP_STATUS_OUT_FULL 1
     s.reachable = true ∧ s.getF F.GLB_CMP_STATUS_IN_FULL = 1 ∧ s.getF F.GLB_CMP_STATUS_OUT_FULL = 1) := by unfold State.served; decide +kernel

end Sys2Proof.Slice0

namespace Sys2Proof.Slice0
set_option Elab.async false

/-! ### Slot entries -/

/-- Boundary state of a stitch in RUN: the slot tables run under p. -/
def ticking (p : Pattern) : State := (live .run (some p)).setF F.SCH_STATUS_RUNNING 1

/-- SELVEDGE with segment 0, whose run record names entry 0x40 and stack top 0x10001000. -/
def selvSec : Section :=
  ⟨10, 2, fill 32 [(32 - 32, 1, 0)] ++ fill 32 [(0, 1, 1), (2, 2, 0), (4, 4, 64)] ++
    fill 64 [(0, 4, 0x40), (4, 4, 0x10001000), (8, 4, 0x1000), (32, 4, 0x40), (36, 4, 0x10001000), (40, 4, 0x1000)]⟩

def coreEntryPat (kind object : Nat) : Pattern :=
  pat [] [topo [], oneEntry 0 (entryWord 5 kind object), codeSec, selvSec]
def coreEntryState (kind object : Nat) : State := ticking (coreEntryPat kind object)

/-- CoreEntriesStart: a segment, a selvedge run, an event slot with a trigger of tick 0 and without, a core without
power, a busy core. -/
theorem test_witness_CoreEntriesStart :
    (∀ x ∈ [(0, 0, EntryKind.coreSeg), (1, 0x8000, .selvSeg), (2, 0x1000, .evtSlot)], let s := coreEntryState x.1 x.2.1
      s.pat.active.isSome ∧ s.scheduled 0 0 = some (oneRunning (entryWord 5 x.1 x.2.1)) ∧
        (oneRunning (entryWord 5 x.1 x.2.1)).entry.kind = x.2.2 ∧ (s.agent 0).running = none ∧ s.roleIs .solo = true ∧
        s.domainOn 0 = true ∧
        s.getF F.SCH_STATUS_DEGRADED_CLK = 0 ∧ s.getF (F.SCH_TASK_STATUS_SUSPENDED (bitsOf x.2.1 12 8)) = 0) ∧
    (let s := (coreEntryState 2 0x1000).setTriggers 16 [⟨0x8000, 7, 0, 0⟩]
     s.triggersOf 16 = [⟨0x8000, 7, 0, 0⟩] ∧ s.clock.stitch = 0) ∧
    (let s := (coreEntryState 0 0).setF F.PWR_DOMAINS_ON 0x40000
     s.domainOn 0 = false ∧ s.scheduled 0 0 = some (oneRunning (entryWord 5 0 0))) ∧ (coreEntryState 2 0x1000).triggersOf 16 = [] ∧
    (let s := (coreEntryState 0 0).setAgent 0 { Agent.idle with running := some (entryOf .coreSeg 0 0) }
     s.scheduled 0 0 = some (oneRunning (entryWord 5 0 0)) ∧
       (s.agent 0).running = some (entryOf .coreSeg 0 0)) := by decide +kernel

/-- LoopGroups: lane 7 with the 128 channels from 0, all due at seam position 0, or none used. -/
def groupState : State := ticking (pat [] [topo [], oneEntry 15 (entryWord 5 3 0x0100), ⟨6, 256, List.replicate 256 0#8⟩])
theorem test_witness_LoopGroups :
    groupState.scheduled 15 0 = some (oneRunning (entryWord 5 3 0x0100)) ∧
    (oneRunning (entryWord 5 3 0x0100)).entry.kind = .loopGrp ∧ groupState.pat.active.isSome ∧
    (groupState.agent 15).running = none ∧ groupState.roleIs .solo = true ∧
    groupState.getF F.SCH_STATUS_DEGRADED_CLK = 0 ∧ groupState.domainOn domLoop = true := by decide +kernel

/-- SOLVER with context 7 used: 1 variable, 1 row. -/
def solverSec : Section := ⟨7, 8, List.replicate 448 0#8 ++ fill 64 [(0, 1, 1), (1, 1, 1), (2, 1, 0), (3, 1, 1), (4, 1, 1)]⟩
def solverPat : Pattern := pat [] [topo [], oneEntry 16 (entryWord 5 4 7), solverSec]
def solverState (mode : Nat) : State := (ticking solverPat).setF (F.QPS_CTX_STATE_MODE 7) mode

/-- The same context with an export block at exp, before its output block; its value 0 is exported. -/
def exportSec (exp : Nat) : Section := ⟨7, 8, List.replicate 448 0#8 ++
  fill 64 [(0, 1, 1), (1, 1, 1), (2, 1, 0), (3, 1, 1), (4, 1, 1), (24, 4, 32), (28, 4, exp), (33, 4, 0xFFFFFFFF), (37, 3, 0xFFFFFF)]⟩

/-- SolveStarts: context 7, ENABLED, DISABLING and DISABLED, with exports apart from the output and without. -/
theorem test_witness_SolveStarts :
    (let it := (pat [] [exportSec 0]).qp 7
     (qpExpIdx it).any (· != 0xFF) = true ∧ (Mem.shared + qpExpOff it) + 32 ≤ Mem.shared + qpOutOff it ∧
       it.u8 (32 + 0) ≠ 0xFF ∧ it.u8 (32 + 7) = 0xFF) ∧
    (qpExpIdx ((pat [] [⟨7, 8, List.replicate 480 0#8 ++ List.replicate 32 0xFF#8⟩]).qp 7)).any (· != 0xFF) = false ∧
    ∀ m ∈ [qmEnabled, qmDisabling, qmDisabled], let s := solverState m
    s.pat.active.isSome ∧ s.scheduled 16 0 = some (oneRunning (entryWord 5 4 7)) ∧
      (oneRunning (entryWord 5 4 7)).entry.kind = .qpStart ∧ s.qps.run = none ∧ s.roleIs .solo = true ∧
      s.getF F.SCH_STATUS_DEGRADED_CLK = 0 ∧ s.domainOn domSolver = true ∧ qpUsed (solverPat.qp 7) = true ∧
      s.getF (F.QPS_CTX_STATE_MODE 7) = m := by decide +kernel

/-- SequencerEntries: an OUT_APPLY and a RETAIN_COMMIT of agent 28. -/
def ioState (kind : Nat) : State := ticking (pat [] [topo [], oneEntry 28 (entryWord 5 kind 0)])
theorem test_witness_SequencerEntries :
    (ioState 7).pat.active.isSome ∧ (ioState 7).getF F.SCH_STATUS_DEGRADED_CLK = 0 ∧
    (ioState 7).nextIoEntry .outApply = some (oneRunning (entryWord 5 7 0)) ∧
    (ioState 6).pat.active.isSome ∧ (ioState 6).getF F.SCH_STATUS_DEGRADED_CLK = 0 ∧
    (ioState 6).nextIoEntry .retainCommit = some (oneRunning (entryWord 5 6 0)) ∧
    (ioState 6).commitStitch = false := by decide +kernel

/-- SelfTestsAndScrubbing: test 5 of agent 0; a queued word, a sweep in its last word, a late sweep of a class B array. -/
def testState : State := ticking (pat [] [topo [], oneEntry 0 (entryWord 5 8 5)])
theorem test_witness_SelfTestsAndScrubbing :
    testState.scheduled 0 0 = some (oneRunning (entryWord 5 8 5)) ∧
    (oneRunning (entryWord 5 8 5)).entry.kind = .selftest ∧ (testState.agent 0).running = none ∧
    testState.getF F.SCH_STATUS_DEGRADED_CLK = 0 ∧ bitsOf (oneRunning (entryWord 5 8 5)).entry.object 7 0 ≠ 0x31 ∧
    (let s := { stopped with ecc := { stopped.ecc with repair := [(45, [3])], marks := [(eccKey 45 3, .correctable 1)] } }
     s.scrubbing = true ∧ Store.get (fun _ => []) s.ecc.repair 45 = [3] ∧ s.mark 45 3 = .correctable 1 ∧
       s.eccClassA 45 = false) ∧
    (let s := { stopped with ecc := { stopped.ecc with sweep := [(45, 16383)] } }
     Store.get (fun _ => []) s.ecc.repair 45 = [] ∧ s.mark 45 16383 = .clean) := by decide +kernel

/-- Overruns: task 0 on core 0 with the action that goes on, with no cycle and with one more than its budget. -/
theorem test_witness_Overruns : (coreState 0 0).pat.active = some corePat ∧
    (coreState 0 0).agent 0 = { Agent.idle with running := some (entryOf .coreSeg 0 0) } ∧
    corePat.taskSuspend 0 = false ∧ ((coreState 0 0).core 0).cyc ≤ (entryOf .coreSeg 0 0).entry.budget ∧
    (let s := (coreState 0 0).setCore 0 { Core.idle with cyc := 101 }
     (entryOf .coreSeg 0 0).entry.budget < (s.core 0).cyc) := ⟨rfl, by decide, by decide, by decide, by decide⟩

/-- NETWORK: CAN controller 0 with its FIFO in queue 0, mailbox 63 and slot 0, which takes from queue 0; port 0 with
1000 Mbit/s, its slot 0 for the plain set 1, the received set 2 of 8 bytes. -/
def netSec : Section :=
  ⟨9, 7, fill 32 [(0, 1, 0x30), (2, 1, 1), (3, 1, 5), (17, 1, 0xFF)] ++
    fill 32 [(0, 1, 0x31), (2, 1, 63), (4, 4, 0x123), (8, 4, 0x1FFFFFFF)] ++ fill 32 [(0, 1, 0x32)] ++
    fill 32 [(0, 1, 0x40), (2, 1, 2)] ++ fill 32 [(0, 1, 0x42), (4, 2, 1)] ++
    fill 32 [(0, 1, 0x10), (1, 1, 5), (2, 2, 1), (4, 2, 8), (8, 2, 1)] ++
    fill 32 [(0, 1, 0x10), (1, 1, 4), (2, 2, 2), (4, 2, 8), (8, 2, 1), (24, 2, 7)]⟩
/-- LINING: one item, packet of 256 bytes of the shared SRAM, in slot 0. -/
def liningSec : Section := ⟨11, 3, fill 16 [(4, 4, 0x8000), (8, 4, 512), (12, 1, 4)] ++
  fill 16 [(0, 1, 1), (1, 1, 0), (4, 4, 0x2000), (8, 4, 256)] ++ fill 16 [(0, 1, 1), (1, 1, 1), (4, 4, 0x2100), (8, 4, 256)]⟩
def netPat (a object : Nat) : Pattern :=
  pat [(34, 2, 2)] [topo [(4, 1, 1)], oneEntry a (entryWord 5 5 object), codeSec, memSec 80, netSec, liningSec]
def netState (a object : Nat) : State := ticking (netPat a object)

/-- A slot frame of CAN controller 0. -/
def canRec : Bytes := fill 80 [(0, 4, 0x123), (5, 1, 8)]

/-- NetworkAndNymilEntries: CAN slot 0 with a record in its queue and without, a frame that has not won, one that is an earlier entry's; port 0's slot,
filled with the link up, and not filled; the slot before the last of the active, with the link up and down; an apply
entry of a standby, with a health report due and no credit, and with one that still waits. -/
theorem test_witness_NetworkAndNymilEntries :
    (∀ x ∈ [(17, 0), (25, 0), (27, 0), (27, 32)], let s := netState x.1 x.2
      s.pat.active.isSome ∧ s.scheduled x.1 0 = some (oneRunning (entryWord 5 5 x.2)) ∧
      (oneRunning (entryWord 5 5 x.2)).entry.kind = .netTx ∧ s.getF F.SCH_STATUS_DEGRADED_CLK = 0 ∧
      slotOf (oneRunning (entryWord 5 5 x.2)).entry.object = x.2) ∧
    ((netState 17 0).agent 17).running = none ∧ ((netPat 17 0).canSlot 0 0).isSome ∧
    (let s := ((netState 17 0).wrBytes (Mem.shared + 0x100) canRec).setQueue 0 ⟨0, 1, 0⟩
     ((s.atTick 5).canSlotTake (netPat 17 0) 0 0 (fill 32 [(0, 1, 0x32)])).1 = some canRec ∧
       recBad true false canRec = false) ∧
    (((netState 17 0).atTick 5).canSlotTake (netPat 17 0) 0 0 (fill 32 [(0, 1, 0x32)])).1 = none ∧
    (∀ tx ∈ [none, some (⟨some 0, canRec, 0, false, none⟩ : CanSending),
        some ⟨some 0, canRec, 0, false, some (oneRunning 0)⟩],
     let s := ((netState 17 0).setCan 0 ⟨some (0, canRec), tx, false, none⟩).setAgent 17
       { Agent.idle with running := some (oneRunning (entryWord 5 5 0)) }
     (s.agent 17).running = some (oneRunning (entryWord 5 5 0)) ∧ (s.canOf 0).slot = some (0, canRec) ∧
       (s.canOf 0).tx = tx ∧ (tx.any (fun x => x.expired.isSome) → tx.any (fun x => x.slot.isSome)) ∧ s.scheduled 17 0 = some (oneRunning (entryWord 5 5 0))) ∧
    (let s := ((netState 25 0).setFilled (ethSlotKey 0 0) true).setF (F.ETH_P_STATUS_LINK 0) 1
     ((netPat 25 0).ethSlot 0 0).isSome ∧ s.filledAt (ethSlotKey 0 0) = true ∧ s.getF (F.ETH_P_STATUS_LINK 0) = 1 ∧
       s.portOpen 0 = true) ∧ (netState 25 0).filledAt (ethSlotKey 0 0) = false ∧
    (∀ n ∈ [0, 16], let s := ((netState 27 0).setF F.PAIR_STATUS_ROLE 1).setF F.PAIR_PATHS_LINK_UP 1
     let s := { s with pair := { s.pair with credits := n } }
     s.roleIs .active = true ∧ s.getF F.PAIR_PATHS_LINK_UP = 1 ∧ s.pair.credits = n ∧ 0 ≠ (netPat 27 0).lastSlot ∧
       (((s.atTick 5).liningReads (netPat 27 0) ((netPat 27 0).liningItems 0)).1).length = 1) ∧
    (let s := (netState 27 0).setF F.PAIR_STATUS_ROLE 1
     s.roleIs .active = true ∧ s.getF F.PAIR_PATHS_LINK_UP = 0) ∧
    (let s := (netState 27 32).setF F.PAIR_STATUS_ROLE 2
     let s := { s with pair := { s.pair with committed := some (0, false, 0), toApply := [0, 1] } }
     s.roleIs .active = false ∧ s.pair.committed = some (0, false, 0) ∧
       s.pair.toApply.contains (32 - 32) = true) ∧
    (let s := netState 27 32
     let s := { s with pair := { s.pair with committed := some (0, false, 0), toApply := [0], healthDue := true, key := some [] } }
     s.pair.healthDue = true ∧ s.pair.key ≠ none ∧ s.pair.credits = 0 ∧ s.getF F.PAIR_PATHS_LINK_UP = 0 ∧
       ((s.atTick 5).dropHealth).tickNow < (oneRunning (entryWord 5 5 32)).entry.finish) ∧
    (let s := netState 27 32
     let s := { s with pair := { s.pair with healthWait := some 4 } }
     s.pair.healthWait ≠ none ∧ s.scheduled 27 0 = some (oneRunning (entryWord 5 5 32))) := by decide +kernel

end Sys2Proof.Slice0

namespace Sys2Proof.Slice0
set_option Elab.async false

/-! ### Boundary, modes, forces, Patterns -/

/-- A STEP of ns, and a REBASE to v with trigger 3 armed, that wait. -/
def stepState (d : Int) : State := { stopped with clock := { stopped.clock with pendingStep := some d } }
def rebaseState (v : BitVec 64) : State :=
  { stopped.setF (F.PTP_TRIG_CTRL_ARMED 3) 1 with clock := { stopped.clock with pendingRebase := some v } }
/-- A stop, or a change to another operating state, that waits. -/
def leaving (st dst : StationState) : State :=
  { live st none with sched := { stopped.sched with stopRequest := some dst, op := 5 } }
/-- A start that waits, with seam length n. -/
def startsIn (n : Nat) : State :=
  { live .stop (some (pat [] [⟨1, 1, fill 64 [(2, 2, n)]⟩])) with
    sched := { stopped.sched with startRequest := some .run, op := 1 } }

/-- Boundaries: a STEP and a REBASE that wait, an armed trigger; a cause of SAFE_HALT; a start at a boundary of seam
position 0 and one of another; a stop and the changes between RUN and TACKING; the preparation of WATCH; WATCH, and STOP
with no trigger due, for seam lengths 1 and 8192. -/
theorem test_witness_Boundaries :
    (∀ s ∈ [stopped, stepState 7, stepState (-7), rebaseState 0, rebaseState (2 ^ 63)],
      s.alive = true ∧ s.station ≠ .watch ∧ (∀ k < 4, s.trigDue k = false ∨ s.clock.pendingRebase.isSome)) ∧
    stopped.clock.pendingStep = none ∧ stopped.clock.pendingRebase = none ∧ (rebaseState 0).clock.pendingStep = none ∧
    (let s := rebaseState (2 ^ 63)
     let s := (s.setF (F.PTP_TRIG_LO_TIME 3) 0xFFFFFFFF).setF (F.PTP_TRIG_HI_TIME 3) 0xFFFFFFFF
     s.getF (F.PTP_TRIG_CTRL_ARMED 3) = 1 ∧ ∀ k < 4, s.trigDue k = false) ∧
    (let s := { running with saf := { running.saf with haltCause := some 1 } }
     s.saf.haltCause = some 1 ∧ s.haltable = true ∧ ∀ k < 4, s.trigDue k = false) ∧
    (∀ n ∈ [1, 8192], let s := startsIn n
      s.station = .stop ∧ s.saf.haltCause = none ∧ s.olcOpen = false ∧ s.getF F.SCH_STATUS_RUNNING = 0 ∧
        (∀ a < 29, (s.agent a).running = none) ∧ s.sched.startRequest = some .run ∧ (∀ k < 4, s.trigDue k = false) ∧
        decide (s.edgeTime.getF F.SCH_STATUS_SEAM_POS = 0) = (n == 1)) ∧
    (∀ x ∈ [(StationState.run, StationState.stop), (.tacking, .stop), (.run, .tacking), (.tacking, .run)],
      let s := leaving x.1 x.2
      s.sched.stopRequest = some x.2 ∧ s.boundaryEdge.operating = true ∧ s.phase ≠ 1 ∧ s.sched.op = 5 ∧
        ∀ k < 4, s.trigDue k = false) ∧
    (let s := running.setF F.PWR_STATUS_PHASE 1
     s.boundaryEdge.operating = true ∧ s.phase = 1 ∧ s.edgeTime.getF F.SCH_STATUS_SEAM_POS = 0 ∧
       ∀ k < 4, s.trigDue k = false) ∧
    (live .watch none).station = .watch ∧ stopped.alive = true ∧ stopped.station ≠ .watch ∧
    (∀ k < 4, stopped.trigDue k = false) ∧ 0 < stopped.clock.incr.toNat ∧ 0 < stopped.clock.period ∧
    (∀ n ∈ [1, 8192], (pat [] [⟨1, 1, fill 64 [(2, 2, n)]⟩]).seamLen = n) := by decide +kernel

/-- STOP with a committed bank of no data: SEQ 1, PATTERN_ID 0, layout 0, its CRC. -/
def retained : State := (live .stop (some corePat)).wrBytes (Mem.retainBank 0) (fill 64 [(0, 1, 1), (60, 4, 0x2FB0A16A)])

/-- Starts: STOP with and without a committed bank, RUN, TACKING with and without forces, AUTO_START 0, 1 and 2, after an ACTIVATE,
on the RC oscillator, and before the wait for a master's time is over. -/
theorem test_witness_Starts :
    (∀ s ∈ [stopped, running, live .tacking none], s.served .supervisor F.GLB_START_CMD_OP.addr ∧ s.startBusy = false) ∧
    (let s := live .stop (some corePat)
     s.pat.active.isSome ∧ s.unlocked = false ∧ s.committedBank = none ∧ s.startBusy = false) ∧
    (retained.pat.active.isSome ∧ retained.unlocked = false ∧ retained.committedBank = some 0 ∧
      retained.startBusy = false ∧ (retained.bankHeader 0).u64 8 = 0 ∧ (retained.bankHeader 0).u32 20 = 0) ∧
    (stopped.setF F.SEC_STATUS_DEBUG 1).unlocked = true ∧ (live .tacking none).tasks.forces = [] ∧
    ({ live .tacking none with tasks := { stopped.tasks with forces := [(1, 2)] } } : State).tasks.forces ≠ [] ∧
    (∀ n ∈ [0, 1, 2], let p := pat [] [⟨4, 1, fill 16 [(2, 1, n)]⟩]
      let s := { live .stop (some p) with rst := { stopped.rst with autoDue := true } }
      s.rst.autoDue = true ∧ s.startBusy = false ∧ s.unlocked = false ∧ s.acquired p = true ∧ p.autoStart = n ∧
        s.committedBank = none ∧ s.sched.startRequest = none) ∧
    (let p := pat [] [⟨4, 1, fill 16 [(2, 1, 1)]⟩]
     let s := { live .stop (some p) with rst := { stopped.rst with autoDue := true } }
     let clk := s.setF F.SCH_STATUS_DEGRADED_CLK 1
     ({ s with rst := { s.rst with autoBarred := true } } : State).rst.autoBarred = true ∧ s.rst.autoBarred = false ∧
       clk.getF F.SCH_STATUS_DEGRADED_CLK ≠ 0 ∧ p.degradedClkRun = false ∧ clk.acquired p = true) ∧
    (let p := pat [] [⟨9, 1, fill 32 [(0, 1, 0x41), (3, 1, 8), (11, 1, 1)]⟩]
     let s := ({ live .stop (some p) with rst := { stopped.rst with autoDue := true } }).setF F.PTP_STATUS_TIME_INITIAL 1
     s.rst.autoDue = true ∧ s.station = .stop ∧ s.startBusy = false ∧ s.unlocked = false ∧ s.acquired p = false) := by unfold State.served; decide +kernel

/-- SYMBOLS: 5 is forceable, a BOOL in the output area of task 0; 6 is not. -/
def symSec : Section := ⟨16, 2, fill 32 [(0, 4, 5), (5, 1, 1), (6, 2, 8), (12, 4, 0x4000), (16, 4, 1)] ++
  fill 32 [(0, 4, 6), (5, 1, 1), (12, 4, 0x4001), (16, 4, 1)]⟩
def forceCode : Section := ⟨3, 40, fill 640 [(128, 1, 1), (137, 1, 1), (140, 4, 640)] ++ fill 24 [(16, 4, 0x4000), (20, 4, 16)]⟩
def forcePat : Pattern := pat [] [topo [], forceCode, memSec 8, symSec]
def forceState (id v n : Nat) : State :=
  let s := ((live .tacking (some forcePat)).setF F.GLB_FORCE_SYM_SYM_ID id).setF F.GLB_FORCE_VAL_LO_VALUE v
  { s with tasks := { s.tasks with forces := (List.range n).map (fun k => (BitVec.ofNat 32 (k + 5), 1)) } }

/-- Forces: outside TACKING; while a change commits; while the change to RUN waits; symbol 5 with the greatest value of its type and 255 other forces, and forced already;
symbol 6; a symbol there is not. -/
theorem test_witness_Forces :
    stopped.served .supervisor F.GLB_FORCE_CMD_OP.addr ∧ stopped.station ≠ .tacking ∧
    (let s := (forceState 5 1 0).setF F.PAT_STATE_OLC_STATE olcCommitting
     s.served .supervisor F.GLB_FORCE_CMD_OP.addr ∧ s.station = .tacking ∧ s.olc = olcCommitting) ∧
    (let s := forceState 5 1 0
     let s := { s with sched := { s.sched with stopRequest := some .run } }
     s.served .supervisor F.GLB_FORCE_CMD_OP.addr ∧ s.sched.stopRequest = some .run ∧ s.olc ≠ olcCommitting) ∧
    (∀ n ∈ [0, 1, 256], let s := forceState 5 1 n
      s.served .supervisor F.GLB_FORCE_CMD_OP.addr ∧ s.station = .tacking ∧ s.sched.stopRequest ≠ some .run ∧ s.olc ≠ olcCommitting ∧ forcePat.symIndex 5 = some 0 ∧
        forcePat.forceable 0 = true ∧ s.getF F.GLB_FORCE_VAL_LO_VALUE < 2 ∧
        (s.tasks.forces.filter (fun f => f.1.toNat != 5)).length < 256 ∧
        (s.tasks.forces.any (fun f => f.1.toNat == 5)) = decide (0 < n)) ∧
    forcePat.symIndex 6 = some 1 ∧ forcePat.forceable 1 = false ∧ forcePat.symIndex 7 = none := by
  unfold State.served; decide +kernel

/-- PatternCommands: VERIFY of a written slot; the end of a verification and of a load that fail (a slot of zeros);
ACTIVATE, REVERT and CLEAR at rest; a command while another executes. That a container passes every check takes a
signature under the owner key: the clauses of success are the other side of `verifySlot`. -/
theorem test_witness_PatternCommands :
    (let s := stopped.setF F.PAT_STATE_SHADOW_STATE shWritten
     s.served .supervisor F.PAT_CMD_OP.addr ∧ s.pat.executing = 0 ∧ s.station ≠ .boot ∧ s.olcOpen = false ∧ s.shadowState = shWritten) ∧
    (∀ n ∈ [1, 2, 6], let s := { stopped with pat := { stopped.pat with executing := n } }
      s.served .supervisor F.PAT_CMD_OP.addr ∧ s.pat.executing = n ∧ s.ownerBad = false ∧
        s.verifySlot s.roles.shadow = some (.badHeader, 0) ∧ s.verifySlot s.roles.active = some (.badHeader, 0)) ∧
    (let s := (stopped.setF F.PAT_STATE_SHADOW_STATE shVerified).setF F.PAT_STATE_PREV_VALID 1
     s.served .supervisor F.PAT_CMD_OP.addr ∧ s.pat.executing = 0 ∧ s.atRest = true ∧ s.shadowState = shVerified ∧
       s.getF F.PAT_STATE_PREV_VALID = 1 ∧ s.station = .stop ∧ s.sched.op = 0) ∧
    (let s := { stopped with sched := { stopped.sched with op := 1 } }
     s.served .supervisor F.PAT_CMD_OP.addr ∧ s.pat.executing = 0 ∧ s.atRest = true ∧ s.sched.op ≠ 0) := by
  unfold State.served; decide +kernel

/-- Generation 1, and a state whose shadow slot holds generation 2 of base b. -/
def olcPat : Pattern := pat [(16, 8, 9), (24, 4, 1), (34, 2, 1)] [topo [(2, 2, 4)]]
def olcContainer (b : Nat) : Bytes :=
  fill 128 [(10, 2, 1), (12, 4, 448), (16, 8, 9), (24, 4, 2), (28, 4, b), (34, 2, 1)] ++
    fill 64 [(0, 2, 1), (4, 4, 192), (8, 4, 64), (16, 4, 1)] ++ fill 256 [(2, 2, 4)]
def olcState (b olc at_ : Nat) : State :=
  let s := (((live .run (some olcPat)).wrBytes (Mem.patSlot 0) (olcContainer b)).setF F.PAT_STATE_OLC_STATE olc).setF
    F.PAT_OLC_AT_LO_N_C at_
  { s.setF F.PAT_STATE_SHADOW_STATE shVerified with
    pat := { s.pat with slotLen := [(0, 448)], prepared := if olc = 0 then none else some (parseContainer (olcContainer b)) } }

/-- OnlineChange: PREPARE of the right and of a wrong base, the end of the load, COMMIT at the first and before the
last boundary that it may take, ABORT. -/
theorem test_witness_OnlineChange :
    (let s := olcState 1 olcIdle 0
     s.served .supervisor F.PAT_CMD_OP.addr ∧ s.pat.executing = 0 ∧ s.operating = true ∧ s.shadowState = shVerified ∧
       olcCheck olcPat (parseContainer (s.container s.roles.shadow)) = none) ∧
    (let s := olcState 3 olcIdle 0
     olcCheck olcPat (parseContainer (s.container s.roles.shadow)) = some (.olcBase, 0)) ∧
    (let s := olcState 1 olcPreparing 0
     s.olc = olcPreparing ∧ s.pat.prepared.isSome ∧ codeFits olcPat (parseContainer (olcContainer 1)) = true ∧
       s.coresIdle = true ∧ s.olcOpen = true ∧ s.pat.markWritten = false ∧ s.served .supervisor F.PAT_CMD_OP.addr ∧
       (s.setAgent 0 { Agent.idle with running := some (entryOf .coreSeg 0 0) }).coresIdle = false ∧
       codeFits (pat [] [⟨3, 40, fill 644 [(0, 4, 640), (4, 4, 4), (640, 4, 1)]⟩])
         (pat [] [⟨3, 40, fill 644 [(0, 4, 640), (4, 4, 4), (640, 4, 2)]⟩]) = false) ∧
    (∀ n ∈ [4, 8], let s := olcState 1 olcReady n
      s.olc = olcReady ∧ 0 < olcPat.seamLen ∧ s.olcAt % olcPat.seamLen = 0 ∧
        decide ((s.clock.refN / olcPat.seamLen + 1) * olcPat.seamLen < s.olcAt) = (n == 8)) := by
  unfold State.served; decide +kernel

end Sys2Proof.Slice0

namespace Sys2Proof.Slice0
set_option Elab.async false

/-! ### Loop engine and solver -/

/-- LOOPS: channel 0 used, banked and traceable; channel 1 used; channel 2 not used. -/
def loopSec : Section := ⟨6, 256, fill 256 [(0, 2, 0x0405), (128, 2, 1)]⟩
def loopState (mode : Nat) : State :=
  ((live .stop (some (pat [] [topo [], loopSec]))).setF (F.LPE_CH_STATUS_MODE 0) mode).setF (F.LPE_CH_STATUS_MODE 1) mode
def loopItem (c : Nat) : Bytes := (pat [] [topo [], loopSec]).loop c

/-- LoopCommands: a banked, a plain and an unused channel, HELD, FAULTED and closed, with and without a command that
waits. -/
theorem test_witness_LoopCommands :
    (∀ m ∈ [0, lpHeld, lpFaulted], let s := loopState m
      s.served .supervisor F.LPE_CH_CMD_OP.addr ∧ s.pat.active.isSome ∧ s.lpMode 0 = m ∧ s.getF (F.LPE_CH_STATUS_PENDING 0) = 0 ∧
        ((loopState m).setF (F.LPE_CH_STATUS_PENDING 0) 1).getF (F.LPE_CH_STATUS_PENDING 0) ≠ 0) ∧
    lpUsed (loopItem 0) = true ∧ lpBanked (loopItem 0) = true ∧ lpUsed (loopItem 1) = true ∧
    lpBanked (loopItem 1) = false ∧ lpUsed (loopItem 2) = false := by unfold State.served; decide +kernel

/-- StoreWindowAndBobbin: first and last word of the banks, the supply words, a state word, a reserved one; a valid and
an empty capture set, a capture under way, and an injection that outlasted its capture. -/
theorem test_witness_StoreWindowAndBobbin :
    (let s := loopState lpHeld
     (∀ off ∈ [0, 0x40, 0xEC, 0x3FC], s.served .supervisor (0x48000 + off)) ∧ s.getF F.LPE_WIN_CH_CHANNEL = 0 ∧
       (s.eccReadWord (Mem.loopStore 0 + 0x40) 3).1 = false ∧
       ((s.setMark 42 8 (.uncorrectable 7)).eccReadWord (Mem.loopStore 0 + 0x40) 3).1 = true ∧ s.bankWritable (loopItem 0) 0 0 = true ∧
       s.bankWritable (loopItem 0) 0 1 = true) ∧
    (let s := (loopState lpHeld).setF F.PWR_DOMAINS_ON 0
     s.served .supervisor (0x48000 + 0x40) ∧ s.domainOn domLoop = false ∧ s.bankWritable (loopItem 0) 0 0 = true ∧
       (loopState lpHeld).domainOn domLoop = true) ∧
    (loopState 0).bankWritable (loopItem 0) 0 0 = false ∧ (0x40 % 4 = 0 ∧ 0xDC % 4 = 0 ∧ 0xE0 % 4 = 0 ∧ 0xEC % 4 = 0) ∧
    (let s := ((loopState 0).setF (F.LPE_BOB_SET_EN 0) 1).setF (F.LPE_BOB_SET_CHANNEL 0) 0
     s.served .supervisor F.LPE_BOB_CTRL_OP.addr ∧ s.lpe.injOn = false ∧ ¬(s.bobState = 1 ∨ s.bobState = 2) ∧ s.patIs s.bobSetOk = true ∧
       (∀ j < 16, s.getF (F.LPE_BOB_SET_INJ j) = 0) ∧ s.clock.refN < s.clock.refN + 1) ∧
    (loopState 0).patIs (loopState 0).bobSetOk = false ∧
    (let s := (loopState 0).setF F.LPE_BOB_STATUS_STATE 2
     s.served .supervisor F.LPE_BOB_CTRL_OP.addr ∧ (s.bobState = 1 ∨ s.bobState = 2)) ∧
    (let s := { loopState 0 with lpe := { (loopState 0).lpe with injOn := true } }
     ¬(s.bobState = 1 ∨ s.bobState = 2) ∧ s.lpe.injOn = true) := by unfold State.served; decide +kernel

/-- SOLVER with context 7: n = 1, no rows, 8 passes, deadline 1; H = 1, f = 0, bounds −1 and 1, in the heap at 512. -/
def qpSec : Section :=
  ⟨7, 8, List.replicate 448 0#8 ++ fill 64 ([(0, 1, 1), (2, 1, 1), (6, 2, 8), (8, 2, 1), (12, 1, 1), (13, 1, 3), (20, 4, 512),
    (24, 4, 0x3000), (32, 8, 0xFFFFFFFFFFFFFFFF)]) ++
    fill 40 [(0, 8, 0x3FF0000000000000), (16, 8, 0xBFF0000000000000), (24, 8, 0x3FF0000000000000)]⟩
def qpPat : Pattern := pat [] [topo [], qpSec]
def qpState (st : StationState) (mode : Nat) : State := (live st (some qpPat)).setF (F.QPS_CTX_STATE_MODE 7) mode

/-- A running solve of context 7 that started at stitch 0, with f as given, in stitch n. -/
def solving (f n : Nat) : State :=
  let s := (qpState .run qmEnabled).wrBytes (Mem.solver 7) (leBytes 8 0x3FF0000000000000)
  { s with
    qps := { s.qps with run := some ⟨7, 0, [[f], [], [], [0xBFF0000000000000], [0x3FF0000000000000]], [], false⟩ }
    clock := { s.clock with stitch := BitVec.ofNat 64 n } }

/-- Solver: unused context 0, the modes of context 7 in STOP, TACKING and RUN, with a solve of it running; the last word
of the window, open and closed; a solve that is optimal, one that is not, and one at its deadline boundary. -/
theorem test_witness_Solver :
    (qpState .stop 0).patIs (fun p => qpUsed (p.qp 0)) = false ∧
    (∀ st ∈ [StationState.stop, .tacking, .run], ∀ m ∈ [qmEnabled, qmRefused, qmDisabling, qmDisabled], let s := qpState st m
      s.served .supervisor F.QPS_CTX_CMD_OP.addr ∧ s.patIs (fun p => qpUsed (p.qp 7)) = true ∧ s.qpMode 7 = m ∧ s.qpSolving 7 = false) ∧
    (solving 0 0).qpSolving 7 = true ∧
    (let s := (qpState .stop qmDisabled).setF F.QPS_WIN_SEL_CTX 7
     0x7FFC % 4 = 0 ∧ s.served .supervisor (0x58000 + 0x7FFC) ∧ s.qpWindowOpen = true ∧
       s.domainOn domSolver = true ∧ (s.setF F.PWR_DOMAINS_ON 0).domainOn domSolver = false ∧
       (s.setF F.PWR_DOMAINS_ON 0).qpWindowOpen = true ∧ (s.setF F.PWR_DOMAINS_ON 0).served .supervisor (0x58000 + 0x7FFC) ∧
       (s.eccReadWord (s.qpWindowAt 0x7FFC / 8 * 8) 3).1 = false ∧ (qpState .stop 0).qpWindowOpen = false) ∧
    (∀ f ∈ [0, 0x7FF0000000000000], let s := solving f 0
      ∃ v, s.qps.run = some v ∧ v.ctx < 8 ∧ s.qpLate qpPat v = false ∧
        ((s.qpOutcome qpPat v (qpMaxPass (qpPat.qp 7))).status = qsOptimal ↔ f = 0)) ∧
    (∃ v, (solving 0 1).qps.run = some v ∧ (solving 0 1).qpLate qpPat v = true) := by
  refine ⟨by decide +kernel, by unfold State.served; decide +kernel, by decide +kernel, by unfold State.served; decide +kernel, fun f hf => ?_,
    ⟨_, rfl, by decide +kernel⟩⟩
  refine ⟨_, rfl, by show 7 < 8; decide, ?_⟩
  revert f; decide +kernel

end Sys2Proof.Slice0

namespace Sys2Proof.Slice0
set_option Elab.async false

/-! ### Field I/O and safety -/

/-- IO: channel 0 an output, 1 an input of type 1 with wire-break detection and FILTER 1 that channel 0 feeds, 47 an
output with test pulses, current-loop output 7 a source. -/
def ioSec : Section :=
  ⟨8, 56, fill 1792 [(0, 1, 3), (32, 1, 1), (33, 1, 1), (34, 1, 1), (32 * 47, 1, 3), (32 * 47 + 1, 1, 2), (32 * 55, 1, 1)]⟩
/-- SELVEDGE: function 0 with output 0 and safety input 47 of form 1 on channels 1 and 2. -/
def fnSec : Section :=
  ⟨10, 3, fill 32 [(1, 1, 8)] ++ fill 32 [(0, 1, 2), (4, 1, 47), (5, 4, 0xFFFFFFFF), (9, 3, 0xFFFFFF), (13, 3, 0xFFFFFF)] ++
    fill 32 [(0, 1, 3), (1, 1, 47), (2, 1, 1), (3, 1, 1), (4, 1, 2), (8, 4, 5)]⟩
def fieldPat : Pattern := pat [] [topo [], codeSec, ioSec, fnSec]

/-- RUN with every domain on. -/
def fieldState : State := (live .run (some fieldPat)).setF F.PWR_DOMAINS_ON 0x7FFFF
/-- Output n is on. -/
def State.lit (s : State) (n : Nat) : State := s.setF (F.DIO_CH_STATUS_DRIVE n) 1

/-- SweepsAndPulses: channel 1 at both thresholds of its classes and channel 47; a channel in its first and in its
second equal sweep; pulses of an output that is on and off; samples; a cycle with a missed output. -/
theorem test_witness_SweepsAndPulses :
    fieldState.pat.active.isSome ∧ fieldState.domainOn domDio = true ∧ fieldPat.ioMode 1 ≠ 0 ∧
    (∀ x ∈ [(1, 15000, 2000), (1, 14999, 1501), (1, 0, 1500), (1, 0, 349), (47, 11000, 0), (47, 4999, 0)],
      let m : SweepMeas := ⟨[(x.1, (x.2.1 : Int), (x.2.2 : Int))], [], [], []⟩
      m.chans.filter (fun y => y.1 == x.1) = [(x.1, (x.2.1 : Int), (x.2.2 : Int))] ∧ (fieldState.dio x.1).pulse = false ∧
        fieldState.groupCut (groupOf x.1) = false ∧ (fieldState.grp (groupOf x.1)).adcBad = false ∧
        (∀ y ∈ m.refs, y.1 ≠ groupOf x.1)) ∧
    ((fieldState.dio 1).image = none ∧ (fieldPat.io 1).u8 2 = 1) ∧
    (let s := fieldState.setDio 1 { DioCh.fresh with image := some 1, cand := 2, candN := 1 }
     (s.dio 1).image ≠ none ∧ (s.dio 1).candN + 1 = (fieldPat.io 1).u8 2 + 1) ∧
    fieldPat.pulsed 47 = true ∧ (State.lit fieldState 47).isOn 47 = true ∧ fieldState.isOn 47 = false ∧
    (let s := fieldState.setDio 47 { DioCh.fresh with pulse := true }
     (s.dio 47).pulse = true ∧ (s.dio 47).tail = none) ∧
    (let s := fieldState.setDio 47 { DioCh.fresh with pulse := true, tail := some 20000 }
     (s.dio 47).pulse = true ∧ (s.dio 47).tail = some 20000) ∧
    (fieldPat.isInput 1 = true ∧ (fieldPat.io 1).u8 7 = 0) ∧
    ((fieldState.setDio 47 { DioCh.fresh with missed := true }).dio 47).missed = true := by decide +kernel

/-- OutputsAtApply: output 47 of the constant writer 0xFD with its group closed and tested is on after its apply point. -/
def fixedPat : Pattern := pat [] [topo [], ⟨8, 56, fill 1792 [(32 * 47, 1, 3), (32 * 47 + 10, 1, 0xFD)]⟩]
theorem test_witness_OutputsAtApply :
    let s := ((live .run (some fixedPat)).setF F.PWR_DOMAINS_ON 0x7FFFF).setF (F.DIO_GRP_STATUS_DISC_OPEN 5) 0
    let s := s.setGrp 5 { s.grp 5 with tested := true }
    s.outCommand fixedPat 47 = some true ∧ (s.applyOutput fixedPat 47).isOn 47 = true := by decide +kernel

/-- GroupsAndCurrentLoops: group 0, which holds the selvedge output, tested and not; its last sample in both outcomes;
faults of output 0; both supplies with and without a cut-off; current-loop output 7 with each latch clear and set. -/
theorem test_witness_GroupsAndCurrentLoops :
    (fieldState.pat.active.isSome ∧ fieldState.domainOn domDio = true ∧
      (fieldState.settleField fieldState.nowNs).inGroupTest 0 = false ∧
      fieldPat.groupSelvedge 0 = true ∧ (fieldState.grp 5).tested = false) ∧
    ((fieldState.setGrp 0 { Group.fresh with testing := true, wasClosed := true }).grp 0).testing = true ∧
    (let s := fieldState.setGrp 0 { Group.fresh with wasClosed := true, closeAt := some 20000 }
     let s := { s with saf := { s.saf with drive := 1 } }
     (s.grp 0).closeAt = some 20000 ∧ (s.grp 0).wasClosed = true ∧ s.saf.drive.getLsbD 0 = true) ∧
    groupOf 0 = 0 ∧ fieldPat.selvedgeOutput 0 = true ∧ fieldPat.isOutput 0 = true ∧ (State.lit fieldState 0).isOn 0 = true ∧
    (∀ k < 2, fieldState.getF (F.DIO_FS_STATUS_FS_LOW k) = 0 ∧ fieldState.getF (F.DIO_FS_STATUS_CUTOFF k) = 0 ∧
      (fieldState.setF (F.DIO_FS_STATUS_CUTOFF k) 1).getF (F.DIO_FS_STATUS_CUTOFF k) = 1 ∧
      supplyOf (groupOf (if k = 0 then 0 else 47)) = k) ∧
    (fieldState.domainOn domClo = true ∧ (fieldPat.ioMode (48 + 7) = 1 ∨ fieldPat.ioMode (48 + 7) = 2) ∧
      fieldState.getF (F.CLO_CH_STATUS_COMPLIANCE 7) = 0 ∧ fieldState.getF (F.CLO_CH_STATUS_THERMAL 7) = 0) ∧
    (let s := { fieldState with clock := { fieldState.clock with now := 5000000#96 <<< 32 } }
     ((s.setClo 7 { s.cloOut 7 with foldAt := some 0 }).cloOut 7).foldAt = some 0 ∧ 0 + 5000000 ≤ s.nowNs) := by decide +kernel

/-- Monitor: input 47 at its discrepancy limit, a reset held for one stitch above 3 s, a drive that stopped, a rail; the
votes of the clocks; a self-test; CONFIRM with the right and a wrong value; CLEAR_HALT with a cause present and without;
an open window. -/
theorem test_witness_Monitor :
    (let s := fieldState.setF (F.SAF_IN_STATUS_K 47) 5
     (∃ it, fieldPat.inputItem 47 = some it ∧ inForm it ≠ 0 ∧ 0 < inDisc it ∧ inDisc it ≤ s.getF (F.SAF_IN_STATUS_K 47)) ∧
       s.getF (F.SAF_IN_STATUS_DISCREPANCY 47) = 0 ∧ fieldPat.fnsOfInput 47 = [0] ∧ (∀ f ∈ fieldPat.functions, f < 64)) ∧
    (let s := fieldState.setResetRun 16 24001
     s.tooLong (s.resetRunOf 16) = true ∧ s.getF (F.SAF_RST_STATUS_HELD 16) = 0 ∧
       fieldState.tooLong 24000 = false) ∧
    (let s := fieldState.setF (F.DIO_GRP_STATUS_DISC_OPEN 5) 0
     s.saf.drive.getLsbD 5 = false ∧ s.discClosed 5 = true) ∧
    (fieldState.haltable = true ∧ fieldState.saf.haltCause = none ∧ fieldState.saf.present = []) ∧
    (clkDeviates 52 25000000 128 64000000 = true ∧ clkDeviates 52 25000000 200 100000000 = true ∧
      clkDeviates 128 64000000 200 100000000 = false ∧ fieldState.getF F.SAF_CLK_REF_FAIL = 0) ∧
    (clkDeviates 50 25000000 128 64000000 = false ∧ clkDeviates 50 25000000 200 100000000 = false ∧
      (fieldState.setF F.SAF_CLK_REF_FAIL 1).getF F.SAF_CLK_REF_FAIL = 1) ∧
    (clkDeviates 50 25000000 131 64000000 = true ∧ clkDeviates 131 64000000 200 100000000 = true ∧
      fieldState.getF F.SAF_CLK_MON_FAIL = 0) ∧
    (clkDeviates 50 25000000 140 64000000 = true ∧ clkDeviates 50 25000000 190 100000000 = true ∧
      clkDeviates 140 64000000 190 100000000 = true) ∧
    (let s := live .tacking (some fieldPat)
     s.served .supervisor F.SAF_CMD_OP.addr ∧ s.station = .tacking ∧ s.getF F.SAF_CONFIRM_VAL_VALUE = s.getF F.PAT_CHECK_CHECK_VALUE ∧
       (s.setF F.SAF_CONFIRM_VAL_VALUE 1).getF F.SAF_CONFIRM_VAL_VALUE ≠ s.getF F.PAT_CHECK_CHECK_VALUE) ∧
    (let s := live .safeHalt (some fieldPat)
     s.served .supervisor F.SAF_CMD_OP.addr ∧ s.station = .safeHalt ∧ s.saf.present = [] ∧ s.saf.testedSince = false ∧
       ({ s with saf := { s.saf with testedSince := true } } : State).saf.testedSince = true) ∧
    (fieldState.setF F.SAF_STATUS_WINDOW 1).getF F.SAF_STATUS_WINDOW = 1 := by
  refine ⟨⟨⟨_, rfl, by decide +kernel⟩, by decide +kernel⟩, ?_⟩
  unfold State.served; decide +kernel

end Sys2Proof.Slice0

namespace Sys2Proof.Slice0
set_option Elab.async false

/-! ### Networks and time -/

/-- NETWORK: paired sets 5 (plain) and 6 (safety), connection 0 a consumer on both plants and 31 a producer, CAN
controller 7 with PEX, the FIFO in queue 0 and mailbox 63, port 0 with MACsec, port 1 without, the plain set 2 on port
1, PTP on port 1. -/
def plantSec : Section :=
  ⟨9, 9, fill 32 [(0, 1, 0x20), (2, 2, 5), (4, 2, 8), (6, 1, 2), (12, 2, 10)] ++
    fill 32 [(0, 1, 0x20), (1, 1, 2), (2, 2, 6), (4, 2, 24), (6, 1, 2), (12, 2, 10)] ++
    fill 32 [(0, 1, 0x21), (3, 1, 3), (4, 4, 0x11), (8, 4, 7), (12, 2, 10), (14, 2, 4), (19, 1, 3)] ++
    fill 32 [(0, 1, 0x21), (1, 1, 1), (2, 1, 31), (4, 4, 0x12), (8, 4, 9), (12, 2, 10), (14, 2, 4), (19, 1, 4), (22, 2, 64)] ++
    fill 32 [(0, 1, 0x30), (1, 1, 7), (2, 1, 1), (3, 1, 5), (17, 1, 0xFF)] ++
    fill 32 [(0, 1, 0x31), (1, 1, 7), (2, 1, 63), (4, 4, 0x123), (8, 4, 0x1FFFFFFF)] ++
    fill 32 [(0, 1, 0x40), (2, 1, 2), (3, 1, 2)] ++ fill 32 [(0, 1, 0x40), (1, 1, 1), (2, 1, 2)] ++
    fill 32 [(0, 1, 0x10), (1, 1, 8), (2, 2, 2), (4, 2, 8), (24, 2, 7)]⟩
def timeSec : Bytes := fill 32 [(0, 1, 0x41), (1, 1, 1), (3, 1, 8), (12, 4, 1000)]
def plantPat : Pattern :=
  pat [] [topo [], oneEntry 26 (entryWord 5 5 0), memSec 80, ⟨9, 10, plantSec.bytes ++ timeSec⟩]
def plant : State := (live .run (some plantPat)).setF F.PWR_DOMAINS_ON 0x7FFFF

/-- A paired record of set 5 as port p sends it. -/
def pdRec (seq p : Nat) (v : Nat) : Bytes := fill 20 [(0, 4, 0), (3, 1, seq), (5, 1, 5), (6, 1, p), (9, 1, 8), (12, 1, v)]

/-- PairedDelivery: the first copy, its equal and its unequal pair, an old number, the wrong port, another set number, a
copy whose window has passed, a held copy with a later number with and without a delivery before it, a set that has aged. -/
theorem test_witness_PairedDelivery :
    plant.pat.active.isSome ∧ 0 < plantPat.pairedSets.length ∧ setSend (plantPat.pairedSet 0) = false ∧
    setNo (plantPat.pairedSet 0) = 5 ∧ setLen (plantPat.pairedSet 0) = 8 ∧ setSafe (plantPat.pairedSet 0) = false ∧
    (∀ x ∈ [pdRec 1 0 1, pdRec 1 1 1, pdRec 1 1 2, pdRec 0 0 1], x.beAt 4 2 = 5 ∧ x.beAt 8 2 = 8 ∧ x.u8 7 = 0 ∧ 20 ≤ x.length) ∧
    (plant.rxOf 5).held = none ∧ seqOld (BitVec.ofNat 32 ((pdRec 1 0 1).beAt 0 4)) (plant.rxOf 5).last = false ∧
    (let s := plant.setRx 5 { RxSet.fresh with held := some (1 - 0, pdRec 1 1 1), heldFor := 2, last := some 0 }
     (s.rxOf 5).held = some (1 - 0, pdRec 1 1 1) ∧ (pdRec 1 1 1).beAt 0 4 = (pdRec 1 0 1).beAt 0 4 ∧
       seqOld (BitVec.ofNat 32 ((pdRec 1 0 1).beAt 0 4)) (s.rxOf 5).last = false ∧
       seqOld (BitVec.ofNat 32 ((pdRec 0 0 1).beAt 0 4)) (s.rxOf 5).last = true ∧
       setWindow (plantPat.pairedSet 0) ≤ (s.rxOf 5).heldFor) ∧
    (∀ x ∈ [(some 0, 2, false), (some 0, 3, true), (none, 3, true)],
      let s := plant.setRx 5 { RxSet.fresh with held := some (0, pdRec x.2.1 0 1), last := x.1 }
      (s.rxOf 5).held = some (0, pdRec x.2.1 0 1) ∧ (s.rxOf 5).last = x.1 ∧ seqOld 2 (s.rxOf 5).last = false ∧
        seqOld 2 (some (BitVec.ofNat 32 ((pdRec x.2.1 0 1).beAt 0 4))) = true ∧
        seqOld 3 (some (BitVec.ofNat 32 ((pdRec 2 0 1).beAt 0 4))) = false) ∧
    ((pdRec 1 1 1).take 20).eraseIdx 6 = ((pdRec 1 0 1).take 20).eraseIdx 6 ∧
    ((pdRec 1 1 2).take 20).eraseIdx 6 ≠ ((pdRec 1 0 1).take 20).eraseIdx 6 ∧ (pdRec 1 1 1).u8 6 ≠ 0 ∧
    (fill 20 [(4, 2, 5)]).beAt 4 2 ≠ 5 ∧
    (let s := plant.setRx 5 { RxSet.fresh with valid := true, age := some 10 }
     (s.rxOf 5).valid = true ∧ (s.rxOf 5).age = some 10 ∧ setTimeout (plantPat.pairedSet 0) ≤ 10) := by decide +kernel

/-- A message of connection 0 with its safety CRC. -/
def tpMsg (id : Nat) : Bytes :=
  let b := fill 20 [(0, 1, 1), (3, 1, 10), (7, 1, id), (13, 1, 4)]
  b ++ beBytes 4 (tpCrc 7 b).toNat

/-- Terpaene: an intact message with the right and a wrong identity, one with a wrong CRC; connections in RUN and WAIT
whose watchdogs have just run out; CRC_LIMIT discards. -/
theorem test_witness_Terpaene :
    (plantPat.tpItem 0).isSome ∧ (plantPat.tpItem 31).isSome ∧
    (let it := (plantPat.tpItem 0).getD []
     pathIncludes (tpRxPath it) 1 = true ∧ pathIncludes (tpRxPath it) 2 = true ∧ tpProducer it = false ∧
       (∀ i ∈ [0x11, 0x12], let m := tpMsg i
         20 + 4 ≤ m.length ∧ m.beAt 12 2 = tpLen it ∧ m.beAt 20 4 = (tpCrc (tpSeed it) (m.take 20)).toNat ∧
           m.u8 0 = 1 ∧ m.beAt 2 2 = tpWdtMs it ∧ (m.beAt 4 4 = tpId it ↔ i = 0x11)) ∧
       (fill 24 []).beAt 12 2 ≠ tpLen it ∧ plant.tpState 0 ≠ tpFailed ∧ plant.tpState 0 ≠ tpRun ∧
       (let s := ((plant.setTpState 0 tpRun).setF (F.SCM_TP_STATUS_AGE 0) 80).setF (F.SCM_TP_ERR_SINCE_ACC 0) 3
        s.tpState 0 = tpRun ∧ s.tpWd it ≤ s.getF (F.SCM_TP_STATUS_AGE 0) ∧ tpCrcLimit it ≤ s.getF (F.SCM_TP_ERR_SINCE_ACC 0))) ∧
    (let it := (plantPat.tpItem 31).getD []
     ∀ st ∈ [tpRun, tpWait],
      let s := (plant.setTpState 31 st).setTp 31 { TpConn.fresh with sent := true, count := 80 }
      tpProducer it = true ∧ s.tpState 31 = st ∧ (s.tpOf 31).sent = true ∧ (s.tpOf 31).acked = false ∧
        s.tpWd it ≤ (s.tpOf 31).count) := by decide +kernel

/-- Controller 7 in normal mode, error-active, with TEC. -/
def canState (tec : Nat) : State :=
  (((plant.setF (F.CAN_CTRL_MODE 7) 1).setF (F.CAN_STATUS_EFF_MODE 7) 1).setF (F.CAN_STATUS_STATE 7) 1).setF
    (F.CAN_STATUS_TEC 7) tec
def canFrame : CanFrame := ⟨false, 0x123, false, false, false, false, 8, [1, 2, 3, 4, 5, 6, 7, 8], 0⟩

/-- CanControllers: normal mode with a slot frame, with a FIFO head; TEC at 127 before a sent frame, 119 and 248 before
an error; a frame that matches mailbox 63; a bus-off controller, recovering; a lock held with a frame in the shadow. -/
theorem test_witness_CanControllers :
    (∀ k ∈ [0, 119, 127, 248], (canState k).canTakesPart 7 = true ∧ (canState k).canMode 7 = 1 ∧ (canState k).canTarget 7 = 1 ∧
      ((canState k).canOf 7).tx = none ∧ (canState k).canFaultState 7 = 1 ∧ (canState k).getF (F.CAN_STATUS_TEC 7) = k ∧
      (canState k).getF (F.CAN_STATUS_REC 7) = 0) ∧
    ((canState 0).canOf 7).waits = none ∧
    (let tx : CanSending := ⟨some 0, canRec, 0, true, none⟩
     let s := (canState 0).setCan 7 ⟨some (0, canRec), some tx, true, none⟩
     (s.canOf 7).tx = some tx ∧ recBrs canRec = false ∧ s.canLoop 7 = 0 ∧
       (s.setF (F.CAN_CTRL_LOOP 7) 1).canLoop 7 = 1) ∧
    (let s := ((canState 0).wrBytes (Mem.shared + 0x100) canRec).setQueue 0 ⟨0, 1, 0⟩
     (s.canOf 7).slot = none ∧ s.canHead 7 = some canRec ∧ recBad (canFdEn (s.canCfg 7)) true canRec = false) ∧
    (plantPat.mailboxes 7).length = 1 ∧
    (∀ it ∈ plantPat.mailboxes 7, mbNo it = 63 ∧ canMatches canFrame (mbId it) (mbMask it) = true) ∧
    ((canState 0).mbLocked 7 63 = false ∧ (canState 0).getF (F.CAN_MB_STATUS_NEW 7 63) = 0) ∧
    (let s := ((canState 0).setF (F.CAN_STATUS_STATE 7) 3).setF (F.CAN_STATUS_RECOVERING 7) 1
     s.served .supervisor (F.CAN_CMD_OP 7).addr ∧ s.canFaultState 7 = 3 ∧ s.getF (F.CAN_STATUS_RECOVERING 7) = 1) ∧
    ((canState 0).served .supervisor (F.CAN_MB_LOCK_LOCK 7).addr ∧ (canState 0).getF (F.CAN_MB_LOCK_LOCK 7) = 0) ∧
    (let s := (((canState 0).setF (F.CAN_MB_LOCK_LOCK 7) 1).setF (F.CAN_MB_LOCK_MB 7) 63).setMb 7 63
       { Mailbox.fresh with shadow := some canRec }
     s.served .supervisor (F.CAN_MB_LOCK_LOCK 7).addr ∧ s.getF (F.CAN_MB_LOCK_LOCK 7) = 1 ∧
       (s.mbOf 7 (s.getF (F.CAN_MB_LOCK_MB 7))).shadow = some canRec) ∧
    canPexEn ((canState 0).canCfg 7) = true := by unfold State.served; decide +kernel

/-- A received frame of the plain set 2. -/
def dunhelFrame : Bytes :=
  List.replicate 12 0#8 ++ beBytes 2 0x88B5 ++ fill 46 [(0, 1, 1), (1, 1, 1), (3, 1, 7), (5, 1, 2), (7, 1, 8), (11, 1, 1), (12, 1, 9)]
/-- Port n with its link up and a frame of a class that waits. -/
def linked (n cls : Nat) : State :=
  let s := (plant.setF (F.ETH_P_STATUS_LINK n) 1).setF (F.ETH_P_STATUS_SPEED n) 2
  { s with net := { s.net with waiting := [(n, [⟨cls, 1518, [1]⟩])] } }

/-- EthernetPorts: a link with the configured and with another speed, the service port; links up; MACsec; a waiting frame
with the slot tables at rest, and one that does not fit before the port's next slot; a damaged frame and a good one of
set 2; PTP as master. -/
theorem test_witness_EthernetPorts :
    (plant.domainOn (domPort 0) = true ∧ plant.domainOn (domPort 1) = true ∧ plant.domainOn (domPort 2) = true) ∧
    (plant.portCfg 1).map portSpeed = some 2 ∧ plant.dgt.lb = none ∧
    (let s := { plant with dgt := { plant.dgt with lb := some ⟨9, 3, 1⟩ } }
     ∃ b, s.dgt.lb = some b ∧ b.target = 8 + 1 ∧ b.depth = 3) ∧ (linked 1 0).getF (F.ETH_P_STATUS_LINK 1) = 1 ∧
    plant.portMacsecOn 0 = true ∧ (plant.setF (F.ETH_P_STATUS_SECURED 0) 1).getF (F.ETH_P_STATUS_SECURED 0) = 1 ∧
    (linked 1 0).nextWaiting 1 = some ⟨0, 1518, [1]⟩ ∧ (linked 1 0).getF F.SCH_STATUS_RUNNING = 0 ∧
    (let s := (linked 1 0).setF F.SCH_STATUS_RUNNING 1
     s.nextWaiting 1 = some ⟨0, 1518, [1]⟩ ∧ s.getF F.SCH_STATUS_RUNNING = 1 ∧ s.portMacsecOn 1 = false ∧
       s.nextNetTx plantPat 26 = some 1000 ∧ 1000 < s.nowNs + wireNs (s.getF (F.ETH_P_STATUS_SPEED 1)) (max 64 1518)) ∧
    (let h : Bytes := (untagged dunhelFrame).drop 2
     60 ≤ dunhelFrame.length ∧ dunhelFrame.length ≤ 1518 ∧ (untagged dunhelFrame).beAt 0 2 = 0x88B5 ∧ h.u8 0 = 1 ∧
       h.u8 1 = 1 ∧ h.beAt 6 2 = 8 ∧ 12 + 8 ≤ h.length ∧
       ((plantPat.plainSets ++ plantPat.pairedSets).find? (fun i => !(setSend i) && setNo i == h.beAt 4 2 && setOnPort i 1 &&
         setPeer i == h.beAt 2 2 && i.u8 0 == plainKind)).map setLen = some 8 ∧
       seqOld (BitVec.ofNat 32 (h.beAt 8 4)) ((linked 1 0).rxOf 2).last = false ∧ (linked 1 0).portMacsecOn 1 = false) ∧
    (let s := plant.setF (F.PTP_PORT_STATE_STATE 1) 5
     (plantPat.ptpItem 1).isSome ∧ s.getF (F.PTP_PORT_STATE_STATE 1) = 5 ∧ (s.waitingOf 1).length < 31) := by decide +kernel

/-- ShipTime: both limits of the increment and the values next to them; a STEP within, beyond the limit, and beyond the
guard band in RUN; a REBASE that waits; a Sync at LOCK_NS; a grandmaster that is locked by itself; a due trigger; a full and a free capture channel. -/
theorem test_witness_ShipTime :
    stopped.reachable = true ∧ (∀ a ∈ [0, F.PTP_CMD_OP.addr], stopped.mayWrite .supervisor a = true) ∧
    (stopped.clock.pendingStep = none ∧ stopped.clock.pendingRebase = none) ∧
    (∀ n ∈ [0x4FFBE76C9, 0x500418937], 0x4FFBE76C9 ≤ n ∧ n ≤ 0x500418937 ∧
      (BitVec.ofNat 32 (n / 2 ^ 32)).toNat % 16 * 2 ^ 32 + (some (BitVec.ofNat 32 n)).elim 0 (·.toNat) = n) ∧
    (0x4FFBE76C8 < 0x4FFBE76C9 ∧ 0x500418937 < 0x500418938) ∧
    (let s := (stopped.setF F.PTP_STEP_LIMIT_NS 1000).setR F.PTP_STEP_VALUE.addr 1000
     (s.getR F.PTP_STEP_VALUE.addr).toInt.natAbs ≤ s.getF F.PTP_STEP_LIMIT_NS ∧
       0 ≤ (s.nowNs : Int) + (s.getR F.PTP_STEP_VALUE.addr).toInt ∧
       (s.nowNs : Int) + (s.getR F.PTP_STEP_VALUE.addr).toInt < 2 ^ 64) ∧
    (let s := (stopped.setF F.PTP_STEP_LIMIT_NS 1000).setR F.PTP_STEP_VALUE.addr (BitVec.ofInt 32 (-1001))
     s.getF F.PTP_STEP_LIMIT_NS < (s.getR F.PTP_STEP_VALUE.addr).toInt.natAbs) ∧
    (let p := pat [] [topo [(1, 1, 4)]]
     let s := ((live .run (some p)).setF F.PTP_STEP_LIMIT_NS 1000).setR F.PTP_STEP_VALUE.addr 801
     s.station = .run ∧ (s.getR F.PTP_STEP_VALUE.addr).toInt.natAbs ≤ s.getF F.PTP_STEP_LIMIT_NS ∧
       200 * p.guardTicks < (s.getR F.PTP_STEP_VALUE.addr).toInt.natAbs) ∧
    (let s := { stopped with clock := { stopped.clock with pendingRebase := some 0 } }
     ¬(s.clock.pendingStep = none ∧ s.clock.pendingRebase = none)) ∧
    (let s := plant.setF F.PTP_STATUS_USABLE 1
     s.getF (F.PTP_PORT_STATE_STATE (1 - 1)) ≠ 8 ∧ s.getF F.PTP_STATUS_USABLE = 1 ∧ s.rst.autoDue = false ∧
       (plantPat.ptpItem 1).map ptpLockNs = some 1000 ∧ Int.natAbs (-1000) ≤ 1000 ∧
       16 ≤ ({ s.ptp with within := 15 } : Ptp).within + 1) ∧
    (∀ k < 2, ∀ it ∈ plantPat.ptpItem k, ptpGmLock it = false) ∧
    (let p := pat [] [⟨9, 1, fill 32 [(0, 1, 0x41), (1, 1, 1), (3, 1, 0xC)]⟩]
     let s := ((live .run (some p)).setF F.PTP_STATUS_USABLE 1).setF (F.PTP_PORT_STATE_STATE 1) 3
     ∃ it, p.ptpItem 1 = some it ∧ ptpGmLock it = true ∧ ptpSlaveOnly it = false ∧
       3 ≤ s.getF (F.PTP_PORT_STATE_STATE 1) ∧ s.getF F.PTP_STATUS_USABLE = 1 ∧ p.ptpItem (1 - 1) = none ∧
       s.getF (F.PTP_PORT_STATE_STATE (1 - 1)) < 3) ∧
    (let s := (stopped.setF (F.PTP_TRIG_CTRL_ARMED 0) 1).setF (F.PTP_TRIG_CTRL_REQ_LOCK 0) 0
     s.region 0 ≠ rgArmed ∧ s.trigDue 0 = true ∧ s.getF (F.PTP_TRIG_CTRL_REQ_LOCK 0) = 0 ∧ s.clock.incr ≠ 0 ∧
       s.clock.now.toNat + s.clock.incr.toNat + s.trigTime 0 * 2 ^ 32 < 2 ^ 96) ∧
    (let s := (stopped.setF (F.PTP_CAP_STATUS_EDGE 7) 1).setF (F.PTP_CAP_STATUS_EDGE 15) 1
     edgeSelected 7 (s.getF (F.PTP_CAP_STATUS_EDGE 7)) true = true ∧
       edgeSelected 15 (s.getF (F.PTP_CAP_STATUS_EDGE 15)) true = true ∧ (s.capturesOf 7).length < 4 ∧
       4 ≤ ((s.setCaptures 7 [1, 2, 3, 4]).capturesOf 7).length) := by decide +kernel

end Sys2Proof.Slice0
namespace Sys2Proof.Slice0
set_option Elab.async false

/-! ### Pairs and recorder -/

/-- Pattern of a pair: PATTERN_ID 0x11, generation 5, station 7, epochs of 2 stitches, the witnesses 9 and 10, ports 0
and 1, two Lining items of 256 bytes. -/
def duoPat : Pattern :=
  pat [(16, 8, 0x11), (24, 4, 5), (32, 2, 7), (34, 2, 2)]
    [topo [(4, 1, 2), (8, 2, 9), (10, 2, 10), (12, 2, 0xFFFF), (14, 2, 0xFFFF)],
     ⟨9, 2, fill 32 [(0, 1, 0x40), (2, 1, 2)] ++ fill 32 [(0, 1, 0x40), (1, 1, 1), (2, 1, 2)]⟩, liningSec]
/-- A module of the pair in RUN, with a role and the Nymil link up, in stitch 6. -/
def duo (role : Nat) : State :=
  let s := (State.withF (live .run (some duoPat)) [(F.PAIR_STATUS_PAIRED, 1), (F.PAIR_STATUS_ROLE, role),
    (F.PAIR_PATHS_LINK_UP, 1), (F.PAIR_PATHS_LANE_LOCK, 3), (F.PAIR_PATHS_RELEASED, 1)])
  { s with clock := { s.clock with refN := 6 } }

def nymil (ptype epoch no : Nat) (payload : Bytes) : NymilPacket :=
  let x : NymilPacket := ⟨BitVec.ofNat 8 ptype, BitVec.ofNat 16 epoch, BitVec.ofNat 16 no, 255, 1, payload, 0⟩
  { x with pcrc := nymilCrc x }

/-- A standby that receives epoch 3, both packets there. -/
def receiving : State :=
  let s := duo 2
  { s with pair := { s.pair with rxEpoch := some 3, rxValid := [(0, 1), (1, 2)] } }
def dataBytes : Bytes := List.replicate 256 0xAB#8
def endBytes (generation : Nat) : Bytes :=
  fill 256 [(0, 8, 3), (8, 8, 0x11), (16, 4, generation), (20, 2, 2), (24, 4, 512),
    (28, 4, (crc32c ((receiving.rxBytes duoPat 2).1)).toNat)]
/-- The active with a key, and a health report with its tag. -/
def keyed : State := { duo 1 with pair := { (duo 1).pair with key := some (List.replicate 32 1#8) } }
def healthBytes : Bytes :=
  let b := fill 48 [(0, 2, 3), (20, 4, 2)]
  b ++ (hmacSha256 (List.replicate 32 1#8) b).take 16 ++ List.replicate 192 0#8

/-- The PCRC of a packet does not depend on its own field. -/
theorem nymilCrc_pcrc (x : NymilPacket) (c : BitVec 32) : nymilCrc { x with pcrc := c } = nymilCrc x := by
  simp only [nymilCrc, nymilHead]
theorem test_witness_NymilLink_goodCrc (ptype epoch no : Nat) (b : Bytes) :
    (nymil ptype epoch no b).pcrc = nymilCrc (nymil ptype epoch no b) := by
  simp only [nymil, nymilCrc, nymilHead]
theorem test_witness_NymilLink_badCrc (x : NymilPacket) :
    ({ x with pcrc := nymilCrc x + 1 }).pcrc ≠ nymilCrc { x with pcrc := nymilCrc x + 1 } := by
  have h := nymilCrc_pcrc x (nymilCrc x + 1)
  rw [h]; simp

/-- The 34 blocks of a packet give the packet back (R327). -/
def dataPacket : NymilPacket := ⟨2, 3, 1, 254, 7, (List.range 256).map (BitVec.ofNat 8), 0x12345678⟩
theorem test_nymilBlocks : (nymilBlocks dataPacket).length = 34 ∧ nymilOfBlocks (nymilBlocks dataPacket) = some dataPacket := by
  decide +kernel

/-- NymilLink: a link whose domain has no power; a health report that waits, past its entry's end, before it without a
credit and with one. -/
theorem test_witness_NymilLink_health :
    ((duo 2).domainOn domLink = true ∧ (duo 2).pair.healthWait = none ∧ (duo 2).pair.waitTx = [] ∧
      ((duo 2).setF F.PWR_DOMAINS_ON 0x40000).domainOn domLink = false) ∧
    (∀ x ∈ [(0, 0), (1000, 0), (1000, 1)],
      let s := { duo 2 with pair := { (duo 2).pair with
        healthWait := some x.1, key := some [], committed := some (3, false, 6) } }
      s.paired = true ∧ s.getF F.PAIR_PATHS_LINK_UP = 1 ∧ s.pair.waitTx = [] ∧ s.pair.healthWait = some x.1 ∧
        s.pair.key = some [] ∧ s.pair.committed = some (3, false, 6) ∧ decide (s.tickNow < x.1) = (x.1 == 1000) ∧
        decide (0 < min 16 (s.pair.credits + x.2)) = (x.2 == 1)) := by decide +kernel

/-- NymilLink: a receiver of packets 1 and 2048 of an epoch, from its partner and from one that differs; a reserved PTYPE;
END_MARKs, whole and of another generation; health reports with a good and a bad tag; an epoch judged and not; a partner
ready too long ago. -/
theorem test_witness_NymilLink :
    (receiving.paired = true ∧ receiving.getF F.PAIR_PATHS_LINK_UP = 1 ∧ receiving.receivesLining = true ∧
      receiving.pat.active = some duoPat ∧ receiving.pair.rxEpoch = some 3 ∧ receiving.partnerDiffers = false ∧
      receiving.pair.waitTx = [] ∧ receiving.pair.judged ≠ some (receiving.epochNow duoPat)) ∧
    ((nymil 2 3 2048 dataBytes).pktNo.toNat = 2048 ∧ (nymil 0 3 0 dataBytes).ptype = 0 ∧
      5 < (nymil 6 3 0 dataBytes).ptype.toNat) ∧
    (let s := { receiving with pair := { receiving.pair with judged := some (receiving.epochNow duoPat) } }
     s.pair.judged = some (s.epochNow duoPat)) ∧
    (let x := nymil 2 3 1 dataBytes
     x.ptype = 2 ∧ receiving.pair.rxEpoch = some x.epoch ∧ x.pktNo.toNat < 2048) ∧
    (∀ g ∈ [5, 6], let x := nymil 3 3 0 (endBytes g)
      let b : Bytes := x.payload
      x.ptype = 3 ∧ b.u64 0 = receiving.epochNow duoPat ∧ b.u64 8 = duoPat.patternId ∧
        (b.u32 16 = duoPat.generation ↔ g = 5) ∧ b.u16 20 = duoPat.packetsOf duoPat.liningSlots ∧
        b.u32 24 = duoPat.liningBytes ∧ (∀ k, k < 2 → Store.get (fun _ => 0) receiving.pair.rxValid k ≠ 0) ∧
        b.u16 20 = 2 ∧ b.u32 28 = (crc32c ((receiving.rxBytes duoPat 2).1)).toNat) ∧
    (keyed.paired = true ∧ keyed.roleIs .active = true ∧ keyed.pair.key = some (List.replicate 32 1#8) ∧
      keyed.getF F.PAIR_PATHS_LINK_UP = 1) ∧
    (let x := nymil 4 3 0 healthBytes
     x.ptype = 4 ∧
       (x.payload : Bytes).slice 48 16 = (hmacSha256 (List.replicate 32 1#8) ((x.payload : Bytes).slice 0 48)).take 16) ∧
    (let x := nymil 4 3 0 dataBytes
     x.ptype = 4 ∧
       (x.payload : Bytes).slice 48 16 ≠ (hmacSha256 (List.replicate 32 1#8) ((x.payload : Bytes).slice 0 48)).take 16) ∧
    (let s := { (duo 1).setF F.PAIR_STATUS_PARTNER_READY 1 with pair := { (duo 1).pair with readyAge := some 7 } }
     s.roleIs .active = true ∧ s.getF F.PAIR_STATUS_PARTNER_READY = 1 ∧ s.pair.readyAge = some 7 ∧
       3 * duoPat.epochLen < 7) := by decide +kernel

/-- A message of a pair, with its heartbeat body in network order. -/
def hbMsg : Bytes := pairMsg 1 1 0 0 0 0 (hbSwapBack (fill 56 [(0, 1, 1), (1, 1, 2), (2, 1, 5), (3, 1, 12), (4, 4, 6)]))
where hbSwapBack (b : Bytes) : Bytes := (b.take 4) ++ ((b.drop 4).take 4).reverse ++ List.replicate 48 0#8

/-- A witness that serves a round of station 7, position 0, QSEQ 4, asked on both ports by station 8. -/
def serving : State := { duo 1 with pair := { (duo 1).pair with served := [⟨7, 0, 4, 3, 8, false, 0⟩] } }
/-- A querier whose round 4 has one reply. -/
def asking : State :=
  State.withF { duo 3 with pair := { (duo 3).pair with round := some ⟨4, [(0, 1)], false⟩, qseq := 4 } }
    [(F.PAIR_WITNESS_ROUND, 1), (F.PAIR_WITNESS_REPLIED, 1), (F.PAIR_WITNESS_SILENT, 1)]
/-- ISOLATED: the ownership line released, every path silent, a Dunhel frame heard n stitches ago. -/
def alone (p : Pattern) (n : Nat) : State :=
  let s := (duo 4).setF F.PAIR_PATHS_HB_MISSES 3
  { s with pat := { s.pat with active := some p }, pair := { s.pair with plantA := 4, plantB := 4, dunhelAge := n } }
def noWitness : Pattern := pat [] [topo [(8, 2, 0xFFFF), (10, 2, 0xFFFF), (12, 2, 0xFFFF), (14, 2, 0xFFFF)]]

/-- PairMessages: a heartbeat, a query, its copy and another within 4 ms, a probe at the active, a probe's reply, the second witness's reply, at the last
dates of each; rounds with witnesses, without and after 64 silent stitches; RELEASE with a ready partner. -/
theorem test_witness_PairMessages :
    (let s := duo 2
     s.pat.active = some duoPat ∧ s.paired = true ∧ s.roleIs .active = false ∧ s.roleIs .isolated = false ∧
       s.pair.round = none ∧ duoPat.stationAddr = 7 ∧ hbMsg.u8 0 = 1 ∧
       (let b := hbSwap (hbMsg.slice 8 56)
        hbRole b < 8 ∧ hbState b < 8 ∧ hbFlags b < 16 ∧ hbStitch b = 6)) ∧
    ((pairMsg 2 0 7 0 0 4 []).u8 0 = 2 ∧ (duo 2).mayWitness = true ∧ (duo 2).pair.served = []) ∧
    (∀ q ∈ [4, 5], let m := pairMsg 2 0 7 0 0 q []
     m.u8 0 = 2 ∧ serving.mayWitness = true ∧ serving.elapsedNs < 0 + 4000000 ∧ m.beAt 2 2 = 7 ∧ m.u8 4 = 0 ∧
       (m.beAt 6 2 = 4 ↔ q = 4) ∧ serving.pair.served = [⟨7, 0, 4, 3, 8, false, 0⟩]) ∧
    ((pairMsg 3 0 7 0 0 4 []).u8 0 = 3 ∧ (duo 1).roleIs .active = true ∧
      (pairMsg 3 0 7 0 0 4 []).beAt 2 2 = duoPat.stationAddr) ∧
    (let m := pairMsg 4 1 7 0 1 4 []
     m.u8 0 = 4 ∧ serving.servedRound (m.beAt 2 2) (m.u8 4) (m.beAt 6 2) = some ⟨7, 0, 4, 3, 8, false, 0⟩ ∧ m.u8 5 = 1 ∧
       m.u8 1 ≠ m.u8 4) ∧
    (let m := pairMsg 5 0xFF 7 0 1 4 []
     m.u8 0 = 5 ∧ asking.paired = true ∧ m.beAt 2 2 = duoPat.stationAddr ∧ m.u8 4 = asking.position ∧
       asking.pair.round = some ⟨4, [(0, 1)], false⟩ ∧ m.beAt 6 2 = 4 ∧
       duoPat.witnesses.find? (fun x => x.2 == 10) = some (1, 10) ∧ Store.find? [((0 : Nat), (1 : Nat))] 1 = none ∧
       bitOf (asking.getF F.PAIR_WITNESS_REPLIED) 1 = false ∧ bitOf (asking.getF F.PAIR_WITNESS_SILENT) 1 = false) ∧
    serving.servedRound 7 0 4 = some ⟨7, 0, 4, 3, 8, false, 0⟩ ∧
    (∀ x ∈ [(duoPat, 64), (duoPat, 65), (noWitness, 0)], let s := alone x.1 x.2
      s.pat.active = some x.1 ∧ s.roleIs .isolated = true ∧ s.everyPathSilent = true ∧ s.pair.round = none ∧
        s.served .supervisor F.PAIR_CMD_OP.addr) ∧ duoPat.witnesses ≠ [] ∧ noWitness.witnesses = [] ∧
    ((duo 1).served .supervisor F.PAIR_CMD_OP.addr ∧ (duo 1).roleIs .isolated = false) := by unfold State.served; decide +kernel

/-- One staged raise, and the SEQ of the next record. -/
def staged1 (next : Nat) : State :=
  let s := State.withF stopped [(F.EVR_STATUS_SCANNED, 1), (F.EVR_STATUS_STAGED, 1), (F.EVR_NEXT_LO_NEXT, next)]
  { s with evr := { s.evr with staged := [⟨0x30, 0x7100, 1, [1, 2], 3, false⟩], lostFlag := true } }
/-- EventRecorder: a code with its tokens, one without, a full queue; a commit in the last slot of a block of 1,024
records and one before it; a minute of boundaries. -/
theorem test_witness_EventRecorder :
    (stopped.evr.staged.length < 64 ∧ stopped.missingOf 0x30 < (stopped.bucket 0x30).1) ∧
    (let s := { stopped with evr := { stopped.evr with missing := [(0x30, 64)] } }
     s.evr.staged.length < 64 ∧ (s.bucket 0x30).1 ≤ s.missingOf 0x30) ∧
    64 ≤ ({ stopped.evr with staged := List.replicate 64 ⟨0x30, 0x7100, 1, [1, 2], 3, false⟩ }).staged.length ∧
    (∀ n ∈ [1, 1022, 1023, 32768], let s := staged1 n
      s.reachable = true ∧ s.evr.staged = [⟨0x30, 0x7100, 1, [1, 2], 3, false⟩] ∧ s.getF F.EVR_STATUS_SCANNED = 1 ∧
        s.pat.active.bind (fun p => p.recItem 0x30) = none ∧ s.nextSeq = n ∧ s.nextSeq + 1 < 2 ^ 64) ∧
    (let s := { running with evr := { running.evr with sinceMark := 60000000000 } }
     60000000000 / s.clock.period ≤ s.evr.sinceMark ∧ s.clock.period ≠ 0 ∧ s.served .supervisor F.EVR_CMD_OP.addr) ∧
    (raisable 0x30 0x7100 = true ∧ raisable 0x3000 0x2000 = false) ∧
    running.evr.sinceMark < 60000000000 / running.clock.period := by unfold State.served; decide +kernel

end Sys2Proof.Slice0
namespace Sys2Proof.Slice0
set_option Elab.async false

/-! ### Door panel -/

/-- Panel assets with a geometry of 16 by 2 pixels and a VCOM of -2000 mV. -/
def smallAssets : Bytes :=
  fill 128 [(10, 2, 2), (12, 4, 392)] ++ fill 32 [(0, 2, 1), (4, 4, 192), (8, 4, 4)] ++
    fill 32 [(0, 2, 2), (4, 4, 196), (8, 4, 4)] ++ fill 200 [(0, 2, 16), (2, 2, 2), (4, 2, 0xF830)]
/-- PANEL item for these assets, with REFRESH_S. -/
def panelPat : Pattern := pat [] [topo [], ⟨13, 1, fill 256 [(0, 2, 16), (2, 2, 2), (8, 4, 60)]⟩]
/-- In STOP with a panel in a state. -/
def panelled (st : Nat) : State :=
  let s := State.withF (live .stop (some panelPat)) [(F.RST_STRAPS_CFG_PANEL, 1), (F.PNL_STATUS_ASSETS_OK, 1),
    (F.PNL_STATUS_STATE, st), (F.PWR_DOMAINS_ON, 0x7FFFF)]
  s.wrBytes (Mem.assetsSlot 0) smallAssets
def wholeJob (k : PanelKind) : PanelJob := ⟨k, 0, 1, 0, 1⟩

/-- PanelRequests: a panel that works, is absent, has no good assets, is off, failed or disabled; an update running and one
finished; rails on with no update; a journal word of an unfinished update, and assets that await their full refresh. -/
theorem test_witness_PanelRequests :
    ((panelled 1).served .supervisor F.PNL_CMD_OP.addr ∧ (panelled 1).panelWorks = true ∧ (panelled 1).hasPanel = true ∧
      (panelled 1).pnlState ≠ 0 ∧ (panelled 1).pnl.run = none ∧ (panelled 1).assetsOk = true ∧
      (panelled 1).layoutOk panelPat = true ∧ panelPat.panelItem.u32 8 ≠ 0 ∧ (panelled 1).imageLen = 16 ∧
      (panelled 1).pnl.retry = false ∧ (panelled 1).pnl.request = none ∧ (panelled 1).panelEmpty = true) ∧
    (∀ k ∈ [6, 7], (panelled k).panelWorks = false ∧ (panelled k).pnlState = k) ∧
    (panelled 0).pnlState = 0 ∧ ((panelled 1).setF F.RST_STRAPS_CFG_PANEL 0).hasPanel = false ∧
    ((panelled 1).setF F.PNL_STATUS_ASSETS_OK 0).assetsOk = false ∧
    ((panelled 7).setPanelWord (panelWordOf 1 0 (wholeJob .draw))).panelEmpty = false ∧
    ((panelled 7).setPanelWord (panelWordOf 1 0 (wholeJob .draw))).panelWord % 4 ≠ 0 ∧
    ({ (panelled 7).pnl with renew := true }).renew = true ∧
    (let s := { panelled 1 with pnl := { (panelled 1).pnl with rails := [.vgl, .vcom] } }
     s.pnl.rails ≠ [] ∧ s.pnl.run = none ∧ s.pnlState ≠ 0) ∧
    ({ (panelled 3).pnl with run := some (wholeJob .draw) }).run ≠ none ∧
    ({ (panelled 3).pnl with run := some (wholeJob .draw), finished := true }).finished = true := by
  unfold State.served; decide +kernel

/-- Which screen differs from the last image rests on the free rendering of a screen: equal images and two that differ
in one byte. -/
theorem test_witness_PanelRequests_images :
    (panelled 1).differing (List.replicate 16 0#8) (List.replicate 16 0#8) = none ∧
    (panelled 1).differing (List.replicate 16 0#8) (List.replicate 15 0#8 ++ [1#8]) = some ⟨.draw, 1, 1, 1, 1⟩ := by
  decide +kernel

/-- A running update of a kind in frame 0 of n, finished or not, on powered rails. -/
def updating (k : PanelKind) (n : Nat) (fin : Bool) : State :=
  let s := (panelled 3).setF F.PNL_STATUS_LU n
  { s with pnl := { s.pnl with run := some (wholeJob k), finished := fin, rails := [.vgl, .vneg, .vgh, .vpos, .vcom] } }

/-- PanelUpdates: an update that may start on discharged rails, of every kind, a recovery before a request; new assets
ahead of a start; a frame before the last, the last one with and without another update waiting, one with both feeds lost,
the first after the power-on sequence; finished updates, one with DISABLE waiting; rail faults at 60 s after another, just
later, with rails off and with DISABLE waiting; a retry. -/
theorem test_witness_PanelUpdates :
    (∀ k ∈ [PanelKind.draw, .refresh, .recovery],
      let s := { panelled 1 with pnl := { (panelled 1).pnl with
        request := if k = PanelKind.recovery then none else some (wholeJob k)
        recovery := if k = PanelKind.recovery then some (wholeJob k) else none } }
      s.panelMayStart = true ∧ (s.pnl.recovery = some (wholeJob k) ∨ (s.pnl.recovery = none ∧ s.pnl.request = some (wholeJob k))) ∧
        s.pnl.slot = s.upd.assetsSlot ∧
        s.imageLen ≤ 960000 ∧ panelWordOf 1 s.panelDisp (wholeJob k) < 2 ^ 64) ∧
    (let s := { panelled 1 with pnl := { (panelled 1).pnl with
       request := some (wholeJob .draw), recovery := some (wholeJob .recovery), rails := [.vgl] } }
     s.panelMayStart = true ∧ s.pnl.recovery = some (wholeJob .recovery) ∧ s.pnl.rails ≠ []) ∧
    (let s := { panelled 1 with
       pnl := { (panelled 1).pnl with request := some (wholeJob .draw) }, upd := { (panelled 1).upd with assetsSlot := 1 } }
     s.panelMayStart = true ∧ s.pnl.recovery = none ∧ s.pnl.rails = [] ∧ s.pnl.slot ≠ s.upd.assetsSlot) ∧
    ((panelled 1).panelMayStart = false ∧ (panelled 6).panelMayStart = false) ∧
    (∀ k ∈ [PanelKind.draw, .recovery],
      (let s := updating k 2 false
       s.pnl.run = some (wholeJob k) ∧ s.pnl.finished = false ∧ s.pnl.blocked = false ∧
         s.getF F.PNL_STATUS_FRAME + 1 < s.getF F.PNL_STATUS_LU ∧ s.pnl.rails ≠ [] ∧ s.pnl.disable = false ∧
         s.pnl.faultAt = none) ∧
      (let s := updating k 1 false
       s.getF F.PNL_STATUS_LU ≤ s.getF F.PNL_STATUS_FRAME + 1 ∧ s.pnl.request = none ∧
         ({ s.pnl with request := some (wholeJob .draw) }).request ≠ none ∧ s.pnl.disable = false ∧
         (s.setPnlState 2).pnlState = 2) ∧
      (let s := updating k 1 true
       s.pnl.run = some (wholeJob k) ∧ s.pnl.finished = true ∧ s.pnl.disable = false ∧
         ({ s.pnl with disable := true }).disable = true ∧ (s.setPnlState 4).pnlState = 4)) ∧
    (let s := { updating .draw 2 false with pnl := { (updating .draw 2 false).pnl with blocked := true } }
     s.pnl.run = some (wholeJob .draw) ∧ s.pnl.finished = false ∧ s.pnl.blocked = true) ∧
    (let s := { updating .draw 2 false with
       pnl := { (updating .draw 2 false).pnl with faultAt := some 0 }
       clock := { (updating .draw 2 false).clock with now := BitVec.ofNat 96 (60000000000 * 2 ^ 32) } }
     s.pnl.faultAt = some 0 ∧ s.elapsedNs = 0 + 60000000000 ∧
       ({ s with clock := { s.clock with now := BitVec.ofNat 96 (60000000001 * 2 ^ 32) } } : State).elapsedNs = 60000000001) ∧
    ({ (updating .draw 2 false).pnl with rails := [] }).rails = [] ∧
    ({ (updating .draw 2 false).pnl with disable := true }).disable = true ∧
    ({ (panelled 1).pnl with retry := true }).retry = true ∧ (panelled 1).pnl.retry = false := by decide +kernel

end Sys2Proof.Slice0
namespace Sys2Proof.Slice0
set_option Elab.async false

/-! ### Power and watch mode -/

/-- Pattern with watch mode: every wake source, windows of 60 s, one confirming window on inputs 0 and 15, an alarm. -/
def watchPat (flags start : Nat) : Pattern :=
  pat [] [topo [], ⟨14, 1, fill 32 [(8, 1, flags), (9, 1, start), (10, 1, 240), (11, 1, 1), (12, 2, 0x8001), (14, 2, 1), (16, 4, 1)]⟩]
/-- In a station state with CFG_WATCH and a PHASE. -/
def watchful (st : StationState) (flags phase : Nat) : State :=
  State.withF (live st (some (watchPat flags 0))) [(F.RST_STRAPS_CFG_WATCH, 1), (F.PWR_STATUS_PHASE, phase)]

/-- PowerAndWatchEntry: domains that rise and that failed to report OFF; WATCH accepted and refused for each reason; the
phases at which CANCEL takes effect; preparations that end, wait and are given up; entries with and without a wake flag. -/
theorem test_witness_PowerAndWatchEntry :
    (∀ k < 8, (watchful .stop 15 0).served .supervisor (F.PWR_VOTE_C_CLO k).addr) ∧
    (let s := { watchful .stop 15 0 with pwr := { (watchful .stop 15 0).pwr with rising := [0, 17] } }
     0 ∈ s.pwr.rising ∧ 17 ∈ s.pwr.rising ∧ s.domainOn 0 = true ∧ s.domainOn 17 = true ∧
       (s.setF F.PWR_DOMAINS_ON 0x40000).domainOn 0 = false) ∧
    (let s := (watchful .stop 15 0).setF F.PWR_DOMAINS_ON 0x40000
     s.domainOn 17 = false ∧ bitOf (s.getF F.PWR_VOTES_HELD) 17 = false) ∧
    (∀ st ∈ [StationState.stop, .run, .tacking], let s := watchful st 15 0
      s.served .supervisor F.PWR_CMD_OP.addr ∧ s.getF F.RST_STRAPS_CFG_WATCH = 1 ∧ s.patIs (fun p => p.watchEn) = true ∧
        (s.station = .stop ∨ s.operating = true) ∧ ¬(s.updateTransfer = true ∨ s.phase ≠ 0)) ∧
    ((stopped.served .supervisor F.PWR_CMD_OP.addr ∧ stopped.getF F.RST_STRAPS_CFG_WATCH ≠ 1) ∧
      (watchful .stop 14 0).patIs (fun p => p.watchEn) = false ∧
      ¬((watchful .safeHalt 15 0).station = .stop ∨ (watchful .safeHalt 15 0).operating = true) ∧
      (watchful .stop 15 1).phase ≠ 0) ∧
    (∀ k ∈ [1, 5, 6], (watchful .stop 15 k).served .supervisor F.PWR_CMD_OP.addr ∧ (watchful .stop 15 k).phase = k) ∧
    (let s := { watchful .stop 15 1 with pnl := { (watchful .stop 15 1).pnl with watchAt := some 0 } }
     s.phase = 1 ∧ s.station = .stop ∧ s.pnl.watchAt = some 0 ∧ s.evr.staged = [] ∧ s.screenDone 0 = true) ∧
    (let s := State.withF (panelled 1) [(F.PWR_STATUS_PHASE, 1)]
     let s := { s with pnl := { s.pnl with watchAt := some 0, request := some (wholeJob .draw) } }
     s.phase = 1 ∧ s.station = .stop ∧ s.pnl.watchAt = some 0 ∧ s.screenDone 0 = false) ∧
    (let s := watchful .stop 15 2
     s.phase = 2 ∧ s.station = .stop ∧ s.pwr.wake = 0 ∧ s.pat.active = some (watchPat 15 0) ∧ (watchPat 15 0).wakeStart = 0 ∧
       s.pwr.wake ||| ((2#6).toNat &&& s.entrySources) ≠ 0) := by unfold State.served; decide +kernel

/-- PowerAndWatchEntry: preparations that begin in an operating state and in STOP, and one that nothing may follow. -/
theorem test_witness_PowerAndWatchEntry_preparation :
    (∀ st ∈ [StationState.stop, .run, .tacking], let s := watchful st 15 1
      s.phase = 1 ∧ (s.operating = true ∨ s.station = .stop) ∧ s.pnl.watchAt = none ∧ s.hasPanel = false) ∧
    ((watchful .unpatterned 15 1).phase = 1 ∧
      ¬((watchful .unpatterned 15 1).station = .stop ∨ (watchful .unpatterned 15 1).operating = true)) := by decide +kernel

/-- In WATCH with wake flags. -/
def asleep (flags wake : Nat) : State :=
  { watchful .watch flags 0 with pwr := { (watchful .watch flags 0).pwr with wake := wake } }

/-- WatchAndWake: windows that agree with the expected inputs and that do not, whatever the free bits of inputs near the
threshold; a supply below the limit; every wake source; a wake that goes on; the time set from a master and from the
ledger. -/
theorem test_witness_WatchAndWake :
    ((asleep 15 0).station = .watch ∧ (asleep 15 0).pat.active = some (watchPat 15 0) ∧ (asleep 15 0).pwr.wake = 0 ∧
      (asleep 15 0).getF F.PWR_SAMPLER_COUNT + 1 < 8) ∧
    ((watchPat 15 0).wakePin = true ∧ (watchPat 15 0).alarmS ≠ 0 ∧ (watchPat 15 0).wakeFeed = true) ∧
    ((asleep 15 63).pwr.wake ≠ 0 ∧ (asleep 15 63).pwr.wake < 64 ∧ (asleep 15 63).pwr.refFailed = false ∧
      ((asleep 15 63).setF F.PTP_STATUS_USABLE 0).getF F.PTP_STATUS_USABLE = 0) ∧
    ({ (asleep 15 1).pwr with retried := true }).retried = true ∧
    (let s := { watchful .stop 15 0 with pwr := { (watchful .stop 15 0).pwr with timeDue := true } }
     s.pwr.timeDue = true ∧ s.station = .stop ∧ s.clock.pendingStep = none ∧ s.clock.pendingRebase = none ∧
       s.startBusy = false ∧ ({ s with sched := { s.sched with op := 1 } } : State).startBusy = true ∧
       ({ s.pwr with timersDue := true }).timersDue = true ∧
       ({ s.clock with pendingRebase := some 0 }).pendingRebase ≠ none ∧ stopped.pwr.timeDue = false ∧
       (∀ k < 1, ¬(k < (watchPat 15 0).items Pattern.SYMBOLS)) ∧
       s.pat.active = some (watchPat 15 0) ∧ (watchPat 15 0).wakeStart = 0) := by decide +kernel
theorem test_witness_WatchAndWake_windows (o : Nat) :
    (watchBits o (11500 :: List.replicate 15 0) ^^^ (watchPat 15 0).sampleExpect) &&& (watchPat 15 0).sampleMask = 0 ∧
    (watchBits o (List.replicate 15 0 ++ [11500]) ^^^ (watchPat 15 0).sampleExpect) &&& (watchPat 15 0).sampleMask ≠ 0 := by
  have h : ∀ l : List Nat, (∀ n, n < 16 → l.getD n 0 < 10500 ∨ 11500 ≤ l.getD n 0) → watchBits o l = watchBits 0 l := by
    intro l hl
    unfold watchBits
    have : ∀ (ns : List Nat) (v : Nat), (∀ n ∈ ns, n < 16) →
        ns.foldl (fun v n => v + if watchBit o n (l.getD n 0) then 2 ^ n else 0) v =
        ns.foldl (fun v n => v + if watchBit 0 n (l.getD n 0) then 2 ^ n else 0) v := by
      intro ns
      induction ns with
      | nil => intros; rfl
      | cons n ns ih =>
        intro v hn
        have hb : watchBit o n (l.getD n 0) = watchBit 0 n (l.getD n 0) := by
          unfold watchBit
          rcases hl n (hn n (by simp)) with h | h
          · rw [if_pos h, if_pos h]
          · have h' : ¬ l.getD n 0 < 10500 := by omega
            rw [if_neg h', if_neg h', if_pos h, if_pos h]
        rw [List.foldl_cons, List.foldl_cons, hb]
        exact ih _ (fun m hm => hn m (List.mem_cons_of_mem _ hm))
    exact this _ 0 (fun n hn => by simpa using hn)
  rw [h _ (by decide), h _ (by decide)]
  decide

end Sys2Proof.Slice0
namespace Sys2Proof.Slice0
set_option Elab.async false

/-! ### Updates and security -/

/-- In STOP with region r in a state, an image of len bytes whose n first blocks are there, and UPD_LEN. -/
def upd (r st len n : Nat) : State :=
  let s := ((stopped.setRegion r st).setF F.UPD_LEN_LENGTH len).setF F.UPD_AT_LO_TIME 10000000
  { s with upd := { s.upd with length := [(r, len)], bitmap := (List.range n).map (fun k => (1024 * r + k, true)) } }

/-- Updates: every state of a region for each command, lengths at the ends of their ranges, a trigger time 10 ms ahead, the
last block of an image with its bytes, a verification that finds a bad image. That an image is good rests on the
signature, which is checked with keys that Config leaves free (firmware) or with an owner's (assets). -/
theorem test_witness_Updates :
    (∀ r ∈ [0, 1, 2], let s := upd r 0 64 0
      s.served .supervisor F.UPD_CMD_OP.addr ∧ s.served .supervisor F.UPD_CANCEL_REGION.addr ∧ s.region r = 0 ∧ s.station = .stop ∧ s.olcOpen = false ∧ s.getF F.UPD_LEN_LENGTH = 64 ∧
        (upd r 1 64 0).region r = 1 ∧ (upd r 1 64 0).nextBlock r < (upd r 1 64 0).updBlocks r ∧
        (upd r 1 64 1).updBlocks r ≤ (upd r 1 64 1).nextBlock r ∧ (upd r 4 64 1).region r = 4 ∧
        (upd r 4 64 1).nowNs + 10000000 ≤ (upd r 4 64 1).getF F.UPD_AT_LO_TIME + 2 ^ 32 * (upd r 4 64 1).getF F.UPD_AT_HI_TIME ∧
        (upd r 5 64 1).region r = 5 ∧ (upd r 7 64 1).region r = 7 ∧
        (∀ st ∈ [2, 3, 4, 5, 6, 7], (upd r st 64 1).region r = st ∧ (upd r st 64 1).region r ≠ 0 ∧
          (upd r st 64 1).updBlocks r ≤ (upd r st 64 1).nextBlock r) ∧ (upd 1 2 64 1).olcOpen = false ∧
        ((upd 1 4 64 1).setF F.PAT_STATE_OLC_STATE olcReady).olcOpen = true) ∧
    ((upd 0 4 64 1).mayActivate 0 = true ∧ (upd 2 4 64 1).mayActivate 2 = true ∧
      ({ (upd 1 4 64 1) with pat := { (upd 1 4 64 1).pat with executing := 0 } }.setF F.PAT_STATE_SHADOW_STATE
        shVerified).mayActivate 1 = true ∧ (upd 1 4 64 1).mayActivate 1 = false) ∧
    ((upd 2 0 0x400040 0).getF F.UPD_LEN_LENGTH = 0x400040 ∧ (upd 0 3 64 1).region 0 = 3 ∧ (upd 0 6 64 1).region 0 = 6) ∧
    (∀ r ∈ [0, 2], let s := upd r 3 64 1
      s.region r = 3 ∧ s.ownerBad = false ∧ s.imageCheck r = some .format) ∧
    (let m : Bytes := fill 12 [(0, 1, 2), (2, 2, 1), (4, 4, 64), (8, 4, (crc32c (List.replicate 64 1#8)).toNat)] ++ List.replicate 64 1#8
     let s := State.session (upd 2 1 65600 1)
     s.alive = true ∧ s.station ≠ .watch ∧ 0 < s.sec.owned ∧ blkRegion m = 2 ∧ s.region 2 = 1 ∧ blkNo m = 1 ∧ s.updBlocks 2 = 2 ∧
       blkLen m = s.blockLength 2 1 ∧ m.length = 12 + blkLen m ∧ s.blockDone 2 1 = false ∧
       (crc32c (List.replicate 64 1#8)).toNat = blkCrc m ∧ (crc32c (List.replicate 64 2#8)).toNat ≠ blkCrc m) := by
  unfold State.served; decide +kernel

/-- STOP with an owner key in slot n. -/
def owned (n : Nat) : State :=
  let key : Bytes := List.replicate 96 1#8
  { stopped with sec := { stopped.sec with
      ownerKey := some key, ownerSlots := List.replicate n [] ++ [sha384 key], nonce := some (List.replicate 32 2#8, 0) } }
/-- SEC_DATA with a scope or a port in byte 0 and a length in byte 1. -/
def asked (a b : Nat) : State := stopped.setF (F.SEC_DATA_DATA 0) (a + 256 * b)

/-- Security: no owner and an owner in slots 0 and 7; a wake of 3 s; a working and a failed generator; a challenge in force;
an unlocked and a locked module; MACsec keys of 1 and 32 bytes on both ports; sessions with no failure and with four. Whether
a signature holds rests on the free serial number or on the nonce. -/
theorem test_witness_Security :
    (stopped.served .supervisor F.SEC_CMD_OP.addr ∧ stopped.reachable = true ∧
      stopped.mayWrite .supervisor F.SEC_CMD_OP.addr true = true ∧ stopped.sec.ownerSlots = [] ∧ stopped.station = .stop ∧
      (stopped.setF F.SEC_STATUS_TRNG_OK 1).getF F.SEC_STATUS_TRNG_OK = 1 ∧
      (stopped.setF F.SEC_STATUS_TRNG_OK 0).getF F.SEC_STATUS_TRNG_OK ≠ 1 ∧ running.served .supervisor F.SEC_CMD_OP.addr) ∧
    (∀ n ∈ [0, 7], (owned n).owner = some (List.replicate 96 1#8) ∧ (owned n).sec.ownerSlots.length = n + 1 ∧
      (owned n).validNonce = some (List.replicate 32 2#8)) ∧
    (stopped.validNonce = none ∧ stopped.ownerBad = false) ∧
    (∀ k ∈ [0, 1, 2, 3], (stopped.setF F.SEC_STATUS_DEBUG k).getF F.SEC_STATUS_DEBUG = k) ∧
    (∀ x ∈ [(0, 1), (1, 32), (2, 1), (0, 0), (0, 33)],
      ((asked x.1 x.2).secData 0 1).u8 0 = x.1 ∧ ((asked x.1 x.2).secData 1 1).u8 0 = x.2) ∧
    (owned 0).sec.nonce ≠ none ∧
    (let s := { stopped with rst := { stopped.rst with svcEn := true }, sec := { stopped.sec with failures := [0, 0, 0, 0] } }
     s.alive = true ∧ s.station ≠ .watch ∧ s.domainOn domSvc = true ∧
       (s.setF F.PWR_DOMAINS_ON 0x40000).domainOn domSvc = false ∧ s.rst.svcEn = true ∧ s.sessionsLocked = false ∧ s.sec.sessions < 2 ∧ s.ownerBad = false ∧ s.owner = none ∧
       (s.sec.failures.filter (fun a => decide (s.elapsedNs < a + 60000000000)) ++ [s.elapsedNs]).length = 5) := by
  unfold State.served; decide +kernel

end Sys2Proof.Slice0
namespace Sys2Proof.Slice0
set_option Elab.async false

/-! ### Resets, boot, settings, temperatures, diagnosis -/

def offState : State := { stopped with station := .off }
/-- Reset released after power-on, but still held here: the state that RESET_RELEASE meets. -/
def heldState (ir : Nat) : State :=
  { State.reset with dgt := { State.reset.dgt with ir := BitVec.ofNat 8 ir } }

/-- ResetsAndTemperatures: OFF before a feed rises, a lost feed in WATCH, in STOP, in reset and in an update of the panel, a
hold-up, its actions complete with a feed at 18.3 V and not, VIO out of range, RST_CMD in the states that
allow it and in RUN, a busy one; the release of the reset with PTEST loaded, with a good image in slot A and with a
CFG_BOOT that names a slot without one; armed thresholds. -/
theorem test_witness_ResetsAndTemperatures :
    offState.station = .off ∧ (watchful .watch 15 0).station = .watch ∧
    (∀ st ∈ [StationState.stop, .unpatterned, .safeHalt, .run, .tacking], let s := live st (some (pat [] [topo []]))
      s.alive = true ∧ s.station ≠ .watch ∧ s.rst.holdUp = false ∧ s.pnl.run = none ∧ s.evr.staged = [] ∧
        s.roleIs .active = false ∧ s.rst.vioOut = false ∧ s.served .supervisor F.RST_CMD_OP.addr ∧ s.getF F.RST_RESULT_BUSY = 0 ∧
        s.station = st) ∧
    ({ stopped.rst with holdUp := true }).holdUp = true ∧
    (let s := { stopped with rst := { stopped.rst with holdUp := true }, pwr := { stopped.pwr with feedA := 18300, feedB := 0 } }
     s.holdUpDone = true ∧ 18300 ≤ max s.pwr.feedA s.pwr.feedB ∧ s.rst.holdUp = true) ∧
    (let s := { stopped with pwr := { stopped.pwr with feedA := 17699, feedB := 0 } }
     max s.pwr.feedA s.pwr.feedB < 17700 ∧ stopped.holdUpDone = true ∧ (updating .draw 2 false).holdUpDone = false) ∧
    ((heldState 0x3C).station ≠ .off ∧ (heldState 0x3C).station ≠ .watch ∧ (heldState 0x3C).rst.held = true ∧
      (heldState 0x3C).rst.holdUp = false ∧ stopped.mayRelease = false) ∧
    (∀ fin ∈ [true, false], let s := updating .draw 2 fin
      s.alive = true ∧ s.rst.holdUp = false ∧ s.pnl.run = some (wholeJob .draw) ∧ s.evr.staged = [] ∧
        s.roleIs .active = false ∧ s.pnl.finished = fin ∧ s.pnlState ≠ 2 ∧
        panelWordOf 2 s.panelDisp (wholeJob .draw) < 2 ^ 64) ∧
    ({ stopped.rst with vioOut := true }).vioOut = true ∧
    ({ offState.rst with rstLow := true }).rstLow = true ∧ (stopped.setF F.RST_RESULT_BUSY 1).getF F.RST_RESULT_BUSY = 1 ∧
    ((heldState 0x3C).mayRelease = true ∧ (heldState 0x3C).dgt.ir = 0x3C#8) ∧
    ((heldState 0x02).mayRelease = true ∧ (heldState 0x02).dgt.ir ≠ 0x3C#8) ∧
    (stopped.alive = true ∧ stopped.tmp.highArmed = true ∧ stopped.tmp.limitArmed = true) ∧
    ({ stopped.tmp with highArmed := false, limitArmed := false }).highArmed = false := by
  unfold State.served; decide +kernel

/-- The choice of a slot reads the journal word, the slots written, the fuses and CFG_BOOT: with the factory images and no
fuse blown some slot boots, whatever CFG_BOOT names; with a fuse blown none does. -/
theorem bootSlot_factory (u : State) (hm : u.mem = []) (hw : u.upd.fwWritten = []) :
    (u.sec.fuses = 0 → ∃ k, (u.countTrial.bootSlot).1 = some k) ∧
    (u.sec.fuses = 1 → (u.countTrial.bootSlot).1 = none) := by
  have hfw : u.fw = ⟨0, true, true, false, 0, 0, 0⟩ := by
    have : u.rdLe Mem.fwJournal 8 = State.reset.rdLe Mem.fwJournal 8 := by
      unfold State.rdLe State.rdBytes State.rdByte; rw [hm]; rfl
    unfold State.fw; rw [this]; decide +kernel
  have hc : u.countTrial = u := by unfold State.countTrial; rw [hfw]; rfl
  have hs : ∀ k, u.fwSlotWritten k = false := by intro k; unfold State.fwSlotWritten; rw [hw]; rfl
  have ho : ∀ (v : State) (k : Nat), v.upd = u.upd → v.sec = u.sec →
      v.fwSlotCheck k = if 0 < u.sec.fuses then some .rollback else none := by
    intro v k h1 h2
    have : v.fwSlotWritten k = false := by have := hs k; unfold State.fwSlotWritten at *; rw [h1]; exact this
    unfold State.fwSlotCheck State.counter; rw [this, h2]; rfl
  have hp : ∀ (v : State) (k : Nat), v.upd = u.upd → v.sec = u.sec →
      v.slotPasses k = decide (¬0 < u.sec.fuses) := by
    intro v k h1 h2
    have hk : v.fwSlotWritten k = false := by have := hs k; unfold State.fwSlotWritten at *; rw [h1]; exact this
    have hcomp : ∀ t, v.component k t = some (Config.factoryComponent t) := by
      intro t; unfold State.component; rw [hk]; rfl
    unfold State.slotPasses
    rw [ho v k h1 h2]
    simp only [hcomp]
    by_cases hf : 0 < u.sec.fuses <;> simp [hf]
  rw [hc]
  unfold State.bootSlot
  constructor <;> intro hf
  · split
    · exact ⟨0, by rw [hp _ _ rfl rfl, hf]; rfl⟩
    · exact ⟨1, by rw [hp _ _ rfl rfl, hf]; rfl⟩
    · refine ⟨0, ?_⟩
      rw [hfw]; dsimp only; rw [hp u _ rfl rfl, hf]; rfl
  · split
    · rw [hp _ _ rfl rfl, hf]; rfl
    · rw [hp _ _ rfl rfl, hf]; rfl
    · rw [hfw]; dsimp only; rw [hp u _ rfl rfl, hf, if_neg (by decide), if_pos (by rfl)]; dsimp only
      rw [hp _ _ (by split <;> rfl) (by split <;> rfl), hf]; rfl

/-- ResetsAndTemperatures: a release after which a slot boots, and one after which none does. -/
theorem test_witness_ResetsAndTemperatures_boot :
    (∃ k, (((heldState 0x02).bootFirst ⟨0, 0, 0⟩ true).countTrial.bootSlot).1 = some k) ∧
    ((({ heldState 0x02 with sec := { State.reset.sec with fuses := 1 } } : State).bootFirst ⟨0, 0, 0⟩
      true).countTrial.bootSlot).1 = none :=
  ⟨(bootSlot_factory _ (by decide +kernel) (by decide +kernel)).1 (by decide +kernel),
    (bootSlot_factory _ (by decide +kernel) (by decide +kernel)).2 (by decide +kernel)⟩

/-- Settings: a memory of width 2 with its data register set, allowed and with room at both ends of the range. -/
def settings (st : StationState) (bytes item : Nat) : State :=
  let s := State.withF (live st none) [(F.RST_SET_SIZE_BYTES, bytes), (F.RST_SET_STATUS_WIDTH, 2), (F.RST_SET_DATA_DATA 0, item)]
  { s with rst := { s.rst with memory := ⟨2, []⟩ } }
def writing (op : Nat) : State :=
  let s := (settings .stop 65535 0).setF F.RST_RESULT_BUSY 1
  { s with rst := { s.rst with writing := some (op, [3#8, 1#8, 0#8]) } }

/-- SettingsWrites: a good item and one whose SIZE does not match; lengths that just fit and that do not; a busy memory;
a state that does not allow a write; writes that run, of items and of nothing. -/
theorem test_witness_SettingsWrites :
    (let s := settings .stop 65535 0x00000103
     s.served .supervisor F.RST_CMD_OP.addr ∧ s.getF F.RST_RESULT_BUSY = 0 ∧ s.settingsAllowed = true ∧ 48 + 976 ≤ s.getF F.RST_SET_SIZE_BYTES ∧
       (imgItems 512 (s.setData 3)).all itemOk = true ∧ (imgItems 512 []).all itemOk = true ∧
       s.writeWidth = s.rst.memory.width) ∧
    (imgItems 512 ((settings .stop 65535 0x00000203).setData 3)).all itemOk = false ∧
    ¬48 + 3 ≤ (settings .stop 50 0).getF F.RST_SET_SIZE_BYTES ∧
    ({ settings .stop 65535 0 with rst := { (settings .stop 65535 0).rst with memory := ⟨3, []⟩ } }).writeWidth ≠ 3 ∧
    ((settings .boot 65535 0).settingsAllowed = false ∧ (settings .boot 65535 0).served .supervisor F.RST_CMD_OP.addr) ∧
    (writing 1).getF F.RST_RESULT_BUSY ≠ 0 ∧
    (writing 1).getF F.RST_STRAPS_CFG_SETMEM = 0 ∧ ((writing 1).setF F.RST_STRAPS_CFG_SETMEM 1).getF F.RST_STRAPS_CFG_SETMEM = 1 ∧
    (let s := { writing 1 with rst := { (writing 1).rst with memory := ⟨2, [(48, 3#8), (49, 1#8)]⟩ } }
     s.writeWidth = s.rst.memory.width ∧ s.smBytes 48 3 = [3#8, 1#8, 0#8]) ∧
    (∀ op ∈ [1, 2], (writing op).rst.writing = some (op, [3#8, 1#8, 0#8])) := by unfold State.served; decide +kernel

/-- STOP with CAN FD controller 7 in its Pattern and a running loopback test. -/
def looping (sent good count : Nat) : State :=
  let s := State.withF { plant with station := .stop } [(F.DGT_LB_COUNT_SENT, sent), (F.DGT_LB_COUNT_GOOD, good),
    (F.DGT_LB_STATUS_FIRST_BAD, 0xFFFF)]
  { s with dgt := { s.dgt with lb := some ⟨7, 1, count⟩ } }
/-- ECC injection armed for word i of an array. -/
def injecting (array i n fold : Nat) : State :=
  State.withF stopped [(F.DGT_ECC_INJ_ARRAY, array), (F.DGT_ECC_IDX_INDEX, i), (F.DGT_ECC_INJ_COUNT, n), (F.DGT_ECC_INJ_FOLD, fold)]
/-- A TAP instruction is loaded. -/
def tap (s : State) (ir : Nat) : State := { s with dgt := { s.dgt with ir := BitVec.ofNat 8 ir } }
/-- The boot ROM with PTEST loaded, before the choice of a slot. -/
def ptest : State := { tap State.reset 0x3C with rst := { State.reset.rst with held := false } }

/-- Diagnosis: a loopback test that runs, at its first and at its last item. -/
theorem test_witness_Diagnosis_loopback :
    ((looping 0 0 65535).dgt.lb = some ⟨7, 1, 65535⟩ ∧ (looping 0 0 65535).served .supervisor F.DGT_LB_CMD_OP.addr) ∧
    ((looping 0 0 65535).getF F.DGT_LB_COUNT_SENT = 0 ∧ (looping 0 0 65535).getF F.DGT_LB_STATUS_FIRST_BAD = 0xFFFF) ∧
    ((looping 1 1 2).getF F.DGT_LB_COUNT_SENT + 1 = 2 ∧
      (looping 1 1 2).getF F.DGT_LB_COUNT_GOOD = (looping 1 1 2).getF F.DGT_LB_COUNT_SENT) ∧
    (∀ k ∈ [12, 17], let x : LoopTest := ⟨k, 1, 2⟩
      12 ≤ x.target ∧ x.target < 18 ∧ x.depth = 1 ∧ ({ looping 0 0 2 with
        dgt := { (looping 0 0 2).dgt with lb := some x } } : State).dgt.lb = some x) :=
  ⟨by unfold State.served; decide +kernel, by decide +kernel, by decide +kernel, by decide +kernel⟩

/-- Diagnosis: a controller that is free to test; injections that are
taken and refused, at the last word of an array; TAP instructions from a plain and from a scan instruction; PTEST before
and after enrolment, waiting for PT_AUTH. Whether its signature holds rests on the free serial number. -/
theorem test_witness_Diagnosis :
    (let s := { plant with station := .stop }
     s.served .supervisor F.DGT_LB_CMD_OP.addr ∧ s.paired = false ∧ s.patIs (fun p => (p.canItem 7).isSome) = true ∧
       s.domainOn domCan = true ∧ s.dgt.lb = none) ∧
    (∀ n ∈ [1, 2], let s := injecting 45 (eccWords 45 - 1) n 0
      s.served .supervisor F.DGT_ECC_INJ_ARM.addr ∧ s.station = .stop ∧ s.getF F.DGT_ECC_INJ_ARRAY = 45 ∧ s.getF F.DGT_ECC_IDX_INDEX < eccWords 45 ∧
        s.getF F.DGT_ECC_INJ_COUNT = n ∧ s.getF F.DGT_ECC_INJ_FOLD = 0 ∧ s.mark 45 (eccWords 45 - 1) = .clean) ∧
    ((injecting 44 0 1 0).getF F.DGT_ECC_INJ_ARRAY = 44 ∧ ¬(injecting 45 (eccWords 45) 1 0).getF F.DGT_ECC_IDX_INDEX < eccWords 45 ∧
      (injecting 0 0 0 0).getF F.DGT_ECC_INJ_COUNT = 0) ∧
    ((tap stopped 0x02).alive = true ∧ scanCode (tap stopped 0x02).dgt.ir = false ∧ (tap stopped 0x02).tapAvailable 0x01#8 = true ∧
      tapListed 0x01#8 = true ∧ scanCode 0x01#8 = false ∧ tapListed 0x00#8 = true ∧ scanCode 0x00#8 = true ∧
      (tap stopped 0x02).tapAvailable 0x00#8 = true) ∧
    (scanCode (tap stopped 0x00).dgt.ir = true ∧ (tap stopped 0x00).alive = true ∧ tapListed 0x55#8 = false) ∧
    (ptest.ptestDue = true ∧ ptest.sec.ownerSlots = [] ∧ { ptest with sec := (owned 0).sec }.ptestDue = true ∧
      (owned 0).sec.ownerSlots ≠ []) ∧
    (let s := { owned 0 with dgt := { (owned 0).dgt with ptWait := true, ptNonce := some (List.replicate 32 1#8) } }
     s.dgt.ptWait = true ∧ s.owner = some (List.replicate 96 1#8) ∧ s.dgt.ptNonce = some (List.replicate 32 1#8)) ∧
    (stopped.setF F.DGT_STATUS_PTEST 1).getF F.DGT_STATUS_PTEST = 1 :=
  ⟨by unfold State.served; decide +kernel,
    by unfold State.served; decide +kernel,
    by decide +kernel,
    by decide +kernel,
    by decide +kernel,
    by decide +kernel,
    by decide +kernel,
    by decide +kernel⟩

end Sys2Proof.Slice0
namespace Sys2Proof.Slice0
set_option Elab.async false

/-- An ill-formed command for each check, one beyond the last unit that exists; each is refused. -/
theorem test_illFormed :
    ∀ i ∈ [Instr.add 8 false 1 2 3, .registerWrite (.application 8) 0 0 4, .loopGrp 8 0, .selftest 29 0 true,
      .canSlotStart 8 0, .ethSlotStart 2 0, .scrubStep 46, .storeWindowWrite .supervisor 1024 0,
      .problemWindowWrite .supervisor 32768 0, .disableCopyEnd 8, .testPulse 48, .groupTest 6, .fsLow 2 0, .cloStarted 8,
      .discrepancy 48, .resetHeld 17, .pdCopy 2 0 [], .pdCopy 0 1024 [], .pdSingle 1024, .tpMessage 32 1 [],
      .recover .supervisor 8, .ethFrameReceived 3 [] ⟨true, 0⟩, .ptpTrigger 4, .capture 16 true 0,
      .captureRead .supervisor 16, .nymilLinkLost 2, .eventRaise 0 0 (List.replicate 9 0), .pnlRailFault 5,
      .pwrVoteWrite .supervisor 8 0, .pwrDomainFault 18 false, .updVerifyEnd 3, .feedRise 2 0, .ptFlash 2 []],
      i.wellFormed = false := by decide

/-- The last unit of each kind is well-formed. -/
theorem test_wellFormed :
    ∀ i ∈ [Instr.add 7 false 1 2 3, .registerWrite (.application 7) 0 0 4, .selftest 28 0 true, .scrubStep 45,
      .testPulse 47, .pdSingle 1023, .tpMessage 31 1 [], .capture 15 true 0, .eventRaise 0 0 (List.replicate 8 0),
      .pwrDomainFault 17 false], i.wellFormed = true := by decide

/-! ### Stitch code -/

/-- Words written out from the formats of Tables 4.4 and 4.5: R, K, LI, SH, L, BC, FMA, SYS, JB and END, one of each family. -/
theorem test_words :
    decodeStitch 7 0x00082301#32 = some (.add 7 false 3 1 2) ∧
    decodeStitch 7 0xFFFC0108#32 = some (.addk 7 1 0 0x3FFF) ∧
    decodeStitch 7 0x0000250E#32 = some (.lih 7 5 1) ∧
    decodeStitch 7 0x050C220D#32 = some (.shk 7 .shr true 2 1 3) ∧
    decodeStitch 7 0x0020C424#32 = some (.l32s 7 4 6 8) ∧
    decodeStitch 7 0x000C4140#32 = some (.bcEq 7 1 2 3) ∧
    decodeStitch 7 0x438C4112#32 = some (.fma 7 true 1 2 3 7) ∧
    decodeStitch 7 0x08000550#32 = some (.evtRaise 7 5) ∧
    decodeStitch 7 0xFFFFE24D#32 = some (.callb 7 2 0x7FFFF) ∧
    decodeStitch 7 0x0000004F#32 = some (.endEntry 7) ∧ decodeStitch 7 0 = none := by decide +kernel

/-- The queue: a command in front of another, and an empty one. -/
theorem test_witness_StepRunsTheFront :
    ({ stopped with pending := [.panelFrame, .panelRender] }).pending = .panelFrame :: [.panelRender] ∧
    stopped.pending = [] := ⟨rfl, rfl⟩

/-- An instruction with every operand at its last value, and the word it stands for. -/
theorem test_witness_StitchRoundTrip :
    encodeStitch (.fma 7 true 31 31 31 31) = some (0x4FFFFF12#32) ∧
    decodeStitch 7 0x4FFFFF12#32 = some (.fma 7 true 31 31 31 31) := by decide +kernel

/-- A store at an instruction's state with memory, registers and a command behind it. -/
theorem test_witness_StitchCodeKeepsCanonicalForm :
    (coreState 0 0).storesWf = true ∧ encodeStitch (.s8 0 1 0 5) ≠ none ∧
    (∃ t, exec (.s8 0 1 0 5) (coreState 0 0) = .next t) :=
  ⟨by decide +kernel, by decide +kernel, ⟨_, rfl⟩⟩

/-- EveryCommandKeepsCanonicalForm: the reset state, and one with a command of another kind at the front. -/
theorem test_witness_EveryCommandKeepsCanonicalForm :
    State.reset.storesWf = true ∧ ({ stopped with pending := [.registerWrite .supervisor F.GLB_FORCE_SYM_SYM_ID.addr 7 4] }).storesWf = true ∧
    (∃ t, exec (.registerWrite .supervisor F.GLB_FORCE_SYM_SYM_ID.addr 7 4) stopped = .next t) :=
  ⟨by decide, by decide +kernel, ⟨_, rfl⟩⟩

/-- AfterReset and CoreRegisters speak of values that exist: the memory and the register file of the reset state list
nothing. -/
theorem test_reset : State.reset.mem = [] ∧ State.reset.regs = [] ∧ step State.reset = .next State.reset := ⟨rfl, rfl, rfl⟩

end Sys2Proof.Slice0
end

section
/-!
PROOFS. The channel commands HOLD, CLOSE and SWAP of the loop engine (R152, R153).
-/

namespace Sys2Proof.Machine

/-! ### Frames of register writes -/

theorem State.keeps_refl (s : State) (l : List Part) : s.keeps s l := fun p _ => by cases p <;> simp [Part.same]

theorem State.keeps_setF {s t : State} {l : List Part} (h : s.keeps t l) (hl : Part.regs ∈ l) (f : Fld) (v : Nat) :
    s.keeps (t.setF f v) l := fun p hp => by
  cases p with
  | regs => exact absurd hl hp
  | _ => exact h _ hp

theorem State.regsBut_refl (s : State) (l : List Nat) : s.regsBut s l := fun _ _ => rfl

theorem State.regsBut_setF {s t : State} {l : List Nat} (h : s.regsBut t l) (f : Fld) (v : Nat) (hf : f.addr ∈ l) :
    s.regsBut (t.setF f v) l := fun a ha => by
  rw [t.getR_setF_ne f v a (fun he => ha (he ▸ hf))]
  exact h a ha

/-! ### A command that reaches its register -/

/-- Where a requester's writes reach a command register, a command written into it is carried out (R33). -/
theorem State.command_of_served {s : State} {req : Requester} {f : Fld} (h : s.served req f.addr) (t : State) :
    s.command req f t = .next t := by
  obtain ⟨hreach, hcmp, hmay⟩ := h
  simp [State.command, State.commanded, State.accessBy, State.serves, hreach, hcmp, hmay]

/-! ### The answer in LPE_CH_RESULT -/

theorem lpResultCode_inWord : F.LPE_CH_RESULT_CODE.inWord := ⟨by decide, by decide⟩
theorem lpResultChannel_inWord : F.LPE_CH_RESULT_CHANNEL.inWord := ⟨by decide, by decide⟩

theorem State.lpResult_channel (s : State) (c code : Nat) (hc : c < 256) :
    (s.lpResult c code).getF F.LPE_CH_RESULT_CHANNEL = c := by
  rw [State.lpResult, State.getF_setF_apart _ F.LPE_CH_RESULT_CODE F.LPE_CH_RESULT_CHANNEL code rfl lpResultCode_inWord
    lpResultChannel_inWord (.inr (by decide)), State.getF_setF_same _ _ _ lpResultChannel_inWord]
  exact Nat.mod_eq_of_lt hc

theorem State.lpResult_code (s : State) (c code : Nat) (h : code < 256) :
    (s.lpResult c code).getF F.LPE_CH_RESULT_CODE = code := by
  rw [State.lpResult, State.getF_setF_same _ _ _ lpResultCode_inWord]
  exact Nat.mod_eq_of_lt h

theorem State.keeps_lpResult {s t : State} (h : s.keeps t [.regs]) (c code : Nat) :
    s.keeps (t.lpResult c code) [.regs] :=
  State.keeps_setF (State.keeps_setF h (by simp) _ _) (by simp) _ _

theorem State.regsBut_lpResult {s t : State} {l : List Nat} (h : s.regsBut t l) (hl : F.LPE_CH_RESULT_CODE.addr ∈ l)
    (c code : Nat) : s.regsBut (t.lpResult c code) l :=
  State.regsBut_setF (State.regsBut_setF h F.LPE_CH_RESULT_CHANNEL c hl) F.LPE_CH_RESULT_CODE code hl

/-! ### PENDING, LAST and MODE share the channel's status register -/

/-- The answer leaves a channel's status register as it was. -/
theorem State.lpResult_getR_status (s : State) (c code n : Nat) :
    (s.lpResult c code).getR (F.LPE_CH_STATUS_MODE n).addr = s.getR (F.LPE_CH_STATUS_MODE n).addr :=
  State.regsBut_lpResult (s.regsBut_refl [F.LPE_CH_RESULT_CODE.addr]) (by simp) c code _
    (by simp only [F.LPE_CH_STATUS_MODE, F.LPE_CH_RESULT_CODE, List.mem_singleton]; omega)

theorem State.lpResult_mode (s : State) (c code n : Nat) : (s.lpResult c code).lpMode n = s.lpMode n :=
  congrArg (F.LPE_CH_STATUS_MODE n).pick (s.lpResult_getR_status c code n)

theorem State.lpResult_pending (s : State) (c code n : Nat) :
    (s.lpResult c code).getF (F.LPE_CH_STATUS_PENDING n) = s.getF (F.LPE_CH_STATUS_PENDING n) :=
  congrArg (F.LPE_CH_STATUS_PENDING n).pick (s.lpResult_getR_status c code n)

theorem State.lpResult_last (s : State) (c code n : Nat) :
    (s.lpResult c code).getF (F.LPE_CH_STATUS_LAST n) = s.getF (F.LPE_CH_STATUS_LAST n) :=
  congrArg (F.LPE_CH_STATUS_LAST n).pick (s.lpResult_getR_status c code n)

theorem lpMode_inWord (n : Nat) : (F.LPE_CH_STATUS_MODE n).inWord := by simp [Fld.inWord, F.LPE_CH_STATUS_MODE]
theorem lpPending_inWord (n : Nat) : (F.LPE_CH_STATUS_PENDING n).inWord := by
  simp [Fld.inWord, F.LPE_CH_STATUS_PENDING]
theorem lpLast_inWord (n : Nat) : (F.LPE_CH_STATUS_LAST n).inWord := by simp [Fld.inWord, F.LPE_CH_STATUS_LAST]
theorem lpPending_apart_mode (n : Nat) : (F.LPE_CH_STATUS_PENDING n).apart (F.LPE_CH_STATUS_MODE n) :=
  .inl (by decide : 29 < 30)
theorem lpPending_apart_last (n : Nat) : (F.LPE_CH_STATUS_PENDING n).apart (F.LPE_CH_STATUS_LAST n) :=
  .inr (by decide : 27 < 28)
theorem lpLast_apart_pending (n : Nat) : (F.LPE_CH_STATUS_LAST n).apart (F.LPE_CH_STATUS_PENDING n) :=
  .inl (by decide : 27 < 28)

theorem State.lpPending_setF_same (s : State) (n op : Nat) (h : op < 4) :
    (s.setF (F.LPE_CH_STATUS_PENDING n) op).getF (F.LPE_CH_STATUS_PENDING n) = op := by
  rw [s.getF_setF_same _ _ (lpPending_inWord n)]
  exact Nat.mod_eq_of_lt h

theorem State.lpLast_setF_same (s : State) (n last : Nat) (h : last < 4) :
    (s.setF (F.LPE_CH_STATUS_LAST n) last).getF (F.LPE_CH_STATUS_LAST n) = last := by
  rw [s.getF_setF_same _ _ (lpLast_inWord n)]
  exact Nat.mod_eq_of_lt h

theorem State.lpLast_setF_pending (s : State) (n op : Nat) :
    (s.setF (F.LPE_CH_STATUS_PENDING n) op).getF (F.LPE_CH_STATUS_LAST n) = s.getF (F.LPE_CH_STATUS_LAST n) :=
  s.getF_setF_apart _ _ op rfl (lpPending_inWord n) (lpLast_inWord n) (lpPending_apart_last n)

theorem State.lpMode_setF_pending (s : State) (n op : Nat) :
    (s.setF (F.LPE_CH_STATUS_PENDING n) op).lpMode n = s.lpMode n :=
  s.getF_setF_apart _ _ op rfl (lpPending_inWord n) (lpMode_inWord n) (lpPending_apart_mode n)

theorem State.lpPending_setF_last (s : State) (n last : Nat) :
    (s.setF (F.LPE_CH_STATUS_LAST n) last).getF (F.LPE_CH_STATUS_PENDING n) = s.getF (F.LPE_CH_STATUS_PENDING n) :=
  s.getF_setF_apart _ _ last rfl (lpLast_inWord n) (lpPending_inWord n) (lpLast_apart_pending n)

/-! ### The branches of lpCmd -/

/-- The item of channel n in the active Pattern; with no Pattern it is empty, so the channel is not used. -/
def State.lpItem (s : State) (n : Nat) : Bytes := (s.pat.active.map (fun p => p.loop n)).getD []

/-- Table 6.7: the mode refuses the command, with STATE. -/
def lpModeRefuses (op m : Nat) : Prop := (op = 1 ∧ m = lpHeld) ∨ (op = 2 ∧ m ≠ lpHeld) ∨ (op = 3 ∧ m = lpFaulted)

theorem State.lpCmd_unused (s : State) (n op : Nat) (hu : lpUsed (s.lpItem n) = false) :
    s.lpCmd n op = s.lpResult n 1 := by
  cases hp : s.pat.active with
  | none => simp [State.lpCmd, hp]
  | some p =>
    have hitem : s.lpItem n = p.loop n := by simp [State.lpItem, hp]
    simp [State.lpCmd, hp, ← hitem, hu]

/-- A used channel belongs to an active Pattern, so that the item of the statement is the one that lpCmd reads. -/
theorem State.active_of_lpUsed {s : State} {n : Nat} (hu : lpUsed (s.lpItem n) = true) :
    ∃ p, s.pat.active = some p ∧ p.loop n = s.lpItem n := by
  unfold State.lpItem at *
  cases hp : s.pat.active with
  | none => rw [hp] at hu; exact absurd (show lpUsed [] = true from hu) (by decide)
  | some p => exact ⟨p, rfl, rfl⟩

theorem State.lpCmd_swap_not_banked (s : State) (n : Nat) (hu : lpUsed (s.lpItem n) = true)
    (hb : lpBanked (s.lpItem n) = false) : s.lpCmd n 3 = s.lpResult n 2 := by
  obtain ⟨p, hp, hit⟩ := State.active_of_lpUsed hu
  simp [State.lpCmd, hp, hit, hu, hb]

section
variable {s : State} {n op : Nat} (hu : lpUsed (s.lpItem n) = true) (hb : op = 3 → lpBanked (s.lpItem n) = true)
include hu hb

theorem State.lpCmd_mode_refuses (hm : lpModeRefuses op (s.lpMode n)) : s.lpCmd n op = s.lpResult n 3 := by
  obtain ⟨p, hp, hit⟩ := State.active_of_lpUsed hu
  have hswap : ¬(op = 3 ∧ lpBanked (s.lpItem n) = false) := fun h => by simp [hb h.1] at h
  rw [lpModeRefuses] at hm
  simp [State.lpCmd, hp, hit, hu, hswap, or_assoc, hm]

theorem State.lpCmd_accepted (hm : ¬lpModeRefuses op (s.lpMode n)) :
    s.lpCmd n op = if s.getF (F.LPE_CH_STATUS_PENDING n) ≠ 0
      then ((s.setF (F.LPE_CH_STATUS_PENDING n) op).setF (F.LPE_CH_STATUS_LAST n) 3).lpResult n 4
      else (s.setF (F.LPE_CH_STATUS_PENDING n) op).lpResult n 0 := by
  obtain ⟨p, hp, hit⟩ := State.active_of_lpUsed hu
  have hswap : ¬(op = 3 ∧ lpBanked (s.lpItem n) = false) := fun h => by simp [hb h.1] at h
  rw [lpModeRefuses] at hm
  simp [State.lpCmd, hp, hit, hu, hswap, or_assoc, hm]

end

/-! ### What a refused and an accepted command bring about -/

/-- LPE_CH_RESULT names the channel and the code. -/
def State.lpAnswers (t : State) (n code : Nat) : Prop :=
  t.getF F.LPE_CH_RESULT_CHANNEL = n ∧ t.getF F.LPE_CH_RESULT_CODE = code

/-- The command answers the code and changes nothing else. -/
def State.lpRefuses (s : State) (i : Instr) (n code : Nat) : Prop :=
  ∃ t, exec i s = .next t ∧ t.lpAnswers n code ∧ s.regsBut t [F.LPE_CH_RESULT_CODE.addr] ∧ s.keeps t [.regs]

/-- R153: the command waits in PENDING; one that waited is replaced, which CODE 4 and LAST 3 (REPLACED) report. -/
def State.lpWaits (s : State) (i : Instr) (n op : Nat) : Prop :=
  (s.getF (F.LPE_CH_STATUS_PENDING n) = 0 → ∃ t, exec i s = .next t ∧ t.lpAnswers n 0 ∧
    t.getF (F.LPE_CH_STATUS_PENDING n) = op ∧ t.getF (F.LPE_CH_STATUS_LAST n) = s.getF (F.LPE_CH_STATUS_LAST n) ∧
    t.lpMode n = s.lpMode n ∧ s.regsBut t [F.LPE_CH_RESULT_CODE.addr, (F.LPE_CH_STATUS_MODE n).addr] ∧
    s.keeps t [.regs]) ∧
  (s.getF (F.LPE_CH_STATUS_PENDING n) ≠ 0 → ∃ t, exec i s = .next t ∧ t.lpAnswers n 4 ∧
    t.getF (F.LPE_CH_STATUS_PENDING n) = op ∧ t.getF (F.LPE_CH_STATUS_LAST n) = 3 ∧ s.keeps t [.regs])

theorem State.lpAnswers_lpResult (s : State) {n code : Nat} (hn : n < 256) (hcode : code < 256) :
    (s.lpResult n code).lpAnswers n code := ⟨s.lpResult_channel n code hn, s.lpResult_code n code hcode⟩

theorem State.lpRefuses_of_lpResult {s : State} {i : Instr} {n code : Nat} (hn : n < 256) (hcode : code < 256)
    (hi : exec i s = .next (s.lpResult n code)) : s.lpRefuses i n code :=
  ⟨_, hi, s.lpAnswers_lpResult hn hcode, State.regsBut_lpResult (s.regsBut_refl _) (by simp) n code,
    State.keeps_lpResult (s.keeps_refl _) n code⟩

theorem State.lpWaits_of_accepted {s : State} {i : Instr} {n op : Nat} (hn : n < 256) (hop : op < 4)
    (hi : exec i s = .next (s.lpCmd n op)) (hu : lpUsed (s.lpItem n) = true)
    (hb : op = 3 → lpBanked (s.lpItem n) = true) (hm : ¬lpModeRefuses op (s.lpMode n)) : s.lpWaits i n op := by
  rw [State.lpCmd_accepted hu hb hm] at hi
  have hkeeps := State.keeps_setF (s.keeps_refl [.regs]) (by simp) (F.LPE_CH_STATUS_PENDING n) op
  constructor <;> intro hp
  · rw [if_neg (not_not.2 hp)] at hi
    refine ⟨_, hi, State.lpAnswers_lpResult _ hn (by decide), ?pending, ?last, ?mode, ?regs,
      State.keeps_lpResult hkeeps n 0⟩
    case pending => rw [State.lpResult_pending, s.lpPending_setF_same n op hop]
    case last => rw [State.lpResult_last, s.lpLast_setF_pending]
    case mode => rw [State.lpResult_mode, s.lpMode_setF_pending]
    case regs =>
      exact State.regsBut_lpResult
        (State.regsBut_setF (s.regsBut_refl _) (F.LPE_CH_STATUS_PENDING n) op (.tail _ (.head _))) (.head _) n 0
  · rw [if_pos hp] at hi
    refine ⟨_, hi, State.lpAnswers_lpResult _ hn (by decide), ?pending, ?last,
      State.keeps_lpResult (State.keeps_setF hkeeps (by simp) _ _) n 4⟩
    case pending => rw [State.lpResult_pending, State.lpPending_setF_last, s.lpPending_setF_same n op hop]
    case last => rw [State.lpResult_last, State.lpLast_setF_same _ n 3 (by decide)]

/-! ### The obligation -/

/-- Settles O32: each clause is one branch of lpCmd, with the codes of Table 6.7's refusals. -/
theorem loopCommands : Obligations.LoopCommands := by
  intro s req c hs n it m res waits refused
  have hn : n < 256 := c.isLt
  have hold : exec (.hold req c) s = .next (s.lpCmd n 1) := State.command_of_served hs _
  have close : exec (.close req c) s = .next (s.lpCmd n 2) := State.command_of_served hs _
  have swap : exec (.swap req c) s = .next (s.lpCmd n 3) := State.command_of_served hs _
  refine ⟨fun hu hm => ⟨?_, ?_⟩, fun hu hm => ⟨?_, ?_⟩, fun hu hb hm => ?_, fun hu hb hm => ?_, fun hu hb => ?_,
    fun hu => ⟨?_, ?_, ?_⟩⟩
  · exact State.lpWaits_of_accepted hn (by decide) hold hu (by simp) (by simpa [lpModeRefuses] using hm)
  · exact State.lpRefuses_of_lpResult hn (by decide)
      (close.trans (congrArg _ (State.lpCmd_mode_refuses hu (by simp) (.inr (.inl ⟨rfl, hm⟩)))))
  · exact State.lpWaits_of_accepted hn (by decide) close hu (by simp) (by simpa [lpModeRefuses] using hm)
  · exact State.lpRefuses_of_lpResult hn (by decide)
      (hold.trans (congrArg _ (State.lpCmd_mode_refuses hu (by simp) (.inl ⟨rfl, hm⟩))))
  · exact State.lpWaits_of_accepted hn (by decide) swap hu (fun _ => hb) (by simpa [lpModeRefuses] using hm)
  · exact State.lpRefuses_of_lpResult hn (by decide)
      (swap.trans (congrArg _ (State.lpCmd_mode_refuses hu (fun _ => hb) (.inr (.inr ⟨rfl, hm⟩)))))
  · exact State.lpRefuses_of_lpResult hn (by decide) (swap.trans (congrArg _ (s.lpCmd_swap_not_banked n hu hb)))
  · exact State.lpRefuses_of_lpResult hn (by decide) (hold.trans (congrArg _ (s.lpCmd_unused n 1 hu)))
  · exact State.lpRefuses_of_lpResult hn (by decide) (close.trans (congrArg _ (s.lpCmd_unused n 2 hu)))
  · exact State.lpRefuses_of_lpResult hn (by decide) (swap.trans (congrArg _ (s.lpCmd_unused n 3 hu)))

end Sys2Proof.Machine
end

section
/-!
PROOFS. Frames: how far two states differ, composed along the operations that lead from one to the other.
-/

namespace Sys2Proof.Machine

/-! ### Composing frames -/

theorem State.keeps.trans {s t u : State} {l m : List Part} (h : s.keeps t l) (h' : t.keeps u m) :
    s.keeps u (l ++ m) := fun p hp => by
  have hl := h p (fun hm => hp (List.mem_append_left m hm))
  have hm := h' p (fun hm => hp (List.mem_append_right l hm))
  cases p with
  | regs | mem | cores | queues => exact fun a => (hm a).trans (hl a)
  | _ => exact Eq.trans hm hl

theorem State.keeps.mono {s t : State} {l m : List Part} (h : s.keeps t l) (hl : l ⊆ m) : s.keeps t m :=
  fun p hp => h p (fun hm => hp (hl hm))

theorem State.regsBut.trans {s t u : State} {l m : List Nat} (h : s.regsBut t l) (h' : t.regsBut u m) :
    s.regsBut u (l ++ m) := fun a ha =>
  (h' a (fun hm => ha (List.mem_append_right l hm))).trans (h a (fun hm => ha (List.mem_append_left m hm)))

theorem State.regsBut.mono {s t : State} {l m : List Nat} (h : s.regsBut t l) (hl : l ⊆ m) : s.regsBut t m :=
  fun a ha => h a (fun hm => ha (hl hm))

theorem State.regsBut.getF {s t : State} {l : List Nat} (h : s.regsBut t l) {f : Fld} (hf : f.addr ∉ l) :
    t.getF f = s.getF f := congrArg f.pick (h f.addr hf)

/-- Nothing but the registers and the parts named differs. -/
def State.alters (s t : State) (regs : List Nat) (parts : List Part) : Prop := s.regsBut t regs ∧ s.keeps t parts

section
variable {s t u : State} {a b : List Nat} {l m : List Part}

theorem State.alters.regsBut (h : s.alters t a l) : s.regsBut t a := h.1
theorem State.alters.keeps (h : s.alters t a l) : s.keeps t l := h.2

theorem State.alters.getF (h : s.alters t a l) {f : Fld} (hf : f.addr ∉ a) : t.getF f = s.getF f := h.regsBut.getF hf

theorem State.alters.trans (h : s.alters t a l) (h' : t.alters u b m) : s.alters u (a ++ b) (l ++ m) :=
  ⟨h.regsBut.trans h'.regsBut, h.keeps.trans h'.keeps⟩

theorem State.alters.mono (h : s.alters t a l) (ha : a ⊆ b) (hl : l ⊆ m) : s.alters t b m :=
  ⟨h.regsBut.mono ha, h.keeps.mono hl⟩

theorem State.alters.ite (c : Prop) [Decidable c] (ht : s.alters t a l) (hu : s.alters u a l) :
    s.alters (if c then t else u) a l := by
  split_ifs <;> assumption

end

/-! ### The frame of each operation -/

theorem State.alters_refl (s : State) (a : List Nat) (l : List Part) : s.alters s a l :=
  ⟨s.regsBut_refl a, s.keeps_refl l⟩

theorem State.alters_setF (s : State) (f : Fld) (v : Nat) : s.alters (s.setF f v) [f.addr] [.regs] :=
  ⟨State.regsBut_setF (s.regsBut_refl _) f v (.head _), State.keeps_setF (s.keeps_refl _) (.head _) f v⟩

theorem State.alters_raiseCls (s : State) (code source cls : Nat) (payload : List Nat) :
    s.alters (s.raiseCls code source cls payload) [F.EVR_STATUS_STAGED.addr] [.regs, .evr] := by
  refine ⟨fun a ha => s.getR_raiseCls code source cls payload a (by simpa using ha), fun p hp => ?_⟩
  cases p with
  | regs | evr => simp at hp
  | mem | cores | queues =>
    intro a
    simp [State.rdByte, State.core, State.queueState]
  | _ => simp [Part.same]

theorem State.alters_raise (s : State) (code source : Nat) (payload : List Nat) :
    s.alters (s.raise code source payload) [F.EVR_STATUS_STAGED.addr] [.regs, .evr] :=
  s.alters_raiseCls code source _ payload

/-- A part other than the registers is all that differs when every other part is the same. -/
theorem State.alters_part {s t : State} {q : Part} (hq : q ≠ .regs) (h : ∀ p, p ≠ q → p.same s t) :
    s.alters t [] [q] :=
  ⟨fun a _ => h .regs hq.symm a, fun p hp => h p (by simpa using hp)⟩

section
variable (s : State)

theorem State.alters_wrBytes (a : Nat) (bs : Bytes) : s.alters (s.wrBytes a bs) [] [.mem] :=
  alters_part (by decide) fun p hp => by cases p <;> simp [Part.same, getR, core, queueState] at hp ⊢

theorem State.alters_bus (x : Bus) : s.alters { s with bus := x } [] [.bus] :=
  alters_part (by decide) fun p hp => by cases p <;> simp [Part.same, getR, rdByte, core, queueState] at hp ⊢

theorem State.alters_pat (x : PatState) : s.alters { s with pat := x } [] [.pat] :=
  alters_part (by decide) fun p hp => by cases p <;> simp [Part.same, getR, rdByte, core, queueState] at hp ⊢

theorem State.alters_ecc (x : EccState) : s.alters { s with ecc := x } [] [.ecc] :=
  alters_part (by decide) fun p hp => by cases p <;> simp [Part.same, getR, rdByte, core, queueState] at hp ⊢

theorem State.alters_evr (x : Recorder) : s.alters { s with evr := x } [] [.evr] :=
  alters_part (by decide) fun p hp => by cases p <;> simp [Part.same, getR, rdByte, core, queueState] at hp ⊢

theorem State.alters_saf (x : Safety) : s.alters { s with saf := x } [] [.saf] :=
  alters_part (by decide) fun p hp => by cases p <;> simp [Part.same, getR, rdByte, core, queueState] at hp ⊢

theorem State.alters_ptp (x : Ptp) : s.alters { s with ptp := x } [] [.ptp] :=
  alters_part (by decide) fun p hp => by cases p <;> simp [Part.same, getR, rdByte, core, queueState] at hp ⊢

theorem State.alters_pnl (x : Panel) : s.alters { s with pnl := x } [] [.pnl] :=
  alters_part (by decide) fun p hp => by cases p <;> simp [Part.same, getR, rdByte, core, queueState] at hp ⊢

theorem State.alters_upd (x : Update) : s.alters { s with upd := x } [] [.upd] :=
  alters_part (by decide) fun p hp => by cases p <;> simp [Part.same, getR, rdByte, core, queueState] at hp ⊢

theorem State.alters_freeCount (n : Nat) : s.alters { s with freeCount := n } [] [.free] :=
  alters_part (by decide) fun p hp => by cases p <;> simp [Part.same, getR, rdByte, core, queueState] at hp ⊢

end

/-- A raise stages the same where the recorder and the active Pattern are the same. -/
theorem State.raise_evr_congr {s t : State} (he : t.evr = s.evr) (hp : t.pat.active = s.pat.active) (code source : Nat)
    (payload : List Nat) : s.raised (t.raise code source payload) code source payload := by
  have hb : t.bucket code = s.bucket code := by simp only [State.bucket, hp]
  have hm : t.missingOf code = s.missingOf code := by simp only [State.missingOf, he]
  have hs : t.suppressedOf code = s.suppressedOf code := by simp only [State.suppressedOf, he]
  simp only [State.raised, State.raise, State.raiseCls, he, hb, hm, hs]
  split_ifs <;> simp [State.setSuppressed, State.stage, he, hm]

end Sys2Proof.Machine
end

section
/-!
PROOFS. The update regions' own operations: the fields of UPD_RESULT and UPD_Rr_STATE, the journal word, the bitmap.
-/

namespace Sys2Proof.Machine

/-! ### UPD_RESULT -/

theorem updLastOp_inWord : F.UPD_RESULT_LAST_OP.inWord := ⟨by decide, by decide⟩
theorem updRegion_inWord : F.UPD_RESULT_REGION.inWord := ⟨by decide, by decide⟩
theorem updCode_inWord : F.UPD_RESULT_CODE.inWord := ⟨by decide, by decide⟩
theorem updDone_inWord : F.UPD_RESULT_DONE.inWord := ⟨by decide, by decide⟩
theorem updNextBlock_inWord : F.UPD_RESULT_NEXT_BLOCK.inWord := ⟨by decide, by decide⟩

/-- UPD_RESULT names the command, the region and the code. -/
def State.updAnswers (t : State) (op r code : Nat) : Prop :=
  t.getF F.UPD_RESULT_LAST_OP = op ∧ t.getF F.UPD_RESULT_REGION = r ∧ t.getF F.UPD_RESULT_CODE = code

/-- A write of UPD_RESULT's DONE or NEXT_BLOCK leaves the answer as it is. -/
theorem State.updAnswers.setF {t : State} {op r code : Nat} (h : t.updAnswers op r code) (f : Fld) (v : Nat)
    (hf : f = F.UPD_RESULT_DONE ∨ f = F.UPD_RESULT_NEXT_BLOCK) : (t.setF f v).updAnswers op r code := by
  obtain ⟨hop, hr, hc⟩ := h
  have keep (g : Fld) (hg : g.inWord) (ha : g.addr = F.UPD_RESULT_DONE.addr) (hlo : 9 < g.lo) (hhi : g.hi < 31) :
      (t.setF f v).getF g = t.getF g := by
    rcases hf with rfl | rfl
    · exact t.getF_setF_apart _ g v ha updDone_inWord hg (.inr hhi)
    · exact t.getF_setF_apart _ g v ha updNextBlock_inWord hg (.inl hlo)
  exact ⟨(keep _ updLastOp_inWord rfl (by decide) (by decide)).trans hop,
    (keep _ updRegion_inWord rfl (by decide) (by decide)).trans hr,
    (keep _ updCode_inWord rfl (by decide) (by decide)).trans hc⟩

theorem UpdCode.code_lt (c : UpdCode) : c.code < 256 := by cases c <;> decide

theorem State.updAnswers_updResult (s : State) {op r : Nat} (c : UpdCode) (hop : op < 8) (hr : r < 4) :
    (s.updResult op r c).updAnswers op r c.code := by
  refine State.updAnswers.setF (.setF ⟨?op, ?region, ?code⟩ _ _ (.inr rfl)) _ _ (.inl rfl)
  case op =>
    rw [State.getF_setF_apart _ F.UPD_RESULT_CODE F.UPD_RESULT_LAST_OP _ rfl updCode_inWord updLastOp_inWord
        (.inl (by decide)),
      State.getF_setF_apart _ F.UPD_RESULT_REGION F.UPD_RESULT_LAST_OP _ rfl updRegion_inWord updLastOp_inWord
        (.inl (by decide)),
      State.getF_setF_same _ _ _ updLastOp_inWord]
    exact Nat.mod_eq_of_lt hop
  case region =>
    rw [State.getF_setF_apart _ F.UPD_RESULT_CODE F.UPD_RESULT_REGION _ rfl updCode_inWord updRegion_inWord
        (.inl (by decide)),
      State.getF_setF_same _ _ _ updRegion_inWord]
    exact Nat.mod_eq_of_lt hr
  case code =>
    rw [State.getF_setF_same _ _ _ updCode_inWord]
    exact Nat.mod_eq_of_lt c.code_lt

theorem State.updDone_updResult (s : State) (op r : Nat) (c : UpdCode) :
    (s.updResult op r c).getF F.UPD_RESULT_DONE = 1 := State.getF_setF_same _ _ _ updDone_inWord

theorem State.alters_updResult (s : State) (op r : Nat) (c : UpdCode) :
    s.alters (s.updResult op r c) [F.UPD_RESULT_DONE.addr] [.regs] :=
  ((((s.alters_setF F.UPD_RESULT_LAST_OP op).trans (alters_setF _ F.UPD_RESULT_REGION r)).trans
    (alters_setF _ F.UPD_RESULT_CODE c.code)).trans (alters_setF _ F.UPD_RESULT_NEXT_BLOCK 0)).trans
    (alters_setF _ F.UPD_RESULT_DONE 1) |>.mono (by decide) (by decide)

theorem State.updResult_upd (s : State) (op r : Nat) (c : UpdCode) : (s.updResult op r c).upd = s.upd :=
  (s.alters_updResult op r c).keeps .upd (by simp)

/-- The answer comes after the event. -/
theorem State.raised.updResult {s t : State} {code source : Nat} {payload : List Nat}
    (h : s.raised t code source payload) (op r : Nat) (c : UpdCode) :
    s.raised (t.updResult op r c) code source payload :=
  ((t.alters_updResult op r c).keeps .evr (by simp)).trans h

/-! ### A command that only answers -/

/-- The command answers a code in UPD_RESULT and changes nothing else. -/
def State.updOnlyAnswers (s : State) (i : Instr) (op r code : Nat) : Prop :=
  ∃ t, exec i s = .next t ∧ t.updAnswers op r code ∧ s.regsBut t [F.UPD_RESULT_DONE.addr] ∧ s.keeps t [.regs]

theorem State.updOnlyAnswers_of_updResult {s : State} {i : Instr} {op r : Nat} {c : UpdCode} (hop : op < 8) (hr : r < 4)
    (hi : exec i s = .next (s.updResult op r c)) : s.updOnlyAnswers i op r c.code :=
  ⟨_, hi, s.updAnswers_updResult c hop hr, s.alters_updResult op r c⟩

/-- A command of a region, where the requester's write reaches the command register. -/
theorem State.command_updOn {s : State} {req : Requester} {f : Fld} (hs : s.served req f.addr) {r : BitVec 2}
    (hr : r ≠ 3#2) (g : State → Nat → State) : s.command req f (s.updOn r g) = .next (g s r.toNat) := by
  rw [State.command_of_served hs, State.updOn, if_neg hr]

/-! ### STATE of a region -/

theorem regionState_inWord (r : Nat) : (F.UPD_R_STATE_STATE r).inWord := by simp [Fld.inWord, F.UPD_R_STATE_STATE]

theorem State.region_of_alters {s t : State} {a : List Nat} {l : List Part} (h : s.alters t a l) {q : Nat}
    (hq : (F.UPD_R_STATE_STATE q).addr ∉ a) : t.region q = s.region q := h.getF hq

theorem State.region_setRegion_same (s : State) (r : Nat) {st : Nat} (hst : st < 8) :
    (s.setRegion r st).region r = st := by
  rw [State.region, State.setRegion, State.getF_setF_same _ _ _ (regionState_inWord r)]
  exact Nat.mod_eq_of_lt hst

/-- STATE is not touched by a write of another field of its register. -/
theorem State.region_setF_apart (s : State) (r : Nat) (f : Fld) (v : Nat) (ha : f.addr = (F.UPD_R_STATE_STATE r).addr)
    (hf : f.inWord) (hhi : f.hi < 29) : (s.setF f v).region r = s.region r :=
  s.getF_setF_apart _ _ v ha.symm hf (regionState_inWord r) (.inl hhi)

theorem State.region_showBlocks (s : State) (r : Nat) : (s.showBlocks r).region r = s.region r := by
  have hblocks : (F.UPD_R_STATE_BLOCKS r).inWord := by simp [Fld.inWord, F.UPD_R_STATE_BLOCKS]
  have hnext : (F.UPD_R_STATE_NEXT_BLOCK r).inWord := by simp [Fld.inWord, F.UPD_R_STATE_NEXT_BLOCK]
  rw [State.showBlocks, State.region_setF_apart _ r (F.UPD_R_STATE_NEXT_BLOCK r) _ rfl hnext (by decide : 9 < 29),
    State.region_setF_apart _ r (F.UPD_R_STATE_BLOCKS r) _ rfl hblocks (by decide : 25 < 29)]

theorem State.alters_showBlocks (s : State) (r : Nat) :
    s.alters (s.showBlocks r) [(F.UPD_R_STATE_STATE r).addr] [.regs] :=
  (s.alters_setF (F.UPD_R_STATE_BLOCKS r) _).trans (alters_setF _ (F.UPD_R_STATE_NEXT_BLOCK r) _) |>.mono
    (by simp [F.UPD_R_STATE_BLOCKS, F.UPD_R_STATE_NEXT_BLOCK, F.UPD_R_STATE_STATE]) (by decide)

/-! ### The firmware journal and the trigger of a region -/

theorem State.alters_writeFw (s : State) (x : FwRoles) :
    s.alters (s.writeFw x) [F.UPD_FW_JOURNAL.addr] [.regs, .mem] :=
  (s.alters_wrBytes _ _).trans (alters_setF _ F.UPD_FW_JOURNAL _) |>.mono (by simp) (by simp)

theorem State.alters_regionDisarm (s : State) (r : Nat) :
    s.alters (s.regionDisarm r) [(F.PTP_TRIG_CTRL_ARMED r).addr] [.regs] :=
  .ite _ (s.alters_setF _ _) (s.alters_refl _ _)

theorem trigArmed_inWord (r : Nat) : (F.PTP_TRIG_CTRL_ARMED r).inWord := by simp [Fld.inWord, F.PTP_TRIG_CTRL_ARMED]

theorem State.trigArmed_regionDisarm (s : State) (r : Nat) : (s.regionDisarm r).getF (F.PTP_TRIG_CTRL_ARMED r) =
    if s.region r = 5 then 0 else s.getF (F.PTP_TRIG_CTRL_ARMED r) := by
  rw [State.regionDisarm, show rgArmed = 5 from rfl]
  split_ifs
  · exact State.getF_setF_same _ _ _ (trigArmed_inWord r)
  · rfl

/-! ### The bitmap -/

theorem Store.find?_filter_none {α : Type} (p : Nat × α → Bool) (m : Store α) (j : Nat) (h : ∀ v, p (j, v) = false) :
    Store.find? (m.filter p) j = none := by
  induction m with
  | nil => rfl
  | cons c m ih =>
    obtain ⟨k, v⟩ := c
    by_cases hk : k = j
    · subst hk
      simpa [List.filter_cons, h v] using ih
    · cases hp : p (k, v) <;> simp [hp, Store.find?, hk, ih]

theorem State.alters_clearBitmap (s : State) (r : Nat) : s.alters (s.clearBitmap r) [] [.upd] := s.alters_upd _

/-- No block of a region is marked once the region's bitmap is cleared. -/
theorem State.blockDone_of_cleared {t : State} {m : Store Bool} {r k : Nat}
    (h : t.upd.bitmap = m.filter (fun b => b.1 / 1024 != r)) (hk : k < 1024) : t.blockDone r k = false := by
  have hr : (1024 * r + k) / 1024 = r := by omega
  rw [State.blockDone, h, Store.get, Store.find?_filter_none _ _ _ (fun _ => by simp [hr])]
  rfl

end Sys2Proof.Machine
end

section
/-!
PROOFS. BEGIN, RESUME, FINISH and UPD_CANCEL of an update region (R423, R424, R427, R428).
-/

namespace Sys2Proof.Machine

/-! ### BEGIN -/

/-- A station state in which BEGIN is accepted (R424). -/
def State.updAllowed (s : State) : Prop := s.station = .stop ∨ s.station = .unpatterned ∨ s.operating = true

/-- An update runs in the region, or its on-line change is open. -/
def State.updBusy (s : State) (r : Nat) : Prop := (s.region r ≠ 0 ∧ s.region r ≠ 7) ∨ (r = 1 ∧ s.olcOpen = true)

/-- A length that an image of the region may have. -/
def updFits (r len : Nat) : Prop := len ≠ 0 ∧ len % 64 = 0 ∧ len ≤ updSlotSize r

theorem State.updAllowed_iff (s : State) :
    s.updAllowed ↔ (s.station == .stop || s.station == .unpatterned || s.operating) = true := by
  simp [State.updAllowed, or_assoc]

theorem State.updBusy_iff (s : State) (r : Nat) :
    s.updBusy r ↔ (s.updRunning r || (r == 1 && s.olcOpen)) = true := by
  simp [State.updBusy, State.updRunning, rgIdle, rgFailed]

section
variable {s : State} {r : Nat}

theorem State.updBegin_not_allowed (ha : ¬s.updAllowed) : s.updBegin r = s.updResult 1 r .state := by
  rw [State.updAllowed_iff, Bool.not_eq_true] at ha
  simp [State.updBegin, ha]

theorem State.updBegin_busy (ha : s.updAllowed) (hb : s.updBusy r) : s.updBegin r = s.updResult 1 r .busy := by
  rw [State.updAllowed_iff] at ha
  rw [State.updBusy_iff] at hb
  simp only [State.updBegin, ha, hb, Bool.not_true, Bool.false_eq_true, if_false, if_true]

theorem State.updBegin_free (ha : s.updAllowed) (hb : ¬s.updBusy r) : s.updBegin r =
    if s.getF F.UPD_LEN_LENGTH = 0 ∨ s.getF F.UPD_LEN_LENGTH % 64 ≠ 0 ∨ updSlotSize r < s.getF F.UPD_LEN_LENGTH
    then s.updResult 1 r .length else (s.updOpen r (s.getF F.UPD_LEN_LENGTH)).updResult 1 r .ok := by
  rw [State.updAllowed_iff] at ha
  rw [State.updBusy_iff, Bool.not_eq_true] at hb
  simp only [State.updBegin, ha, hb, Bool.not_true, Bool.false_eq_true, if_false]

theorem State.updBegin_not_fits (ha : s.updAllowed) (hb : ¬s.updBusy r) (hf : ¬updFits r (s.getF F.UPD_LEN_LENGTH)) :
    s.updBegin r = s.updResult 1 r .length := by
  rw [State.updBegin_free ha hb, if_pos]
  unfold updFits at hf
  omega

theorem State.updBegin_accepted (ha : s.updAllowed) (hb : ¬s.updBusy r) (hf : updFits r (s.getF F.UPD_LEN_LENGTH)) :
    s.updBegin r = (s.updOpen r (s.getF F.UPD_LEN_LENGTH)).updResult 1 r .ok := by
  rw [State.updBegin_free ha hb, if_neg]
  unfold updFits at hf
  omega

end

/-- BEGIN marks the firmware slot as not bootable. -/
def State.updMarkFw (s : State) (r target : Nat) : State :=
  if r = 0 then s.writeFw (s.fw.setBootable target false) else s

/-- BEGIN marks the shadow slot as being written, with the length of its container. -/
def State.updMarkShadow (s : State) (r target len : Nat) : State :=
  if r = 1 then
    { s.setF F.PAT_STATE_SHADOW_STATE shWriting with
      pat := { s.pat with slotLen := Store.set (fun _ => 0) s.pat.slotLen target len } }
  else s

def State.updMarkTarget (s : State) (r len : Nat) : State :=
  (s.updMarkFw r (s.newTarget r)).updMarkShadow r (s.newTarget r) len

/-- BEGIN notes the length and the target, with no block. -/
def State.updNote (s : State) (r len target : Nat) : State :=
  let s := s.clearBitmap r
  { s with upd := { s.upd with
    length := Store.set (fun _ => 0) s.upd.length r len
    target := Store.set (fun _ => 0) s.upd.target r target } }

/-- The region as BEGIN shows it. -/
def State.updShowBegun (s : State) (r : Nat) : State :=
  ((s.setRegion r rgReceiving).setF (F.UPD_R_ERR_BAD_BLOCKS r) 0).showBlocks r

/-- The three stages of BEGIN before its event. -/
def State.updBegun (s : State) (r len : Nat) : State :=
  ((s.updMarkTarget r len).updNote r len (s.newTarget r)).updShowBegun r

theorem State.updOpen_eq (s : State) (r len : Nat) : s.updOpen r len =
    (s.updBegun r len).raise Ev.UPD_BEGIN srcUpdate [r, (s.updBegun r len).updBlocks r] := rfl

theorem State.alters_updMarkFw (s : State) (r target : Nat) :
    s.alters (s.updMarkFw r target) [F.UPD_FW_JOURNAL.addr] [.regs, .mem] := by
  unfold State.updMarkFw
  exact .ite _ (s.alters_writeFw _) (s.alters_refl _ _)

theorem State.alters_updMarkShadow (s : State) (r target len : Nat) :
    s.alters (s.updMarkShadow r target len) [F.PAT_STATE_SHADOW_STATE.addr] [.regs, .pat] := by
  unfold State.updMarkShadow
  exact .ite _ ((s.alters_setF F.PAT_STATE_SHADOW_STATE shWriting).trans (alters_pat _ _) |>.mono (by simp) (by simp))
    (s.alters_refl _ _)

theorem State.alters_updMarkTarget (s : State) (r len : Nat) : s.alters (s.updMarkTarget r len)
    [F.UPD_FW_JOURNAL.addr, F.PAT_STATE_SHADOW_STATE.addr] [.regs, .mem, .pat] :=
  (s.alters_updMarkFw r _).trans (alters_updMarkShadow _ r _ len) |>.mono (by simp) (by simp)

theorem State.updMarkShadow_active (s : State) (r target len : Nat) :
    (s.updMarkShadow r target len).pat.active = s.pat.active := by
  unfold State.updMarkShadow
  split_ifs <;> simp

theorem State.updMarkTarget_active (s : State) (r len : Nat) :
    (s.updMarkTarget r len).pat.active = s.pat.active := by
  rw [State.updMarkTarget, State.updMarkShadow_active, (s.alters_updMarkFw r _).keeps .pat (by simp)]

theorem State.alters_updShowBegun (s : State) (r : Nat) : s.alters (s.updShowBegun r)
    [(F.UPD_R_STATE_STATE r).addr, (F.UPD_R_ERR_BAD_BLOCKS r).addr] [.regs] :=
  ((s.alters_setF (F.UPD_R_STATE_STATE r) rgReceiving).trans (alters_setF _ (F.UPD_R_ERR_BAD_BLOCKS r) 0)).trans
    (alters_showBlocks _ r) |>.mono (by simp) (by simp)

theorem State.alters_updBegun (s : State) (r len : Nat) : s.alters (s.updBegun r len)
    [F.UPD_FW_JOURNAL.addr, F.PAT_STATE_SHADOW_STATE.addr, (F.UPD_R_STATE_STATE r).addr,
      (F.UPD_R_ERR_BAD_BLOCKS r).addr] [.regs, .mem, .pat, .upd] :=
  ((s.alters_updMarkTarget r len).trans (alters_upd _ _)).trans (alters_updShowBegun _ r) |>.mono (by simp) (by simp)

theorem State.alters_updOpen (s : State) (r len : Nat) : s.alters (s.updOpen r len)
    [F.UPD_FW_JOURNAL.addr, F.PAT_STATE_SHADOW_STATE.addr, (F.UPD_R_STATE_STATE r).addr,
      (F.UPD_R_ERR_BAD_BLOCKS r).addr, F.EVR_STATUS_STAGED.addr] [.regs, .mem, .pat, .upd, .evr] :=
  (s.alters_updBegun r len).trans (alters_raise _ _ _ _) |>.mono (by simp) (by simp)

theorem State.updOpen_upd (s : State) (r len : Nat) : (s.updOpen r len).upd = { s.upd with
    bitmap := s.upd.bitmap.filter (fun b => b.1 / 1024 != r)
    length := Store.set (fun _ => 0) s.upd.length r len
    target := Store.set (fun _ => 0) s.upd.target r (s.newTarget r) } := by
  have hmark : (s.updMarkTarget r len).upd = s.upd := (s.alters_updMarkTarget r len).keeps .upd (by simp)
  have hnote : (s.updBegun r len).upd = ((s.updMarkTarget r len).updNote r len (s.newTarget r)).upd := rfl
  rw [State.updOpen_eq, State.raise_upd, hnote]
  simp only [State.updNote, State.clearBitmap, hmark]

theorem State.region_updShowBegun (s : State) (r : Nat) : (s.updShowBegun r).region r = 1 := by
  rw [State.updShowBegun, State.region_showBlocks,
    State.region_of_alters (alters_setF _ (F.UPD_R_ERR_BAD_BLOCKS r) 0)
      (by simp [F.UPD_R_STATE_STATE, F.UPD_R_ERR_BAD_BLOCKS])]
  exact s.region_setRegion_same r (by decide)

theorem updBadBlocks_inWord (r : Nat) : (F.UPD_R_ERR_BAD_BLOCKS r).inWord := by
  simp [Fld.inWord, F.UPD_R_ERR_BAD_BLOCKS]

theorem State.badBlocks_updShowBegun (s : State) (r : Nat) :
    (s.updShowBegun r).getF (F.UPD_R_ERR_BAD_BLOCKS r) = 0 := by
  rw [State.updShowBegun, (alters_showBlocks _ r).getF (by simp [F.UPD_R_STATE_STATE, F.UPD_R_ERR_BAD_BLOCKS]),
    State.getF_setF_same _ _ _ (updBadBlocks_inWord r), Nat.zero_mod]

/-- The event and the answer of BEGIN leave every register below UPD_RESULT's as the region shows it. -/
theorem State.getF_updOpen_updResult (s : State) (r len op : Nat) (c : UpdCode) {f : Fld}
    (hf : F.UPD_RESULT_DONE.addr < f.addr) :
    ((s.updOpen r len).updResult op r c).getF f = (s.updBegun r len).getF f := by
  simp only [F.UPD_RESULT_DONE] at hf
  exact (((s.updBegun r len).alters_raise _ _ _).trans (alters_updResult _ op r c)).getF
    (by simp only [F.EVR_STATUS_STAGED, F.UPD_RESULT_DONE, List.mem_append, List.mem_singleton]; omega)

theorem State.raised_updOpen (s : State) (r len : Nat) :
    s.raised (s.updOpen r len) Ev.UPD_BEGIN srcUpdate [r, ceilDiv len 65536] := by
  have hblocks : (s.updBegun r len).updBlocks r = ceilDiv len 65536 :=
    congrArg (ceilDiv · 65536) (Store.get_set_same (fun _ => 0) _ r len)
  rw [State.updOpen_eq, hblocks]
  exact State.raise_evr_congr ((s.alters_updBegun r len).keeps .evr (by simp)) (s.updMarkTarget_active r len) _ _ _

/-- What BEGIN brings about once it is accepted (R424). -/
theorem State.updOpen_spec (s : State) (n len : Nat) (hn : n < 3) :
    let t := (s.updOpen n len).updResult 1 n .ok
    t.region n = 1 ∧ t.updLength n = len ∧ t.updTarget n = s.newTarget n ∧
      (∀ k, k < 1024 → t.blockDone n k = false) ∧ t.getF (F.UPD_R_ERR_BAD_BLOCKS n) = 0 ∧ t.updAnswers 1 n 0 ∧
      s.raised t 0x00C0 0xB000 [n, (len + 65535) / 65536] ∧
      (∀ q, q ≠ n → q < 3 → t.region q = s.region q ∧ t.updLength q = s.updLength q) ∧
      s.keeps t [.regs, .mem, .pat, .upd, .evr] := by
  intro t
  have hupd := (State.updResult_upd (s.updOpen n len) 1 n .ok).trans (s.updOpen_upd n len)
  have hall := (s.alters_updOpen n len).trans (alters_updResult _ 1 n .ok)
  refine ⟨?_, ?_, ?_, fun k hk => State.blockDone_of_cleared (congrArg Update.bitmap hupd) hk, ?_,
    State.updAnswers_updResult _ .ok (by decide) (by omega), (s.raised_updOpen n len).updResult 1 n .ok,
    fun q hq _ => ⟨?_, ?_⟩, hall.keeps.mono (by simp)⟩
  · exact (s.getF_updOpen_updResult n len 1 .ok (by simp [F.UPD_R_STATE_STATE, F.UPD_RESULT_DONE]; omega)).trans
      (State.region_updShowBegun _ n)
  · rw [State.updLength, hupd, Store.get_set_same]
  · rw [State.updTarget, hupd, Store.get_set_same]
  · exact (s.getF_updOpen_updResult n len 1 .ok (by simp [F.UPD_R_ERR_BAD_BLOCKS, F.UPD_RESULT_DONE]; omega)).trans
      (State.badBlocks_updShowBegun _ n)
  · refine State.region_of_alters hall ?_
    simp [F.UPD_R_STATE_STATE, F.UPD_R_ERR_BAD_BLOCKS, F.UPD_RESULT_DONE, F.UPD_FW_JOURNAL, F.PAT_STATE_SHADOW_STATE,
      F.EVR_STATUS_STAGED]
    omega
  · rw [State.updLength, hupd, Store.get_set_ne _ _ _ _ _ hq, State.updLength]

end Sys2Proof.Machine
end

section
/-!
PROOFS. RESUME, FINISH, UPD_CANCEL and the end of the whole-image check (R424, R427, R428).
-/

namespace Sys2Proof.Machine

/-! ### RESUME -/

section
variable {s : State} {r : Nat}

theorem State.updResume_receiving (h : s.region r = 1) :
    s.updResume r = (s.updResult 2 r .ok).setF F.UPD_RESULT_NEXT_BLOCK (s.nextBlock r) := if_pos h

theorem State.updResume_refused (h : s.region r ≠ 1) : s.updResume r = s.updResult 2 r .state := if_neg h

end

/-- RESUME in RECEIVING answers the next block that is missing. -/
theorem State.updResume_spec {s : State} {n : Nat} {i : Instr} (hn : n < 3) (hi : exec i s = .next (s.updResume n)) :
    ∃ t, exec i s = .next t ∧ t.updAnswers 2 n (if s.region n = 1 then 0 else 1) ∧
      (s.region n = 1 → t.getF F.UPD_RESULT_NEXT_BLOCK = s.nextBlock n % 1024) ∧
      s.regsBut t [F.UPD_RESULT_DONE.addr] ∧ s.keeps t [.regs] := by
  by_cases h : s.region n = 1
  · rw [State.updResume_receiving h] at hi
    rw [if_pos h]
    have hall := (s.alters_updResult 2 n .ok).trans (alters_setF _ F.UPD_RESULT_NEXT_BLOCK (s.nextBlock n))
    exact ⟨_, hi, (State.updAnswers_updResult s .ok (by decide) (by omega)).setF _ _ (.inr rfl),
      fun _ => State.getF_setF_same _ _ _ updNextBlock_inWord, hall.mono (by decide) (by decide)⟩
  · rw [State.updResume_refused h] at hi
    rw [if_neg h]
    obtain ⟨t, ht, hans, honly⟩ := State.updOnlyAnswers_of_updResult (by decide) (by omega) hi
    exact ⟨t, ht, hans, fun h1 => absurd h1 h, honly⟩

/-! ### FINISH -/

section
variable {s : State} {r : Nat}

theorem State.updFinish_incomplete (h : s.region r = 0 ∨ s.nextBlock r < s.updBlocks r) :
    s.updFinish r = s.updResult 3 r .incomplete := if_pos h

theorem State.updFinish_complete (h0 : s.region r ≠ 0) (hb : s.updBlocks r ≤ s.nextBlock r) : s.updFinish r =
    if s.region r = 6 ∨ (r = 1 ∧ s.olcOpen = true) then s.updResult 3 r .busy
    else if r = 1 then ((s.regionDisarm r).setShadow shWritten rgReceived).updResult 3 r .ok
    else (((s.regionDisarm r).setRegion r rgVerifying).updResult 3 r .ok).setF F.UPD_RESULT_DONE 0 :=
  if_neg (not_or.2 ⟨h0, Nat.not_lt.2 hb⟩)

end

/-- FINISH ends at once for the pattern region; for the others the whole-image check begins (log 101). -/
theorem State.updFinish_spec {s : State} {n : Nat} (hn : n < 3) (h0 : s.region n ≠ 0)
    (hb : s.updBlocks n ≤ s.nextBlock n) (h6 : s.region n ≠ 6) (holc : ¬(n = 1 ∧ s.olcOpen = true)) :
    let t := s.updFinish n
    t.updAnswers 3 n 0 ∧ t.region n = (if n = 1 then 2 else 3) ∧ t.getF F.UPD_RESULT_DONE = (if n = 1 then 1 else 0) ∧
      t.getF (F.PTP_TRIG_CTRL_ARMED n) = (if s.region n = 5 then 0 else s.getF (F.PTP_TRIG_CTRL_ARMED n)) ∧
      s.keeps t [.regs] := by
  rw [State.updFinish_complete h0 hb, if_neg (not_or.2 ⟨h6, holc⟩), ← s.trigArmed_regionDisarm n]
  have hdis := s.alters_regionDisarm n
  generalize s.regionDisarm n = d at hdis
  by_cases h1 : n = 1
  · subst h1
    have hset := (d.alters_setF F.PAT_STATE_SHADOW_STATE shWritten).trans
      (alters_setF _ (F.UPD_R_STATE_STATE 1) rgReceived)
    have hres := State.alters_updResult (d.setShadow shWritten rgReceived) 3 1 .ok
    simp only [if_true]
    refine ⟨State.updAnswers_updResult _ .ok (by decide) (by decide), ?_, State.updDone_updResult _ 3 1 .ok,
      (hset.trans hres).getF (by decide), (hdis.trans (hset.trans hres)).keeps.mono (by decide)⟩
    exact (State.region_of_alters hres (by decide)).trans (State.region_setRegion_same _ 1 (by decide))
  · have hset := d.alters_setF (F.UPD_R_STATE_STATE n) rgVerifying
    have hres := (State.alters_updResult (d.setRegion n rgVerifying) 3 n .ok).trans
      (alters_setF _ F.UPD_RESULT_DONE 0)
    simp only [if_neg h1]
    refine ⟨(State.updAnswers_updResult _ .ok (by decide) (by omega)).setF _ _ (.inl rfl), ?_,
      State.getF_setF_same _ _ _ updDone_inWord, (hset.trans hres).getF ?_,
      (hdis.trans (hset.trans hres)).keeps.mono (by simp)⟩
    · refine (State.region_of_alters hres ?_).trans (State.region_setRegion_same _ n (by decide))
      simp [F.UPD_R_STATE_STATE, F.UPD_RESULT_DONE]
      omega
    · simp [F.UPD_R_STATE_STATE, F.UPD_RESULT_DONE, F.PTP_TRIG_CTRL_ARMED]
      omega

/-! ### UPD_CANCEL -/

section
variable {s : State} {r : Nat}

theorem State.updCancel_idle (h : s.region r = 0) : s.updCancel r = s.updResult 7 r .state := if_pos h

theorem State.updCancel_busy (h : s.region r = 3 ∨ s.region r = 6 ∨ (r = 1 ∧ s.region r ≠ 0 ∧ s.olcOpen = true)) :
    s.updCancel r = s.updResult 7 r .busy := by
  have h0 : s.region r ≠ 0 := by omega
  have hb : s.region r = 3 ∨ s.region r = 6 ∨ (r = 1 ∧ s.olcOpen = true) := by tauto
  exact (if_neg h0).trans (if_pos hb)

end

/-- UPD_CANCEL drops what the region has received: its trigger, its marks, the firmware slot's bootable mark. -/
def State.updDrop (s : State) (r : Nat) : State :=
  let s := (s.regionDisarm r).clearBitmap r
  if r = 0 then s.writeFw (s.fw.setBootable (s.updTarget 0) false) else s

/-- The region is idle, with an empty shadow slot if it is the pattern region. -/
def State.regionIdle (s : State) (r : Nat) : State := if r = 1 then s.shadowGone else s.setRegion r rgIdle

/-- UPD_CANCEL before its event. -/
def State.updCancelled (s : State) (r : Nat) : State :=
  let s := s.updDrop r
  (({ s with upd := { s.upd with length := Store.set (fun _ => 0) s.upd.length r 0 } }).regionIdle r).showBlocks r

theorem State.updCancel_accepted {s : State} {r : Nat} (h0 : s.region r ≠ 0) (h3 : s.region r ≠ 3)
    (h6 : s.region r ≠ 6) (holc : ¬(r = 1 ∧ s.olcOpen = true)) : s.updCancel r =
    ((s.updCancelled r).raise Ev.UPD_CANCELLED srcUpdate [r, s.region r]).updResult 7 r .ok :=
  (if_neg h0).trans (if_neg (by rw [not_or, not_or]; exact ⟨h3, h6, holc⟩))

theorem State.alters_updDrop (s : State) (r : Nat) : s.alters (s.updDrop r)
    [(F.PTP_TRIG_CTRL_ARMED r).addr, F.UPD_FW_JOURNAL.addr] [.regs, .mem, .upd] := by
  have hclear := (s.alters_regionDisarm r).trans (alters_clearBitmap _ r)
  unfold State.updDrop
  exact .ite _ (hclear.trans (alters_writeFw _ _) |>.mono (by simp) (by simp)) (hclear.mono (by simp) (by simp))

theorem State.updDrop_upd (s : State) (r : Nat) :
    (s.updDrop r).upd = { s.upd with bitmap := s.upd.bitmap.filter (fun b => b.1 / 1024 != r) } := by
  have hdis : (s.regionDisarm r).upd = s.upd := (s.alters_regionDisarm r).keeps .upd (by simp)
  have hclear : ((s.regionDisarm r).clearBitmap r).upd =
      { s.upd with bitmap := s.upd.bitmap.filter (fun b => b.1 / 1024 != r) } := by
    simp only [State.clearBitmap, hdis]
  unfold State.updDrop
  split_ifs
  · exact ((alters_writeFw _ _).keeps .upd (by simp)).trans hclear
  · exact hclear

theorem State.alters_shadowGone (s : State) :
    s.alters s.shadowGone [F.PAT_STATE_SHADOW_STATE.addr, (F.UPD_R_STATE_STATE 1).addr] [.regs] :=
  ((s.alters_setF F.PAT_STATE_SHADOW_STATE shEmpty).trans (alters_setF _ (F.UPD_R_STATE_STATE 1) rgIdle)).trans
    (alters_setF _ (F.UPD_R_STATE_POSTPONED 1) 0) |>.mono (by decide) (by decide)

theorem State.region_shadowGone (s : State) : s.shadowGone.region 1 = 0 :=
  (State.region_setF_apart _ 1 (F.UPD_R_STATE_POSTPONED 1) 0 rfl ⟨by decide, by decide⟩ (by decide)).trans
    (State.region_setRegion_same _ 1 (by decide))

theorem State.alters_regionIdle (s : State) (r : Nat) : s.alters (s.regionIdle r)
    [F.PAT_STATE_SHADOW_STATE.addr, (F.UPD_R_STATE_STATE r).addr] [.regs] := by
  unfold State.regionIdle
  split_ifs with h
  · subst h
    exact s.alters_shadowGone
  · exact (s.alters_setF (F.UPD_R_STATE_STATE r) rgIdle).mono (by simp) (by simp)

theorem State.region_regionIdle (s : State) (r : Nat) : (s.regionIdle r).region r = 0 := by
  unfold State.regionIdle
  split_ifs with h
  · subst h
    exact s.region_shadowGone
  · exact s.region_setRegion_same r (by decide)

theorem State.alters_updCancelled (s : State) (r : Nat) : s.alters (s.updCancelled r)
    [(F.PTP_TRIG_CTRL_ARMED r).addr, F.UPD_FW_JOURNAL.addr, F.PAT_STATE_SHADOW_STATE.addr,
      (F.UPD_R_STATE_STATE r).addr] [.regs, .mem, .upd] :=
  (((s.alters_updDrop r).trans (alters_upd _ _)).trans (alters_regionIdle _ r)).trans (alters_showBlocks _ r) |>.mono
    (by simp) (by simp)

theorem State.updCancelled_upd (s : State) (r : Nat) : (s.updCancelled r).upd = { s.upd with
    bitmap := s.upd.bitmap.filter (fun b => b.1 / 1024 != r)
    length := Store.set (fun _ => 0) s.upd.length r 0 } := by
  have hlast := (alters_regionIdle { s.updDrop r with upd := { (s.updDrop r).upd with
    length := Store.set (fun _ => 0) (s.updDrop r).upd.length r 0 } } r).trans (alters_showBlocks _ r)
  exact (hlast.keeps .upd (by simp)).trans (by simp only [s.updDrop_upd r])

theorem State.region_updCancelled (s : State) (r : Nat) : (s.updCancelled r).region r = 0 := by
  rw [State.updCancelled, State.region_showBlocks, State.region_regionIdle]

/-- An event of the update regions and the answer leave STATE as it is. -/
theorem State.region_raise_updResult (s : State) (code source : Nat) (payload : List Nat) (op r : Nat) (c : UpdCode)
    (q : Nat) : ((s.raise code source payload).updResult op r c).region q = s.region q :=
  State.region_of_alters ((s.alters_raise code source payload).trans (alters_updResult _ op r c))
    (by simp [F.UPD_R_STATE_STATE, F.UPD_RESULT_DONE, F.EVR_STATUS_STAGED]; omega)

/-- What UPD_CANCEL brings about once it is accepted (R428). -/
theorem State.updCancel_spec {s : State} {n : Nat} (hn : n < 3) (h0 : s.region n ≠ 0) (h3 : s.region n ≠ 3)
    (h6 : s.region n ≠ 6) (holc : ¬(n = 1 ∧ s.olcOpen = true)) :
    let t := s.updCancel n
    t.updAnswers 7 n 0 ∧ t.region n = 0 ∧ t.updLength n = 0 ∧ (∀ k, k < 1024 → t.blockDone n k = false) ∧
      s.raised t 0x00C4 0xB000 [n, s.region n] ∧ s.keeps t [.regs, .mem, .upd, .evr] := by
  intro t
  have ht : t = _ := State.updCancel_accepted h0 h3 h6 holc
  have hall := s.alters_updCancelled n
  have hend := (alters_raise (s.updCancelled n) Ev.UPD_CANCELLED srcUpdate [n, s.region n]).trans
    (alters_updResult _ 7 n .ok)
  rw [ht]
  have hupd := (hend.keeps .upd (by simp)).trans (s.updCancelled_upd n)
  have hraised := State.raise_evr_congr (hall.keeps .evr (by simp))
    (congrArg PatState.active (hall.keeps .pat (by simp))) Ev.UPD_CANCELLED srcUpdate [n, s.region n]
  refine ⟨State.updAnswers_updResult _ .ok (by decide) (by omega),
    (State.region_raise_updResult _ _ _ _ 7 n .ok n).trans (s.region_updCancelled n), ?_,
    fun k hk => State.blockDone_of_cleared (congrArg Update.bitmap hupd) hk, hraised.updResult 7 n .ok,
    (hall.trans hend).keeps.mono (by simp)⟩
  rw [State.updLength, hupd, Store.get_set_same]

/-! ### The end of the whole-image check -/

theorem State.ownerUse_of_good {s : State} (h : s.ownerBad = false) : s.ownerUse = s := by
  simp [State.ownerUse, h]

/-- The journal says that the firmware slot is bootable, with its SVN, once its image is found good. -/
def State.journalVerified (s : State) (r : Nat) : State :=
  let k := s.updTarget r
  if r = 0 then s.writeFw ((s.fw.setBootable k true).setSvn k (s.fwSlotSvn k)) else s

theorem State.alters_journalVerified (s : State) (r : Nat) :
    s.alters (s.journalVerified r) [F.UPD_FW_JOURNAL.addr] [.regs, .mem] :=
  .ite _ (s.alters_writeFw _) (s.alters_refl _ _)

section
variable {s : State} {r : Nat} (h1 : r ≠ 1) (h3 : s.region r = 3) (ho : s.ownerBad = false)
include h1 h3 ho

theorem State.updVerifyEnd_good (hc : s.imageCheck r = none) : s.updVerifyEnd r =
    (((s.journalVerified r).setRegion r rgVerified).raise Ev.UPD_VERIFIED srcUpdate
      [r, if r = 0 then s.fwSlotSvn (s.updTarget 0) else 0]).updResult 3 r .ok := by
  have hgo : ¬(r = 1 ∨ s.region r ≠ rgVerifying) := by simp [h1, h3, rgVerifying]
  simp only [State.updVerifyEnd, if_neg hgo, State.ownerUse_of_good ho, ite_self, hc, State.journalVerified]
  split_ifs with h0
  · simp only [h0]
  · rfl

theorem State.updVerifyEnd_bad {c : UpdCode} (hc : s.imageCheck r = some c) : s.updVerifyEnd r =
    (((s.setRegion r rgFailed).setF (F.UPD_R_ERR_LAST_CODE r) c.code).raise Ev.UPD_VERIFY_FAILED srcUpdate
      [r, c.code]).updResult 3 r c := by
  have hgo : ¬(r = 1 ∨ s.region r ≠ rgVerifying) := by simp [h1, h3, rgVerifying]
  simp only [State.updVerifyEnd, if_neg hgo, State.ownerUse_of_good ho, ite_self, hc]

end

end Sys2Proof.Machine
end

section
/-!
PROOFS. The outcome of the whole-image check, ARM and DISARM, and the blocks of an update (R425, R427, R429).
-/

namespace Sys2Proof.Machine

/-! ### The outcome of the whole-image check -/

section
variable {s : State} {n : Nat} (hn : n < 3) (h1 : n ≠ 1) (h3 : s.region n = 3) (ho : s.ownerBad = false)
include hn h1 h3 ho

/-- A good image: VERIFIED, with the SVN of firmware in the event. -/
theorem State.updVerifyEnd_spec_good (hc : s.imageCheck n = none) :
    let t := s.updVerifyEnd n
    t.region n = 4 ∧ t.updAnswers 3 n 0 ∧
      s.raised t 0x00C2 0xB000 [n, if n = 0 then s.fwSlotSvn (s.updTarget 0) else 0] ∧
      s.keeps t [.regs, .mem, .evr] := by
  rw [State.updVerifyEnd_good h1 h3 ho hc]
  have hjournal := s.alters_journalVerified n
  have hset := hjournal.trans (alters_setF _ (F.UPD_R_STATE_STATE n) rgVerified)
  refine ⟨(State.region_raise_updResult _ _ _ _ 3 n .ok n).trans (State.region_setRegion_same _ n (by decide)),
    State.updAnswers_updResult _ .ok (by decide) (by omega), State.raised.updResult ?_ 3 n .ok,
    ((hset.trans (alters_raise _ _ _ _)).trans (alters_updResult _ 3 n .ok)).keeps.mono (by simp)⟩
  exact State.raise_evr_congr (hset.keeps .evr (by simp)) (congrArg PatState.active (hset.keeps .pat (by simp))) _ _ _

/-- A bad image: FAILED, with the code in UPD_Rr_ERR, the answer and the event. -/
theorem State.updVerifyEnd_spec_bad {c : UpdCode} (hc : s.imageCheck n = some c) :
    let t := s.updVerifyEnd n
    t.region n = 7 ∧ t.getF (F.UPD_R_ERR_LAST_CODE n) = c.code ∧ t.updAnswers 3 n c.code ∧
      s.raised t 0x00C3 0xB000 [n, c.code] ∧ s.keeps t [.regs, .evr] := by
  have hcode : (F.UPD_R_ERR_LAST_CODE n).inWord := by simp [Fld.inWord, F.UPD_R_ERR_LAST_CODE]
  have hset := (s.alters_setF (F.UPD_R_STATE_STATE n) rgFailed).trans
    (alters_setF _ (F.UPD_R_ERR_LAST_CODE n) c.code)
  have hend := (alters_raise ((s.setRegion n rgFailed).setF (F.UPD_R_ERR_LAST_CODE n) c.code) Ev.UPD_VERIFY_FAILED
    srcUpdate [n, c.code]).trans (alters_updResult _ 3 n c)
  rw [State.updVerifyEnd_bad h1 h3 ho hc]
  refine ⟨?_, ?_, State.updAnswers_updResult _ c (by decide) (by omega), State.raised.updResult ?_ 3 n c,
    (hset.trans hend).keeps.mono (by simp)⟩
  · rw [State.region_raise_updResult, State.region_of_alters (alters_setF _ (F.UPD_R_ERR_LAST_CODE n) c.code)
      (by simp [F.UPD_R_STATE_STATE, F.UPD_R_ERR_LAST_CODE])]
    exact s.region_setRegion_same n (by decide)
  · rw [hend.getF (by simp [F.UPD_R_ERR_LAST_CODE, F.UPD_RESULT_DONE, F.EVR_STATUS_STAGED]; omega),
      State.getF_setF_same _ _ _ hcode]
    exact Nat.mod_eq_of_lt c.code_lt
  · exact State.raise_evr_congr (hset.keeps .evr (by simp)) (congrArg PatState.active (hset.keeps .pat (by simp))) _ _ _

end

/-! ### ARM -/

/-- The time in UPD_AT. -/
def State.updAt (s : State) : Nat := s.getF F.UPD_AT_LO_TIME + 2 ^ 32 * s.getF F.UPD_AT_HI_TIME

/-- A field reads below two to the power of its width. -/
theorem Fld.pick_lt (f : Fld) (w : BitVec 32) (hf : f.inWord) : f.pick w < 2 ^ f.width :=
  Nat.lt_pow_two_of_testBit _ fun i hi => by
    rw [f.pick_testBit w i hf, decide_eq_false (Nat.not_lt.2 hi), Bool.false_and]

theorem State.updAt_lt (s : State) : s.updAt < 2 ^ 64 := by
  have hlo : s.getF F.UPD_AT_LO_TIME < 2 ^ 32 := Fld.pick_lt F.UPD_AT_LO_TIME _ ⟨by decide, by decide⟩
  have hhi : s.getF F.UPD_AT_HI_TIME < 2 ^ 32 := Fld.pick_lt F.UPD_AT_HI_TIME _ ⟨by decide, by decide⟩
  rw [State.updAt]
  omega

section
variable {s : State} {r : Nat}

theorem State.updArm_refused (h : s.region r ≠ 4 ∨ s.updAt < s.nowNs + 10000000) :
    s.updArm r = s.updResult 4 r (if s.region r = 4 then .late else .state) := by
  by_cases h4 : s.region r = 4
  · rw [if_pos h4]
    exact (if_neg (not_not.2 h4)).trans (if_pos (h.resolve_left (not_not.2 h4)))
  · rw [if_neg h4]
    exact if_pos h4

/-- The region's trigger is set to a time, armed, and requires LOCKED. -/
def State.trigArm (s : State) (r time : Nat) : State :=
  (((s.setF (F.PTP_TRIG_LO_TIME r) (lo32 time)).setF (F.PTP_TRIG_HI_TIME r) (hi32 time)).setF
    (F.PTP_TRIG_CTRL_REQ_LOCK r) 1).setF (F.PTP_TRIG_CTRL_ARMED r) 1

theorem State.updArm_accepted (h4 : s.region r = 4) (ht : s.nowNs + 10000000 ≤ s.updAt) : s.updArm r =
    (((s.trigArm r s.updAt).setRegion r rgArmed).raise Ev.UPD_ARMED srcUpdate
      [r, lo32 s.updAt, hi32 s.updAt]).updResult 4 r .ok :=
  (if_neg (not_not.2 h4)).trans (if_neg (Nat.not_lt.2 ht))

end

theorem State.alters_trigArm (s : State) (r time : Nat) : s.alters (s.trigArm r time)
    [(F.PTP_TRIG_LO_TIME r).addr, (F.PTP_TRIG_HI_TIME r).addr, (F.PTP_TRIG_CTRL_ARMED r).addr] [.regs] :=
  (((s.alters_setF (F.PTP_TRIG_LO_TIME r) (lo32 time)).trans (alters_setF _ (F.PTP_TRIG_HI_TIME r) (hi32 time))).trans
    (alters_setF _ (F.PTP_TRIG_CTRL_REQ_LOCK r) 1)).trans (alters_setF _ (F.PTP_TRIG_CTRL_ARMED r) 1) |>.mono
    (by simp [F.PTP_TRIG_CTRL_REQ_LOCK, F.PTP_TRIG_CTRL_ARMED]) (by simp)

theorem State.trigTime_trigArm (s : State) (r : Nat) {time : Nat} (ht : time < 2 ^ 64) :
    (s.trigArm r time).trigTime r = time := by
  have hlo : (F.PTP_TRIG_LO_TIME r).inWord := by simp [Fld.inWord, F.PTP_TRIG_LO_TIME]
  have hhi : (F.PTP_TRIG_HI_TIME r).inWord := by simp [Fld.inWord, F.PTP_TRIG_HI_TIME]
  have hctrl := (alters_setF ((s.setF (F.PTP_TRIG_LO_TIME r) (lo32 time)).setF (F.PTP_TRIG_HI_TIME r) (hi32 time))
    (F.PTP_TRIG_CTRL_REQ_LOCK r) 1).trans (alters_setF _ (F.PTP_TRIG_CTRL_ARMED r) 1)
  rw [State.trigTime, State.trigArm,
    hctrl.getF (by simp [F.PTP_TRIG_HI_TIME, F.PTP_TRIG_CTRL_REQ_LOCK, F.PTP_TRIG_CTRL_ARMED]),
    hctrl.getF (by simp [F.PTP_TRIG_LO_TIME, F.PTP_TRIG_CTRL_REQ_LOCK, F.PTP_TRIG_CTRL_ARMED]),
    State.getF_setF_same _ _ _ hhi, State.getF_setF_ne _ _ _ _ (by simp [F.PTP_TRIG_LO_TIME, F.PTP_TRIG_HI_TIME]),
    State.getF_setF_same _ _ _ hlo]
  change hi32 time % 2 ^ 32 * 2 ^ 32 + lo32 time % 2 ^ 32 = time
  simp only [lo32, hi32]
  omega

theorem State.trigCtrl_trigArm (s : State) (r time : Nat) :
    (s.trigArm r time).getF (F.PTP_TRIG_CTRL_ARMED r) = 1 ∧
      (s.trigArm r time).getF (F.PTP_TRIG_CTRL_REQ_LOCK r) = 1 := by
  have hlock : (F.PTP_TRIG_CTRL_REQ_LOCK r).inWord := by simp [Fld.inWord, F.PTP_TRIG_CTRL_REQ_LOCK]
  constructor
  · exact State.getF_setF_same _ _ _ (trigArmed_inWord r)
  · rw [State.trigArm, State.getF_setF_apart _ (F.PTP_TRIG_CTRL_ARMED r) (F.PTP_TRIG_CTRL_REQ_LOCK r) 1 rfl
      (trigArmed_inWord r) hlock (.inr (by decide : 30 < 31))]
    exact State.getF_setF_same _ _ _ hlock

/-- What ARM brings about once it is accepted (R429). -/
theorem State.updArm_spec {s : State} {n : Nat} (hn : n < 3) (h4 : s.region n = 4)
    (ht : s.nowNs + 10000000 ≤ s.updAt) :
    let t := s.updArm n
    t.updAnswers 4 n 0 ∧ t.region n = 5 ∧ t.trigTime n = s.updAt ∧ t.getF (F.PTP_TRIG_CTRL_ARMED n) = 1 ∧
      t.getF (F.PTP_TRIG_CTRL_REQ_LOCK n) = 1 ∧
      s.raised t 0x00C5 0xB000 [n, s.updAt % 2 ^ 32, s.updAt / 2 ^ 32 % 2 ^ 32] ∧ s.keeps t [.regs, .evr] := by
  rw [State.updArm_accepted h4 ht]
  have harm := s.alters_trigArm n s.updAt
  obtain ⟨harmed, hlock⟩ := s.trigCtrl_trigArm n s.updAt
  have htime := s.trigTime_trigArm n s.updAt_lt
  generalize s.trigArm n s.updAt = a at harm harmed hlock htime
  have hset := a.alters_setF (F.UPD_R_STATE_STATE n) rgArmed
  have hend := (alters_raise (a.setRegion n rgArmed) Ev.UPD_ARMED srcUpdate [n, lo32 s.updAt, hi32 s.updAt]).trans
    (alters_updResult _ 4 n .ok)
  have trig (f : Fld) (hlo : 0x000C8100 ≤ f.addr) (hhi : f.addr < 0x000C8130) :=
    (hset.trans hend).getF (f := f)
      (by simp [F.UPD_R_STATE_STATE, F.UPD_RESULT_DONE, F.EVR_STATUS_STAGED]; omega)
  refine ⟨State.updAnswers_updResult _ .ok (by decide) (by omega),
    (State.region_raise_updResult _ _ _ _ 4 n .ok n).trans (State.region_setRegion_same _ n (by decide)), ?_,
    (trig _ ?_ ?_).trans harmed, (trig _ ?_ ?_).trans hlock, State.raised.updResult ?_ 4 n .ok,
    ((harm.trans hset).trans hend).keeps.mono (by simp)⟩
  case refine_1 =>
    have hhi := trig (F.PTP_TRIG_HI_TIME n) (by simp [F.PTP_TRIG_HI_TIME]; omega)
      (by simp [F.PTP_TRIG_HI_TIME]; omega)
    have hlo := trig (F.PTP_TRIG_LO_TIME n) (by simp [F.PTP_TRIG_LO_TIME]) (by simp [F.PTP_TRIG_LO_TIME]; omega)
    exact (congrArg₂ (· * 2 ^ 32 + ·) hhi hlo).trans htime
  case refine_6 =>
    exact State.raise_evr_congr ((harm.trans hset).keeps .evr (by simp))
      (congrArg PatState.active ((harm.trans hset).keeps .pat (by simp))) _ _ _
  all_goals simp [F.PTP_TRIG_CTRL_ARMED, F.PTP_TRIG_CTRL_REQ_LOCK]; omega

/-! ### DISARM -/

section
variable {s : State} {n : Nat}

theorem State.updDisarm_refused (h : s.region n ≠ 5) : s.updDisarm n = s.updResult 5 n .state := if_pos h

theorem State.updDisarm_accepted (h : s.region n = 5) :
    s.updDisarm n = ((s.regionDisarm n).setRegion n rgVerified).updResult 5 n .ok := if_neg (not_not.2 h)

theorem State.updDisarm_spec (hn : n < 3) (h : s.region n = 5) :
    let t := s.updDisarm n
    t.updAnswers 5 n 0 ∧ t.region n = 4 ∧ t.getF (F.PTP_TRIG_CTRL_ARMED n) = 0 ∧ s.keeps t [.regs] := by
  rw [State.updDisarm_accepted h]
  have hset := alters_setF (s.regionDisarm n) (F.UPD_R_STATE_STATE n) rgVerified
  have hres := alters_updResult ((s.regionDisarm n).setRegion n rgVerified) 5 n .ok
  refine ⟨State.updAnswers_updResult _ .ok (by decide) (by omega), ?_, ?_,
    ((s.alters_regionDisarm n).trans (hset.trans hres)).keeps.mono (by simp)⟩
  · refine (State.region_of_alters hres ?_).trans (State.region_setRegion_same _ n (by decide))
    simp [F.UPD_R_STATE_STATE, F.UPD_RESULT_DONE]
    omega
  · rw [(hset.trans hres).getF (by simp [F.UPD_R_STATE_STATE, F.UPD_RESULT_DONE, F.PTP_TRIG_CTRL_ARMED]; omega),
      s.trigArmed_regionDisarm n, if_pos h]

end

end Sys2Proof.Machine
end

section
/-!
PROOFS. The blocks of an update (R425).
-/

namespace Sys2Proof.Machine

/-! ### Programming a block -/

theorem State.alters_answer (s : State) (c : UpdCode) : s.alters (s.answer c) [] [.bus] := s.alters_bus _

theorem State.rdBytes_wrBytes_append (s : State) (a : Nat) (bs cs : Bytes) :
    (s.wrBytes a (bs ++ cs)).rdBytes a bs.length = bs := by
  refine List.ext_getElem (by simp [State.rdBytes]) fun i hi hi' => ?_
  simp only [State.rdBytes, List.getElem_map, List.getElem_range, State.rdByte_wrBytes, List.length_append]
  rw [if_pos (by omega), Nat.add_sub_cancel_left, List.getD_append _ _ _ _ hi', List.getD_eq_getElem _ _ hi']

/-- The 64 KiB at an address hold the block's bytes, and every byte outside them is as it was. -/
def State.blockStored (s t : State) (at0 : Nat) (bytes : Bytes) : Prop :=
  t.rdBytes at0 bytes.length = bytes ∧ ∀ a, a < at0 ∨ at0 + 65536 ≤ a → t.rdByte a = s.rdByte a

theorem State.blockStored.of_mem {s t u : State} {at0 : Nat} {bytes : Bytes} (h : s.blockStored t at0 bytes)
    (hm : ∀ a, u.rdByte a = t.rdByte a) : s.blockStored u at0 bytes := by
  simpa only [State.blockStored, State.rdBytes, hm] using h

theorem State.alters_markFwWritten (s : State) (k : Nat) : s.alters (s.markFwWritten k) [] [.upd] := s.alters_upd _

theorem State.markFwWritten_bitmap (s : State) (k : Nat) : (s.markFwWritten k).upd.bitmap = s.upd.bitmap := rfl

theorem State.alters_programBlock (s : State) (r k : Nat) (bytes : Bytes) :
    s.alters (s.programBlock r k bytes) [] [.mem, .upd] := by
  unfold State.programBlock
  exact (State.alters.ite (r = 0) (s.alters_markFwWritten (s.updTarget r)) (s.alters_refl _ _)).trans
    (alters_wrBytes _ _ _) |>.mono (by simp) (by simp)

theorem State.programBlock_bitmap (s : State) (r k : Nat) (bytes : Bytes) :
    (s.programBlock r k bytes).upd.bitmap = s.upd.bitmap := by
  unfold State.programBlock
  dsimp only
  split_ifs
  · rw [State.wrBytes_upd, State.markFwWritten_bitmap]
  · rw [State.wrBytes_upd]

theorem State.blockStored_programBlock (s : State) (r k : Nat) {bytes : Bytes} (hlen : bytes.length ≤ 65536) :
    s.blockStored (s.programBlock r k bytes) (updSlot r (s.updTarget r) + 65536 * k) bytes := by
  unfold State.programBlock
  refine ⟨State.rdBytes_wrBytes_append _ _ _ _, fun a ha => ?_⟩
  have hmark : (if r = 0 then s.markFwWritten (s.updTarget r) else s).rdByte a = s.rdByte a := by split_ifs <;> rfl
  rw [State.rdByte_wrBytes, if_neg, hmark]
  rw [List.length_append, List.length_replicate]
  omega

/-! ### A block of an update that receives -/

/-- A block is marked as verified. -/
def State.markBlock (s : State) (r k : Nat) : State :=
  { s with upd := { s.upd with bitmap := Store.set (fun _ => false) s.upd.bitmap (1024 * r + k) true } }

/-- A block with a wrong read-back is counted. -/
def State.countBadBlock (s : State) (r : Nat) : State :=
  (s.incSat (F.UPD_R_ERR_BAD_BLOCKS r)).setF (F.UPD_R_ERR_LAST_CODE r) UpdCode.blockCrc.code

theorem State.alters_markBlock (s : State) (r k : Nat) : s.alters (s.markBlock r k) [] [.upd] := s.alters_upd _

theorem State.blockDone_markBlock_same (s : State) (r k : Nat) : (s.markBlock r k).blockDone r k = true :=
  Store.get_set_same (fun _ => false) s.upd.bitmap (1024 * r + k) true

theorem State.blockDone_markBlock_ne (s : State) (r : Nat) {j k : Nat} (h : j ≠ k) :
    (s.markBlock r k).blockDone r j = s.blockDone r j :=
  Store.get_set_ne (fun _ => false) s.upd.bitmap (1024 * r + k) (1024 * r + j) true (by omega)

theorem State.blockDone_congr {s t : State} (h : t.upd.bitmap = s.upd.bitmap) (r k : Nat) :
    t.blockDone r k = s.blockDone r k := by
  rw [State.blockDone, State.blockDone, h]

theorem State.alters_countBadBlock (s : State) (r : Nat) :
    s.alters (s.countBadBlock r) [(F.UPD_R_ERR_BAD_BLOCKS r).addr] [.regs] :=
  (s.alters_setF (F.UPD_R_ERR_BAD_BLOCKS r) _).trans (alters_setF _ (F.UPD_R_ERR_LAST_CODE r) _) |>.mono
    (by simp [F.UPD_R_ERR_BAD_BLOCKS, F.UPD_R_ERR_LAST_CODE]) (by simp)

theorem State.badBlocks_countBadBlock (s : State) (r : Nat) : (s.countBadBlock r).getF (F.UPD_R_ERR_BAD_BLOCKS r) =
    Nat.min 65535 (s.getF (F.UPD_R_ERR_BAD_BLOCKS r) + 1) := by
  have hcode : (F.UPD_R_ERR_LAST_CODE r).inWord := by simp [Fld.inWord, F.UPD_R_ERR_LAST_CODE]
  rw [State.countBadBlock, State.getF_setF_apart _ (F.UPD_R_ERR_LAST_CODE r) (F.UPD_R_ERR_BAD_BLOCKS r) _ rfl hcode
    (updBadBlocks_inWord r) (.inr (by decide : 15 < 24)), State.incSat, State.addSat,
    State.getF_setF_same _ _ _ (updBadBlocks_inWord r)]
  exact Nat.mod_eq_of_lt (Nat.lt_of_le_of_lt (Nat.min_le_left _ _) (by decide : 65535 < 65536))

section
variable {s : State} {n k : Nat} {m got : Bytes} (hn : n < 3) (hr : blkRegion m = n) (hno : blkNo m = k)
  (hst : s.region n = 1) (hk : k < s.updBlocks n) (hlen : blkLen m = s.blockLength n k)
  (hm : m.length = 12 + blkLen m) (hgot : got.length = blkLen m) (hdone : s.blockDone n k = false)
include hn hr hno hst hk hlen hm hgot hdone

theorem State.updBlock_received : s.updBlock m got =
    if (crc32c got).toNat = blkCrc m then (((s.programBlock n k got).markBlock n k).showBlocks n).answer .ok
    else (((s.programBlock n k got).countBadBlock n).raise Ev.UPD_BLOCK_BAD srcUpdate [n, k]).answer .blockCrc := by
  have hregion : ¬(3 ≤ blkRegion m ∨ s.region (blkRegion m) ≠ rgReceiving) := by
    rw [hr, hst, rgReceiving]
    omega
  have hfits : ¬(s.updBlocks (blkRegion m) ≤ blkNo m ∨ blkLen m ≠ s.blockLength (blkRegion m) (blkNo m) ∨
      m.length ≠ 12 + blkLen m) := by
    rw [hr, hno]
    omega
  have htake : got.take (blkLen m) = got := List.take_of_length_le (Nat.le_of_eq hgot)
  have hnot : s.blockDone (blkRegion m) (blkNo m) ≠ true := by simp [hr, hno, hdone]
  rw [State.updBlock, if_neg hregion, if_neg hfits, if_neg hnot]
  simp only [htake, hgot, true_and, hr, hno]
  rfl

theorem State.updBlock_spec_good (hcrc : (crc32c got).toNat = blkCrc m) :
    let t := s.updBlock m got
    s.blockStored t (updSlot n (s.updTarget n) + 65536 * k) got ∧ t.blockDone n k = true ∧
      (∀ j, j ≠ k → j < 1024 → t.blockDone n j = s.blockDone n j) ∧ t.bus.response = 0 ∧
      s.keeps t [.regs, .mem, .upd, .bus] := by
  rw [State.updBlock_received hn hr hno hst hk hlen hm hgot hdone, if_pos hcrc]
  have hprog := s.alters_programBlock n k got
  have hstored := s.blockStored_programBlock n k (bytes := got) (by rw [hgot, hlen]; exact Nat.min_le_left _ _)
  have hbits := s.programBlock_bitmap n k got
  generalize s.programBlock n k got = d at hprog hstored hbits
  have hend := (alters_showBlocks (d.markBlock n k) n).trans (alters_answer _ .ok)
  have hdoneNow := State.blockDone_congr (congrArg Update.bitmap (hend.keeps .upd (by simp))) n
  have hmem := ((d.alters_markBlock n k).trans hend).keeps .mem (by simp)
  refine ⟨hstored.of_mem hmem, ?_, fun j hj _ => ?_, rfl,
    ((hprog.trans (d.alters_markBlock n k)).trans hend).keeps.mono (by simp)⟩
  · exact (hdoneNow k).trans (d.blockDone_markBlock_same n k)
  · exact (hdoneNow j).trans ((d.blockDone_markBlock_ne n hj).trans (State.blockDone_congr hbits n j))

theorem State.updBlock_spec_bad (hcrc : (crc32c got).toNat ≠ blkCrc m) :
    let t := s.updBlock m got
    s.blockStored t (updSlot n (s.updTarget n) + 65536 * k) got ∧ t.blockDone n k = false ∧
      t.getF (F.UPD_R_ERR_BAD_BLOCKS n) = Nat.min 65535 (s.getF (F.UPD_R_ERR_BAD_BLOCKS n) + 1) ∧
      t.bus.response = 13 ∧ s.raised t 0x00C1 0xB000 [n, k] ∧ s.keeps t [.regs, .mem, .upd, .bus, .evr] := by
  rw [State.updBlock_received hn hr hno hst hk hlen hm hgot hdone, if_neg hcrc]
  have hprog := s.alters_programBlock n k got
  have hstored := s.blockStored_programBlock n k (bytes := got) (by rw [hgot, hlen]; exact Nat.min_le_left _ _)
  have hbits := s.programBlock_bitmap n k got
  generalize s.programBlock n k got = d at hprog hstored hbits
  have hcount := d.alters_countBadBlock n
  have hend := (alters_raise (d.countBadBlock n) Ev.UPD_BLOCK_BAD srcUpdate [n, k]).trans (alters_answer _ .blockCrc)
  have hupd := (hcount.trans hend).keeps .upd (by simp)
  refine ⟨hstored.of_mem ((hcount.trans hend).keeps .mem (by simp)), ?_, ?_, rfl, ?_,
    ((hprog.trans hcount).trans hend).keeps.mono (by simp)⟩
  · exact (State.blockDone_congr ((congrArg Update.bitmap hupd).trans hbits) n k).trans hdone
  · rw [hend.getF (by simp [F.UPD_R_ERR_BAD_BLOCKS, F.EVR_STATUS_STAGED]; omega), d.badBlocks_countBadBlock,
      hprog.getF (by simp)]
  · exact State.raise_evr_congr ((hprog.trans hcount).keeps .evr (by simp))
      (congrArg PatState.active ((hprog.trans hcount).keeps .pat (by simp))) Ev.UPD_BLOCK_BAD srcUpdate [n, k]

end

end Sys2Proof.Machine
end

section
/-!
PROOFS. Frames of the commits of the recorder (R358) and of the assets that the panel takes (R367, R430).
-/

namespace Sys2Proof.Machine

/-! ### Commits of the recorder -/

/-- The parts that the commits of staged raises may change: a snapshot's reads latch words, take captures and find ECC
errors. -/
def commitParts : List Part := [.regs, .mem, .bus, .ecc, .evr, .saf, .ptp]

/-- Nothing but what a commit may change differs. -/
abbrev State.commits (s t : State) : Prop := s.keeps t commitParts

section
variable {s t u : State}

theorem State.commits.trans (h : s.commits t) (h' : t.commits u) : s.commits u :=
  (State.keeps.trans h h').mono (by decide)

theorem State.alters.commits {a : List Nat} {l : List Part} (h : s.alters t a l) (hl : l ⊆ commitParts) : s.commits t :=
  h.keeps.mono hl

theorem State.commits.setF (h : s.commits t) (f : Fld) (v : Nat) : s.commits (t.setF f v) :=
  h.trans ((t.alters_setF f v).commits (by decide))

theorem State.commits.raiseCls (h : s.commits t) (code source cls : Nat) (payload : List Nat) :
    s.commits (t.raiseCls code source cls payload) :=
  h.trans ((t.alters_raiseCls code source cls payload).commits (by decide))

theorem State.commits.wrBytes (h : s.commits t) (a : Nat) (bs : Bytes) : s.commits (t.wrBytes a bs) :=
  h.trans ((t.alters_wrBytes a bs).commits (by decide))

theorem State.commits.ite (c : Prop) [Decidable c] (ht : s.commits t) (hu : s.commits u) :
    s.commits (if c then t else u) := by
  split_ifs <;> assumption

end

theorem State.commits_refl (s : State) : s.commits s := s.keeps_refl _

/-- A fold of steps that commit commits; the state is a part of what the fold carries. -/
theorem State.commits_foldl {γ α : Type} (st : γ → State) (f : γ → α → γ) (hf : ∀ x a, (st x).commits (st (f x a)))
    (xs : List α) (x : γ) : (st x).commits (st (xs.foldl f x)) := by
  induction xs generalizing x with
  | nil => exact State.commits_refl _
  | cons a xs ih => exact (hf x a).trans (ih (f x a))

theorem State.commits_moduleWide (s : State) (c : HaltCause) : s.commits (s.moduleWide c) :=
  State.commits.setF ((s.alters_saf _).commits (by decide)) F.SAF_STATUS_MOD_OK _

theorem State.commits_eccCorrected (s : State) (array index : Nat) : s.commits (s.eccCorrected array index) := by
  have hcount := s.commits_refl.setF (F.APC_ECC_ARRAY_CORRECTED array)
  exact .raiseCls (.ite _ ((hcount _).trans ((alters_ecc _ _).commits (by decide))) (.setF (hcount _) _ _)) _ _ _ _

theorem State.commits_eccUncorrectable (s : State) (array index finder : Nat) :
    s.commits (s.eccUncorrectable array index finder) := by
  have hcount := s.commits_refl.setF F.APC_ECC_UE_COUNT
  have hfirst (n : Nat) := ((((hcount n).setF F.APC_ECC_UE_VALID 1).setF F.APC_ECC_UE_FINDER finder).setF
    F.APC_ECC_UE_ARRAY array).setF F.APC_ECC_UE_ADDR_INDEX index
  unfold State.eccUncorrectable
  dsimp only
  split_ifs
  · exact ((hcount _).raiseCls _ _ _ _).trans (commits_moduleWide _ _)
  · exact (hcount _).raiseCls _ _ _ _
  · exact ((hfirst _).raiseCls _ _ _ _).trans (commits_moduleWide _ _)
  · exact (hfirst _).raiseCls _ _ _ _

theorem State.commits_eccReadWord (s : State) (a finder : Nat) : s.commits (s.eccReadWord a finder).2 := by
  unfold State.eccReadWord
  split
  · exact s.commits_refl
  · split
    · exact s.commits_refl
    · exact s.commits_eccCorrected _ _
    · exact s.commits_eccUncorrectable _ _ _

theorem State.commits_eccRead (s : State) (a n finder : Nat) : s.commits (s.eccRead a n finder).2 :=
  State.commits_foldl (γ := Bool × State) Prod.snd _ (fun x _ => by
    split_ifs
    · exact x.2.commits_refl
    · exact x.2.commits_eccReadWord _ _) _ (false, s)

theorem State.commits_captureTake (s : State) (c : Nat) : s.commits (s.captureTake c).2 := by
  unfold State.captureTake
  split
  · exact s.commits_refl
  · exact State.commits.trans (s.commits_refl.setF _ _) ((alters_ptp _ _).commits (by decide))

/-- The part of a bus read that touches the SRAM behind a window. -/
def State.busWindow (s : State) (a : Nat) (v : BitVec 32) : BitVec 32 × State :=
  match windowAt a with
  | some (w, off) =>
    match s.windowPlace w off with
    | some m => (v, (s.eccRead m 4 2).2)
    | none => (v, s)
  | none => (v, s)

theorem State.commits_busWindow (s : State) (a : Nat) (v : BitVec 32) : s.commits (s.busWindow a v).2 := by
  unfold State.busWindow
  split
  · split
    · exact s.commits_eccRead _ _ _
    · exact s.commits_refl
  · exact s.commits_refl

theorem State.commits_busRead (s : State) (a : Nat) : s.commits (s.busRead a).2 := by
  unfold State.busRead
  split_ifs
  · exact s.commits_refl
  · have hlatch (x : Bus) : s.commits { s with bus := x } := (s.alters_bus x).commits (by decide)
    dsimp only
    generalize (latchedBy a).foldl (fun m h => Store.set (fun _ => 0) m h (s.liveWord h)) s.bus.latch = latch
    specialize hlatch { s.bus with latch := latch }
    generalize { s with bus := { s.bus with latch := latch } } = u at hlatch
    cases captureHi a with
    | none => exact hlatch.trans (u.commits_busWindow a _)
    | some c => exact (hlatch.trans (u.commits_captureTake c)).trans (commits_busWindow _ a _)

theorem State.commits_snapRun (s : State) (p : Pattern) (r : Nat × Nat × Nat) : s.commits (s.snapRun p r).2 := by
  obtain ⟨addr, kind, n⟩ := r
  unfold State.snapRun
  dsimp only
  split_ifs
  · exact State.commits_foldl (γ := List (BitVec 32) × State) Prod.snd _ (fun x _ => x.2.commits_busRead _) _ ([], s)
  · split
    · exact s.commits_refl
    · exact s.commits_eccRead _ _ _

theorem State.commits_snapshot (s : State) (code : Nat) : s.commits (s.snapshot code).2 := by
  unfold State.snapshot
  split
  · exact s.commits_refl
  · split
    · exact s.commits_refl
    · refine State.commits_foldl (γ := List (BitVec 32) × State) Prod.snd _ (fun x k => ?_) _ ([], s)
      exact x.2.commits_snapRun _ _

theorem State.commits_raiseNext (s : State) (n : Nat) : s.commits (s.raiseNext n) := by
  have hnext := (s.commits_refl.setF F.EVR_NEXT_LO_NEXT (lo32 n)).setF F.EVR_NEXT_HI_NEXT (hi32 n)
  exact .ite _ (hnext.wrBytes _ _) hnext

theorem State.commits_writeRecord (s : State) (e : Staged) (snap : List (BitVec 32)) :
    s.commits (s.writeRecord e snap) :=
  ((((s.commits_refl.wrBytes _ _).wrBytes _ _).wrBytes _ _).trans (commits_raiseNext _ _)).trans
    ((alters_evr _ _).commits (by decide))

theorem State.commits_unstage (s : State) : s.commits s.unstage :=
  State.commits.setF ((s.alters_evr _).commits (by decide)) _ _

theorem State.commits_commitOne (s : State) : s.commits s.commitOne := by
  unfold State.commitOne
  split
  · exact s.commits_refl
  · split_ifs
    · exact ((s.commits_snapshot _).trans (commits_writeRecord _ _ _)).trans (commits_unstage _)
    · exact s.commits_refl

theorem State.commits_commitAll (s : State) : s.commits s.commitAll :=
  State.commits_foldl id _ (fun t _ => t.commits_commitOne) _ s

/-! ### The assets that the panel takes -/

/-- The registers and parts that the panel changes when it takes assets. -/
abbrev State.panelTakes (s t : State) : Prop :=
  s.alters t [F.PNL_STATUS_STATE.addr, F.EVR_STATUS_STAGED.addr] [.regs, .mem, .ecc, .evr, .pnl, .free]

section
variable {s t u : State}

theorem State.panelTakes.trans (h : s.panelTakes t) (h' : t.panelTakes u) : s.panelTakes u :=
  (State.alters.trans h h').mono (by simp) (by simp)

theorem State.panelTakes.setF (h : s.panelTakes t) (f : Fld) (v : Nat) (hf : f.addr = F.PNL_STATUS_STATE.addr) :
    s.panelTakes (t.setF f v) :=
  h.trans ((t.alters_setF f v).mono (by simp [hf]) (by simp))

theorem State.panelTakes.raise (h : s.panelTakes t) (code source : Nat) (payload : List Nat) :
    s.panelTakes (t.raise code source payload) :=
  h.trans ((t.alters_raise code source payload).mono (by simp) (by simp))

end

theorem State.panelTakes_refl (s : State) : s.panelTakes s := s.alters_refl _ _

theorem State.panelTakes_setPnl (s : State) (x : Panel) : s.panelTakes (s.setPnl x) :=
  (s.alters_pnl x).mono (by simp) (by simp)

theorem State.panelTakes_requestRefresh (s : State) : s.panelTakes s.requestRefresh :=
  (s.panelTakes_setPnl _).setF F.PNL_STATUS_PENDING _ rfl

theorem State.panelTakes_ownerUse (s : State) : s.panelTakes s.ownerUse :=
  .ite _ (State.panelTakes.raise ((s.alters_freeCount _).mono (by simp) (by simp)) _ _ _) s.panelTakes_refl

theorem State.panelTakes_verifyAssets (s : State) : s.panelTakes s.verifyAssets := by
  unfold State.verifyAssets
  split_ifs
  · exact s.panelTakes_refl
  · have howner := s.panelTakes_ownerUse
    dsimp only
    split
    · exact (howner.setF F.PNL_STATUS_ASSETS_OK _ rfl).setF F.PNL_STATUS_STATE _ rfl
    · exact ((howner.setF F.PNL_STATUS_ASSETS_OK _ rfl).raise _ _ _).setF F.PNL_STATUS_STATE _ rfl

theorem State.alters_eccClearWords (s : State) (a n : Nat) : s.alters (s.eccClearWords a n) [] [.ecc] := by
  unfold State.eccClearWords
  induction List.range (n / 8) generalizing s with
  | nil => exact s.alters_refl _ _
  | cons k ks ih =>
    rw [List.foldl_cons]
    split
    · exact ih s
    · exact ((s.alters_ecc _).trans (ih _)).mono (by simp) (by simp)

theorem State.panelTakes_panelPowerUp (s : State) : s.panelTakes s.panelPowerUp := by
  unfold State.panelPowerUp
  split_ifs
  · exact ((s.alters_wrBytes _ _).trans (alters_eccClearWords _ _ _)).mono (by simp) (by simp)
  · exact s.panelTakes_refl

theorem State.panelTakes_takeAssets (s : State) : s.panelTakes s.takeAssets := by
  have hload := ((s.panelTakes_setPnl { s.pnl with slot := s.upd.assetsSlot, target := none }).trans
    (panelTakes_verifyAssets _)).trans (panelTakes_panelPowerUp _)
  unfold State.takeAssets
  dsimp only
  split
  · exact hload.trans (.ite _ (State.panelTakes_refl _ |>.raise _ _ _) (State.panelTakes_refl _))
  · exact hload

/-- Activation of panel assets writes the pointer; all the rest is the panel's. -/
theorem State.panelTakes_activateAssets (s : State) (slot : Nat) :
    State.panelTakes { s with upd := { s.upd with assetsSlot := slot } } (s.activateAssets slot) := by
  unfold State.activateAssets
  generalize { s with upd := { s.upd with assetsSlot := slot } } = u
  dsimp only
  split_ifs
  · exact u.panelTakes_refl
  · exact u.panelTakes_requestRefresh
  · exact (u.panelTakes_takeAssets.setF F.PNL_STATUS_STATE _ rfl).trans (panelTakes_setPnl _ _)
  · exact u.panelTakes_takeAssets

end Sys2Proof.Machine
end

section
/-!
PROOFS. ACTIVATE_NOW (R431): what the reset of a firmware update leaves, the panel's assets, and the obligation.
-/

namespace Sys2Proof.Machine

/-! ### ACTIVATE_NOW -/

section
variable {s : State} {n : Nat}

theorem State.updActivateNow_refused (h : s.region n ≠ 4 ∨ s.mayActivate n = false) :
    s.updActivateNow n = s.updResult 6 n .state := if_pos (by simpa [rgVerified] using h)

theorem State.updActivateNow_accepted (h4 : s.region n = 4) (hm : s.mayActivate n = true) :
    s.updActivateNow n = (s.updResult 6 n .ok).activateRegion n := if_neg (by simp [h4, hm, rgVerified])

end

/-! ### What a reset keeps of a region -/

/-- STATE of the firmware region stands in MRAM: the three top bits of its register survive the reset (R422). -/
theorem State.getR_fullReset_region (s : State) (c : ResetCause) :
    (s.fullReset c).getR (F.UPD_R_STATE_STATE 0).addr = s.getR (F.UPD_R_STATE_STATE 0).addr &&& 0xE0000000#32 := by
  change Store.get regReset (Store.set regReset s.keptRegs _ _) 0x00100100 = s.getR 0x00100100 &&& 0xE0000000#32
  rw [Store.get_set_ne _ _ _ _ _ (by decide), State.keptRegs]
  simp only [List.foldl_cons, List.foldl_nil]
  rw [Store.get_set_ne _ _ _ _ _ (by decide), Store.get_set_ne _ _ _ _ _ (by decide), Store.get_set_same]

theorem State.region_fullReset (s : State) (c : ResetCause) : (s.fullReset c).region 0 = s.region 0 := by
  have hshift (w : BitVec 32) : (w &&& 0xE0000000#32) >>> 29 &&& 7#32 = w >>> 29 &&& 7#32 := by
    rw [BitVec.ushiftRight_and_distrib, BitVec.and_assoc, show 0xE0000000#32 >>> 29 &&& 7#32 = 7#32 by decide]
  rw [State.region, State.getF, State.getR_fullReset_region]
  exact congrArg BitVec.toNat (hshift _)

theorem State.fullReset_pending (s : State) (c : ResetCause) : (s.fullReset c).pending = s.pending := rfl

/-- A reset of a module that is not held notes its own cause alone. -/
theorem State.fullReset_causes {s : State} (h : s.rst.held = false) (c : ResetCause) :
    (s.fullReset c).rst.causes = c.bit := by
  simp [State.fullReset, h, bitOf]

/-- The firmware activation before its reset (Table 17.9). -/
def State.fwActivated (s : State) : State :=
  let s := (s.raise Ev.UPD_ACTIVATED srcUpdate [0]).commitAll
  (s.writeFw { s.fw with active := s.updTarget 0, trial := true, trials := 0 }).setRegion 0 rgTrial

theorem State.commits_fwActivated (s : State) : s.commits s.fwActivated :=
  (((s.alters_raise _ _ _).commits (by decide)).trans (commits_commitAll _)).trans
    ((alters_writeFw _ _).commits (by decide)) |>.setF (F.UPD_R_STATE_STATE 0) rgTrial

/-- Firmware is activated by a reset, in TRIAL. -/
theorem State.activateRegion_fw_spec {s : State} (h : s.rst.held = false) :
    let t := s.activateRegion 0
    t.station = .boot ∧ t.rst.held = true ∧ t.rst.causes = 64 ∧ t.region 0 = 6 ∧ t.pending = s.pending := by
  have ht : s.activateRegion 0 = s.fwActivated.fullReset .update := rfl
  have hrst : s.fwActivated.rst = s.rst := s.commits_fwActivated .rst (by decide)
  rw [ht]
  exact ⟨rfl, rfl, State.fullReset_causes (by rw [hrst, h]) .update,
    (State.region_fullReset _ .update).trans (State.region_setRegion_same _ 0 (by decide)),
    (State.fullReset_pending _ .update).trans (s.commits_fwActivated .pending (by decide))⟩

theorem State.activateRegion_assets (s : State) :
    s.activateRegion 2 = (s.activateAssets (s.updTarget 2)).setRegion 2 rgIdle := rfl

theorem State.alters_activateRegion_assets (s : State) : State.alters
    { s with upd := { s.upd with assetsSlot := s.updTarget 2 } } (s.activateRegion 2)
    [F.PNL_STATUS_STATE.addr, F.EVR_STATUS_STAGED.addr, (F.UPD_R_STATE_STATE 2).addr]
    [.regs, .mem, .ecc, .evr, .pnl, .free] := by
  rw [State.activateRegion_assets]
  exact (State.alters.trans (s.panelTakes_activateAssets _) (alters_setF _ (F.UPD_R_STATE_STATE 2) rgIdle)).mono
    (by simp) (by simp)

/-- Panel assets are activated by their pointer; the answer stays, and the region is idle. -/
theorem State.activateRegion_assets_spec (s : State) :
    ((s.updResult 6 2 .ok).activateRegion 2).updAnswers 6 2 0 ∧
      ((s.updResult 6 2 .ok).activateRegion 2).region 2 = 0 ∧
      ((s.updResult 6 2 .ok).activateRegion 2).upd = { s.upd with assetsSlot := s.updTarget 2 } := by
  have hans := s.updAnswers_updResult (op := 6) (r := 2) .ok (by decide) (by decide)
  have hupd := s.updResult_upd 6 2 .ok
  generalize s.updResult 6 2 .ok = d at hans hupd
  have hend := d.alters_activateRegion_assets
  have keep (f : Fld) (hf : f.addr = F.UPD_RESULT_DONE.addr) : (d.activateRegion 2).getF f = d.getF f :=
    ((d.alters_upd _).trans hend).getF (by rw [hf]; decide)
  refine ⟨?_, ?_, (hend.keeps .upd (by decide)).trans ?_⟩
  · obtain ⟨hop, hr, hcode⟩ := hans
    exact ⟨(keep F.UPD_RESULT_LAST_OP rfl).trans hop, (keep F.UPD_RESULT_REGION rfl).trans hr,
      (keep F.UPD_RESULT_CODE rfl).trans hcode⟩
  · rw [State.activateRegion_assets]
    exact State.region_setRegion_same _ 2 (by decide)
  · simp only [State.updTarget, hupd]

/-! ### The obligation -/

theorem region_of_ne_three {r : BitVec 2} (h : r ≠ 3#2) : r.toNat < 3 := by
  have hne : r.toNat ≠ 3 := fun h3 => h (BitVec.eq_of_toNat_eq h3)
  omega

/-- The module is out of reset where a write reaches a register. -/
theorem State.not_held_of_served {s : State} {req : Requester} {a : Nat} (h : s.served req a) : s.rst.held = false := by
  have hreach := h.1
  simp only [State.reachable, Bool.and_eq_true, Bool.not_eq_true'] at hreach
  exact hreach.2

/-- Settles O50: each clause is one branch of its command, with the codes of Table 17.14. -/
theorem updates : Obligations.Updates := by
  intro s r hr n st result only at_
  have hn : n < 3 := region_of_ne_three hr
  refine ⟨fun req hs => ?commands, fun req hs => ?cancel, fun h1 h3 ho => ?verify, ?blocks⟩
  case commands =>
    have begin_ : exec (.updBegin req r) s = .next (s.updBegin n) := State.command_updOn hs hr _
    have resume : exec (.updResume req r) s = .next (s.updResume n) := State.command_updOn hs hr _
    have finish : exec (.updFinish req r) s = .next (s.updFinish n) := State.command_updOn hs hr _
    have arm : exec (.updArm req r) s = .next (s.updArm n) := State.command_updOn hs hr _
    have disarm : exec (.updDisarm req r) s = .next (s.updDisarm n) := State.command_updOn hs hr _
    have now : exec (.updActivateNow req r) s = .next (s.updActivateNow n) := State.command_updOn hs hr _
    have answers {i : Instr} {t : State} {op : Nat} {c : UpdCode} (hi : exec i s = .next t)
        (ht : t = s.updResult op n c) (hop : op < 8) : s.updOnlyAnswers i op n c.code :=
      State.updOnlyAnswers_of_updResult hop (by omega) (ht ▸ hi)
    refine ⟨⟨fun ha hb hf => ?_, fun ha => answers begin_ (State.updBegin_not_allowed ha) (by decide),
        fun ha hb => answers begin_ (State.updBegin_busy ha hb) (by decide),
        fun ha hb hf => answers begin_ (State.updBegin_not_fits ha hb hf) (by decide)⟩,
      State.updResume_spec hn resume,
      fun h => answers finish (State.updFinish_incomplete h) (by decide),
      fun h0 hb h => answers finish ((State.updFinish_complete h0 hb).trans (if_pos h)) (by decide),
      fun h0 hb h6 holc => ⟨_, finish, State.updFinish_spec hn h0 hb h6 holc⟩,
      fun h4 ht => ⟨_, arm, State.updArm_spec hn h4 ht⟩,
      fun h => ?_,
      fun h5 => ⟨_, disarm, State.updDisarm_spec hn h5⟩,
      fun h5 => answers disarm (State.updDisarm_refused h5) (by decide),
      fun h => answers now (State.updActivateNow_refused h) (by decide),
      fun h4 hm => ⟨fun h0 _ => ?_, fun h1 => ?_, fun h2 => ?_⟩⟩
    · rw [State.updBegin_accepted ha hb hf] at begin_
      exact ⟨_, begin_, s.updOpen_spec n _ hn⟩
    · have hcode : (if st = 4 then UpdCode.late else .state).code = if st = 4 then 10 else 1 := by split_ifs <;> rfl
      rw [← hcode]
      exact answers arm (State.updArm_refused h) (by decide)
    · rw [State.updActivateNow_accepted h4 hm, h0] at now
      have hheld : (s.updResult 6 0 .ok).rst.held = false := by
        rw [(s.alters_updResult 6 0 .ok).keeps .rst (by simp), State.not_held_of_served hs]
      obtain ⟨hstation, hrst, hcauses, hregion, hpending⟩ := State.activateRegion_fw_spec hheld
      exact ⟨_, now, hstation, hrst, hcauses, hregion,
        hpending.trans ((s.alters_updResult 6 0 .ok).keeps .pending (by simp))⟩
    · rw [State.updActivateNow_accepted h4 hm, h1] at now
      exact now
    · rw [State.updActivateNow_accepted h4 hm, h2] at now
      obtain ⟨hans, hregion, hupd⟩ := s.activateRegion_assets_spec
      refine ⟨_, now, ?_, hregion, hupd⟩
      change State.updAnswers _ 6 n 0
      rw [h2]
      exact hans
  case cancel =>
    have cancel : exec (.updCancel req r) s = .next (s.updCancel n) := State.command_updOn hs hr _
    have answers {c : UpdCode} (h : s.updCancel n = s.updResult 7 n c) :
        s.updOnlyAnswers (.updCancel req r) 7 n c.code :=
      State.updOnlyAnswers_of_updResult (by decide) (by omega) (h ▸ cancel)
    exact ⟨fun h0 => answers (State.updCancel_idle h0), fun h => answers (State.updCancel_busy h),
      fun h0 h3 h6 holc => ⟨_, cancel, State.updCancel_spec hn h0 h3 h6 holc⟩⟩
  case verify =>
    have hend : exec (.updVerifyEnd n) s = .next (s.updVerifyEnd n) := if_pos (by simpa using hn)
    exact ⟨fun hc => ⟨_, hend, State.updVerifyEnd_spec_good hn h1 h3 ho hc⟩,
      fun c hc => ⟨_, hend, State.updVerifyEnd_spec_bad hn h1 h3 ho hc⟩⟩
  case blocks =>
    intro m got halive hwatch howned hregion hst k at0 hk _ hlen hm hgot hdone stored
    have block : exec (.updBlock m got) s = .next (s.updBlock m got) := by
      have hsession : (s.alive && s.station != .watch && decide (0 < s.sec.owned)) = true := by
        simp [halive, hwatch, howned]
      exact congrArg _ (if_pos hsession)
    refine ⟨fun hcrc => ⟨_, block, ?_⟩, fun hcrc => ⟨_, block, ?_⟩⟩
    · exact State.updBlock_spec_good hn hregion rfl hst hk hlen hm hgot hdone hcrc
    · exact State.updBlock_spec_bad hn hregion rfl hst hk hlen hm hgot hdone hcrc

end Sys2Proof.Machine
end

section
/-!
PROOFS. What a settings write works on: the fields of RST_RESULT, RST_SET_DATA and the settings memory (R446, R450).
-/

namespace Sys2Proof.Machine

/-! ### RST_RESULT -/

theorem rstDone_inWord : F.RST_RESULT_DONE.inWord := ⟨by decide, by decide⟩
theorem rstBusy_inWord : F.RST_RESULT_BUSY.inWord := ⟨by decide, by decide⟩
theorem rstLastOp_inWord : F.RST_RESULT_LAST_OP.inWord := ⟨by decide, by decide⟩
theorem rstCode_inWord : F.RST_RESULT_CODE.inWord := ⟨by decide, by decide⟩

/-- RST_RESULT names the command and the code. -/
def State.rstAnswers (t : State) (op code : Nat) : Prop :=
  t.getF F.RST_RESULT_LAST_OP = op ∧ t.getF F.RST_RESULT_CODE = code

/-- A write of a field above LAST_OP leaves the answer as it is. -/
theorem State.rstAnswers.setF {t : State} {op code : Nat} (h : t.rstAnswers op code) {f : Fld} (v : Nat)
    (ha : f.addr = F.RST_RESULT_DONE.addr) (hf : f.inWord) (hlo : 25 < f.lo) : (t.setF f v).rstAnswers op code := by
  obtain ⟨hop, hcode⟩ := h
  have hcodeLo : F.RST_RESULT_CODE.hi < f.lo := Nat.lt_trans (by decide) hlo
  exact ⟨(t.getF_setF_apart f F.RST_RESULT_LAST_OP v ha.symm hf rstLastOp_inWord (.inr hlo)).trans hop,
    (t.getF_setF_apart f F.RST_RESULT_CODE v ha.symm hf rstCode_inWord (.inr hcodeLo)).trans hcode⟩

theorem State.rstAnswers_rstResult (s : State) {op code : Nat} (hop : op < 4) (hcode : code < 256) :
    (s.rstResult op code).rstAnswers op code := by
  refine State.rstAnswers.setF ⟨?op, ?code⟩ 1 rfl rstDone_inWord (by decide)
  case op =>
    rw [State.getF_setF_apart _ F.RST_RESULT_CODE F.RST_RESULT_LAST_OP _ rfl rstCode_inWord rstLastOp_inWord
        (.inl (by decide)),
      State.getF_setF_same _ _ _ rstLastOp_inWord]
    exact Nat.mod_eq_of_lt hop
  case code =>
    rw [State.getF_setF_same _ _ _ rstCode_inWord]
    exact Nat.mod_eq_of_lt hcode

theorem State.rstDone_rstResult (s : State) (op code : Nat) : (s.rstResult op code).getF F.RST_RESULT_DONE = 1 :=
  State.getF_setF_same _ _ _ rstDone_inWord

theorem State.rstBusy_rstResult (s : State) (op code : Nat) :
    (s.rstResult op code).getF F.RST_RESULT_BUSY = s.getF F.RST_RESULT_BUSY := by
  have keep (u : State) (f : Fld) (v : Nat) (ha : f.addr = F.RST_RESULT_BUSY.addr) (hf : f.inWord)
      (h : f.apart F.RST_RESULT_BUSY) : (u.setF f v).getF F.RST_RESULT_BUSY = u.getF F.RST_RESULT_BUSY :=
    u.getF_setF_apart f _ v ha.symm hf rstBusy_inWord h
  rw [State.rstResult, keep _ F.RST_RESULT_DONE _ rfl rstDone_inWord (.inr (by decide)),
    keep _ F.RST_RESULT_CODE _ rfl rstCode_inWord (.inl (by decide)),
    keep _ F.RST_RESULT_LAST_OP _ rfl rstLastOp_inWord (.inl (by decide))]

@[simp] theorem State.rstResult_rst (s : State) (op code : Nat) : (s.rstResult op code).rst = s.rst := rfl

theorem State.alters_rstResult (s : State) (op code : Nat) :
    s.alters (s.rstResult op code) [F.RST_RESULT_DONE.addr] [.regs] :=
  ((s.alters_setF F.RST_RESULT_LAST_OP op).trans (alters_setF _ F.RST_RESULT_CODE code)).trans
    (alters_setF _ F.RST_RESULT_DONE 1) |>.mono (by decide) (by decide)

/-- The answer comes after the event. -/
theorem State.raised.rstResult {s t : State} {code source : Nat} {payload : List Nat}
    (h : s.raised t code source payload) (op answer : Nat) : s.raised (t.rstResult op answer) code source payload :=
  ((t.alters_rstResult op answer).keeps .evr (by simp)).trans h

/-- A field of one bit that is not 0 is set. -/
theorem State.isSet_of_ne_zero {s : State} {f : Fld} (hf : f.inWord) (hw : f.width = 1) (h : s.getF f ≠ 0) :
    s.isSet f = true := by
  have hlt : s.getF f < 2 ^ f.width := Fld.pick_lt f _ hf
  rw [hw] at hlt
  rw [State.isSet, beq_iff_eq]
  omega

/-! ### RST_SET_DATA -/

/-- The addresses of RST_SET_DATA. -/
def setDataAddrs : List Nat := (List.range 244).map fun k => (F.RST_SET_DATA_DATA k).addr

theorem mem_setDataAddrs {k : Nat} (hk : k ∈ List.range 244) : (F.RST_SET_DATA_DATA k).addr ∈ setDataAddrs :=
  List.mem_map.mpr ⟨k, hk, rfl⟩

/-- The registers below RST_SET_DATA are none of it. -/
theorem not_mem_setDataAddrs {a : Nat} (h : a < 0x00110100) : a ∉ setDataAddrs := by
  simp only [setDataAddrs, F.RST_SET_DATA_DATA, List.mem_map, not_exists, not_and]
  intro k _
  omega

/-- A fold of steps changes no more than the steps. -/
theorem State.alters_foldl {α : Type} {a : List Nat} {l : List Part} (f : State → α → State) (xs : List α)
    (hf : ∀ x ∈ xs, ∀ s : State, s.alters (f s x) a l) (s : State) : s.alters (xs.foldl f s) a l := by
  induction xs generalizing s with
  | nil => exact s.alters_refl a l
  | cons x xs ih =>
    exact ((hf x (.head _) s).trans (ih (fun y hy => hf y (.tail _ hy)) _)).mono (by simp) (by simp)

theorem State.alters_clearSetData (s : State) : s.alters s.clearSetData setDataAddrs [.regs] :=
  State.alters_foldl _ _ (fun k hk s => (s.alters_setF (F.RST_SET_DATA_DATA k) 0).mono
    (List.cons_subset.mpr ⟨mem_setDataAddrs hk, List.nil_subset setDataAddrs⟩) (List.Subset.refl _)) s

theorem setData_inWord (k : Nat) : (F.RST_SET_DATA_DATA k).inWord := by simp [Fld.inWord, F.RST_SET_DATA_DATA]

/-- A word of RST_SET_DATA that is 0 stays 0 while words are cleared. -/
theorem State.setData_foldl_clear (ks : List Nat) (s : State) (k : Nat)
    (h : k ∈ ks ∨ s.getF (F.RST_SET_DATA_DATA k) = 0) :
    (ks.foldl (fun s j => s.setF (F.RST_SET_DATA_DATA j) 0) s).getF (F.RST_SET_DATA_DATA k) = 0 := by
  induction ks generalizing s with
  | nil => simpa using h
  | cons j ks ih =>
    refine ih _ ?_
    by_cases hjk : k = j
    · subst hjk
      exact .inr (State.getF_setF_same _ _ _ (setData_inWord k))
    · have haddr : (F.RST_SET_DATA_DATA k).addr ≠ (F.RST_SET_DATA_DATA j).addr := by
        simp only [F.RST_SET_DATA_DATA]
        omega
      rw [State.getF_setF_ne _ _ _ _ haddr]
      simpa [hjk] using h

theorem State.setData_clearSetData (s : State) {k : Nat} (hk : k < 244) :
    s.clearSetData.getF (F.RST_SET_DATA_DATA k) = 0 :=
  State.setData_foldl_clear _ s k (.inl (List.mem_range.mpr hk))

/-! ### The settings memory -/

/-- Byte a of the settings memory. -/
def State.smByte (s : State) (a : Nat) : BitVec 8 := Store.get (fun _ => 0) s.rst.memory.bytes a

theorem State.smByte_congr {s t : State} (h : t.rst.memory = s.rst.memory) : t.smByte = s.smByte := by
  funext a
  rw [State.smByte, State.smByte, h]

@[simp] theorem State.rstResult_smByte (s : State) (op code : Nat) : (s.rstResult op code).smByte = s.smByte := rfl

theorem State.smBytes_eq (s : State) (lo n : Nat) :
    s.smBytes lo n = (List.range n).map fun i => s.smByte (lo + i) := rfl

theorem State.smBytes_congr {s t : State} {lo n : Nat} (h : ∀ i, i < n → t.smByte (lo + i) = s.smByte (lo + i)) :
    t.smBytes lo n = s.smBytes lo n := by
  rw [State.smBytes_eq, State.smBytes_eq]
  exact List.map_congr_left fun i hi => h i (List.mem_range.mp hi)

theorem State.smBytes_add (s : State) (lo m n : Nat) :
    s.smBytes lo (m + n) = s.smBytes lo m ++ s.smBytes (lo + m) n := by
  simp only [State.smBytes_eq, List.range_add, List.map_append, List.map_map, Function.comp_def, Nat.add_assoc]

/-- The settings memory takes bytes as the memories of the module do. -/
theorem smWrite_eq_writeBytes (bs : Bytes) (m : Store (BitVec 8)) (a : Nat) : smWrite m a bs = writeBytes m a bs := by
  induction bs generalizing m a with
  | nil => rfl
  | cons b bs ih => exact ih _ _

theorem State.alters_setRst (s : State) (x : ResetState) : s.alters (s.setRst x) [] [.rst] :=
  alters_part (by decide) fun p hp => by cases p <;> simp [Part.same, setRst, getR, rdByte, core, queueState] at hp ⊢

theorem State.alters_smStore (s : State) (a : Nat) (bs : Bytes) : s.alters (s.smStore a bs) [] [.rst] :=
  .ite _ (s.alters_setRst _) (s.alters_refl _ _)

theorem State.smStore_other_width {s : State} (h : s.writeWidth ≠ s.rst.memory.width) (a : Nat) (bs : Bytes) :
    s.smStore a bs = s := if_neg h

/-- A store changes nothing of the reset state but the bytes of the memory. -/
theorem State.smStore_rst (s : State) (a : Nat) (bs : Bytes) :
    (s.smStore a bs).rst = { s.rst with memory := ⟨s.rst.memory.width, (s.smStore a bs).rst.memory.bytes⟩ } := by
  rw [State.smStore]
  split_ifs <;> rfl

/-- A byte after a store: from the bytes stored inside them, as before outside; as before throughout where the width of
the write is not the memory's. -/
theorem State.smByte_smStore (s : State) (a : Nat) (bs : Bytes) (k : Nat) : (s.smStore a bs).smByte k =
    if s.writeWidth = s.rst.memory.width ∧ a ≤ k ∧ k < a + bs.length then bs.getD (k - a) 0#8 else s.smByte k := by
  by_cases hw : s.writeWidth = s.rst.memory.width
  · simp only [State.smStore, true_and, hw]
    exact (congrArg (Store.get memDefault · k) (smWrite_eq_writeBytes bs _ a)).trans (get_writeBytes bs _ a k)
  · rw [State.smStore_other_width hw, if_neg fun h => hw h.1]

theorem State.smByte_smStore_in {s : State} {a : Nat} {bs : Bytes} {k : Nat} (hw : s.writeWidth = s.rst.memory.width)
    (hk : k < bs.length) : (s.smStore a bs).smByte (a + k) = bs.getD k 0#8 := by
  rw [State.smByte_smStore, if_pos ⟨hw, by omega, by omega⟩, Nat.add_sub_cancel_left]

theorem State.smByte_smStore_out (s : State) {a : Nat} {bs : Bytes} {k : Nat} (h : k < a ∨ a + bs.length ≤ k) :
    (s.smStore a bs).smByte k = s.smByte k := by
  rw [State.smByte_smStore, if_neg (by omega)]

/-- The width of a write depends on RST_SET_STATUS and RST_SET_SIZE only. -/
theorem State.alters.writeWidth {s t : State} {a : List Nat} {l : List Part} (h : s.alters t a l)
    (hstatus : F.RST_SET_STATUS_WIDTH.addr ∉ a) (hsize : F.RST_SET_SIZE_BYTES.addr ∉ a) :
    t.writeWidth = s.writeWidth := by
  rw [State.writeWidth, State.writeWidth, h.getF hstatus, h.getF hsize]

/-! ### Bytes that the memory lost -/

theorem State.length_random (s : State) (n : Nat) : (s.random n).1.length = n := by
  induction n with
  | zero => rfl
  | succ n ih => simp [State.random, ih]

theorem State.alters_random (s : State) (n : Nat) : s.alters (s.random n).2 [] [.free] := by
  induction n with
  | zero => exact s.alters_refl _ _
  | succ n ih => exact (ih.trans (alters_freeCount _ _)).mono (by simp) (by simp)

theorem State.alters_smLost (s : State) (a n : Nat) : s.alters (s.smLost a n) [] [.rst, .free] :=
  ((s.alters_random n).trans (alters_smStore _ a _)).mono (by simp) (by simp)

theorem State.smLost_writing (s : State) (a n : Nat) : (s.smLost a n).rst.writing = s.rst.writing := by
  have hrst : (s.random n).2.rst = s.rst := (s.alters_random n).keeps .rst (by simp)
  rw [State.smLost, State.smStore_rst, hrst]

theorem State.smByte_smLost_out (s : State) {a n k : Nat} (h : k < a ∨ a + n ≤ k) :
    (s.smLost a n).smByte k = s.smByte k := by
  rw [← s.length_random n] at h
  have hrst : (s.random n).2.rst = s.rst := (s.alters_random n).keeps .rst (by simp)
  rw [State.smLost, State.smByte_smStore_out _ h, State.smByte_congr (congrArg ResetState.memory hrst)]

end Sys2Proof.Machine
end

section
/-!
PROOFS. The beginning of a settings write, WRITE or BLANK, and what refuses it (R449, R451).
-/

namespace Sys2Proof.Machine

/-! ### The command -/

/-- Where a requester's write reaches RST_CMD, WRITE is OP 1 with its LEN, and BLANK is OP 2 with no items. -/
theorem State.exec_settings_command {s : State} {req : Requester} {i : Instr} {op len : Nat}
    (hs : s.served req F.RST_CMD_OP.addr)
    (hi : i = .settingsWrite req len ∧ op = 1 ∨ i = .settingsBlank req ∧ op = 2 ∧ len = 0) :
    exec i s = .next (s.settingsWrite op len) ∧ op < 4 := by
  obtain ⟨rfl, rfl⟩ | ⟨rfl, rfl, rfl⟩ := hi <;> exact ⟨State.command_of_served hs _, by decide⟩

/-- The item bytes of a write: the first LEN bytes of RST_SET_DATA; none for BLANK. -/
def State.settingsItems (s : State) (op len : Nat) : Bytes := if op = 1 then s.setData len else []

/-- The image fits RST_SET_DATA and the memory (R451). -/
def State.settingsFits (s : State) (len : Nat) : Prop := len ≤ 976 ∧ 48 + len ≤ s.getF F.RST_SET_SIZE_BYTES

section
variable {s : State} {op len : Nat}

theorem State.settingsWrite_busy (h : s.getF F.RST_RESULT_BUSY ≠ 0) : s.settingsWrite op len = s.rstResult op 2 :=
  if_pos (State.isSet_of_ne_zero rstBusy_inWord rfl h)

theorem State.settingsWrite_free (h : s.getF F.RST_RESULT_BUSY = 0) : s.settingsWrite op len =
    if !s.settingsAllowed then s.rstResult op rsState
    else if 976 < len ∨ s.getF F.RST_SET_SIZE_BYTES < 48 + len then s.rstResult op rsSize
    else if !(imgItems 512 (s.settingsItems op len)).all itemOk then s.rstResult op rsItem
    else s.settingsStart op (s.settingsItems op len) :=
  if_neg (by simp [State.isSet, h])

theorem State.settingsWrite_not_allowed (hb : s.getF F.RST_RESULT_BUSY = 0) (ha : s.settingsAllowed = false) :
    s.settingsWrite op len = s.rstResult op 1 := by
  rw [State.settingsWrite_free hb, ha]
  rfl

theorem State.settingsWrite_not_fits (hb : s.getF F.RST_RESULT_BUSY = 0) (ha : s.settingsAllowed = true)
    (hf : ¬s.settingsFits len) : s.settingsWrite op len = s.rstResult op 3 := by
  rw [State.settingsWrite_free hb, if_neg (by simp [ha])]
  exact if_pos ((not_and_or.mp hf).imp Nat.lt_of_not_le Nat.lt_of_not_le)

theorem State.settingsWrite_fits (hb : s.getF F.RST_RESULT_BUSY = 0) (ha : s.settingsAllowed = true)
    (hf : s.settingsFits len) : s.settingsWrite op len =
      if !(imgItems 512 (s.settingsItems op len)).all itemOk then s.rstResult op rsItem
      else s.settingsStart op (s.settingsItems op len) := by
  rw [State.settingsWrite_free hb, if_neg (by simp [ha])]
  obtain ⟨hlen, hsize⟩ := hf
  exact if_neg (by omega)

end

/-- The command answers a code in RST_RESULT and changes nothing else. -/
def State.settingsRefused (s : State) (i : Instr) (op code : Nat) : Prop :=
  ∃ t, exec i s = .next t ∧ t.rstAnswers op code ∧ t.getF F.RST_RESULT_DONE = 1 ∧
    s.regsBut t [F.RST_RESULT_DONE.addr] ∧ s.keeps t [.regs]

theorem State.settingsRefused_of_rstResult {s : State} {i : Instr} {op code : Nat} (hop : op < 4) (hcode : code < 256)
    (hi : exec i s = .next (s.rstResult op code)) : s.settingsRefused i op code :=
  ⟨_, hi, s.rstAnswers_rstResult hop hcode, s.rstDone_rstResult op code, s.alters_rstResult op code⟩

/-! ### The beginning of a write -/

/-- RST_RESULT of a write that has begun: code 0, DONE clear, BUSY. -/
def State.settingsBusy (s : State) (op : Nat) : State :=
  ((s.rstResult op 0).setF F.RST_RESULT_DONE 0).setF F.RST_RESULT_BUSY 1

theorem State.alters_settingsBusy (s : State) (op : Nat) :
    s.alters (s.settingsBusy op) [F.RST_RESULT_DONE.addr] [.regs] :=
  ((s.alters_rstResult op 0).trans (alters_setF _ F.RST_RESULT_DONE 0)).trans (alters_setF _ F.RST_RESULT_BUSY 1)
    |>.mono (by decide) (by decide)

theorem State.settingsBusy_fields (s : State) {op : Nat} (hop : op < 4) :
    (s.settingsBusy op).rstAnswers op 0 ∧ (s.settingsBusy op).getF F.RST_RESULT_BUSY = 1 ∧
      (s.settingsBusy op).getF F.RST_RESULT_DONE = 0 := by
  refine ⟨?_, State.getF_setF_same _ _ _ rstBusy_inWord, ?_⟩
  · exact ((s.rstAnswers_rstResult hop (by decide)).setF 0 rfl rstDone_inWord (by decide)).setF 1 rfl rstBusy_inWord
      (by decide)
  · rw [State.settingsBusy, State.getF_setF_apart _ F.RST_RESULT_BUSY F.RST_RESULT_DONE _ rfl rstBusy_inWord
        rstDone_inWord (.inl (by decide)),
      State.getF_setF_same _ _ _ rstDone_inWord]
    rfl

/-- The memory takes MAGIC = 0 and the new image behind it. -/
def State.settingsBody (s : State) (items : Bytes) : State :=
  (s.smStore 0 (leBytes 4 0)).smStore 4 (s.newImage items)

theorem State.alters_settingsBody (s : State) (items : Bytes) : s.alters (s.settingsBody items) [] [.rst] :=
  ((s.alters_smStore _ _).trans (alters_smStore _ _ _)).mono (by simp) (by simp)

theorem State.settingsBody_other_width {s : State} (h : s.writeWidth ≠ s.rst.memory.width) (items : Bytes) :
    s.settingsBody items = s := by
  rw [State.settingsBody, State.smStore_other_width h, State.smStore_other_width h]

/-- The body does not reach MAGIC, which stays 0. -/
theorem State.magic_settingsBody {s : State} (h : s.writeWidth = s.rst.memory.width) (items : Bytes) {k : Nat}
    (hk : k < 4) : (s.settingsBody items).smByte k = 0 := by
  have hclear : (s.smStore 0 (leBytes 4 0)).smByte (0 + k) = _ := State.smByte_smStore_in h (by simpa using hk)
  rw [Nat.zero_add, leBytes_getD _ _ _ hk, Nat.zero_div] at hclear
  exact (State.smByte_smStore_out _ (.inl hk)).trans hclear

theorem State.settingsStart_eq (s : State) (op : Nat) (items : Bytes) : s.settingsStart op items =
    ((s.settingsBusy op).settingsBody items).setRst
      { ((s.settingsBusy op).settingsBody items).rst with writing := some (op, items) } := rfl

/-- What stands once a write has begun. -/
theorem State.settingsStart_spec (s : State) {op : Nat} (hop : op < 4) (items : Bytes) :
    (s.settingsStart op items).rstAnswers op 0 ∧ (s.settingsStart op items).getF F.RST_RESULT_BUSY = 1 ∧
      (s.settingsStart op items).getF F.RST_RESULT_DONE = 0 ∧
      (s.settingsStart op items).rst.writing = some (op, items) ∧
      (s.writeWidth = s.rst.memory.width → ∀ k, k < 4 → (s.settingsStart op items).smByte k = 0) ∧
      (s.writeWidth ≠ s.rst.memory.width → (s.settingsStart op items).rst.memory = s.rst.memory) ∧
      s.regsBut (s.settingsStart op items) [F.RST_RESULT_DONE.addr] ∧
      s.keeps (s.settingsStart op items) [.regs, .rst] := by
  rw [State.settingsStart_eq]
  have hbusy := s.alters_settingsBusy op
  have hfields := s.settingsBusy_fields hop
  have hwidth : (s.settingsBusy op).writeWidth = s.writeWidth := hbusy.writeWidth (by decide) (by decide)
  have hrst : (s.settingsBusy op).rst = s.rst := rfl
  generalize s.settingsBusy op = b at hbusy hfields hwidth hrst
  rw [← hrst, ← hwidth]
  have hend := (b.alters_settingsBody items).trans
    (alters_setRst _ { (b.settingsBody items).rst with writing := some (op, items) })
  obtain ⟨hanswers, hset, hdone⟩ := hfields
  refine ⟨?answers, (hend.getF (by simp)).trans hset, (hend.getF (by simp)).trans hdone, rfl,
    fun h k hk => State.magic_settingsBody h items hk, fun h => ?memory, (hbusy.trans hend).mono (by simp) (by simp)⟩
  case answers =>
    obtain ⟨hop, hcode⟩ := hanswers
    exact ⟨(hend.getF (by simp)).trans hop, (hend.getF (by simp)).trans hcode⟩
  case memory => rw [State.settingsBody_other_width h]; rfl

end Sys2Proof.Machine
end

section
/-!
PROOFS. The end of a settings write, outcome by outcome (R449).
-/

namespace Sys2Proof.Machine

/-! ### The end of a write -/

/-- No write runs: BUSY is clear, and RST_SET_DATA after a WRITE. -/
def State.settingsIdle (t : State) (op : Nat) : Prop :=
  t.getF F.RST_RESULT_BUSY = 0 ∧ t.rst.writing = none ∧
    (op = 1 → ∀ k, k < 244 → t.getF (F.RST_SET_DATA_DATA k) = 0)

/-- A write has ended: no write runs, and DONE says so. -/
def State.settingsEnded (t : State) (op : Nat) : Prop :=
  t.getF F.RST_RESULT_BUSY = 0 ∧ t.getF F.RST_RESULT_DONE = 1 ∧ t.rst.writing = none ∧
    (op = 1 → ∀ k, k < 244 → t.getF (F.RST_SET_DATA_DATA k) = 0)

section
variable {t u : State} {op : Nat} (h : t.settingsIdle op)
include h

/-- The operations at the end of a write change no register but EVR_STATUS before the answer. -/
theorem State.settingsIdle.of_alters {l : List Part} (ha : t.alters u [F.EVR_STATUS_STAGED.addr] l)
    (hw : u.rst.writing = t.rst.writing) : u.settingsIdle op := by
  obtain ⟨hbusy, hwriting, hdata⟩ := h
  refine ⟨(ha.getF (by decide)).trans hbusy, hw.trans hwriting, fun hop k hk => (ha.getF ?_).trans (hdata hop k hk)⟩
  simp only [F.RST_SET_DATA_DATA, F.EVR_STATUS_STAGED, List.mem_singleton]
  omega

theorem State.settingsIdle.rstResult (hop : op < 4) {code : Nat} (hcode : code < 256) :
    (t.rstResult op code).settingsEnded op ∧ (t.rstResult op code).rstAnswers op code := by
  obtain ⟨hbusy, hwriting, hdata⟩ := h
  refine ⟨⟨(t.rstBusy_rstResult op code).trans hbusy, t.rstDone_rstResult op code, hwriting, fun h1 k hk =>
    ((t.alters_rstResult op code).getF ?_).trans (hdata h1 k hk)⟩, t.rstAnswers_rstResult hop hcode⟩
  simp only [F.RST_SET_DATA_DATA, F.RST_RESULT_DONE, List.mem_singleton]
  omega

end

/-- What every outcome does first: BUSY clear, no write runs, RST_SET_DATA cleared after a WRITE. -/
def State.settingsClosed (s : State) (op : Nat) : State :=
  let t := s.setF F.RST_RESULT_BUSY 0
  let t := t.setRst { t.rst with writing := none }
  if op = 1 then t.clearSetData else t

/-- The registers that the end of a write changes besides EVR_STATUS. -/
def settingsEndRegs : List Nat := F.RST_RESULT_BUSY.addr :: setDataAddrs

theorem State.alters_settingsClosed (s : State) (op : Nat) :
    s.alters (s.settingsClosed op) settingsEndRegs [.regs, .rst] := by
  have hbusy := (s.alters_setF F.RST_RESULT_BUSY 0).trans (alters_setRst _ { s.rst with writing := none })
  exact .ite _ ((hbusy.trans (alters_clearSetData _)).mono (by simp [settingsEndRegs]) (by simp))
    (hbusy.mono (by simp [settingsEndRegs]) (by simp))

theorem State.settingsClosed_rst (s : State) (op : Nat) :
    (s.settingsClosed op).rst = { s.rst with writing := none } := by
  simp only [State.settingsClosed]
  split_ifs
  · exact (State.alters_clearSetData _).keeps .rst (by simp)
  · rfl

theorem State.settingsIdle_settingsClosed (s : State) (op : Nat) : (s.settingsClosed op).settingsIdle op := by
  refine ⟨?busy, by rw [State.settingsClosed_rst], fun hop k hk => ?data⟩
  case busy =>
    have hbusy : (s.setF F.RST_RESULT_BUSY 0).getF F.RST_RESULT_BUSY = 0 := State.getF_setF_same _ _ _ rstBusy_inWord
    simp only [State.settingsClosed]
    split_ifs
    · exact ((State.alters_clearSetData _).getF (not_mem_setDataAddrs (by decide))).trans hbusy
    · exact hbusy
  case data =>
    simp only [State.settingsClosed, if_pos hop]
    exact State.setData_clearSetData _ hk

theorem State.writeWidth_settingsClosed (s : State) (op : Nat) : (s.settingsClosed op).writeWidth = s.writeWidth := by
  have hout {a : Nat} (ha : a ≠ F.RST_RESULT_BUSY.addr) (hlt : a < 0x00110100) : a ∉ settingsEndRegs := by
    simp [settingsEndRegs, ha, not_mem_setDataAddrs hlt]
  exact (s.alters_settingsClosed op).writeWidth (hout (by decide) (by decide)) (hout (by decide) (by decide))

theorem State.smByte_settingsClosed (s : State) (op : Nat) : (s.settingsClosed op).smByte = s.smByte :=
  State.smByte_congr (by rw [State.settingsClosed_rst])

/-! ### The read-back -/

/-- MAGIC is written last (R449). -/
def State.settingsMagic (s : State) : State := s.smStore 0 (leBytes 4 imgMagic)

/-- What the read-back must find of a write whose MAGIC is still to come (R449). -/
def State.settingsReads (s : State) (items : Bytes) : Prop :=
  s.writeWidth = s.rst.memory.width ∧ s.smBytes 48 items.length = items ∧
    s.smBytes 16 32 = settingsTag (leBytes 4 imgMagic ++ s.smBytes 4 12) items

theorem State.smByte_settingsMagic_in {s : State} (hw : s.writeWidth = s.rst.memory.width) {k : Nat} (hk : k < 4) :
    s.settingsMagic.smByte k = (leBytes 4 imgMagic).getD k 0#8 := by
  have h : (s.smStore 0 (leBytes 4 imgMagic)).smByte (0 + k) = _ := State.smByte_smStore_in hw (by simpa using hk)
  rwa [Nat.zero_add] at h

theorem State.smByte_settingsMagic_out (s : State) {k : Nat} (hk : 4 ≤ k) : s.settingsMagic.smByte k = s.smByte k :=
  s.smByte_smStore_out (.inr (by simpa using hk))

theorem State.smBytes_settingsMagic_out (s : State) {lo : Nat} (hlo : 4 ≤ lo) (n : Nat) :
    s.settingsMagic.smBytes lo n = s.smBytes lo n :=
  State.smBytes_congr fun _ _ => s.smByte_settingsMagic_out (by omega)

theorem State.smBytes_settingsMagic {s : State} (hw : s.writeWidth = s.rst.memory.width) :
    s.settingsMagic.smBytes 0 4 = leBytes 4 imgMagic := by
  have hbyte {k : Nat} (hk : k < 4) := State.smByte_settingsMagic_in hw hk
  simp only [State.smBytes_eq, Nat.zero_add]
  exact (List.map_congr_left fun k hk => hbyte (List.mem_range.mp hk)).trans (by decide)

theorem State.settingsMagic_writing (s : State) : s.settingsMagic.rst.writing = s.rst.writing := by
  rw [State.settingsMagic, State.smStore_rst]

theorem State.settingsMagic_setSeq (s : State) : s.settingsMagic.rst.setSeq = s.rst.setSeq := by
  rw [State.settingsMagic, State.smStore_rst]

/-- With MAGIC written, the read-back finds the image exactly where the rest of it was there before. -/
theorem State.readBackOk_settingsMagic (s : State) (items : Bytes) :
    s.settingsMagic.readBackOk items = true ↔ s.settingsReads items := by
  have hwidth : s.settingsMagic.writeWidth = s.writeWidth := (s.alters_smStore _ _).writeWidth (by simp) (by simp)
  have hmem : s.settingsMagic.rst.memory.width = s.rst.memory.width := by rw [State.settingsMagic, State.smStore_rst]
  simp only [State.readBackOk, State.settingsReads, hwidth, hmem, Bool.and_eq_true, beq_iff_eq, and_assoc]
  refine and_congr_right fun hw => ?_
  rw [State.smBytes_add _ 0 4 12, State.smBytes_settingsMagic hw, s.smBytes_settingsMagic_out (by decide),
    s.smBytes_settingsMagic_out (by decide), s.smBytes_settingsMagic_out (by decide)]
  simp only [true_and]

/-- The new SEQ is in force, and its event raised. -/
def State.settingsCommitted (s : State) (seq : Nat) : State :=
  (s.setRst { s.rst with setSeq := seq }).raise Ev.SETTINGS_WRITTEN srcSupervisor [seq]

theorem State.alters_settingsCommitted (s : State) (seq : Nat) :
    s.alters (s.settingsCommitted seq) [F.EVR_STATUS_STAGED.addr] [.regs, .rst, .evr] :=
  ((s.alters_setRst _).trans (alters_raise _ _ _ _)).mono (by simp) (by simp)

theorem State.settingsCommitted_rst (s : State) (seq : Nat) :
    (s.settingsCommitted seq).rst = { s.rst with setSeq := seq } :=
  (State.alters_raise _ _ _ _).keeps .rst (by simp)

theorem State.smByte_settingsCommitted (s : State) (seq : Nat) : (s.settingsCommitted seq).smByte = s.smByte :=
  State.smByte_congr (by rw [State.settingsCommitted_rst])

theorem State.raised_settingsCommitted {s t : State} (he : t.evr = s.evr) (hp : t.pat = s.pat) (seq : Nat) :
    s.raised (t.settingsCommitted seq) Ev.SETTINGS_WRITTEN srcSupervisor [seq] :=
  State.raise_evr_congr (t := t.setRst { t.rst with setSeq := seq }) he (congrArg PatState.active hp) _ _ _

/-! ### The outcomes -/

/-- SEQ of the image that is being written. -/
def State.settingsNextSeq (s : State) : Nat := (s.rst.setSeq + 1) % 2 ^ 32

section
variable {s : State} {op : Nat} {items : Bytes} (hw : s.rst.writing = some (op, items))
include hw

theorem State.settingsEnd_ok : s.settingsEnd .ok =
    if (s.settingsClosed op).settingsMagic.readBackOk items then
      ((s.settingsClosed op).settingsMagic.settingsCommitted (s.settingsClosed op).settingsNextSeq).rstResult op 0
    else (s.settingsClosed op).settingsMagic.rstResult op rsVerify := by
  simp only [State.settingsEnd, hw]
  rfl

theorem State.settingsEnd_timeout (step : SettingsStep) : s.settingsEnd (.timeout step) =
    if s.isSet F.RST_STRAPS_CFG_SETMEM then s
    else ((s.settingsClosed op).settingsTimeout step items).rstResult op rsTimeout := by
  simp only [State.settingsEnd, hw]
  rfl

theorem State.settingsEnd_verifyFailed : s.settingsEnd .verifyFailed =
    ((s.settingsClosed op).smLost 0 (48 + items.length)).rstResult op rsVerify := by
  simp only [State.settingsEnd, hw]
  rfl

end

theorem State.settingsNextSeq_settingsClosed (s : State) (op : Nat) :
    (s.settingsClosed op).settingsNextSeq = s.settingsNextSeq := by
  rw [State.settingsNextSeq, State.settingsNextSeq, State.settingsClosed_rst]

theorem State.settingsReads_settingsClosed (s : State) (op : Nat) (items : Bytes) :
    (s.settingsClosed op).settingsReads items ↔ s.settingsReads items := by
  have hbytes (lo n : Nat) : (s.settingsClosed op).smBytes lo n = s.smBytes lo n :=
    State.smBytes_congr fun _ _ => by rw [State.smByte_settingsClosed]
  have hmem : (s.settingsClosed op).rst.memory = s.rst.memory := by rw [State.settingsClosed_rst]
  simp only [State.settingsReads, State.writeWidth_settingsClosed, hbytes, hmem]

theorem State.settingsIdle_settingsMagic (s : State) (op : Nat) : (s.settingsClosed op).settingsMagic.settingsIdle op :=
  (s.settingsIdle_settingsClosed op).of_alters ((State.alters_smStore _ _ _).mono (by simp) (List.Subset.refl _))
    (State.settingsMagic_writing _)

/-- The registers aside, what a state changes after `settingsClosed` and its answer add up to the frame of the end. -/
theorem State.keeps_settingsEnd {s t : State} {op : Nat} {a : List Nat} {l : List Part}
    (h : (s.settingsClosed op).alters t a l) (code : Nat) :
    s.keeps (t.rstResult op code) ([.regs, .rst] ++ l) :=
  (((s.alters_settingsClosed op).trans h).trans (t.alters_rstResult op code)).keeps.mono (by simp)

/-- The image is read back: MAGIC, the new SEQ and its event. -/
theorem State.settingsEnd_spec_good {s : State} {op : Nat} {items : Bytes} (hw : s.rst.writing = some (op, items))
    (hop : op < 4) (hreads : s.settingsReads items) :
    (s.settingsEnd .ok).settingsEnded op ∧ (s.settingsEnd .ok).rstAnswers op 0 ∧
      (s.settingsEnd .ok).rst.setSeq = s.settingsNextSeq ∧
      (∀ k, k < 4 → (s.settingsEnd .ok).smByte k = (leBytes 4 imgMagic).getD k 0#8) ∧
      (∀ k, 4 ≤ k → (s.settingsEnd .ok).smByte k = s.smByte k) ∧
      s.raised (s.settingsEnd .ok) Ev.SETTINGS_WRITTEN srcSupervisor [s.settingsNextSeq] ∧
      s.keeps (s.settingsEnd .ok) [.regs, .rst, .evr] := by
  have hclosed := (State.settingsReads_settingsClosed s op items).mpr hreads
  rw [State.settingsEnd_ok hw, if_pos ((State.readBackOk_settingsMagic _ _).mpr hclosed),
    State.settingsNextSeq_settingsClosed]
  have hmagic := State.alters_smStore (s.settingsClosed op) 0 (leBytes 4 imgMagic)
  have hcommit := State.alters_settingsCommitted (s.settingsClosed op).settingsMagic s.settingsNextSeq
  have hrst := State.settingsCommitted_rst (s.settingsClosed op).settingsMagic s.settingsNextSeq
  have hidle := (s.settingsIdle_settingsMagic op).of_alters hcommit (by rw [hrst])
  obtain ⟨hended, hanswers⟩ := hidle.rstResult hop (code := 0) (by decide)
  refine ⟨hended, hanswers, by rw [State.rstResult_rst, hrst], fun k hk => ?magic, fun k hk => ?rest, ?raised,
    (State.keeps_settingsEnd (hmagic.trans hcommit) 0).mono (by simp)⟩
  case magic => rw [State.rstResult_smByte, State.smByte_settingsCommitted, State.smByte_settingsMagic_in hclosed.1 hk]
  case rest =>
    rw [State.rstResult_smByte, State.smByte_settingsCommitted, State.smByte_settingsMagic_out _ hk,
      State.smByte_settingsClosed]
  case raised =>
    have hbefore := (s.alters_settingsClosed op).trans hmagic
    have hraised := State.raised_settingsCommitted (hbefore.keeps .evr (by simp)) (hbefore.keeps .pat (by simp))
    exact (hraised s.settingsNextSeq).rstResult op 0

/-- The image is not read back: code 6, and the old SEQ stays in force. -/
theorem State.settingsEnd_spec_bad {s : State} {op : Nat} {items : Bytes} (hw : s.rst.writing = some (op, items))
    (hop : op < 4) (hreads : ¬s.settingsReads items) :
    (s.settingsEnd .ok).settingsEnded op ∧ (s.settingsEnd .ok).rstAnswers op 6 ∧
      (s.settingsEnd .ok).rst.setSeq = s.rst.setSeq ∧ s.keeps (s.settingsEnd .ok) [.regs, .rst] := by
  rw [← State.settingsReads_settingsClosed s op items, ← State.readBackOk_settingsMagic] at hreads
  rw [State.settingsEnd_ok hw, if_neg hreads]
  obtain ⟨hended, hanswers⟩ := (s.settingsIdle_settingsMagic op).rstResult hop (code := 6) (by decide)
  refine ⟨hended, hanswers, ?_, (State.keeps_settingsEnd (State.alters_smStore _ _ _) 6).mono (by simp)⟩
  exact (State.settingsMagic_setSeq _).trans (by rw [State.settingsClosed_rst])

/-- The memory has lost bytes: the write has ended with a code, nothing is raised, and the other bytes are as before. -/
theorem State.settingsEnd_spec_lost (s : State) {op : Nat} (hop : op < 4) {code : Nat} (hcode : code < 256) (a n : Nat)
    {t : State} (ht : t = ((s.settingsClosed op).smLost a n).rstResult op code) :
    t.settingsEnded op ∧ t.rstAnswers op code ∧ t.evr = s.evr ∧
      (∀ k, k < a ∨ a + n ≤ k → t.smByte k = s.smByte k) ∧ s.keeps t [.regs, .rst, .free] := by
  subst ht
  have hlost := State.alters_smLost (s.settingsClosed op) a n
  have hidle := (s.settingsIdle_settingsClosed op).of_alters (hlost.mono (by simp) (List.Subset.refl _))
    (State.smLost_writing _ a n)
  have hkeeps := (State.keeps_settingsEnd hlost code).mono (m := [.regs, .rst, .free]) (by simp)
  obtain ⟨hended, hanswers⟩ := hidle.rstResult hop hcode
  refine ⟨hended, hanswers, hkeeps .evr (by simp), fun k hk => ?_, hkeeps⟩
  rw [State.rstResult_smByte, State.smByte_smLost_out _ hk, State.smByte_settingsClosed]

/-- A step that times out loses the bytes of that step. -/
theorem State.settingsTimeout_eq_smLost (s : State) (step : SettingsStep) (items : Bytes) :
    ∃ a n, s.settingsTimeout step items = s.smLost a n ∧
      ∀ k, (if step = .body then k < 4 ∨ 48 + items.length ≤ k else 4 ≤ k) → k < a ∨ a + n ≤ k := by
  cases step with
  | clear => exact ⟨0, 4, rfl, fun k hk => .inr hk⟩
  | body => exact ⟨4, 44 + items.length, rfl, fun k hk => hk.imp_right (by omega)⟩
  | commit => exact ⟨0, 4, rfl, fun k hk => .inr hk⟩

/-! ### The obligation -/

/-- Settles O53: the codes of a command one by one, then the outcomes of the write that runs. -/
theorem settingsWrites : Obligations.SettingsWrites := by
  intro s result byte
  refine ⟨fun req i op len hs hi => ?command, fun op items hw hop => ?ends⟩
  case command =>
    obtain ⟨hexec, hop⟩ := State.exec_settings_command hs hi
    intro items free size good refused
    have refuses {code : Nat} (hcode : code < 256) (h : s.settingsWrite op len = s.rstResult op code) : refused code :=
      State.settingsRefused_of_rstResult hop hcode (h ▸ hexec)
    have hitem : good ↔ (imgItems 512 (s.settingsItems op len)).all itemOk = true := Iff.rfl
    refine ⟨fun hb ha hf hgood => ?begins, fun hb => refuses (by decide) (State.settingsWrite_busy hb),
      fun hb ha => refuses (by decide) (State.settingsWrite_not_allowed hb ha),
      fun hb ha hf => refuses (by decide) (State.settingsWrite_not_fits hb ha hf),
      fun hb ha hf hgood => refuses (by decide) ((State.settingsWrite_fits hb ha hf).trans (if_pos ?item))⟩
    case begins =>
      rw [State.settingsWrite_fits hb ha hf, hitem.mp hgood] at hexec
      exact ⟨_, hexec, s.settingsStart_spec hop items⟩
    case item => rw [Bool.not_eq_true', ← Bool.not_eq_true, ← hitem]; exact hgood
  case ends =>
    have hop4 : op < 4 := by omega
    intro ended seq magic reads
    refine ⟨fun h => ⟨_, rfl, ?good⟩, fun h => ⟨_, rfl, State.settingsEnd_spec_bad hw hop4 h⟩,
      fun step h => ?fram, fun step h => ⟨_, rfl, ?timeout⟩, _, rfl, ?verify⟩
    case good =>
      obtain ⟨hended, hanswers, hseq, hmagic, hframe⟩ := State.settingsEnd_spec_good hw hop4 h
      refine ⟨hended, hanswers, hseq, ?_, hframe⟩
      change [State.smByte _ 0, State.smByte _ 1, State.smByte _ 2, State.smByte _ 3] = magic
      rw [hmagic 0 (by decide), hmagic 1 (by decide), hmagic 2 (by decide), hmagic 3 (by decide)]
      rfl
    case fram =>
      have hfram : s.isSet F.RST_STRAPS_CFG_SETMEM = true := by rw [State.isSet, h]; rfl
      exact congrArg _ ((State.settingsEnd_timeout hw step).trans (if_pos hfram))
    case timeout =>
      have heeprom : ¬s.isSet F.RST_STRAPS_CFG_SETMEM = true := by rw [State.isSet, h]; decide
      obtain ⟨a, n, hlost, hout⟩ := (s.settingsClosed op).settingsTimeout_eq_smLost step items
      have hend := (State.settingsEnd_timeout hw step).trans (if_neg heeprom)
      rw [hlost] at hend
      obtain ⟨hended, hanswers, hevr, hbytes, hkeeps⟩ := s.settingsEnd_spec_lost hop4 (by decide) a n hend
      exact ⟨hended, hanswers, hevr, fun k hk => hbytes k (hout k hk), hkeeps⟩
    case verify =>
      obtain ⟨hended, hanswers, hevr, hbytes, hkeeps⟩ :=
        s.settingsEnd_spec_lost hop4 (by decide) 0 _ (State.settingsEnd_verifyFailed hw)
      exact ⟨hended, hanswers, hevr, fun k hk => hbytes k (.inr (by omega)), hkeeps⟩

end Sys2Proof.Machine
end

section
/-!
PROOFS. Words of stitch code: the fields of a word written in a format, and the word of its fields; decoder and encoder
undo each other (R85, R86, Tables 4.4 and 4.5).
-/

namespace Sys2Proof
open Laws.Opcode
open BitVec (extractLsb'_append_eq_of_le extractLsb'_append_eq_left extractLsb'_append_eq_right
  extractLsb'_append_extractLsb'_eq_extractLsb' extractLsb'_append_extractLsb' extractLsb'_eq_self
  getLsbD_eq_extractLsb' eq_of_toNat_eq)

/-! ### The fields of a word written in a format -/

section
variable (op : BitVec 8) (fn : BitVec 9) (ft : BitVec 4) (k : BitVec 14) (h : BitVec 19) (n : BitVec 24)
  (a b c d : GReg) (sv : BitVec 9) (arg : BitVec 15)

@[simp] theorem fldD_encR : fldD (encR op fn b a d) = d :=
  (extractLsb'_append_eq_of_le (by decide)).trans extractLsb'_append_eq_right
@[simp] theorem fldD_encT : fldD (encT op ft c b a d) = d :=
  (extractLsb'_append_eq_of_le (by decide)).trans extractLsb'_append_eq_right
@[simp] theorem fldD_encK : fldD (encK op k a d) = d :=
  (extractLsb'_append_eq_of_le (by decide)).trans extractLsb'_append_eq_right
@[simp] theorem fldD_encH : fldD (encH op h d) = d :=
  (extractLsb'_append_eq_of_le (by decide)).trans extractLsb'_append_eq_right

@[simp] theorem fldA_encR : fldA (encR op fn b a d) = a :=
  (extractLsb'_append_eq_of_le (by decide)).trans
    ((extractLsb'_append_eq_of_le (by decide)).trans extractLsb'_append_eq_right)
@[simp] theorem fldA_encT : fldA (encT op ft c b a d) = a :=
  (extractLsb'_append_eq_of_le (by decide)).trans
    ((extractLsb'_append_eq_of_le (by decide)).trans extractLsb'_append_eq_right)
@[simp] theorem fldA_encK : fldA (encK op k a d) = a :=
  (extractLsb'_append_eq_of_le (by decide)).trans
    ((extractLsb'_append_eq_of_le (by decide)).trans extractLsb'_append_eq_right)

@[simp] theorem fldB_encR : fldB (encR op fn b a d) = b :=
  (extractLsb'_append_eq_of_le (by decide)).trans ((extractLsb'_append_eq_of_le (by decide)).trans
    ((extractLsb'_append_eq_of_le (by decide)).trans extractLsb'_append_eq_right))
@[simp] theorem fldB_encT : fldB (encT op ft c b a d) = b :=
  (extractLsb'_append_eq_of_le (by decide)).trans ((extractLsb'_append_eq_of_le (by decide)).trans
    ((extractLsb'_append_eq_of_le (by decide)).trans extractLsb'_append_eq_right))

@[simp] theorem fldC_encT : fldC (encT op ft c b a d) = c :=
  (extractLsb'_append_eq_of_le (by decide)).trans ((extractLsb'_append_eq_of_le (by decide)).trans
    ((extractLsb'_append_eq_of_le (by decide)).trans ((extractLsb'_append_eq_of_le (by decide)).trans
      extractLsb'_append_eq_right)))

@[simp] theorem fldFnR_encR : fldFnR (encR op fn b a d) = fn.toNat :=
  congrArg BitVec.toNat ((extractLsb'_append_eq_of_le (by decide)).trans
    ((extractLsb'_append_eq_of_le (by decide)).trans ((extractLsb'_append_eq_of_le (by decide)).trans
      extractLsb'_append_eq_left)))
@[simp] theorem fldFnT_encT : fldFnT (encT op ft c b a d) = ft.toNat :=
  congrArg BitVec.toNat ((extractLsb'_append_eq_of_le (by decide)).trans
    ((extractLsb'_append_eq_of_le (by decide)).trans ((extractLsb'_append_eq_of_le (by decide)).trans
      ((extractLsb'_append_eq_of_le (by decide)).trans extractLsb'_append_eq_left))))
@[simp] theorem fldK_encK : fldK (encK op k a d) = k :=
  (extractLsb'_append_eq_of_le (by decide)).trans
    ((extractLsb'_append_eq_of_le (by decide)).trans extractLsb'_append_eq_left)
@[simp] theorem fldH_encH : fldH (encH op h d) = h :=
  (extractLsb'_append_eq_of_le (by decide)).trans extractLsb'_append_eq_left
@[simp] theorem fldN_encN : fldN (encN op n) = n := extractLsb'_append_eq_left
@[simp] theorem service_encSys : (encSys sv arg).extractLsb' 23 9 = sv :=
  (extractLsb'_append_eq_of_le (by decide)).trans extractLsb'_append_eq_left
@[simp] theorem arg_encSys : (encSys sv arg).extractLsb' 8 15 = arg :=
  (extractLsb'_append_eq_of_le (by decide)).trans extractLsb'_append_eq_right

end

/-! ### K of SHK and the length of BMV -/

theorem bit_eq_extractLsb' {n : Nat} (x : BitVec n) (i : Nat) :
    (if x.getLsbD i then 1#1 else 0#1) = x.extractLsb' i 1 := by
  rw [getLsbD_eq_extractLsb']
  generalize x.extractLsb' i 1 = b
  revert b
  decide

/-- K of SHK: bits 13:9 zero, the .32 form, the kind, the amount (Table 4.4). -/
def shkK (w32 : Bool) (kind : ShiftKind) (n : BitVec 6) : BitVec 14 :=
  0#5 ++ (if w32 then 1#1 else 0#1) ++ shiftCode kind ++ n

section
variable (w32 : Bool) (kind : ShiftKind) (n : BitVec 6)

theorem shkK_zero : (shkK w32 kind n).extractLsb' 9 5 = 0#5 :=
  (extractLsb'_append_eq_of_le (by decide)).trans ((extractLsb'_append_eq_of_le (by decide)).trans
    extractLsb'_append_eq_left)
theorem shkK_kind : (shkK w32 kind n).extractLsb' 6 2 = shiftCode kind :=
  (extractLsb'_append_eq_of_le (by decide)).trans extractLsb'_append_eq_right
theorem shkK_amount : (shkK w32 kind n).extractLsb' 0 6 = n := extractLsb'_append_eq_right
theorem shkK_w32 : (shkK w32 kind n).getLsbD 8 = w32 := by
  have h : (shkK w32 kind n).extractLsb' 8 1 = if w32 then 1#1 else 0#1 :=
    (extractLsb'_append_eq_of_le (by decide)).trans ((extractLsb'_append_eq_of_le (by decide)).trans
      extractLsb'_append_eq_right)
  rw [getLsbD_eq_extractLsb', h]
  cases w32 <;> rfl

end

/-- A word of these fields is K of SHK. -/
theorem shkK_fields {kind : ShiftKind} {k : BitVec 14} (hz : k.extractLsb' 9 5 = 0#5)
    (hkind : (k.extractLsb' 6 2).toNat = (shiftCode kind).toNat) :
    shkK (k.getLsbD 8) kind (k.extractLsb' 0 6) = k := by
  unfold shkK
  rw [← eq_of_toNat_eq hkind, ← hz, bit_eq_extractLsb',
    extractLsb'_append_extractLsb'_eq_extractLsb' (start₁ := 8) (by decide),
    extractLsb'_append_extractLsb'_eq_extractLsb' (start₁ := 6) (by decide),
    extractLsb'_append_extractLsb'_eq_extractLsb' (start₁ := 0) (by decide)]
  exact extractLsb'_eq_self

/-- OP of BMV: the direction, and bit 14 of the length minus 1 (Table 4.4). -/
def bmvOp (dir long : Bool) : BitVec 8 := if dir then (if long then 0x3F else 0x3D) else if long then 0x3E else 0x3C

theorem bmv_length (n : BitVec 15) : BitVec.append (if n.getLsbD 14 then 1#1 else 0#1) (n.extractLsb' 0 14) = n := by
  rw [bit_eq_extractLsb']
  exact extractLsb'_append_extractLsb' (len := 14) (w := 1)

theorem decodeStitch_bmv (c : Nat) (dir long : Bool) (k : BitVec 14) (sh lo : GReg) :
    decodeStitch c (encK (bmvOp dir long) k sh lo) =
      some (.bmv c dir (BitVec.append (if long then 1#1 else 0#1) k) sh lo) := by
  cases dir <;> cases long <;> simp [bmvOp, decodeStitch, decodeMem]

theorem decodeStitch_shk (c : Nat) (w32 : Bool) (kind : ShiftKind) (d a : GReg) (n : BitVec 6) :
    decodeStitch c (encK 0x0D (shkK w32 kind n) a d) = some (.shk c kind w32 d a n) := by
  have hdecode : decodeStitch c (encK 0x0D (shkK w32 kind n) a d) = decodeShk c (encK 0x0D (shkK w32 kind n) a d) := by
    simp [decodeStitch, decodeImm]
  rw [hdecode]
  cases kind <;> simp [decodeShk, shkK_zero, shkK_kind, shkK_amount, shkK_w32, shiftCode, -BitVec.getLsbD_eq_getElem,
    -BitVec.extractLsb'_toNat]

theorem decodeStitch_sysBad {c : Nat} {sv : BitVec 9} {arg : BitVec 15} {w : BitVec 32}
    (h : (if knownService sv.toNat = true then none else some (encSys sv arg)) = some w) :
    decodeStitch c w = some (.sysBad c sv arg) := by
  split_ifs at h with hs
  cases h
  simp only [knownService, Bool.or_eq_true, beq_iff_eq, not_or] at hs
  have hflow : decodeStitch c (encSys sv arg) = decodeSys c (encSys sv arg) := by simp [decodeStitch, decodeFlow]
  rw [hflow]
  simp only [decodeSys, service_encSys, arg_encSys]
  split <;> simp_all

/-- The word of an instruction decodes to it, one case per format and family. -/
theorem decodeStitch_encodeStitch {i : Instr} {w : BitVec 32} (h : encodeStitch i = some w) :
    ∃ c, decodeStitch c w = some i := by
  cases i <;> simp only [encodeStitch, Option.some.injEq, reduceCtorEq] at h
  case sysBad c service arg => exact ⟨c, decodeStitch_sysBad h⟩
  all_goals subst h
  case add c w d a b | sub c w d a b | shl c w d a b | shr c w d a b | sar c w d a b =>
    exact ⟨c, by cases w <;> simp [decodeStitch, decodeAlu, fn32]⟩
  case and c d a b | ior c d a b | xor c d a b | cmplt c d a b | cmpltu c d a b | cmpeq c d a b | min c d a b | max
    c d a b =>
    exact ⟨c, by simp [decodeStitch, decodeAlu]⟩
  case mul c w d a b | divs c w d a b | divu c w d a b | mods c w d a b | modu c w d a b =>
    exact ⟨c, by cases w <;> simp [decodeStitch, decodeMulDiv, fn32]⟩
  case mulhs c d a b | mulhu c d a b =>
    exact ⟨c, by simp [decodeStitch, decodeMulDiv]⟩
  case gets c r k | puts c r k =>
    exact ⟨c, by simp [decodeStitch, decodeImm]⟩
  case addk c d a k | andk c d a k | iork c d a k | xork c d a k | cmpltk c d a k =>
    exact ⟨c, by simp [decodeStitch, decodeImm]⟩
  case lih c d k =>
    exact ⟨c, by simp [decodeStitch, decodeImm]⟩
  case shk c kind w d a n =>
    exact ⟨c, decodeStitch_shk ..⟩
  case fadd c f d a b | fsub c f d a b | fmul c f d a b | fmin c f d a b | fmax c f d a b | fcmpeq c f d a b |
    fcmplt c f d a b | fcmple c f d a b | fdiv c f d a b =>
    exact ⟨c, by cases f <;> simp [decodeStitch, decodeFp, opFp]⟩
  case fneg c f d a | fabs c f d a | fsqrt c f d a =>
    exact ⟨c, by cases f <;> simp [decodeStitch, decodeFp, opFp]⟩
  case fma c f d a b e | fms c f d a b e | fnma c f d a b e =>
    exact ⟨c, by cases f <;> simp [decodeStitch, decodeFma]⟩
  case f64F32 c d a | f32F64 c d a | f64I64 c d a | f32I64 c d a | i64F64t c d a | i64F32t c d a | i64F64n c d a |
    i64F32n c d a =>
    exact ⟨c, by simp [decodeStitch, decodeCvt]⟩
  case l8s c d a k | l8u c d a k | l16s c d a k | l16u c d a k | l32s c d a k | l32u c d a k | l64 c d a k | s8 c d
    a k | s16 c d a k | s32 c d a k | s64 c d a k | ls8s c d a k | ls8u c d a k | ls16s c d a k | ls16u c d a k |
    ls32s c d a k | ls32u c d a k | ls64 c d a k | ss8 c d a k | ss16 c d a k | ss32 c d a k | ss64 c d a k =>
    exact ⟨c, by simp [decodeStitch, decodeMem]⟩
  case bmv c dir n sh lo =>
    exact ⟨c, (decodeStitch_bmv c dir (n.getLsbD 14) _ _ _).trans (by rw [bmv_length])⟩
  case bcEq c a b o | bcNe c a b o | bcLts c a b o | bcGes c a b o | bcLtu c a b o | bcGeu c a b o =>
    exact ⟨c, by simp [decodeStitch, decodeFlow]⟩
  case gor c a k | callr c a k | callb c a k =>
    exact ⟨c, by simp [decodeStitch, decodeFlow]⟩
  case go c n | call c n =>
    exact ⟨c, by simp [decodeStitch, decodeFlow]⟩
  case ret c | retb c | endEntry c =>
    exact ⟨c, by simp [decodeStitch, decodeFlow]⟩
  case qPut c arg | qGet c arg | qStat c arg | evtRaise c arg | evtArg c arg | regRd c arg | regWr c arg | recRaise
    c arg | timeRd c arg =>
    exact ⟨c, by simp [decodeStitch, decodeFlow, decodeSys]⟩

/-! ### A word is the word of its fields -/

section
variable {w : BitVec 32} {op : BitVec 8}

theorem encR_fields {fn : BitVec 9} (hop : opOf w = op.toNat) (hfn : fldFnR w = fn.toNat) :
    encR op fn (fldB w) (fldA w) (fldD w) = w := by
  obtain rfl : w.extractLsb' 0 8 = op := eq_of_toNat_eq hop
  obtain rfl : w.extractLsb' 23 9 = fn := eq_of_toNat_eq hfn
  unfold encR fldB fldA fldD
  rw [extractLsb'_append_extractLsb'_eq_extractLsb' (start₁ := 18) (by decide),
    extractLsb'_append_extractLsb'_eq_extractLsb' (start₁ := 13) (by decide),
    extractLsb'_append_extractLsb'_eq_extractLsb' (start₁ := 8) (by decide),
    extractLsb'_append_extractLsb'_eq_extractLsb' (start₁ := 0) (by decide)]
  exact extractLsb'_eq_self

theorem encT_fields {fn : BitVec 4} (hop : opOf w = op.toNat) (hfn : fldFnT w = fn.toNat) :
    encT op fn (fldC w) (fldB w) (fldA w) (fldD w) = w := by
  obtain rfl : w.extractLsb' 0 8 = op := eq_of_toNat_eq hop
  obtain rfl : w.extractLsb' 28 4 = fn := eq_of_toNat_eq hfn
  unfold encT fldC fldB fldA fldD
  rw [extractLsb'_append_extractLsb'_eq_extractLsb' (start₁ := 23) (by decide),
    extractLsb'_append_extractLsb'_eq_extractLsb' (start₁ := 18) (by decide),
    extractLsb'_append_extractLsb'_eq_extractLsb' (start₁ := 13) (by decide),
    extractLsb'_append_extractLsb'_eq_extractLsb' (start₁ := 8) (by decide),
    extractLsb'_append_extractLsb'_eq_extractLsb' (start₁ := 0) (by decide)]
  exact extractLsb'_eq_self

theorem encK_fields (hop : opOf w = op.toNat) : encK op (fldK w) (fldA w) (fldD w) = w := by
  obtain rfl : w.extractLsb' 0 8 = op := eq_of_toNat_eq hop
  unfold encK fldK fldA fldD
  rw [extractLsb'_append_extractLsb'_eq_extractLsb' (start₁ := 13) (by decide),
    extractLsb'_append_extractLsb'_eq_extractLsb' (start₁ := 8) (by decide),
    extractLsb'_append_extractLsb'_eq_extractLsb' (start₁ := 0) (by decide)]
  exact extractLsb'_eq_self

theorem encH_fields (hop : opOf w = op.toNat) : encH op (fldH w) (fldD w) = w := by
  obtain rfl : w.extractLsb' 0 8 = op := eq_of_toNat_eq hop
  unfold encH fldH fldD
  rw [extractLsb'_append_extractLsb'_eq_extractLsb' (start₁ := 8) (by decide),
    extractLsb'_append_extractLsb'_eq_extractLsb' (start₁ := 0) (by decide)]
  exact extractLsb'_eq_self

theorem encN_fields (hop : opOf w = op.toNat) : encN op (fldN w) = w := by
  obtain rfl : w.extractLsb' 0 8 = op := eq_of_toNat_eq hop
  unfold encN fldN
  rw [extractLsb'_append_extractLsb'_eq_extractLsb' (start₁ := 0) (by decide)]
  exact extractLsb'_eq_self

theorem encSys_fields {sv : BitVec 9} (hop : opOf w = 0x50) (hsv : (w.extractLsb' 23 9).toNat = sv.toNat) :
    encSys sv (w.extractLsb' 8 15) = w := by
  have hop' : w.extractLsb' 0 8 = 0x50#8 := eq_of_toNat_eq hop
  obtain rfl : w.extractLsb' 23 9 = sv := eq_of_toNat_eq hsv
  unfold encSys
  rw [← hop', extractLsb'_append_extractLsb'_eq_extractLsb' (start₁ := 8) (by decide),
    extractLsb'_append_extractLsb'_eq_extractLsb' (start₁ := 0) (by decide)]
  exact extractLsb'_eq_self

end

/-! ### What each decoder gives -/

/-- The word is that of a well-formed instruction. -/
def Spells (w : BitVec 32) (i : Instr) : Prop := encodeStitch i = some w ∧ i.wellFormed = true

section
variable {c : Nat} {w : BitVec 32} {i : Instr} (hc : c < 8)
include hc

theorem spells_decodeAlu (hop : opOf w = 1) (h : decodeAlu c w = some i) : Spells w i := by
  unfold decodeAlu at h
  split at h <;> cases h <;>
    exact ⟨congrArg some (encR_fields hop (by assumption)), decide_eq_true hc⟩

theorem spells_decodeShk (hop : opOf w = 0x0D) (h : decodeShk c w = some i) : Spells w i := by
  unfold decodeShk at h
  simp only at h
  split_ifs at h with hz
  have spells {kind : ShiftKind} (hkind : ((fldK w).extractLsb' 6 2).toNat = (shiftCode kind).toNat) :
      Spells w (.shk c kind ((fldK w).getLsbD 8) (fldD w) (fldA w) ((fldK w).extractLsb' 0 6)) :=
    ⟨congrArg some ((congrArg (encK 0x0D · _ _) (shkK_fields (not_not.1 hz) hkind)).trans (encK_fields hop)),
      decide_eq_true hc⟩
  split at h <;> cases h
  · exact spells (kind := .shl) ‹_›
  · exact spells (kind := .shr) ‹_›
  · exact spells (kind := .sar) ‹_›

theorem spells_decodeMulDiv (hop : opOf w = 2 ∨ opOf w = 3) (h : decodeMulDiv c w = some i) : Spells w i := by
  unfold decodeMulDiv at h
  split_ifs at h with h2
  · split at h <;> cases h <;> exact ⟨congrArg some (encR_fields h2 (by assumption)), decide_eq_true hc⟩
  · have h3 : opOf w = 3 := hop.resolve_left h2
    split at h <;> cases h <;> exact ⟨congrArg some (encR_fields h3 (by assumption)), decide_eq_true hc⟩

theorem spells_decodeFp {f : Bool} (hop : opOf w = (opFp f).toNat) (h : decodeFp c f w = some i) : Spells w i := by
  unfold decodeFp at h
  split at h
  case h_6 hfn | h_7 hfn | h_12 hfn =>
    split_ifs at h with hb
    cases h
    exact ⟨congrArg some (hb ▸ encR_fields hop hfn), decide_eq_true hc⟩
  case h_13 => cases h
  all_goals
    cases h
    exact ⟨congrArg some (encR_fields hop ‹_›), decide_eq_true hc⟩

theorem spells_decodeFma (hop : opOf w = 0x12) (h : decodeFma c w = some i) : Spells w i := by
  unfold decodeFma at h
  split at h <;> cases h <;> exact ⟨congrArg some (encT_fields hop (by assumption)), decide_eq_true hc⟩

theorem spells_decodeCvt (hop : opOf w = 0x13) (h : decodeCvt c w = some i) : Spells w i := by
  unfold decodeCvt at h
  split_ifs at h with hb
  have hb : fldB w = 0 := not_not.1 hb
  split at h <;> cases h <;> exact ⟨congrArg some (hb ▸ encR_fields hop (by assumption)), decide_eq_true hc⟩

theorem spells_decodeImm (h : decodeImm c w = some i) : Spells w i := by
  unfold decodeImm at h
  split at h
  case h_1 hop | h_2 hop =>
    split_ifs at h with hz
    cases h
    exact ⟨congrArg some (hz ▸ encK_fields hop), decide_eq_true hc⟩
  case h_8 hop => exact spells_decodeShk hc hop h
  case h_9 hop =>
    cases h
    exact ⟨congrArg some (encH_fields hop), decide_eq_true hc⟩
  case h_10 => cases h
  all_goals
    cases h
    exact ⟨congrArg some (encK_fields ‹_›), decide_eq_true hc⟩

/-- BMV takes the high bit of its length from OP (Table 4.4). -/
theorem spells_bmv {dir long : Bool} (hop : opOf w = (bmvOp dir long).toNat) :
    Spells w (.bmv c dir (BitVec.append (if long then 1#1 else 0#1) (fldK w)) (fldA w) (fldD w)) := by
  have hhigh : (BitVec.append (if long then 1#1 else 0#1) (fldK w)).getLsbD 14 = long := by
    have h : (BitVec.append (if long then 1#1 else 0#1) (fldK w)).extractLsb' 14 1 = if long then 1#1 else 0#1 :=
      extractLsb'_append_eq_left
    rw [getLsbD_eq_extractLsb', h]
    cases long <;> rfl
  have hlow : (BitVec.append (if long then 1#1 else 0#1) (fldK w)).extractLsb' 0 14 = fldK w :=
    extractLsb'_append_eq_right
  refine ⟨congrArg some ?_, decide_eq_true hc⟩
  rw [hhigh, hlow]
  exact encK_fields hop

theorem spells_decodeMem (h : decodeMem c w = some i) : Spells w i := by
  unfold decodeMem at h
  split at h
  case h_23 hop => cases h; exact spells_bmv (dir := false) (long := false) hc hop
  case h_24 hop => cases h; exact spells_bmv (dir := true) (long := false) hc hop
  case h_25 hop => cases h; exact spells_bmv (dir := false) (long := true) hc hop
  case h_26 hop => cases h; exact spells_bmv (dir := true) (long := true) hc hop
  case h_27 => cases h
  all_goals
    cases h
    exact ⟨congrArg some (encK_fields ‹_›), decide_eq_true hc⟩

theorem spells_decodeSys (hop : opOf w = 0x50) (h : decodeSys c w = some i) : Spells w i := by
  unfold decodeSys at h
  simp only at h
  split at h
  case h_10 =>
    cases h
    refine ⟨?_, decide_eq_true hc⟩
    have hs : knownService (w.extractLsb' 23 9).toNat = false := by
      simp only [knownService, Bool.or_eq_false_iff, beq_eq_false_iff_ne]
      tauto
    exact (if_neg (by rw [hs]; decide)).trans (congrArg some (encSys_fields hop rfl))
  all_goals
    cases h
    exact ⟨congrArg some (encSys_fields hop ‹_›), decide_eq_true hc⟩

theorem spells_decodeFlow (h : decodeFlow c w = some i) : Spells w i := by
  unfold decodeFlow at h
  split at h
  case h_7 hop | h_9 hop =>
    cases h
    exact ⟨congrArg some (encN_fields hop), decide_eq_true hc⟩
  case h_8 hop | h_10 hop =>
    split_ifs at h with hd
    cases h
    exact ⟨congrArg some (hd ▸ encK_fields hop), decide_eq_true hc⟩
  case h_11 hop | h_13 hop | h_14 hop =>
    split_ifs at h with hn
    cases h
    exact ⟨congrArg some (hn ▸ encN_fields hop), decide_eq_true hc⟩
  case h_12 hop =>
    cases h
    exact ⟨congrArg some (encH_fields hop), decide_eq_true hc⟩
  case h_15 hop => exact spells_decodeSys hc hop h
  case h_16 => cases h
  all_goals
    cases h
    exact ⟨congrArg some (encK_fields ‹_›), decide_eq_true hc⟩

/-- A word that decodes to an instruction is its word, and the instruction names a core of the module. -/
theorem spells_decodeStitch (h : decodeStitch c w = some i) : Spells w i := by
  unfold decodeStitch at h
  simp only at h
  split_ifs at h with h1 h2 h3 h4 h5 h6
  · exact spells_decodeAlu hc h1 h
  · exact spells_decodeMulDiv hc h2 h
  · exact spells_decodeFp (f := false) hc h3 h
  · exact spells_decodeFp (f := true) hc h4 h
  · exact spells_decodeFma hc h5 h
  · exact spells_decodeCvt hc h6 h
  · exact spells_decodeImm hc h
  · exact spells_decodeMem hc h
  · exact spells_decodeFlow hc h

end

/-- Settles O57: one lemma for each direction. -/
theorem stitchRoundTrip : Obligations.StitchRoundTrip :=
  ⟨fun _ _ => decodeStitch_encodeStitch, fun _ _ _ => spells_decodeStitch⟩

end Sys2Proof
end

section
/-!
PROOFS. The registers of a core (R80), the front of the queue, the state after reset, words of stitch code.
-/

namespace Sys2Proof.Machine

-- One proof after another: a side condition by `decide` waits for every proof before it, on a thread of its own.
set_option Elab.async false

/-! ### Registers of a core (R80) -/

theorem Core.rd_zero (x : Core) : x.rd 0 = 0 := if_pos rfl

theorem Core.wr_zero (x : Core) (v : BitVec 64) : x.wr 0 v = x := if_pos rfl

theorem Core.rd_wr_same (x : Core) {r : GReg} (v : BitVec 64) (h : r ≠ 0) : (x.wr r v).rd r = v := by
  simp only [Core.rd, Core.wr, if_neg h, Vector.getElem_set_self]

theorem Core.rd_wr_ne (x : Core) {r q : GReg} (v : BitVec 64) (h : q ≠ r) : (x.wr r v).rd q = x.rd q := by
  have hne : r.toNat ≠ q.toNat := fun he => h (BitVec.eq_of_toNat_eq he.symm)
  simp only [Core.rd, Core.wr]
  split_ifs
  · rfl
  · rfl
  · exact Vector.getElem_set_ne (by have := r.isLt; omega) (by have := q.isLt; omega) hne

@[simp] theorem Core.wr_pc (x : Core) (r : GReg) (v : BitVec 64) : (x.wr r v).pc = x.pc := by
  simp only [Core.wr]; split_ifs <;> rfl
@[simp] theorem Core.wr_ib (x : Core) (r : GReg) (v : BitVec 64) : (x.wr r v).ib = x.ib := by
  simp only [Core.wr]; split_ifs <;> rfl
@[simp] theorem Core.wr_fst (x : Core) (r : GReg) (v : BitVec 64) : (x.wr r v).fst = x.fst := by
  simp only [Core.wr]; split_ifs <;> rfl
@[simp] theorem Core.wr_cyc (x : Core) (r : GReg) (v : BitVec 64) : (x.wr r v).cyc = x.cyc := by
  simp only [Core.wr]; split_ifs <;> rfl

/-- Settles O1: the laws of rd and wr. -/
theorem coreRegisters : Obligations.CoreRegisters := fun x r _ v =>
  ⟨(x.wr r v).rd_zero, x.wr_zero v, x.rd_wr_same v, x.rd_wr_ne v, x.wr_pc r v, x.wr_ib r v, x.wr_fst r v, x.wr_cyc r v⟩

/-! ### The front of the queue -/

theorem step_of_cons {s : State} {c : Instr} {rest : List Instr} (h : s.pending = c :: rest) :
    step s = exec c { s with pending := rest } := by
  simp only [step, h]

theorem step_of_nil {s : State} (h : s.pending = []) : step s = .next s := by
  simp only [step, h]

/-- Settles O55: the two cases of a step. -/
theorem stepRunsTheFront : Obligations.StepRunsTheFront := ⟨fun _ _ _ => step_of_cons, fun _ => step_of_nil⟩

/-! ### The state after reset -/

/-- Settles O56: the reset state lists no register and no byte, so that each reads as its table and 0. -/
theorem afterReset : Obligations.AfterReset :=
  ⟨rfl, rfl, rfl, rfl, rfl, rfl, fun _ => rfl, fun _ => rfl, rfl, rfl, by decide +kernel, by decide +kernel,
    fun _ => rfl, rfl⟩

/-! ### Words of stitch code -/

/-- Settles O58: the decoder at eleven words, whatever the core. -/
theorem stitchWords : Obligations.StitchWords := fun _ =>
  ⟨rfl, rfl, rfl, rfl, rfl, rfl, rfl, rfl, rfl, rfl, rfl⟩

end Sys2Proof.Machine
end

section
/-!
PROOFS. Frames of the remaining operations on the state, and their composition one operation at a time; what the accessors
of cores, agents, queues and signatures read after a write.
-/

namespace Sys2Proof.Machine

-- One proof after another: a side condition by `decide` waits for every proof before it, on a thread of its own.
set_option Elab.async false

/-! ### Composing frames, one operation at a time -/

section
variable {s t u : State} {a b : List Nat} {l m : List Part}

/-- The next operation of a chain, whose registers and parts are among those already named. -/
theorem State.alters.step (h : s.alters t a l) (h' : t.alters u b m) (hb : b ⊆ a := by simp)
    (hm : m ⊆ l := by decide) : s.alters u a l :=
  (h.trans h').mono (List.append_subset.2 ⟨fun _ h => h, hb⟩) (List.append_subset.2 ⟨fun _ h => h, hm⟩)

theorem State.keeps.step (h : s.keeps t l) (h' : t.alters u b m) (hm : m ⊆ l := by decide) : s.keeps u l :=
  (State.keeps.trans h h'.keeps).mono (List.append_subset.2 ⟨fun _ h => h, hm⟩)

theorem State.keeps.next (h : s.keeps t l) (h' : t.keeps u m) (hm : m ⊆ l := by decide) : s.keeps u l :=
  (State.keeps.trans h h').mono (List.append_subset.2 ⟨fun _ h => h, hm⟩)

theorem State.keeps.ite (c : Prop) [Decidable c] (ht : s.keeps t l) (hu : s.keeps u l) :
    s.keeps (if c then t else u) l := by
  split_ifs <;> assumption

end

/-- A fold of operations with one frame; the state is a part of what the fold carries. -/
theorem State.alters_foldl_of {γ α : Type} (st : γ → State) (f : γ → α → γ) {a : List Nat} {l : List Part}
    (hf : ∀ x y, (st x).alters (st (f x y)) a l) (xs : List α) (x : γ) : (st x).alters (st (xs.foldl f x)) a l := by
  induction xs generalizing x with
  | nil => exact State.alters_refl _ _ _
  | cons y xs ih => exact (hf x y).step (ih (f x y)) (fun _ h => h) (fun _ h => h)

theorem State.keeps_foldl {γ α : Type} (st : γ → State) (f : γ → α → γ) {l : List Part}
    (hf : ∀ x y, (st x).keeps (st (f x y)) l) (xs : List α) (x : γ) : (st x).keeps (st (xs.foldl f x)) l := by
  induction xs generalizing x with
  | nil => exact State.keeps_refl _ _
  | cons y xs ih => exact (hf x y).next (ih (f x y)) (fun _ h => h)

/-! ### The frame of each operation -/

section
variable (s : State)

theorem State.alters_station (x : StationState) : s.alters { s with station := x } [] [.station] :=
  alters_part (by decide) fun p hp => by cases p <;> simp [Part.same, getR, rdByte, core, queueState] at hp ⊢

theorem State.alters_clock (x : Clock) : s.alters { s with clock := x } [] [.clock] :=
  alters_part (by decide) fun p hp => by cases p <;> simp [Part.same, getR, rdByte, core, queueState] at hp ⊢

theorem State.alters_sched (x : Sched) : s.alters { s with sched := x } [] [.sched] :=
  alters_part (by decide) fun p hp => by cases p <;> simp [Part.same, getR, rdByte, core, queueState] at hp ⊢

theorem State.alters_wsig (x : Store WSig) : s.alters { s with wsig := x } [] [.wsig] :=
  alters_part (by decide) fun p hp => by cases p <;> simp [Part.same, getR, rdByte, core, queueState] at hp ⊢

theorem State.alters_tasks (x : Tasks) : s.alters { s with tasks := x } [] [.tasks] :=
  alters_part (by decide) fun p hp => by cases p <;> simp [Part.same, getR, rdByte, core, queueState] at hp ⊢

theorem State.alters_fio (x : FieldIo) : s.alters { s with fio := x } [] [.fio] :=
  alters_part (by decide) fun p hp => by cases p <;> simp [Part.same, getR, rdByte, core, queueState] at hp ⊢

theorem State.alters_lpe (x : LoopEng) : s.alters { s with lpe := x } [] [.lpe] :=
  alters_part (by decide) fun p hp => by cases p <;> simp [Part.same, getR, rdByte, core, queueState] at hp ⊢

theorem State.alters_qps (x : Solver) : s.alters { s with qps := x } [] [.qps] :=
  alters_part (by decide) fun p hp => by cases p <;> simp [Part.same, getR, rdByte, core, queueState] at hp ⊢

theorem State.alters_net (x : Network) : s.alters { s with net := x } [] [.net] :=
  alters_part (by decide) fun p hp => by cases p <;> simp [Part.same, getR, rdByte, core, queueState] at hp ⊢

theorem State.alters_can (x : CanNet) : s.alters { s with can := x } [] [.can] :=
  alters_part (by decide) fun p hp => by cases p <;> simp [Part.same, getR, rdByte, core, queueState] at hp ⊢

theorem State.alters_pair (x : Pair) : s.alters { s with pair := x } [] [.pair] :=
  alters_part (by decide) fun p hp => by cases p <;> simp [Part.same, getR, rdByte, core, queueState] at hp ⊢

theorem State.alters_pwr (x : Power) : s.alters { s with pwr := x } [] [.pwr] :=
  alters_part (by decide) fun p hp => by cases p <;> simp [Part.same, getR, rdByte, core, queueState] at hp ⊢

theorem State.alters_sec (x : Security) : s.alters { s with sec := x } [] [.sec] :=
  alters_part (by decide) fun p hp => by cases p <;> simp [Part.same, getR, rdByte, core, queueState] at hp ⊢

theorem State.alters_rst (x : ResetState) : s.alters { s with rst := x } [] [.rst] :=
  alters_part (by decide) fun p hp => by cases p <;> simp [Part.same, getR, rdByte, core, queueState] at hp ⊢

theorem State.alters_tmp (x : Thermal) : s.alters { s with tmp := x } [] [.tmp] :=
  alters_part (by decide) fun p hp => by cases p <;> simp [Part.same, getR, rdByte, core, queueState] at hp ⊢

theorem State.alters_dgt (x : Diagnosis) : s.alters { s with dgt := x } [] [.dgt] :=
  alters_part (by decide) fun p hp => by cases p <;> simp [Part.same, getR, rdByte, core, queueState] at hp ⊢

theorem State.alters_setR (a : Nat) (w : BitVec 32) : s.alters (s.setR a w) [a] [.regs] :=
  ⟨fun b hb => s.getR_setR_ne a b w (by simpa using hb), fun p hp => by
    cases p <;> simp [Part.same, rdByte, core, queueState] at hp ⊢⟩

theorem State.alters_setB (f : Fld) (b : Bool) : s.alters (s.setB f b) [f.addr] [.regs] := s.alters_setF f _
theorem State.alters_addSat (f : Fld) (n : Nat) : s.alters (s.addSat f n) [f.addr] [.regs] := s.alters_setF f _
theorem State.alters_incSat (f : Fld) : s.alters (s.incSat f) [f.addr] [.regs] := s.alters_setF f _
theorem State.alters_incWrap (f : Fld) : s.alters (s.incWrap f) [f.addr] [.regs] := s.alters_setF f _
theorem State.alters_decF (f : Fld) : s.alters (s.decF f) [f.addr] [.regs] := s.alters_setF f _

theorem State.alters_wrLe (a n v : Nat) : s.alters (s.wrLe a n v) [] [.mem] := s.alters_wrBytes a _

theorem State.alters_setCore (c : Nat) (x : Core) : s.alters (s.setCore c x) [] [.cores] :=
  alters_part (by decide) fun p hp => by
    cases p <;> simp [Part.same, getR, rdByte, queueState, State.setCore] at hp ⊢

theorem State.alters_setQueue (q : Nat) (x : QueueState) : s.alters (s.setQueue q x) [] [.queues] :=
  alters_part (by decide) fun p hp => by
    cases p <;> simp [Part.same, getR, rdByte, core, State.setQueue] at hp ⊢

theorem State.alters_setAgent (a : Nat) (x : Agent) : s.alters (s.setAgent a x) [] [.sched] := s.alters_sched _

end

/-! ### Cores, agents, queues and signatures -/

@[simp] theorem State.core_setCore_same (s : State) (c : Nat) (x : Core) : (s.setCore c x).core c = x :=
  Store.get_set_same _ s.cores c x
theorem State.core_setCore_ne (s : State) {c j : Nat} (x : Core) (h : j ≠ c) : (s.setCore c x).core j = s.core j :=
  Store.get_set_ne _ s.cores c j x h
@[simp] theorem State.agent_setAgent_same (s : State) (a : Nat) (x : Agent) : (s.setAgent a x).agent a = x :=
  Store.get_set_same _ s.sched.agents a x
theorem State.agent_setAgent_ne (s : State) {a j : Nat} (x : Agent) (h : j ≠ a) : (s.setAgent a x).agent j = s.agent j :=
  Store.get_set_ne _ s.sched.agents a j x h
@[simp] theorem State.queueState_setQueue_same (s : State) (q : Nat) (x : QueueState) :
    (s.setQueue q x).queueState q = x := Store.get_set_same _ s.queues q x
theorem State.queueState_setQueue_ne (s : State) {q j : Nat} (x : QueueState) (h : j ≠ q) :
    (s.setQueue q x).queueState j = s.queueState j := Store.get_set_ne _ s.queues q j x h

theorem State.agent_of_sched {s t : State} (h : t.sched = s.sched) (a : Nat) : t.agent a = s.agent a := by
  simp only [State.agent, h]

/-! ### Fields -/

theorem State.getF_lt (s : State) (f : Fld) (hf : f.inWord) : s.getF f < 2 ^ f.width := f.pick_lt _ hf

/-- A field that holds the value keeps it. -/
theorem State.getF_setF_fits (s : State) {f : Fld} {v : Nat} (hf : f.inWord) (hv : v < 2 ^ f.width) :
    (s.setF f v).getF f = v := (s.getF_setF_same f v hf).trans (Nat.mod_eq_of_lt hv)

theorem State.getF_addSat_same (s : State) {f : Fld} (n : Nat) (hf : f.inWord) :
    (s.addSat f n).getF f = min (2 ^ f.width - 1) (s.getF f + n) :=
  s.getF_setF_fits hf (by have : 0 < 2 ^ f.width := by positivity
                          omega)

theorem State.getF_incSat_same (s : State) {f : Fld} (hf : f.inWord) :
    (s.incSat f).getF f = min (2 ^ f.width - 1) (s.getF f + 1) := s.getF_addSat_same 1 hf

end Sys2Proof.Machine
end

section
/-!
PROOFS. One instruction of an application core: what ECC findings leave alone, the fetch, and the instruction that
executes, spends its cycles only, or raises (R49, R91, R102).
-/

namespace Sys2Proof.Machine

-- One proof after another: a side condition by `decide` waits for every proof before it, on a thread of its own.
set_option Elab.async false

/-! ### ECC findings -/

/-- The parts that ECC findings change. -/
abbrev eccParts : List Part := [.ecc, .regs, .evr, .saf]

theorem State.keeps_moduleWide (s : State) (c : HaltCause) : s.keeps (s.moduleWide c) [.saf, .regs] :=
  State.keeps.step ((s.alters_saf _).keeps.mono (by decide)) (alters_setB _ _ _)

theorem State.keeps_eccCorrected (s : State) (array index : Nat) : s.keeps (s.eccCorrected array index) eccParts :=
  have hcount : s.keeps _ eccParts := (s.keeps_refl _).step (s.alters_incSat (F.APC_ECC_ARRAY_CORRECTED array))
  .step (.ite _ (hcount.step (alters_ecc _ _)) (hcount.step (alters_incSat _ _))) (alters_raise _ _ _ _)

theorem State.keeps_eccUncorrectable (s : State) (array index finder : Nat) :
    s.keeps (s.eccUncorrectable array index finder) [.regs, .evr, .saf] := by
  have hcount : s.keeps _ [.regs, .evr, .saf] := (s.keeps_refl _).step (s.alters_incSat F.APC_ECC_UE_COUNT)
  have hfirst := ((((hcount.step (alters_setF _ F.APC_ECC_UE_VALID 1)).step
    (alters_setF _ F.APC_ECC_UE_FINDER finder)).step (alters_setF _ F.APC_ECC_UE_ARRAY array)).step
    (alters_setF _ F.APC_ECC_UE_ADDR_INDEX index))
  unfold State.eccUncorrectable
  exact .ite _ (((State.keeps.ite _ hcount hfirst).step (alters_raiseCls _ _ _ _ _)).next (keeps_moduleWide _ _))
    ((State.keeps.ite _ hcount hfirst).step (alters_raiseCls _ _ _ _ _))

theorem State.keeps_eccReadWord (s : State) (a finder : Nat) : s.keeps (s.eccReadWord a finder).2 eccParts := by
  unfold State.eccReadWord
  split
  · exact s.keeps_refl _
  · split
    · exact s.keeps_refl _
    · exact s.keeps_eccCorrected _ _
    · exact (s.keeps_eccUncorrectable _ _ _).mono (by decide)

theorem State.keeps_eccRead (s : State) (a n finder : Nat) : s.keeps (s.eccRead a n finder).2 eccParts :=
  State.keeps_foldl (γ := Bool × State) Prod.snd _ (fun x _ => by
    split_ifs
    · exact x.2.keeps_refl _
    · exact x.2.keeps_eccReadWord _ _) _ (false, s)

/-! ### The fetch -/

theorem State.keeps_fetch (s : State) (c : Nat) (pc : BitVec 32) : s.keeps (s.fetch c pc).2 eccParts := by
  have hread := s.keeps_eccReadWord (Mem.iram c + pc.toNat / 8 * 8) 1
  unfold State.fetch
  split_ifs
  · split <;> simp_all
  · exact s.keeps_refl _

theorem State.keeps_fetched (s : State) (c : Nat) : s.keeps (s.fetched c) eccParts := s.keeps_fetch c _

@[simp] theorem State.core_fetched (s : State) (c j : Nat) : (s.fetched c).core j = s.core j :=
  s.keeps_fetched c .cores (by decide) j
@[simp] theorem State.rdByte_fetched (s : State) (c a : Nat) : (s.fetched c).rdByte a = s.rdByte a :=
  s.keeps_fetched c .mem (by decide) a
@[simp] theorem State.queueState_fetched (s : State) (c q : Nat) : (s.fetched c).queueState q = s.queueState q :=
  s.keeps_fetched c .queues (by decide) q
@[simp] theorem State.sched_fetched (s : State) (c : Nat) : (s.fetched c).sched = s.sched :=
  s.keeps_fetched c .sched (by decide)
@[simp] theorem State.pat_fetched (s : State) (c : Nat) : (s.fetched c).pat = s.pat := s.keeps_fetched c .pat (by decide)
@[simp] theorem State.clock_fetched (s : State) (c : Nat) : (s.fetched c).clock = s.clock :=
  s.keeps_fetched c .clock (by decide)
@[simp] theorem State.agent_fetched (s : State) (c a : Nat) : (s.fetched c).agent a = s.agent a :=
  agent_of_sched (s.sched_fetched c) a

/-! ### Budgets -/

theorem State.affords.mono {s : State} {c m n : Nat} (h : s.affords c n) (hm : m ≤ n) : s.affords c m := by
  obtain ⟨r, hr, hle⟩ := h
  exact ⟨r, hr, by omega⟩

theorem overBudget_eq_false {r : Running} {cyc : Nat} : overBudget r cyc = false ↔ cyc ≤ r.entry.budget := by
  simp [overBudget]

theorem State.affords_iff {s : State} {c cost : Nat} {r : Running} (hr : (s.agent c).running = some r) :
    s.affords c cost ↔ overBudget r ((s.core c).cyc + cost) = false := by
  rw [overBudget_eq_false]
  exact ⟨fun ⟨_, hr', hle⟩ => by cases hr.symm.trans hr'; exact hle, fun hle => ⟨r, hr, hle⟩⟩

/-! ### An instruction that executes -/

section
variable {c cost : Nat} {i : Instr} {s t : State} {f : Core → State → CoreStep} {pc : BitVec 32}

/-- A core within its budget that fetches its next instruction. -/
theorem State.fetches.ready (hf : s.fetches c) (h0 : s.affords c 0) : ∃ r, (s.agent c).running = some r ∧
    overBudget r (s.core c).cyc = false ∧ s.fetch c (s.core c).pc = (none, s.fetched c) := by
  obtain ⟨-, -, hfetch⟩ := hf
  obtain ⟨r, hr, hle⟩ := h0
  exact ⟨r, hr, overBudget_eq_false.2 (by omega), Prod.ext hfetch rfl⟩

theorem State.coreRun_ok (hf : s.fetches c) (ha : s.affords c cost) (hok : f (s.core c) (s.fetched c) = .ok t pc) :
    s.coreRun c cost f = (t.setCore c { t.core c with pc := pc }).spend c cost := by
  obtain ⟨r, hr, hover, hfetch⟩ := hf.ready (ha.mono (Nat.zero_le _))
  simp only [State.coreRun, hr, hover, hfetch, State.core_fetched, hok, (State.affords_iff hr).1 ha, Bool.false_eq_true,
    if_false]

theorem State.coreRun_overspends (hf : s.fetches c) (h0 : s.affords c 0) (ha : ¬s.affords c cost)
    (hok : f (s.core c) (s.fetched c) = .ok t pc) : s.coreRun c cost f = (s.fetched c).spend c cost := by
  obtain ⟨r, hr, hover, hfetch⟩ := hf.ready h0
  rw [State.affords_iff hr, Bool.not_eq_false] at ha
  simp only [State.coreRun, hr, hover, hfetch, State.core_fetched, hok, ha, Bool.false_eq_true, if_false, if_true]

theorem State.coreRun_exc {cause : ExcCause} {addr : Nat} (hf : s.fetches c) (h0 : s.affords c 0)
    (hexc : f (s.core c) (s.fetched c) = .exc t cause addr) :
    ∃ r, (s.agent c).running = some r ∧ s.coreRun c cost f = t.takeCoreException c r cause addr := by
  obtain ⟨r, hr, hover, hfetch⟩ := hf.ready h0
  refine ⟨r, hr, ?_⟩
  simp only [State.coreRun, hr, hover, hfetch, State.core_fetched, hexc, Bool.false_eq_true, if_false]

theorem onCore_of_lt (hc : c < 8) (t : State) : onCore c t = .next t := if_pos (decide_eq_true hc)

/-! ### Frames of an instruction -/

theorem State.coreIs.mono {u : State} {y : Core} {l m : List Part} (h : u.coreIs t c y l) (hl : l ⊆ m) :
    u.coreIs t c y m := by
  obtain ⟨hy, hj, hk⟩ := h
  exact ⟨hy, hj, hk.mono (by simpa using List.subset_cons_of_subset _ hl)⟩

/-- Writing core c leaves the other cores and every part as they were. -/
theorem State.coreIs.setCore {u : State} {y : Core} {l : List Part} (h : u.coreIs t c y l) (x : Core) :
    u.coreIs (t.setCore c x) c x l := by
  obtain ⟨-, hj, hk⟩ := h
  exact ⟨State.core_setCore_same _ _ _, fun j hne => (State.core_setCore_ne _ _ hne).trans (hj j hne),
    hk.step (alters_setCore _ _ _) (by simp)⟩

theorem State.coreIs_refl (s : State) (c : Nat) (l : List Part) : s.coreIs s c (s.core c) l :=
  ⟨rfl, fun _ _ => rfl, s.keeps_refl _⟩

theorem State.coreIs_setCore (s : State) (c : Nat) (x : Core) (l : List Part) : s.coreIs (s.setCore c x) c x l :=
  (s.coreIs_refl c l).setCore x

/-- A change of other parts keeps the core. -/
theorem State.coreIs.step {u v : State} {y : Core} {l m : List Part} (h : u.coreIs t c y l) (h' : t.keeps v m)
    (hm : m ⊆ l := by decide) (hcores : Part.cores ∉ m := by decide) : u.coreIs v c y l := by
  obtain ⟨hy, hj, hk⟩ := h
  have hcore := h' .cores hcores
  exact ⟨(hcore c).trans hy, fun j hne => (hcore j).trans (hj j hne), hk.next h' (List.subset_cons_of_subset _ hm)⟩

/-- The cycles and the next PC of an instruction. -/
theorem State.coreIs.retire {u : State} {y : Core} {l : List Part} (h : u.coreIs t c y l) (pc : BitVec 32) (cost : Nat) :
    u.coreIs ((t.setCore c { t.core c with pc := pc }).spend c cost) c (y.retire pc cost) l := by
  obtain rfl : t.core c = y := h.1
  have hset := (h.setCore { t.core c with pc := pc }).setCore
    { t.core c with pc := pc, cyc := (t.core c).cyc + cost }
  simpa [State.spend, Core.retire] using hset

theorem overspends_of_ok (hf : s.fetches c) (hi : exec i s = onCore c (s.coreRun c cost f))
    (hok : f (s.core c) (s.fetched c) = .ok t pc) : Claims.Overspends c i s cost := by
  intro h0 ha
  refine ⟨_, hi.trans (onCore_of_lt hf.1 _), ?_⟩
  rw [State.coreRun_overspends hf h0 ha hok, State.spend, State.core_fetched]
  exact State.coreIs_setCore _ _ _ _

/-- An instruction that answers a state executes. -/
theorem executes_of_ok {y : Core} {changed : List Part} (hf : s.fetches c)
    (hi : exec i s = onCore c (s.coreRun c cost f)) (hok : f (s.core c) (s.fetched c) = .ok t pc)
    (ht : (s.fetched c).coreIs t c y changed) : Claims.Executes c i s y pc cost changed :=
  ⟨fun ha => ⟨_, hi.trans (onCore_of_lt hf.1 _), by rw [State.coreRun_ok hf ha hok]; exact ht.retire pc cost⟩,
    overspends_of_ok hf hi hok⟩

/-- A register instruction computes what it writes into its own core. -/
theorem computes_of_coreReg {g : Core → Core} {y : Core} (hf : s.fetches c)
    (hi : exec i s = onCore c (s.coreReg c cost g)) (hy : g (s.core c) = y) : Claims.Computes c i s y cost :=
  executes_of_ok hf hi rfl (by rw [← hy]; exact State.coreIs_setCore _ _ _ _)

end

end Sys2Proof.Machine
end

section
/-!
PROOFS. The integer instructions, their immediate forms and the special registers (R81, R86, R89).
-/

namespace Sys2Proof.Machine

-- One proof after another: a side condition by `decide` waits for every proof before it, on a thread of its own.
set_option Elab.async false

/-! ### Shifts by the whole amount -/

section
variable {w : Nat} (p : BitVec w) (n : Nat)

/-- At the width every bit is shifted out, and a larger amount does no more. -/
theorem shiftLeft_min : p <<< min n w = p <<< n := by
  rcases Nat.le_total n w with h | h
  · rw [Nat.min_eq_left h]
  · rw [Nat.min_eq_right h, BitVec.shiftLeft_eq_zero (Nat.le_refl w), BitVec.shiftLeft_eq_zero h]

theorem ushiftRight_min : p >>> min n w = p >>> n := by
  rcases Nat.le_total n w with h | h
  · rw [Nat.min_eq_left h]
  · rw [Nat.min_eq_right h, BitVec.ushiftRight_eq_zero (Nat.le_refl w), BitVec.ushiftRight_eq_zero h]

theorem sshiftRight_min : p.sshiftRight (min n w) = p.sshiftRight n := by
  rcases Nat.le_total n w with h | h
  · rw [Nat.min_eq_left h]
  · rw [Nat.min_eq_right h]
    ext i hi
    rw [BitVec.getElem_sshiftRight, BitVec.getElem_sshiftRight, dif_neg (by omega), dif_neg (by omega)]

/-- The sign fills every bit from a shift by the width less 1 on. -/
theorem sshiftRight_min_pred : p.sshiftRight n = p.sshiftRight (Nat.min n (w - 1)) := by
  rcases Nat.lt_or_ge n w with h | h
  · rw [show Nat.min n (w - 1) = n from Nat.min_eq_left (by omega)]
  · rw [show Nat.min n (w - 1) = w - 1 from Nat.min_eq_right (by omega)]
    ext i hi
    rw [BitVec.getElem_sshiftRight, BitVec.getElem_sshiftRight, dif_neg (by omega)]
    split_ifs with hlt
    · obtain rfl : i = 0 := by omega
      simpa [BitVec.msb_eq_getLsbD_last] using BitVec.getLsbD_eq_getElem _
    · rfl

theorem shiftLeft_ite : p <<< n = if w ≤ n then 0 else p <<< n := by
  split_ifs with h
  · exact BitVec.shiftLeft_eq_zero h
  · rfl

theorem ushiftRight_ite : p >>> n = if w ≤ n then 0 else p >>> n := by
  split_ifs with h
  · exact BitVec.ushiftRight_eq_zero h
  · rfl

end

section
variable (p : BitVec 64) (n : Nat)

theorem shiftVal_shl : shiftVal .shl false p n = p <<< n := shiftLeft_min p n
theorem shiftVal_shr : shiftVal .shr false p n = p >>> n := ushiftRight_min p n
theorem shiftVal_sar : shiftVal .sar false p n = p.sshiftRight n := sshiftRight_min p n
theorem shiftVal_shl32 : shiftVal .shl true p n = sx32 (low32 p <<< n) := congrArg sx32 (shiftLeft_min _ n)
theorem shiftVal_shr32 : shiftVal .shr true p n = sx32 (low32 p >>> n) := congrArg sx32 (ushiftRight_min _ n)
theorem shiftVal_sar32 : shiftVal .sar true p n = sx32 ((low32 p).sshiftRight n) :=
  congrArg sx32 (sshiftRight_min _ n)

theorem sx32_ite (b : Prop) [Decidable b] (v : BitVec 32) : sx32 (if b then 0 else v) = if b then 0 else sx32 v := by
  split_ifs <;> rfl

end

/-! ### Division (R89) -/

/-- Conditions of a division in a width. -/
def divFl {n : Nat} (signed : Bool) (a b : BitVec n) : Nat :=
  if b = 0#n then flIdivZero else if signed = true ∧ a = BitVec.intMin n ∧ b = BitVec.allOnes n then flIdivOvf else 0

theorem divFlags_eq (signed : Bool) (p q : BitVec 64) : divFlags signed false p q = divFl signed p q := by
  simp [divFlags, divFl]

theorem divFlags_eq32 (signed : Bool) (p q : BitVec 64) :
    divFlags signed true p q = divFl signed (low32 p) (low32 q) := by
  simp [divFlags, divFl, low32]
  rfl

section
variable {n : Nat} {a b : BitVec n}

theorem div_by_zero (signed : Bool) (h : b = 0#n) :
    divQ signed a b = 0#n ∧ divR signed a b = a ∧ divFl signed a b = 0x100 := by
  simp [divQ, divR, divFl, flIdivZero, h]

theorem div_overflow (h0 : b ≠ 0#n) (ha : a = BitVec.intMin n) (hb : b = BitVec.allOnes n) :
    divQ true a b = BitVec.intMax n ∧ divR true a b = 0#n ∧ divFl true a b = 0x200 := by
  subst ha hb
  simp only [divQ, divR, divFl, flIdivOvf, h0, if_false, if_true, and_self]

theorem div_unsigned (h : b ≠ 0#n) : divQ false a b = BitVec.ofNat n (a.toNat / b.toNat) ∧
    divR false a b = BitVec.ofNat n (a.toNat % b.toNat) ∧ divFl false a b = 0 := by
  refine ⟨?_, ?_, by simp [divFl, h]⟩
  · rw [← BitVec.toNat_udiv, BitVec.ofNat_toNat, BitVec.setWidth_eq]
    simp [divQ, h]
  · rw [← BitVec.toNat_umod, BitVec.ofNat_toNat, BitVec.setWidth_eq]
    simp [divR, h]

theorem div_signed (h : b ≠ 0#n) (ho : ¬(a = BitVec.intMin n ∧ b = BitVec.allOnes n)) :
    divQ true a b = BitVec.ofInt n (a.toInt.tdiv b.toInt) ∧
    divR true a b = BitVec.ofInt n (a.toInt.tmod b.toInt) ∧ divFl true a b = 0 := by
  refine ⟨?_, ?_, by simp only [divFl, h, ho, and_false, if_false]⟩
  · simp only [divQ, h, ho, if_false, if_true]
    rw [← BitVec.toInt_sdiv_of_ne_or_ne a b (by rw [BitVec.neg_one_eq_allOnes]; tauto), BitVec.ofInt_toInt]
  · simp only [divR, h, ho, if_false, if_true]
    rw [← BitVec.toInt_srem, BitVec.ofInt_toInt]

end

/-! ### The obligations -/

/-- Settles O2: each instruction is a register instruction, whose result is the operation of R89. -/
theorem integerResults : Obligations.IntegerResults := by
  intro c s d a b hs x p q lo sx
  have alu {i : Instr} {f : BitVec 64 → BitVec 64 → BitVec 64} {v : BitVec 64}
      (hi : exec i s = onCore c (s.alu c 1 f d a b)) (hv : f p q = v) : Claims.Computes c i s (x.wr d v) 1 :=
    computes_of_coreReg hs hi (congrArg (x.wr d) hv)
  refine ⟨alu rfl rfl, alu rfl rfl, alu rfl rfl, alu rfl rfl, alu rfl rfl, alu rfl rfl, alu rfl rfl,
    alu rfl ?shl, alu rfl ?shl32, alu rfl ?shr, alu rfl ?shr32, alu rfl ?sar, alu rfl ?sar32, alu rfl ?lt,
    alu rfl ?ltu, alu rfl ?eq, alu rfl ?min, alu rfl ?max⟩
  case shl => exact (shiftVal_shl p _).trans (shiftLeft_ite p _)
  case shr => exact (shiftVal_shr p _).trans (ushiftRight_ite p _)
  case sar => exact (shiftVal_sar p _).trans (sshiftRight_min_pred p _)
  case shl32 => exact (shiftVal_shl32 p _).trans ((congrArg sx (shiftLeft_ite (lo p) _)).trans (sx32_ite _ _))
  case shr32 => exact (shiftVal_shr32 p _).trans ((congrArg sx (ushiftRight_ite (lo p) _)).trans (sx32_ite _ _))
  case sar32 => exact (shiftVal_sar32 p _).trans (congrArg sx (sshiftRight_min_pred (lo p) _))
  case lt => simp [flag64, BitVec.slt_eq_decide]
  case ltu => simp [flag64, BitVec.ult_eq_decide]
  case eq => simp [flag64]
  case min => simp only [BitVec.slt_eq_decide, decide_eq_true_eq, ← not_le, ite_not]
  case max =>
    simp only [BitVec.slt_eq_decide, decide_eq_true_eq]
    split_ifs with hlt hle
    · rfl
    · omega
    · exact BitVec.eq_of_toInt_eq (by omega)
    · rfl

theorem eq_intMin_of_toInt {p : BitVec 64} (h : p.toInt = -2 ^ 63) : p = BitVec.intMin 64 :=
  BitVec.eq_of_toInt_eq (h.trans (by decide))
theorem eq_intMin32_of_toInt {p : BitVec 32} (h : p.toInt = -2 ^ 31) : p = BitVec.intMin 32 :=
  BitVec.eq_of_toInt_eq (h.trans (by decide))
theorem eq_allOnes_of_toInt {q : BitVec 64} (h : q.toInt = -1) : q = BitVec.allOnes 64 :=
  BitVec.eq_of_toInt_eq (h.trans (by decide))
theorem eq_allOnes32_of_toInt {q : BitVec 32} (h : q.toInt = -1) : q = BitVec.allOnes 32 :=
  BitVec.eq_of_toInt_eq (h.trans (by decide))

theorem Core.orFst_zero (x : Core) : x.orFst 0 = x := by simp [Core.orFst]

section
variable {c : Nat} {i : Instr} {s : State} {signed rem : Bool} {d a b : GReg} (hs : s.fetches c)
include hs

theorem computes_divide {v : BitVec 64} {fl : Nat} (hi : exec i s = onCore c (s.divide c signed false rem d a b))
    (hv : (if rem then divR signed ((s.core c).rd a) ((s.core c).rd b)
      else divQ signed ((s.core c).rd a) ((s.core c).rd b)) = v)
    (hfl : divFl signed ((s.core c).rd a) ((s.core c).rd b) = fl) :
    Claims.Computes c i s (((s.core c).wr d v).orFst fl) 36 :=
  computes_of_coreReg hs hi (by simp only [divFlags_eq, hfl, ← hv]; rfl)

theorem computes_divide32 {v : BitVec 32} {fl : Nat} (hi : exec i s = onCore c (s.divide c signed true rem d a b))
    (hv : (if rem then divR signed (low32 ((s.core c).rd a)) (low32 ((s.core c).rd b))
      else divQ signed (low32 ((s.core c).rd a)) (low32 ((s.core c).rd b))) = v)
    (hfl : divFl signed (low32 ((s.core c).rd a)) (low32 ((s.core c).rd b)) = fl) :
    Claims.Computes c i s (((s.core c).wr d (sx32 v)).orFst fl) 36 :=
  computes_of_coreReg hs hi (by simp only [divFlags_eq32, hfl, ← hv]; cases rem <;> rfl)

end

/-- Settles O3: products are register instructions; quotients and remainders by the cases of R89, in each width. -/
theorem multiplyDivide : Obligations.MultiplyDivide := by
  intro c s d a b hs x p q lo sx zero ovf
  have mul {i : Instr} {f : BitVec 64 → BitVec 64 → BitVec 64} {v : BitVec 64}
      (hi : exec i s = onCore c (s.alu c 3 f d a b)) (hv : f p q = v) : Claims.Computes c i s (x.wr d v) 3 :=
    computes_of_coreReg hs hi (congrArg (x.wr d) hv)
  have flag {i : Instr} (sg rem : Bool) {v : BitVec 64} {fl : Nat}
      (hi : exec i s = onCore c (s.divide c sg false rem d a b))
      (hv : (if rem then divR sg p q else divQ sg p q) = v) (hfl : divFl sg p q = fl) :
      Claims.Computes c i s ((x.wr d v).orFst fl) 36 := computes_divide hs hi hv hfl
  have flag32 {i : Instr} (sg rem : Bool) {v : BitVec 32} {fl : Nat}
      (hi : exec i s = onCore c (s.divide c sg true rem d a b))
      (hv : (if rem then divR sg (lo p) (lo q) else divQ sg (lo p) (lo q)) = v) (hfl : divFl sg (lo p) (lo q) = fl) :
      Claims.Computes c i s ((x.wr d (sx v)).orFst fl) 36 := computes_divide32 hs hi hv hfl
  have plain {i : Instr} {y : Core} (h : Claims.Computes c i s (y.orFst 0) 36) : Claims.Computes c i s y 36 := by
    rwa [Core.orFst_zero] at h
  refine ⟨mul rfl rfl, mul rfl rfl, mul rfl rfl, mul rfl rfl, fun h => ?zero, fun h => ?zero32, fun hp hq => ?ovf,
    fun hp hq => ?ovf32, fun h => ?unsigned, fun h ho => ?signed, fun h => ?unsigned32, fun h ho => ?signed32⟩
  case zero =>
    obtain ⟨hqs, hrs, hfs⟩ := div_by_zero (a := p) true h
    obtain ⟨hqu, hru, hfu⟩ := div_by_zero (a := p) false h
    exact ⟨flag true false rfl hqs hfs, flag false false rfl hqu hfu, flag true true rfl hrs hfs,
      flag false true rfl hru hfu⟩
  case zero32 =>
    obtain ⟨hqs, hrs, hfs⟩ := div_by_zero (a := lo p) true h
    obtain ⟨hqu, hru, hfu⟩ := div_by_zero (a := lo p) false h
    exact ⟨flag32 true false rfl hqs hfs, flag32 false false rfl hqu hfu, flag32 true true rfl hrs hfs,
      flag32 false true rfl hru hfu⟩
  case ovf =>
    have hones := eq_allOnes_of_toInt hq
    obtain ⟨hq, hr, hf⟩ := div_overflow (hones ▸ by decide) (eq_intMin_of_toInt hp) hones
    exact ⟨flag true false rfl hq hf, flag true true rfl hr hf⟩
  case ovf32 =>
    have hones := eq_allOnes32_of_toInt hq
    obtain ⟨hq, hr, hf⟩ := div_overflow (hones ▸ by decide) (eq_intMin32_of_toInt hp) hones
    exact ⟨flag32 true false rfl hq hf, flag32 true true rfl hr hf⟩
  case unsigned =>
    obtain ⟨hq, hr, hf⟩ := div_unsigned (a := p) h
    exact ⟨plain (flag false false rfl hq hf), plain (flag false true rfl hr hf)⟩
  case unsigned32 =>
    obtain ⟨hq, hr, hf⟩ := div_unsigned (a := lo p) h
    exact ⟨plain (flag32 false false rfl hq hf), plain (flag32 false true rfl hr hf)⟩
  case signed =>
    obtain ⟨hq, hr, hf⟩ := div_signed h fun ⟨hp, hq⟩ =>
      ho ⟨(congrArg _ hp).trans (by decide), (congrArg _ hq).trans (by decide)⟩
    exact ⟨plain (flag true false rfl hq hf), plain (flag true true rfl hr hf)⟩
  case signed32 =>
    obtain ⟨hq, hr, hf⟩ := div_signed h fun ⟨hp, hq⟩ =>
      ho ⟨(congrArg _ hp).trans (by decide), (congrArg _ hq).trans (by decide)⟩
    exact ⟨plain (flag32 true false rfl hq hf), plain (flag32 true true rfl hr hf)⟩

/-- Settles O4: immediate forms are register instructions; GETS and PUTS answer a core for the numbers of Table 4.2. -/
theorem immediatesAndSpecials : Obligations.ImmediatesAndSpecials := by
  intro c s d a k h n hs x p se ze lo sx
  have alu {i : Instr} {f : BitVec 64 → BitVec 64} {v : BitVec 64} (hi : exec i s = onCore c (s.aluK c f d a))
      (hv : f p = v) : Claims.Computes c i s (x.wr d v) 1 := computes_of_coreReg hs hi (congrArg (x.wr d) hv)
  have gets (k : BitVec 14) {v : BitVec 64} (hv : (s.fetched c).special c (s.core c) k.toNat = some v) :
      Claims.Computes c (.gets c d k) s (x.wr d v) 1 :=
    executes_of_ok hs rfl (by simp only [hv]; rfl) (State.coreIs_setCore _ _ _ _)
  have puts (k : BitVec 14) {y : Core} (hy : (s.core c).putSpecial k.toNat ((s.core c).rd a) = some y) :
      Claims.Computes c (.puts c a k) s y 1 :=
    executes_of_ok hs rfl (by simp only [hy]) (State.coreIs_setCore _ _ _ _)
  refine ⟨alu rfl rfl, alu rfl rfl, alu rfl rfl, alu rfl rfl, alu rfl ?lt, alu rfl (shiftVal_shl p _),
    alu rfl (shiftVal_shr p _), alu rfl (shiftVal_sar p _), alu rfl (shiftVal_shl32 p _), alu rfl (shiftVal_shr32 p _),
    alu rfl (shiftVal_sar32 p _), computes_of_coreReg hs rfl (congrArg (x.wr d) ?lih), gets 0 rfl, gets 1 rfl, gets 2 rfl,
    gets 3 rfl, gets 4 rfl, gets 5 ?stitch, gets 6 rfl, gets 7 rfl, puts 1 rfl, puts 2 rfl⟩
  case lt =>
    have hk : (sext64 k).toInt = k.toInt := BitVec.toInt_signExtend_of_le (by decide)
    simp [flag64, BitVec.slt_eq_decide, hk]
  case lih =>
    rw [BitVec.shiftLeft_eq_mul_twoPow, BitVec.ofInt_mul]
    rfl
  case stitch => 
    simp only [State.special, State.clock_fetched]
    rfl

end Sys2Proof.Machine
end

section
/-!
PROOFS. Floating-point arithmetic and conversions (R90): every operation gives the canonical quiet NaN or a number, and
the rules of R90 about signs, comparisons, FMIN and FMAX, ranges and rounding.
-/

namespace Sys2Proof.Machine

-- One proof after another: a side condition by `decide` waits for every proof before it, on a thread of its own.
set_option Elab.async false

open FFmt

/-! ### Patterns of numbers -/

/-- Width of the patterns of a format. -/
def FFmt.bits (f : FFmt) : Nat := f.p + f.ebits

/-- The pattern of a number: a sign, and a magnitude up to infinity. -/
def FFmt.IsNumber (f : FFmt) (r : Nat) : Prop := ∃ neg b, b ≤ f.inf ∧ r = f.sg neg + b

/-- What an operation gives: the canonical quiet NaN or a number. -/
def FFmt.IsResult (f : FFmt) (r : Nat) : Prop := r = f.qnan ∨ f.IsNumber r

/-- The formats in use have room for a quiet bit and an exponent. -/
structure FFmt.Proper (f : FFmt) : Prop where
  two_le_p : 2 ≤ f.p
  ebits_pos : 0 < f.ebits

theorem f32_proper : f32.Proper := ⟨by decide, by decide⟩
theorem f64_proper : f64.Proper := ⟨by decide, by decide⟩

section
variable {f : FFmt}

theorem FFmt.inf_lt_signBit (f : FFmt) : f.inf < f.signBit := by
  simp only [FFmt.inf, FFmt.signBit, Nat.pow_add, Nat.mul_comm (2 ^ (f.p - 1))]
  have he : 0 < 2 ^ f.ebits := Nat.two_pow_pos _
  exact Nat.mul_lt_mul_of_pos_right (by omega) (Nat.two_pow_pos _)

theorem FFmt.isNan_of_isNumber {r : Nat} (h : f.IsNumber r) : f.isNan r = false := by
  obtain ⟨neg, b, hb, rfl⟩ := h
  have hsg : f.sg neg = (if neg then 1 else 0) * 2 ^ f.ebits * 2 ^ (f.p - 1) := by
    cases neg <;> simp [FFmt.sg, FFmt.signBit, Nat.pow_add, Nat.mul_comm]
  have hpos : 0 < 2 ^ (f.p - 1) := Nat.two_pow_pos _
  have hexp : 0 < 2 ^ f.ebits := Nat.two_pow_pos _
  have hlt : b / 2 ^ (f.p - 1) < 2 ^ f.ebits := by
    rw [Nat.div_lt_iff_lt_mul hpos, Nat.mul_comm, ← Nat.pow_add]
    exact Nat.lt_of_le_of_lt hb f.inf_lt_signBit
  have hex : (f.sg neg + b) / 2 ^ (f.p - 1) % 2 ^ f.ebits = b / 2 ^ (f.p - 1) := by
    rw [hsg, Nat.mul_comm _ (2 ^ (f.p - 1)), Nat.mul_add_div hpos, Nat.mul_comm, Nat.mul_add_mod_self_left, Nat.mod_eq_of_lt hlt]
  have hfr : (f.sg neg + b) % 2 ^ (f.p - 1) = b % 2 ^ (f.p - 1) := by
    rw [hsg, Nat.mul_comm _ (2 ^ (f.p - 1)), Nat.mul_add_mod_self_left]
  unfold FFmt.isNan FFmt.unpack
  simp only [hex, hfr]
  by_cases hmax : b / 2 ^ (f.p - 1) = 2 ^ f.ebits - 1
  · have hzero : b % 2 ^ (f.p - 1) = 0 := by
      have hdiv := Nat.div_add_mod b (2 ^ (f.p - 1))
      rw [hmax, Nat.mul_comm] at hdiv
      unfold FFmt.inf at hb
      omega
    rw [if_pos hmax, if_pos hzero]
  · rw [if_neg hmax]
    split_ifs <;> rfl

theorem FFmt.IsResult.canonical {r : Nat} (h : f.IsResult r) (hn : f.isNan r = true) : r = f.qnan := by
  rcases h with h | h
  · exact h
  · rw [FFmt.isNan_of_isNumber h] at hn; cases hn

theorem FFmt.bits_eq (hf : f.Proper) : 2 ^ f.bits = 2 * f.signBit := by
  have := hf.two_le_p
  rw [FFmt.signBit, ← Nat.pow_succ', FFmt.bits]
  congr 1
  omega

theorem FFmt.IsNumber.lt (hf : f.Proper) {r : Nat} (h : f.IsNumber r) : r < 2 ^ f.bits := by
  obtain ⟨neg, b, hb, rfl⟩ := h
  have hinf := f.inf_lt_signBit
  have hsg : f.sg neg ≤ f.signBit := by unfold FFmt.sg; split_ifs <;> omega
  rw [FFmt.bits_eq hf]
  omega

theorem FFmt.qnan_lt (hf : f.Proper) : f.qnan < f.signBit := by
  have := hf.two_le_p
  have hhalf : 2 ^ (f.p - 2) < 2 ^ (f.p - 1) := Nat.pow_lt_pow_right (by decide) (by omega)
  have hsum : f.signBit = f.inf + 2 ^ (f.p - 1) := by
    have he : 0 < 2 ^ f.ebits := Nat.two_pow_pos _
    simp only [FFmt.inf, FFmt.signBit, Nat.pow_add, Nat.mul_comm (2 ^ (f.p - 1)), ← Nat.succ_mul]
    congr 1
    omega
  unfold FFmt.qnan
  omega

theorem FFmt.IsResult.lt (hf : f.Proper) {r : Nat} (h : f.IsResult r) : r < 2 ^ f.bits := by
  rcases h with rfl | h
  · have := FFmt.qnan_lt hf
    rw [FFmt.bits_eq hf]
    omega
  · exact h.lt hf

/-! ### Every operation gives a result -/

theorem FFmt.isNumber_sg (neg : Bool) : f.IsNumber (f.sg neg) := ⟨neg, 0, Nat.zero_le _, rfl⟩
theorem FFmt.isNumber_inf (neg : Bool) : f.IsNumber (f.sg neg + f.inf) := ⟨neg, f.inf, Nat.le_refl _, rfl⟩

theorem FFmt.isNumber_round (neg : Bool) (m : Nat) (e : Int) : f.IsNumber (f.round neg m e).1 := by
  have below (bits fl fl' : Nat) :
      f.IsNumber (if f.inf ≤ bits then (f.sg neg + f.inf, fl) else (f.sg neg + bits, fl')).1 := by
    split_ifs with hinf
    · exact FFmt.isNumber_inf neg
    · exact ⟨neg, bits, Nat.le_of_lt (not_le.1 hinf), rfl⟩
  unfold FFmt.round
  by_cases hm : m = 0
  · rw [if_pos hm]; exact FFmt.isNumber_sg neg
  · rw [if_neg hm]; exact below _ _ _

theorem FFmt.isNumber_roundSigned (v e : Int) (z : Bool) : f.IsNumber (f.roundSigned v e z).1 := by
  unfold FFmt.roundSigned
  split_ifs
  · exact FFmt.isNumber_sg z
  · exact FFmt.isNumber_round _ _ _

theorem FFmt.isResult_addVal (x y : FVal) : f.IsResult (f.addVal x y).1 := by
  unfold FFmt.addVal
  split
  · exact .inl rfl
  · exact .inl rfl
  · split_ifs
    · exact .inr (FFmt.isNumber_inf _)
    · exact .inl rfl
  · exact .inr (FFmt.isNumber_inf _)
  · exact .inr (FFmt.isNumber_inf _)
  · exact .inr (FFmt.isNumber_roundSigned _ _ _)

theorem FFmt.isResult_mul (a b : Nat) : f.IsResult (f.mul a b).1 := by
  unfold FFmt.mul
  split
  · exact .inl rfl
  · exact .inl rfl
  · exact .inr (FFmt.isNumber_inf _)
  · split_ifs
    · exact .inl rfl
    · exact .inr (FFmt.isNumber_inf _)
  · split_ifs
    · exact .inl rfl
    · exact .inr (FFmt.isNumber_inf _)
  · exact .inr (FFmt.isNumber_round _ _ _)

theorem FFmt.isResult_div (a b : Nat) : f.IsResult (f.div a b).1 := by
  unfold FFmt.div
  split
  · exact .inl rfl
  · exact .inl rfl
  · exact .inl rfl
  · exact .inr (FFmt.isNumber_inf _)
  · exact .inr (FFmt.isNumber_sg _)
  · split_ifs
    · exact .inl rfl
    · exact .inr (FFmt.isNumber_inf _)
    · exact .inr (FFmt.isNumber_round _ _ _)

theorem FFmt.isResult_sqrt (a : Nat) : f.IsResult (f.sqrt a).1 := by
  unfold FFmt.sqrt
  split
  · exact .inl rfl
  · split_ifs
    · exact .inl rfl
    · exact .inr ⟨false, f.inf, Nat.le_refl _, by simp [FFmt.sg]⟩
  · next neg m e _ =>
    by_cases hm : m = 0
    · rw [if_pos hm]; exact .inr (FFmt.isNumber_sg _)
    · rw [if_neg hm]
      cases neg
      · exact .inr (FFmt.isNumber_round _ _ _)
      · exact .inl rfl

theorem FFmt.isResult_fmaVal (x y z : FVal) : f.IsResult (f.fmaVal x y z).1 := by
  have hinf (b : Bool) : f.IsResult (match z with
      | .nan _ => (f.qnan, nanFlags x ||| nanFlags y ||| nanFlags z)
      | .inf c => if b = c then (f.sg c + f.inf, 0) else (f.qnan, flInvalid)
      | .fin _ _ _ => (f.sg b + f.inf, 0)).1 := by
    split
    · exact .inl rfl
    · split_ifs
      · exact .inr (FFmt.isNumber_inf _)
      · exact .inl rfl
    · exact .inr (FFmt.isNumber_inf _)
  unfold FFmt.fmaVal
  dsimp only
  split
  · exact .inl rfl
  · exact .inl rfl
  · exact hinf _
  · next b m e =>
    by_cases hm : m = 0
    · rw [if_pos hm]; exact .inl rfl
    · rw [if_neg hm]; exact hinf _
  · next b m e _ =>
    by_cases hm : m = 0
    · rw [if_pos hm]; exact .inl rfl
    · rw [if_neg hm]; exact hinf _
  · split
    · exact .inl rfl
    · exact .inr (FFmt.isNumber_inf _)
    · exact .inr (FFmt.isNumber_roundSigned _ _ _)

/-! ### NaN operands -/

theorem FFmt.isNan_iff {a : Nat} : f.isNan a = true ↔ ∃ s, f.unpack a = .nan s := by
  unfold FFmt.isNan
  split <;> simp_all

theorem FFmt.addVal_nan {x y : FVal} (h : (∃ s, x = .nan s) ∨ ∃ s, y = .nan s) : (f.addVal x y).1 = f.qnan := by
  rcases h with ⟨s, rfl⟩ | ⟨s, rfl⟩
  · rfl
  · cases x <;> rfl

theorem FVal.neg_nan {y : FVal} (h : ∃ s, y = .nan s) : ∃ s, y.neg = .nan s := by
  obtain ⟨s, rfl⟩ := h
  exact ⟨s, rfl⟩

theorem FFmt.add_nan {a b : Nat} (h : f.isNan a = true ∨ f.isNan b = true) : (f.add a b).1 = f.qnan :=
  FFmt.addVal_nan (h.imp FFmt.isNan_iff.1 FFmt.isNan_iff.1)

theorem FFmt.sub_nan {a b : Nat} (h : f.isNan a = true ∨ f.isNan b = true) : (f.sub a b).1 = f.qnan :=
  FFmt.addVal_nan (h.imp FFmt.isNan_iff.1 fun hb => FVal.neg_nan (FFmt.isNan_iff.1 hb))

theorem FFmt.mul_nan {a b : Nat} (h : f.isNan a = true ∨ f.isNan b = true) : (f.mul a b).1 = f.qnan := by
  simp only [FFmt.isNan_iff] at h
  unfold FFmt.mul
  rcases h with ⟨s, hs⟩ | ⟨s, hs⟩
  · rw [hs]
  · rw [hs]; cases f.unpack a <;> rfl

theorem FFmt.div_nan {a b : Nat} (h : f.isNan a = true ∨ f.isNan b = true) : (f.div a b).1 = f.qnan := by
  simp only [FFmt.isNan_iff] at h
  unfold FFmt.div
  rcases h with ⟨s, hs⟩ | ⟨s, hs⟩
  · rw [hs]
  · rw [hs]; cases f.unpack a <;> rfl

/-- A NaN is neither less than, nor equal to, nor greater than anything. -/
theorem FFmt.unordered {a b : Nat} (h : f.isNan a = true ∨ f.isNan b = true) : f.lt a b = false ∧ f.eq a b = false := by
  simp only [FFmt.isNan_iff] at h
  unfold FFmt.lt FFmt.eq
  rcases h with ⟨s, hs⟩ | ⟨s, hs⟩
  · rw [hs]; exact ⟨rfl, rfl⟩
  · rw [hs]; cases f.unpack a <;> exact ⟨rfl, rfl⟩

/-! ### Order -/

theorem signed_not (n : Bool) (m : Nat) : signed (!n) m = -signed n m := by cases n <;> simp [signed]

theorem exactSum_swap (n1 : Bool) (m1 : Nat) (e1 : Int) (n2 : Bool) (m2 : Nat) (e2 : Int) :
    (exactSum n2 m2 e2 (!n1) m1 e1).1 = -(exactSum n1 m1 e1 (!n2) m2 e2).1 := by
  simp only [exactSum, signed_not, min_comm e2 e1]
  omega

/-- Less than is asymmetric, and excludes equality. -/
theorem FVal.lt_asymm {x y : FVal} (h : x.lt y = true) : y.lt x = false ∧ y.eq x = false := by
  cases x <;> cases y
  case fin.fin n1 m1 e1 n2 m2 e2 =>
    have hs := exactSum_swap n1 m1 e1 n2 m2 e2
    simp only [FVal.lt, FVal.eq, decide_eq_true_eq, decide_eq_false_iff_not, beq_eq_false_iff_ne] at h ⊢
    omega
  all_goals simp_all [FVal.lt, FVal.eq]

theorem FFmt.ordered_of_lt {a b : Nat} (h : f.lt a b = true) : f.isNan a = false ∧ f.isNan b = false := by
  have hnot : ¬(f.isNan a = true ∨ f.isNan b = true) := fun hn => by
    rw [(FFmt.unordered hn).1] at h
    cases h
  simpa [not_or] using hnot

/-! ### FMIN and FMAX -/

theorem FFmt.minMax_flags (w : Bool) (a b : Nat) :
    (f.minMax w a b).2 = if f.isSNan a || f.isSNan b then 16 else 0 := by
  unfold FFmt.minMax
  dsimp only
  split_ifs <;> rfl

theorem FFmt.minMax_ordered (w : Bool) {a b : Nat} (ha : f.isNan a = false) (hb : f.isNan b = false) :
    (f.minMax w a b).1 = if (f.lt a b || (f.eq a b && f.signBit ≤ a)) = w then b else a := by
  simp [FFmt.minMax, ha, hb]

theorem FFmt.minMax_lt {a b : Nat} (h : f.lt a b = true) :
    (f.fmin a b).1 = a ∧ (f.fmax a b).1 = b ∧ (f.fmin b a).1 = a ∧ (f.fmax b a).1 = b := by
  obtain ⟨ha, hb⟩ := FFmt.ordered_of_lt h
  obtain ⟨hlt, heq⟩ : f.lt b a = false ∧ f.eq b a = false := FVal.lt_asymm h
  simp [FFmt.fmin, FFmt.fmax, FFmt.minMax_ordered, ha, hb, h, hlt, heq]

/-! ### FNEG and FABS -/

theorem FFmt.signBit_eq {n : Nat} (hf : f.Proper) (hn : n = f.bits) : f.signBit = 2 ^ (n - 1) := by
  have := hf.two_le_p
  rw [FFmt.signBit, hn, FFmt.bits]
  congr 1
  omega

theorem signBit_getLsbD {n i : Nat} (hn : 0 < n) : (1#n <<< (n - 1)).getLsbD i = decide (n - 1 = i) := by
  rw [← BitVec.twoPow_eq, BitVec.getLsbD_twoPow, decide_eq_true (by omega : n - 1 < n), Bool.true_and]

theorem FFmt.fneg_eq_xor {n : Nat} (hf : f.Proper) (hn : n = f.bits) (x : BitVec n) :
    BitVec.ofNat n (f.fneg x.toNat) = x ^^^ (1#n <<< (n - 1)) := by
  have hn2 : 2 ≤ n := by rw [hn, FFmt.bits]; have := hf.two_le_p; omega
  have hsum : BitVec.ofNat n (f.fneg x.toNat) = BitVec.ofNat n (2 ^ (n - 1) + x.toNat) := by
    have hpow : 2 ^ n = 2 * 2 ^ (n - 1) := by rw [← Nat.pow_succ']; congr 1; omega
    refine BitVec.eq_of_toNat_eq ?_
    rw [BitVec.toNat_ofNat, BitVec.toNat_ofNat, FFmt.fneg, FFmt.signBit_eq hf hn]
    split_ifs
    · rw [show 2 ^ (n - 1) + x.toNat = (x.toNat - 2 ^ (n - 1)) + 2 ^ n by omega, Nat.add_mod_right]
    · rw [Nat.add_comm]
  rw [hsum]
  refine BitVec.eq_of_getLsbD_eq fun i hi => ?_
  rw [BitVec.getLsbD_ofNat, BitVec.getLsbD_xor, signBit_getLsbD (by omega)]
  by_cases hlt : i < n - 1
  · rw [Nat.testBit_two_pow_add_gt hlt, BitVec.testBit_toNat]
    simp [hi, show n - 1 ≠ i by omega]
  · obtain rfl : i = n - 1 := by omega
    rw [Nat.testBit_two_pow_add_eq, BitVec.testBit_toNat]
    simp [hi]

theorem FFmt.fabs_eq_and {n : Nat} (hf : f.Proper) (hn : n = f.bits) (x : BitVec n) :
    BitVec.ofNat n (f.fabs x.toNat) = x &&& ~~~(1#n <<< (n - 1)) := by
  have hn2 : 2 ≤ n := by rw [hn, FFmt.bits]; have := hf.two_le_p; omega
  rw [FFmt.fabs, FFmt.signBit_eq hf hn]
  refine BitVec.eq_of_getLsbD_eq fun i hi => ?_
  rw [BitVec.getLsbD_ofNat, Nat.testBit_mod_two_pow, BitVec.getLsbD_and, BitVec.getLsbD_not,
    signBit_getLsbD (by omega), BitVec.testBit_toNat]
  by_cases hlt : i < n - 1
  · simp [hi, hlt, show n - 1 ≠ i by omega]
  · simp [show n - 1 = i by omega]

theorem FFmt.fneg_lt (hf : f.Proper) {a : Nat} (ha : a < 2 ^ f.bits) : f.fneg a < 2 ^ f.bits := by
  rw [FFmt.bits_eq hf] at ha ⊢
  unfold FFmt.fneg
  split_ifs <;> omega

theorem FFmt.fabs_lt (hf : f.Proper) (a : Nat) : f.fabs a < 2 ^ f.bits := by
  have hpos : 0 < f.signBit := Nat.two_pow_pos _
  rw [FFmt.bits_eq hf]
  exact Nat.lt_of_lt_of_le (Nat.mod_lt a hpos) (by omega)

theorem FFmt.minMax_lt_bits (hf : f.Proper) (w : Bool) {a b : Nat} (ha : a < 2 ^ f.bits) (hb : b < 2 ^ f.bits) :
    (f.minMax w a b).1 < 2 ^ f.bits := by
  have hq : f.qnan < 2 ^ f.bits := FFmt.IsResult.lt hf (.inl rfl)
  unfold FFmt.minMax
  dsimp only
  split_ifs <;> assumption

/-! ### The rules of arithmetic -/

/-- FMIN and FMAX order minus zero below plus zero, in a format in use. -/
def FFmt.OrdersZeros (f : FFmt) : Prop :=
  (f.fmin f.signBit 0).1 = f.signBit ∧ (f.fmin 0 f.signBit).1 = f.signBit ∧ (f.fmax f.signBit 0).1 = 0 ∧
    (f.fmax 0 f.signBit).1 = 0

theorem f32_ordersZeros : f32.OrdersZeros := by unfold FFmt.OrdersZeros; decide +kernel
theorem f64_ordersZeros : f64.OrdersZeros := by unfold FFmt.OrdersZeros; decide +kernel

theorem floatRules {n : Nat} (hf : f.Proper) (hz : f.OrdersZeros) (hn : n = f.bits) : Claims.FloatRules f n := by
  intro x y z a b e invalid canonical
  have result {r : Nat} (h : f.IsResult r) : canonical r := fun hr => h.canonical hr
  refine ⟨result (isResult_addVal _ _), result (isResult_addVal _ _), result (isResult_mul _ _),
    result (isResult_div _ _), result (isResult_sqrt _), result (isResult_fmaVal _ _ _), result (isResult_fmaVal _ _ _),
    result (isResult_fmaVal _ _ _), fun h => ⟨add_nan h, sub_nan h, mul_nan h, div_nan h⟩, fneg_eq_xor hf hn x,
    fabs_eq_and hf hn x, fun h => ?unordered, rfl, fun ha hb => ?quiet, fun w => ⟨minMax_flags w a b, ?both, ?left, ?right⟩,
    minMax_lt, hz⟩
  case unordered =>
    obtain ⟨hlt, heq⟩ := unordered h
    simp [FFmt.cmpEq, FFmt.cmpLt, FFmt.cmpLe, FFmt.le, hlt, heq, h, flInvalid]
  case quiet => simp [FFmt.cmpLt, FFmt.cmpLe, ha, hb]
  case both => intro ha hb; simp [FFmt.minMax, ha, hb]
  case left => intro ha hb; simp [FFmt.minMax, ha, hb]
  case right => intro ha hb; simp [FFmt.minMax, ha, hb]

/-! ### The rules of conversions -/

theorem FFmt.unpack_fin_lt {a m : Nat} {neg : Bool} {e : Int} (hf : f.Proper) (h : f.unpack a = .fin neg m e) :
    m < 2 ^ f.p := by
  have hp := hf.two_le_p
  have hpow : 2 ^ f.p = 2 * 2 ^ (f.p - 1) := by rw [← Nat.pow_succ']; congr 1; omega
  have hfr : a % 2 ^ (f.p - 1) < 2 ^ (f.p - 1) := Nat.mod_lt _ (Nat.two_pow_pos _)
  unfold FFmt.unpack at h
  dsimp only at h
  split_ifs at h <;> cases h <;> omega

/-- Rounding to nearest errs by half a unit at most, and by exactly half to an even quotient. -/
theorem rne_nearest (m d : Nat) : let q := (rne m d).1
    q ≤ m + 1 ∧ 2 * q * 2 ^ d ≤ 2 * m + 2 ^ d ∧ 2 * m ≤ 2 * q * 2 ^ d + 2 ^ d ∧
      (2 * q * 2 ^ d = 2 * m + 2 ^ d ∨ 2 * m = 2 * q * 2 ^ d + 2 ^ d → q % 2 = 0) := by
  have hpos : 0 < 2 ^ d := Nat.two_pow_pos d
  have hr : m % 2 ^ d < 2 ^ d := Nat.mod_lt _ hpos
  have hdiv : m / 2 ^ d * 2 ^ d + m % 2 ^ d = m := by rw [Nat.mul_comm]; exact Nat.div_add_mod m (2 ^ d)
  have hle : m / 2 ^ d ≤ m := Nat.div_le_self _ _
  have hup : 2 * (m / 2 ^ d + 1) * 2 ^ d = 2 * (m / 2 ^ d * 2 ^ d) + 2 * 2 ^ d := by ring
  have hdown : 2 * (m / 2 ^ d) * 2 ^ d = 2 * (m / 2 ^ d * 2 ^ d) := by ring
  simp only [rne, Bool.or_eq_true, Bool.and_eq_true, decide_eq_true_eq, beq_iff_eq]
  split_ifs with h
  · rw [hup]; omega
  · rw [hdown]; omega

theorem signed_in_range {neg : Bool} {m : Nat} (h : m < 2 ^ 63) :
    ¬signed neg m < -(2 ^ 63 : Int) ∧ ¬(2 ^ 63 - 1 : Int) < signed neg m := by
  cases neg <;> simp only [signed] <;> omega

theorem FFmt.toInt64_fraction {a m : Nat} {neg : Bool} {e : Int} (near : Bool) (hu : f.unpack a = .fin neg m e) (he : e < 0)
    (hm : (if near then (rne m (-e).toNat).1 else m / 2 ^ (-e).toNat) < 2 ^ 63) :
    f.toInt64 near a = (signed neg (if near then (rne m (-e).toNat).1 else m / 2 ^ (-e).toNat), 0) := by
  obtain ⟨hlo, hhi⟩ := signed_in_range (neg := neg) hm
  simp only [FFmt.toInt64, hu, if_neg (not_le.2 he), if_neg hlo, if_neg hhi]

theorem conversionRules {n : Nat} (hf : f.Proper) (hp : f.p ≤ 53) (dst : FFmt) : Claims.ConversionRules f dst n := by
  intro x a
  refine ⟨fun near h => ?nan, fun near neg h => ?inf, fun near neg m e h he => ?whole, fun neg m e h he => ?fraction,
    fun h => ?cvtNan, fun h => ?cvtNumber⟩
  case nan =>
    obtain ⟨s, hs⟩ := isNan_iff.1 h
    simp only [FFmt.toInt64, hs, flInvalid]
  case inf => simp only [FFmt.toInt64, h, flInvalid]
  case whole => simp only [FFmt.toInt64, h, if_pos he, flInvalid]
  case fraction =>
    have hm : m < 2 ^ 53 := Nat.lt_of_lt_of_le (unpack_fin_lt hf h) (Nat.pow_le_pow_right (by decide) hp)
    obtain ⟨hq, hnear⟩ := rne_nearest m (-e).toNat
    have hd : m / 2 ^ (-e).toNat ≤ m := Nat.div_le_self _ _
    exact ⟨toInt64_fraction false h he (by simp only [Bool.false_eq_true, if_false]; omega),
      (rne m (-e).toNat).1, toInt64_fraction true h he (by simp only [if_true]; omega), hnear⟩
  case cvtNan =>
    obtain ⟨s, hs⟩ := isNan_iff.1 h
    simp only [FFmt.convert, hs]
  case cvtNumber =>
    refine isNan_of_isNumber ?_
    unfold FFmt.convert
    split
    case h_1 s hs => rw [isNan_iff.2 ⟨s, hs⟩] at h; cases h
    · exact isNumber_inf _
    · exact isNumber_round _ _ _

end

/-! ### The obligations -/

theorem Core.fpOut_eq (x : Core) (d : GReg) (r : Nat × Nat) :
    x.fpOut d r = { x.wr d (BitVec.ofNat 64 r.1) with fst := x.fst ||| BitVec.ofNat 32 r.2 } := by
  simp [Core.fpOut, Core.orFst]

/-- Settles O5: the instructions write what the operations of their format give; the rules hold in both formats. -/
theorem floatResults : Obligations.FloatResults := by
  refine ⟨fun c s w d a b e hs => ?_, floatRules f32_proper f32_ordersZeros rfl, floatRules f64_proper f64_ordersZeros rfl⟩
  intro x f arg out cost
  have fp {i : Instr} {g : Core → Core} {r : Nat × Nat} {n : Nat} (hi : exec i s = onCore c (s.coreReg c n g))
      (hg : g x = x.fpOut d r) : Claims.Computes c i s (out r) n :=
    computes_of_coreReg hs hi (hg.trans (x.fpOut_eq d r))
  refine ⟨fp rfl rfl, fp rfl rfl, fp rfl rfl, fp rfl rfl, fp rfl rfl, fp rfl rfl, fp rfl rfl, fp rfl rfl, fp rfl rfl,
    fp rfl rfl, fp rfl rfl, fp rfl rfl, fp rfl rfl, fp rfl rfl, fp rfl rfl, ?_⟩
  rintro rfl
  have hf := f32_proper
  have harg (r : GReg) : arg r < 2 ^ f32.bits := Nat.mod_lt _ (by decide)
  exact ⟨(isResult_addVal _ _).lt hf, (isResult_addVal _ _).lt hf, (isResult_mul _ _).lt hf,
    minMax_lt_bits hf _ (harg a) (harg b), minMax_lt_bits hf _ (harg a) (harg b), fneg_lt hf (harg a), fabs_lt hf _,
    (isResult_div _ _).lt hf, (isResult_sqrt _).lt hf, (isResult_fmaVal _ _ _).lt hf, (isResult_fmaVal _ _ _).lt hf,
    (isResult_fmaVal _ _ _).lt hf⟩

/-- The two's complement of a conversion's integer is the word that its destination takes. -/
theorem ofNat_unsgn (v : Int) : BitVec.ofNat 64 (unsgn 64 v) = BitVec.ofInt 64 v := by
  refine BitVec.eq_of_toNat_eq ?_
  rw [BitVec.toNat_ofNat, BitVec.toNat_ofInt, unsgn]
  exact Nat.mod_eq_of_lt (by omega)

/-- Settles O6: the instructions write what the conversions give; the rules hold from either format. -/
theorem conversions : Obligations.Conversions := by
  refine ⟨fun c s d a hs => ?_, conversionRules f32_proper (by decide) f64, conversionRules f64_proper (by decide) f32⟩
  intro x p out int
  have cvt {i : Instr} {f : BitVec 64 → Nat × Nat} {r : Nat × Nat} (hi : exec i s = onCore c (s.cvt c f d a))
      (hr : f p = r) : Claims.Computes c i s (out r) 3 :=
    computes_of_coreReg hs hi ((congrArg (x.fpOut d) hr).trans (x.fpOut_eq d r))
  have toInt {i : Instr} (f : FFmt) (near : Bool) (v : BitVec 64 → Nat)
      (hi : exec i s = onCore c (s.cvt c (fun p => toI64 f near (v p)) d a)) :
      Claims.Computes c i s (int (f.toInt64 near (v p))) 3 :=
    computes_of_coreReg hs hi ((x.fpOut_eq d _).trans (by simp only [toI64, ofNat_unsgn]; rfl))
  exact ⟨cvt rfl rfl, cvt rfl rfl, cvt rfl rfl, cvt rfl rfl, toInt f64 false (fpIn true) rfl,
    toInt f32 false (fpIn false) rfl, toInt f64 true (fpIn true) rfl, toInt f32 true (fpIn false) rfl⟩

end Sys2Proof.Machine
end

section
/-!
PROOFS. Loads, stores and block moves of stitch code (R83, R84, R86, R87, R102, R106, R107): the address checks, what is
read and written, and the records of a selvedge run.
-/

namespace Sys2Proof.Machine

-- One proof after another: a side condition by `decide` waits for every proof before it, on a thread of its own.
set_option Elab.async false

/-! ### Instructions that write memory -/

/-- The state after an instruction of core c: the next PC, the cycles added. -/
def State.retired (t : State) (c : Nat) (pc : BitVec 32) (cost : Nat) : State :=
  (t.setCore c { t.core c with pc := pc }).spend c cost

@[simp] theorem State.rdByte_retired (t : State) (c : Nat) (pc : BitVec 32) (cost a : Nat) :
    (t.retired c pc cost).rdByte a = t.rdByte a := rfl
@[simp] theorem State.wsig_retired (t : State) (c : Nat) (pc : BitVec 32) (cost : Nat) :
    (t.retired c pc cost).wsig = t.wsig := rfl
@[simp] theorem State.sig_retired (t : State) (c : Nat) (pc : BitVec 32) (cost seg : Nat) (b : Bool) :
    (t.retired c pc cost).sig seg b = t.sig seg b := rfl

section
variable {c cost : Nat} {i : Instr} {s t : State} {f : Core → State → CoreStep} {pc : BitVec 32}

theorem exec_of_ok (hf : s.fetches c) (ha : s.affords c cost) (hi : exec i s = onCore c (s.coreRun c cost f))
    (hok : f (s.core c) (s.fetched c) = .ok t pc) : exec i s = .next (t.retired c pc cost) :=
  hi.trans (by rw [State.coreRun_ok hf ha hok]; exact onCore_of_lt hf.1 _)

/-- An instruction that leaves the cores alone retires on the core as it was. -/
theorem State.coreIs_retired {u : State} {l : List Part} (h : u.keeps t l) (hl : Part.cores ∉ l := by decide) :
    u.coreIs (t.retired c pc cost) c ((u.core c).retire pc cost) l := by
  have hcore := h .cores hl
  exact State.coreIs.retire ⟨hcore c, fun j _ => hcore j, h.mono (by simp)⟩ pc cost

end

/-! ### Reads -/

theorem State.rdBytes_congr {s t : State} (h : ∀ a, t.rdByte a = s.rdByte a) (a n : Nat) :
    t.rdBytes a n = s.rdBytes a n := by simp only [State.rdBytes, h]

theorem State.rdLe_congr {s t : State} (h : ∀ a, t.rdByte a = s.rdByte a) (a n : Nat) : t.rdLe a n = s.rdLe a n := by
  simp only [State.rdLe, State.rdBytes_congr h]

@[simp] theorem State.length_rdBytes (s : State) (a n : Nat) : (s.rdBytes a n).length = n := by simp [State.rdBytes]

theorem State.getD_rdBytes (s : State) {a n i : Nat} (h : i < n) : (s.rdBytes a n).getD i 0#8 = s.rdByte (a + i) := by
  simp [State.rdBytes, h]

theorem State.leAt_rdBytes (s : State) (a n k m : Nat) : Bytes.leAt (s.rdBytes a n) k m = s.rdLe (a + k) (min m (n - k)) := by
  refine congrArg Bytes.le (List.ext_getElem (by simp) fun i hi hi' => ?_)
  simp [State.rdBytes, Nat.add_assoc]

theorem State.rdByte_eccRead (s : State) (a n finder i : Nat) : (s.eccRead a n finder).2.rdByte i = s.rdByte i :=
  s.keeps_eccRead a n finder .mem (by decide) i

theorem State.loadAt_ok {s : State} {a n : Nat} (h : (s.eccRead a n 1).1 = false) (addr : Nat) :
    ∃ t, s.loadAt a n addr = .inr (s.rdLe a n, t) ∧ s.keeps t eccParts := by
  have hread : s.eccRead a n 1 = (false, (s.eccRead a n 1).2) := Prod.ext h rfl
  refine ⟨_, ?_, s.keeps_eccRead a n 1⟩
  rw [State.loadAt, hread]
  exact congrArg (fun v => Sum.inr (v, _)) (State.rdLe_congr (s.rdByte_eccRead a n 1) a n)

/-! ### Writes -/

/-- The parts that a store changes. -/
abbrev storeParts : List Part := .mem :: eccParts

theorem State.rdByte_eccClearWords (s : State) (a n i : Nat) : (s.eccClearWords a n).rdByte i = s.rdByte i :=
  (s.alters_eccClearWords a n).keeps .mem (by decide) i

/-- The bytes written after a read that found what it found. -/
theorem State.wrBytes_after {s t : State} (h : s.keeps t eccParts) (a : Nat) (bs : Bytes) (a' n' : Nat) :
    (∀ i, ((t.wrBytes a bs).eccClearWords a' n').rdByte i = (s.wrBytes a bs).rdByte i) ∧
      s.keeps ((t.wrBytes a bs).eccClearWords a' n') storeParts := by
  refine ⟨fun i => ?_, ((h.mono (by decide)).step (alters_wrBytes _ _ _)).step (alters_eccClearWords _ _ _)⟩
  rw [State.rdByte_eccClearWords, State.rdByte_wrBytes, State.rdByte_wrBytes, h .mem (by decide)]

theorem State.storeAt_ok {s : State} {a n : Nat} (h : n = 8 ∨ (s.eccRead a n 3).1 = false) (v addr : Nat) :
    ∃ t, s.storeAt a n v addr = .inr t ∧ (∀ i, t.rdByte i = (s.wrLe a n v).rdByte i) ∧ s.keeps t storeParts := by
  unfold State.storeAt
  split_ifs with hn
  · subst hn
    exact ⟨_, rfl, State.wrBytes_after (s.keeps_refl _) _ _ _ _⟩
  · have hread : s.eccRead a n 3 = (false, (s.eccRead a n 3).2) := Prod.ext (h.resolve_left hn) rfl
    rw [hread]
    exact ⟨_, rfl, State.wrBytes_after (s.keeps_eccRead a n 3) _ _ _ _⟩

theorem State.writeBlock_ok {s : State} {a : Nat} {bs : Bytes}
    (h : bs.length % 8 = 0 ∨ (s.eccReadWord (a + bs.length / 8 * 8) 3).1 = false) (addr : Nat) :
    ∃ t, s.writeBlock a bs addr = .inr t ∧ (∀ i, t.rdByte i = (s.wrBytes a bs).rdByte i) ∧ s.keeps t storeParts := by
  unfold State.writeBlock
  split_ifs with hn
  · exact ⟨_, rfl, State.wrBytes_after (s.keeps_refl _) _ _ _ _⟩
  · have hread : s.eccReadWord (a + bs.length / 8 * 8) 3 = (false, (s.eccReadWord (a + bs.length / 8 * 8) 3).2) :=
      Prod.ext (h.resolve_left hn) rfl
    dsimp only
    rw [hread]
    exact ⟨_, rfl, State.wrBytes_after (s.keeps_eccReadWord _ 3) _ _ _ _⟩

/-- The low n bytes of a word, byte by byte. -/
theorem byte_of_low {n i : Nat} (v : Nat) (h : i < n) :
    BitVec.ofNat 8 (v % 2 ^ (8 * n) / 256 ^ i) = BitVec.ofNat 8 (v / 256 ^ i) := by
  refine BitVec.eq_of_toNat_eq ?_
  obtain ⟨m, rfl⟩ : ∃ m, n = i + 1 + m := ⟨n - (i + 1), by omega⟩
  rw [BitVec.toNat_ofNat, BitVec.toNat_ofNat, show 2 ^ (8 * (i + 1 + m)) = 256 ^ i * (2 ^ 8 * 256 ^ m) by
    rw [pow_mul, pow_add, pow_add]; norm_num; ring, Nat.mod_mul_right_div_self, Nat.mod_mul_right_mod]

theorem stored_of_wrLe {s t u : State} {a n : Nat} {v : BitVec 64} (hs : ∀ i, u.rdByte i = s.rdByte i)
    (ht : ∀ i, t.rdByte i = (u.wrLe a n (v.toNat % 2 ^ (8 * n))).rdByte i) : Claims.stored s t a n v :=
  ⟨fun i hi => by rw [ht, State.rdByte_wrLe_in _ _ _ _ _ hi, byte_of_low _ hi],
    fun i hi => by rw [ht, State.rdByte_wrLe_out _ _ _ _ _ hi, hs]⟩

/-! ### Address checks -/

section
variable {s : State} {c n al v : Nat} {x : Core} {a : BitVec 64} {write : Bool}

theorem State.checkLocal_ok (hv : a.toNat = v) (hlo : 0x10000000 ≤ v) (hhi : v + n ≤ 0x10080000) (hal : v % al = 0)
    (hrun : (write && x.isSelvedge && !(s.inRunData x v n) &&
      !(x.stackTop - x.stackLen ≤ v && v + n ≤ x.stackTop : Bool)) = false) :
    s.checkLocal x a n al write = .ok (v - 0x10000000) := by
  subst hv
  have hrange : ¬(2 ^ 32 ≤ a.toNat || a.toNat < localBase || localBase + localSize < a.toNat + n : Bool) = true := by
    have hbase : localBase = 0x10000000 := rfl
    have hsize : localSize = 0x80000 := rfl
    simp only [Bool.or_eq_true, decide_eq_true_eq]
    omega
  unfold State.checkLocal
  dsimp only
  rw [if_neg hrange, if_neg (Bool.eq_false_iff.1 hrun), if_neg (not_not.2 hal)]
  rfl

theorem State.checkShared_ok {p : Pattern} (hv : a.toNat = v) (hlo : 0x20000000 ≤ v) (hhi : v + n ≤ 0x21000000)
    (hal : v % al = 0) (hp : s.pat.active = some p) (hg : p.granted c (v - 0x20000000) n write = true)
    (hrun : (write && x.isSelvedge && !(runOutOff (s.runRec x) ≤ v - 0x20000000 &&
      v - 0x20000000 + n ≤ runOutOff (s.runRec x) + runOutLen (s.runRec x) : Bool)) = false) :
    s.checkShared c x a n al write = .ok (v - 0x20000000) := by
  subst hv
  have hrange : ¬(2 ^ 32 ≤ a.toNat || a.toNat < sharedBase || sharedBase + sharedSize < a.toNat + n : Bool) = true := by
    have hbase : sharedBase = 0x20000000 := rfl
    have hsize : sharedSize = 0x1000000 := rfl
    simp only [Bool.or_eq_true, decide_eq_true_eq]
    omega
  have hgrant : (s.pat.active.map (fun p => p.granted c (a.toNat - sharedBase) n write)).getD false = true := by
    rw [hp]; exact hg
  unfold State.checkShared
  dsimp only
  rw [if_neg hrange, hgrant, if_neg (by decide)]
  exact (if_neg (Bool.eq_false_iff.1 hrun)).trans (if_neg (not_not.2 hal))

theorem not_isSelvedge (h : x.run = .none) : x.isSelvedge = false := by simp [Core.isSelvedge, h]
theorem isSelvedge_of_ne (h : x.run ≠ .none) : x.isSelvedge = true := by simp [Core.isSelvedge, h]

theorem State.runRec_eq {p : Pattern} (hp : s.pat.active = some p) :
    s.runRec x = p.runRecord (selvSegOf x.object.toNat) (x.run == .runB) := by simp [State.runRec, hp]

end

/-! ### Loads -/

/-- The base of a scratchpad as an unknown: the kernel would unfold its product by recursion on a large literal. -/
theorem dram_opaque (c : Nat) : ∃ m, Mem.dram c = m := ⟨_, rfl⟩

theorem extendLoad_fetched (s : State) (c n : Nat) (signed : Bool) (a : Nat) :
    extendLoad n signed ((s.fetched c).rdLe a n) = Claims.loaded s n signed a := by
  rw [State.rdLe_congr (s.rdByte_fetched c)]; rfl

section
variable {c n off w : Nat} {s t : State} {d a : GReg} {k : BitVec 14} {i : Instr} {signed : Bool}

theorem executes_of_localLoad (hf : s.fetches c) (hi : exec i s = onCore c (s.loadLocal c n signed d a k))
    (hcheck : (s.fetched c).checkLocal (s.core c) ((s.core c).localBaseReg a + sext64 k) n n false = .ok off)
    (hload : (s.fetched c).loadAt (Mem.dram c + off) n (off + localBase) = .inr (w, t))
    (hw : extendLoad n signed w = Claims.loaded s n signed (Mem.dram c + off)) (hkeeps : (s.fetched c).keeps t eccParts) :
    Claims.Executes c i s ((s.core c).wr d (Claims.loaded s n signed (Mem.dram c + off))) ((s.core c).pc + 4) 2
      eccParts := by
  refine executes_of_ok (cost := costLdl) hf hi ?_ ((((s.fetched c).coreIs_refl c _).step hkeeps).setCore _)
  rw [← hw]
  obtain ⟨m, hm⟩ := dram_opaque c
  rw [hm] at hload ⊢
  simp only [hcheck, hload]

theorem executes_of_sharedLoad (hf : s.fetches c) (hi : exec i s = onCore c (s.loadShared c n signed d a k))
    (hcheck : (s.fetched c).checkShared c (s.core c) ((s.core c).rd a + sext64 k) n n false = .ok off)
    (hload : (s.fetched c).loadAt (Mem.shared + off) n (off + sharedBase) = .inr (w, t))
    (hw : extendLoad n signed w = Claims.loaded s n signed (Mem.shared + off)) (hkeeps : (s.fetched c).keeps t eccParts) :
    Claims.Executes c i s ((s.core c).wr d (Claims.loaded s n signed (Mem.shared + off))) ((s.core c).pc + 4) 48
      eccParts := by
  refine executes_of_ok (cost := costLds) hf hi ?_ ((((s.fetched c).coreIs_refl c _).step hkeeps).setCore _)
  rw [← hw]
  simp only [hcheck, hload]

theorem State.executes_loadLocal {v : Nat} (hf : s.fetches c) (hi : exec i s = onCore c (s.loadLocal c n signed d a k))
    (hv : ((s.core c).localBaseReg a + sext64 k).toNat = v) (hlo : 0x10000000 ≤ v) (hhi : v + n ≤ 0x10080000)
    (hal : v % n = 0) (hread : ((s.fetched c).eccRead (Mem.dram c + (v - 0x10000000)) n 1).1 = false) :
    Claims.Executes c i s ((s.core c).wr d (Claims.loaded s n signed (Mem.dram c + (v - 0x10000000))))
      ((s.core c).pc + 4) 2 eccParts :=
  have ⟨_, hload, hkeeps⟩ := State.loadAt_ok hread _
  executes_of_localLoad hf hi (State.checkLocal_ok hv hlo hhi hal (by simp)) hload (extendLoad_fetched _ _ _ _ _) hkeeps

theorem State.executes_loadShared {v : Nat} (hf : s.fetches c) (hi : exec i s = onCore c (s.loadShared c n signed d a k))
    (hv : ((s.core c).rd a + sext64 k).toNat = v) (hlo : 0x20000000 ≤ v) (hhi : v + n ≤ 0x21000000)
    (hal : v % n = 0) (hp : ∃ p, (s.fetched c).pat.active = some p ∧ p.granted c (v - 0x20000000) n false = true)
    (hread : ((s.fetched c).eccRead (Mem.shared + (v - 0x20000000)) n 1).1 = false) :
    Claims.Executes c i s ((s.core c).wr d (Claims.loaded s n signed (Mem.shared + (v - 0x20000000))))
      ((s.core c).pc + 4) 48 eccParts :=
  have ⟨_, hp, hg⟩ := hp
  have ⟨_, hload, hkeeps⟩ := State.loadAt_ok hread _
  executes_of_sharedLoad hf hi (State.checkShared_ok hv hlo hhi hal hp hg (by simp)) hload (extendLoad_fetched _ _ _ _ _) hkeeps

end

/-- Settles O7: the address passes its check, the read finds no uncorrectable word, and memory is as before the fetch. -/
theorem loads : Obligations.Loads := by
  intro c s d a k hf
  refine ⟨?_, ?_, ?_, ?_, ?_, ?_, ?_, ?_, ?_, ?_, ?_, ?_, ?_, ?_⟩
  iterate 7 exact fun ⟨hlo, hhi, hal, hread⟩ => State.executes_loadLocal hf rfl rfl hlo hhi hal hread
  iterate 7 exact fun ⟨hlo, hhi, hal, hp, hread⟩ => State.executes_loadShared hf rfl rfl hlo hhi hal hp hread

/-! ### Signature records (R107) -/

theorem State.sig_setSig_same (s : State) (seg : Nat) (b : Bool) (w : WSig) : (s.setSig seg b w).sig seg b = w :=
  Store.get_set_same _ s.wsig _ w

theorem State.sig_setSig_ne (s : State) {seg q : Nat} {b r : Bool} (w : WSig) (h : ¬(q = seg ∧ r = b)) :
    (s.setSig seg b w).sig q r = s.sig q r :=
  Store.get_set_ne _ s.wsig _ _ w fun hkey => h <| by cases b <;> cases r <;> simp at hkey ⊢ <;> omega

theorem State.alters_record (s : State) (x : Core) (off n v : Nat) : s.alters (s.record x off n v) [] [.wsig] :=
  s.alters_wsig _

theorem signedAs_record (s : State) (x : Core) (off n v : Nat) :
    Claims.signedAs s (s.record x off n v) (selvSegOf x.object.toNat) (x.run == .runB)
      (Claims.recorded (s.sig (selvSegOf x.object.toNat) (x.run == .runB)) off n v) :=
  ⟨s.sig_setSig_same _ _ _, fun _ _ h => s.sig_setSig_ne _ h⟩

theorem signedAs_of_wsig {s t u v : State} {seg : Nat} {b : Bool} {w : WSig} (h : Claims.signedAs s t seg b w)
    (hu : u.wsig = s.wsig) (hv : v.wsig = t.wsig) : Claims.signedAs u v seg b w := by
  simpa only [Claims.signedAs, State.sig, hu, hv] using h

/-! ### Stores -/

section
variable {c n off : Nat} {s t : State} {r a : GReg} {k : BitVec 14} {i : Instr}

/-- A local store that passes its check: its bytes, and then its record, if it has one. -/
theorem exec_of_localStore (hf : s.fetches c) (ha : s.affords c 1) (hi : exec i s = onCore c (s.storeLocal c n r a k))
    (hcheck : (s.fetched c).checkLocal (s.core c) ((s.core c).localBaseReg a + sext64 k) n n true = .ok off)
    (hread : n = 8 ∨ ((s.fetched c).eccRead (Mem.dram c + off) n 3).1 = false) :
    ∃ t, exec i s = .next ((t.signLocal (s.core c) off n (((s.core c).rd r).toNat % 2 ^ (8 * n))).retired c
        ((s.core c).pc + 4) 1) ∧
      Claims.stored s t (Mem.dram c + off) n ((s.core c).rd r) ∧ (s.fetched c).keeps t storeParts := by
  obtain ⟨t, hstore, hbytes, hkeeps⟩ := State.storeAt_ok hread (((s.core c).rd r).toNat % 2 ^ (8 * n))
    (off + localBase)
  refine ⟨t, exec_of_ok hf ha hi ?_, stored_of_wrLe (s.rdByte_fetched c) hbytes, hkeeps⟩
  obtain ⟨m, hm⟩ := dram_opaque c
  rw [hm] at hstore ⊢
  simp only [hcheck, hstore]

theorem exec_of_sharedStore (hf : s.fetches c) (ha : s.affords c 32)
    (hi : exec i s = onCore c (s.storeShared c n r a k))
    (hcheck : (s.fetched c).checkShared c (s.core c) ((s.core c).rd a + sext64 k) n n true = .ok off)
    (hread : n = 8 ∨ ((s.fetched c).eccRead (Mem.shared + off) n 3).1 = false) :
    ∃ t, exec i s = .next ((t.signShared (s.core c) off n (((s.core c).rd r).toNat % 2 ^ (8 * n))).retired c
        ((s.core c).pc + 4) 32) ∧
      Claims.stored s t (Mem.shared + off) n ((s.core c).rd r) ∧ (s.fetched c).keeps t storeParts := by
  obtain ⟨t, hstore, hbytes, hkeeps⟩ := State.storeAt_ok hread (((s.core c).rd r).toNat % 2 ^ (8 * n))
    (off + sharedBase)
  refine ⟨t, exec_of_ok hf ha hi ?_, stored_of_wrLe (s.rdByte_fetched c) hbytes, hkeeps⟩
  simp only [hcheck, hstore]

end

/-! A store outside selvedge runs, and one of a run with or without a record. -/

section
variable {c n v : Nat} {s : State} {r a : GReg} {k : BitVec 14} {i : Instr}

theorem State.fetchedCoreIs {t : State} {l : List Part} (h : (s.fetched c).keeps t l) (pc : BitVec 32) (cost : Nat)
    (hl : Part.cores ∉ l := by decide) :
    (s.fetched c).coreIs (t.retired c pc cost) c ((s.core c).retire pc cost) l := by
  simpa only [State.core_fetched] using State.coreIs_retired (c := c) (pc := pc) (cost := cost) h hl

theorem plainStoreLocal (hf : s.fetches c) (hrun : (s.core c).run = .none)
    (hi : exec i s = onCore c (s.storeLocal c n r a k)) (hv : ((s.core c).localBaseReg a + sext64 k).toNat = v)
    (hlo : 0x10000000 ≤ v) (hhi : v + n ≤ 0x10080000) (hal : v % n = 0)
    (hread : n = 8 ∨ ((s.fetched c).eccRead (Mem.dram c + (v - 0x10000000)) n 3).1 = false) (ha : s.affords c 1) :
    ∃ t, exec i s = .next t ∧ Claims.stored s t (Mem.dram c + (v - 0x10000000)) n ((s.core c).rd r) ∧
      (s.fetched c).coreIs t c ((s.core c).retire ((s.core c).pc + 4) 1) storeParts := by
  have hplain := not_isSelvedge hrun
  obtain ⟨t, hexec, hstored, hkeeps⟩ := exec_of_localStore hf ha hi
    (State.checkLocal_ok hv hlo hhi hal (by simp [hplain])) hread
  rw [State.signLocal, if_neg (by simp [hplain])] at hexec
  exact ⟨_, hexec, hstored, State.fetchedCoreIs hkeeps _ _⟩

theorem plainStoreShared {p : Pattern} (hf : s.fetches c) (hrun : (s.core c).run = .none)
    (hi : exec i s = onCore c (s.storeShared c n r a k)) (hv : ((s.core c).rd a + sext64 k).toNat = v)
    (hlo : 0x20000000 ≤ v) (hhi : v + n ≤ 0x21000000) (hal : v % n = 0) (hp : (s.fetched c).pat.active = some p)
    (hg : p.granted c (v - 0x20000000) n true = true)
    (hread : n = 8 ∨ ((s.fetched c).eccRead (Mem.shared + (v - 0x20000000)) n 3).1 = false) (ha : s.affords c 32) :
    ∃ t, exec i s = .next t ∧ Claims.stored s t (Mem.shared + (v - 0x20000000)) n ((s.core c).rd r) ∧
      (s.fetched c).coreIs t c ((s.core c).retire ((s.core c).pc + 4) 32) storeParts := by
  have hplain := not_isSelvedge hrun
  obtain ⟨t, hexec, hstored, hkeeps⟩ := exec_of_sharedStore hf ha hi
    (State.checkShared_ok hv hlo hhi hal hp hg (by simp [hplain])) hread
  rw [State.signShared, if_neg (by simp [hplain])] at hexec
  exact ⟨_, hexec, hstored, State.fetchedCoreIs hkeeps _ _⟩

/-- The parts that a store of a selvedge run changes. -/
abbrev runParts : List Part := [.mem, .ecc, .regs, .evr, .saf, .wsig]

theorem State.runRec_of_keeps {u t : State} {l : List Part} {p : Pattern} (h : u.keeps t l) (hp : u.pat.active = some p)
    (x : Core) (hl : Part.pat ∉ l := by decide) :
    t.runRec x = p.runRecord (selvSegOf x.object.toNat) (x.run == .runB) := by
  have hpat : t.pat = u.pat := h .pat hl
  exact State.runRec_eq (by rw [hpat, hp])

/-- A record after a store: the state it leaves of the store's, and the signature. -/
theorem signedAs_record_after {u t : State} (h : u.keeps t storeParts) (x : Core) (off w : Nat) :
    u.keeps (t.record x off n w) runParts ∧
      Claims.signedAs u (t.record x off n w) (selvSegOf x.object.toNat) (x.run == .runB)
        (Claims.recorded (u.sig (selvSegOf x.object.toNat) (x.run == .runB)) off n w) := by
  have hwsig : t.wsig = u.wsig := h .wsig (by decide)
  refine ⟨(h.mono (by decide)).step (t.alters_record x off n w), ?_⟩
  have hrec := signedAs_of_wsig (u := u) (signedAs_record t x off n w) hwsig.symm rfl
  simpa only [State.sig, hwsig] using hrec

theorem State.inRunData_iff (u : State) (x : Core) (v n : Nat) : u.inRunData x v n = true ↔
    runDataOff (u.runRec x) ≤ v ∧ v + n ≤ runDataOff (u.runRec x) + runDataLen (u.runRec x) := by
  simp [State.inRunData]

section
variable {p : Pattern} (hf : s.fetches c) (hrun : (s.core c).run ≠ .none)
    (hi : exec i s = onCore c (s.storeLocal c n r a k)) (hp : (s.fetched c).pat.active = some p)
    (hv : ((s.core c).localBaseReg a + sext64 k).toNat = v) (hlo : 0x10000000 ≤ v) (hhi : v + n ≤ 0x10080000)
    (hal : v % n = 0) (hread : n = 8 ∨ ((s.fetched c).eccRead (Mem.dram c + (v - 0x10000000)) n 3).1 = false)
    (ha : s.affords c 1)

include hf hrun hi hp hv hlo hhi hal hread ha in
theorem runStoreData {rec_ : Bytes} (hr : p.runRecord (selvSegOf (s.core c).object.toNat) ((s.core c).run == .runB) = rec_)
    (hdata : runDataOff rec_ ≤ v ∧ v + n ≤ runDataOff rec_ + runDataLen rec_) :
    ∃ t, exec i s = .next t ∧ (Claims.stored s t (Mem.dram c + (v - 0x10000000)) n ((s.core c).rd r) ∧
      (s.fetched c).coreIs t c ((s.core c).retire ((s.core c).pc + 4) 1) runParts) ∧
      Claims.signedAs (s.fetched c) t (selvSegOf (s.core c).object.toNat) ((s.core c).run == .runB)
        (Claims.recorded ((s.fetched c).sig (selvSegOf (s.core c).object.toNat) ((s.core c).run == .runB))
          (v - runDataOff rec_) n (((s.core c).rd r).toNat % 2 ^ (8 * n))) := by
  have hin : ∀ t : State, t.runRec (s.core c) = rec_ → t.inRunData (s.core c) v n = true := fun t ht => by
    rw [State.inRunData_iff, ht]; exact hdata
  obtain ⟨t, hexec, hstored, hkeeps⟩ := exec_of_localStore hf ha hi
    (State.checkLocal_ok hv hlo hhi hal (by simp [hin _ ((State.runRec_eq hp).trans hr)])) hread
  have hrec := (State.runRec_of_keeps hkeeps hp (s.core c)).trans hr
  have hback : v - 0x10000000 + localBase = v := Nat.sub_add_cancel hlo
  rw [State.signLocal, State.dataRecord, hback, hrec, hin t hrec, if_pos (by simp [isSelvedge_of_ne hrun])] at hexec
  obtain ⟨hafter, hsigned⟩ := signedAs_record_after (n := n) hkeeps (s.core c) (v - runDataOff rec_)
    (((s.core c).rd r).toNat % 2 ^ (8 * n))
  exact ⟨_, hexec, ⟨hstored, State.fetchedCoreIs hafter _ _⟩, hsigned⟩

omit hrun in
include hf hi hp hv hlo hhi hal hread ha in
theorem runStoreStack {rec_ : Bytes} (hr : p.runRecord (selvSegOf (s.core c).object.toNat) ((s.core c).run == .runB) = rec_)
    (hdata : ¬(runDataOff rec_ ≤ v ∧ v + n ≤ runDataOff rec_ + runDataLen rec_))
    (hstack : (s.core c).stackTop - (s.core c).stackLen ≤ v ∧ v + n ≤ (s.core c).stackTop) :
    ∃ t, exec i s = .next t ∧ (Claims.stored s t (Mem.dram c + (v - 0x10000000)) n ((s.core c).rd r) ∧
      (s.fetched c).coreIs t c ((s.core c).retire ((s.core c).pc + 4) 1) runParts) ∧ t.wsig = (s.fetched c).wsig := by
  obtain ⟨t, hexec, hstored, hkeeps⟩ := exec_of_localStore hf ha hi
    (State.checkLocal_ok hv hlo hhi hal (by simp [hstack])) hread
  have hrec := (State.runRec_of_keeps hkeeps hp (s.core c)).trans hr
  have hback : v - 0x10000000 + localBase = v := Nat.sub_add_cancel hlo
  have hout : ¬t.inRunData (s.core c) v n = true := by rwa [State.inRunData_iff, hrec]
  rw [State.signLocal, hback, if_neg (by simp [hout])] at hexec
  exact ⟨_, hexec, ⟨hstored, State.fetchedCoreIs (hkeeps.mono (by decide)) _ _⟩, hkeeps .wsig (by decide)⟩

end

theorem runStoreOut {p : Pattern} {rec_ : Bytes} (hf : s.fetches c) (hrun : (s.core c).run ≠ .none)
    (hi : exec i s = onCore c (s.storeShared c n r a k)) (hp : (s.fetched c).pat.active = some p)
    (hr : p.runRecord (selvSegOf (s.core c).object.toNat) ((s.core c).run == .runB) = rec_)
    (hv : ((s.core c).rd a + sext64 k).toNat = v) (hlo : 0x20000000 ≤ v) (hhi : v + n ≤ 0x21000000) (hal : v % n = 0)
    (hg : p.granted c (v - 0x20000000) n true = true) (hbegin : runOutOff rec_ ≤ v - 0x20000000)
    (hend : v - 0x20000000 + n ≤ runOutOff rec_ + runOutLen rec_)
    (hread : n = 8 ∨ ((s.fetched c).eccRead (Mem.shared + (v - 0x20000000)) n 3).1 = false) (ha : s.affords c 32) :
    ∃ t, exec i s = .next t ∧ Claims.stored s t (Mem.shared + (v - 0x20000000)) n ((s.core c).rd r) ∧
      (s.fetched c).coreIs t c ((s.core c).retire ((s.core c).pc + 4) 32) runParts ∧
      Claims.signedAs (s.fetched c) t (selvSegOf (s.core c).object.toNat) ((s.core c).run == .runB)
        (Claims.recorded ((s.fetched c).sig (selvSegOf (s.core c).object.toNat) ((s.core c).run == .runB))
          (2 ^ 31 + (v - 0x20000000 - runOutOff rec_)) n (((s.core c).rd r).toNat % 2 ^ (8 * n))) := by
  obtain ⟨t, hexec, hstored, hkeeps⟩ := exec_of_sharedStore hf ha hi
    (State.checkShared_ok hv hlo hhi hal hp hg (by simp [(State.runRec_eq hp).trans hr, hbegin, hend])) hread
  have hrec := (State.runRec_of_keeps hkeeps hp (s.core c)).trans hr
  rw [State.signShared, State.outRecord, hrec, if_pos (isSelvedge_of_ne hrun)] at hexec
  obtain ⟨hafter, hsigned⟩ := signedAs_record_after (n := n) hkeeps (s.core c)
    (2 ^ 31 + (v - 0x20000000 - runOutOff rec_)) (((s.core c).rd r).toNat % 2 ^ (8 * n))
  exact ⟨_, hexec, hstored, State.fetchedCoreIs hafter _ _, hsigned⟩

end

theorem plainStores : Claims.PlainStores := by
  intro c s r a k hf hrun
  refine ⟨?_, ?_, ?_, ?_, ?_, ?_, ?_, ?_⟩
  iterate 4 exact fun ⟨hlo, hhi, hal, hread⟩ => plainStoreLocal hf hrun rfl rfl hlo hhi hal hread
  iterate 4 exact fun ⟨hlo, hhi, hal, ⟨p, hp, hg⟩, hread⟩ => plainStoreShared hf hrun rfl rfl hlo hhi hal hp hg hread

theorem selvedgeStores : Claims.SelvedgeStores := by
  intro c s r a k p hf hrun hp
  refine ⟨?_, ?_, ?_, ?_, ?_, ?_, ?_, ?_⟩
  iterate 4 exact fun ⟨hlo, hhi, hal, hread⟩ ha =>
    ⟨runStoreData hf hrun rfl hp rfl hlo hhi hal hread ha rfl, runStoreStack hf rfl hp rfl hlo hhi hal hread ha rfl⟩
  iterate 4 exact fun ⟨hlo, hhi, hal, hg, hbegin, hend, hread⟩ ha =>
    runStoreOut hf hrun rfl hp rfl rfl hlo hhi hal hg hbegin hend hread ha

/-- Settles O8: a store that passes its check writes its bytes, and in a selvedge run a record follows, but for its
stack. -/
theorem stores : Obligations.Stores := ⟨plainStores, selvedgeStores⟩

end Sys2Proof.Machine
end

section
/-!
PROOFS. The block move (R86, R102, R106, R107): the bytes moved, and the records of a selvedge run.
-/

namespace Sys2Proof.Machine

-- One proof after another: a side condition by `decide` waits for every proof before it, on a thread of its own.
set_option Elab.async false

/-! ### Reads leave the marks alone -/

theorem State.marks_eccCorrected (s : State) (array index : Nat) : (s.eccCorrected array index).ecc.marks = s.ecc.marks := by
  unfold State.eccCorrected
  dsimp only
  rw [State.raise_ecc]
  split_ifs <;> rfl

theorem State.ecc_eccUncorrectable (s : State) (array index finder : Nat) :
    (s.eccUncorrectable array index finder).ecc = s.ecc := s.keeps_eccUncorrectable array index finder .ecc (by decide)

theorem State.marks_eccReadWord (s : State) (a finder : Nat) : (s.eccReadWord a finder).2.ecc.marks = s.ecc.marks := by
  unfold State.eccReadWord
  split
  · rfl
  · split
    · rfl
    · exact s.marks_eccCorrected _ _
    · exact congrArg (·.marks) (s.ecc_eccUncorrectable _ _ _)

theorem State.marks_eccRead (s : State) (a n finder : Nat) : (s.eccRead a n finder).2.ecc.marks = s.ecc.marks := by
  unfold State.eccRead
  generalize false = bad
  induction List.range (ceilDiv (a % 8 + n) 8) generalizing bad s with
  | nil => rfl
  | cons k ks ih =>
    rw [List.foldl_cons]
    cases bad
    · exact (ih _ _).trans (s.marks_eccReadWord _ _)
    · exact ih _ _

theorem State.eccReadWord_congr {s t : State} (h : t.ecc.marks = s.ecc.marks) (a finder : Nat) :
    (t.eccReadWord a finder).1 = (s.eccReadWord a finder).1 := by
  have hmark : ∀ k i, t.mark k i = s.mark k i := fun k i => by simp only [State.mark, h]
  unfold State.eccReadWord
  split
  · rfl
  · rw [hmark]
    split <;> rfl

/-! ### The bytes moved -/

/-- The n bytes from dst are those that stood from src, and every other byte of memory is as it was. -/
def State.moved (s t : State) (src dst n : Nat) : Prop :=
  (∀ i, i < n → t.rdByte (dst + i) = s.rdByte (src + i)) ∧
    ∀ i, ¬(dst ≤ i ∧ i < dst + n) → t.rdByte i = s.rdByte i

theorem State.moved_of_wrBytes {s t u : State} {src dst n : Nat} (hu : ∀ i, u.rdByte i = s.rdByte i)
    (ht : ∀ i, t.rdByte i = (u.wrBytes dst (s.rdBytes src n)).rdByte i) : s.moved t src dst n := by
  refine ⟨fun i hi => ?_, fun i hi => ?_⟩
  · rw [ht, State.rdByte_wrBytes, State.length_rdBytes, if_pos (by omega), Nat.add_sub_cancel_left, State.getD_rdBytes _ hi]
  · rw [ht, State.rdByte_wrBytes, State.length_rdBytes, if_neg hi, hu]

/-! ### The records of a block -/

/-- The records of the words of a block, one after another. -/
def State.recordBlock (s : State) (x : Core) (off : State → Nat → Nat) (bs : Bytes) (m : Nat) : State :=
  (List.range m).foldl (fun s j => s.record x (off s j) 8 (Bytes.leAt bs (8 * j) 8)) s

theorem State.alters_recordBlock (s : State) (x : Core) (off : State → Nat → Nat) (bs : Bytes) (m : Nat) :
    s.alters (s.recordBlock x off bs m) [] [.wsig] :=
  State.alters_foldl_of id _ (fun t _ => t.alters_record x _ _ _) _ s

@[simp] theorem State.rdByte_recordBlock (s : State) (x : Core) (off : State → Nat → Nat) (bs : Bytes) (m a : Nat) :
    (s.recordBlock x off bs m).rdByte a = s.rdByte a := (s.alters_recordBlock x off bs m).keeps .mem (by decide) a

theorem signedAs_recordBlock {s : State} {x : Core} {off : State → Nat → Nat} {base : Nat} (bs : Bytes)
    (hoff : ∀ t j, t.pat = s.pat → off t j = base + 8 * j) (m : Nat) :
    Claims.signedAs s (s.recordBlock x off bs m) (selvSegOf x.object.toNat) (x.run == .runB)
      ((List.range m).foldl (fun w j => Claims.recorded w (base + 8 * j) 8 (Bytes.leAt bs (8 * j) 8))
        (s.sig (selvSegOf x.object.toNat) (x.run == .runB))) := by
  unfold State.recordBlock
  generalize List.range m = js
  induction js generalizing s with
  | nil => exact ⟨rfl, fun _ _ _ => rfl⟩
  | cons j js ih =>
    obtain ⟨hsig, hothers⟩ := signedAs_record s x (off s j) 8 (Bytes.leAt bs (8 * j) 8)
    obtain ⟨hsig', hothers'⟩ := ih (s := s.record x (off s j) 8 (Bytes.leAt bs (8 * j) 8)) hoff
    rw [List.foldl_cons, List.foldl_cons]
    refine ⟨hsig'.trans ?_, fun q r h => (hothers' q r h).trans (hothers q r h)⟩
    rw [hsig, hoff s j rfl]

/-! ### The move -/

section
variable {c n src dst so lof : Nat} {s : State} {toShared : Bool} {k : BitVec 15} {sh lo : GReg} {i : Instr}

/-- The offset that a record of the block has. -/
def blockOffset (x : Core) (toShared : Bool) (so lof : Nat) (s : State) (j : Nat) : Nat :=
  if toShared then s.outRecord x (so + 8 * j) else s.dataRecord x (lof + 8 * j)

theorem exec_of_blockMove (hf : s.fetches c) (ha : s.affords c (costBlock n))
    (hi : exec i s = onCore c (s.blockMove c toShared k sh lo)) (hn : k.toNat + 1 = n)
    (hshared : (s.fetched c).checkShared c (s.core c) ((s.core c).rd sh) n 8 toShared = .ok so)
    (hlocal : (s.fetched c).checkLocal (s.core c) ((s.core c).rd lo) n 8 (!toShared) = .ok lof)
    (hstray : (!toShared && (s.core c).isSelvedge && !((s.fetched c).inRunData (s.core c) (lof + localBase) n)) = false)
    (hsrc : (if toShared then Mem.dram c + lof else Mem.shared + so) = src)
    (hdst : (if toShared then Mem.shared + so else Mem.dram c + lof) = dst)
    (hread : ((s.fetched c).eccRead src n 1).1 = false)
    (hmerge : n % 8 = 0 ∨ ((s.fetched c).eccReadWord (dst + n / 8 * 8) 3).1 = false) :
    ∃ t, exec i s = .next (State.retired (if (s.core c).isSelvedge then
        t.recordBlock (s.core c) (blockOffset (s.core c) toShared so lof) (s.rdBytes src n) (ceilDiv n 8) else t)
        c ((s.core c).pc + 4) (costBlock n)) ∧
      s.moved t src dst n ∧ (s.fetched c).keeps t storeParts := by
  have hreadEq : (s.fetched c).eccRead src n 1 = (false, ((s.fetched c).eccRead src n 1).2) := Prod.ext hread rfl
  have hmarks := (s.fetched c).marks_eccRead src n 1
  have hkeeps := (s.fetched c).keeps_eccRead src n 1
  have hmem := hkeeps .mem (by decide)
  generalize ((s.fetched c).eccRead src n 1).2 = u at hreadEq hmarks hkeeps hmem
  have hbytes : u.rdBytes src n = s.rdBytes src n := State.rdBytes_congr (fun a => (hmem a).trans (s.rdByte_fetched c a)) _ _
  obtain ⟨t, hwrite, hwritten, hafter⟩ := State.writeBlock_ok (s := u) (a := dst) (bs := s.rdBytes src n)
    (by rw [State.length_rdBytes, State.eccReadWord_congr hmarks]; exact hmerge)
    (if toShared then so + sharedBase else lof + localBase)
  refine ⟨t, ?_, State.moved_of_wrBytes (fun a => (hmem a).trans (s.rdByte_fetched c a)) hwritten,
    (hkeeps.mono (by decide)).next hafter⟩
  subst hn
  unfold State.blockMove at hi
  refine exec_of_ok hf ha hi ?_
  obtain ⟨m, hm⟩ := dram_opaque c
  rw [hm] at hsrc hdst ⊢
  simp only [hshared, hlocal]
  rw [hstray, if_neg (by decide), hsrc, hreadEq, hdst]
  dsimp only
  rw [hbytes, hwrite]
  rfl

end

theorem plainBlockMove : Claims.PlainBlockMove := by
  intro c s k sh lo hf hrun u x n vs vl so ll hvs hvl hslo hshi hllo hlhi ha
  have hplain : (s.core c).isSelvedge = false := not_isSelvedge hrun
  refine ⟨fun p hp hg hread hmerge => ?_, fun p hp hg hread hmerge => ?_⟩
  · obtain ⟨t, hexec, ⟨hin, hout⟩, hkeeps⟩ := exec_of_blockMove (i := .bmv c true k sh lo) hf ha rfl rfl
      (State.checkShared_ok (v := vs) rfl hslo hshi hvs hp hg (by simp [hplain]))
      (State.checkLocal_ok (v := vl) rfl hllo hlhi hvl (by simp)) (by simp) (if_pos rfl) (if_pos rfl) hread hmerge
    rw [hplain, if_neg (by decide)] at hexec
    exact ⟨_, hexec, hin, hout, State.fetchedCoreIs hkeeps _ _⟩
  · obtain ⟨t, hexec, ⟨hin, hout⟩, hkeeps⟩ := exec_of_blockMove (i := .bmv c false k sh lo) hf ha rfl rfl
      (State.checkShared_ok (v := vs) rfl hslo hshi hvs hp hg (by simp))
      (State.checkLocal_ok (v := vl) rfl hllo hlhi hvl (by simp [hplain])) (by simp [hplain]) (if_neg (by decide))
      (if_neg (by decide)) hread hmerge
    rw [hplain, if_neg (by decide)] at hexec
    exact ⟨_, hexec, hin, hout, State.fetchedCoreIs hkeeps _ _⟩

/-- The records after a move, in the terms of the state before it. -/
theorem signedAs_recordBlock_after {s t u : State} {x : Core} {off : State → Nat → Nat} {base src n : Nat}
    (hkeeps : u.keeps t storeParts) (hoff : ∀ v j, v.pat = t.pat → off v j = base + 8 * j) :
    u.keeps (t.recordBlock x off (s.rdBytes src n) (ceilDiv n 8)) runParts ∧
      Claims.signedAs u (t.recordBlock x off (s.rdBytes src n) (ceilDiv n 8)) (selvSegOf x.object.toNat) (x.run == .runB)
        ((List.range ((n + 7) / 8)).foldl
          (fun w j => Claims.recorded w (base + 8 * j) 8 (s.rdLe (src + 8 * j) (min 8 (n - 8 * j))))
          (u.sig (selvSegOf x.object.toNat) (x.run == .runB))) := by
  have hwsig : t.wsig = u.wsig := hkeeps .wsig (by decide)
  have hrec := signedAs_of_wsig (u := u) (signedAs_recordBlock (x := x) (s.rdBytes src n) hoff (ceilDiv n 8)) hwsig.symm rfl
  refine ⟨(hkeeps.mono (by decide)).step (t.alters_recordBlock x off _ _), ?_⟩
  have hwords : ceilDiv n 8 = (n + 7) / 8 := rfl
  rw [← hwords]
  simpa only [State.sig, hwsig, State.leAt_rdBytes] using hrec

theorem selvedgeBlockMove : Claims.SelvedgeBlockMove := by
  intro c s k sh lo p hf hrun hp u x n seg b rec_ vs vl so ll cost moved hvs hvl hslo hshi hllo hlhi ha
  have hselv : (s.core c).isSelvedge = true := isSelvedge_of_ne hrun
  have hrec : (s.fetched c).runRec (s.core c) = rec_ := State.runRec_eq hp
  refine ⟨fun hg hbegin hend hread hmerge => ?_, fun hg hbegin hend hread hmerge => ?_⟩
  · obtain ⟨t, hexec, ⟨hin, hout⟩, hkeeps⟩ := exec_of_blockMove (i := .bmv c true k sh lo) hf ha rfl rfl
      (State.checkShared_ok (v := vs) rfl hslo hshi hvs hp hg (by simp [hrec, hbegin, hend]))
      (State.checkLocal_ok (v := vl) rfl hllo hlhi hvl (by simp)) (by simp) (if_pos rfl) (if_pos rfl) hread hmerge
    rw [hselv, if_pos rfl] at hexec
    obtain ⟨hafter, hsigned⟩ := signedAs_recordBlock_after (s := s) (src := ll) (n := n) (x := x)
      (base := 2 ^ 31 + (vs - 0x20000000 - runOutOff rec_))
      (off := blockOffset x true (vs - 0x20000000) (vl - 0x10000000)) hkeeps (fun v j hv => by
        have hpat : v.pat = u.pat := hv.trans (hkeeps .pat (by decide))
        have hr : v.runRec x = rec_ := State.runRec_eq (by rw [hpat]; exact hp)
        rw [blockOffset, if_pos rfl, State.outRecord, hr]
        omega)
    exact ⟨_, hexec, by simpa using hin, by simpa using hout, hsigned, State.fetchedCoreIs hafter _ _⟩
  · have hdata : (s.fetched c).inRunData (s.core c) vl n = true := by
      rw [State.inRunData_iff, hrec]; exact ⟨hbegin, hend⟩
    obtain ⟨t, hexec, ⟨hin, hout⟩, hkeeps⟩ := exec_of_blockMove (i := .bmv c false k sh lo) hf ha rfl rfl
      (State.checkShared_ok (v := vs) rfl hslo hshi hvs hp hg (by simp))
      (State.checkLocal_ok (v := vl) rfl hllo hlhi hvl (by simp [hdata]))
      (by rw [show vl - 0x10000000 + localBase = vl from Nat.sub_add_cancel hllo]
          simp [hdata])
      (if_neg (by decide)) (if_neg (by decide)) hread hmerge
    rw [hselv, if_pos rfl] at hexec
    obtain ⟨hafter, hsigned⟩ := signedAs_recordBlock_after (s := s) (src := so) (n := n) (x := x)
      (base := vl - runDataOff rec_)
      (off := blockOffset x false (vs - 0x20000000) (vl - 0x10000000)) hkeeps (fun v j hv => by
        have hpat : v.pat = u.pat := hv.trans (hkeeps .pat (by decide))
        have hr : v.runRec x = rec_ := State.runRec_eq (by rw [hpat]; exact hp)
        have hbase : localBase = 0x10000000 := rfl
        rw [blockOffset, if_neg (by decide), State.dataRecord, hr]
        omega)
    exact ⟨_, hexec, by simpa using hin, by simpa using hout, hsigned, State.fetchedCoreIs hafter _ _⟩

/-- Settles O9: the bytes are read before any is written, and in a selvedge run each word moved adds a record. -/
theorem blockMove : Obligations.BlockMove := ⟨plainBlockMove, selvedgeBlockMove⟩

end Sys2Proof.Machine
end

section
/-!
PROOFS. Branches, jumps, calls and returns (R85, R86, R93).
-/

namespace Sys2Proof.Machine

-- One proof after another: a side condition by `decide` waits for every proof before it, on a thread of its own.
set_option Elab.async false

/-! ### Targets -/

/-- A word offset is four times the offset in bytes (R85). -/
theorem branchTarget_eq {n : Nat} (pc : BitVec 32) (off : BitVec n) :
    branchTarget pc off = pc + BitVec.ofInt 32 (4 * off.toInt) := by
  have hshift : off.signExtend 32 <<< 2 = BitVec.ofInt 32 (4 * off.toInt) := by
    rw [BitVec.shiftLeft_eq_mul_twoPow, BitVec.ofInt_mul, BitVec.signExtend, mul_comm]
    rfl
  rw [branchTarget, hshift]

theorem jumpTarget_ok {x : Core} {a : GReg} {k : BitVec 14} {v : Nat} (hv : (x.rd a + k.signExtend 64).toNat = v)
    (hlt : v < 2 ^ 32) (hal : v % 4 = 0) : jumpTarget x a k = .ok (BitVec.ofNat 32 v) := by
  subst hv
  unfold jumpTarget sext64
  dsimp only
  rw [if_neg (by omega), if_neg (by omega), low32, ← BitVec.ofNat_toNat]

/-! ### Branches, jumps and calls -/

section
variable {c cost : Nat} {s : State} {i : Instr} {pc : BitVec 32} {f : Core → State → CoreStep}

theorem executes_of_jump (hf : s.fetches c) (hi : exec i s = onCore c (s.coreRun c cost f))
    (hok : f (s.core c) (s.fetched c) = .ok (s.fetched c) pc) : Claims.Executes c i s (s.core c) pc cost [] :=
  executes_of_ok hf hi hok (by simpa using (s.fetched c).coreIs_refl c [])

theorem executes_of_setCore {y : Core} (hf : s.fetches c) (hi : exec i s = onCore c (s.coreRun c cost f))
    (hok : f (s.core c) (s.fetched c) = .ok ((s.fetched c).setCore c y) pc) : Claims.Executes c i s y pc cost [] :=
  executes_of_ok hf hi hok (State.coreIs_setCore _ _ _ _)

theorem executes_of_branch {a b : GReg} {o : BitVec 14} {cond : BitVec 64 → BitVec 64 → Bool} {taken : Bool}
    (hf : s.fetches c) (hi : exec i s = onCore c (s.branch c cond a b o))
    (hcond : cond ((s.core c).rd a) ((s.core c).rd b) = taken) :
    Claims.Executes c i s (s.core c)
      (if taken then (s.core c).pc + BitVec.ofInt 32 (4 * o.toInt) else (s.core c).pc + 4) 2 [] := by
  refine executes_of_jump (cost := costBr) hf hi ?_
  rw [hcond, branchTarget_eq]

end

theorem branches : Claims.Branches := by
  intro c s a b o n hf
  refine ⟨executes_of_branch hf rfl (by simp [beq_eq_decide]), executes_of_branch hf rfl (by simp [bne, beq_eq_decide]),
    executes_of_branch hf rfl rfl, executes_of_branch hf rfl rfl, executes_of_branch hf rfl rfl,
    executes_of_branch hf rfl rfl, ?_, ?_, fun hlt hal => ⟨?_, ?_⟩, ?_⟩
  · exact executes_of_jump (cost := costBr) hf rfl (by rw [branchTarget_eq])
  · exact executes_of_setCore (cost := costCall) hf rfl (by rw [branchTarget_eq]; rfl)
  · exact executes_of_jump (cost := costBr) hf rfl (by rw [jumpTarget_ok rfl hlt hal])
  · exact executes_of_setCore (cost := costCall) hf rfl (by rw [jumpTarget_ok rfl hlt hal]; rfl)
  · exact executes_of_jump (cost := costCall) hf rfl rfl

/-! ### Calls with an instance -/

theorem stackFault_eq_false {x : Core} {sp : Nat} (hal : sp % 16 = 0) (hlo : x.stackTop - x.stackLen ≤ sp)
    (hhi : sp + 16 ≤ x.stackTop) (hbase : 0x10000000 ≤ sp) (hend : sp + 16 ≤ 0x10080000) : stackFault x sp = false := by
  have hlow : localBase = 0x10000000 := rfl
  have hsize : localSize = 0x80000 := rfl
  refine Bool.eq_false_iff.2 fun hfault => ?_
  simp only [stackFault, Bool.or_eq_true, bne_iff_ne, decide_eq_true_eq, Bool.not_eq_true', Bool.and_eq_false_iff,
    decide_eq_false_iff_not] at hfault
  omega

/-- What CALLB leaves on the stack. -/
theorem rdByte_pushed (s : State) (ma v w i : Nat) :
    (i < 8 → ((s.wrLe ma 8 v).wrLe (ma + 8) 8 w).rdByte (ma + i) = BitVec.ofNat 8 (v / 256 ^ i)) ∧
      (i < 8 → ((s.wrLe ma 8 v).wrLe (ma + 8) 8 w).rdByte (ma + 8 + i) = BitVec.ofNat 8 (w / 256 ^ i)) ∧
      (¬(ma ≤ i ∧ i < ma + 16) → ((s.wrLe ma 8 v).wrLe (ma + 8) 8 w).rdByte i = s.rdByte i) := by
  refine ⟨fun hi => ?_, fun hi => State.rdByte_wrLe_in _ _ _ _ _ hi, fun hi => ?_⟩
  · rw [State.rdByte_wrLe_out _ _ _ _ _ (by omega), State.rdByte_wrLe_in _ _ _ _ _ hi]
  · rw [State.rdByte_wrLe_out _ _ _ _ _ (by omega), State.rdByte_wrLe_out _ _ _ _ _ (by omega)]

/-- A read without an uncorrectable word. -/
theorem State.eccRead_ok {s : State} {a n finder : Nat} (h : (s.eccRead a n finder).1 = false) :
    ∃ t, s.eccRead a n finder = (false, t) ∧ s.keeps t eccParts :=
  ⟨_, Prod.ext h rfl, s.keeps_eccRead a n finder⟩

section
variable {c sp : Nat} {s : State}

theorem exec_callb {a : GReg} {ma : Nat} (o : BitVec 19) (hf : s.fetches c) (ha : s.affords c 6)
    (hlo : 0x10000000 ≤ ((s.core c).rd a).toNat) (hhi : ((s.core c).rd a).toNat < 0x10080000)
    (hal : ((s.core c).rd a).toNat % 8 = 0) (hsp : ((s.core c).rd stackReg - 16).toNat = sp)
    (hma : Mem.dram c + (sp - localBase) = ma) (hstack : stackFault (s.core c) sp = false) :
    exec (.callb c a o) s = .next (State.retired
      (((((s.fetched c).wrLe ma 8 ((s.core c).pc + 4).toNat).wrLe (ma + 8) 8 (s.core c).ib.toNat).eccClearWords ma 16).setCore c
        { (s.core c).wr 31 ((s.core c).rd 31 - 16) with ib := ((s.core c).rd a).setWidth 32 })
      c ((s.core c).pc + BitVec.ofInt 32 (4 * o.toInt)) 6) := by
  have hcheck : ¬(2 ^ 32 ≤ ((s.core c).rd a).toNat || ((s.core c).rd a).toNat < localBase ||
      localBase + localSize ≤ ((s.core c).rd a).toNat : Bool) = true := by
    have hlow : localBase = 0x10000000 := rfl
    have hsize : localSize = 0x80000 := rfl
    simp only [Bool.or_eq_true, decide_eq_true_eq]
    omega
  refine exec_of_ok (cost := costCallb) hf ha rfl ?_
  rw [← branchTarget_eq]
  subst hsp hma
  exact (if_neg hcheck).trans ((if_neg (not_not.2 hal)).trans (if_neg (Bool.eq_false_iff.1 hstack)))

theorem executes_retb {ma : Nat} (hf : s.fetches c) (hsp : ((s.core c).rd stackReg).toNat = sp)
    (hma : Mem.dram c + (sp - localBase) = ma) (hstack : stackFault (s.core c) sp = false)
    (hread : ((s.fetched c).eccRead ma 16 1).1 = false) :
    Claims.Executes c (.retb c) s { (s.core c).wr 31 ((s.core c).rd 31 + 16) with
      ib := BitVec.ofNat 32 (s.rdLe (ma + 8) 8) } (BitVec.ofNat 32 (s.rdLe ma 8)) 6 eccParts := by
  obtain ⟨v, hreadEq, hkeeps⟩ := State.eccRead_ok hread
  have hle : ∀ b n, v.rdLe b n = s.rdLe b n := fun b n =>
    State.rdLe_congr (fun i => (hkeeps .mem (by decide) i).trans (s.rdByte_fetched c i)) b n
  refine executes_of_ok (cost := costCallb) hf rfl ?_ ((((s.fetched c).coreIs_refl c _).step hkeeps).setCore _)
  refine (if_neg (Bool.eq_false_iff.1 (hsp ▸ hstack))).trans ?_
  rw [hsp, hma]
  dsimp only
  rw [hreadEq]
  simp only [hle]
  rfl

end

@[simp] theorem State.rdByte_setCore (s : State) (c : Nat) (x : Core) (a : Nat) :
    (s.setCore c x).rdByte a = s.rdByte a := rfl

theorem instanceCalls : Claims.InstanceCalls := by
  intro c s a o hf u x inst sp top ma mt
  have hsp : ((s.core c).rd stackReg - 16).toNat = sp := rfl
  have htop : ((s.core c).rd stackReg).toNat = top := rfl
  refine ⟨fun hlo hhi hal hsp16 hsplo hsphi hbase hend ha => ?_, fun htop16 htoplo htophi hbase hend hread =>
    executes_retb hf htop (by rw [show localBase = 0x10000000 from rfl]) (stackFault_eq_false htop16 htoplo htophi hbase hend) hread⟩
  have hexec := exec_callb (ma := ma) o hf ha hlo hhi hal hsp (by rw [show localBase = 0x10000000 from rfl])
    (stackFault_eq_false hsp16 hsplo hsphi hbase hend)
  have hpushed := rdByte_pushed u ma (x.pc + 4).toNat x.ib.toNat
  have hkeeps : u.keeps (((u.wrLe ma 8 (x.pc + 4).toNat).wrLe (ma + 8) 8 x.ib.toNat).eccClearWords ma 16) [.mem, .ecc] :=
    (((u.keeps_refl _).step (State.alters_wrLe _ _ _ _)).step (State.alters_wrLe _ _ _ _)).step
      (State.alters_eccClearWords _ _ _)
  refine ⟨_, hexec, fun i hi => ?_, fun i hi => ?_, fun i hi => ?_, (((u.coreIs_refl c _).step hkeeps).setCore _).retire _ _⟩
  · rw [State.rdByte_retired, State.rdByte_setCore, State.rdByte_eccClearWords]; exact (hpushed i).1 hi
  · rw [State.rdByte_retired, State.rdByte_setCore, State.rdByte_eccClearWords]; exact (hpushed i).2.1 hi
  · rw [State.rdByte_retired, State.rdByte_setCore, State.rdByte_eccClearWords]
    exact ((hpushed i).2.2 hi).trans (s.rdByte_fetched c i)

/-- Settles O10: the condition picks the target; CALLB and RETB move the return address and IB over the stack. -/
theorem branchesAndCalls : Obligations.BranchesAndCalls := ⟨branches, instanceCalls⟩

end Sys2Proof.Machine
end

section
/-!
PROOFS. Slot entries and their agents (R48 to R51), tasks cut short (R50), write signatures (R107, R108), function faults
(R236) and module-wide causes (R251): what each operation leaves alone, and what it sets.
-/

namespace Sys2Proof.Machine

-- One proof after another: a side condition by `decide` waits for every proof before it, on a thread of its own.
set_option Elab.async false

theorem bitsOf_lt (v hi lo : Nat) : bitsOf v hi lo < 2 ^ (hi - lo + 1) := Nat.mod_lt _ (by positivity)

/-! ### Fields, decided -/

/-- A field lies in a word. -/
def Fld.fits (f : Fld) : Bool := decide (f.lo ≤ f.hi) && decide (f.hi < 32)

theorem Fld.fits_iff {f : Fld} : f.fits = true ↔ f.inWord := by simp [Fld.fits, Fld.inWord]

/-- Two fields share no bit of the register file. -/
def Fld.separate (f g : Fld) : Bool :=
  decide (g.addr ≠ f.addr) || (f.fits && g.fits && (decide (f.hi < g.lo) || decide (g.hi < f.lo)))

theorem State.getF_setF_other (s : State) {f g : Fld} (v : Nat) (h : f.separate g = true) :
    (s.setF f v).getF g = s.getF g := by
  by_cases haddr : g.addr = f.addr
  · simp only [Fld.separate, haddr, ne_eq, not_true_eq_false, decide_false, Bool.false_or, Bool.and_eq_true,
      Fld.fits_iff, Bool.or_eq_true, decide_eq_true_eq] at h
    exact s.getF_setF_apart f g v haddr h.1.1 h.1.2 h.2
  · exact s.getF_setF_ne f g v haddr

theorem State.getF_setF_holds (s : State) {f : Fld} {v : Nat} (hf : f.fits = true) (hv : v < 2 ^ f.width) :
    (s.setF f v).getF f = v := s.getF_setF_fits (Fld.fits_iff.1 hf) hv

/-! ### Agents -/

/-- The registers that show which agents execute an entry. -/
abbrev busyAddrs : List Nat := [F.APC_STATUS_BUSY.addr, F.LPE_STATUS_BUSY.addr]

theorem State.alters_setBusy (s : State) (a : Nat) (b : Bool) : s.alters (s.setBusy a b) busyAddrs [.regs] :=
  .ite _ ((s.alters_setF _ _).mono (by simp) (by simp))
    (.ite _ ((s.alters_setF _ _).mono (by simp) (by simp)) (s.alters_refl _ _))

theorem State.alters_setBusy_core (s : State) {a : Nat} (ha : a < 8) (b : Bool) :
    s.alters (s.setBusy a b) [F.APC_STATUS_BUSY.addr] [.regs] := by
  rw [State.setBusy, if_pos ha]
  exact s.alters_setF _ _

theorem State.alters_setSelv (s : State) (c : Nat) (b : Bool) : s.alters (s.setSelv c b) [F.APC_STATUS_SELV.addr] [.regs] :=
  s.alters_setF _ _

theorem State.alters_postHeartbeat (s : State) (a : Nat) : s.alters (s.postHeartbeat a) [] [.sched] := s.alters_sched _

theorem State.alters_beginEntry (s : State) (a : Nat) (r : Running) :
    s.alters (s.beginEntry a r) busyAddrs [.regs, .sched] :=
  ((s.alters_setAgent a _).mono (by simp) (by decide)).step (alters_setBusy _ _ _)

theorem State.alters_finishEntry (s : State) (a k : Nat) : s.alters (s.finishEntry a k) busyAddrs [.regs, .sched] :=
  have hset := ((s.alters_setAgent a { s.agent a with running := none, done := max (s.agent a).done (k + 1) }).mono
    (a := []) (b := busyAddrs) (m := [.regs, .sched]) (by simp) (by decide)).step (alters_setBusy _ a false)
  .ite _ (hset.step (alters_postHeartbeat _ _)) hset

theorem State.alters_finishEntry_core (s : State) {a : Nat} (ha : a < 8) (k : Nat) :
    s.alters (s.finishEntry a k) [F.APC_STATUS_BUSY.addr] [.regs, .sched] :=
  have hset := ((s.alters_setAgent a { s.agent a with running := none, done := max (s.agent a).done (k + 1) }).mono
    (a := []) (b := [F.APC_STATUS_BUSY.addr]) (m := [.regs, .sched]) (by simp) (by decide)).step
    (alters_setBusy_core _ ha false)
  .ite _ (hset.step (alters_postHeartbeat _ _)) hset

theorem State.alters_passEntry (s : State) (a k : Nat) : s.alters (s.passEntry a k) [] [.sched] :=
  have hset := s.alters_setAgent a { s.agent a with done := k + 1 }
  .ite _ (hset.step (alters_postHeartbeat _ _)) hset

@[simp] theorem State.sched_setBusy (s : State) (a : Nat) (b : Bool) : (s.setBusy a b).sched = s.sched :=
  (s.alters_setBusy a b).keeps .sched (by decide)

@[simp] theorem State.agent_setBusy (s : State) (a j : Nat) (b : Bool) : (s.setBusy a b).agent j = s.agent j :=
  agent_of_sched (s.sched_setBusy a b) j

/-- The end of an entry: the agent is free, and it has done the entries up to this one. -/
theorem State.agent_finishEntry (s : State) (a k : Nat) :
    ((s.finishEntry a k).agent a).running = none ∧ ((s.finishEntry a k).agent a).done = max (s.agent a).done (k + 1) := by
  unfold State.finishEntry
  dsimp only
  split_ifs <;> simp [State.postHeartbeat]

theorem State.agent_finishEntry_ne (s : State) {a j : Nat} (k : Nat) (h : j ≠ a) :
    (s.finishEntry a k).agent j = s.agent j := by
  unfold State.finishEntry State.postHeartbeat
  dsimp only
  split_ifs <;> simp [State.agent_setAgent_ne _ _ h]

/-- The end of an entry changes no part of the schedule but the agents. -/
theorem State.sched_finishEntry (s : State) (a k : Nat) :
    (s.finishEntry a k).sched = { s.sched with agents := (s.finishEntry a k).sched.agents } := by
  unfold State.finishEntry State.postHeartbeat
  dsimp only
  split_ifs <;> simp [State.setAgent]

/-! ### The output apply point still to come -/

theorem State.applyCycle_congr {s t : State} (hpat : t.pat = s.pat)
    (hreg : t.getR F.SCH_STATUS_SEAM_POS.addr = s.getR F.SCH_STATUS_SEAM_POS.addr)
    (hagent : t.agent ioAgent = s.agent ioAgent) : t.applyCycle = s.applyCycle := by
  have hpos : t.seamPos = s.seamPos := by simp only [State.seamPos, State.getF, hreg]
  have hrun : t.isSet F.SCH_STATUS_RUNNING = s.isSet F.SCH_STATUS_RUNNING := by
    have hreg' : t.getR F.SCH_STATUS_RUNNING.addr = s.getR F.SCH_STATUS_RUNNING.addr := hreg
    simp only [State.isSet, State.getF, hreg']
  have hsize : t.tableSize ioAgent = s.tableSize ioAgent := by simp only [State.tableSize, hpat, hpos]
  have hsched : ∀ k, t.scheduled ioAgent k = s.scheduled ioAgent k := fun k => by
    simp only [State.scheduled, hrun, hpat, hpos]
  simp only [State.applyCycle, State.nextIoEntry, hsize, hsched, hagent]

/-! ### Ends of a core's entry -/

theorem State.alters_coreIdle (s : State) {c : Nat} (hc : c < 8) (r : Running) :
    s.alters (s.coreIdle c r) [F.APC_STATUS_BUSY.addr] [.regs, .sched] :=
  ((s.alters_setSelv c false).mono (by decide) (by decide)).step (alters_finishEntry_core _ hc _)

theorem State.agent_coreIdle (s : State) (c : Nat) (r : Running) : ((s.coreIdle c r).agent c).running = none ∧
    ((s.coreIdle c r).agent c).done = max (s.agent c).done (r.index + 1) := (s.setSelv c false).agent_finishEntry c r.index

theorem State.sched_coreIdle (s : State) (c : Nat) (r : Running) :
    (s.coreIdle c r).sched = { s.sched with agents := (s.coreIdle c r).sched.agents } :=
  (s.setSelv c false).sched_finishEntry c r.index

theorem State.alters_spend (s : State) (c cost : Nat) : s.alters (s.spend c cost) [] [.cores] := s.alters_setCore _ _

/-! ### Write signatures -/

/-- The registers of a captured mismatch. -/
abbrev mismatchAddrs : List Nat := [F.APC_WSIG_MM_VALID.addr, F.APC_WSIG_SIGA_VALUE.addr, F.APC_WSIG_CNTA_VALUE.addr,
  F.APC_WSIG_SIGB_VALUE.addr, F.APC_WSIG_CNTB_VALUE.addr]

theorem State.alters_setSig (s : State) (seg : Nat) (b : Bool) (w : WSig) : s.alters (s.setSig seg b w) [] [.wsig] :=
  s.alters_wsig _

theorem State.alters_setSelvValid (s : State) (seg : Nat) (v : Bool) : s.alters (s.setSelvValid seg v) [] [.sched] :=
  s.alters_sched _

theorem State.alters_selvFails (s : State) (seg : Nat) : s.alters (s.selvFails seg) [] [.sched] := s.alters_sched _

/-- What the capture registers take. -/
def State.mismatchShown (s : State) (seg reason : Nat) (a b : WSig) : State :=
  ((((((s.setF F.APC_WSIG_MM_VALID 1).setF F.APC_WSIG_MM_REASON reason).setF F.APC_WSIG_MM_SEGMENT seg).setF
    F.APC_WSIG_SIGA_VALUE a.crc.toNat).setF F.APC_WSIG_CNTA_VALUE a.count.toNat).setF
    F.APC_WSIG_SIGB_VALUE b.crc.toNat).setF F.APC_WSIG_CNTB_VALUE b.count.toNat

theorem State.captureMismatch_eq (s : State) (seg at_ reason : Nat) (a b : WSig) :
    s.captureMismatch seg at_ reason a b = if s.firstMismatch seg at_ then
      State.mismatchShown { s with sched := { s.sched with mmAt := some (s.clock.stitch, at_) } } seg reason a b else s :=
  rfl

theorem State.alters_mismatchShown (s : State) (seg reason : Nat) (a b : WSig) :
    s.alters (s.mismatchShown seg reason a b) mismatchAddrs [.regs] :=
  have hvalid := (s.alters_setF F.APC_WSIG_MM_VALID 1).mono (b := mismatchAddrs) (by simp) (fun _ h => h)
  ((((((hvalid.step (alters_setF _ F.APC_WSIG_MM_REASON _) (by decide)).step
    (alters_setF _ F.APC_WSIG_MM_SEGMENT _) (by decide)).step (alters_setF _ F.APC_WSIG_SIGA_VALUE _)).step
    (alters_setF _ F.APC_WSIG_CNTA_VALUE _)).step (alters_setF _ F.APC_WSIG_SIGB_VALUE _)).step
    (alters_setF _ F.APC_WSIG_CNTB_VALUE _))

theorem State.alters_captureMismatch (s : State) (seg at_ reason : Nat) (a b : WSig) :
    s.alters (s.captureMismatch seg at_ reason a b) mismatchAddrs [.regs, .sched] := by
  rw [State.captureMismatch_eq]
  exact .ite _ (((s.alters_sched _).mono (List.nil_subset _) (by decide)).step (alters_mismatchShown _ _ _ _ _)
    (fun _ h => h)) (s.alters_refl _ _)

/-- What the capture registers show. -/
theorem State.getF_mismatchShown (s : State) {seg reason : Nat} (a b : WSig) (hseg : seg < 2 ^ 12) (hr : reason < 4) :
    (s.mismatchShown seg reason a b).getF F.APC_WSIG_MM_VALID = 1 ∧
    (s.mismatchShown seg reason a b).getF F.APC_WSIG_MM_SEGMENT = seg ∧
    (s.mismatchShown seg reason a b).getF F.APC_WSIG_MM_REASON = reason ∧
    (s.mismatchShown seg reason a b).getF F.APC_WSIG_SIGA_VALUE = a.crc.toNat ∧
    (s.mismatchShown seg reason a b).getF F.APC_WSIG_SIGB_VALUE = b.crc.toNat := by
  refine ⟨?_, ?_, ?_, ?_, ?_⟩ <;> simp (disch := decide) only [State.mismatchShown, State.getF_setF_other]
  · exact State.getF_setF_holds _ (by decide) (by decide)
  · exact State.getF_setF_holds _ (by decide) hseg
  · exact State.getF_setF_holds _ (by decide) hr
  · exact State.getF_setF_holds _ (by decide) a.crc.isLt
  · exact State.getF_setF_holds _ (by decide) b.crc.isLt

/-! ### Faults of functions -/

/-- The registers that a fault of a function changes. -/
abbrev faultAddrs (f : Nat) : List Nat :=
  [(F.SAF_FN_STATUS_STATE f).addr, F.SAF_STATUS_FAULTS.addr, F.EVR_STATUS_STAGED.addr]

theorem State.alters_setFnState (s : State) (f st : Nat) :
    s.alters (s.setFnState f st) [(F.SAF_FN_STATUS_STATE f).addr, F.SAF_STATUS_FAULTS.addr] [.regs] :=
  ((s.alters_setF _ _).mono (by simp) (by simp)).step (alters_setF _ _ _)

theorem State.alters_faultFn (s : State) (c : FnCause) (f : Nat) :
    s.alters (s.faultFn c f) (faultAddrs f) [.saf, .regs, .evr] := by
  have hcause := (((s.alters_saf { s.saf with stitchCause := Store.set (fun _ => false) s.saf.stitchCause f true }).mono
    (b := faultAddrs f) (m := [.saf, .regs, .evr]) (by simp) (by decide)).step (alters_setFnState _ f 2)).step
    (alters_setF _ (F.SAF_FN_STATUS_CAUSE f) c.code) (by simp [F.SAF_FN_STATUS_CAUSE, F.SAF_FN_STATUS_STATE])
  exact .ite _ hcause (hcause.step (alters_raise _ _ _ _))

/-- Function f is in FAULT by a cause. -/
def State.faulted (s : State) (c : FnCause) (f : Nat) : Prop := s.fnState f = 2 ∧ s.getF (F.SAF_FN_STATUS_CAUSE f) = c.code

theorem State.faulted.of_getR {s t : State} {c : FnCause} {f : Nat} (h : s.faulted c f)
    (hr : t.getR (F.SAF_FN_STATUS_STATE f).addr = s.getR (F.SAF_FN_STATUS_STATE f).addr) : t.faulted c f := by
  have hr' : t.getR (F.SAF_FN_STATUS_CAUSE f).addr = s.getR (F.SAF_FN_STATUS_CAUSE f).addr := hr
  simpa only [State.faulted, State.fnState, State.getF, hr, hr'] using h

theorem FnCause.code_lt (c : FnCause) : c.code < 2 ^ 6 := by cases c <;> decide

theorem State.faulted_faultFn (s : State) (c : FnCause) {f : Nat} (hf : f < 64) : (s.faultFn c f).faulted c f := by
  have hstate : (F.SAF_FN_STATUS_STATE f).fits = true := by simp [Fld.fits, F.SAF_FN_STATUS_STATE]
  have hcause : (F.SAF_FN_STATUS_CAUSE f).fits = true := by simp [Fld.fits, F.SAF_FN_STATUS_CAUSE]
  have hsep : (F.SAF_FN_STATUS_CAUSE f).separate (F.SAF_FN_STATUS_STATE f) = true := by
    simp [Fld.separate, Fld.fits, F.SAF_FN_STATUS_CAUSE, F.SAF_FN_STATUS_STATE]
  have hset : ∀ t : State, ((t.setFnState f 2).setF (F.SAF_FN_STATUS_CAUSE f) c.code).faulted c f := fun t =>
    ⟨by rw [State.fnState, State.getF_setF_other _ _ hsep, State.setFnState,
          State.getF_setF_ne _ _ _ _ (by simp [F.SAF_FN_STATUS_STATE, F.SAF_STATUS_FAULTS]; omega)]
        exact State.getF_setF_holds _ hstate (by simp [Fld.width, F.SAF_FN_STATUS_STATE]),
      State.getF_setF_holds _ hcause c.code_lt⟩
  unfold State.faultFn
  dsimp only
  split_ifs
  · exact hset _
  · exact (hset _).of_getR (State.getR_raise _ _ _ _ _ (by
      simp only [F.SAF_FN_STATUS_STATE, F.EVR_STATUS_STAGED]; omega))

theorem State.faulted_faultFn_of_faulted {s : State} {c : FnCause} {f : Nat} (hf : f < 64) (h : s.faulted c f) (g : Nat) :
    (s.faultFn c g).faulted c f := by
  by_cases hg : g = f
  · subst hg; exact s.faulted_faultFn c hf
  · refine h.of_getR ((s.alters_faultFn c g).regsBut _ ?_)
    simp only [faultAddrs, F.SAF_FN_STATUS_STATE, F.SAF_STATUS_FAULTS, F.EVR_STATUS_STAGED, List.mem_cons, List.not_mem_nil,
      or_false]
    omega

/-- Every function of the list is in FAULT afterwards. -/
theorem State.faulted_faultFns {c : FnCause} {f : Nat} (hf : f < 64) (fs : List Nat) (s : State) (h : f ∈ fs ∨ s.faulted c f) :
    (s.faultFns c fs).faulted c f := by
  induction fs generalizing s with
  | nil => exact h.resolve_left (by simp)
  | cons g gs ih =>
    refine ih _ ?_
    rcases h with h | h
    · rcases List.mem_cons.1 h with rfl | h
      · exact .inr (s.faulted_faultFn c hf)
      · exact .inl h
    · exact .inr (State.faulted_faultFn_of_faulted hf h g)

theorem State.keeps_faultFns (s : State) (c : FnCause) (fs : List Nat) : s.keeps (s.faultFns c fs) [.saf, .regs, .evr] :=
  State.keeps_foldl id _ (fun t f => (t.alters_faultFn c f).keeps) fs s

/-- A register below the monitor's block stays as it was. -/
theorem State.getR_faultFns (s : State) (c : FnCause) (fs : List Nat) {a : Nat} (ha : a < 0x80000) :
    (s.faultFns c fs).getR a = s.getR a := by
  induction fs generalizing s with
  | nil => rfl
  | cons f fs ih =>
    refine (ih _).trans ((s.alters_faultFn c f).regsBut a ?_)
    simp only [faultAddrs, F.SAF_FN_STATUS_STATE, F.SAF_STATUS_FAULTS, F.EVR_STATUS_STAGED, List.mem_cons, List.not_mem_nil,
      or_false]
    omega

end Sys2Proof.Machine
end

section
/-!
PROOFS. END of the entries of application cores (R108, R113, R118, R120): publication of a task, and the comparison of the
runs of a selvedge segment.
-/

namespace Sys2Proof.Machine

-- One proof after another: a side condition by `decide` waits for every proof before it, on a thread of its own.
set_option Elab.async false

section
variable {c : Nat} {s : State} {r : Running}

/-- END within the budget: what its entry's kind asks for, and then the core is idle. -/
theorem exec_endEntry (hc : c < 8) (hr : (s.agent c).running = some r) (hfetch : s.fetch c (s.core c).pc = (none, s))
    (ha : s.affords c 2) : exec (.endEntry c) s =
      .next (((s.spend c 2).endOf r (160 * r.entry.start + ((s.core c).cyc + 2))).coreIdle c r) := by
  have hcore : ((s.spend c costBr).core c).cyc = (s.core c).cyc + 2 := by simp [State.spend, costBr]
  have hover := (State.affords_iff hr).1 ha
  have hover0 := (State.affords_iff hr).1 (ha.mono (Nat.zero_le _))
  rw [Nat.add_zero] at hover0
  refine Eq.trans ?_ (onCore_of_lt hc _)
  simp only [exec, execEndEntry, hr, hover0, hfetch, hcore, hover, Bool.false_eq_true, if_false]
  rfl

/-- What END leaves of its core and its agent, where what it asks for changes neither cores nor agents. -/
theorem endEntry_core_agent {u : State} {l : List Part} (hc : c < 8) (hu : (s.spend c 2).keeps u l) (hl : Part.cores ∉ l)
    (hagent : u.agent c = s.agent c) : ((u.coreIdle c r).agent c).running = none ∧
      ((u.coreIdle c r).agent c).done = max (s.agent c).done (r.index + 1) ∧
      ((u.coreIdle c r).core c).cyc = (s.core c).cyc + 2 := by
  obtain ⟨hrunning, hdone⟩ := u.agent_coreIdle c r
  refine ⟨hrunning, by rw [hdone, hagent], ?_⟩
  rw [(u.alters_coreIdle hc r).keeps .cores (by decide) c, hu .cores hl c]
  simp [State.spend]

end

/-! ### Publication -/

theorem State.alters_publish (s : State) (k : Nat) :
    s.alters (s.publish k) [(F.SCH_TASK_STATUS_PUBLISHED k).addr] [.regs] :=
  (s.alters_setF (F.SCH_TASK_STATUS_HALF k) _).step (alters_setF _ _ _) (fun _ h => h)

theorem State.publishAt_eq (s : State) (k at_ : Nat) : ∃ x, s.publishAt k at_ = State.publish { s with tasks := x } k := by
  unfold State.publishAt
  split_ifs
  · exact ⟨_, rfl⟩
  · exact ⟨s.tasks, rfl⟩

theorem State.alters_publishAt (s : State) (k at_ : Nat) :
    s.alters (s.publishAt k at_) [(F.SCH_TASK_STATUS_PUBLISHED k).addr] [.regs, .tasks] := by
  obtain ⟨x, hx⟩ := s.publishAt_eq k at_
  rw [hx]
  exact ((s.alters_tasks x).mono (by simp) (by decide)).step (alters_publish _ k)

theorem State.getF_publish (s : State) (k : Nat) : (s.publish k).getF (F.SCH_TASK_STATUS_PUBLISHED k) = 1 ∧
    (s.publish k).getF (F.SCH_TASK_STATUS_HALF k) = 1 - s.getF (F.SCH_TASK_STATUS_HALF k) := by
  refine ⟨State.getF_setF_holds _ (by simp [Fld.fits, F.SCH_TASK_STATUS_PUBLISHED])
    (by simp [Fld.width, F.SCH_TASK_STATUS_PUBLISHED]), ?_⟩
  rw [State.publish, State.getF_setF_other _ _ (by
    simp [Fld.separate, Fld.fits, F.SCH_TASK_STATUS_PUBLISHED, F.SCH_TASK_STATUS_HALF])]
  exact State.getF_setF_holds _ (by simp [Fld.fits, F.SCH_TASK_STATUS_HALF])
    (by simp only [Fld.width, F.SCH_TASK_STATUS_HALF]; omega)

theorem State.getF_publishAt (s : State) (k at_ : Nat) :
    (s.publishAt k at_).getF (F.SCH_TASK_STATUS_PUBLISHED k) = 1 ∧
    (s.publishAt k at_).getF (F.SCH_TASK_STATUS_HALF k) = 1 - s.getF (F.SCH_TASK_STATUS_HALF k) := by
  obtain ⟨x, hx⟩ := s.publishAt_eq k at_
  rw [hx]
  exact State.getF_publish _ k

/-- The register of a task is not the one that shows the busy cores. -/
theorem taskStatus_ne_busy {k : Nat} (hk : k < 32) : (F.SCH_TASK_STATUS_PUBLISHED k).addr ∉ [F.APC_STATUS_BUSY.addr] := by
  simp only [F.SCH_TASK_STATUS_PUBLISHED, F.APC_STATUS_BUSY, List.mem_singleton]
  omega

section
variable {c k at_ : Nat} {s : State} {r : Running}

/-- END that publishes a task. -/
theorem endEntry_publishes (hc : c < 8) (hk : k < 32) :
    let t := ((s.spend c 2).publishAt k at_).coreIdle c r
    (t.agent c).running = none ∧ (t.agent c).done = max (s.agent c).done (r.index + 1) ∧
      (t.core c).cyc = (s.core c).cyc + 2 ∧ t.getF (F.SCH_TASK_STATUS_PUBLISHED k) = 1 ∧
      t.getF (F.SCH_TASK_STATUS_HALF k) = 1 - s.getF (F.SCH_TASK_STATUS_HALF k) ∧
      s.regsBut t [(F.SCH_TASK_STATUS_PUBLISHED k).addr, F.APC_STATUS_BUSY.addr] ∧
      s.keeps t [.regs, .sched, .cores, .tasks] := by
  intro t
  have hpub := (s.spend c 2).alters_publishAt k at_
  have hidle := ((s.spend c 2).publishAt k at_).alters_coreIdle hc r
  obtain ⟨hpublished, hhalf⟩ := (s.spend c 2).getF_publishAt k at_
  obtain ⟨hrunning, hdone, hcyc⟩ := endEntry_core_agent (r := r) hc hpub.keeps (by decide)
    (State.agent_of_sched (hpub.keeps .sched (by decide)) c)
  have hall : s.alters t [(F.SCH_TASK_STATUS_PUBLISHED k).addr, F.APC_STATUS_BUSY.addr] [.regs, .sched, .cores, .tasks] :=
    (((s.alters_spend c 2).mono (by simp) (by decide)).step hpub).step hidle
  exact ⟨hrunning, hdone, hcyc, (hidle.getF (taskStatus_ne_busy hk)).trans hpublished,
    (hidle.getF (f := F.SCH_TASK_STATUS_HALF k) (taskStatus_ne_busy hk)).trans hhalf, hall.regsBut, hall.keeps⟩

end

theorem taskEnd : Claims.TaskEnd := by
  intro c s r p hc hr hfetch hp hkind ha k last
  have hk : k < 32 := bitsOf_lt _ _ _
  have hexec := exec_endEntry hc hr hfetch ha
  by_cases hlast : last
  · have hend : (s.spend c 2).endOf r (160 * r.entry.start + ((s.core c).cyc + 2)) =
        (s.spend c 2).publishAt k (160 * r.entry.start + ((s.core c).cyc + 2)) := by
      obtain ⟨hseg, hcut⟩ := hlast
      have hp' : (s.spend c 2).pat.active = some p := hp
      have hcut' : Store.get (fun _ => false) (s.spend c 2).tasks.cut (taskOf r.entry.object) = false := hcut
      simp only [State.endOf, hkind, hp', hcut', Option.map_some, Option.getD_some, Bool.not_false, Bool.and_true]
      exact if_pos (beq_iff_eq.2 hseg)
    rw [hend] at hexec
    obtain ⟨hrunning, hdone, hcyc, hpub, hhalf, hregs, hkeeps⟩ := endEntry_publishes (s := s) (r := r)
      (at_ := 160 * r.entry.start + ((s.core c).cyc + 2)) hc hk
    exact ⟨_, hexec, hrunning, hdone, hcyc, fun _ => ⟨hpub, hhalf⟩, fun h => absurd hlast h, hregs, hkeeps,
      fun h => absurd hlast h⟩
  · have hend : (s.spend c 2).endOf r (160 * r.entry.start + ((s.core c).cyc + 2)) = s.spend c 2 := by
      have hp' : (s.spend c 2).pat.active = some p := hp
      simp only [State.endOf, hkind, hp', Option.map_some, Option.getD_some]
      refine if_neg fun h => hlast ?_
      simp only [Bool.and_eq_true, beq_iff_eq, Bool.not_eq_true'] at h
      exact h
    rw [hend] at hexec
    obtain ⟨hrunning, hdone, hcyc⟩ := endEntry_core_agent (r := r) (u := s.spend c 2) (l := []) hc
      (State.keeps_refl _ _) (by decide) rfl
    have hidle := (s.spend c 2).alters_coreIdle hc r
    have hall : s.alters ((s.spend c 2).coreIdle c r) [(F.SCH_TASK_STATUS_PUBLISHED k).addr, F.APC_STATUS_BUSY.addr]
        [.regs, .sched, .cores] := ((s.alters_spend c 2).mono (by simp) (by decide)).step hidle
    exact ⟨_, hexec, hrunning, hdone, hcyc, fun h => absurd h hlast, fun _ => ⟨hidle.getF (taskStatus_ne_busy hk),
      hidle.getF (taskStatus_ne_busy hk)⟩, hall.regsBut, hall.keeps.mono (by decide),
      fun _ => hall.keeps .tasks (by decide)⟩

theorem eventEnd : Claims.EventEnd := by
  intro c s r hc hr hfetch hkind ha k
  have hk : k < 32 := bitsOf_lt _ _ _
  have hexec := exec_endEntry hc hr hfetch ha
  have hend : (s.spend c 2).endOf r (160 * r.entry.start + ((s.core c).cyc + 2)) =
      (s.spend c 2).publishAt k (160 * r.entry.start + ((s.core c).cyc + 2)) := by simp only [State.endOf, hkind]; rfl
  rw [hend] at hexec
  exact ⟨_, hexec, endEntry_publishes hc hk⟩

/-! ### The comparison of runs -/

/-- Selvedge segments that a pass leaves waiting: for this apply point, or for the next one. -/
theorem State.selvAt_sched (s : State) (seg at_ : Nat) : ∃ x, s.selvAt seg at_ = { s with sched := x } ∧
    x.agents = s.sched.agents ∧ x.selvFailed = s.sched.selvFailed := by
  unfold State.selvAt
  split_ifs
  · exact ⟨_, rfl, rfl, rfl⟩
  · exact ⟨_, rfl, rfl, rfl⟩

/-- A segment waits for its apply point. -/
def State.selvWaits (s : State) (seg : Nat) : Bool := Store.get (fun _ => false) s.sched.selvValid seg

@[simp] theorem State.selvWaits_setSelvValid (s : State) (seg : Nat) (v : Bool) :
    (s.setSelvValid seg v).selvWaits seg = v := Store.get_set_same _ s.sched.selvValid _ v

/-- After a comparison that comes before the apply point the segment waits if it passed. -/
theorem State.selvWaits_selvAt_early {s : State} {at_ : Nat} (h : ¬∃ a, s.applyCycle = some a ∧ a < at_) (seg : Nat) :
    (s.selvAt seg at_).selvWaits seg = s.selvWaits seg := by
  have hearly : (s.applyCycle.map (fun a => decide (a < at_))).getD false = false := by
    cases hcycle : s.applyCycle with
    | none => rfl
    | some a => simpa using Nat.not_lt.1 fun hlt => h ⟨a, hcycle, hlt⟩
  rw [State.selvAt, hearly]
  rfl

/-- After one that comes later a segment that passed waits for the next one. -/
theorem State.selvWaits_selvAt_late {s : State} {at_ seg : Nat} (h : ∃ a, s.applyCycle = some a ∧ a < at_)
    (hw : s.selvWaits seg = true) :
    (s.selvAt seg at_).selvWaits seg = false ∧ seg ∈ (s.selvAt seg at_).sched.selvLate := by
  obtain ⟨a, hcycle, hlt⟩ := h
  have hlate : ((s.applyCycle.map (fun a => decide (a < at_))).getD false &&
      Store.get (fun _ => false) s.sched.selvValid seg) = true := by
    rw [hcycle]; simpa [hlt, State.selvWaits] using hw
  rw [State.selvAt, if_pos hlate]
  exact ⟨s.selvWaits_setSelvValid seg false, List.mem_cons_self⟩

theorem State.selvWaits_selvAt_not {s : State} {seg : Nat} (at_ : Nat) (hw : s.selvWaits seg = false) :
    (s.selvAt seg at_).selvWaits seg = false := by
  have hno : ((s.applyCycle.map (fun a => decide (a < at_))).getD false &&
      Store.get (fun _ => false) s.sched.selvValid seg) = false := by
    rw [Bool.and_eq_false_iff]; exact .inr hw
  rw [State.selvAt, hno]
  exact hw

/-- A run is over. -/
def State.runEnded (s : State) (seg : Nat) (b : Bool) : State := s.setSig seg b { s.sig seg b with ended := true }

theorem State.finishRun_eq (s : State) (seg : Nat) (b degraded : Bool) (at_ : Nat) :
    s.finishRun seg b false degraded at_ = if (s.sig seg (!b)).ended || (s.sig seg (!b)).aborted then
      (s.runEnded seg b).compareRuns seg at_ else s.runEnded seg b := by
  have hother : (s.runEnded seg b).sig seg (!b) = s.sig seg (!b) := State.sig_setSig_ne _ _ (by simp)
  rw [← hother]
  rfl

/-- The comparison passes: both runs ended with equal signatures and counts. -/
theorem State.compareRuns_pass {s : State} {seg : Nat} (hA : (s.sig seg false).ended = true)
    (hB : (s.sig seg true).ended = true) (hcrc : (s.sig seg false).crc = (s.sig seg true).crc)
    (hcount : (s.sig seg false).count = (s.sig seg true).count) (at_ : Nat) :
    s.compareRuns seg at_ = (s.incWrap F.APC_WSIG_PASS_COUNT).setSelvValid seg true := by
  unfold State.compareRuns
  dsimp only
  exact if_pos (by simp [hA, hB, hcrc, hcount])

/-- It fails, neither run aborted: the mismatch is captured, the outputs are not applied, and the functions of the segment
take a fault. -/
theorem State.compareRuns_mismatch {s : State} {seg : Nat} (hA : (s.sig seg false).aborted = false)
    (hB : (s.sig seg true).aborted = false)
    (h : (s.sig seg false).crc ≠ (s.sig seg true).crc ∨ (s.sig seg false).count ≠ (s.sig seg true).count) (at_ : Nat) :
    s.compareRuns seg at_ =
      let t := ((s.captureMismatch seg at_ 0 (s.sig seg false) (s.sig seg true)).setSelvValid seg false).selvFails seg
      (t.raise Ev.WSIG_MISMATCH srcMonitor [seg, 0]).faultFns .comparator (t.patFns (fun p => p.fnsOfSegment seg)) := by
  have hne : ((s.sig seg false).ended && (s.sig seg true).ended && (s.sig seg false).crc == (s.sig seg true).crc &&
      (s.sig seg false).count == (s.sig seg true).count) = false := by
    rcases h with h | h <;> simp [h]
  have hdegraded : onlyDegraded (s.sig seg false) (s.sig seg true) = false := by simp [onlyDegraded, hA, hB]
  have hreason : mismatchReason (s.sig seg false) (s.sig seg true) = 0 := by simp [mismatchReason, hA, hB]
  unfold State.compareRuns
  dsimp only
  rw [hne, hdegraded, hreason]
  rfl

/-! ### What the comparison leaves alone -/

/-- The state after a mismatch, before the functions take their fault. -/
def State.mismatched (s : State) (seg at_ : Nat) : State :=
  (((s.captureMismatch seg at_ 0 (s.sig seg false) (s.sig seg true)).setSelvValid seg false).selvFails seg).raise
    Ev.WSIG_MISMATCH srcMonitor [seg, 0]

theorem State.alters_runEnded (s : State) (seg : Nat) (b : Bool) : s.alters (s.runEnded seg b) [] [.wsig] :=
  s.alters_setSig _ _ _

theorem State.alters_selvAt (s : State) (seg at_ : Nat) : s.alters (s.selvAt seg at_) [] [.sched] := by
  obtain ⟨x, hx, -, -⟩ := s.selvAt_sched seg at_
  rw [hx]
  exact s.alters_sched x

theorem State.agents_captureMismatch (s : State) (seg at_ reason : Nat) (a b : WSig) :
    (s.captureMismatch seg at_ reason a b).sched.agents = s.sched.agents := by
  rw [State.captureMismatch_eq]
  split_ifs
  · rfl
  · rfl

/-- A comparison changes registers, the schedule's record of it, the recorder and the monitor. -/
theorem State.compareRuns_frame (s : State) (seg at_ : Nat) : s.keeps (s.compareRuns seg at_) [.regs, .sched, .evr, .saf] ∧
    (s.compareRuns seg at_).sched.agents = s.sched.agents := by
  unfold State.compareRuns
  dsimp only
  generalize mismatchReason (s.sig seg false) (s.sig seg true) = reason
  have hcapture := s.alters_captureMismatch seg at_ reason (s.sig seg false) (s.sig seg true)
  have hagents := s.agents_captureMismatch seg at_ reason (s.sig seg false) (s.sig seg true)
  generalize s.captureMismatch seg at_ reason (s.sig seg false) (s.sig seg true) = t at hcapture hagents
  have hfails : s.keeps ((t.setSelvValid seg false).selvFails seg) [.regs, .sched, .evr, .saf] :=
    ((hcapture.keeps.mono (by decide)).step (alters_setSelvValid _ _ _)).step (alters_selvFails _ _)
  split_ifs
  · exact ⟨((s.alters_incWrap _).keeps.mono (by decide)).step (alters_setSelvValid _ _ _), rfl⟩
  · exact ⟨hfails.step (alters_raiseCls _ _ _ _ _), by rw [State.raiseCls_sched]; exact hagents⟩
  · refine ⟨(hfails.step (alters_raise _ _ _ _)).next (keeps_faultFns _ _ _), ?_⟩
    rw [State.keeps_faultFns _ _ _ .sched (by decide), State.raise_sched]
    exact hagents

theorem State.finishRun_frame (s : State) (seg : Nat) (b degraded : Bool) (at_ : Nat) :
    (s.runEnded seg b).keeps (s.finishRun seg b false degraded at_) [.regs, .sched, .evr, .saf] ∧
    (s.finishRun seg b false degraded at_).sched.agents = s.sched.agents := by
  rw [State.finishRun_eq]
  split_ifs
  · exact (s.runEnded seg b).compareRuns_frame seg at_
  · exact ⟨State.keeps_refl _ _, rfl⟩

/-! ### END of a selvedge run -/

section
variable {c seg at_ : Nat} {b : Bool} {s : State} {r : Running}

/-- The state after END of a selvedge run. -/
def State.selvEnd (s : State) (c seg : Nat) (b : Bool) (at_ : Nat) (r : Running) : State :=
  (((s.spend c 2).finishRun seg b false false at_).selvAt seg at_).coreIdle c r

/-- The run is over, whatever its comparison finds. -/
theorem State.selvEnd_common (hc : c < 8) : ((s.selvEnd c seg b at_ r).agent c).running = none ∧
    ((s.selvEnd c seg b at_ r).core c).cyc = (s.core c).cyc + 2 ∧
    Claims.signedAs s (s.selvEnd c seg b at_ r) seg b { s.sig seg b with ended := true } ∧
    ∀ a, (s.selvEnd c seg b at_ r).rdByte a = s.rdByte a := by
  obtain ⟨hfinish, hagents⟩ := (s.spend c 2).finishRun_frame seg b false at_
  obtain ⟨x, hx, hxagents, -⟩ := ((s.spend c 2).finishRun seg b false false at_).selvAt_sched seg at_
  have hselv := ((s.spend c 2).finishRun seg b false false at_).alters_selvAt seg at_
  have hidle := (((s.spend c 2).finishRun seg b false false at_).selvAt seg at_).alters_coreIdle hc r
  have hrun : (s.spend c 2).keeps (((s.spend c 2).finishRun seg b false false at_).selvAt seg at_)
      [.regs, .sched, .evr, .saf, .wsig] :=
    ((((s.spend c 2).alters_runEnded seg b).keeps.mono (by decide)).next hfinish).step hselv
  obtain ⟨hrunning, -, hcyc⟩ := endEntry_core_agent (r := r) hc hrun (by decide) (by
    rw [hx]
    simp only [State.agent, hxagents, hagents]
    rfl)
  have hwsig : (s.selvEnd c seg b at_ r).wsig = ((s.spend c 2).runEnded seg b).wsig :=
    (hfinish.next ((hselv.keeps.mono (by decide)).next hidle.keeps (l := [.regs, .sched]))) .wsig (by decide)
  refine ⟨hrunning, hcyc, signedAs_of_wsig (s := s) (t := s.runEnded seg b) ?_ rfl hwsig, fun a => ?_⟩
  · exact ⟨s.sig_setSig_same _ _ _, fun _ _ h => s.sig_setSig_ne _ h⟩
  · exact (hidle.keeps .mem (by decide) a).trans (hrun .mem (by decide) a)

/-- The other run is not over: nothing is compared. -/
theorem State.selvEnd_alone (hc : c < 8) (he : (s.sig seg (!b)).ended = false) (ha : (s.sig seg (!b)).aborted = false) :
    s.regsBut (s.selvEnd c seg b at_ r) [F.APC_STATUS_BUSY.addr] ∧
      s.keeps (s.selvEnd c seg b at_ r) [.regs, .sched, .cores, .wsig] := by
  have he' : ((s.spend c 2).sig seg (!b)).ended = false := he
  have ha' : ((s.spend c 2).sig seg (!b)).aborted = false := ha
  have hall : s.alters (s.selvEnd c seg b at_ r) [F.APC_STATUS_BUSY.addr] [.regs, .sched, .cores, .wsig] := by
    rw [State.selvEnd, State.finishRun_eq, he', ha', if_neg (by decide)]
    exact ((((s.alters_spend c 2).mono (by simp) (by decide)).step (alters_runEnded _ seg b)).step
      (alters_selvAt _ seg at_)).step (alters_coreIdle _ hc r)
  exact ⟨hall.regsBut, hall.keeps⟩

/-- The signatures of the segment once this run is over. -/
theorem State.sig_runEnded (s : State) (seg : Nat) (b x : Bool) :
    (s.runEnded seg b).sig seg x = if x = b then { s.sig seg b with ended := true } else s.sig seg x := by
  split_ifs with hx
  · subst hx; exact s.sig_setSig_same _ _ _
  · exact s.sig_setSig_ne _ fun h => hx h.2

theorem selvWaits_coreIdle (s : State) (c : Nat) (r : Running) : (s.coreIdle c r).selvWaits seg = s.selvWaits seg := by
  rw [State.selvWaits, State.sched_coreIdle]
  rfl

/-- The comparison passes. -/
theorem State.selvEnd_pass (hc : c < 8) (he : (s.sig seg (!b)).ended = true) (hcrc : (s.sig seg b).crc = (s.sig seg (!b)).crc)
    (hcount : (s.sig seg b).count = (s.sig seg (!b)).count) :
    let t := s.selvEnd c seg b at_ r
    let late : Prop := ∃ a, s.applyCycle = some a ∧ a < at_
    t.getF F.APC_WSIG_PASS_COUNT = (s.getF F.APC_WSIG_PASS_COUNT + 1) % 2 ^ 32 ∧ (¬late → t.selvWaits seg = true) ∧
      (late → t.selvWaits seg = false ∧ seg ∈ t.sched.selvLate) ∧
      s.regsBut t [F.APC_STATUS_BUSY.addr, F.APC_WSIG_PASS_COUNT.addr] ∧ s.keeps t [.regs, .sched, .cores, .wsig] := by
  intro t late
  let u := (((s.spend c 2).runEnded seg b).incWrap F.APC_WSIG_PASS_COUNT).setSelvValid seg true
  have hfinish : (s.spend c 2).finishRun seg b false false at_ = u := by
    have hsig : ∀ x, (s.spend c 2).sig seg x = s.sig seg x := fun _ => rfl
    rw [State.finishRun_eq, hsig, he, Bool.true_or, if_pos rfl]
    refine State.compareRuns_pass ?_ ?_ ?_ ?_ at_ <;> cases b <;> simp_all [State.sig_runEnded]
  have hu : s.alters u [F.APC_WSIG_PASS_COUNT.addr] [.regs, .sched, .cores, .wsig] :=
    ((((s.alters_spend c 2).mono (by simp) (by decide)).step (alters_runEnded _ seg b)).step
      (alters_incWrap _ F.APC_WSIG_PASS_COUNT)).step (alters_setSelvValid _ seg true)
  have hcycle : u.applyCycle = s.applyCycle := State.applyCycle_congr rfl (hu.regsBut _ (by decide)) rfl
  have ht : t = (u.selvAt seg at_).coreIdle c r := by rw [← hfinish]; rfl
  have hlater : u.alters t [F.APC_STATUS_BUSY.addr] [.regs, .sched] := by
    rw [ht]
    exact ((alters_selvAt _ seg at_).mono (by simp) (by decide)).step (alters_coreIdle _ hc r)
  have hall : s.alters t [F.APC_STATUS_BUSY.addr, F.APC_WSIG_PASS_COUNT.addr] [.regs, .sched, .cores, .wsig] :=
    (hu.mono (by simp) (fun _ h => h)).step hlater
  refine ⟨?_, fun h => ?_, fun h => ?_, hall.regsBut, hall.keeps⟩
  · exact (hlater.getF (by decide)).trans (State.getF_setF_same _ _ _ (Fld.fits_iff.1 (by decide)))
  · rw [ht, selvWaits_coreIdle, State.selvWaits_selvAt_early (by rwa [hcycle])]
    exact State.selvWaits_setSelvValid _ _ _
  · obtain ⟨hwaits, hlate⟩ := State.selvWaits_selvAt_late (s := u) (by rwa [hcycle]) (State.selvWaits_setSelvValid _ _ _)
    rw [ht, selvWaits_coreIdle, State.sched_coreIdle]
    exact ⟨hwaits, hlate⟩

/-- The comparison fails. -/
theorem State.selvEnd_mismatch {p : Pattern} (hc : c < 8) (hp : s.pat.active = some p) (hseg : seg < 2 ^ 12)
    (he : (s.sig seg (!b)).ended = true)
    (ha : (s.sig seg (!b)).aborted = false) (hb : (s.sig seg b).aborted = false)
    (hne : (s.sig seg b).crc ≠ (s.sig seg (!b)).crc ∨ (s.sig seg b).count ≠ (s.sig seg (!b)).count) :
    let t := s.selvEnd c seg b at_ r
    t.selvWaits seg = false ∧ seg ∈ t.sched.selvFailed ∧
      (s.getF F.APC_WSIG_MM_VALID = 0 → t.getF F.APC_WSIG_MM_VALID = 1 ∧ t.getF F.APC_WSIG_MM_SEGMENT = seg ∧
        t.getF F.APC_WSIG_MM_REASON = 0 ∧
        t.getF F.APC_WSIG_SIGA_VALUE = (if b then (s.sig seg (!b)).crc else (s.sig seg b).crc).toNat ∧
        t.getF F.APC_WSIG_SIGB_VALUE = (if b then (s.sig seg b).crc else (s.sig seg (!b)).crc).toNat) ∧
      ∀ f, f < 64 → f ∈ p.fnsOfSegment seg → t.fnState f = 2 ∧ t.getF (F.SAF_FN_STATUS_CAUSE f) = 1 := by
  intro t
  let v := (s.spend c 2).runEnded seg b
  let u := ((v.captureMismatch seg at_ 0 (v.sig seg false) (v.sig seg true)).setSelvValid seg false).selvFails seg
  let w := (u.raise Ev.WSIG_MISMATCH srcMonitor [seg, 0]).faultFns .comparator (u.patFns (fun p => p.fnsOfSegment seg))
  have hsig : ∀ x, (s.spend c 2).sig seg x = s.sig seg x := fun _ => rfl
  have hcrcA : (v.sig seg false).crc = if b then (s.sig seg (!b)).crc else (s.sig seg b).crc := by
    cases b <;> simp [v, State.sig_runEnded, hsig]
  have hcrcB : (v.sig seg true).crc = if b then (s.sig seg b).crc else (s.sig seg (!b)).crc := by
    cases b <;> simp [v, State.sig_runEnded, hsig]
  have hfinish : (s.spend c 2).finishRun seg b false false at_ = w := by
    rw [State.finishRun_eq, hsig, he, Bool.true_or, if_pos rfl]
    cases b
    · exact State.compareRuns_mismatch (by simp [State.sig_runEnded, hsig, hb])
        (by simpa [State.sig_runEnded, hsig] using ha) (by simpa [State.sig_runEnded, hsig] using hne) at_
    · exact State.compareRuns_mismatch (by simpa [State.sig_runEnded, hsig] using ha)
        (by simp [State.sig_runEnded, hsig, hb])
        (by simpa [State.sig_runEnded, hsig] using hne.imp Ne.symm Ne.symm) at_
  have hwsched : w.sched = u.sched := by
    rw [show w.sched = _ from State.keeps_faultFns _ _ _ .sched (by decide), State.raise_sched]
  have hwwaits : w.selvWaits seg = false := by
    rw [State.selvWaits, hwsched]; exact State.selvWaits_setSelvValid (v.captureMismatch seg at_ 0 _ _) seg false
  have ht : t = (w.selvAt seg at_).coreIdle c r := by rw [← hfinish]; rfl
  have hlater : w.alters t [F.APC_STATUS_BUSY.addr] [.regs, .sched] := by
    rw [ht]
    exact ((alters_selvAt _ seg at_).mono (by simp) (by decide)).step (alters_coreIdle _ hc r)
  refine ⟨?_, ?_, fun hfree => ?_, fun f hf hfn => ?_⟩
  · rw [ht, selvWaits_coreIdle]
    exact State.selvWaits_selvAt_not at_ hwwaits
  · obtain ⟨x, hx, -, hfailed⟩ := w.selvAt_sched seg at_
    rw [ht, State.sched_coreIdle, hx]
    simp only [hfailed, hwsched]
    exact List.mem_cons_self
  · have hshown := State.getF_mismatchShown { v with sched := { v.sched with mmAt := some (v.clock.stitch, at_) } }
      (v.sig seg false) (v.sig seg true) hseg (reason := 0) (by decide)
    have hfirst : v.firstMismatch seg at_ = true := by
      have hv : v.getF F.APC_WSIG_MM_VALID = 0 := hfree
      simp [State.firstMismatch, State.isSet, hv]
    have hregs : ∀ a, a ∈ mismatchAddrs → t.getR a =
        (v.captureMismatch seg at_ 0 (v.sig seg false) (v.sig seg true)).getR a := fun a ha => by
      have hbelow : a < 0x80000 ∧ a ∉ [F.APC_STATUS_BUSY.addr] ∧ a ≠ F.EVR_STATUS_STAGED.addr := by
        revert a; decide
      rw [hlater.regsBut a hbelow.2.1, State.getR_faultFns _ _ _ hbelow.1, State.getR_raise _ _ _ _ _ hbelow.2.2]
      rfl
    rw [State.captureMismatch_eq, if_pos hfirst] at hregs
    simp only [hcrcA, hcrcB] at hshown
    have hfields : ∀ f : Fld, f.addr ∈ mismatchAddrs → t.getF f = _ := fun f hf => congrArg f.pick (hregs f.addr hf)
    rw [hfields F.APC_WSIG_MM_VALID (by decide), hfields F.APC_WSIG_MM_SEGMENT (by decide),
      hfields F.APC_WSIG_MM_REASON (by decide), hfields F.APC_WSIG_SIGA_VALUE (by decide),
      hfields F.APC_WSIG_SIGB_VALUE (by decide)]
    exact hshown
  · have hpat : u.patFns (fun p => p.fnsOfSegment seg) = p.fnsOfSegment seg := by
      have hup : u.pat = s.pat := ((v.alters_captureMismatch seg at_ 0 _ _).keeps .pat (by decide))
      simp [State.patFns, hup, hp]
    have hfaulted := State.faulted_faultFns (c := .comparator) hf _ (u.raise Ev.WSIG_MISMATCH srcMonitor [seg, 0])
      (.inl (hpat ▸ hfn))
    refine hfaulted.of_getR (hlater.regsBut _ ?_)
    simp only [F.SAF_FN_STATUS_STATE, F.APC_STATUS_BUSY, List.mem_singleton]
    omega

end

theorem selvedgeEnd : Claims.SelvedgeEnd := by
  intro c s r p hc hr hfetch hp hkind ha seg b w o at_ late waits
  have hexec : exec (.endEntry c) s = .next (s.selvEnd c seg b at_ r) := by
    rw [exec_endEntry hc hr hfetch ha]
    simp only [State.endOf, hkind, ← Nat.add_assoc]
    rfl
  obtain ⟨hrunning, hcyc, hsigned, hmem⟩ := State.selvEnd_common (s := s) (seg := seg) (b := b) (at_ := at_) (r := r) hc
  exact ⟨_, hexec, hrunning, hcyc, hsigned, hmem, State.selvEnd_alone hc, State.selvEnd_pass hc,
    State.selvEnd_mismatch hc hp (bitsOf_lt _ _ _)⟩

/-- Settles O11: what END asks for by the kind of its entry; the later run of a segment starts the comparison. -/
theorem endPublishes : Obligations.EndPublishes := ⟨taskEnd, eventEnd, selvedgeEnd⟩

end Sys2Proof.Machine
end

section
/-!
PROOFS. Exceptions of a core (R83, R84, R86, R91, R93, R95, R102, R106): what taking one leaves, and where each cause arises.
-/

namespace Sys2Proof.Machine

-- One proof after another: a side condition by `decide` waits for every proof before it, on a thread of its own.
set_option Elab.async false

/-! ### The registers of the cores' exceptions -/

/-- The registers in which cores show their exceptions read as they did. -/
def State.excKept (s t : State) : Prop := ∀ a, 0x30100 ≤ a → a < 0x30200 → t.getR a = s.getR a

theorem State.excKept_refl (s : State) : s.excKept s := fun _ _ _ => rfl

theorem State.excKept.trans {s t u : State} (h : s.excKept t) (h' : t.excKept u) : s.excKept u :=
  fun a h1 h2 => (h' a h1 h2).trans (h a h1 h2)

theorem State.alters.excKept {s t : State} {l : List Nat} {m : List Part} (h : s.alters t l m)
    (hl : ∀ a ∈ l, a < 0x30100 ∨ 0x30200 ≤ a := by decide) : s.excKept t :=
  fun a h1 h2 => h.regsBut a fun ha => by have := hl a ha; omega

theorem State.excKept.ite {s t u : State} (c : Prop) [Decidable c] (ht : s.excKept t) (hu : s.excKept u) :
    s.excKept (if c then t else u) := by split_ifs <;> assumption

theorem State.excKept_foldl {γ α : Type} (st : γ → State) (f : γ → α → γ) (hf : ∀ x y, (st x).excKept (st (f x y)))
    (xs : List α) (x : γ) : (st x).excKept (st (xs.foldl f x)) := by
  induction xs generalizing x with
  | nil => exact State.excKept_refl _
  | cons y ys ih => exact (hf x y).trans (ih _)

/-- ECC findings change the ECC record, the recorder, the monitor, and no register of an exception. -/
def State.found (s t : State) : Prop := s.keeps t eccParts ∧ s.excKept t

theorem State.found_refl (s : State) : s.found s := ⟨s.keeps_refl _, s.excKept_refl⟩

theorem State.found.trans {s t u : State} (h : s.found t) (h' : t.found u) : s.found u :=
  ⟨State.keeps.next h.1 h'.1, h.2.trans h'.2⟩

theorem arrays_ite {c : Prop} [Decidable c] {x y : Option (Nat × Nat)} (hx : c → ∀ p, x = some p → p.1 < 46)
    (hy : ¬c → ∀ p, y = some p → p.1 < 46) : ∀ p, (if c then x else y) = some p → p.1 < 46 := by
  split_ifs with h
  · exact hx h
  · exact hy h

/-- The arrays of Table 4.14 are 46. -/
theorem eccPlace_lt {a k i : Nat} (h : eccPlace a = some (k, i)) : k < 46 := by
  have harrays : ∀ p, eccPlace a = some p → p.1 < 46 := by
    unfold eccPlace
    repeat' refine arrays_ite (fun _ => ?_) (fun _ => ?_)
    all_goals rintro p ⟨⟩ <;> omega
  exact harrays _ h

theorem State.excKept_moduleWide (s : State) (c : HaltCause) : s.excKept (s.moduleWide c) :=
  (s.alters_saf _).excKept.trans (alters_setB _ F.SAF_STATUS_MOD_OK _).excKept

theorem State.excKept_eccCorrected (s : State) {array : Nat} (index : Nat) (h : array < 46) :
    s.excKept (s.eccCorrected array index) := by
  have hfar : ∀ a ∈ [0x30800 + 0x4 * array], a < 0x30100 ∨ 0x30200 ≤ a := by simp; omega
  have hcount := (s.alters_incSat (F.APC_ECC_ARRAY_CORRECTED array)).excKept hfar
  unfold State.eccCorrected
  exact (hcount.trans (.ite _ (alters_ecc _ _).excKept
    ((alters_incSat _ (F.APC_ECC_ARRAY_DROPPED array)).excKept hfar))).trans (alters_raise _ _ _ _).excKept

theorem State.excKept_eccUncorrectable (s : State) (array index finder : Nat) :
    s.excKept (s.eccUncorrectable array index finder) := by
  have hcount := (s.alters_incSat F.APC_ECC_UE_COUNT).excKept
  have hfirst : (s.incSat F.APC_ECC_UE_COUNT).excKept
      ((((((s.incSat F.APC_ECC_UE_COUNT).setF F.APC_ECC_UE_VALID 1).setF F.APC_ECC_UE_FINDER finder).setF
        F.APC_ECC_UE_ARRAY array).setF F.APC_ECC_UE_ADDR_INDEX index)) :=
    (((alters_setF _ F.APC_ECC_UE_VALID _).excKept.trans (alters_setF _ F.APC_ECC_UE_FINDER _).excKept).trans
      (alters_setF _ F.APC_ECC_UE_ARRAY _).excKept).trans (alters_setF _ F.APC_ECC_UE_ADDR_INDEX _).excKept
  have hshown := hcount.trans (State.excKept.ite ((s.incSat F.APC_ECC_UE_COUNT).isSet F.APC_ECC_UE_VALID = true)
    (State.excKept_refl _) hfirst)
  unfold State.eccUncorrectable
  exact .ite _ ((hshown.trans (alters_raiseCls _ _ _ _ _).excKept).trans (excKept_moduleWide _ _))
    (hshown.trans (alters_raiseCls _ _ _ _ _).excKept)

theorem State.found_eccReadWord (s : State) (a finder : Nat) : s.found (s.eccReadWord a finder).2 := by
  refine ⟨s.keeps_eccReadWord a finder, ?_⟩
  unfold State.eccReadWord
  split
  · exact s.excKept_refl
  · next k i hplace =>
    split
    · exact s.excKept_refl
    · exact s.excKept_eccCorrected _ (eccPlace_lt hplace)
    · exact s.excKept_eccUncorrectable _ _ _

theorem State.found_eccRead (s : State) (a n finder : Nat) : s.found (s.eccRead a n finder).2 :=
  ⟨s.keeps_eccRead a n finder, State.excKept_foldl (γ := Bool × State) Prod.snd _ (fun x _ => by
    split_ifs
    · exact State.excKept_refl _
    · exact (x.2.found_eccReadWord _ _).2) _ (false, s)⟩

theorem State.found_fetch (s : State) (c : Nat) (pc : BitVec 32) : s.found (s.fetch c pc).2 := by
  have hread := s.found_eccReadWord (Mem.iram c + pc.toNat / 8 * 8) 1
  unfold State.fetch
  split_ifs
  · split <;> simp_all
  · exact s.found_refl

/-! ### The end of the entry -/

theorem State.alters_cutTask (s : State) (k : Nat) :
    s.alters (s.cutTask k) [(F.SCH_TASK_STATUS_ABORTS k).addr, F.EVR_STATUS_STAGED.addr] [.regs, .tasks, .evr] := by
  have hcut : s.alters _ [(F.SCH_TASK_STATUS_ABORTS k).addr, F.EVR_STATUS_STAGED.addr] [.regs, .tasks, .evr] :=
    ((s.alters_incSat (F.SCH_TASK_STATUS_ABORTS k)).mono (by simp) (by decide)).step
      (alters_tasks _ { (s.incSat (F.SCH_TASK_STATUS_ABORTS k)).tasks with
        cut := Store.set (fun _ => false) (s.incSat (F.SCH_TASK_STATUS_ABORTS k)).tasks.cut k true })
  exact .ite _ ((hcut.step (alters_setF _ (F.SCH_TASK_STATUS_SUSPENDED k) 1)
    (by simp [F.SCH_TASK_STATUS_SUSPENDED, F.SCH_TASK_STATUS_ABORTS])).step (alters_raise _ _ _ _)) hcut

theorem State.excKept_faultFns (s : State) (c : FnCause) (fs : List Nat) : s.excKept (s.faultFns c fs) :=
  fun a _ h => s.getR_faultFns c fs (by omega)

theorem State.excKept_compareRuns (s : State) (seg at_ : Nat) : s.excKept (s.compareRuns seg at_) := by
  unfold State.compareRuns
  dsimp only
  generalize mismatchReason (s.sig seg false) (s.sig seg true) = reason
  have hfails := ((s.alters_captureMismatch seg at_ reason (s.sig seg false) (s.sig seg true)).excKept.trans
    (alters_setSelvValid _ seg false).excKept).trans (alters_selvFails _ seg).excKept
  refine .ite _ ?_ (.ite _ ?_ ?_)
  · exact (s.alters_incWrap F.APC_WSIG_PASS_COUNT).excKept.trans (alters_setSelvValid _ _ _).excKept
  · exact hfails.trans (alters_raiseCls _ _ _ _ _).excKept
  · exact (hfails.trans (alters_raise _ _ _ _).excKept).trans (excKept_faultFns _ _ _)

/-- The parts that the abort of a core's entry changes. -/
abbrev abortParts : List Part := [.regs, .tasks, .evr, .wsig, .sched, .saf]

theorem State.abortedRun_frame (s : State) (seg : Nat) (b degraded : Bool) (at_ : Nat) :
    s.keeps (s.finishRun seg b true degraded at_) abortParts ∧ s.excKept (s.finishRun seg b true degraded at_) ∧
      (s.finishRun seg b true degraded at_).sched.agents = s.sched.agents := by
  have hsig := s.alters_setSig seg b { s.sig seg b with aborted := true, degraded := degraded }
  have hcompare := State.compareRuns_frame (s.setSig seg b { s.sig seg b with aborted := true, degraded := degraded }) seg at_
  unfold State.finishRun
  dsimp only
  rw [if_pos rfl]
  split_ifs
  · exact ⟨State.keeps.next (hsig.keeps.mono (by decide)) hcompare.1, hsig.excKept.trans (excKept_compareRuns _ _ _),
      hcompare.2⟩
  · exact ⟨hsig.keeps.mono (by decide), hsig.excKept, rfl⟩

theorem taskStatus_far {k : Nat} (hk : k < 32) :
    ∀ a ∈ [(F.SCH_TASK_STATUS_ABORTS k).addr, F.EVR_STATUS_STAGED.addr], a < 0x30100 ∨ 0x30200 ≤ a := by
  simp only [F.SCH_TASK_STATUS_ABORTS, F.EVR_STATUS_STAGED, List.mem_cons, List.not_mem_nil, or_false]
  omega

/-- The overrun action of a core's entry: no core, no byte of memory and no register of an exception changes, and the core
is idle. -/
theorem State.abortCore_frame (s : State) {c : Nat} (hc : c < 8) (r : Running) (degraded : Bool) (at_ : Nat) :
    s.keeps (s.abortCore c r degraded at_) abortParts ∧ s.excKept (s.abortCore c r degraded at_) ∧
      ((s.abortCore c r degraded at_).agent c).running = none := by
  have hidle : ∀ t : State, s.keeps t abortParts → s.excKept t → s.keeps (t.coreIdle c r) abortParts ∧
      s.excKept (t.coreIdle c r) ∧ ((t.coreIdle c r).agent c).running = none := fun t hk he =>
    ⟨hk.step (alters_coreIdle t hc r), he.trans (alters_coreIdle t hc r).excKept, (t.agent_coreIdle c r).1⟩
  have hcut := s.alters_cutTask (taskOf r.entry.object)
  have hcutExc := hcut.excKept (taskStatus_far (bitsOf_lt _ _ _))
  obtain ⟨hrun, hrunExc, -⟩ := s.abortedRun_frame (selvSegOf r.entry.object) (selvRunB r.entry.object) degraded at_
  unfold State.abortCore
  cases r.entry.kind
  case coreSeg | evtSlot => exact hidle _ (hcut.keeps.mono (by decide)) hcutExc
  case selvSeg => exact hidle _ hrun hrunExc
  all_goals exact hidle _ (s.keeps_refl _) s.excKept_refl

/-! ### Taking an exception -/

/-- The capture of an exception of core c. -/
def State.excShown (s : State) (c : Nat) (r : Running) (cause : ExcCause) (pc addr : Nat) : State :=
  ((((((s.setF (F.APC_CORE_FAULT_VALID c) 1).setF (F.APC_CORE_FAULT_CAUSE c) cause.code).setF
    (F.APC_CORE_FAULT_KIND c) r.entry.kindNo).setF (F.APC_CORE_FAULT_OBJECT c) r.entry.object).setF
    (F.APC_CORE_FPC_PC c) pc).setF (F.APC_CORE_FADDR_ADDR c) addr).setF
    F.APC_STATUS_FAULT (if bitOf (s.getF F.APC_STATUS_FAULT) c then s.getF F.APC_STATUS_FAULT
      else s.getF F.APC_STATUS_FAULT + 2 ^ c)

/-- The count of exceptions and the event follow the capture, if the last one has been acknowledged. -/
theorem State.takeCoreException_eq (s : State) (c : Nat) (r : Running) (cause : ExcCause) (addr : Nat) :
    let u := s.abortCore c r false (160 * r.entry.start + (s.core c).cyc)
    s.takeCoreException c r cause addr =
      ((if u.isSet (F.APC_CORE_FAULT_VALID c) then u else u.excShown c r cause (s.core c).pc.toNat addr).incSat
        (F.APC_CORE_EXC_COUNT c)).raiseCls Ev.CORE_EXCEPTION (srcCore c) (if r.entry.kind = .selvSeg then 1 else 2)
        [c, cause.code, (s.core c).pc.toNat, addr] := rfl

theorem ExcCause.code_lt (cause : ExcCause) : cause.code < 2 ^ 4 := by cases cause <;> decide

section
variable (s : State) (c : Nat) (r : Running) (cause : ExcCause) {pc addr : Nat}

theorem State.keeps_excShown : s.keeps (s.excShown c r cause pc addr) [.regs] :=
  ((((((s.keeps_refl _).step (alters_setF _ _ _)).step (alters_setF _ _ _)).step (alters_setF _ _ _)).step
    (alters_setF _ _ _)).step (alters_setF _ _ _)).step (alters_setF _ _ _) |>.step (alters_setF _ _ _)

theorem State.getF_excShown (hc : c < 8) (hpc : pc < 2 ^ 32) (haddr : addr < 2 ^ 32) :
    (s.excShown c r cause pc addr).getF (F.APC_CORE_FAULT_VALID c) = 1 ∧
    (s.excShown c r cause pc addr).getF (F.APC_CORE_FAULT_CAUSE c) = cause.code ∧
    (s.excShown c r cause pc addr).getF (F.APC_CORE_FPC_PC c) = pc ∧
    (s.excShown c r cause pc addr).getF (F.APC_CORE_FADDR_ADDR c) = addr ∧
    (s.excShown c r cause pc addr).getF (F.APC_CORE_EXC_COUNT c) = s.getF (F.APC_CORE_EXC_COUNT c) := by
  have hstatus : ∀ f : Fld, f.addr = 0x30100 + 0x20 * c ∨ f.addr = 0x30104 + 0x20 * c ∨ f.addr = 0x30108 + 0x20 * c ∨
      f.addr = 0x3010C + 0x20 * c → F.APC_STATUS_FAULT.separate f = true := fun f hf => by
    have : f.addr ≠ F.APC_STATUS_FAULT.addr := by simp only [F.APC_STATUS_FAULT]; omega
    simp [Fld.separate, this]
  refine ⟨?_, ?_, ?_, ?_, ?_⟩ <;> unfold State.excShown
  · rw [State.getF_setF_other _ _ (hstatus _ (by simp [F.APC_CORE_FAULT_VALID]))]
    simp (disch := simp [Fld.separate, Fld.fits, F.APC_CORE_FAULT_VALID, F.APC_CORE_FAULT_CAUSE, F.APC_CORE_FAULT_KIND,
      F.APC_CORE_FAULT_OBJECT, F.APC_CORE_FPC_PC, F.APC_CORE_FADDR_ADDR]) only [State.getF_setF_other]
    exact State.getF_setF_holds _ (by simp [Fld.fits, F.APC_CORE_FAULT_VALID]) (by simp [Fld.width, F.APC_CORE_FAULT_VALID])
  · rw [State.getF_setF_other _ _ (hstatus _ (by simp [F.APC_CORE_FAULT_CAUSE]))]
    simp (disch := simp [Fld.separate, Fld.fits, F.APC_CORE_FAULT_CAUSE, F.APC_CORE_FAULT_KIND,
      F.APC_CORE_FAULT_OBJECT, F.APC_CORE_FPC_PC, F.APC_CORE_FADDR_ADDR]) only [State.getF_setF_other]
    exact State.getF_setF_holds _ (by simp [Fld.fits, F.APC_CORE_FAULT_CAUSE]) cause.code_lt
  · rw [State.getF_setF_other _ _ (hstatus _ (by simp [F.APC_CORE_FPC_PC])),
      State.getF_setF_other _ _ (by simp [Fld.separate, F.APC_CORE_FPC_PC, F.APC_CORE_FADDR_ADDR])]
    exact State.getF_setF_holds _ (by simp [Fld.fits, F.APC_CORE_FPC_PC]) hpc
  · rw [State.getF_setF_other _ _ (hstatus _ (by simp [F.APC_CORE_FADDR_ADDR]))]
    exact State.getF_setF_holds _ (by simp [Fld.fits, F.APC_CORE_FADDR_ADDR]) haddr
  · rw [State.getF_setF_other _ _ (hstatus _ (by simp [F.APC_CORE_EXC_COUNT]))]
    simp (disch := simp [Fld.separate, F.APC_CORE_FAULT_VALID, F.APC_CORE_FAULT_CAUSE, F.APC_CORE_FAULT_KIND,
      F.APC_CORE_FAULT_OBJECT, F.APC_CORE_FPC_PC, F.APC_CORE_FADDR_ADDR, F.APC_CORE_EXC_COUNT]) only [State.getF_setF_other]

end

/-- The exception of core c that a state shows. -/
def State.captured (s t : State) (c cause addr : Nat) : Prop :=
  (s.getF (F.APC_CORE_FAULT_VALID c) = 0 → t.getF (F.APC_CORE_FAULT_VALID c) = 1 ∧
    t.getF (F.APC_CORE_FAULT_CAUSE c) = cause ∧ t.getF (F.APC_CORE_FPC_PC c) = (s.core c).pc.toNat ∧
    t.getF (F.APC_CORE_FADDR_ADDR c) = addr) ∧
  (s.getF (F.APC_CORE_FAULT_VALID c) = 1 → t.getR (F.APC_CORE_FAULT_VALID c).addr = s.getR (F.APC_CORE_FAULT_VALID c).addr ∧
    t.getR (F.APC_CORE_FPC_PC c).addr = s.getR (F.APC_CORE_FPC_PC c).addr ∧
    t.getR (F.APC_CORE_FADDR_ADDR c).addr = s.getR (F.APC_CORE_FADDR_ADDR c).addr) ∧
  t.getF (F.APC_CORE_EXC_COUNT c) = Nat.min 65535 (s.getF (F.APC_CORE_EXC_COUNT c) + 1)

/-- What follows a state whose registers of exceptions are as in the first. -/
theorem captured_of_excKept {s u t : State} {c cause addr : Nat} (hc : c < 8) (h : s.excKept u) (hcore : u.core c = s.core c)
    (hu : State.captured u t c cause addr) : State.captured s t c cause addr := by
  have hreg : ∀ k, k < 0x20 → u.getR (0x30100 + 0x20 * c + k) = s.getR (0x30100 + 0x20 * c + k) := fun k hk =>
    h _ (by omega) (by omega)
  have hfault : u.getR (F.APC_CORE_FAULT_VALID c).addr = s.getR (F.APC_CORE_FAULT_VALID c).addr := hreg 0 (by decide)
  have hpc : u.getR (F.APC_CORE_FPC_PC c).addr = s.getR (F.APC_CORE_FPC_PC c).addr := by
    simpa [F.APC_CORE_FPC_PC, Nat.add_right_comm] using hreg 4 (by decide)
  have haddr : u.getR (F.APC_CORE_FADDR_ADDR c).addr = s.getR (F.APC_CORE_FADDR_ADDR c).addr := by
    simpa [F.APC_CORE_FADDR_ADDR, Nat.add_right_comm] using hreg 8 (by decide)
  have hcount : u.getR (F.APC_CORE_EXC_COUNT c).addr = s.getR (F.APC_CORE_EXC_COUNT c).addr := by
    simpa [F.APC_CORE_EXC_COUNT, Nat.add_right_comm] using hreg 12 (by decide)
  have hvalid : u.getF (F.APC_CORE_FAULT_VALID c) = s.getF (F.APC_CORE_FAULT_VALID c) := congrArg _ hfault
  have hexc : u.getF (F.APC_CORE_EXC_COUNT c) = s.getF (F.APC_CORE_EXC_COUNT c) := congrArg _ hcount
  simpa only [State.captured, hvalid, hexc, hfault, hpc, haddr, hcore] using hu

/-- R91: the core stops, the exception is captured and counted, and no core and no byte of memory changes. -/
theorem State.takeCoreException_spec (s : State) {c addr : Nat} (hc : c < 8) (r : Running) (cause : ExcCause)
    (haddr : addr < 2 ^ 32) : ((s.takeCoreException c r cause addr).agent c).running = none ∧
      s.captured (s.takeCoreException c r cause addr) c cause.code addr ∧
      (∀ a, (s.takeCoreException c r cause addr).rdByte a = s.rdByte a) ∧
      ∀ j, (s.takeCoreException c r cause addr).core j = s.core j := by
  rw [State.takeCoreException_eq]
  obtain ⟨hkeeps, hkept, hidle⟩ := s.abortCore_frame hc r false (160 * r.entry.start + (s.core c).cyc)
  generalize s.abortCore c r false (160 * r.entry.start + (s.core c).cyc) = u at hkeeps hkept hidle
  let v := if u.isSet (F.APC_CORE_FAULT_VALID c) then u else u.excShown c r cause (s.core c).pc.toNat addr
  have hv : u.keeps v [.regs] := .ite _ (u.keeps_refl _) (u.keeps_excShown c r cause)
  have hcounted := v.alters_incSat (F.APC_CORE_EXC_COUNT c)
  let w := v.incSat (F.APC_CORE_EXC_COUNT c)
  let t := w.raiseCls Ev.CORE_EXCEPTION (srcCore c) (if r.entry.kind = .selvSeg then 1 else 2)
    [c, cause.code, (s.core c).pc.toNat, addr]
  have hraised : w.alters t [F.EVR_STATUS_STAGED.addr] [.regs, .evr] := w.alters_raiseCls _ _ _ _
  have hut : u.keeps t [.regs, .evr] := ((hv.step hcounted).mono (by decide)).step hraised
  have hcore : u.core c = s.core c := hkeeps .cores (by decide) c
  have hlater : ∀ a, a = 0x30100 + 0x20 * c ∨ a = 0x30104 + 0x20 * c ∨ a = 0x30108 + 0x20 * c → t.getR a = v.getR a :=
    fun a ha => (hraised.regsBut a (by simp only [F.EVR_STATUS_STAGED, List.mem_singleton]; omega)).trans
      (hcounted.regsBut a (by simp only [F.APC_CORE_EXC_COUNT, List.mem_singleton]; omega))
  have hregs : ∀ f : Fld, f.addr = 0x30100 + 0x20 * c ∨ f.addr = 0x30104 + 0x20 * c ∨ f.addr = 0x30108 + 0x20 * c →
      t.getF f = v.getF f := fun f hf => congrArg f.pick (hlater f.addr hf)
  refine ⟨?_, captured_of_excKept hc hkept hcore ⟨fun h0 => ?_, fun h1 => ?_, ?_⟩, fun a => ?_, fun j => ?_⟩
  · rw [State.agent_of_sched (s := u) (t := t) (hut .sched (by decide))]
    exact hidle
  · have hshown : v = u.excShown c r cause (s.core c).pc.toNat addr := if_neg (by simp [State.isSet, h0])
    obtain ⟨hvalid, hcause, hpc, hfaddr, -⟩ := u.getF_excShown c r cause hc (s.core c).pc.isLt haddr
    rw [← hshown] at hvalid hcause hpc hfaddr
    refine ⟨(hregs _ (.inl rfl)).trans hvalid, (hregs _ (.inl rfl)).trans hcause, ?_, (hregs _ (.inr (.inr rfl))).trans hfaddr⟩
    rw [hcore]
    exact (hregs _ (.inr (.inl rfl))).trans hpc
  · have hsame : v = u := if_pos (by simp [State.isSet, h1])
    have hreg : ∀ a, a = 0x30100 + 0x20 * c ∨ a = 0x30104 + 0x20 * c ∨ a = 0x30108 + 0x20 * c → t.getR a = u.getR a :=
      fun a ha => (hlater a ha).trans (by rw [hsame])
    exact ⟨hreg _ (.inl rfl), hreg _ (.inr (.inl rfl)), hreg _ (.inr (.inr rfl))⟩
  · have hbefore : v.getF (F.APC_CORE_EXC_COUNT c) = u.getF (F.APC_CORE_EXC_COUNT c) := by
      by_cases hvalid : u.isSet (F.APC_CORE_FAULT_VALID c) = true
      · exact congrArg (State.getF · _) (if_pos hvalid)
      · exact (congrArg (State.getF · _) (if_neg hvalid)).trans
          (u.getF_excShown c r cause hc (s.core c).pc.isLt haddr).2.2.2.2
    rw [hraised.getF (f := F.APC_CORE_EXC_COUNT c) (by
        simp only [F.APC_CORE_EXC_COUNT, F.EVR_STATUS_STAGED, List.mem_singleton]; omega),
      State.getF_incSat_same v (Fld.fits_iff.1 (by simp [Fld.fits, F.APC_CORE_EXC_COUNT])), hbefore]
    rfl
  · exact (hut .mem (by decide) a).trans (hkeeps .mem (by decide) a)
  · exact (hut .cores (by decide) j).trans (hkeeps .cores (by decide) j)

/-! ### An instruction that raises -/

section
variable {c cost addr : Nat} {i : Instr} {s t : State} {f : Core → State → CoreStep} {cause : ExcCause}

theorem raises_of_take {r : Running} (hc : c < 8) (ht : s.found t) (haddr : addr < 2 ^ 32)
    (hexec : exec i s = .next (t.takeCoreException c r cause addr)) : Claims.Raises c i s cause.code addr := by
  obtain ⟨hkeeps, hkept⟩ := ht
  obtain ⟨hidle, hcaptured, hmem, hcores⟩ := t.takeCoreException_spec hc r cause haddr
  obtain ⟨hfirst, hnext, hcount⟩ := captured_of_excKept hc hkept (hkeeps .cores (by decide) c) hcaptured
  exact ⟨_, hexec, hidle, hfirst, hnext, hcount, fun a => (hmem a).trans (hkeeps .mem (by decide) a),
    fun j => (hcores j).trans (hkeeps .cores (by decide) j)⟩

theorem State.found_fetched (s : State) (c : Nat) : s.found (s.fetched c) := s.found_fetch c _

theorem raises_of_exc (hf : s.fetches c) (h0 : s.affords c 0) (hi : exec i s = onCore c (s.coreRun c cost f))
    (hexc : f (s.core c) (s.fetched c) = .exc t cause addr) (ht : (s.fetched c).found t) (haddr : addr < 2 ^ 32) :
    Claims.Raises c i s cause.code addr := by
  obtain ⟨r, -, hrun⟩ := State.coreRun_exc hf h0 hexc
  exact raises_of_take hf.1 ((s.found_fetched c).trans ht) haddr (hi.trans ((onCore_of_lt hf.1 _).trans (by rw [hrun])))

/-- Instructions that run by the fetch, their effect and their cost, as all do but END; and END itself. -/
def FetchedBy (i : Instr) (c : Nat) : Prop :=
  (∀ s, ∃ t, exec i s = onCore c t ∧ ∃ cost f, t = s.coreRun c cost f) ∨ i = .endEntry c

theorem raises_of_fetch (hc : c < 8) (h0 : s.affords c 0) (hi : FetchedBy i c)
    (hfetch : s.fetch c (s.core c).pc = (some (cause, addr), t)) (haddr : addr < 2 ^ 32) :
    Claims.Raises c i s cause.code addr := by
  obtain ⟨r, hr, hle⟩ := h0
  have hover : overBudget r (s.core c).cyc = false := overBudget_eq_false.2 hle
  have hfound : s.found t := by simpa [hfetch] using s.found_fetch c (s.core c).pc
  refine raises_of_take (r := r) hc hfound haddr ?_
  rcases hi with hrun | rfl
  · obtain ⟨t, hrun, cost, f, rfl⟩ := hrun s
    rw [hrun]
    refine (onCore_of_lt hc _).trans ?_
    simp only [State.coreRun, hr, hover, hfetch, Bool.false_eq_true, if_false]
  · refine Eq.trans ?_ (onCore_of_lt hc _)
    simp only [exec, execEndEntry, hr, hover, hfetch, Bool.false_eq_true, if_false]

end

/-! ### What a word decodes to is fetched -/

section
variable {c : Nat} {w : BitVec 32} {i : Instr}

theorem fetchedBy_of_reg (h : ∀ s, ∃ cost g, exec i s = onCore c (s.coreReg c cost g)) : FetchedBy i c :=
  .inl fun s => by
    obtain ⟨cost, g, hi⟩ := h s
    exact ⟨_, hi, _, _, rfl⟩

theorem fetchedBy_decodeAlu (h : decodeAlu c w = some i) : FetchedBy i c := by
  unfold decodeAlu at h
  split at h <;> cases h <;> exact fetchedBy_of_reg fun _ => ⟨_, _, rfl⟩

theorem fetchedBy_decodeMulDiv (h : decodeMulDiv c w = some i) : FetchedBy i c := by
  unfold decodeMulDiv at h
  split_ifs at h <;> split at h <;> cases h <;> exact fetchedBy_of_reg fun _ => ⟨_, _, rfl⟩

theorem fetchedBy_decodeFp {b : Bool} (h : decodeFp c b w = some i) : FetchedBy i c := by
  unfold decodeFp at h
  split at h
  case h_6 | h_7 | h_12 =>
    split_ifs at h
    cases h
    exact fetchedBy_of_reg fun _ => ⟨_, _, rfl⟩
  all_goals cases h <;> exact fetchedBy_of_reg fun _ => ⟨_, _, rfl⟩

theorem fetchedBy_decodeFma (h : decodeFma c w = some i) : FetchedBy i c := by
  unfold decodeFma at h
  split at h <;> cases h <;> exact fetchedBy_of_reg fun _ => ⟨_, _, rfl⟩

theorem fetchedBy_decodeCvt (h : decodeCvt c w = some i) : FetchedBy i c := by
  unfold decodeCvt at h
  split_ifs at h
  split at h <;> cases h <;> exact fetchedBy_of_reg fun _ => ⟨_, _, rfl⟩

theorem fetchedBy_decodeShk (h : decodeShk c w = some i) : FetchedBy i c := by
  unfold decodeShk at h
  simp only at h
  split_ifs at h
  split at h <;> cases h <;> exact fetchedBy_of_reg fun _ => ⟨_, _, rfl⟩

theorem fetchedBy_decodeImm (h : decodeImm c w = some i) : FetchedBy i c := by
  unfold decodeImm at h
  split at h
  case h_1 | h_2 =>
    split_ifs at h
    cases h
    exact .inl fun _ => ⟨_, rfl, _, _, rfl⟩
  case h_8 => exact fetchedBy_decodeShk h
  all_goals cases h <;> exact fetchedBy_of_reg fun _ => ⟨_, _, rfl⟩

theorem fetchedBy_bmv (c : Nat) (dir : Bool) (k : BitVec 15) (sh lo : GReg) : FetchedBy (.bmv c dir k sh lo) c :=
  .inl fun s => ⟨s.blockMove c dir k sh lo, rfl, by unfold State.blockMove; exact ⟨_, _, rfl⟩⟩

theorem fetchedBy_decodeMem (h : decodeMem c w = some i) : FetchedBy i c := by
  unfold decodeMem at h
  split at h
  case h_23 | h_24 | h_25 | h_26 => cases h; exact fetchedBy_bmv _ _ _ _ _
  all_goals cases h <;> exact .inl fun _ => ⟨_, rfl, _, _, rfl⟩

theorem fetchedBy_decodeSys (h : decodeSys c w = some i) : FetchedBy i c := by
  unfold decodeSys at h
  simp only at h
  split at h
  case h_10 =>
    cases h
    have hs : knownService (w.extractLsb' 23 9).toNat = false := by
      simp only [knownService, Bool.or_eq_false_iff, beq_eq_false_iff_ne]
      tauto
    exact .inl fun s => ⟨s.coreRun c costSys (fun _ s => .exc s .sysBad 0), by
      simp only [exec, execSysBad, hs, Bool.false_eq_true, if_false], _, _, rfl⟩
  all_goals
    cases h
    exact .inl fun _ => ⟨_, rfl, _, _, rfl⟩

theorem fetchedBy_decodeFlow (h : decodeFlow c w = some i) : FetchedBy i c := by
  unfold decodeFlow at h
  split at h
  case h_8 | h_10 | h_11 | h_13 =>
    split_ifs at h
    cases h
    exact .inl fun _ => ⟨_, rfl, _, _, rfl⟩
  case h_14 =>
    split_ifs at h
    cases h
    exact .inr rfl
  case h_15 => exact fetchedBy_decodeSys h
  all_goals cases h <;> exact .inl fun _ => ⟨_, rfl, _, _, rfl⟩

theorem fetchedBy_decodeStitch (h : decodeStitch c w = some i) : FetchedBy i c := by
  unfold decodeStitch at h
  simp only at h
  split_ifs at h
  · exact fetchedBy_decodeAlu h
  · exact fetchedBy_decodeMulDiv h
  · exact fetchedBy_decodeFp h
  · exact fetchedBy_decodeFp h
  · exact fetchedBy_decodeFma h
  · exact fetchedBy_decodeCvt h
  · exact fetchedBy_decodeImm h
  · exact fetchedBy_decodeMem h
  · exact fetchedBy_decodeFlow h

end

theorem State.fetch_uncorrectable {s : State} {c : Nat} {pc : BitVec 32} (hcode : s.inCode c pc = true)
    (hread : (s.eccReadWord (Mem.iram c + pc.toNat / 8 * 8) 1).1 = true) :
    ∃ t, s.fetch c pc = (some (.eccUe, pc.toNat), t) := by
  unfold State.fetch
  rw [if_pos hcode]
  generalize s.eccReadWord (Mem.iram c + pc.toNat / 8 * 8) 1 = read at hread
  obtain ⟨bad, t⟩ := read
  obtain rfl : bad = true := hread
  exact ⟨t, rfl⟩

theorem fetchExceptions : Claims.FetchExceptions := by
  intro c s w i n arg hc h0 pc
  refine ⟨fun hf hw => ?_, fun hf hn => ?_, fun hw hcode => ?_, fun hw hcode hread => ?_⟩
  · exact raises_of_exc (cost := costAlu) (f := fun _ s => .exc s .illegal 0) (cause := .illegal) hf h0
      (by simp only [exec, execIllegalEncoding, hw, Option.isSome_none, Bool.false_eq_true, if_false]) rfl
      (State.found_refl _) (by decide)
  · exact raises_of_exc (cost := costSys) (f := fun _ s => .exc s .sysBad 0) (cause := .sysBad) hf h0
      (by simp only [exec, execSysBad, hn, Bool.false_eq_true, if_false]) rfl (State.found_refl _) (by decide)
  · exact raises_of_fetch (cause := .fetch) hc h0 (fetchedBy_decodeStitch hw)
      (by rw [State.fetch, hcode]; rfl) (s.core c).pc.isLt
  · obtain ⟨t, hfetch⟩ := State.fetch_uncorrectable hcode hread
    exact raises_of_fetch (cause := .eccUe) hc h0 (fetchedBy_decodeStitch hw) hfetch (s.core c).pc.isLt

end Sys2Proof.Machine
end

section
/-!
PROOFS. The exceptions of loads, stores, jumps and calls with an instance (R83, R84, R91, R93, R102), and SELV_STRAY of
selvedge runs (R106).
-/

namespace Sys2Proof.Machine

-- One proof after another: a side condition by `decide` waits for every proof before it, on a thread of its own.
set_option Elab.async false

/-! ### Address checks that fail -/

section
variable {s : State} {c n al v : Nat} {x : Core} {a : BitVec 64} {write : Bool}

theorem localRange_iff {v n : Nat} : (2 ^ 32 ≤ v || v < localBase || localBase + localSize < v + n : Bool) = true ↔
    2 ^ 32 ≤ v ∨ v < 0x10000000 ∨ 0x10080000 < v + n := by
  have hbase : localBase = 0x10000000 := rfl
  have hsize : localSize = 0x80000 := rfl
  simp only [Bool.or_eq_true, decide_eq_true_eq, hbase, hsize, or_assoc]

theorem sharedRange_iff {v n : Nat} : (2 ^ 32 ≤ v || v < sharedBase || sharedBase + sharedSize < v + n : Bool) = true ↔
    2 ^ 32 ≤ v ∨ v < 0x20000000 ∨ 0x21000000 < v + n := by
  have hbase : sharedBase = 0x20000000 := rfl
  have hsize : sharedSize = 0x1000000 := rfl
  simp only [Bool.or_eq_true, decide_eq_true_eq, hbase, hsize, or_assoc]

theorem State.checkLocal_access (hv : a.toNat = v) (h : 2 ^ 32 ≤ v ∨ v < 0x10000000 ∨ 0x10080000 < v + n) :
    s.checkLocal x a n al write = .error (.access, v % 2 ^ 32) := by
  subst hv
  exact if_pos (localRange_iff.2 h)

theorem State.checkLocal_align (hv : a.toNat = v) (h : ¬(2 ^ 32 ≤ v ∨ v < 0x10000000 ∨ 0x10080000 < v + n))
    (hrun : (write && x.isSelvedge) = false) (hal : v % al ≠ 0) : s.checkLocal x a n al write = .error (.align, v) := by
  subst hv
  exact (if_neg (mt localRange_iff.1 h)).trans ((if_neg (by simp [hrun])).trans (if_pos hal))

theorem State.checkLocal_stray (hv : a.toNat = v) (h : ¬(2 ^ 32 ≤ v ∨ v < 0x10000000 ∨ 0x10080000 < v + n))
    (hrun : x.isSelvedge = true) (hdata : s.inRunData x v n = false)
    (hstack : ¬(x.stackTop - x.stackLen ≤ v ∧ v + n ≤ x.stackTop)) :
    s.checkLocal x a n al true = .error (.selvStray, v) := by
  subst hv
  refine (if_neg (mt localRange_iff.1 h)).trans (if_pos ?_)
  have hstack' : (x.stackTop - x.stackLen ≤ a.toNat && a.toNat + n ≤ x.stackTop : Bool) = false := by simpa using hstack
  simp only [hrun, hdata, hstack']
  rfl

/-- The place lies in regions that the Pattern grants the core. -/
def State.sharedGrant (s : State) (c v n : Nat) (write : Bool) : Bool :=
  (s.pat.active.map (fun p => p.granted c (v - sharedBase) n write)).getD false

theorem State.sharedGrant_eq_false : s.sharedGrant c v n write = false ↔
    ∀ p, s.pat.active = some p → p.granted c (v - 0x20000000) n write = false := by
  unfold State.sharedGrant
  cases s.pat.active with
  | none => simp
  | some p => exact ⟨fun h q hq => by cases hq; exact h, fun h => h p rfl⟩

theorem State.checkShared_access (hv : a.toNat = v) (h : 2 ^ 32 ≤ v ∨ v < 0x20000000 ∨ 0x21000000 < v + n ∨
    ∀ p, s.pat.active = some p → p.granted c (v - 0x20000000) n write = false) :
    s.checkShared c x a n al write = .error (.access, v % 2 ^ 32) := by
  subst hv
  by_cases hrange : 2 ^ 32 ≤ a.toNat ∨ a.toNat < 0x20000000 ∨ 0x21000000 < a.toNat + n
  · exact if_pos (sharedRange_iff.2 hrange)
  · have hno : s.sharedGrant c a.toNat n write = false := State.sharedGrant_eq_false.2 (by tauto)
    refine (if_neg (mt sharedRange_iff.1 hrange)).trans ((if_pos (congrArg (!·) hno)).trans ?_)
    rw [Nat.mod_eq_of_lt (by omega)]

theorem State.checkShared_align (hv : a.toNat = v) (h : ¬(2 ^ 32 ≤ v ∨ v < 0x20000000 ∨ 0x21000000 < v + n ∨
    ∀ p, s.pat.active = some p → p.granted c (v - 0x20000000) n write = false)) (hrun : (write && x.isSelvedge) = false)
    (hal : v % al ≠ 0) : s.checkShared c x a n al write = .error (.align, v) := by
  subst hv
  have hgrant : s.sharedGrant c a.toNat n write = true :=
    Bool.of_not_eq_false (mt State.sharedGrant_eq_false.1 (by tauto))
  have hrange : ¬(2 ^ 32 ≤ a.toNat ∨ a.toNat < 0x20000000 ∨ 0x21000000 < a.toNat + n) := by tauto
  exact (if_neg (mt sharedRange_iff.1 hrange)).trans ((if_neg (by rw [Bool.not_eq_true', Bool.not_eq_false]; exact hgrant)).trans
    ((if_neg (by simp [hrun])).trans (if_pos hal)))

theorem State.checkShared_stray {p : Pattern} (hv : a.toNat = v) (h : ¬(2 ^ 32 ≤ v ∨ v < 0x20000000 ∨ 0x21000000 < v + n))
    (hp : s.pat.active = some p) (hg : p.granted c (v - 0x20000000) n true = true) (hrun : x.isSelvedge = true)
    (hout : ¬(runOutOff (s.runRec x) ≤ v - 0x20000000 ∧
      v - 0x20000000 + n ≤ runOutOff (s.runRec x) + runOutLen (s.runRec x))) :
    s.checkShared c x a n al true = .error (.selvStray, v) := by
  subst hv
  have hgrant : s.sharedGrant c a.toNat n true = true := by rw [State.sharedGrant, hp]; exact hg
  have hout' : (runOutOff (s.runRec x) ≤ a.toNat - sharedBase &&
      a.toNat - sharedBase + n ≤ runOutOff (s.runRec x) + runOutLen (s.runRec x) : Bool) = false := by
    have hbase : sharedBase = 0x20000000 := rfl
    rw [hbase]
    simpa using hout
  refine (if_neg (mt sharedRange_iff.1 h)).trans ((if_neg (by rw [Bool.not_eq_true', Bool.not_eq_false]; exact hgrant)).trans
    (if_pos ?_))
  rw [hrun, hout']
  rfl

end

/-! ### Loads and stores that raise -/

section
variable {c n off addr : Nat} {s : State} {d a : GReg} {k : BitVec 14} {i : Instr} {signed : Bool} {cause : ExcCause}
  (hf : s.fetches c) (h0 : s.affords c 0)
include hf h0

theorem raises_loadLocal_of_check (hi : exec i s = onCore c (s.loadLocal c n signed d a k))
    (hcheck : (s.fetched c).checkLocal (s.core c) ((s.core c).localBaseReg a + sext64 k) n n false = .error (cause, addr))
    (haddr : addr < 2 ^ 32) : Claims.Raises c i s cause.code addr :=
  raises_of_exc (cost := costLdl) hf h0 hi (by rw [hcheck]) (State.found_refl _) haddr

theorem raises_loadShared_of_check (hi : exec i s = onCore c (s.loadShared c n signed d a k))
    (hcheck : (s.fetched c).checkShared c (s.core c) ((s.core c).rd a + sext64 k) n n false = .error (cause, addr))
    (haddr : addr < 2 ^ 32) : Claims.Raises c i s cause.code addr :=
  raises_of_exc (cost := costLds) hf h0 hi (by rw [hcheck]) (State.found_refl _) haddr

theorem raises_storeLocal_of_check (hi : exec i s = onCore c (s.storeLocal c n d a k))
    (hcheck : (s.fetched c).checkLocal (s.core c) ((s.core c).localBaseReg a + sext64 k) n n true = .error (cause, addr))
    (haddr : addr < 2 ^ 32) : Claims.Raises c i s cause.code addr :=
  raises_of_exc (cost := costStl) hf h0 hi (by rw [hcheck]) (State.found_refl _) haddr

theorem raises_storeShared_of_check (hi : exec i s = onCore c (s.storeShared c n d a k))
    (hcheck : (s.fetched c).checkShared c (s.core c) ((s.core c).rd a + sext64 k) n n true = .error (cause, addr))
    (haddr : addr < 2 ^ 32) : Claims.Raises c i s cause.code addr :=
  raises_of_exc (cost := costSts) hf h0 hi (by rw [hcheck]) (State.found_refl _) haddr

omit hf h0 in
theorem State.loadAt_bad {s : State} {a n : Nat} (h : (s.eccRead a n 1).1 = true) (addr : Nat) :
    ∃ t, s.loadAt a n addr = .inl (.exc t .eccUe addr) ∧ s.found t := by
  have hfound := s.found_eccRead a n 1
  unfold State.loadAt
  generalize s.eccRead a n 1 = read at h hfound
  obtain ⟨bad, t⟩ := read
  obtain rfl : bad = true := h
  exact ⟨t, rfl, hfound⟩

omit hf h0 in
theorem State.storeAt_bad {s : State} {a n : Nat} (hn : n ≠ 8) (h : (s.eccRead a n 3).1 = true) (v addr : Nat) :
    ∃ t, s.storeAt a n v addr = .inl (.exc t .eccUe addr) ∧ s.found t := by
  have hfound := s.found_eccRead a n 3
  unfold State.storeAt
  rw [if_neg hn]
  generalize s.eccRead a n 3 = read at h hfound
  obtain ⟨bad, t⟩ := read
  obtain rfl : bad = true := h
  exact ⟨t, rfl, hfound⟩

theorem raises_loadLocal_of_ecc (hi : exec i s = onCore c (s.loadLocal c n signed d a k))
    (hcheck : (s.fetched c).checkLocal (s.core c) ((s.core c).localBaseReg a + sext64 k) n n false = .ok off)
    (hread : ((s.fetched c).eccRead (Mem.dram c + off) n 1).1 = true) (haddr : off + localBase < 2 ^ 32) :
    Claims.Raises c i s 6 (off + localBase) := by
  obtain ⟨t, hload, hfound⟩ := State.loadAt_bad hread (off + localBase)
  refine raises_of_exc (cost := costLdl) (t := t) (cause := .eccUe) hf h0 hi ?_ hfound haddr
  obtain ⟨m, hm⟩ := dram_opaque c
  rw [hm] at hload ⊢
  simp only [hcheck, hload]

theorem raises_loadShared_of_ecc (hi : exec i s = onCore c (s.loadShared c n signed d a k))
    (hcheck : (s.fetched c).checkShared c (s.core c) ((s.core c).rd a + sext64 k) n n false = .ok off)
    (hread : ((s.fetched c).eccRead (Mem.shared + off) n 1).1 = true) (haddr : off + sharedBase < 2 ^ 32) :
    Claims.Raises c i s 6 (off + sharedBase) := by
  obtain ⟨t, hload, hfound⟩ := State.loadAt_bad hread (off + sharedBase)
  refine raises_of_exc (cost := costLds) (t := t) (cause := .eccUe) hf h0 hi ?_ hfound haddr
  simp only [hcheck, hload]

theorem raises_storeLocal_of_ecc (hi : exec i s = onCore c (s.storeLocal c n d a k)) (hn : n ≠ 8)
    (hcheck : (s.fetched c).checkLocal (s.core c) ((s.core c).localBaseReg a + sext64 k) n n true = .ok off)
    (hread : ((s.fetched c).eccRead (Mem.dram c + off) n 3).1 = true) (haddr : off + localBase < 2 ^ 32) :
    Claims.Raises c i s 6 (off + localBase) := by
  obtain ⟨t, hstore, hfound⟩ := State.storeAt_bad hn hread (((s.core c).rd d).toNat % 2 ^ (8 * n)) (off + localBase)
  refine raises_of_exc (cost := costStl) (t := t) (cause := .eccUe) hf h0 hi ?_ hfound haddr
  obtain ⟨m, hm⟩ := dram_opaque c
  rw [hm] at hstore ⊢
  simp only [hcheck, hstore]

theorem raises_storeShared_of_ecc (hi : exec i s = onCore c (s.storeShared c n d a k)) (hn : n ≠ 8)
    (hcheck : (s.fetched c).checkShared c (s.core c) ((s.core c).rd a + sext64 k) n n true = .ok off)
    (hread : ((s.fetched c).eccRead (Mem.shared + off) n 3).1 = true) (haddr : off + sharedBase < 2 ^ 32) :
    Claims.Raises c i s 6 (off + sharedBase) := by
  obtain ⟨t, hstore, hfound⟩ := State.storeAt_bad hn hread (((s.core c).rd d).toNat % 2 ^ (8 * n)) (off + sharedBase)
  refine raises_of_exc (cost := costSts) (t := t) (cause := .eccUe) hf h0 hi ?_ hfound haddr
  simp only [hcheck, hstore]

end

/-! ### The exceptions of one instruction -/

section
variable {c : Nat} {s : State} {d a : GReg} {k : BitVec 14} {i : Instr}

/-- ACCESS, ALIGN and ECC_UE of an access of n bytes at v in the data scratchpad. -/
def LocalExceptions (c : Nat) (s : State) (v : Nat) (i : Instr) (n finder : Nat) : Prop :=
  ((2 ^ 32 ≤ v ∨ v < 0x10000000 ∨ 0x10080000 < v + n) → Claims.Raises c i s 3 (v % 2 ^ 32)) ∧
  (¬(2 ^ 32 ≤ v ∨ v < 0x10000000 ∨ 0x10080000 < v + n) → v % n ≠ 0 → Claims.Raises c i s 4 v) ∧
  (¬(2 ^ 32 ≤ v ∨ v < 0x10000000 ∨ 0x10080000 < v + n) → v % n = 0 → (finder = 1 ∨ n ≠ 8) →
    ((s.fetched c).eccRead (Mem.dram c + (v - 0x10000000)) n finder).1 = true → Claims.Raises c i s 6 v)

/-- The place in shared SRAM is outside it, or outside the regions granted to the core. -/
def NotShared (c : Nat) (s : State) (v n : Nat) (write : Bool) : Prop :=
  2 ^ 32 ≤ v ∨ v < 0x20000000 ∨ 0x21000000 < v + n ∨
    ∀ p, (s.fetched c).pat.active = some p → p.granted c (v - 0x20000000) n write = false

/-- ACCESS, ALIGN and ECC_UE of an access of n bytes at v in shared SRAM. -/
def SharedExceptions (c : Nat) (s : State) (v : Nat) (i : Instr) (n finder : Nat) : Prop :=
  (NotShared c s v n (finder == 3) → Claims.Raises c i s 3 (v % 2 ^ 32)) ∧
  (¬NotShared c s v n (finder == 3) → v % n ≠ 0 → Claims.Raises c i s 4 v) ∧
  (¬NotShared c s v n (finder == 3) → v % n = 0 → (finder = 1 ∨ n ≠ 8) →
    ((s.fetched c).eccRead (Mem.shared + (v - 0x20000000)) n finder).1 = true → Claims.Raises c i s 6 v)

theorem granted_of_not_notShared {v n : Nat} {write : Bool} (h : ¬NotShared c s v n write) :
    v < 2 ^ 32 ∧ 0x20000000 ≤ v ∧ v + n ≤ 0x21000000 ∧
      ∃ p, (s.fetched c).pat.active = some p ∧ p.granted c (v - 0x20000000) n write = true := by
  simp only [NotShared, not_or, not_forall, Bool.not_eq_false] at h
  obtain ⟨hmax, hlo, hhi, p, hp, hg⟩ := h
  exact ⟨by omega, by omega, by omega, p, hp, hg⟩

variable (hf : s.fetches c) (h0 : s.affords c 0)
include hf h0

theorem loadLocalExceptions (n : Nat) (signed : Bool) {v : Nat} (hv : ((s.core c).localBaseReg a + sext64 k).toNat = v)
    (hi : exec i s = onCore c (s.loadLocal c n signed d a k)) : LocalExceptions c s v i n 1 := by
  refine ⟨fun hno => ?_, fun hin hal => ?_, fun hin hal _ hread => ?_⟩
  · exact raises_loadLocal_of_check (cause := .access) hf h0 hi (State.checkLocal_access hv hno) (Nat.mod_lt _ (by decide))
  · exact raises_loadLocal_of_check (cause := .align) hf h0 hi (State.checkLocal_align hv hin rfl hal) (by omega)
  · have hback : v - 0x10000000 + localBase = v := Nat.sub_add_cancel (by omega)
    have hraises := raises_loadLocal_of_ecc (off := v - 0x10000000) hf h0 hi
      (State.checkLocal_ok hv (by omega) (by omega) hal (by simp)) hread (by omega)
    rwa [hback] at hraises

theorem loadSharedExceptions (n : Nat) (signed : Bool) {v : Nat} (hv : ((s.core c).rd a + sext64 k).toNat = v)
    (hi : exec i s = onCore c (s.loadShared c n signed d a k)) : SharedExceptions c s v i n 1 := by
  refine ⟨fun hno => ?_, fun hin hal => ?_, fun hin hal _ hread => ?_⟩
  · exact raises_loadShared_of_check (cause := .access) hf h0 hi (State.checkShared_access hv hno) (Nat.mod_lt _ (by decide))
  · obtain ⟨hmax, -⟩ := granted_of_not_notShared hin
    exact raises_loadShared_of_check (cause := .align) hf h0 hi (State.checkShared_align hv hin rfl hal) hmax
  · obtain ⟨hmax, hlo, hhi, p, hp, hg⟩ := granted_of_not_notShared hin
    have hback : v - 0x20000000 + sharedBase = v := Nat.sub_add_cancel hlo
    have hraises := raises_loadShared_of_ecc (off := v - 0x20000000) hf h0 hi
      (State.checkShared_ok hv hlo hhi hal hp hg (by simp)) hread (by omega)
    rwa [hback] at hraises

theorem storeLocalExceptions (n : Nat) {v : Nat} (hrun : (s.core c).run = .none)
    (hv : ((s.core c).localBaseReg a + sext64 k).toNat = v) (hi : exec i s = onCore c (s.storeLocal c n d a k)) :
    LocalExceptions c s v i n 3 := by
  have hplain := not_isSelvedge hrun
  refine ⟨fun hno => ?_, fun hin hal => ?_, fun hin hal hn hread => ?_⟩
  · exact raises_storeLocal_of_check (cause := .access) hf h0 hi (State.checkLocal_access hv hno) (Nat.mod_lt _ (by decide))
  · exact raises_storeLocal_of_check (cause := .align) hf h0 hi (State.checkLocal_align hv hin (by simp [hplain]) hal) (by omega)
  · have hback : v - 0x10000000 + localBase = v := Nat.sub_add_cancel (by omega)
    have hraises := raises_storeLocal_of_ecc (off := v - 0x10000000) hf h0 hi (by omega)
      (State.checkLocal_ok hv (by omega) (by omega) hal (by simp [hplain])) hread (by omega)
    rwa [hback] at hraises

theorem storeSharedExceptions (n : Nat) {v : Nat} (hrun : (s.core c).run = .none)
    (hv : ((s.core c).rd a + sext64 k).toNat = v) (hi : exec i s = onCore c (s.storeShared c n d a k)) :
    SharedExceptions c s v i n 3 := by
  have hplain := not_isSelvedge hrun
  refine ⟨fun hno => ?_, fun hin hal => ?_, fun hin hal hn hread => ?_⟩
  · exact raises_storeShared_of_check (cause := .access) hf h0 hi (State.checkShared_access hv hno) (Nat.mod_lt _ (by decide))
  · obtain ⟨hmax, -⟩ := granted_of_not_notShared hin
    exact raises_storeShared_of_check (cause := .align) hf h0 hi (State.checkShared_align hv hin (by simp [hplain]) hal) hmax
  · obtain ⟨hmax, hlo, hhi, p, hp, hg⟩ := granted_of_not_notShared hin
    have hback : v - 0x20000000 + sharedBase = v := Nat.sub_add_cancel hlo
    have hraises := raises_storeShared_of_ecc (off := v - 0x20000000) hf h0 hi (by omega)
      (State.checkShared_ok hv hlo hhi hal hp hg (by simp [hplain])) hread (by omega)
    rwa [hback] at hraises

omit hf h0 in
theorem jumpTarget_access {x : Core} {v : Nat} (hv : (x.rd a + k.signExtend 64).toNat = v) (h : 2 ^ 32 ≤ v) :
    jumpTarget x a k = .error (.access, v % 2 ^ 32) := by
  subst hv
  exact if_pos h

omit hf h0 in
theorem jumpTarget_align {x : Core} {v : Nat} (hv : (x.rd a + k.signExtend 64).toNat = v) (h : v < 2 ^ 32) (hal : v % 4 ≠ 0) :
    jumpTarget x a k = .error (.align, v) := by
  subst hv
  exact (if_neg (Nat.not_le.2 h)).trans (if_pos hal)

theorem raises_jump {cause : ExcCause} {addr : Nat} (h : jumpTarget (s.core c) a k = .error (cause, addr))
    (haddr : addr < 2 ^ 32) : Claims.Raises c (.gor c a k) s cause.code addr ∧ Claims.Raises c (.callr c a k) s cause.code addr :=
  ⟨raises_of_exc (cost := costBr) hf h0 rfl (by rw [h]) (State.found_refl _) haddr,
    raises_of_exc (cost := costCall) hf h0 rfl (by rw [h]) (State.found_refl _) haddr⟩

end

theorem addressExceptions : Claims.AddressExceptions := by
  intro c s d a k hf h0 u x va vs noLocal noShared loc shr
  refine ⟨?_, ?_, ?_, ?_, ?_, ?_, ?_, ?_, ?_, ?_, ?_, ?_, ?_, ?_, fun hrun => ⟨?_, ?_, ?_, ?_, ?_, ?_, ?_, ?_⟩,
    fun hmax => ?_, fun hlt hal => ?_⟩
  iterate 7 exact loadLocalExceptions hf h0 _ _ rfl rfl
  iterate 7 exact loadSharedExceptions hf h0 _ _ rfl rfl
  iterate 4 exact storeLocalExceptions hf h0 _ hrun rfl rfl
  iterate 4 exact storeSharedExceptions hf h0 _ hrun rfl rfl
  · exact raises_jump (cause := .access) hf h0 (jumpTarget_access rfl hmax) (Nat.mod_lt _ (by decide))
  · exact raises_jump (cause := .align) hf h0 (jumpTarget_align rfl hlt hal) hlt

/-! ### The stack of calls with an instance -/

theorem stackFault_iff {x : Core} {sp : Nat} : stackFault x sp = true ↔ sp % 16 ≠ 0 ∨
    ¬(x.stackTop - x.stackLen ≤ sp ∧ sp + 16 ≤ x.stackTop) ∨ sp < 0x10000000 ∨ 0x10080000 < sp + 16 := by
  have hlow : localBase = 0x10000000 := rfl
  have hsize : localSize = 0x80000 := rfl
  simp only [stackFault, hlow, hsize, Bool.or_eq_true, bne_iff_ne, decide_eq_true_eq, Bool.not_eq_true', Bool.and_eq_false_iff,
    decide_eq_false_iff_not, not_and_or, or_assoc]

theorem noInstance_iff {v : Nat} : (2 ^ 32 ≤ v || v < localBase || localBase + localSize ≤ v : Bool) = true ↔
    2 ^ 32 ≤ v ∨ v < 0x10000000 ∨ 0x10080000 ≤ v := by
  have hlow : localBase = 0x10000000 := rfl
  have hsize : localSize = 0x80000 := rfl
  simp only [hlow, hsize, Bool.or_eq_true, decide_eq_true_eq, or_assoc]

section
variable {c : Nat} {s : State} (hf : s.fetches c) (h0 : s.affords c 0)
include hf h0

theorem raises_retb_of_ecc {ma top : Nat} (htop : ((s.core c).rd stackReg).toNat = top)
    (hma : Mem.dram c + (top - localBase) = ma) (hstack : ¬stackFault (s.core c) top = true) (hlt : top < 2 ^ 32)
    (hread : ((s.fetched c).eccRead ma 16 1).1 = true) : Claims.Raises c (.retb c) s 6 top := by
  have hfound := (s.fetched c).found_eccRead ma 16 1
  refine raises_of_exc (cost := costCallb) (cause := .eccUe) (t := ((s.fetched c).eccRead ma 16 1).2) hf h0 rfl ?_ hfound hlt
  refine (if_neg (htop ▸ hstack)).trans ?_
  rw [htop, hma]
  dsimp only
  generalize (s.fetched c).eccRead ma 16 1 = read at hread
  obtain ⟨bad, t⟩ := read
  obtain rfl : bad = true := hread
  rfl

end

theorem stackExceptions : Claims.StackExceptions := by
  intro c s a o hf h0 u x inst noStack noInst down top
  have hdown : ((s.core c).rd stackReg - 16).toNat = down := rfl
  have htop : ((s.core c).rd stackReg).toNat = top := rfl
  have hmod : ∀ v, v % 2 ^ 32 < 2 ^ 32 := fun v => Nat.mod_lt _ (by decide)
  refine ⟨fun h => ?_, fun h hal => ?_, fun h hal hstack => ?_, fun hstack => ?_, fun hstack hread => ?_⟩
  · exact raises_of_exc (cost := costCallb) (cause := .access) hf h0 rfl (if_pos (noInstance_iff.2 h)) (State.found_refl _)
      (hmod _)
  · exact raises_of_exc (cost := costCallb) (cause := .align) hf h0 rfl ((if_neg (mt noInstance_iff.1 h)).trans (if_pos hal))
      (State.found_refl _) (by omega)
  · exact raises_of_exc (cost := costCallb) (cause := .stack) hf h0 rfl ((if_neg (mt noInstance_iff.1 h)).trans
      ((if_neg (not_not.2 hal)).trans (if_pos (stackFault_iff.2 hstack)))) (State.found_refl _) (hmod _)
  · exact raises_of_exc (cost := costCallb) (cause := .stack) hf h0 rfl (if_pos (stackFault_iff.2 hstack))
      (State.found_refl _) (hmod _)
  · exact raises_retb_of_ecc hf h0 htop (by rw [show localBase = 0x10000000 from rfl]) (mt stackFault_iff.1 hstack)
      (by omega) hread

/-! ### Stray accesses of selvedge runs -/

section
variable {c : Nat} {s : State} {r a : GReg} {k : BitVec 14} {i : Instr} {p : Pattern} {rec_ : Bytes} {v : Nat}
  (hf : s.fetches c) (h0 : s.affords c 0) (hrun : (s.core c).run ≠ .none) (hp : (s.fetched c).pat.active = some p)
include hf h0 hrun

theorem raises_strayService {cost : Nat} {g : Core → State → CoreStep} (hi : exec i s = onCore c (s.coreRun c cost
    (fun x s => if x.isSelvedge then .exc s .selvStray 0 else g x s))) : Claims.Raises c i s 8 0 :=
  raises_of_exc (cause := .selvStray) hf h0 hi (if_pos (isSelvedge_of_ne hrun)) (State.found_refl _) (by decide)

variable (hr : p.runRecord (selvSegOf (s.core c).object.toNat) ((s.core c).run == .runB) = rec_)
include hp hr

theorem raises_strayLocal (n : Nat) (hi : exec i s = onCore c (s.storeLocal c n r a k))
    (hv : ((s.core c).localBaseReg a + sext64 k).toNat = v) (hlt : v < 2 ^ 32) (hlo : 0x10000000 ≤ v)
    (hhi : v + n ≤ 0x10080000) (hdata : ¬(runDataOff rec_ ≤ v ∧ v + n ≤ runDataOff rec_ + runDataLen rec_))
    (hstack : ¬((s.core c).stackTop - (s.core c).stackLen ≤ v ∧ v + n ≤ (s.core c).stackTop)) : Claims.Raises c i s 8 v := by
  have hout : (s.fetched c).inRunData (s.core c) v n = false := by
    rw [← Bool.not_eq_true, State.inRunData_iff, State.runRec_eq hp, hr]; exact hdata
  exact raises_storeLocal_of_check (cause := .selvStray) hf h0 hi
    (State.checkLocal_stray hv (by omega) (isSelvedge_of_ne hrun) hout hstack) hlt

theorem raises_strayShared (n : Nat) (hi : exec i s = onCore c (s.storeShared c n r a k))
    (hv : ((s.core c).rd a + sext64 k).toNat = v) (hlt : v < 2 ^ 32) (hlo : 0x20000000 ≤ v)
    (hhi : v + n ≤ 0x21000000) (hg : p.granted c (v - 0x20000000) n true = true)
    (hout : ¬(runOutOff rec_ ≤ v - 0x20000000 ∧ v - 0x20000000 + n ≤ runOutOff rec_ + runOutLen rec_)) :
    Claims.Raises c i s 8 v :=
  raises_storeShared_of_check (cause := .selvStray) hf h0 hi (State.checkShared_stray hv (by omega) hp hg
    (isSelvedge_of_ne hrun) (by rwa [State.runRec_eq hp, hr])) hlt

end

theorem strayExceptions : Claims.StrayExceptions := by
  intro c s r a k arg p hf h0 hrun hp x rec_ va vs loc shr
  refine ⟨?_, ?_, ?_, ?_, ?_, ?_, ?_, ?_, ?_, ?_, ?_⟩
  iterate 4 exact raises_strayLocal hf h0 hrun hp rfl _ rfl rfl
  iterate 4 exact raises_strayShared hf h0 hrun hp rfl _ rfl rfl
  iterate 3 exact raises_strayService hf h0 hrun rfl

/-- Settles O12: the check of the address, of the stack or of the run gives the cause and the address; taking the exception
is one rule. -/
theorem unknownInstructions : Obligations.UnknownInstructions :=
  ⟨fetchExceptions, addressExceptions, stackExceptions, strayExceptions⟩

end Sys2Proof.Machine
end

section
/-!
PROOFS. System calls (R23, R95, R96, Table 4.9): what every service returns, and what each does beside.
-/

namespace Sys2Proof.Machine

-- One proof after another: a side condition by `decide` waits for every proof before it, on a thread of its own.
set_option Elab.async false

/-! ### The answer of a service -/

theorem State.alters_retVal (s : State) (v : Option (BitVec 64)) : s.alters (s.retVal v).2 [] [.free] := by
  cases v with
  | none => exact s.alters_freeCount _
  | some x => exact s.alters_refl _ _

theorem State.retVal_some (s : State) {v : Option (BitVec 64)} {x : BitVec 64} (h : v = some x) : (s.retVal v).1 = x := by
  subst h
  rfl

/-- The core of a service that has answered. -/
def answered (x : Core) (code : Nat) (g2 g3 : BitVec 64) (cost : Nat) : Core :=
  (((x.wr 1 (BitVec.ofNat 64 code)).wr 2 g2).wr 3 g3).retire (x.pc + 4) cost

theorem returns_answered {x : Core} {code cost : Nat} {g2 g3 : Option (BitVec 64)} {v w : BitVec 64}
    (hv : ∀ u, g2 = some u → v = u) (hw : ∀ u, g3 = some u → w = u) :
    Claims.Returns x (answered x code v w cost) code g2 g3 cost := by
  have hrd : ∀ r : GReg, (answered x code v w cost).rd r = (((x.wr 1 (BitVec.ofNat 64 code)).wr 2 v).wr 3 w).rd r :=
    fun _ => rfl
  refine ⟨?_, fun u hu => ?_, fun u hu => ?_, fun r h1 h2 h3 => ?_, rfl, rfl, rfl, rfl⟩
  · rw [hrd, Core.rd_wr_ne _ _ (by decide), Core.rd_wr_ne _ _ (by decide), Core.rd_wr_same _ _ (by decide)]
  · rw [hrd, Core.rd_wr_ne _ _ (by decide), Core.rd_wr_same _ _ (by decide), hv u hu]
  · rw [hrd, Core.rd_wr_same _ _ (by decide), hw u hu]
  · rw [hrd, Core.rd_wr_ne _ _ h3, Core.rd_wr_ne _ _ h2, Core.rd_wr_ne _ _ h1]

section
variable {c cost code : Nat} {i : Instr} {s t : State} {f : Core → State → CoreStep} {g2 g3 : Option (BitVec 64)}

/-- The parts that an answer changes: a register without a value takes a free one. -/
def answerParts (g2 g3 : Option (BitVec 64)) : List Part :=
  if g2.isSome && g3.isSome then [.cores] else [.cores, .free]

theorem State.keeps_retVals (t : State) (g2 g3 : Option (BitVec 64)) :
    t.keeps ((t.retVal g2).2.retVal g3).2 (answerParts g2 g3) := by
  have hfree : t.keeps ((t.retVal g2).2.retVal g3).2 [.cores, .free] :=
    ((t.keeps_refl _).step (t.alters_retVal g2)).step (State.alters_retVal _ g3)
  cases g2 with
  | none => exact hfree
  | some x =>
    cases g3 with
    | none => exact hfree
    | some y => exact t.keeps_refl _

theorem State.alters_retired (t : State) (c : Nat) (pc : BitVec 32) (cost : Nat) :
    t.alters (t.retired c pc cost) [] [.cores] := (t.alters_setCore _ _).step (alters_setCore _ _ _)

theorem mem_answerParts (g2 g3 : Option (BitVec 64)) : [.cores] ⊆ answerParts g2 g3 := by
  unfold answerParts
  split_ifs <;> decide

/-- A service answers on the state that its effect has led to. -/
theorem returns_of_sysReturn (hf : s.fetches c) (ha : s.affords c cost) (hi : exec i s = onCore c (s.coreRun c cost f))
    (hok : f (s.core c) (s.fetched c) = t.sysReturn c (s.core c) code g2 g3) :
    ∃ v, exec i s = .next v ∧ Claims.Returns (s.core c) (v.core c) code g2 g3 cost ∧ (∀ j, j ≠ c → v.core j = t.core j) ∧
      t.regsBut v [] ∧ t.keeps v (answerParts g2 g3) := by
  have hfree := (t.alters_retVal g2).trans (State.alters_retVal (t.retVal g2).2 g3)
  have hkeeps := t.keeps_retVals g2 g3
  have hcores : ∀ j, ((t.retVal g2).2.retVal g3).2.core j = t.core j := fun j => hfree.keeps .cores (by decide) j
  have hset := State.alters_setCore ((t.retVal g2).2.retVal g3).2 c
    ((((s.core c).wr 1 (BitVec.ofNat 64 code)).wr 2 (t.retVal g2).1).wr 3 ((t.retVal g2).2.retVal g3).1)
  obtain ⟨hcore, hothers, -⟩ := (State.coreIs_setCore ((t.retVal g2).2.retVal g3).2 c
    ((((s.core c).wr 1 (BitVec.ofNat 64 code)).wr 2 (t.retVal g2).1).wr 3 ((t.retVal g2).2.retVal g3).1) []).retire
    ((s.core c).pc + 4) cost
  refine ⟨_, exec_of_ok hf ha hi hok, ?_, fun j hj => (hothers j hj).trans (hcores j),
    (hfree.regsBut.trans hset.regsBut).trans (State.alters_retired _ _ _ _).regsBut,
    (hkeeps.step hset (mem_answerParts g2 g3)).step (State.alters_retired _ _ _ _) (mem_answerParts g2 g3)⟩
  rw [State.retired, hcore]
  exact returns_answered (fun u hu => t.retVal_some hu) (fun u hu => State.retVal_some _ hu)

/-- The same where the effect leaves the cores as they were. -/
theorem answers_of_sysReturn (hf : s.fetches c) (ha : s.affords c cost) (hi : exec i s = onCore c (s.coreRun c cost f))
    (hok : f (s.core c) (s.fetched c) = t.sysReturn c (s.core c) code g2 g3) (ht : ∀ j, t.core j = s.core j) :
    ∃ v, exec i s = .next v ∧ Claims.Answers c s v code g2 g3 cost ∧ t.regsBut v [] ∧ t.keeps v (answerParts g2 g3) := by
  obtain ⟨v, hexec, hreturns, hothers, hregs, hkeeps⟩ := returns_of_sysReturn hf ha hi hok
  exact ⟨v, hexec, ⟨hreturns, fun j hj => (hothers j hj).trans (ht j)⟩, hregs, hkeeps⟩

end

/-! ### The services without a queue -/

/-- A service that answers and does nothing else. -/
theorem answers_of_fetched {c cost code : Nat} {i : Instr} {s : State} {f : Core → State → CoreStep}
    {g2 g3 : Option (BitVec 64)} (hf : s.fetches c) (ha : s.affords c cost)
    (hi : exec i s = onCore c (s.coreRun c cost f))
    (hok : f (s.core c) (s.fetched c) = (s.fetched c).sysReturn c (s.core c) code g2 g3) :
    ∃ v, exec i s = .next v ∧ Claims.Answers c s v code g2 g3 cost ∧ (s.fetched c).keeps v (answerParts g2 g3) := by
  obtain ⟨v, hexec, hanswers, -, hkeeps⟩ := answers_of_sysReturn hf ha hi hok (s.core_fetched c)
  exact ⟨v, hexec, hanswers, hkeeps⟩

theorem evtArg_overspends {c : Nat} {s : State} (arg : BitVec 15) (hf : s.fetches c) :
    Claims.Overspends c (.evtArg c arg) s 26 := by
  cases hevt : (s.core c).evt with
  | none => exact overspends_of_ok hf rfl (by simp only [hevt]; rfl)
  | some e => exact overspends_of_ok hf rfl (by simp only [hevt]; rfl)

theorem qStat_overspends {c : Nat} {s : State} (arg : BitVec 15) (hf : s.fetches c) :
    Claims.Overspends c (.qStat c arg) s 26 := by
  by_cases hq : (arg.toNat < 128 && ((s.fetched c).pat.active.map (fun p => p.queueDefined arg.toNat)).getD false) = true
  · exact overspends_of_ok hf rfl (if_pos hq)
  · exact overspends_of_ok hf rfl (if_neg hq)

section
variable {c : Nat} {s : State} (arg : BitVec 15) (hf : s.fetches c)
include hf

theorem answers_recRaise (ha : s.affords c 98) (code : Nat)
    (hcode : (if 64 ≤ (s.fetched c).evr.staged.length then sysFull else sysOk) = code) :
    ∃ t, exec (.recRaise c arg) s = .next t ∧ Claims.Answers c s t code none none 98 ∧
      (s.fetched c).raised t (0x8000 + arg.toNat) (0x2000 + c) [((s.core c).rd 1).toNat, ((s.core c).rd 2).toNat] ∧
      (s.fetched c).regsBut t [F.EVR_STATUS_STAGED.addr] ∧ (s.fetched c).keeps t [.cores, .free, .regs, .evr] := by
  subst hcode
  have hraise := (s.fetched c).alters_raise (0x8000 + arg.toNat) (srcCore c)
    [((s.core c).rd 1).toNat, ((s.core c).rd 2).toNat]
  obtain ⟨v, hexec, hanswers, hregs, hkeeps⟩ := answers_of_sysReturn (i := .recRaise c arg) hf ha rfl rfl
    (fun j => (hraise.keeps .cores (by decide) j).trans (s.core_fetched c j))
  exact ⟨v, hexec, hanswers, hkeeps .evr (by decide), hraise.regsBut.trans hregs,
    (hraise.keeps.mono (by decide)).next hkeeps⟩

end

theorem State.alters_setTriggers (s : State) (k : Nat) (l : List Trigger) :
    s.alters (s.setTriggers k l) [(F.SCH_TASK_STATUS_QFILL k).addr] [.regs, .tasks] :=
  ((s.alters_setF (F.SCH_TASK_STATUS_QFILL k) l.length).mono (by simp) (by decide)).step (alters_tasks _ _)

theorem State.postAt_room (s : State) {k : Nat} (code arg tick : Nat) (h : (s.triggersOf k).length < 8) :
    s.postAt k code arg tick = (true, s.setTriggers k (s.triggersOf k ++
      [⟨BitVec.ofNat 16 code, BitVec.ofNat 64 arg, s.clock.stitch, tick⟩])) := if_pos h

theorem State.postAt_full (s : State) {k : Nat} (code arg tick : Nat) (h : 8 ≤ (s.triggersOf k).length) :
    s.postAt k code arg tick =
      (false, (s.incSat (F.SCH_TASK_STATUS_OVERFLOW k)).raise Ev.TRIGGER_OVERFLOW srcSupervisor [k, code]) :=
  if_neg (Nat.not_lt.2 h)

theorem State.triggersOf_setTriggers_same (s : State) (k : Nat) (l : List Trigger) :
    (s.setTriggers k l).triggersOf k = l := Store.get_set_same _ _ _ _

theorem State.triggersOf_setTriggers_ne (s : State) {k j : Nat} (l : List Trigger) (h : j ≠ k) :
    (s.setTriggers k l).triggersOf j = s.triggersOf j := Store.get_set_ne _ _ _ _ _ h

theorem State.triggersOf_of_tasks {s t : State} (h : t.tasks = s.tasks) (j : Nat) : t.triggersOf j = s.triggersOf j := by
  rw [State.triggersOf, h, State.triggersOf]

theorem answers_evtRaise {c : Nat} {s t : State} {arg : BitVec 15} {posted : Bool} (hf : s.fetches c) (ha : s.affords c 98)
    (hk : arg.toNat ≤ 15) (hrun : (s.core c).run = .none)
    (h : (s.fetched c).postAt (16 + arg.toNat) (0x8000 + c) ((s.core c).rd 1).toNat
      ((s.fetched c).coreTick c ((s.core c).cyc + 98)) = (posted, t)) (ht : ∀ j, t.core j = (s.fetched c).core j) :
    ∃ v, exec (.evtRaise c arg) s = .next v ∧ Claims.Answers c s v (if posted then 0 else 1) none none 98 ∧
      t.regsBut v [] ∧ t.keeps v [.cores, .free] := by
  refine answers_of_sysReturn (g2 := none) (g3 := none) hf ha rfl ?_ (fun j => (ht j).trans (s.core_fetched c j))
  refine (if_neg (by rw [not_isSelvedge hrun]; decide)).trans ((if_neg (by omega)).trans ?_)
  have hcost : (s.core c).cyc + costSys + costQPut 8 = (s.core c).cyc + 98 := rfl
  rw [hcost, h]
  rfl

theorem smallServices : Claims.SmallServices := by
  intro c s arg hf u x k
  refine ⟨overspends_of_ok hf rfl rfl, evtArg_overspends arg hf, qStat_overspends arg hf, overspends_of_ok hf rfl rfl,
    fun ha => ?_, fun code v hevt ha => ?_, fun hevt ha => ?_, fun p hp hk hq ha => ?_, fun hroom ha => ?_,
    fun hfull ha => ?_, fun hk hrun hroom ha => ?_, fun hk hrun hfull ha => ?_⟩
  · exact answers_of_fetched (code := sysOk) (g2 := some s.clock.edge) (g3 := some s.clock.stitch) hf ha rfl
      (by simp only [State.clock_fetched])
  · exact answers_of_fetched (g2 := some v) (g3 := some (zext64 code)) hf ha rfl (by simp only [show (s.core c).evt = _ from hevt]; rfl)
  · exact answers_of_fetched (g2 := none) (g3 := none) (code := sysDenied) hf ha rfl (by simp only [show (s.core c).evt = _ from hevt])
  · exact answers_of_fetched (g2 := some (BitVec.ofNat 64 (s.queueState k).fill))
      (g3 := some ((s.queueState k).overflow.setWidth 64)) (code := sysOk) hf ha rfl (by
        refine (if_pos ?_).trans ?_
        · simp only [show (s.fetched c).pat.active = _ from hp, Option.map_some, Option.getD_some]
          simp [k] at hk hq ⊢
          exact ⟨hk, hq⟩
        · simp only [State.queueState_fetched]; rfl)
  · exact answers_recRaise arg hf ha 0 (if_neg (Nat.not_le.2 hroom))
  · obtain ⟨t, hexec, hanswers, -⟩ := answers_recRaise arg hf ha 1 (if_pos hfull)
    exact ⟨t, hexec, hanswers⟩
  · have hset := u.alters_setTriggers (16 + k) (u.triggersOf (16 + k) ++
      [⟨BitVec.ofNat 16 (0x8000 + c), BitVec.ofNat 64 (x.rd 1).toNat, u.clock.stitch, u.coreTick c (x.cyc + 98)⟩])
    obtain ⟨v, hexec, hanswers, hregs, hkeeps⟩ := answers_evtRaise hf ha hk hrun (u.postAt_room _ _ _ hroom)
      (hset.keeps .cores (by decide))
    have htasks := State.triggersOf_of_tasks (hkeeps .tasks (by decide))
    refine ⟨v, hexec, hanswers, ?_, fun j hj => ?_, hset.regsBut.trans hregs, (hset.keeps.mono (by decide)).next hkeeps⟩
    · rw [htasks, State.triggersOf_setTriggers_same, BitVec.ofNat_toNat, BitVec.setWidth_eq]
    · rw [htasks, State.triggersOf_setTriggers_ne _ _ hj]
  · have hinc := u.alters_incSat (F.SCH_TASK_STATUS_OVERFLOW (16 + k))
    have hraise := State.alters_raise (u.incSat (F.SCH_TASK_STATUS_OVERFLOW (16 + k))) Ev.TRIGGER_OVERFLOW srcSupervisor
      [16 + k, 0x8000 + c]
    have hpost := (hinc.keeps.mono (by decide : _ ⊆ [Part.cores, .free, .regs, .evr])).step hraise
    obtain ⟨v, hexec, hanswers, hregs, hkeeps⟩ := answers_evtRaise hf ha hk hrun (u.postAt_full _ _ _ hfull)
      ((hinc.trans hraise).keeps .cores (by decide))
    refine ⟨v, hexec, hanswers, ?_, hpost.next hkeeps⟩
    have hfar : (F.SCH_TASK_STATUS_OVERFLOW (16 + k)).addr ∉ [F.EVR_STATUS_STAGED.addr] := by
      simp only [F.SCH_TASK_STATUS_OVERFLOW, F.EVR_STATUS_STAGED, List.mem_singleton]
      omega
    rw [hregs.getF (by simp), hraise.getF hfar, State.getF_incSat_same _ (Fld.fits_iff.1 (by simp [Fld.fits, F.SCH_TASK_STATUS_OVERFLOW]))]
    rfl

end Sys2Proof.Machine
end

section
/-!
PROOFS. The services on queues (R23, R96, R102): the element read and written, and the queue.
-/

namespace Sys2Proof.Machine

-- One proof after another: a side condition by `decide` waits for every proof before it, on a thread of its own.
set_option Elab.async false

/-! ### Reads that find no uncorrectable word -/

/-- The parts that a read without an uncorrectable word changes. -/
abbrev goodParts : List Part := [.ecc, .regs, .evr]

/-- The parts that a write of memory, after such reads, changes. -/
abbrev mergeParts : List Part := [.mem, .ecc, .regs, .evr]

theorem State.keeps_eccCorrected_good (s : State) (array index : Nat) : s.keeps (s.eccCorrected array index) goodParts :=
  have hcount : s.keeps _ goodParts := (s.keeps_refl _).step (s.alters_incSat (F.APC_ECC_ARRAY_CORRECTED array))
  .step (.ite _ (hcount.step (alters_ecc _ _)) (hcount.step (alters_incSat _ _))) (alters_raise _ _ _ _)

theorem State.keeps_eccReadWord_good {s : State} {a finder : Nat} (h : (s.eccReadWord a finder).1 = false) :
    s.keeps (s.eccReadWord a finder).2 goodParts := by
  unfold State.eccReadWord at h ⊢
  split
  · exact s.keeps_refl _
  · next k i hplace =>
    simp only [hplace] at h
    split
    · exact s.keeps_refl _
    · exact s.keeps_eccCorrected_good _ _
    · next hmark => rw [hmark] at h; cases h

theorem State.keeps_eccRead_good {s : State} {a n finder : Nat} (h : (s.eccRead a n finder).1 = false) :
    s.keeps (s.eccRead a n finder).2 goodParts := by
  unfold State.eccRead at h ⊢
  have hfold : ∀ (ks : List Nat) (r : Bool × State), (ks.foldl (fun r k => if r.1 then r else
      r.2.eccReadWord (a / 8 * 8 + 8 * k) finder) r).1 = false → r.1 = false ∧ r.2.keeps (ks.foldl (fun r k =>
        if r.1 then r else r.2.eccReadWord (a / 8 * 8 + 8 * k) finder) r).2 goodParts := by
    intro ks
    induction ks with
    | nil => exact fun r hr => ⟨hr, r.2.keeps_refl _⟩
    | cons k ks ih =>
      intro r hr
      obtain ⟨hbad, hkeeps⟩ := ih _ hr
      obtain ⟨bad, t⟩ := r
      cases bad with
      | true => cases hbad
      | false => exact ⟨rfl, (State.keeps_eccReadWord_good hbad).next hkeeps⟩
  exact (hfold _ _ h).2

/-! ### Bytes written into the scratchpad, with its first and last word merged -/

/-- The read of a word that the bytes a to a + n cover in part. -/
def State.mergeRead (s : State) (a n w : Nat) : Bool × State :=
  if w < a ∨ a + n < w + 8 then s.eccReadWord w 3 else (false, s)

theorem State.mergeRead_ok {s t : State} (hmarks : t.ecc.marks = s.ecc.marks) {a n w : Nat}
    (h : (w < a ∨ a + n < w + 8) → (s.eccReadWord w 3).1 = false) :
    ∃ u, t.mergeRead a n w = (false, u) ∧ t.keeps u goodParts ∧ u.ecc.marks = s.ecc.marks := by
  unfold State.mergeRead
  split_ifs with hpart
  · have hgood : (t.eccReadWord w 3).1 = false := (State.eccReadWord_congr hmarks w 3).trans (h hpart)
    exact ⟨_, Prod.ext hgood rfl, State.keeps_eccReadWord_good hgood, (t.marks_eccReadWord w 3).trans hmarks⟩
  · exact ⟨t, rfl, t.keeps_refl _, hmarks⟩

theorem State.storeBlock_eq (s : State) (c off : Nat) (bs : Bytes) {a : Nat} (ha : Mem.dram c + off = a) :
    s.storeBlock c off bs =
      match s.mergeRead a bs.length (a / 8 * 8) with
      | (bad, t) =>
        match if bad then (true, t) else t.mergeRead a bs.length ((a + bs.length - 1) / 8 * 8) with
        | (bad', u) =>
          if bad' then .inl (.exc u .eccUe (off + localBase))
          else .inr ((u.wrBytes a bs).eccClearWords (a / 8 * 8) (8 * ceilDiv (a % 8 + bs.length) 8)) := by
  subst ha
  rfl

theorem State.storeBlock_ok {s t : State} (hmarks : t.ecc.marks = s.ecc.marks) {c a : Nat} {bs : Bytes}
    (hn : bs.length ≠ 0)
    (hfirst : a % 8 = 0 ∨ (s.eccReadWord (a / 8 * 8) 3).1 = false)
    (hlast : (a + bs.length) % 8 = 0 ∨ (s.eccReadWord ((a + bs.length - 1) / 8 * 8) 3).1 = false) :
    ∃ u, (∀ off, Mem.dram c + off = a → t.storeBlock c off bs = .inr u) ∧ (∀ i, u.rdByte i = (t.wrBytes a bs).rdByte i) ∧ t.keeps u mergeParts := by
  obtain ⟨v, hv, hkv, hmv⟩ := State.mergeRead_ok hmarks (a := a) (n := bs.length) (w := a / 8 * 8) fun h => by
    rcases hfirst with hal | hgood
    · have hsame : (a + bs.length - 1) / 8 * 8 = a / 8 * 8 := by omega
      rw [← hsame]
      exact hlast.resolve_left (by omega)
    · exact hgood
  obtain ⟨w, hw, hkw, -⟩ := State.mergeRead_ok hmv (a := a) (n := bs.length) (w := (a + bs.length - 1) / 8 * 8) fun h => by
    rcases hlast with hal | hgood
    · have hsame : (a + bs.length - 1) / 8 * 8 = a / 8 * 8 := by omega
      rw [hsame]
      exact hfirst.resolve_left (by omega)
    · exact hgood
  have hkeeps : t.keeps w goodParts := hkv.next hkw
  have hmerged : (if false = true then (true, v) else v.mergeRead a bs.length ((a + bs.length - 1) / 8 * 8)) = (false, w) := hw
  refine ⟨(w.wrBytes a bs).eccClearWords (a / 8 * 8) (8 * ceilDiv (a % 8 + bs.length) 8), fun off ha => ?_, fun i => ?_, ((hkeeps.mono (by decide)).step (alters_wrBytes _ _ _)).step (alters_eccClearWords _ _ _)⟩
  · rw [State.storeBlock_eq _ _ _ _ ha, hv]
    dsimp only
    rw [hmerged]
    rfl
  · rw [State.rdByte_eccClearWords, State.rdByte_wrBytes, State.rdByte_wrBytes, hkeeps .mem (by decide)]

/-! ### Queues -/

theorem State.queueStore_room (s : State) (p : Pattern) {q : Nat} (e : Bytes)
    (h : (s.queueState q).fill < p.queueDepth q) : s.queueStore p q e = (true,
      ((s.wrBytes (queuePlace p q ((s.queueState q).head + (s.queueState q).fill)) (e.take (p.queueSize q))).setQueue q
        { s.queueState q with fill := (s.queueState q).fill + 1 }).eccClearWords
          (queuePlace p q ((s.queueState q).head + (s.queueState q).fill)) (p.queueSize q)) := by
  simp only [State.queueStore, State.queuePut, if_pos h, if_true]

theorem State.queueStore_full (s : State) (p : Pattern) {q : Nat} (e : Bytes)
    (h : p.queueDepth q ≤ (s.queueState q).fill) : s.queueStore p q e = (false, s.setQueue q { s.queueState q with
      overflow := if (s.queueState q).overflow = 0xFFFFFFFF then (s.queueState q).overflow
        else (s.queueState q).overflow + 1 }) := by
  simp only [State.queueStore, State.queuePut, if_neg (Nat.not_lt.2 h), Bool.false_eq_true, if_false]

theorem satCount_toNat (v : BitVec 32) :
    (if v = 0xFFFFFFFF then v else v + 1).toNat = Nat.min 0xFFFFFFFF (v.toNat + 1) := by
  have hmin : Nat.min 0xFFFFFFFF (v.toNat + 1) = min 0xFFFFFFFF (v.toNat + 1) := rfl
  rw [hmin]
  split_ifs with h
  · subst h; rfl
  · bv_omega

theorem State.alters_queueStore (s : State) (p : Pattern) (q : Nat) (e : Bytes) :
    s.alters (s.queueStore p q e).2 [] [.queues, .mem, .ecc] := by
  by_cases h : (s.queueState q).fill < p.queueDepth q
  · rw [s.queueStore_room p e h]
    exact (((s.alters_wrBytes _ _).mono (by simp) (by decide)).step (alters_setQueue _ _ _)).step
      (alters_eccClearWords _ _ _)
  · rw [s.queueStore_full p e (Nat.not_lt.1 h)]
    exact (s.alters_setQueue _ _).mono (by simp) (by decide)

theorem State.queueGet_some (s : State) (p : Pattern) {q : Nat} (h : (s.queueState q).fill ≠ 0) :
    (s.queueGet p q).2 = s.setQueue q { s.queueState q with
      head := ((s.queueState q).head + 1) % p.queueDepth q, fill := (s.queueState q).fill - 1 } := by
  simp only [State.queueGet, if_neg h]

theorem State.alters_queueGet (s : State) (p : Pattern) (q : Nat) : s.alters (s.queueGet p q).2 [] [.queues] := by
  by_cases h : (s.queueState q).fill = 0
  · rw [State.queueGet, if_pos h]
    exact s.alters_refl _ _
  · rw [s.queueGet_some p h]
    exact s.alters_setQueue _ _

theorem State.queueSizeOf_eq {s : State} {c q : Nat} {p : Pattern} (hp : (s.fetched c).pat.active = some p) :
    s.queueSizeOf q = p.queueSize q := by
  rw [State.pat_fetched] at hp
  simp only [State.queueSizeOf, hp, Option.map_some, Option.getD_some]

theorem costSys_costQPut (n : Nat) : costSys + costQPut n = 66 + 32 * ((n + 31) / 32) := by
  simp only [costSys, costQPut, ceilDiv]
  omega

theorem costSys_costQGet (n : Nat) : costSys + costQGet n = 82 + 32 * ((n + 31) / 32) := by
  simp only [costSys, costQGet, ceilDiv]
  omega

section
variable {c q n va ma : Nat} {s : State} {arg : BitVec 15} {p : Pattern} (hf : s.fetches c)
  (hp : (s.fetched c).pat.active = some p) (hrun : (s.core c).run = .none) (hq : arg.toNat = q) (hlt : q < 128)
  (hdef : p.queueDefined q = true) (hsize : p.queueSize q = n) (hva : ((s.core c).rd 1).toNat = va)
  (hma : Mem.dram c + (va - 0x10000000) = ma) (hlo : 0x10000000 ≤ va) (hhi : va + n ≤ 0x10080000)
include hf hp hrun hq hlt hdef hsize hva hma hlo hhi

/-- Q_PUT reads its element and stores it. -/
theorem answers_qPut {t : State} {stored : Bool} (hprod : p.queueProducer q = c)
    (hread : ((s.fetched c).eccRead ma n 1).1 = false) (ha : s.affords c (66 + 32 * ((n + 31) / 32)))
    (hstore : ((s.fetched c).eccRead ma n 1).2.queueStore p q (s.rdBytes ma n) = (stored, t)) :
    ∃ v, exec (.qPut c arg) s = .next v ∧ Claims.Answers c s v (if stored then 0 else 1) none none
      (66 + 32 * ((n + 31) / 32)) ∧ t.regsBut v [] ∧ t.keeps v [.cores, .free] := by
  have hcost : costSys + costQPut (s.queueSizeOf arg.toNat) = 66 + 32 * ((n + 31) / 32) := by
    rw [hq, State.queueSizeOf_eq hp, hsize, costSys_costQPut]
  have hreadEq : (s.fetched c).eccRead ma n 1 = (false, ((s.fetched c).eccRead ma n 1).2) := Prod.ext hread rfl
  have hkeeps := (s.fetched c).keeps_eccRead ma n 1
  have hparts := State.alters_queueStore ((s.fetched c).eccRead ma n 1).2 p q (s.rdBytes ma n)
  generalize ((s.fetched c).eccRead ma n 1).2 = u at hreadEq hkeeps hstore hparts
  have hbytes : u.rdBytes ma n = s.rdBytes ma n :=
    State.rdBytes_congr (fun a => (hkeeps .mem (by decide) a).trans (s.rdByte_fetched c a)) _ _
  rw [hstore] at hparts
  rw [← hcost] at ha ⊢
  refine answers_of_sysReturn (g2 := none) (g3 := none) hf ha rfl ?_ fun j =>
    (hparts.keeps .cores (by decide) j).trans ((hkeeps .cores (by decide) j).trans (s.core_fetched c j))
  have hcheck := State.checkLocal_ok (s := s.fetched c) (x := s.core c) (n := n) (al := 1) (write := false) hva hlo hhi
    (Nat.mod_one _) rfl
  obtain ⟨m, hm⟩ := dram_opaque c
  obtain ⟨off, hoff⟩ : ∃ off, va - 0x10000000 = off := ⟨_, rfl⟩
  refine (if_neg (by rw [not_isSelvedge hrun]; decide)).trans ?_
  rw [hoff] at hcheck hma
  rw [hm] at hma ⊢
  simp only [hp, hq, hlt, hdef, hprod, hsize, hcheck, hma, hreadEq, hbytes, hstore, decide_true, Bool.and_self, beq_self_eq_true,
    Bool.not_true, Bool.false_eq_true, if_false]
  rfl

/-- Q_GET reads the oldest element and writes it into the scratchpad. -/
theorem answers_qGet {t : State} (hcons : p.queueConsumer q = c) (hfill : (s.queueState q).fill ≠ 0)
    (hread : ((s.fetched c).eccRead (queuePlace p q (s.queueState q).head) n 1).1 = false)
    (ha : s.affords c (82 + 32 * ((n + 31) / 32)))
    (hstore : ∀ off, Mem.dram c + off = ma →
      ((s.fetched c).eccRead (queuePlace p q (s.queueState q).head) n 1).2.storeBlock c off
        (s.rdBytes (queuePlace p q (s.queueState q).head) n) = .inr t)
    (ht : ∀ j, t.core j = s.core j) :
    ∃ v, exec (.qGet c arg) s = .next v ∧ Claims.Answers c s v 0 none none (82 + 32 * ((n + 31) / 32)) ∧
      (t.queueGet p q).2.keeps v [.cores, .free] := by
  have hcost : costSys + costQGet (s.queueSizeOf arg.toNat) = 82 + 32 * ((n + 31) / 32) := by
    rw [hq, State.queueSizeOf_eq hp, hsize, costSys_costQGet]
  obtain ⟨place, hplace⟩ : ∃ place, queuePlace p q (s.queueState q).head = place := ⟨_, rfl⟩
  rw [hplace] at hread hstore
  have hreadEq : (s.fetched c).eccRead place n 1 = (false, ((s.fetched c).eccRead place n 1).2) := Prod.ext hread rfl
  have hkeeps := (s.fetched c).keeps_eccRead place n 1
  generalize ((s.fetched c).eccRead place n 1).2 = u at hreadEq hkeeps hstore
  have hbytes : u.rdBytes place n = s.rdBytes place n :=
    State.rdBytes_congr (fun a => (hkeeps .mem (by decide) a).trans (s.rdByte_fetched c a)) _ _
  have hgot := t.alters_queueGet p q
  rw [← hcost] at ha ⊢
  have hcheck := State.checkLocal_ok (s := s.fetched c) (x := s.core c) (n := n) (al := 1) (write := false) hva hlo hhi
    (Nat.mod_one _) rfl
  obtain ⟨off, hoff⟩ : ∃ off, va - 0x10000000 = off := ⟨_, rfl⟩
  rw [hoff] at hcheck hma
  have hstored := hstore off hma
  have hplain := not_isSelvedge hrun
  obtain ⟨v, hexec, hanswers, -, hafter⟩ := answers_of_sysReturn (i := .qGet c arg) (code := sysOk) (t := (t.queueGet p q).2)
    (g2 := none) (g3 := none) hf ha rfl (by
      simp only [hp, hq, hlt, hdef, hcons, hsize, hcheck, State.queueState_fetched, hfill, hplain, hplace, hreadEq, hbytes,
        hstored, decide_true, Bool.and_self, beq_self_eq_true, Bool.not_true, Bool.false_eq_true, if_false])
    fun j => (hgot.keeps .cores (by decide) j).trans (ht j)
  exact ⟨v, hexec, hanswers, hafter⟩

omit hrun hma in
/-- Q_GET of an empty queue. -/
theorem answers_qGet_empty (hcons : p.queueConsumer q = c) (hfill : (s.queueState q).fill = 0)
    (ha : s.affords c (82 + 32 * ((n + 31) / 32))) :
    ∃ v, exec (.qGet c arg) s = .next v ∧ Claims.Answers c s v 1 none none (82 + 32 * ((n + 31) / 32)) ∧
      (s.fetched c).keeps v [.cores, .free] := by
  have hcost : costSys + costQGet (s.queueSizeOf arg.toNat) = 82 + 32 * ((n + 31) / 32) := by
    rw [hq, State.queueSizeOf_eq hp, hsize, costSys_costQGet]
  rw [← hcost] at ha ⊢
  refine answers_of_fetched (g2 := none) (g3 := none) (code := sysFull) hf ha rfl ?_
  have hcheck := State.checkLocal_ok (s := s.fetched c) (x := s.core c) (n := n) (al := 1) (write := false) hva hlo hhi
    (Nat.mod_one _) rfl
  generalize va - 0x10000000 = off at hcheck
  rw [← State.queueState_fetched s c] at hfill
  simp only [hp, hq, hlt, hdef, hcons, hsize, hcheck, hfill, decide_true, Bool.and_self, beq_self_eq_true, Bool.not_true,
    Bool.false_eq_true, if_false, if_true]

end

theorem queueServices : Claims.QueueServices := by
  intro c s arg p hf hp u x q n va ma
  have hva : ((s.core c).rd 1).toNat = va := rfl
  have hma : Mem.dram c + (va - 0x10000000) = ma := rfl
  clear_value va ma
  intro fill head hlt hdef hn hlo hhi
  have hqs : u.queueState q = s.queueState q := s.queueState_fetched c q
  refine ⟨fun hprod hrun hread hroom ha => ?_, fun hprod hrun hread hfull ha => ?_,
    fun hcons hrun hfill hread hfirst hlast ha => ?_, fun hcons hrun hfill ha => ?_⟩
  · have hkeeps := State.keeps_eccRead_good hread
    have hqw := hkeeps .queues (by decide) q
    have hmem := hkeeps .mem (by decide)
    have hstore := State.queueStore_room (u.eccRead ma n 1).2 p (s.rdBytes ma n) (by rw [hqw]; exact hroom)
    have hparts := State.alters_queueStore (u.eccRead ma n 1).2 p q (s.rdBytes ma n)
    obtain ⟨v, hexec, hanswers, -, hafter⟩ := answers_qPut hf hp hrun rfl hlt hdef rfl hva hma hlo hhi hprod hread ha hstore
    rw [hstore, hqw] at hparts
    rw [hqw] at hafter
    have hqueue := hafter .queues (by decide)
    refine ⟨v, hexec, hanswers, ?_, fun j hj => ?_, ?_⟩
    · rw [hqueue, (State.alters_eccClearWords _ _ _).keeps .queues (by decide), State.queueState_setQueue_same]
    · rw [hqueue, (State.alters_eccClearWords _ _ _).keeps .queues (by decide), State.queueState_setQueue_ne _ _ hj,
        (State.alters_wrBytes _ _ _).keeps .queues (by decide), hkeeps .queues (by decide)]
    · have hbyte : ∀ i, v.rdByte i = ((u.eccRead ma n 1).2.wrBytes (queuePlace p q (head + fill)) (s.rdBytes ma n)).rdByte i :=
        fun i => by
          rw [hafter .mem (by decide), State.rdByte_eccClearWords, List.take_of_length_le (by simp [n]),
            (State.alters_setQueue _ _ _).keeps .mem (by decide)]
      have hmoved : s.moved v ma (queuePlace p q (head + fill)) n :=
        State.moved_of_wrBytes (fun i => (hmem i).trans (s.rdByte_fetched c i)) hbyte
      exact ⟨hmoved.1, hmoved.2, ((hkeeps.mono (m := [.cores, .free, .queues, .mem, .ecc, .regs, .evr]) (by decide)).step hparts).next hafter⟩
  · have hkeeps := State.keeps_eccRead_good hread
    have hqw := hkeeps .queues (by decide) q
    have hstore := State.queueStore_full (u.eccRead ma n 1).2 p (s.rdBytes ma n) (by rw [hqw]; exact hfull)
    rw [hqw] at hstore
    obtain ⟨v, hexec, hanswers, -, hafter⟩ := answers_qPut hf hp hrun rfl hlt hdef rfl hva hma hlo hhi hprod hread ha hstore
    have hqueue := hafter .queues (by decide) q
    rw [State.queueState_setQueue_same] at hqueue
    refine ⟨v, hexec, hanswers, by rw [hqueue], by rw [hqueue]; exact satCount_toNat _,
      ((hkeeps.mono (m := [.cores, .free, .queues, .ecc, .regs, .evr]) (by decide)).step (State.alters_setQueue _ _ _)).next hafter⟩
  · have hkeeps := State.keeps_eccRead_good hread
    have hmem := hkeeps .mem (by decide)
    have hal : ma % 8 = va % 8 := by simp only [← hma, Mem.dram]; omega
    have hlen : (s.rdBytes (queuePlace p q head) n).length = n := s.length_rdBytes _ _
    obtain ⟨w, hstore, hbytes, hkept⟩ := State.storeBlock_ok (s := u) (c := c) (a := ma)
      (bs := s.rdBytes (queuePlace p q head) n) (u.marks_eccRead (queuePlace p q head) n 1) (by rw [hlen]; exact hn)
      (by rw [hal]; exact hfirst) (by rw [hlen]; exact hlast.imp_left fun h => by omega)
    have hall : u.keeps w [.cores, .free, .queues, .mem, .ecc, .regs, .evr] :=
      (hkeeps.mono (by decide)).next hkept
    have hqw : w.queueState q = u.queueState q := (hkept .queues (by decide) q).trans (hkeeps .queues (by decide) q)
    have hcores : ∀ j, w.core j = s.core j := fun j =>
      (hkept .cores (by decide) j).trans ((hkeeps .cores (by decide) j).trans (s.core_fetched c j))
    obtain ⟨v, hexec, hanswers, hafter⟩ := answers_qGet hf hp hrun rfl hlt hdef rfl hva hma hlo hhi hcons
      (by rw [← hqs]; exact hfill) (by rw [← hqs]; exact hread) ha (by rw [← hqs]; exact hstore) hcores
    rw [w.queueGet_some p (by rw [hqw]; exact hfill), hqw] at hafter
    have hqueue := hafter .queues (by decide) q
    rw [State.queueState_setQueue_same] at hqueue
    have hmoved : s.moved v (queuePlace p q head) ma n :=
      State.moved_of_wrBytes (fun i => (hmem i).trans (s.rdByte_fetched c i)) fun i => (hafter .mem (by decide) i).trans (hbytes i)
    exact ⟨v, hexec, hanswers, by rw [hqueue], by rw [hqueue], hmoved.1, hmoved.2,
      (hall.step (State.alters_setQueue _ _ _)).next hafter⟩
  · exact answers_qGet_empty hf hp rfl hlt hdef rfl hva hlo hhi hcons (by rw [← hqs]; exact hfill) ha

/-- Settles O13: every service answers by one rule, on the state that its effect leads to. -/
theorem services : Obligations.Services := ⟨smallServices, queueServices⟩

end Sys2Proof.Machine
end

section
/-!
PROOFS. Register accesses (R8 to R14, R32, R33): refusals, which addresses have a reaction of their own, and what a write
makes of the fields of a register.
-/

namespace Sys2Proof.Machine

-- One proof after another: a side condition by `decide` waits for every proof before it, on a thread of its own.
set_option Elab.async false

/-! ### Refused accesses (R10, R14) -/

theorem State.alters_accErr (s : State) (req : Requester) (es : List AccErr) :
    s.alters (s.accErr req es) [F.GLB_ACCERR_COUNT.addr] [.regs] := by
  have hflags := State.alters_foldl_of (a := [F.GLB_ACCERR_COUNT.addr]) (l := [.regs]) id
    (fun s e => s.setF (AccErr.flag e) 1) (fun x e => by cases e <;> exact x.alters_setF _ 1) es s
  unfold State.accErr
  refine .ite _ (s.alters_refl _ _) ?_
  exact (hflags.step (State.alters_incSat _ F.GLB_ACCERR_COUNT)).step (State.alters_setF _ F.GLB_ACCERR_SOURCE _)
    (by decide)

section
variable {es : List AccErr}

theorem AccErr.flag_separate_count (e : AccErr) : e.flag.separate F.GLB_ACCERR_COUNT = true := by cases e <;> decide

theorem State.getF_flags_other {g : Fld} (s : State) (h : ∀ e : AccErr, e ∈ es → e.flag.separate g = true) :
    (es.foldl (fun s e => s.setF e.flag 1) s).getF g = s.getF g := by
  induction es generalizing s with
  | nil => rfl
  | cons e es ih =>
    rw [List.foldl_cons, ih _ fun e he => h e (List.mem_cons_of_mem _ he),
      State.getF_setF_other _ _ (h e List.mem_cons_self)]

theorem AccErr.fits_flag (e : AccErr) : e.flag.fits = true := by cases e <;> decide
theorem AccErr.flag_width (e : AccErr) : e.flag.width = 1 := by cases e <;> rfl
theorem AccErr.flag_separate {e g : AccErr} (h : e ≠ g) : e.flag.separate g.flag = true := by
  revert h
  cases e <;> cases g <;> decide

theorem State.getF_flag_set (s : State) {e : AccErr} (h : e ∈ es) :
    (es.foldl (fun s e => s.setF e.flag 1) s).getF e.flag = 1 := by
  induction es generalizing s with
  | nil => simp at h
  | cons g es ih =>
    rw [List.foldl_cons]
    by_cases hmem : e ∈ es
    · exact ih _ hmem
    · obtain rfl : e = g := by simpa [hmem] using h
      rw [State.getF_flags_other _ fun x hx => AccErr.flag_separate (by rintro rfl; exact hmem hx)]
      exact State.getF_setF_holds _ e.fits_flag (by rw [e.flag_width]; decide)

theorem Requester.source_lt (req : Requester) : Requester.source req < 16 := by cases req <;> simp [Requester.source]

variable (s : State) (req : Requester)

theorem State.accErr_of_ne (h : es ≠ []) : s.accErr req es =
    ((es.foldl (fun s e => s.setF e.flag 1) s).incSat F.GLB_ACCERR_COUNT).setF F.GLB_ACCERR_SOURCE (Requester.source req) :=
  if_neg (by simpa using h)

theorem State.accErr_flag {e : AccErr} (h : e ∈ es) : (s.accErr req es).getF e.flag = 1 := by
  have hsource : F.GLB_ACCERR_SOURCE.separate e.flag = true := by cases e <;> decide
  have hcount : F.GLB_ACCERR_COUNT.separate e.flag = true := by cases e <;> decide
  rw [State.accErr_of_ne s req (List.ne_nil_of_mem h), State.getF_setF_other _ _ hsource, State.incSat, State.addSat,
    State.getF_setF_other _ _ hcount, State.getF_flag_set s h]

theorem State.accErr_count (h : es ≠ []) : (s.accErr req es).getF F.GLB_ACCERR_COUNT =
    Nat.min 255 (s.getF F.GLB_ACCERR_COUNT + 1) := by
  rw [State.accErr_of_ne s req h, State.getF_setF_other _ _ (by decide),
    State.getF_incSat_same _ (Fld.fits_iff.1 (by decide)), State.getF_flags_other _ fun e _ => e.flag_separate_count]
  rfl

theorem State.accErr_source (h : es ≠ []) : (s.accErr req es).getF F.GLB_ACCERR_SOURCE = Requester.source req := by
  rw [State.accErr_of_ne s req h]
  exact State.getF_setF_holds _ (by decide) (Requester.source_lt req)

end

/-- Refusals recorded on a state whose registers read as before. -/
theorem refused_of_accErrs {i : Instr} {s u : State} {req : Requester} {es : List AccErr} {e : AccErr} (he : e ∈ es)
    (hu : s.alters u [] [.regs]) (h : exec i s = .next (u.accErr req es)) :
    Claims.Refused i s e.flag (Requester.source req) := by
  have hcount : u.getF F.GLB_ACCERR_COUNT = s.getF F.GLB_ACCERR_COUNT := hu.getF (by simp)
  have hany := List.ne_nil_of_mem he
  refine ⟨_, h, u.accErr_flag req he, ?_, u.accErr_source req hany, ?_, ?_⟩
  · rw [u.accErr_count req hany, hcount]
  · exact hu.regsBut.trans (u.alters_accErr req es).regsBut
  · exact hu.keeps.step (u.alters_accErr req es)

theorem refused_of_accErr {i : Instr} {s u : State} {req : Requester} {e : AccErr} (hu : s.alters u [] [.regs])
    (h : exec i s = .next (u.accErr req [e])) : Claims.Refused i s e.flag (Requester.source req) :=
  refused_of_accErrs (by simp) hu h

/-! ### A write that reaches its register (R33) -/

theorem State.mayWrite_enrol {s : State} {req : Requester} {a : Nat} (h : s.mayWrite req a = true) (enrol : Bool) :
    s.mayWrite req a enrol = true := by
  cases req <;> cases enrol <;> simp_all [State.mayWrite]
  tauto

theorem exec_registerWrite {s : State} {req : Requester} {addr : BitVec 32} (h : s.served req addr.toNat)
    (v : BitVec 32) (n : Nat) :
    exec (.registerWrite req addr v n) s = .next (s.regWrite req addr.toNat v n) := by
  obtain ⟨hreach, -, hmay⟩ := h
  have hserves : s.serves req = true := by simp [State.serves, hreach]
  simp only [exec, execRegisterWrite, State.accessBy, hserves, State.mayWrite_enrol hmay, if_true]

theorem State.regWrite_narrow {s : State} {req : Requester} {a n : Nat} (v : BitVec 32) (h : n ≠ 4 ∨ a % 4 ≠ 0) :
    s.regWrite req a v n = s.accErr req [.badWidth] := if_pos h

theorem State.regWrite_word {s : State} {req : Requester} {a : Nat} (v : BitVec 32) (ha : a % 4 = 0) (hreq : req ≠ .cmp) :
    s.regWrite req a v 4 = s.busWrite req a v := (if_neg (by simp [ha])).trans (if_neg hreq)

/-! ### Addresses with a reaction of their own -/

theorem elementAt_eq_some {base stride count a n : Nat} (h : elementAt base stride count a = some n) :
    n < count ∧ a = base + stride * n := by
  unfold elementAt at h
  split_ifs at h with hin
  obtain rfl := Option.some.inj h
  obtain ⟨hbase, hmod, hlt⟩ := hin
  have := Nat.div_add_mod (a - base) stride
  exact ⟨hlt, by omega⟩

theorem elementAt_eq_none {base stride count a : Nat} (h : ∀ n, n < count → a ≠ base + stride * n) :
    elementAt base stride count a = none := by
  cases hat : elementAt base stride count a with
  | none => rfl
  | some n =>
    obtain ⟨hlt, ha⟩ := elementAt_eq_some hat
    exact absurd ha (h n hlt)

/-- The addresses of an array of registers. -/
def arrayAddrs (f : Fld) (stride count : Nat) : List Nat := (List.range count).map (fun n => f.addr + stride * n)

theorem elementAt_none_of_notMem {f : Fld} {stride count a : Nat} (h : a ∉ arrayAddrs f stride count) :
    elementAt f.addr stride count a = none :=
  elementAt_eq_none fun n hn ha => h (List.mem_map.2 ⟨n, List.mem_range.2 hn, ha.symm⟩)

/-- Registers whose chapter gives a write its own reaction. -/
def ownAddrs : List Nat :=
  [F.GLB_ACCERR_COUNT.addr, F.PTP_INCR_LO_FRAC.addr, F.PTP_INCR_HI_NS.addr, F.GLB_CMP_CMD_OP.addr] ++
    arrayAddrs (F.PWR_VOTE_C_CLO 0) 4 8 ++ arrayAddrs (F.CAN_MB_LOCK_LOCK 0) 0x1000 8 ++
    arrayAddrs (F.GLB_CMP_IN_DATA 0) 4 16 ++ arrayAddrs (F.GLB_CMP_OUT_DATA 0) 4 16

/-- Registers whose write carries a command. -/
def opAddrs : List Nat :=
  [F.GLB_START_CMD_OP.addr, F.GLB_FORCE_CMD_OP.addr, F.PAT_CMD_OP.addr, F.LPE_BOB_CTRL_OP.addr, F.SAF_CMD_OP.addr,
    F.PAIR_CMD_OP.addr, F.PTP_CMD_OP.addr, F.EVR_CMD_OP.addr, F.PNL_CMD_OP.addr, F.PWR_CMD_OP.addr, F.SEC_CMD_OP.addr]

/-- Registers whose write carries a command with its unit. -/
def unitAddrs : List Nat :=
  [F.LPE_CH_CMD_OP.addr, F.QPS_CTX_CMD_OP.addr, F.UPD_CMD_OP.addr, F.UPD_CANCEL_REGION.addr, F.RST_CMD_OP.addr,
    F.DGT_LB_CMD_OP.addr] ++ arrayAddrs (F.CAN_CMD_OP 0) 0x1000 8

/-- Registers whose write acts beyond them, but for an acknowledged fault. -/
def actAddrs : List Nat := F.DGT_ECC_INJ_ARM.addr :: arrayAddrs (F.SEC_DATA_DATA 0) 4 64

/-- Registers whose write does more than write their fields, but for an acknowledged fault. -/
def commandAddrs : List Nat := opAddrs ++ unitAddrs ++ actAddrs

section
variable {s : State} {req : Requester} {a : Nat} {v : BitVec 32}

theorem State.ownWrite_none (h : a ∉ ownAddrs) : s.ownWrite req a v = none := by
  simp only [ownAddrs, List.mem_append, List.mem_cons, List.not_mem_nil, or_false, not_or] at h
  obtain ⟨⟨⟨⟨⟨hacc, hlo, hhi, hcmd⟩, hvote⟩, hlock⟩, hin⟩, hout⟩ := h
  unfold State.ownWrite State.mailWrite
  rw [if_neg hacc, if_neg hlo, if_neg hhi, elementAt_none_of_notMem hvote, elementAt_none_of_notMem hlock]
  dsimp only
  rw [if_neg hcmd, elementAt_none_of_notMem hin, elementAt_none_of_notMem hout]

theorem State.opCommand_none (h : a ∉ opAddrs) : s.opCommand req a v = s := by
  simp only [opAddrs, List.mem_cons, List.not_mem_nil, or_false, not_or] at h
  simp only [State.opCommand, h, if_false]

theorem State.unitCommand_none (h : a ∉ unitAddrs) : s.unitCommand a v = s := by
  simp only [unitAddrs, List.mem_append, List.mem_cons, List.not_mem_nil, or_false, not_or] at h
  obtain ⟨hlist, hcan⟩ := h
  simp only [State.unitCommand, hlist, elementAt_none_of_notMem hcan, if_false]

/-- The bit of APC_STATUS of a fault that a write acknowledges (R91). -/
def State.faultAck (s : State) (a : Nat) (v : BitVec 32) : State :=
  match elementAt (F.APC_CORE_FAULT_VALID 0).addr 0x20 8 a with
  | some n =>
    if (F.APC_CORE_FAULT_VALID n).pick v = 1 && bitOf (s.getF F.APC_STATUS_FAULT) n then
      s.setF F.APC_STATUS_FAULT (s.getF F.APC_STATUS_FAULT - 2 ^ n)
    else s
  | none => s

theorem State.fieldActs_none (h : a ∉ actAddrs) : s.fieldActs a v = s.faultAck a v := by
  simp only [actAddrs, List.mem_cons, not_or] at h
  obtain ⟨hinj, hdata⟩ := h
  unfold State.fieldActs State.faultAck
  rw [elementAt_none_of_notMem hdata]
  cases elementAt (F.APC_CORE_FAULT_VALID 0).addr 0x20 8 a with
  | some n => rfl
  | none => exact if_neg fun hand => hinj hand.1

/-- A write to a register without a reaction of its own writes its fields, and acknowledges a fault. -/
theorem State.busWrite_fields {r : RegDef} (hwin : windowAt a = none) (hown : s.ownWrite req a v = none)
    (hreg : findReg a = some r) (hcmd : a ∉ commandAddrs) :
    s.busWrite req a v = (s.fieldWrite req a r v).faultAck a v := by
  simp only [commandAddrs, List.mem_append, not_or] at hcmd
  obtain ⟨⟨hop, hunit⟩, hact⟩ := hcmd
  simp only [State.busWrite, hwin, hown, hreg, State.unitCommand_none hunit, State.opCommand_none hop,
    State.fieldActs_none hact]

end

end Sys2Proof.Machine
end

section
/-!
PROOFS. What a write makes of the fields of a register (R9, R10, R11): each field by its access type.
-/

namespace Sys2Proof.Machine

-- One proof after another: a side condition by `decide` waits for every proof before it, on a thread of its own.
set_option Elab.async false

/-! ### Facts of the register map -/

/-- Fields inside the word that share no bit. -/
def RegDef.tidy (r : RegDef) : Prop :=
  (∀ f ∈ r.fields, f.lo ≤ f.hi ∧ f.hi < 32) ∧ r.fields.Pairwise (fun f g => f.hi < g.lo ∨ g.hi < f.lo)

theorem mem_of_findReg {a : Nat} {r : RegDef} (h : findReg a = some r) : r ∈ regBlock (a / 0x10000) :=
  List.mem_of_find?_eq_some h

theorem findReg_beyond {a : Nat} (h : 0x00130000 ≤ a) : findReg a = none := by
  have hblock : regBlock (a / 0x10000) = [] := by
    obtain ⟨m, hm⟩ : ∃ m, a / 0x10000 = m + 19 := ⟨a / 0x10000 - 19, by omega⟩
    rw [hm]
    rfl
  rw [findReg, hblock]
  rfl

theorem blocks_tidy : ∀ b < 19, ∀ r ∈ regBlock b, (∀ f ∈ r.fields, f.lo ≤ f.hi ∧ f.hi < 32) ∧
    r.fields.Pairwise (fun f g => f.hi < g.lo ∨ g.hi < f.lo) := by decide +kernel

theorem tidy_of_findReg {a : Nat} {r : RegDef} (h : findReg a = some r) : r.tidy := by
  by_cases hb : a / 0x10000 < 19
  · exact blocks_tidy _ hb r (mem_of_findReg h)
  · rw [findReg_beyond (by omega)] at h
    cases h

/-- A register with a reaction of its own is one of the map. -/
theorem ownAddrs_mapped : ∀ a ∈ ownAddrs, (findReg a).isSome = true := by decide +kernel

/-- A register that carries a command has a field that is written for its effect. -/
theorem commandAddrs_command : ∀ a ∈ commandAddrs,
    (findReg a).any (fun r => r.fields.any (fun f => f.acc == .wo || f.acc == .w1s)) = true := by decide +kernel

theorem notMem_commandAddrs {a : Nat} {r : RegDef} (h : findReg a = some r)
    (hacc : ∀ f ∈ r.fields, f.acc ≠ .wo ∧ f.acc ≠ .w1s) : a ∉ commandAddrs := fun ha => by
  have hany := commandAddrs_command a ha
  rw [h, Option.any_some, List.any_eq_true] at hany
  obtain ⟨f, hf, hf'⟩ := hany
  obtain ⟨hwo, hw1s⟩ := hacc f hf
  simp [hwo, hw1s] at hf'

/-! ### One field -/

/-- The field as a field of the register at an address. -/
abbrev FieldDef.fld (f : FieldDef) (a : Nat) : Fld := ⟨a, f.hi, f.lo⟩

/-- What a write makes of a bit of a field. -/
def FieldDef.newBit (f : FieldDef) (free bad old new : Bool) : Bool :=
  match f.acc with
  | .rw => if bad then old else new
  | .rws => if free && !bad then new else old
  | .w1c => if bad then old else old && !new
  | _ => old

/-- What a write of a field refuses. -/
def FieldDef.refusal (f : FieldDef) (free bad : Bool) (old new : Nat) : Option AccErr :=
  match f.acc with
  | .ro => if new = 0 then none else some .refusedRo
  | .rw => if bad then some .refusedRo else none
  | .rws => if new = old then none else if !free then some .refusedRws else if bad then some .refusedRo else none
  | .w1c => if bad && new != 0 then some .refusedRo else none
  | _ => none

section
variable {f : FieldDef} {free bad : Bool} {w v : BitVec 32} (a : Nat) (hlo : f.lo ≤ f.hi) (hhi : f.hi < 32)
include hlo hhi

theorem FieldDef.mask_getLsbD {i : Nat} (hi : i < 32) : f.mask.getLsbD i = decide (f.lo ≤ i ∧ i ≤ f.hi) := by
  rw [FieldDef.mask, BitVec.getLsbD_shiftLeft, maskBits_getLsbD _ _ (by omega)]
  rw [Bool.eq_iff_iff]
  simp only [hi, decide_true, Bool.true_and, Bool.and_eq_true, Bool.not_eq_true', decide_eq_false_iff_not, decide_eq_true_eq]
  omega

theorem FieldDef.masked_eq_iff : v &&& f.mask = w &&& f.mask ↔ (f.fld a).pick v = (f.fld a).pick w := by
  have hin : (f.fld a).inWord := ⟨hlo, hhi⟩
  constructor
  · intro h
    refine Nat.eq_of_testBit_eq fun i => ?_
    rw [Fld.pick_testBit _ _ _ hin, Fld.pick_testBit _ _ _ hin]
    by_cases hi : i < (f.fld a).width
    · have hbit := congrArg (·.getLsbD (f.lo + i)) h
      simp only [Fld.width] at hi
      simp only [BitVec.getLsbD_and, FieldDef.mask_getLsbD hlo hhi (show f.lo + i < 32 by omega)] at hbit
      simpa [show f.lo + i ≤ f.hi by omega] using congrArg (decide (i < (f.fld a).width) && ·) hbit
    · simp [hi]
  · intro h
    refine BitVec.eq_of_getLsbD_eq fun i hi => ?_
    rw [BitVec.getLsbD_and, BitVec.getLsbD_and, FieldDef.mask_getLsbD hlo hhi hi]
    by_cases hr : f.lo ≤ i ∧ i ≤ f.hi
    · have hbit := congrArg (·.testBit (i - f.lo)) h
      have hlt : i - f.lo < (f.fld a).width := by simp only [Fld.width]; omega
      simp only [Fld.pick_testBit _ _ _ hin, hlt, decide_true, Bool.true_and] at hbit
      simpa [hr, show f.lo + (i - f.lo) = i by omega] using hbit
    · simp [hr]

theorem FieldDef.masked_zero_iff : v &&& f.mask = 0 ↔ (f.fld a).pick v = 0 := by
  have h := FieldDef.masked_eq_iff (f := f) (w := 0) (v := v) a hlo hhi
  simpa [Fld.pick] using h

theorem FieldDef.write_getLsbD {i : Nat} (hi : i < 32) : (f.write free bad w v).1.getLsbD i =
    if f.lo ≤ i ∧ i ≤ f.hi then f.newBit free bad (w.getLsbD i) (v.getLsbD i) else w.getLsbD i := by
  have hmask := FieldDef.mask_getLsbD hlo hhi hi
  have hstored : ((w &&& ~~~f.mask) ||| (v &&& f.mask)).getLsbD i =
      if f.lo ≤ i ∧ i ≤ f.hi then v.getLsbD i else w.getLsbD i := by
    simp only [BitVec.getLsbD_or, BitVec.getLsbD_and, BitVec.getLsbD_not, hmask, hi]
    by_cases hr : f.lo ≤ i ∧ i ≤ f.hi <;> simp [hr]
  have hcleared : (w &&& ~~~(v &&& f.mask)).getLsbD i =
      if f.lo ≤ i ∧ i ≤ f.hi then w.getLsbD i && !v.getLsbD i else w.getLsbD i := by
    simp only [BitVec.getLsbD_and, BitVec.getLsbD_not, hmask, hi]
    by_cases hr : f.lo ≤ i ∧ i ≤ f.hi <;> simp [hr]
  unfold FieldDef.write FieldDef.newBit
  cases f.acc
  case ro | wo | w1s => simp
  case rw => cases bad <;> simp [hstored]
  case rws =>
    by_cases hsame : v &&& f.mask = w &&& f.mask
    · have hbit : (if f.lo ≤ i ∧ i ≤ f.hi then v.getLsbD i else w.getLsbD i) = w.getLsbD i := by
        have := congrArg (·.getLsbD i) hsame
        simp only [BitVec.getLsbD_and, hmask] at this
        split_ifs with hr
        · simpa [hr] using this
        · rfl
      rw [← hstored] at hbit
      cases free <;> cases bad <;> simp_all
    · cases free <;> cases bad <;> simp [hsame, hstored]
  case w1c =>
    cases bad
    · simpa using hcleared
    · have hkeep : w &&& ~~~(0#32) = w := by rw [BitVec.not_zero, BitVec.and_allOnes]
      by_cases hzero : v &&& f.mask = 0#32
      · simp only [hzero, hkeep, if_true, ite_self]
        rfl
      · simp [hzero]

theorem FieldDef.write_snd : (f.write free bad w v).2 = f.refusal free bad ((f.fld a).pick w) ((f.fld a).pick v) := by
  have hsame := FieldDef.masked_eq_iff (f := f) (w := w) (v := v) a hlo hhi
  have hzero := FieldDef.masked_zero_iff (f := f) (v := v) a hlo hhi
  unfold FieldDef.write FieldDef.refusal
  cases f.acc
  case wo | w1s => rfl
  case ro => simp only [hzero]
  case rw => cases bad <;> rfl
  case rws => simp only [hsame]; split_ifs <;> rfl
  case w1c =>
    have hbool : (v &&& f.mask != 0) = ((f.fld a).pick v != 0) := by
      rw [Bool.eq_iff_iff, bne_iff_ne, bne_iff_ne, ne_eq, ne_eq, hzero]
    simp only [hbool]
    split_ifs <;> rfl

end

/-! ### All fields of a register -/

section
variable {free : Bool} {bad : FieldDef → Bool} {v : BitVec 32} {fs : List FieldDef}

theorem writeFields_outside {w : BitVec 32} {i : Nat} (hi : i < 32) (hfs : ∀ f ∈ fs, f.lo ≤ f.hi ∧ f.hi < 32)
    (hout : ∀ f ∈ fs, ¬(f.lo ≤ i ∧ i ≤ f.hi)) : (writeFields free bad v fs w).1.getLsbD i = w.getLsbD i := by
  induction fs generalizing w with
  | nil => rfl
  | cons f fs ih =>
    obtain ⟨hlo, hhi⟩ := hfs f List.mem_cons_self
    rw [writeFields, ih (fun g hg => hfs g (List.mem_cons_of_mem _ hg)) fun g hg => hout g (List.mem_cons_of_mem _ hg),
      FieldDef.write_getLsbD hlo hhi hi, if_neg (hout f List.mem_cons_self)]

theorem writeFields_field {w : BitVec 32} {i : Nat} (hi : i < 32) (hfs : ∀ f ∈ fs, f.lo ≤ f.hi ∧ f.hi < 32)
    (hapart : fs.Pairwise (fun f g => f.hi < g.lo ∨ g.hi < f.lo)) {f : FieldDef} (hf : f ∈ fs) (hin : f.lo ≤ i ∧ i ≤ f.hi) :
    (writeFields free bad v fs w).1.getLsbD i = f.newBit free (bad f) (w.getLsbD i) (v.getLsbD i) := by
  induction fs generalizing w with
  | nil => simp at hf
  | cons g fs ih =>
    obtain ⟨hlo, hhi⟩ := hfs g List.mem_cons_self
    have htail : ∀ x ∈ fs, x.lo ≤ x.hi ∧ x.hi < 32 := fun x hx => hfs x (List.mem_cons_of_mem _ hx)
    obtain ⟨hg, hrest⟩ := List.pairwise_cons.1 hapart
    rw [writeFields]
    rcases List.mem_cons.1 hf with rfl | hmem
    · rw [writeFields_outside hi htail fun x hx => by have := hg x hx; omega, FieldDef.write_getLsbD hlo hhi hi, if_pos hin]
    · rw [ih htail hrest hmem, FieldDef.write_getLsbD hlo hhi hi, if_neg (by have := hg f hmem; omega)]

/-- A field keeps its value where other fields are written. -/
theorem FieldDef.pick_write_apart {f g : FieldDef} {w : BitVec 32} (a : Nat) {b : Bool} (hf : f.lo ≤ f.hi ∧ f.hi < 32)
    (hg : g.lo ≤ g.hi ∧ g.hi < 32) (h : f.hi < g.lo ∨ g.hi < f.lo) :
    (g.fld a).pick (f.write free b w v).1 = (g.fld a).pick w := by
  refine Nat.eq_of_testBit_eq fun i => ?_
  rw [Fld.pick_testBit (g.fld a) _ _ hg, Fld.pick_testBit (g.fld a) _ _ hg]
  by_cases hi : i < (g.fld a).width
  · simp only [Fld.width] at hi
    have hlo : (g.fld a).lo = g.lo := rfl
    rw [hlo, FieldDef.write_getLsbD hf.1 hf.2 (by omega), if_neg (by omega)]
  · simp [hi]

theorem writeFields_refusals {w : BitVec 32} (a : Nat) (hfs : ∀ f ∈ fs, f.lo ≤ f.hi ∧ f.hi < 32)
    (hapart : fs.Pairwise (fun f g => f.hi < g.lo ∨ g.hi < f.lo)) (e : AccErr) :
    e ∈ (writeFields free bad v fs w).2 ↔
      ∃ f ∈ fs, f.refusal free (bad f) ((f.fld a).pick w) ((f.fld a).pick v) = some e := by
  induction fs generalizing w with
  | nil => simp [writeFields]
  | cons g fs ih =>
    have hg := hfs g List.mem_cons_self
    have htail : ∀ x ∈ fs, x.lo ≤ x.hi ∧ x.hi < 32 := fun x hx => hfs x (List.mem_cons_of_mem _ hx)
    obtain ⟨hhead, hrest⟩ := List.pairwise_cons.1 hapart
    rw [writeFields, List.mem_append, ih htail hrest, Option.mem_toList, FieldDef.write_snd a hg.1 hg.2]
    simp only [List.mem_cons, exists_eq_or_imp]
    refine or_congr Iff.rfl (exists_congr fun x => and_congr_right fun hx => ?_)
    rw [FieldDef.pick_write_apart a hg (htail x hx) (hhead x hx)]

end

/-! ### The acknowledgement of a fault -/

section
variable (s : State) (a : Nat) (v : BitVec 32)

theorem State.alters_faultAck : s.alters (s.faultAck a v) [F.APC_STATUS_FAULT.addr] [.regs] := by
  unfold State.faultAck
  split
  · exact .ite _ (s.alters_setF F.APC_STATUS_FAULT _) (s.alters_refl _ _)
  · exact s.alters_refl _ _

/-- Only a write that clears VALID of a CORE_FAULT register acknowledges its fault. -/
theorem State.faultAck_eq_self (h : ¬∃ n, n < 8 ∧ a = (F.APC_CORE_FAULT_VALID n).addr ∧ (F.APC_CORE_FAULT_VALID n).pick v = 1) :
    s.faultAck a v = s := by
  unfold State.faultAck
  split
  · next n hat =>
    obtain ⟨hn, ha⟩ := elementAt_eq_some hat
    refine if_neg fun hand => h ⟨n, hn, ha, ?_⟩
    simp only [Bool.and_eq_true, decide_eq_true_eq] at hand
    exact hand.1
  · rfl

theorem State.getR_faultAck : (s.faultAck a v).getR a = s.getR a := by
  by_cases h : ∃ n, n < 8 ∧ a = (F.APC_CORE_FAULT_VALID n).addr ∧ (F.APC_CORE_FAULT_VALID n).pick v = 1
  · obtain ⟨n, -, ha, -⟩ := h
    refine (s.alters_faultAck a v).regsBut a ?_
    simp only [ha, F.APC_CORE_FAULT_VALID, F.APC_STATUS_FAULT, List.mem_singleton]
    omega
  · rw [s.faultAck_eq_self a v h]

end

/-! ### A register without a reaction of its own -/

/-- A field of a written register. -/
theorem FieldDef.pick_eq_of_bits {f : FieldDef} (a : Nat) (hf : f.lo ≤ f.hi ∧ f.hi < 32) {w v : BitVec 32}
    (h : ∀ i, f.lo ≤ i → i ≤ f.hi → w.getLsbD i = v.getLsbD i) : (f.fld a).pick w = (f.fld a).pick v := by
  refine Nat.eq_of_testBit_eq fun i => ?_
  rw [Fld.pick_testBit (f.fld a) _ _ hf, Fld.pick_testBit (f.fld a) _ _ hf]
  by_cases hi : i < (f.fld a).width
  · simp only [Fld.width] at hi
    have hlo : (f.fld a).lo = f.lo := rfl
    rw [hlo, h _ (by omega) (by omega)]
  · simp [hi]

theorem rwsFree_iff {s : State} : s.rwsFree = true ↔ s.station = .stop ∨ s.station = .tacking := by
  simp [State.rwsFree]

theorem apcStatus_readOnly :
    (findReg F.APC_STATUS_FAULT.addr).all (fun r => r.fields.all (fun f => f.acc == .ro)) = true := by decide +kernel

theorem coreFault_writable : ∀ n < 8, (findReg (F.APC_CORE_FAULT_VALID n).addr).all (fun r => !r.readOnly) = true := by
  decide +kernel

theorem FieldDef.refusal_cases {f : FieldDef} {free bad : Bool} {old new : Nat} {e : AccErr}
    (h : f.refusal free bad old new = some e) : e = .refusedRo ∨ e = .refusedRws := by
  unfold FieldDef.refusal at h
  cases hacc : f.acc <;> simp only [hacc] at h <;> grind

theorem FieldDef.refusal_rws_iff {f : FieldDef} {free bad : Bool} {old new : Nat} :
    f.refusal free bad old new = some .refusedRws ↔ f.acc = .rws ∧ new ≠ old ∧ free = false := by
  unfold FieldDef.refusal
  cases hacc : f.acc <;> grind

theorem FieldDef.refusal_ro_iff {f : FieldDef} {free bad : Bool} {old new : Nat} :
    f.refusal free bad old new = some .refusedRo ↔ (f.acc = .ro ∧ new ≠ 0) ∨ (f.acc = .rw ∧ bad = true) ∨
      (f.acc = .rws ∧ new ≠ old ∧ free = true ∧ bad = true) ∨ (f.acc = .w1c ∧ new ≠ 0 ∧ bad = true) := by
  unfold FieldDef.refusal
  cases hacc : f.acc <;> grind

section
variable {s : State} {req : Requester} {a : Nat} {v : BitVec 32} {r : RegDef}

/-- The word that a write leaves, and what it refuses. -/
def State.written (s : State) (req : Requester) (a : Nat) (r : RegDef) (v : BitVec 32) : BitVec 32 × List AccErr :=
  writeFields s.rwsFree (s.fieldRefuses req a v) v r.fields (s.getR a)

theorem State.fieldWrite_written (h : r.readOnly = false) :
    s.fieldWrite req a r v = (s.setR a (s.written req a r v).1).accErr req (s.written req a r v).2 :=
  if_neg (by simp [h])

theorem readOnly_eq_false {g : FieldDef} (hg : g ∈ r.fields) (h : g.acc ≠ .ro) : r.readOnly = false := by
  rw [RegDef.readOnly, ← Bool.not_eq_true, List.all_eq_true]
  exact fun hall => h (by simpa using hall g hg)

theorem accerr_ne_of_ownWrite (h : s.ownWrite req a v = none) : a ≠ F.GLB_ACCERR_COUNT.addr := by
  rintro rfl
  rw [State.ownWrite, if_pos rfl] at h
  cases h

theorem State.regsBut_fieldWrite (hwr : r.readOnly = false) :
    s.alters ((s.fieldWrite req a r v).faultAck a v) [a, F.GLB_ACCERR_COUNT.addr, F.APC_STATUS_FAULT.addr] [.regs] := by
  rw [State.fieldWrite_written hwr]
  exact (((s.alters_setR a _).mono (by simp) (by decide)).step (State.alters_accErr _ _ _)).step
    (State.alters_faultAck _ _ _)

/-- The register after a write of its fields. -/
theorem State.getR_fieldWrite (hwr : r.readOnly = false) (ha : a ≠ F.GLB_ACCERR_COUNT.addr) :
    ((s.fieldWrite req a r v).faultAck a v).getR a = (s.written req a r v).1 := by
  rw [State.getR_faultAck, State.fieldWrite_written hwr, (State.alters_accErr _ _ _).regsBut a (by simpa using ha),
    State.getR_setR_same]

/-- A field after a write of its register: each bit by the access type. -/
theorem State.bit_fieldWrite (hreg : findReg a = some r) (hwr : r.readOnly = false) (ha : a ≠ F.GLB_ACCERR_COUNT.addr)
    {f : FieldDef} (hf : f ∈ r.fields) {i : Nat} (hlo : f.lo ≤ i) (hhi : i ≤ f.hi) :
    (((s.fieldWrite req a r v).faultAck a v).getR a).getLsbD i =
      f.newBit s.rwsFree (s.fieldRefuses req a v f) ((s.getR a).getLsbD i) (v.getLsbD i) := by
  obtain ⟨hin, hapart⟩ := tidy_of_findReg hreg
  have hlt : i < 32 := by have := hin f hf; omega
  rw [State.getR_fieldWrite hwr ha]
  exact writeFields_field hlt hin hapart hf ⟨hlo, hhi⟩

theorem State.mem_refusals_iff (hreg : findReg a = some r) (e : AccErr) : e ∈ (s.written req a r v).2 ↔
    ∃ f ∈ r.fields, f.refusal s.rwsFree (s.fieldRefuses req a v f) (s.getF (f.fld a)) ((f.fld a).pick v) = some e := by
  obtain ⟨hin, hapart⟩ := tidy_of_findReg hreg
  exact writeFields_refusals a hin hapart e

section
variable (hreg : findReg a = some r) (hwr : r.readOnly = false) (hne : a ≠ F.GLB_ACCERR_COUNT.addr)
include hreg hwr hne

section
variable {f : FieldDef} (hf : f ∈ r.fields)
include hf

theorem field_kept (h : ∀ o n, f.newBit s.rwsFree (s.fieldRefuses req a v f) o n = o) :
    ((s.fieldWrite req a r v).faultAck a v).getF (f.fld a) = s.getF (f.fld a) :=
  FieldDef.pick_eq_of_bits a ((tidy_of_findReg hreg).1 f hf) fun _ hlo hhi =>
    (s.bit_fieldWrite hreg hwr hne hf hlo hhi).trans (h _ _)

theorem field_taken (h : ∀ o n, f.newBit s.rwsFree (s.fieldRefuses req a v f) o n = n) :
    ((s.fieldWrite req a r v).faultAck a v).getF (f.fld a) = (f.fld a).pick v :=
  FieldDef.pick_eq_of_bits a ((tidy_of_findReg hreg).1 f hf) fun _ hlo hhi =>
    (s.bit_fieldWrite hreg hwr hne hf hlo hhi).trans (h _ _)

/-- What a write leaves of each field, by its access type. -/
theorem field_after_write :
    let t := (s.fieldWrite req a r v).faultAck a v
    let free : Prop := s.station = .stop ∨ s.station = .tacking
    let bad : Prop := s.fieldRefuses req a v f = true
    (f.acc = .ro → t.getF (f.fld a) = s.getF (f.fld a)) ∧ (f.acc = .rw → ¬bad → t.getF (f.fld a) = (f.fld a).pick v) ∧
      (f.acc = .rw → bad → t.getF (f.fld a) = s.getF (f.fld a)) ∧
      (f.acc = .rws → free → ¬bad → t.getF (f.fld a) = (f.fld a).pick v) ∧
      (f.acc = .rws → (¬free ∨ bad) → t.getF (f.fld a) = s.getF (f.fld a)) ∧
      (f.acc = .w1c → ¬bad → ∀ i, f.lo ≤ i → i ≤ f.hi →
        (t.getR a).getLsbD i = ((s.getR a).getLsbD i && !v.getLsbD i)) ∧
      (f.acc = .w1c → bad → t.getF (f.fld a) = s.getF (f.fld a)) := by
  intro t free bad
  have hfree : free ↔ s.rwsFree = true := rwsFree_iff.symm
  refine ⟨fun hacc => ?_, fun hacc hgood => ?_, fun hacc hbad => ?_, fun hacc hopen hgood => ?_,
    fun hacc hno => ?_, fun hacc hgood i hlo hhi => ?_, fun hacc hbad => ?_⟩
  · exact field_kept hreg hwr hne hf fun o n => by simp only [FieldDef.newBit, hacc]
  · exact field_taken hreg hwr hne hf fun o n => by
      simp only [FieldDef.newBit, hacc, Bool.eq_false_iff.2 hgood, Bool.false_eq_true, if_false]
  · exact field_kept hreg hwr hne hf fun o n => by simp only [FieldDef.newBit, hacc, show s.fieldRefuses req a v f = true from hbad, if_true]
  · exact field_taken hreg hwr hne hf fun o n => by
      simp only [FieldDef.newBit, hacc, Bool.eq_false_iff.2 hgood, hfree.1 hopen, Bool.not_false, Bool.and_self, if_true]
  · exact field_kept hreg hwr hne hf fun o n => by
      have hshut : (s.rwsFree && !s.fieldRefuses req a v f) = false := by
        rw [Bool.and_eq_false_iff, Bool.not_eq_false']
        exact hno.imp_left fun h => Bool.eq_false_iff.2 (mt hfree.2 h)
      simp only [FieldDef.newBit, hacc, hshut, Bool.false_eq_true, if_false]
  · rw [s.bit_fieldWrite hreg hwr hne hf hlo hhi]
    simp only [FieldDef.newBit, hacc, Bool.eq_false_iff.2 hgood, Bool.false_eq_true, if_false]
  · exact field_kept hreg hwr hne hf fun o n => by simp only [FieldDef.newBit, hacc, show s.fieldRefuses req a v f = true from hbad, if_true]

end

omit hreg in
/-- What a write refuses is recorded as one access. -/
theorem refusals_recorded :
    let t := (s.fieldWrite req a r v).faultAck a v
    let es := (s.written req a r v).2
    (∀ e ∈ es, t.getF e.flag = 1) ∧ (es ≠ [] → t.getF F.GLB_ACCERR_SOURCE = Requester.source req ∧
      t.getF F.GLB_ACCERR_COUNT = Nat.min 255 (s.getF F.GLB_ACCERR_COUNT + 1)) ∧
      (es = [] → t.getR F.GLB_ACCERR_COUNT.addr = s.getR F.GLB_ACCERR_COUNT.addr) := by
  intro t es
  have hreg : t.getR F.GLB_ACCERR_COUNT.addr = ((s.setR a (s.written req a r v).1).accErr req es).getR
      F.GLB_ACCERR_COUNT.addr := by
    rw [(State.alters_faultAck _ a v).regsBut _ (by decide), State.fieldWrite_written hwr]
  have hfld : ∀ g : Fld, g.addr = F.GLB_ACCERR_COUNT.addr →
      t.getF g = ((s.setR a (s.written req a r v).1).accErr req es).getF g := fun g hg => by
    rw [State.getF, State.getF, hg, hreg]
  have hcount : (s.setR a (s.written req a r v).1).getF F.GLB_ACCERR_COUNT = s.getF F.GLB_ACCERR_COUNT :=
    State.getF_setR_ne _ _ _ _ hne.symm
  refine ⟨fun e he => ?_, fun hany => ⟨?_, ?_⟩, fun hnone => ?_⟩
  · rw [hfld _ (by cases e <;> rfl), State.accErr_flag _ _ he]
  · exact (hfld F.GLB_ACCERR_SOURCE rfl).trans (State.accErr_source _ _ hany)
  · exact (hfld F.GLB_ACCERR_COUNT rfl).trans ((State.accErr_count _ _ hany).trans (by rw [hcount]))
  · rw [hreg, hnone]
    exact State.getR_setR_ne _ _ _ _ hne.symm

omit hne in
theorem apcStatus_after_write
    (h : ((s.fieldWrite req a r v).faultAck a v).getR F.APC_STATUS_FAULT.addr ≠ s.getR F.APC_STATUS_FAULT.addr) :
    ∃ n, n < 8 ∧ a = (F.APC_CORE_FAULT_VALID n).addr ∧ (F.APC_CORE_FAULT_VALID n).pick v = 1 := by
  by_contra hno
  have hna : F.APC_STATUS_FAULT.addr ≠ a := fun he => by
    have hall := apcStatus_readOnly
    rw [he, hreg, Option.all_some] at hall
    rw [RegDef.readOnly, hall] at hwr
    cases hwr
  refine h ?_
  rw [State.faultAck_eq_self _ a v hno, State.fieldWrite_written hwr, (State.alters_accErr _ _ _).regsBut _ (by decide),
    State.getR_setR_ne _ _ _ _ hna]

end

end

theorem registerFields : Claims.RegisterFields := by
  intro s req addr v r a hserved hal hwin hreg hown hacc
  have hwrite := (exec_registerWrite hserved v 4).trans (congrArg Host.Outcome.next
    ((State.regWrite_word v hal hserved.2.1).trans (State.busWrite_fields hwin hown hreg (notMem_commandAddrs hreg hacc))))
  have hne := accerr_ne_of_ownWrite hown
  refine ⟨fun hro => ?_, fun ⟨g, hg, hgacc⟩ => ?_⟩
  · have hreadOnly : r.readOnly = true := by simpa [RegDef.readOnly] using hro
    refine refused_of_accErr (e := .refusedRo) (s.alters_refl _ _) (hwrite.trans (congrArg _ ?_))
    rw [State.fieldWrite, if_pos hreadOnly]
    refine State.faultAck_eq_self _ _ _ fun ⟨n, hn, ha, _⟩ => ?_
    have hwritable := coreFault_writable n hn
    rw [← ha, hreg, Option.all_some, hreadOnly] at hwritable
    cases hwritable
  · intro old new free bad refusedRws refusedRo
    have hwr := readOnly_eq_false hg hgacc
    have hparts := s.regsBut_fieldWrite (req := req) (a := a) (v := v) hwr
    have hfree : free ↔ s.rwsFree = true := rwsFree_iff.symm
    have hrws : refusedRws ↔ AccErr.refusedRws ∈ (s.written req a r v).2 := by
      rw [State.mem_refusals_iff hreg]
      refine exists_congr fun f => and_congr_right fun hf => ?_
      rw [FieldDef.refusal_rws_iff, hfree, Bool.not_eq_true]
    have hro : refusedRo ↔ AccErr.refusedRo ∈ (s.written req a r v).2 := by
      rw [State.mem_refusals_iff hreg]
      refine exists_congr fun f => and_congr_right fun hf => ?_
      rw [FieldDef.refusal_ro_iff, hfree]
    have hnone : ¬refusedRws → ¬refusedRo → (s.written req a r v).2 = [] := fun hnrws hnro =>
      List.eq_nil_iff_forall_not_mem.2 fun e he => by
        obtain ⟨f, -, hf⟩ := (State.mem_refusals_iff hreg e).1 he
        rcases FieldDef.refusal_cases hf with rfl | rfl
        · exact hnro (hro.2 he)
        · exact hnrws (hrws.2 he)
    obtain ⟨hflag, hsome, hsame⟩ := refusals_recorded (s := s) (req := req) (v := v) hwr hne
    have hstatus := fun h => apcStatus_after_write (s := s) (req := req) (v := v) hreg hwr h
    exact ⟨_, hwrite, fun f hf => field_after_write hreg hwr hne hf, fun h => hflag .refusedRws (hrws.1 h), fun h => hflag .refusedRo (hro.1 h),
      fun h => hsome (h.elim (fun h => List.ne_nil_of_mem (hrws.1 h)) fun h => List.ne_nil_of_mem (hro.1 h)),
      fun hnrws hnro => hsame (hnone hnrws hnro), hstatus, hparts.regsBut, hparts.keeps⟩

end Sys2Proof.Machine
end

section
/-!
PROOFS. Writes of single registers, and the register that records refusals (R10, R14, R32).
-/

namespace Sys2Proof.Machine

-- One proof after another: a side condition by `decide` waits for every proof before it, on a thread of its own.
set_option Elab.async false

/-! ### Writes of a plain register -/

section
variable {s : State} {req : Requester} {addr v : BitVec 32} {a : Nat}

/-- A register without a reaction of its own, whose write is no command and acknowledges nothing. -/
structure PlainReg (a : Nat) (r : RegDef) : Prop where
  aligned : a % 4 = 0
  noWindow : windowAt a = none
  noOwn : a ∉ ownAddrs
  noCommand : a ∉ commandAddrs
  noFault : elementAt (F.APC_CORE_FAULT_VALID 0).addr 0x20 8 a = none
  isReg : findReg a = some r

theorem PlainReg.busWrite {r : RegDef} (h : PlainReg a r) : s.busWrite req a v = s.fieldWrite req a r v := by
  rw [State.busWrite_fields h.noWindow (State.ownWrite_none h.noOwn) h.isReg h.noCommand, State.faultAck, h.noFault]

theorem PlainReg.regWrite {r : RegDef} (h : PlainReg a r) (hreq : req ≠ .cmp) :
    s.regWrite req a v 4 = s.fieldWrite req a r v := by
  rw [State.regWrite_word v h.aligned hreq, h.busWrite]

theorem PlainReg.writes {r : RegDef} (h : PlainReg a r) (ha : addr.toNat = a) (hs : s.served req addr.toNat) :
    exec (.registerWrite req addr v 4) s = .next (s.fieldWrite req a r v) := by
  rw [exec_registerWrite hs v 4, ha, h.regWrite hs.2.1]

theorem State.fieldWrite_readOnly {r : RegDef} (h : r.readOnly = true) : s.fieldWrite req a r v = s.accErr req [.refusedRo] :=
  if_pos h

/-- A register of one field of 32 bits. -/
def wordReg (r : RegDef) : Prop := ∃ x, r.fields = [⟨31, 0, .rw, x⟩]

theorem State.fieldWrite_word {r : RegDef} (h : wordReg r) :
    s.fieldWrite req a r v = if s.fieldRefuses req a v (r.fields.headD ⟨31, 0, .rw, 0⟩)
      then (s.setR a (s.getR a)).accErr req [.refusedRo] else s.setR a v := by
  obtain ⟨x, hx⟩ := h
  have hall : FieldDef.mask ⟨31, 0, .rw, x⟩ = BitVec.allOnes 32 := by
    simp only [FieldDef.mask, maskBits]
    decide
  have hno : r.readOnly = false := by simp [RegDef.readOnly, hx]
  rw [State.fieldWrite, if_neg (by simp [hno]), hx, List.headD_cons]
  simp only [writeFields, FieldDef.write, hall]
  cases s.fieldRefuses req a v ⟨31, 0, .rw, x⟩ with
  | true => rfl
  | false => simp only [BitVec.not_allOnes, BitVec.and_zero, BitVec.zero_or, BitVec.and_allOnes, Bool.false_eq_true, if_false,
      Option.toList_none, List.append_nil, State.accErr, List.isEmpty_nil, if_true]

end

theorem PlainReg.of_bool {a : Nat} {r : RegDef} (h : (a % 4 == 0 && (windowAt a).isNone && !ownAddrs.contains a &&
    !commandAddrs.contains a && (elementAt (F.APC_CORE_FAULT_VALID 0).addr 0x20 8 a).isNone && findReg a == some r) = true) :
    PlainReg a r := by
  simp only [Bool.and_eq_true, beq_iff_eq, Option.isNone_iff_eq_none, Bool.not_eq_true', List.contains_eq_mem,
    decide_eq_false_iff_not] at h
  obtain ⟨⟨⟨⟨⟨haligned, hwin⟩, hown⟩, hcmd⟩, hfault⟩, hreg⟩ := h
  exact ⟨haligned, hwin, hown, hcmd, hfault, hreg⟩

/-- The register at an address, with its fields. -/
def regAt (a : Nat) : RegDef := (findReg a).getD ⟨"", 0, 0, 0, 0, 0, []⟩

theorem patGen_plain : PlainReg F.PAT_GEN_GENERATION.addr (regAt F.PAT_GEN_GENERATION.addr) := .of_bool (by decide +kernel)
theorem stitchLo_plain : PlainReg F.SCH_STITCH_LO_COUNT.addr (regAt F.SCH_STITCH_LO_COUNT.addr) := .of_bool (by decide +kernel)
theorem evrNextLo_plain : PlainReg F.EVR_NEXT_LO_NEXT.addr (regAt F.EVR_NEXT_LO_NEXT.addr) := .of_bool (by decide +kernel)
theorem bobAmp_plain : PlainReg F.LPE_BOB_AMP_VALUE.addr (regAt F.LPE_BOB_AMP_VALUE.addr) := .of_bool (by decide +kernel)
theorem forceSym_plain : PlainReg F.GLB_FORCE_SYM_SYM_ID.addr (regAt F.GLB_FORCE_SYM_SYM_ID.addr) := .of_bool (by decide +kernel)
theorem updLen_plain : PlainReg F.UPD_LEN_LENGTH.addr (regAt F.UPD_LEN_LENGTH.addr) := .of_bool (by decide +kernel)
theorem wsigMm_plain : PlainReg F.APC_WSIG_MM_VALID.addr (regAt F.APC_WSIG_MM_VALID.addr) := .of_bool (by decide +kernel)
theorem canCtrl_plain : ∀ k < 8, PlainReg (F.CAN_CTRL_LOOP k).addr (regAt (F.CAN_CTRL_LOOP k).addr) := fun k hk =>
  .of_bool (by interval_cases k <;> decide +kernel)

/-! ### Values that a chapter refuses -/

/-- Registers whose values a chapter judges, but for the Bobbin's. -/
def judgedAddrs : List Nat :=
  [F.PTP_STEP_LIMIT_NS.addr, F.PTP_STEP_VALUE.addr, F.PNL_VCOM_CODE.addr, F.RST_SET_SIZE_BYTES.addr,
    F.PAT_OLC_AT_LO_N_C.addr, F.PAT_OLC_AT_HI_N_C.addr] ++ arrayAddrs (F.CAN_CTRL_LOOP 0) 0x1000 8 ++
    arrayAddrs (F.PTP_TRIG_LO_TIME 0) 16 4 ++ arrayAddrs (F.PTP_TRIG_HI_TIME 0) 16 4 ++
    arrayAddrs (F.PTP_TRIG_CTRL_ARMED 0) 16 4

section
variable {s : State} {req : Requester} {a : Nat} {v : BitVec 32} {f : FieldDef}

theorem State.fieldRefuses_unjudged (h : a ∉ judgedAddrs) :
    s.fieldRefuses req a v f = s.bobLocks a f ((f.fld a).pick v) := by
  simp only [judgedAddrs, List.mem_append, List.mem_cons, List.not_mem_nil, or_false, not_or] at h
  obtain ⟨⟨⟨⟨⟨hlimit, hstep, hvcom, hsize, holcLo, holcHi⟩, hcan⟩, hlo⟩, hhi⟩, hctrl⟩ := h
  have htrig : triggerAt a = none := by
    simp only [triggerAt, elementAt_none_of_notMem hlo, elementAt_none_of_notMem hhi, elementAt_none_of_notMem hctrl]
  simp only [State.fieldRefuses, hlimit, hstep, hvcom, hsize, holcLo, holcHi, elementAt_none_of_notMem hcan, htrig,
    decide_false, Bool.or_self, Bool.false_eq_true, if_false]
  cases s.bobLocks a f ((f.fld a).pick v) <;> rfl

theorem State.bobLocks_apart (hconfig : bobConfig a = false) (hctrl : a ≠ F.LPE_BOB_CTRL_OP.addr) (x : Nat) :
    s.bobLocks a f x = false := by
  have hne : (a == F.LPE_BOB_CTRL_OP.addr) = false := by simpa using hctrl
  simp only [State.bobLocks, hconfig, hne, Bool.false_and, Bool.or_self, Bool.and_false]

theorem State.fieldRefuses_apart (h : (!judgedAddrs.contains a && !bobConfig a && a != F.LPE_BOB_CTRL_OP.addr) = true) :
    s.fieldRefuses req a v f = false := by
  simp only [Bool.and_eq_true, Bool.not_eq_true', List.contains_eq_mem, decide_eq_false_iff_not, bne_iff_ne] at h
  obtain ⟨⟨hjudged, hconfig⟩, hctrl⟩ := h
  rw [State.fieldRefuses_unjudged hjudged, State.bobLocks_apart hconfig hctrl]

theorem State.fieldRefuses_bobbin (hjudged : a ∉ judgedAddrs) (hconfig : bobConfig a = true) :
    s.fieldRefuses req a v f = (s.bobState == 1 || s.bobState == 2) := by
  rw [State.fieldRefuses_unjudged hjudged, State.bobLocks, hconfig, Bool.true_or, Bool.and_true]

end

theorem State.alters_setR_same (s : State) (a : Nat) : s.alters (s.setR a (s.getR a)) [] [.regs] := by
  refine ⟨fun b _ => ?_, (s.alters_setR a _).keeps⟩
  by_cases hb : b = a
  · rw [hb, State.getR_setR_same]
  · rw [State.getR_setR_ne _ _ _ _ hb]

section
variable {s : State} {req : Requester} {addr v : BitVec 32} {a : Nat}

/-- A register of one field of 32 bits takes the value, or refuses it. -/
theorem PlainReg.takes_word {r : RegDef} (h : PlainReg a r) (ha : addr.toNat = a) (hs : s.served req addr.toNat)
    (hr : wordReg r) (hgood : s.fieldRefuses req a v (r.fields.headD ⟨31, 0, .rw, 0⟩) = false) :
    ∃ t, exec (.registerWrite req addr v 4) s = .next t ∧ t.getR addr.toNat = v ∧ s.regsBut t [addr.toNat] ∧ s.keeps t [.regs] := by
  refine ⟨_, h.writes ha hs, ?_⟩
  rw [State.fieldWrite_word hr, hgood, if_neg (by decide), ha]
  exact ⟨State.getR_setR_same _ _ _, (s.alters_setR a v).regsBut, (s.alters_setR a v).keeps⟩

theorem PlainReg.refuses_word {r : RegDef} (h : PlainReg a r) (ha : addr.toNat = a) (hs : s.served req addr.toNat)
    (hr : wordReg r) (hbad : s.fieldRefuses req a v (r.fields.headD ⟨31, 0, .rw, 0⟩) = true) :
    Claims.Refused (.registerWrite req addr v 4) s F.GLB_ACCERR_REFUSED_RO (Requester.source req) := by
  refine refused_of_accErr (e := .refusedRo) (s.alters_setR_same a) ((h.writes ha hs).trans ?_)
  rw [State.fieldWrite_word hr, hbad, if_pos rfl]

theorem PlainReg.refuses_readOnly {r : RegDef} (h : PlainReg a r) (ha : addr.toNat = a) (hs : s.served req addr.toNat)
    (hr : r.readOnly = true) :
    Claims.Refused (.registerWrite req addr v 4) s F.GLB_ACCERR_REFUSED_RO (Requester.source req) :=
  refused_of_accErr (e := .refusedRo) (s.alters_refl _ _) ((h.writes ha hs).trans (congrArg _ (State.fieldWrite_readOnly hr)))

end

theorem bobAmp_word : wordReg (regAt F.LPE_BOB_AMP_VALUE.addr) := ⟨0, by decide +kernel⟩
theorem forceSym_word : wordReg (regAt F.GLB_FORCE_SYM_SYM_ID.addr) := ⟨0, by decide +kernel⟩
theorem updLen_word : wordReg (regAt F.UPD_LEN_LENGTH.addr) := ⟨0, by decide +kernel⟩
theorem canCtrl_fields : ∀ k < 8, (regAt (F.CAN_CTRL_LOOP k).addr).fields = [⟨5, 4, .rws, 0⟩, ⟨1, 0, .rws, 0⟩] := by
  decide +kernel
theorem wsigMm_fields :
    (regAt F.APC_WSIG_MM_VALID.addr).fields = [⟨31, 31, .w1c, 0⟩, ⟨25, 24, .ro, 0⟩, ⟨11, 0, .ro, 0⟩] := by decide +kernel

theorem windowAt_beyond {a : Nat} (h : 0x00130000 ≤ a) : windowAt a = none := by
  unfold windowAt
  split_ifs
  all_goals first | omega | rfl

/-- A CAN_CTRL register is none whose value another chapter judges. -/
theorem canCtrl_apart : ∀ k < 8, (!bobConfig (F.CAN_CTRL_LOOP k).addr && (F.CAN_CTRL_LOOP k).addr != F.LPE_BOB_CTRL_OP.addr &&
    !([F.PTP_STEP_LIMIT_NS.addr, F.PTP_STEP_VALUE.addr, F.PNL_VCOM_CODE.addr, F.RST_SET_SIZE_BYTES.addr,
      F.PAT_OLC_AT_LO_N_C.addr, F.PAT_OLC_AT_HI_N_C.addr].contains (F.CAN_CTRL_LOOP k).addr) &&
    elementAt (F.CAN_CTRL_LOOP 0).addr 0x1000 8 (F.CAN_CTRL_LOOP k).addr == some k) = true := by decide +kernel

theorem State.fieldRefuses_canCtrl {s : State} {req : Requester} {v : BitVec 32} {f : FieldDef} {k : Nat} (hk : k < 8) :
    s.fieldRefuses req (F.CAN_CTRL_LOOP k).addr v f = (f.lo == 4 && (f.fld (F.CAN_CTRL_LOOP k).addr).pick v == 3) := by
  have h := canCtrl_apart k hk
  simp only [Bool.and_eq_true, Bool.not_eq_true', bne_iff_ne, beq_iff_eq, List.contains_eq_mem, decide_eq_false_iff_not,
    List.mem_cons, List.not_mem_nil, or_false, not_or] at h
  obtain ⟨⟨⟨hconfig, hctrl⟩, hlimit, hstep, hvcom, hsize, holcLo, holcHi⟩, hat⟩ := h
  simp only [State.fieldRefuses, State.bobLocks_apart hconfig hctrl, hlimit, hstep, hvcom, hsize, holcLo, holcHi, hat,
    decide_false, Bool.or_self, Bool.false_eq_true, if_false]

/-- Fields that hold in the running station keep the word, and are refused where a write would change them. -/
theorem writeFields_held {bad : FieldDef → Bool} {v : BitVec 32} {fs : List FieldDef} (h : ∀ f ∈ fs, f.acc = .rws) (w : BitVec 32) :
    (writeFields false bad v fs w).1 = w := by
  induction fs generalizing w with
  | nil => rfl
  | cons f fs ih =>
    have hhead : (f.write false (bad f) w v).1 = w := by
      simp only [FieldDef.write, h f List.mem_cons_self, Bool.not_false, if_true]
      split_ifs <;> rfl
    rw [writeFields, hhead, ih fun g hg => h g (List.mem_cons_of_mem _ hg)]

section
variable {s : State} {req : Requester} {addr v : BitVec 32} {a : Nat} {r : RegDef}

theorem PlainReg.write_written (h : PlainReg a r) (ha : addr.toNat = a) (hs : s.served req addr.toNat) (hwr : r.readOnly = false) :
    exec (.registerWrite req addr v 4) s =
      .next ((s.setR a (s.written req a r v).1).accErr req (s.written req a r v).2) := by
  rw [h.writes ha hs, State.fieldWrite_written hwr]

theorem PlainReg.ne_accErr (h : PlainReg a r) : a ≠ F.GLB_ACCERR_COUNT.addr := by
  rintro rfl
  exact h.noOwn (by decide)

/-- A write that no field refuses changes the register alone. -/
theorem PlainReg.takes_fields (h : PlainReg a r) (ha : addr.toNat = a) (hs : s.served req addr.toNat) (hwr : r.readOnly = false)
    (hgood : ∀ f ∈ r.fields, ∀ e, f.refusal s.rwsFree (s.fieldRefuses req a v f) (s.getF (f.fld a)) ((f.fld a).pick v) ≠ some e) :
    exec (.registerWrite req addr v 4) s = .next (s.setR a (s.written req a r v).1) := by
  have hnone : (s.written req a r v).2 = [] := List.eq_nil_iff_forall_not_mem.2 fun e he => by
    obtain ⟨f, hf, hfe⟩ := (State.mem_refusals_iff h.isReg e).1 he
    exact hgood f hf e hfe
  rw [h.write_written ha hs hwr, hnone]
  rfl

theorem PlainReg.bit_written (h : PlainReg a r) {f : FieldDef} (hf : f ∈ r.fields) {i : Nat} (hlo : f.lo ≤ i) (hhi : i ≤ f.hi) :
    (s.written req a r v).1.getLsbD i =
      f.newBit s.rwsFree (s.fieldRefuses req a v f) ((s.getR a).getLsbD i) (v.getLsbD i) := by
  obtain ⟨hin, hapart⟩ := tidy_of_findReg h.isReg
  exact writeFields_field (by have := hin f hf; omega) hin hapart hf ⟨hlo, hhi⟩

theorem PlainReg.field_written (h : PlainReg a r) {f : FieldDef} (hf : f ∈ r.fields) {w : BitVec 32}
    (hbit : ∀ i, f.lo ≤ i → i ≤ f.hi →
      f.newBit s.rwsFree (s.fieldRefuses req a v f) ((s.getR a).getLsbD i) (v.getLsbD i) = w.getLsbD i) :
    (s.setR a (s.written req a r v).1).getF (f.fld a) = (f.fld a).pick w := by
  rw [State.getF, State.getR_setR_same]
  exact FieldDef.pick_eq_of_bits a ((tidy_of_findReg h.isReg).1 f hf) fun i hlo hhi => (h.bit_written hf hlo hhi).trans (hbit i hlo hhi)

theorem refused_unmapped (hs : s.served req addr.toNat) (hal : addr.toNat % 4 = 0) (hreg : findReg addr.toNat = none)
    (hwin : windowAt addr.toNat = none) :
    Claims.Refused (.registerWrite req addr v 4) s F.GLB_ACCERR_RESERVED_ADDR (Requester.source req) := by
  have hown : addr.toNat ∉ ownAddrs := fun hmem => by simpa [hreg] using ownAddrs_mapped _ hmem
  refine refused_of_accErr (e := .reservedAddr) (s.alters_refl _ _) ((exec_registerWrite hs v 4).trans (congrArg _ ?_))
  rw [State.regWrite_word v hal hs.2.1, State.busWrite, hwin, State.ownWrite_none hown, hreg]

/-- The loopback field of a CAN FD controller in STOP and TACKING. -/
theorem canCtrl_takes {k : Nat} (hk : k < 8) (ha : addr.toNat = (F.CAN_CTRL_LOOP k).addr) (hs : s.served req addr.toNat)
    (hfree : s.rwsFree = true) (hgood : (F.CAN_CTRL_LOOP k).pick v ≠ 3) :
    ∃ t, exec (.registerWrite req addr v 4) s = .next t ∧ t.getF (F.CAN_CTRL_LOOP k) = (F.CAN_CTRL_LOOP k).pick v ∧
        s.regsBut t [(F.CAN_CTRL_LOOP k).addr] ∧ s.keeps t [.regs] := by
  have hplain := canCtrl_plain k hk
  have hfields := canCtrl_fields k hk
  have hok : ∀ f ∈ (regAt (F.CAN_CTRL_LOOP k).addr).fields,
      f.acc = .rws ∧ s.fieldRefuses req (F.CAN_CTRL_LOOP k).addr v f = false := by
    intro f hf
    rw [hfields] at hf
    simp only [List.mem_cons, List.not_mem_nil, or_false] at hf
    rw [State.fieldRefuses_canCtrl hk]
    rcases hf with rfl | rfl
    · exact ⟨rfl, beq_eq_false_iff_ne.2 hgood⟩
    · exact ⟨rfl, rfl⟩
  have hloop : (⟨5, 4, .rws, 0⟩ : FieldDef) ∈ (regAt (F.CAN_CTRL_LOOP k).addr).fields := by rw [hfields]; simp
  refine ⟨_, hplain.takes_fields ha hs (readOnly_eq_false hloop (by decide)) fun f hf e => ?_, ?_, ?_, ?_⟩
  · obtain ⟨hacc, hbad⟩ := hok f hf
    simp only [FieldDef.refusal, hacc, hbad, hfree]
    split_ifs <;> simp_all
  · refine hplain.field_written hloop fun i _ _ => ?_
    simp only [FieldDef.newBit, (hok _ hloop).2, hfree, Bool.not_false, Bool.and_self, if_true]
  · exact (s.alters_setR _ _).regsBut
  · exact (s.alters_setR _ _).keeps

theorem canCtrl_refuses {k : Nat} (hk : k < 8) (ha : addr.toNat = (F.CAN_CTRL_LOOP k).addr) (hs : s.served req addr.toNat)
    (hrun : s.station = .run) (hdiff : (F.CAN_CTRL_LOOP k).pick v ≠ s.getF (F.CAN_CTRL_LOOP k)) :
    Claims.Refused (.registerWrite req addr v 4) s F.GLB_ACCERR_REFUSED_RWS (Requester.source req) := by
  have hplain := canCtrl_plain k hk
  have hfields := canCtrl_fields k hk
  have hfree : s.rwsFree = false := by simp [State.rwsFree, hrun]
  have hloop : (⟨5, 4, .rws, 0⟩ : FieldDef) ∈ (regAt (F.CAN_CTRL_LOOP k).addr).fields := by rw [hfields]; simp
  have hkept : (s.written req (F.CAN_CTRL_LOOP k).addr (regAt (F.CAN_CTRL_LOOP k).addr) v).1 = s.getR (F.CAN_CTRL_LOOP k).addr := by
    rw [State.written, hfree]
    exact writeFields_held (by rw [hfields]; simp) _
  have hrefused : AccErr.refusedRws ∈ (s.written req (F.CAN_CTRL_LOOP k).addr (regAt (F.CAN_CTRL_LOOP k).addr) v).2 :=
    (State.mem_refusals_iff hplain.isReg _).2 ⟨_, hloop, FieldDef.refusal_rws_iff.2 ⟨rfl, hdiff, hfree⟩⟩
  refine refused_of_accErrs (e := .refusedRws) hrefused (s.alters_setR_same (F.CAN_CTRL_LOOP k).addr) ?_
  rw [hplain.write_written ha hs (readOnly_eq_false hloop (by decide)), hkept]

theorem wsigMm_clears (ha : addr.toNat = F.APC_WSIG_MM_VALID.addr) (hs : s.served req addr.toNat) (hv : v = 0x80000000#32) :
    ∃ t, exec (.registerWrite req addr v 4) s = .next t ∧ t.getF F.APC_WSIG_MM_VALID = 0 ∧
        t.getF F.APC_WSIG_MM_SEGMENT = s.getF F.APC_WSIG_MM_SEGMENT ∧ s.regsBut t [F.APC_WSIG_MM_VALID.addr] ∧ s.keeps t [.regs] := by
  subst hv
  have hplain := wsigMm_plain
  have hvalid : (⟨31, 31, .w1c, 0⟩ : FieldDef) ∈ (regAt F.APC_WSIG_MM_VALID.addr).fields := by rw [wsigMm_fields]; simp
  have hseg : (⟨11, 0, .ro, 0⟩ : FieldDef) ∈ (regAt F.APC_WSIG_MM_VALID.addr).fields := by rw [wsigMm_fields]; simp
  have hgood : ∀ f, s.fieldRefuses req F.APC_WSIG_MM_VALID.addr 0x80000000#32 f = false := fun f =>
    State.fieldRefuses_apart (by decide +kernel)
  refine ⟨_, hplain.takes_fields ha hs (readOnly_eq_false hvalid (by decide)) fun f hf e => ?_, ?_, ?_, ?_, ?_⟩
  · rw [hgood]
    rw [wsigMm_fields] at hf
    simp only [List.mem_cons, List.not_mem_nil, or_false] at hf
    have hsegment : (⟨F.APC_WSIG_MM_VALID.addr, 11, 0⟩ : Fld).pick 0x80000000#32 = 0 := by decide
    have hrun : (⟨F.APC_WSIG_MM_VALID.addr, 25, 24⟩ : Fld).pick 0x80000000#32 = 0 := by decide
    rcases hf with rfl | rfl | rfl
    · simp [FieldDef.refusal]
    · simp [FieldDef.refusal, hrun]
    · simp [FieldDef.refusal, hsegment]
  · refine (hplain.field_written hvalid (w := 0) fun i hlo hhi => ?_).trans (by decide)
    obtain rfl : i = 31 := by simp only at hlo hhi; omega
    simp only [FieldDef.newBit, hgood]
    simp
  · exact hplain.field_written hseg (w := s.getR F.APC_WSIG_MM_VALID.addr) fun i _ _ => by simp only [FieldDef.newBit]
  · exact (s.alters_setR _ _).regsBut
  · exact (s.alters_setR _ _).keeps

end

theorem registerWrites : Claims.RegisterWrites := by
  intro s req addr v n a src
  refine ⟨fun hno => ?_, fun hs => ⟨fun hwidth => ?_, fun hal hreg hwin => ?_, fun hbeyond hal => ?_, fun ha => ?_, fun ha hbob => ?_,
    fun ha => ?_, fun k hk ha hrun hdiff => ?_, fun k hk ha hfree hgood => ?_, fun ha hv => ?_⟩⟩
  · have hstay : s.accessBy req s = s := by unfold State.accessBy; split_ifs <;> rfl
    simp only [exec, execRegisterWrite, show s.mayWrite req addr.toNat (isEnrol addr.toNat v) = false from hno, Bool.false_eq_true,
      if_false, hstay]
  · exact refused_of_accErr (e := .badWidth) (s.alters_refl _ _)
      ((exec_registerWrite hs v n).trans (congrArg _ (State.regWrite_narrow v hwidth)))
  · exact refused_unmapped hs hal hreg hwin
  · exact refused_unmapped hs hal (findReg_beyond hbeyond) (windowAt_beyond hbeyond)
  · rcases ha with ha | ha | ha
    · exact patGen_plain.refuses_readOnly ha hs (by decide +kernel)
    · exact stitchLo_plain.refuses_readOnly ha hs (by decide +kernel)
    · exact evrNextLo_plain.refuses_readOnly ha hs (by decide +kernel)
  · refine bobAmp_plain.refuses_word ha hs bobAmp_word ?_
    rw [State.fieldRefuses_bobbin (by decide +kernel) (by decide +kernel)]
    simpa using hbob
  · rcases ha with ha | ha | ⟨ha, h1, h2⟩
    · exact forceSym_plain.takes_word ha hs forceSym_word (State.fieldRefuses_apart (by decide +kernel))
    · exact updLen_plain.takes_word ha hs updLen_word (State.fieldRefuses_apart (by decide +kernel))
    · refine bobAmp_plain.takes_word ha hs bobAmp_word ?_
      rw [State.fieldRefuses_bobbin (by decide +kernel) (by decide +kernel)]
      simp [h1, h2]
  · exact canCtrl_refuses hk ha hs hrun hdiff
  · rw [show a = (F.CAN_CTRL_LOOP k).addr from ha]
    exact canCtrl_takes hk ha hs (rwsFree_iff.2 hfree) hgood
  · rw [show a = F.APC_WSIG_MM_VALID.addr from ha]
    exact wsigMm_clears ha hs hv

/-! ### GLB_ACCERR (R14) -/

theorem lowMask_getLsbD (i : Nat) : (0xF#32).getLsbD i = decide (i < 4) := by
  by_cases hi : i < 32
  · interval_cases i <;> rfl
  · rw [BitVec.getLsbD_of_ge _ _ (by omega)]
    simp only [Bool.false_eq, decide_eq_false_iff_not]
    omega

theorem flags_put (f : Fld) (w : BitVec 32) (v : Nat) (hf : f.inWord) (hlo : 4 ≤ f.lo) :
    f.put w v &&& 0xF#32 = w &&& 0xF#32 := by
  refine BitVec.eq_of_getLsbD_eq fun i hi => ?_
  rw [BitVec.getLsbD_and, BitVec.getLsbD_and, lowMask_getLsbD, Fld.put_getLsbD f w v i hf hi]
  by_cases h4 : i < 4
  · rw [if_neg (by omega)]
  · simp [h4]

/-- The flags that a write to GLB_ACCERR clears, and COUNT with them. -/
def State.flagsCleared (s : State) (v : BitVec 32) : State :=
  let t := s.setR F.GLB_ACCERR_COUNT.addr (s.getR F.GLB_ACCERR_COUNT.addr &&& ~~~(v &&& 0xF#32))
  if s.getR F.GLB_ACCERR_COUNT.addr &&& v &&& 0xF#32 = 0 then t else t.setF F.GLB_ACCERR_COUNT 0

section
variable (s : State) (v : BitVec 32)

theorem State.accerrWrite_eq (req : Requester) : s.accerrWrite req v =
    if v &&& 0xF000FF00#32 = 0 then s.flagsCleared v else (s.flagsCleared v).accErr req [.refusedRo] := rfl

theorem State.alters_flagsCleared : s.alters (s.flagsCleared v) [F.GLB_ACCERR_COUNT.addr] [.regs] := by
  unfold State.flagsCleared
  exact .ite _ (s.alters_setR _ _) ((s.alters_setR _ _).step (State.alters_setF _ F.GLB_ACCERR_COUNT 0))

/-- A field above the flags keeps its value where flags are cleared. -/
theorem State.getF_clearFlags {f : FieldDef} (hf : 4 ≤ f.lo ∧ f.lo ≤ f.hi ∧ f.hi < 32) :
    (s.setR F.GLB_ACCERR_COUNT.addr (s.getR F.GLB_ACCERR_COUNT.addr &&& ~~~(v &&& 0xF#32))).getF
      (f.fld F.GLB_ACCERR_COUNT.addr) = s.getF (f.fld F.GLB_ACCERR_COUNT.addr) := by
  rw [State.getF, State.getR_setR_same]
  refine FieldDef.pick_eq_of_bits _ hf.2 fun i hlo hhi => ?_
  have hi : i < 32 := by omega
  rw [BitVec.getLsbD_and, BitVec.getLsbD_not, BitVec.getLsbD_and, lowMask_getLsbD]
  simp [hi, show ¬i < 4 by omega]

theorem State.flagsCleared_flags : (s.flagsCleared v).getR F.GLB_ACCERR_COUNT.addr &&& 0xF#32 =
    s.getR F.GLB_ACCERR_COUNT.addr &&& ~~~v &&& 0xF#32 := by
  have hcleared (old : BitVec 32) : old &&& ~~~(v &&& 0xF#32) &&& 0xF#32 = old &&& ~~~v &&& 0xF#32 := by
    refine BitVec.eq_of_getLsbD_eq fun i hi => ?_
    simp only [BitVec.getLsbD_and, BitVec.getLsbD_not, lowMask_getLsbD]
    by_cases h4 : i < 4 <;> simp [h4]
  unfold State.flagsCleared
  dsimp only
  split_ifs
  · rw [State.getR_setR_same, hcleared]
  · rw [State.getR_setF_same _ F.GLB_ACCERR_COUNT, flags_put _ _ _ (Fld.fits_iff.1 (by decide)) (by decide),
      State.getR_setR_same, hcleared]

theorem State.flagsCleared_source : (s.flagsCleared v).getF F.GLB_ACCERR_SOURCE = s.getF F.GLB_ACCERR_SOURCE := by
  have hkept := s.getF_clearFlags v (f := ⟨31, 28, .ro, 0⟩) (by decide)
  unfold State.flagsCleared
  dsimp only
  split_ifs
  · exact hkept
  · exact (State.getF_setF_other _ _ (by decide)).trans hkept

theorem State.flagsCleared_count : (s.flagsCleared v).getF F.GLB_ACCERR_COUNT =
    if s.getR F.GLB_ACCERR_COUNT.addr &&& v &&& 0xF#32 = 0 then s.getF F.GLB_ACCERR_COUNT else 0 := by
  have hkept := s.getF_clearFlags v (f := ⟨15, 8, .ro, 0⟩) (by decide)
  unfold State.flagsCleared
  dsimp only
  split_ifs
  · exact hkept
  · exact State.getF_setF_holds _ (by decide) (by decide)

end

theorem exec_glbAccerrWrite {s : State} {req : Requester} (v : BitVec 32) (h : s.served req F.GLB_ACCERR_COUNT.addr) :
    exec (.glbAccerrWrite req v) s = .next (s.accerrWrite req v) := by
  obtain ⟨hreach, hreq, hmay⟩ := h
  have hserves : s.serves req = true := by simp [State.serves, hreach]
  have hwrite : s.regWrite req F.GLB_ACCERR_COUNT.addr v 4 = s.accerrWrite req v := by
    rw [State.regWrite_word v (by decide) hreq]
    rfl
  simp only [exec, execGlbAccerrWrite, State.writing, State.accessBy, hserves, State.mayWrite_enrol hmay, hwrite, if_true]

theorem accessErrorRegister : Claims.AccessErrorRegister := by
  intro s req v hs a old clears refused
  have hcleared := s.alters_flagsCleared v
  have hsame : ¬refused → s.accerrWrite req v = s.flagsCleared v := fun h => by
    rw [State.accerrWrite_eq, if_pos (not_not.1 h)]
  have hmore : refused → s.accerrWrite req v = (s.flagsCleared v).accErr req [.refusedRo] := fun h => by
    rw [State.accerrWrite_eq, if_neg h]
  have halters : s.alters (s.accerrWrite req v) [a] [.regs] := by
    rw [State.accerrWrite_eq]
    exact .ite _ hcleared (hcleared.step (State.alters_accErr _ _ _))
  refine ⟨_, exec_glbAccerrWrite v hs, halters.regsBut, halters.keeps, fun h => ?_, fun h hc => ?_, fun h hc => ?_,
    fun h => ?_, fun h hc => ?_, fun h hc => ?_⟩
  · rw [hsame h]
    exact ⟨s.flagsCleared_flags v, s.flagsCleared_source v⟩
  · rw [hsame h, s.flagsCleared_count v, if_neg hc]
  · rw [hsame h, s.flagsCleared_count v, if_pos (not_not.1 hc)]
  · rw [hmore h]
    exact ⟨State.accErr_flag _ req (e := .refusedRo) (by simp), State.accErr_source _ req (by simp)⟩
  · rw [hmore h, State.accErr_count _ req (by simp), s.flagsCleared_count v, if_neg hc]
    rfl
  · rw [hmore h, State.accErr_count _ req (by simp), s.flagsCleared_count v, if_pos (not_not.1 hc)]

/-- Settles O15: every write of a register ends in one of the reactions of `busWrite`. -/
theorem registerWritesAndRefusals : Obligations.RegisterWritesAndRefusals :=
  ⟨registerWrites, registerFields, accessErrorRegister⟩

end Sys2Proof.Machine
end

section
/-!
PROOFS. Registers reached through a grant (R97, R100): what the check of a grant decides, and that the access is one of
application code.
-/

namespace Sys2Proof.Machine

-- One proof after another: a side condition by `decide` waits for every proof before it, on a thread of its own.
set_option Elab.async false

theorem Bytes.le_lt (bs : Bytes) : Bytes.le bs < 256 ^ bs.length := by
  induction bs with
  | nil => decide
  | cons b bs ih =>
    have hb := b.isLt
    rw [List.length_cons, Nat.pow_succ']
    simp only [Bytes.le]
    omega

theorem Pattern.grantAddr_lt (p : Pattern) (k : Nat) : p.grantAddr k < 2 ^ 32 := by
  refine (Bytes.le_lt _).trans_le (Nat.pow_le_pow_right (by decide) (List.length_take_le 4 _) |>.trans (by decide))

theorem toNat_grantAddr (p : Pattern) (k : Nat) : (BitVec.ofNat 32 (p.grantAddr k)).toNat = p.grantAddr k :=
  Nat.mod_eq_of_lt (p.grantAddr_lt k)

section
variable {s u : State} {c k bit : Nat} {p : Pattern}

theorem State.granted_some (hp : u.pat.active = some p)
    (h : k < p.items Pattern.GRANTS ∧ bitOf (p.grantAccess k) bit = true ∧ bitOf (p.grantCores k) c = true) :
    u.granted c k bit = some (p.grantAddr k) := by rw [State.granted, hp]; exact if_pos h

theorem State.granted_none (hp : u.pat.active = some p)
    (h : ¬(k < p.items Pattern.GRANTS ∧ bitOf (p.grantAccess k) bit = true ∧ bitOf (p.grantCores k) c = true)) :
    u.granted c k bit = none := by rw [State.granted, hp]; exact if_neg h

end

/-- A read of a word that no window shows and no other read has latched. -/
theorem State.keeps_busRead {s : State} {a : Nat} (hwin : windowAt a = none) (hlatch : isLatched a = false)
    (hcap : captureHi a = none) : (s.busRead a).1 = s.liveWord a ∧ s.keeps (s.busRead a).2 [.bus] := by
  unfold State.busRead
  rw [hlatch, hcap, hwin]
  exact ⟨rfl, (s.alters_bus _).keeps⟩

theorem exec_registerRead {s : State} {req : Requester} {addr : BitVec 32} (h : s.readable req addr.toNat) (n : Nat) :
    exec (.registerRead req addr n) s = .next (State.respond (s.regRead req addr.toNat n)) := by
  obtain ⟨hreach, -, hmay⟩ := h
  have hserves : s.serves req = true := by simp [State.serves, hreach]
  simp only [exec, execRegisterRead, State.reading, State.accessBy, hserves, hmay, if_true]

/-- The state of an answered read, but for the answer. -/
theorem keeps_of_respond (r : BitVec 32 × State) : (State.respond r).keeps r.2 [.bus] :=
  ((State.respond r).alters_bus r.2.bus).keeps

theorem State.regRead_word {s : State} {req : Requester} {a : Nat} (ha : a % 4 = 0) (hreq : req ≠ .cmp) :
    s.regRead req a 4 = s.busRead a := (if_neg (by simp [ha])).trans (if_neg hreq)

section
variable {s : State} {c : Nat} {arg : BitVec 15} (hf : s.fetches c) (ha : s.affords c 26)
include hf ha

theorem regRd_denied (hg : (s.fetched c).granted c arg.toNat 0 = none) :
    ∃ t, exec (.regRd c arg) s = .next t ∧ Claims.Answers c s t 2 none none 26 ∧ (s.fetched c).keeps t [.cores, .free] :=
  answers_of_fetched hf ha rfl (by simp only [hg]; rfl)

theorem regWr_denied (hrun : (s.core c).run = .none) (hg : (s.fetched c).granted c arg.toNat 1 = none) :
    ∃ t, exec (.regWr c arg) s = .next t ∧ Claims.Answers c s t 2 none none 26 ∧ (s.fetched c).keeps t [.cores, .free] :=
  answers_of_fetched hf ha rfl (by simp only [hg, Core.isSelvedge, hrun]; rfl)

/-- A granted read answers with what the access gives, on the state it leaves. -/
theorem regRd_granted {a : Nat} (hg : (s.fetched c).granted c arg.toNat 0 = some a) :
    let r := (s.fetched c).regRead (.application c) a 4
    ∃ t, exec (.regRd c arg) s = .next t ∧ Claims.Returns (s.core c) (t.core c) 0 (some (r.1.setWidth 64)) none 26 ∧
      (∀ j, j ≠ c → t.core j = r.2.core j) ∧ r.2.regsBut t [] ∧ r.2.keeps t [.cores, .free] :=
  returns_of_sysReturn hf ha rfl (by simp only [hg]; rfl)

theorem regWr_granted (hrun : (s.core c).run = .none) {a : Nat} (hg : (s.fetched c).granted c arg.toNat 1 = some a) :
    let w := (s.fetched c).regWrite (.application c) a (((s.core c).rd 1).setWidth 32) 4
    ∃ t, exec (.regWr c arg) s = .next t ∧ Claims.Returns (s.core c) (t.core c) 0 none none 26 ∧
      (∀ j, j ≠ c → t.core j = w.core j) ∧ w.regsBut t [] ∧ w.keeps t [.cores, .free] :=
  returns_of_sysReturn hf ha rfl (by simp only [hg, Core.isSelvedge, hrun]; rfl)

end

/-- A force symbol takes any value. -/
theorem forceSym_write (s : State) {req : Requester} (hreq : req ≠ .cmp) (v : BitVec 32) :
    s.regWrite req F.GLB_FORCE_SYM_SYM_ID.addr v 4 = s.setR F.GLB_FORCE_SYM_SYM_ID.addr v := by
  rw [forceSym_plain.regWrite hreq, State.fieldWrite_word forceSym_word, State.fieldRefuses_apart (by decide +kernel)]
  rfl

/-- Settles O14: the check of a grant decides between an answer at once and an access of application code. -/
theorem grantedAccesses : Obligations.GrantedAccesses := by
  intro c s arg p hf hp u x k may
  have hcore : ∀ {w : State} {l : List Part}, u.keeps w l → (h : Part.cores ∉ l := by decide) → ∀ j, w.core j = s.core j :=
    fun hw h j => (hw .cores h j).trans (s.core_fetched c j)
  refine ⟨fun hno ha => regRd_denied hf ha (State.granted_none hp hno),
    fun hno hrun ha => regWr_denied hf ha hrun (State.granted_none hp hno), fun hmay hal hwin hlatch hcap ha => ?_,
    fun hmay hread ha => ?_, fun hmay hrun hserved ha => ?_, fun hmay hrun haddr ha => ?_⟩
  · obtain ⟨t, hexec, hreturns, hothers, -, hkeeps⟩ := regRd_granted hf ha (State.granted_some hp hmay)
    obtain ⟨hword, hbus⟩ := State.keeps_busRead (s := u) hwin hlatch hcap
    rw [State.regRead_word hal (by simp)] at hreturns hothers hkeeps
    rw [hword] at hreturns
    exact ⟨t, hexec, ⟨hreturns, fun j hj => (hothers j hj).trans (hcore hbus (by decide) j)⟩,
      (hbus.trans hkeeps).mono (by decide)⟩
  · obtain ⟨t, hexec, hreturns, hothers, -, hkeeps⟩ := regRd_granted hf ha (State.granted_some hp hmay)
    rw [← toNat_grantAddr p k] at hread
    have hread' := exec_registerRead hread 4
    rw [toNat_grantAddr] at hread'
    exact ⟨t, _, hexec, hread', hreturns, hothers, ((keeps_of_respond _).trans hkeeps).mono (by decide)⟩
  · obtain ⟨t, hexec, hreturns, hothers, -, hkeeps⟩ := regWr_granted hf ha hrun (State.granted_some hp hmay)
    rw [← toNat_grantAddr p k] at hserved
    have hwrite := exec_registerWrite hserved ((x.rd 1).setWidth 32) 4
    rw [toNat_grantAddr] at hwrite
    exact ⟨t, _, hexec, hwrite, hreturns, hothers, hkeeps⟩
  · obtain ⟨t, hexec, hreturns, hothers, hregs, hkeeps⟩ := regWr_granted hf ha hrun (State.granted_some hp hmay)
    rw [haddr, forceSym_write _ (by simp)] at hothers hregs hkeeps
    have hset := u.alters_setR F.GLB_FORCE_SYM_SYM_ID.addr ((x.rd 1).setWidth 32)
    rw [haddr]
    exact ⟨t, hexec, ⟨hreturns, fun j hj => (hothers j hj).trans (hcore hset.keeps (by decide) j)⟩,
      (hregs _ (by simp)).trans (State.getR_setR_same _ _ _), (hset.regsBut.trans hregs).mono (by simp),
      (hset.keeps.trans hkeeps).mono (by decide)⟩

end Sys2Proof.Machine
end

section
/-!
PROOFS. Register reads (R8, R10, R34, R321): live and latched words, reserved offsets, and the captures' FIFO.
-/

namespace Sys2Proof.Machine

-- One proof after another: a side condition by `decide` waits for every proof before it, on a thread of its own.
set_option Elab.async false

/-! ### Addresses whose word is not the register's own -/

/-- Registers whose word is live. -/
def liveAddrs : List Nat :=
  [F.SCH_STITCH_LO_COUNT.addr, F.SCH_STITCH_HI_COUNT.addr, F.SCH_EDGE_LO_EDGE.addr, F.SCH_EDGE_HI_EDGE.addr,
    F.PTP_TIME_LO_VALUE.addr, F.PTP_TIME_HI_VALUE.addr, F.PTP_TIME_FRAC_VALUE.addr, F.PTP_INCR_LO_FRAC.addr,
    F.PTP_INCR_HI_NS.addr, F.EVR_CODE_STAT_BUCKET.addr]

/-- Registers whose word a read of another latches. -/
def latchedAddrs : List Nat :=
  [F.SCH_STITCH_HI_COUNT.addr, F.SCH_EDGE_HI_EDGE.addr, F.PTP_TIME_HI_VALUE.addr, F.PTP_TIME_FRAC_VALUE.addr,
    F.PAIR_EPOCH_HI_EPOCH.addr, F.EVR_NEXT_HI_NEXT.addr, F.PNL_JOURNAL_HI_WORD.addr, F.PWR_SLEEP_LEDGER_HI_NS.addr]

def captureAddrs : List Nat :=
  (List.range 16).map (fun c => (F.PTP_CAP_LO_TIME c).addr) ++ (List.range 16).map (fun c => (F.PTP_CAP_HI_TIME c).addr)

theorem readAddrs_mapped : ∀ a ∈ liveAddrs ++ latchedAddrs ++ captureAddrs, (findReg a).isSome = true := by decide +kernel

theorem captures_none {a : Nat} (h : a ∉ captureAddrs) : captureLo a = none ∧ captureHi a = none := by
  simp only [captureAddrs, List.mem_append, List.mem_map, not_or, not_exists, not_and] at h
  obtain ⟨hlo, hhi⟩ := h
  refine ⟨List.find?_eq_none.2 fun c hc hbeq => hlo c hc ?_, List.find?_eq_none.2 fun c hc hbeq => hhi c hc ?_⟩
  · exact (beq_iff_eq.1 hbeq).symm
  · exact (beq_iff_eq.1 hbeq).symm

/-- A reserved offset reads 0. -/
theorem State.liveWord_unmapped {s : State} {a : Nat} (hreg : findReg a = none) (hwin : windowAt a = none) :
    isLatched a = false ∧ captureHi a = none ∧ s.liveWord a = 0 := by
  have hnot : a ∉ liveAddrs ++ latchedAddrs ++ captureAddrs := fun hmem => by simpa [hreg] using readAddrs_mapped a hmem
  simp only [List.mem_append, not_or] at hnot
  obtain ⟨⟨hlive, hlatched⟩, hcapture⟩ := hnot
  obtain ⟨hlo, hhi⟩ := captures_none hcapture
  refine ⟨by simpa only [isLatched, latchedAddrs, List.contains_eq_mem, decide_eq_false_iff_not] using hlatched, hhi, ?_⟩
  simp only [liveAddrs, List.mem_cons, List.not_mem_nil, or_false, not_or] at hlive
  simp only [State.liveWord, hlive, hlo, hhi, hwin, hreg, if_false]

/-! ### Reads that are served -/

section
variable {s : State} {req : Requester} {addr : BitVec 32}

theorem registerRead_word (h : s.readable req addr.toNat) (hal : addr.toNat % 4 = 0) :
    exec (.registerRead req addr 4) s = .next (State.respond (s.busRead addr.toNat)) := by
  rw [exec_registerRead h, State.regRead_word hal h.2.1]

theorem reads_live (h : s.readable req addr.toNat) (hal : addr.toNat % 4 = 0) (hwin : windowAt addr.toNat = none)
    (hlatch : isLatched addr.toNat = false) (hcap : captureHi addr.toNat = none) :
    ∃ t, exec (.registerRead req addr 4) s = .next t ∧ t.bus.response = s.liveWord addr.toNat ∧ s.keeps t [.bus] := by
  obtain ⟨hword, hbus⟩ := State.keeps_busRead (s := s) hwin hlatch hcap
  exact ⟨_, registerRead_word h hal, hword, (hbus.trans (State.alters_bus _ _).keeps).mono (by decide)⟩

theorem reads_badWidth {n : Nat} (h : s.readable req addr.toNat) (hwidth : n ≠ 4 ∨ addr.toNat % 4 ≠ 0) :
    ∃ t, exec (.registerRead req addr n) s = .next t ∧ t.bus.response = 0 ∧ t.getF F.GLB_ACCERR_BAD_WIDTH = 1 ∧
      s.regsBut t [F.GLB_ACCERR_COUNT.addr] ∧ s.keeps t [.regs, .bus] := by
  have hbus := State.alters_bus (s.accErr req [.badWidth]) { (s.accErr req [.badWidth]).bus with response := 0 }
  have herr := s.alters_accErr req [.badWidth]
  refine ⟨_, (exec_registerRead h n).trans (congrArg (fun r => Host.Outcome.next (State.respond r)) (if_pos hwidth)), rfl,
    (hbus.getF (by simp)).trans (State.accErr_flag _ _ (e := .badWidth) (by simp)), ?_,
    (herr.keeps.trans hbus.keeps).mono (by decide)⟩
  exact (herr.regsBut.trans hbus.regsBut).mono (by simp)

/-- The state with a word latched. -/
def State.latched (s : State) (a : Nat) (w : BitVec 32) : State :=
  { s with bus := { s.bus with latch := Store.set (fun _ => 0) s.bus.latch a w } }

/-- A read of the stitch counter latches its high word. -/
theorem busRead_stitchLo (s : State) : s.busRead F.SCH_STITCH_LO_COUNT.addr =
    (s.clock.stitch.setWidth 32, s.latched F.SCH_STITCH_HI_COUNT.addr ((s.clock.stitch >>> 32).setWidth 32)) := by
  have hlatch : isLatched F.SCH_STITCH_LO_COUNT.addr = false := by decide
  have hcap : captureHi F.SCH_STITCH_LO_COUNT.addr = none := by decide
  have hwin : windowAt F.SCH_STITCH_LO_COUNT.addr = none := by decide
  have hlo : s.liveWord F.SCH_STITCH_LO_COUNT.addr = s.clock.stitch.setWidth 32 := if_pos rfl
  have hhi : s.liveWord F.SCH_STITCH_HI_COUNT.addr = (s.clock.stitch >>> 32).setWidth 32 :=
    (if_neg (by decide)).trans (if_pos rfl)
  rw [State.busRead, hlatch, hcap, hwin, hlo, show latchedBy F.SCH_STITCH_LO_COUNT.addr = [F.SCH_STITCH_HI_COUNT.addr] from rfl,
    List.foldl_cons, List.foldl_nil, hhi]
  rfl

/-- A read of the stitch counter's high word gives the one latched. -/
theorem busRead_stitchHi (s : State) : s.busRead F.SCH_STITCH_HI_COUNT.addr =
    (Store.get (fun _ => 0) s.bus.latch F.SCH_STITCH_HI_COUNT.addr, s) := if_pos (by decide)

theorem reads_stitch (ha : addr.toNat = F.SCH_STITCH_LO_COUNT.addr) (h : s.readable req addr.toNat)
    (hhi : s.readable req F.SCH_STITCH_HI_COUNT.addr) :
    ∃ t, exec (.registerRead req addr 4) s = .next t ∧ t.bus.response = s.clock.stitch.setWidth 32 ∧
      ∃ u, exec (.registerRead req (BitVec.ofNat 32 F.SCH_STITCH_HI_COUNT.addr) 4) t = .next u ∧
        u.bus.response = (s.clock.stitch >>> 32).setWidth 32 ∧ t.keeps u [.bus] := by
  have hexec := registerRead_word h (by rw [ha]; decide)
  rw [ha, busRead_stitchLo] at hexec
  refine ⟨_, hexec, rfl, ?_⟩
  have hnext := registerRead_word (addr := BitVec.ofNat 32 F.SCH_STITCH_HI_COUNT.addr) (req := req)
    (s := State.respond (s.clock.stitch.setWidth 32,
      s.latched F.SCH_STITCH_HI_COUNT.addr ((s.clock.stitch >>> 32).setWidth 32))) hhi (by decide)
  rw [show (BitVec.ofNat 32 F.SCH_STITCH_HI_COUNT.addr).toNat = F.SCH_STITCH_HI_COUNT.addr from rfl, busRead_stitchHi] at hnext
  exact ⟨_, hnext, Store.get_set_same (fun _ => 0) s.bus.latch F.SCH_STITCH_HI_COUNT.addr _, (State.alters_bus _ _).keeps⟩

end

/-! ### The captures' FIFO (R321) -/

theorem captureHi_facts : ∀ c < 16, isLatched (F.PTP_CAP_HI_TIME c).addr = false ∧ captureLo (F.PTP_CAP_HI_TIME c).addr = none ∧
    captureHi (F.PTP_CAP_HI_TIME c).addr = some c ∧ windowAt (F.PTP_CAP_HI_TIME c).addr = none ∧
    latchedBy (F.PTP_CAP_HI_TIME c).addr = [] ∧ (F.PTP_CAP_HI_TIME c).addr ∉ liveAddrs ∧ (F.PTP_CAP_HI_TIME c).addr % 4 = 0 := by
  decide +kernel

section
variable {s : State} {c : Nat}

theorem State.liveWord_captureHi (hc : c < 16) :
    s.liveWord (F.PTP_CAP_HI_TIME c).addr = ((s.capturesOf c).headD 0 >>> 32).setWidth 32 := by
  obtain ⟨-, hlo, hhi, -, -, hlive, -⟩ := captureHi_facts c hc
  simp only [liveAddrs, List.mem_cons, List.not_mem_nil, or_false, not_or] at hlive
  simp only [State.liveWord, hlive, hlo, hhi, if_false]

theorem State.busRead_captureHi (hc : c < 16) {e : BitVec 64} {rest : List (BitVec 64)} (h : s.capturesOf c = e :: rest) :
    s.busRead (F.PTP_CAP_HI_TIME c).addr = ((e >>> 32).setWidth 32, s.setCaptures c rest) := by
  obtain ⟨hlatch, -, hhi, hwin, hby, -, -⟩ := captureHi_facts c hc
  rw [State.busRead, hlatch, hhi, hwin, hby, State.liveWord_captureHi hc, h]
  simp only [List.foldl_nil, Bool.false_eq_true, if_false, State.captureTake, h, List.headD_cons]

theorem State.alters_setCaptures (s : State) (c : Nat) (l : List (BitVec 64)) :
    s.alters (s.setCaptures c l) [(F.PTP_CAP_STATUS_FILL c).addr] [.regs, .ptp] :=
  ((s.alters_ptp _).mono (by simp) (by decide)).step (State.alters_setF _ (F.PTP_CAP_STATUS_FILL c) _)

theorem State.capturesOf_setCaptures_same (l : List (BitVec 64)) : (s.setCaptures c l).capturesOf c = l := by
  unfold State.capturesOf State.setCaptures State.setF
  exact Store.get_set_same _ _ _ _

theorem State.capturesOf_setCaptures_ne {j : Nat} (l : List (BitVec 64)) (h : j ≠ c) :
    (s.setCaptures c l).capturesOf j = s.capturesOf j := by
  unfold State.capturesOf State.setCaptures State.setF
  exact Store.get_set_ne _ _ _ _ _ h

end

/-- Settles O16: what a read answers, by its width, its address and what the address latches. -/
theorem registerReads : Obligations.RegisterReads := by
  intro s req addr n c
  refine ⟨fun hno => ?_, fun h => ⟨fun hwidth => reads_badWidth h hwidth,
    fun hal hwin hlatch hcap => reads_live h hal hwin hlatch hcap, fun hal hwin hreg => ?_, fun ha hhi => reads_stitch ha h hhi⟩,
    fun e rest hc h hfifo => ?_⟩
  · have hstay : s.accessBy req s = s := by unfold State.accessBy; split_ifs <;> rfl
    simp only [exec, execRegisterRead, State.reading, hno, Bool.false_eq_true, if_false, hstay]
  · obtain ⟨hlatch, hcap, hzero⟩ := State.liveWord_unmapped (s := s) hreg hwin
    have hread := reads_live h hal hwin hlatch hcap
    rwa [hzero] at hread
  · have hal := (captureHi_facts c hc).2.2.2.2.2.2
    have hset := s.alters_setCaptures c rest
    have hexec : exec (.captureRead req c) s = .next (State.respond ((e >>> 32).setWidth 32, s.setCaptures c rest)) := by
      obtain ⟨hreach, hreq, hmay⟩ := h
      have hserves : s.serves req = true := by simp [State.serves, hreach]
      rw [← State.busRead_captureHi hc hfifo, ← State.regRead_word hal hreq]
      simp only [exec, execCaptureRead, onUnit, hc, decide_true, State.reading, State.accessBy, hserves, hmay, if_true]
    exact ⟨_, hexec, rfl, State.capturesOf_setCaptures_same rest, fun j hj => State.capturesOf_setCaptures_ne rest hj,
      (hset.regsBut.trans (State.alters_bus _ _).regsBut).mono (by simp), (hset.keeps.trans (State.alters_bus _ _).keeps).mono (by decide)⟩

end Sys2Proof.Machine
end

section
/-!
PROOFS. The carrier management port and its mailbox (R13, R33, R462 to R465).
-/

namespace Sys2Proof.Machine

-- One proof after another: a side condition by `decide` waits for every proof before it, on a thread of its own.
set_option Elab.async false

/-! ### The mailbox (R465) -/

section
variable {s : State} {req : Requester}

theorem writing_served {f : Fld} (h : s.reachable = true) (hmay : s.mayWrite req f.addr = true) (t : State) :
    s.writing req f t = t := by
  have hserves : s.serves req = true := by simp [State.serves, h]
  simp only [State.writing, State.accessBy, hserves, hmay, if_true]

/-- The state after a mailbox command: FULL takes the value, and with 1 LEN the length. -/
def mailed (s t : State) (full : Fld) (v : Nat) (lenF : Fld) (len : Nat) : Prop :=
  t.getF full = v ∧ (v = 1 → t.getF lenF = len) ∧ s.regsBut t [F.GLB_CMP_STATUS_IN_FULL.addr] ∧ s.keeps t [.regs]

theorem mailed_post {full lenF : Fld} {len : Nat} (hfull : full.fits = true) (hlen : lenF.fits = true)
    (hsep : lenF.separate full = true) (hwidth : full.width = 1) (hlt : len < 2 ^ lenF.width)
    (haddr : full.addr = F.GLB_CMP_STATUS_IN_FULL.addr) (hladdr : lenF.addr = F.GLB_CMP_STATUS_IN_FULL.addr) :
    mailed s ((s.setF full 1).setF lenF len) full 1 lenF len := by
  have halters : s.alters ((s.setF full 1).setF lenF len) [F.GLB_CMP_STATUS_IN_FULL.addr] [.regs] :=
    ((s.alters_setF full 1).mono (by simp [haddr]) (by decide)).step (State.alters_setF _ lenF len) (by simp [hladdr])
  exact ⟨(State.getF_setF_other _ _ hsep).trans (State.getF_setF_holds _ hfull (by rw [hwidth]; decide)),
    fun _ => State.getF_setF_holds _ hlen hlt, halters.regsBut, halters.keeps⟩

theorem mailed_take {full lenF : Fld} {len : Nat} (hfull : full.fits = true)
    (haddr : full.addr = F.GLB_CMP_STATUS_IN_FULL.addr) : mailed s (s.setF full 0) full 0 lenF len := by
  have halters := s.alters_setF full 0
  rw [haddr] at halters
  exact ⟨State.getF_setF_holds _ hfull (Nat.two_pow_pos _), fun h => absurd h (by decide), halters.regsBut, halters.keeps⟩

end

section
variable {s : State} {req : Requester}

theorem exec_mail (hreach : s.reachable = true) (hmay : s.mayWrite req F.GLB_CMP_CMD_OP.addr = true) (len : BitVec 7) (same : Bool) :
    exec (.inPost req len) s = .next (s.inPost req len.toNat) ∧ exec (.inTake req same) s = .next (s.inTake req same) ∧
      exec (.outPost req len) s = .next (s.outPost req len.toNat) ∧ exec (.outTake req same) s = .next (s.outTake req same) := by
  have h : ∀ t, s.writing req F.GLB_CMP_CMD_OP t = t := writing_served hreach hmay
  exact ⟨congrArg _ (h _), congrArg _ (h _), congrArg _ (h _), congrArg _ (h _)⟩

theorem mail_refused {i : Instr} {t : State} (h : exec i s = .next t) (ht : t = s.mailRefused req) :
    Claims.Refused i s F.GLB_ACCERR_REFUSED_RO (Requester.source req) :=
  refused_of_accErr (e := .refusedRo) (s.alters_refl _ _) (h.trans (congrArg _ ht))

end

/-- Settles O18: each mailbox command by the side of its requester, its length and the direction's FULL flag. -/
theorem mailbox : Obligations.Mailbox := by
  intro s req len hs src ok done no
  obtain ⟨hreach, hreq, hmay⟩ := hs
  obtain ⟨hinPost, hinTake, houtPost, houtTake⟩ := exec_mail hreach hmay len false
  obtain ⟨-, hinMeets, -, -⟩ := exec_mail hreach hmay len true
  obtain ⟨hportPost, hportTake, hportOut, hportOutTake⟩ := exec_mail (s := s) (req := .cmp) hreach rfl len false
  obtain ⟨-, -, -, hportMeets⟩ := exec_mail (s := s) (req := .cmp) hreach rfl len true
  have hside : req ≠ .engService → moduleSide req = true := fun h => by cases req <;> simp_all [moduleSide]
  have hlen : len.toNat < 2 ^ 7 := len.isLt
  have hbad (f : Fld) (h : ¬ok ∨ s.getF f = 1) : s.isSet f = true ∨ len.toNat = 0 ∨ 64 < len.toNat := by
    simp only [State.isSet, beq_iff_eq]
    omega
  have hgood (f : Fld) (hok : ok) (h : s.getF f = 0) : ¬(s.isSet f = true ∨ len.toNat = 0 ∨ 64 < len.toNat) := by
    simp only [State.isSet, beq_iff_eq]
    omega
  refine ⟨fun heng => ?_, fun hok hfull => ?_, fun hno => mail_refused hportPost (if_pos (.inr (hbad _ hno))),
    mail_refused hinPost (if_pos (.inl hreq)), fun hne => ?_, mail_refused hinMeets (if_pos (.inr rfl)),
    mail_refused hportTake (if_pos (.inl rfl)), fun hne hok hfull => ?_,
    fun hno => mail_refused houtPost (if_pos (.inr (hbad _ hno))), mail_refused hportOut (if_pos (.inl rfl)), ?_,
    mail_refused hportMeets (if_pos (.inr rfl)), mail_refused houtTake (if_pos (.inl hreq))⟩
  · subst heng
    exact ⟨mail_refused hinTake (if_pos (.inl rfl)), mail_refused houtPost (if_pos (.inl rfl))⟩
  · rw [show s.inPost .cmp len.toNat = _ from if_neg (not_or.2 ⟨by simp, hgood _ hok hfull⟩)] at hportPost
    exact ⟨_, hportPost, mailed_post (by decide) (by decide) (by decide) rfl hlen rfl rfl⟩
  · rw [show s.inTake req false = _ from if_neg (by simp [hside hne])] at hinTake
    exact ⟨_, hinTake, mailed_take (by decide) rfl⟩
  · rw [show s.outPost req len.toNat = _ from if_neg (not_or.2 ⟨by simp [hside hne], hgood _ hok hfull⟩)] at houtPost
    exact ⟨_, houtPost, mailed_post (by decide) (by decide) (by decide) rfl hlen rfl rfl⟩
  · rw [show s.outTake .cmp false = _ from if_neg (by simp)] at hportOutTake
    exact ⟨_, hportOutTake, mailed_take (by decide) rfl⟩

/-! ### The port (R462 to R464) -/

section
variable {s : State} {addr : BitVec 32}

theorem State.alive_of_reachable (h : s.reachable = true) : s.alive = true := by
  simp only [State.reachable, State.alive, Bool.and_eq_true] at h ⊢
  obtain ⟨⟨hoff, -⟩, hheld⟩ := h
  exact ⟨hoff, hheld⟩

/-- A READ of one word gives what the port reads. -/
theorem exec_cmpRead (h : s.reachable = true) (hvio : s.rst.vioOut = false) :
    let r := s.portRead addr.toNat
    exec (.cmpRead addr 1) s = .next { r.2 with bus := { r.2.bus with cmpData := [r.1] } } := by
  simp only [exec, execCmpRead, State.alive_of_reachable h, hvio, if_true, State.portReads, Bool.false_eq_true, if_false]

theorem exec_cmpWrite (h : s.reachable = true) (b0 b1 b2 b3 : Byte) :
    exec (.cmpWrite addr [b0, b1, b2, b3]) s =
      .next (s.regWrite .cmp addr.toNat (BitVec.ofNat 32 (Bytes.le [b0, b1, b2, b3])) 4) := by
  have hserves : s.serves .cmp = true := by simp [State.serves, h]
  simp only [exec, execCmpWrite, State.accessBy, hserves, if_true, State.portWrites]

theorem ofNat_le (b0 b1 b2 b3 : Byte) : BitVec.ofNat 32 (Bytes.le [b0, b1, b2, b3]) = b3 ++ b2 ++ b1 ++ b0 := by
  have h0 := b0.isLt
  have h1 := b1.isLt
  have h2 := b2.isLt
  have h3 := b3.isLt
  refine BitVec.eq_of_toNat_eq ?_
  simp only [Bytes.le, BitVec.toNat_ofNat, BitVec.toNat_append]
  rw [← Nat.shiftLeft_add_eq_or_of_lt h2, ← Nat.shiftLeft_add_eq_or_of_lt h1, ← Nat.shiftLeft_add_eq_or_of_lt h0]
  simp only [Nat.shiftLeft_eq]
  omega

theorem State.regWrite_cmp {a : Nat} (ha : a % 4 = 0) (v : BitVec 32) : s.regWrite .cmp a v 4 = s.portWrite a v :=
  (if_neg (by simp [ha])).trans (if_pos rfl)

/-- The port's writes beside the mailbox are refused. -/
theorem State.portWrite_other {a : Nat} (hcmd : a ≠ F.GLB_CMP_CMD_OP.addr) (hin : ∀ k, k < 16 → a ≠ (F.GLB_CMP_IN_DATA k).addr)
    (v : BitVec 32) : s.portWrite a v = s.accErr .cmp [.refusedRo] := by
  have hnone : elementAt (F.GLB_CMP_IN_DATA 0).addr 4 16 a = none := elementAt_eq_none hin
  unfold State.portWrite State.mailWrite
  rw [if_neg hcmd, hnone]
  cases elementAt (F.GLB_CMP_OUT_DATA 0).addr 4 16 a with
  | none => rfl
  | some j =>
    dsimp only
    rw [if_neg (by simp [moduleSide])]
    rfl

theorem cmpIn_facts : ∀ k < 16, elementAt (F.GLB_CMP_IN_DATA 0).addr 4 16 (F.GLB_CMP_IN_DATA k).addr = some k ∧
    (F.GLB_CMP_IN_DATA k).addr ≠ F.GLB_CMP_CMD_OP.addr ∧ (F.GLB_CMP_IN_DATA k).addr % 4 = 0 := by decide +kernel

theorem State.portWrite_in {k : Nat} (hk : k < 16) (v : BitVec 32) : s.portWrite (F.GLB_CMP_IN_DATA k).addr v =
    if s.isSet F.GLB_CMP_STATUS_IN_FULL = false then s.setR (F.GLB_CMP_IN_DATA k).addr v else s.accErr .cmp [.refusedRo] := by
  obtain ⟨hat, hcmd, -⟩ := cmpIn_facts k hk
  unfold State.portWrite State.mailWrite
  rw [if_neg hcmd, hat]
  simp only [true_and]
  rfl

/-- A read of a register that the port has no list entry for is counted, without a flag. -/
theorem portMissed_counts (s : State) : s.portMissed.getF F.GLB_ACCERR_COUNT = Nat.min 255 (s.getF F.GLB_ACCERR_COUNT + 1) ∧
    s.portMissed.getF F.GLB_ACCERR_SOURCE = 3 ∧
    s.portMissed.getR F.GLB_ACCERR_COUNT.addr &&& 0xF#32 = s.getR F.GLB_ACCERR_COUNT.addr &&& 0xF#32 := by
  refine ⟨?_, State.getF_setF_holds _ (by decide) (by decide), ?_⟩
  · rw [State.portMissed, State.getF_setF_other _ _ (by decide), State.getF_incSat_same _ (Fld.fits_iff.1 (by decide))]
    rfl
  · have hput : ∀ (u : State) (f : Fld) (v : Nat), f.addr = F.GLB_ACCERR_COUNT.addr → f.inWord → 4 ≤ f.lo →
        (u.setF f v).getR F.GLB_ACCERR_COUNT.addr &&& 0xF#32 = u.getR F.GLB_ACCERR_COUNT.addr &&& 0xF#32 := by
      intro u f v haddr hf hlo
      rw [← haddr, State.getR_setF_same, flags_put f _ v hf hlo]
    rw [State.portMissed, hput _ F.GLB_ACCERR_SOURCE _ rfl (Fld.fits_iff.1 (by decide)) (by decide)]
    exact hput s F.GLB_ACCERR_COUNT _ rfl (Fld.fits_iff.1 (by decide)) (by decide)

theorem State.alters_portMissed (s : State) : s.alters s.portMissed [F.GLB_ACCERR_COUNT.addr] [.regs] :=
  (s.alters_incSat F.GLB_ACCERR_COUNT).step (State.alters_setF _ F.GLB_ACCERR_SOURCE 3) (by decide)

/-- A listed register is read live. -/
theorem State.portRead_listed {a : Nat} (h : s.reachable = true) (hal : a % 4 = 0) (hlist : portListed a = true)
    (hlatch : isLatched a = false) : (s.portRead a).1 = s.liveWord a ∧ s.keeps (s.portRead a).2 [.bus] := by
  have hstation : (decide (s.station = .watch) && !portWatch a) = false := by
    simp only [State.reachable, Bool.and_eq_true, bne_iff_ne, ne_eq] at h
    simp [h.1.2]
  simp only [State.portRead, hal, hlist, hlatch, hstation, ne_eq, not_true_eq_false, Bool.not_true, Bool.false_eq_true, if_false]
  exact ⟨trivial, (s.alters_bus _).keeps⟩

end

/-- Settles O17: what the port reads and writes, by the address. -/
theorem carrierPort : Obligations.CarrierPort := by
  intro s addr b0 b1 b2 b3 hreach hvio a
  have hread := exec_cmpRead (addr := addr) hreach hvio
  have hwrite := exec_cmpWrite (addr := addr) hreach b0 b1 b2 b3
  have hrefused : ∀ {e : AccErr}, s.regWrite .cmp a (BitVec.ofNat 32 (Bytes.le [b0, b1, b2, b3])) 4 = s.accErr .cmp [e] →
      Claims.Refused (.cmpWrite addr [b0, b1, b2, b3]) s e.flag 3 :=
    fun h => refused_of_accErr (s.alters_refl _ _) (hwrite.trans (congrArg _ h))
  refine ⟨fun hal hlist hlatch => ?_, fun hal hlist => ?_, fun hal hcmd hin => ?_, fun k hk ha hfull => ?_, fun k hk ha hfull => ?_,
    fun hal => ?_⟩
  · obtain ⟨hword, hbus⟩ := State.portRead_listed hreach hal hlist hlatch
    exact ⟨_, hread, congrArg (fun w => [w]) hword, (hbus.trans (State.alters_bus _ _).keeps).mono (by decide)⟩
  · have hmiss : s.portRead a = (0, s.portMissed) := by
      simp only [State.portRead, hal, hlist, ne_eq, not_true_eq_false, Bool.not_false, if_false, if_true]
    rw [show addr.toNat = a from rfl, hmiss] at hread
    obtain ⟨hcount, hsource, hflags⟩ := portMissed_counts s
    have hset := s.alters_portMissed
    exact ⟨_, hread, rfl, hcount, hsource, hflags, (hset.regsBut.trans (State.alters_bus _ _).regsBut).mono (by simp),
      (hset.keeps.trans (State.alters_bus _ _).keeps).mono (by decide)⟩
  · exact hrefused (e := .refusedRo) ((State.regWrite_cmp hal _).trans (State.portWrite_other hcmd hin _))
  · have hal : a % 4 = 0 := ha ▸ (cmpIn_facts k hk).2.2
    rw [State.regWrite_cmp hal, ha, State.portWrite_in hk,
      if_pos (by simp [State.isSet, hfull]), ← ha, ofNat_le] at hwrite
    have hset := s.alters_setR a (b3 ++ b2 ++ b1 ++ b0)
    exact ⟨_, hwrite, State.getR_setR_same _ _ _, hset.regsBut, hset.keeps⟩
  · have hal : a % 4 = 0 := ha ▸ (cmpIn_facts k hk).2.2
    refine hrefused (e := .refusedRo) ((State.regWrite_cmp hal _).trans ?_)
    rw [ha, State.portWrite_in hk, if_neg (by simp [State.isSet, hfull])]
  · exact hrefused (e := .badWidth) (if_pos (.inr hal))

end Sys2Proof.Machine
end

section
/-!
PROOFS. The canonical form of memory and register file, and the waiting commands: what keeps them.
-/

namespace Sys2Proof.Machine

-- One proof after another: a side condition by `decide` waits for every proof before it, on a thread of its own.
set_option Elab.async false

/-- Memory and register file are in canonical form, and the commands ps wait. -/
def State.canon (s : State) (ps : List Instr) : Prop := s.pending = ps ∧ s.storesWf = true

/-- Whatever state an outcome leads to is canonical. -/
def Result.canon (r : Result) (ps : List Instr) : Prop := ∀ t, r = .next t → t.canon ps

def CoreStep.canon : CoreStep → List Instr → Prop
  | .ok s _, ps => s.canon ps
  | .exc s _ _, ps => s.canon ps

section
variable {s t : State} {ps : List Instr}

theorem State.canon_iff : s.canon ps ↔ s.pending = ps ∧ Memory.wf s.mem = true ∧ Store.wf regReset s.regs = true := by
  rw [State.canon, State.storesWf, Bool.and_eq_true]

/-- A change of any other part. -/
theorem State.canon.mk (h : s.canon ps) {st bus clock sched pat cores queues wsig ecc tasks evr saf fio lpe qps net can ptp
    pair pnl pwr upd sec rst tmp dgt freeCount} :
    (State.mk s.pending st s.regs s.mem bus clock sched pat cores queues wsig ecc tasks evr saf fio lpe qps net can ptp
      pair pnl pwr upd sec rst tmp dgt freeCount).canon ps := h

theorem State.canon.ite {c : Prop} [Decidable c] (hs : s.canon ps) (ht : t.canon ps) : (if c then s else t).canon ps := by
  split_ifs
  · exact hs
  · exact ht

theorem State.canon.ite_snd {α : Type} {c : Prop} [Decidable c] {x y : α × State} (hx : x.2.canon ps) (hy : y.2.canon ps) :
    (if c then x else y).2.canon ps := by
  split_ifs
  · exact hx
  · exact hy

theorem State.canon.ite_snd_snd {α β : Type} {c : Prop} [Decidable c] {x y : α × β × State} (hx : x.2.2.canon ps)
    (hy : y.2.2.canon ps) : (if c then x else y).2.2.canon ps := by
  split_ifs
  · exact hx
  · exact hy

theorem State.canon.foldl {α : Type} {f : State → α → State} {l : List α} (hf : ∀ s x, s.canon ps → (f s x).canon ps)
    (h : s.canon ps) : (l.foldl f s).canon ps := by
  induction l generalizing s with
  | nil => exact h
  | cons x l ih => exact ih (hf s x h)

/-- A fold whose state comes first. -/
theorem State.canon_foldl_fst {α β : Type} {f : State × β → α → State × β} {l : List α} {x : State × β}
    (hf : ∀ x y, x.1.canon ps → (f x y).1.canon ps) (h : x.1.canon ps) : (l.foldl f x).1.canon ps := by
  induction l generalizing x with
  | nil => exact h
  | cons y l ih => exact ih (hf x y h)

/-- A fold that carries a value beside the state. -/
theorem State.canon_foldl_snd {α β : Type} {f : β × State → α → β × State} {l : List α} {x : β × State}
    (hf : ∀ x y, x.2.canon ps → (f x y).2.canon ps) (h : x.2.canon ps) : (l.foldl f x).2.canon ps := by
  induction l generalizing x with
  | nil => exact h
  | cons y l ih => exact ih (hf x y h)

theorem State.canon_snd {α : Type} {x : α × State} {a : α} (heq : x = (a, s)) (h : x.2.canon ps) : s.canon ps := by
  subst heq
  exact h

theorem State.canon_snd_snd {α β : Type} {x : α × β × State} {a : α} {b : β} (heq : x = (a, b, s)) (h : x.2.2.canon ps) :
    s.canon ps := by
  subst heq
  exact h

theorem State.canon.setR (h : s.canon ps) {a : Nat} {w : BitVec 32} : (s.setR a w).canon ps := by
  obtain ⟨hp, hm, hr⟩ := State.canon_iff.1 h
  exact State.canon_iff.2 ⟨hp, hm, s.setR_wf a w hr⟩

theorem State.canon.setF (h : s.canon ps) {f : Fld} {v : Nat} : (s.setF f v).canon ps := h.setR

theorem State.canon.wrByte (h : s.canon ps) {a : Nat} {b : BitVec 8} : (s.wrByte a b).canon ps := by
  obtain ⟨hp, hm, hr⟩ := State.canon_iff.1 h
  exact State.canon_iff.2 ⟨hp, s.wrByte_wf a b hm, hr⟩

theorem State.canon.wrBytes (h : s.canon ps) {a : Nat} {bs : Bytes} : (s.wrBytes a bs).canon ps := by
  obtain ⟨hp, hm, hr⟩ := State.canon_iff.1 h
  exact State.canon_iff.2 ⟨hp, s.wrBytes_wf a bs hm, hr⟩

theorem State.canon.clearRange (h : s.canon ps) {lo n : Nat} : (s.clearRange lo n).canon ps := by
  obtain ⟨hp, hm, hr⟩ := State.canon_iff.1 h
  exact State.canon_iff.2 ⟨hp, s.clearRange_wf lo n hm, hr⟩

theorem CoreStep.canon_ok {pc : BitVec 32} (h : (CoreStep.ok s pc).canon ps) : s.canon ps := h

theorem CoreStep.canon_exc {cause : ExcCause} {addr : Nat} (h : (CoreStep.exc s cause addr).canon ps) : s.canon ps := h

theorem CoreStep.canon_ite {c : Prop} [Decidable c] {x y : CoreStep} (hx : x.canon ps) (hy : y.canon ps) :
    (if c then x else y).canon ps := by
  split_ifs
  · exact hx
  · exact hy

/-! ### Stores with entries taken out -/

section
variable {α : Type} [DecidableEq α] {d : Nat → α} {m : Store α}

omit [DecidableEq α] in
theorem Store.above_filter {k : Nat} (keep : Nat × α → Bool) (h : Store.above k m = true) : Store.above k (m.filter keep) = true := by
  induction m with
  | nil => exact h
  | cons e m ih =>
    obtain ⟨j, v⟩ := e
    simp only [Store.above, Bool.and_eq_true] at h
    rw [List.filter_cons]
    split_ifs
    · simp only [Store.above, Bool.and_eq_true]
      exact ⟨h.1, ih h.2⟩
    · exact ih h.2

theorem Store.wf_filter (keep : Nat × α → Bool) (h : Store.wf d m = true) : Store.wf d (m.filter keep) = true := by
  induction m with
  | nil => exact h
  | cons e m ih =>
    obtain ⟨j, v⟩ := e
    simp only [Store.wf, Bool.and_eq_true] at h
    obtain ⟨⟨hv, habove⟩, hwf⟩ := h
    rw [List.filter_cons]
    split_ifs
    · simp only [Store.wf, Bool.and_eq_true]
      exact ⟨⟨hv, Store.above_filter keep habove⟩, ih hwf⟩
    · exact ih hwf

end

/-- The base of the scratchpads as an unknown: the kernel would count down a sum with the literal. -/
theorem localBase_opaque : ∃ b, localBase = b := ⟨_, rfl⟩

/-! ### Outcomes -/

theorem Result.canon.next (h : s.canon ps) : Result.canon (.next s) ps := fun _ ht => by
  obtain rfl := Host.Outcome.next.inj ht
  exact h

theorem Result.canon.refused {r : Refusal} : Result.canon (.refused r) ps := fun _ ht => nomatch ht

theorem Result.canon.ite {c : Prop} [Decidable c] {a b : Result} (ha : Result.canon a ps) (hb : Result.canon b ps) :
    Result.canon (if c then a else b) ps := by
  split_ifs
  · exact ha
  · exact hb

end

end Sys2Proof.Machine
end

section
/-!
PROOFS. The canonical form, operation by operation: registers, events, monitor, slot tables, images, field channels.
Each proof follows the definition of its operation, branch by branch.
-/

namespace Sys2Proof.Machine

-- One proof after another: a side condition by `decide` waits for every proof before it, on a thread of its own.
set_option Elab.async false

section
variable {s : State} {ps : List Instr}

/-! ### Ops -/

theorem onUnit_canon {ok : Bool} {t : State} (ht : t.canon ps) :
    (onUnit ok t).canon ps := by
  unfold onUnit
  exact .ite (.next ht) .refused

theorem State.canon.setB (hs : s.canon ps) {f : Fld} {b : Bool} :
    (s.setB f b).canon ps := by
  unfold State.setB
  exact hs.setF

theorem State.canon.addSat (hs : s.canon ps) {f : Fld} {n : Nat} :
    (s.addSat f n).canon ps := by
  unfold State.addSat
  exact hs.setF

theorem State.canon.incSat (hs : s.canon ps) {f : Fld} :
    (s.incSat f).canon ps := by
  unfold State.incSat
  exact hs.addSat

theorem State.canon.incWrap (hs : s.canon ps) {f : Fld} :
    (s.incWrap f).canon ps := by
  unfold State.incWrap
  exact hs.setF

theorem State.canon.decF (hs : s.canon ps) {f : Fld} :
    (s.decF f).canon ps := by
  unfold State.decF
  exact hs.setF

theorem State.canon.accErr (hs : s.canon ps) {req : Requester} {es : List AccErr} :
    (s.accErr req es).canon ps := by
  unfold State.accErr
  exact .ite hs (State.canon.foldl (fun _ _ hs => hs.setF) hs).incSat.setF

theorem State.canon.access (hs : s.canon ps) {t : State} (ht : t.canon ps) :
    (s.access t).canon ps := by
  unfold State.access
  exact .ite ht hs

theorem State.canon.accessBy (hs : s.canon ps) {req : Requester} {t : State} (ht : t.canon ps) :
    (s.accessBy req t).canon ps := by
  unfold State.accessBy
  exact .ite ht hs

theorem State.canon.commanded (hs : s.canon ps) {req : Requester} {f : Fld} {t : State} (ht : t.canon ps) :
    (s.commanded req f t).canon ps := by
  unfold State.commanded
  exact hs.accessBy (.ite hs.accErr (.ite ht hs))

theorem State.canon.command (hs : s.canon ps) {req : Requester} {f : Fld} {t : State} (ht : t.canon ps) :
    (s.command req f t).canon ps := by
  unfold State.command
  exact .next (hs.commanded ht)

theorem State.canon.writing (hs : s.canon ps) {req : Requester} {f : Fld} {t : State} (ht : t.canon ps) :
    (s.writing req f t).canon ps := by
  unfold State.writing
  exact hs.accessBy (.ite ht hs)

theorem State.canon.wrLe (hs : s.canon ps) {a n v : Nat} :
    (s.wrLe a n v).canon ps := by
  unfold State.wrLe
  exact hs.wrBytes

theorem State.canon.advanceTo (hs : s.canon ps) {ns : Nat} :
    (s.advanceTo ns).canon ps := by
  unfold State.advanceTo
  exact hs.mk

theorem State.canon.atTick (hs : s.canon ps) {k : Nat} :
    (s.atTick k).canon ps := by
  unfold State.atTick
  exact hs.advanceTo

theorem State.canon.fresh (hs : s.canon ps) :
    s.fresh.2.canon ps := by
  unfold State.fresh
  exact hs.mk

theorem State.canon.setSuppressed (hs : s.canon ps) {code n : Nat} :
    (s.setSuppressed code n).canon ps := by
  unfold State.setSuppressed
  exact hs.mk

theorem State.canon.stage (hs : s.canon ps) {code : Nat} {e : Staged} :
    (s.stage code e).canon ps := by
  unfold State.stage
  exact hs.mk

theorem State.canon.raiseCls (hs : s.canon ps) {code source cls : Nat} {payload : List Nat} :
    (s.raiseCls code source cls payload).canon ps := by
  unfold State.raiseCls
  exact .ite hs.incSat.mk (.ite hs.setSuppressed hs.stage.setSuppressed.setF)

theorem State.canon.raise (hs : s.canon ps) {code source : Nat} {payload : List Nat} :
    (s.raise code source payload).canon ps := by
  unfold State.raise
  exact hs.raiseCls

theorem State.canon.authFail (hs : s.canon ps) :
    s.authFail.canon ps := by
  unfold State.authFail
  exact hs.fresh.raise

theorem State.canon.timeMark (hs : s.canon ps) {c : MarkCause} {corr : Int} :
    (s.timeMark c corr).canon ps := by
  unfold State.timeMark
  exact hs.raise.mk

theorem State.canon.setAgent (hs : s.canon ps) {a : Nat} {x : Agent} :
    (s.setAgent a x).canon ps := by
  unfold State.setAgent
  exact hs.mk

theorem State.canon.setCore (hs : s.canon ps) {c : Nat} {x : Core} :
    (s.setCore c x).canon ps := by
  unfold State.setCore
  exact hs.mk

theorem State.canon.setTriggers (hs : s.canon ps) {k : Nat} {l : List Trigger} :
    (s.setTriggers k l).canon ps := by
  unfold State.setTriggers
  exact hs.setF.mk

theorem State.canon.postAt (hs : s.canon ps) {k code arg tick : Nat} :
    (s.postAt k code arg tick).2.canon ps := by
  unfold State.postAt
  exact State.canon.ite_snd hs.setTriggers hs.incSat.raise

theorem State.canon.postTriggerAt (hs : s.canon ps) {code arg tick : Nat} :
    (s.postTriggerAt code arg tick).canon ps := by
  unfold State.postTriggerAt
  exact .foldl (fun _ _ hs => hs.postAt) hs

theorem State.canon.postTrigger (hs : s.canon ps) {code arg : Nat} :
    (s.postTrigger code arg).canon ps := by
  unfold State.postTrigger
  exact hs.postTriggerAt

theorem State.canon.setQueue (hs : s.canon ps) {q : Nat} {x : QueueState} :
    (s.setQueue q x).canon ps := by
  unfold State.setQueue
  exact hs.mk

theorem State.canon.queuePut (hs : s.canon ps) {p : Pattern} {q : Nat} {e : Bytes} :
    (s.queuePut p q e).2.canon ps := by
  unfold State.queuePut
  exact State.canon.ite_snd hs.wrBytes.setQueue hs.setQueue

theorem State.canon.queueGet (hs : s.canon ps) {p : Pattern} {q : Nat} :
    (s.queueGet p q).2.canon ps := by
  unfold State.queueGet
  exact State.canon.ite_snd hs hs.setQueue


/-! ### SafetyOps -/

theorem State.canon.setDisconnect (hs : s.canon ps) {g : Nat} {closed : Bool} :
    (s.setDisconnect g closed).canon ps := by
  unfold State.setDisconnect
  exact hs.setB.setF

theorem State.canon.setDrive (hs : s.canon ps) {g : Nat} {b : Bool} :
    (s.setDrive g b).canon ps := by
  unfold State.setDrive
  exact hs.mk

theorem State.canon.openGroup (hs : s.canon ps) {g : Nat} :
    (s.openGroup g).canon ps := by
  unfold State.openGroup
  exact hs.setDrive.setDisconnect

theorem State.canon.closeGroup (hs : s.canon ps) {g : Nat} :
    (s.closeGroup g).canon ps := by
  unfold State.closeGroup
  exact hs.setDrive.setDisconnect

theorem State.canon.setFnState (hs : s.canon ps) {f st : Nat} :
    (s.setFnState f st).canon ps := by
  unfold State.setFnState
  exact hs.setF.setF

theorem State.canon.faultFn (hs : s.canon ps) {c : FnCause} {f : Nat} :
    (s.faultFn c f).canon ps := by
  unfold State.faultFn
  exact .ite hs.mk.setFnState.setF hs.mk.setFnState.setF.raise

theorem State.canon.edgeAllDue (hs : s.canon ps) :
    s.edgeAllDue.canon ps := by
  unfold State.edgeAllDue
  exact hs.mk

theorem State.canon.edgeTaken (hs : s.canon ps) {f : Nat} :
    (s.edgeTaken f).canon ps := by
  unfold State.edgeTaken
  exact hs.mk

theorem State.canon.faultCounts (hs : s.canon ps) :
    s.faultCounts.2.canon ps := by
  unfold State.faultCounts
  exact hs.fresh.fresh

theorem State.canon.faultFns (hs : s.canon ps) {c : FnCause} {fs : List Nat} :
    (s.faultFns c fs).canon ps := by
  unfold State.faultFns
  exact .foldl (fun _ _ hs => hs.faultFn) hs

theorem State.canon.updateModOk (hs : s.canon ps) :
    s.updateModOk.canon ps := by
  unfold State.updateModOk
  exact hs.setB

theorem State.canon.moduleWide (hs : s.canon ps) {c : HaltCause} :
    (s.moduleWide c).canon ps := by
  unfold State.moduleWide
  exact hs.mk.updateModOk

theorem State.canon.causeGone (hs : s.canon ps) {c : HaltCause} :
    (s.causeGone c).canon ps := by
  unfold State.causeGone
  exact hs.mk.updateModOk


/-! ### SchedOps -/

theorem State.canon.postHeartbeat (hs : s.canon ps) {a : Nat} :
    (s.postHeartbeat a).canon ps := by
  unfold State.postHeartbeat
  exact hs.setAgent

theorem State.canon.setBusy (hs : s.canon ps) {a : Nat} {b : Bool} :
    (s.setBusy a b).canon ps := by
  unfold State.setBusy
  exact .ite hs.setF (.ite hs.setF hs)

theorem State.canon.setSelv (hs : s.canon ps) {c : Nat} {b : Bool} :
    (s.setSelv c b).canon ps := by
  unfold State.setSelv
  exact hs.setF

theorem State.canon.beginEntry (hs : s.canon ps) {a : Nat} {r : Running} :
    (s.beginEntry a r).canon ps := by
  unfold State.beginEntry
  exact hs.setAgent.setBusy

theorem State.canon.finishEntry (hs : s.canon ps) {a k : Nat} :
    (s.finishEntry a k).canon ps := by
  unfold State.finishEntry
  exact .ite hs.setAgent.setBusy.postHeartbeat hs.setAgent.setBusy

theorem State.canon.passEntry (hs : s.canon ps) {a k : Nat} :
    (s.passEntry a k).canon ps := by
  unfold State.passEntry
  exact .ite hs.setAgent.postHeartbeat hs.setAgent

theorem State.canon.selvNext (hs : s.canon ps) :
    s.selvNext.canon ps := by
  unfold State.selvNext
  exact hs.mk

theorem State.canon.countOverrun (hs : s.canon ps) {a cause : Nat} {r : Running} :
    (s.countOverrun a cause r).canon ps := by
  unfold State.countOverrun
  exact .ite hs.incSat.incSat.setAgent.mk.setF.setF.setF.setF.setF.setF.setF.setF hs.incSat.incSat.setAgent

theorem State.canon.cutTask (hs : s.canon ps) {k : Nat} :
    (s.cutTask k).canon ps := by
  unfold State.cutTask
  exact .ite hs.incSat.mk.setF.raise hs.incSat.mk

theorem State.canon.setSig (hs : s.canon ps) {seg : Nat} {runB : Bool} {x : WSig} :
    (s.setSig seg runB x).canon ps := by
  unfold State.setSig
  exact hs.mk

theorem State.canon.setSelvValid (hs : s.canon ps) {seg : Nat} {v : Bool} :
    (s.setSelvValid seg v).canon ps := by
  unfold State.setSelvValid
  exact hs.mk

theorem State.canon.selvFails (hs : s.canon ps) {seg : Nat} :
    (s.selvFails seg).canon ps := by
  unfold State.selvFails
  exact hs.mk

theorem State.canon.captureMismatch (hs : s.canon ps) {seg at_ reason : Nat} {a b : WSig} :
    (s.captureMismatch seg at_ reason a b).canon ps := by
  unfold State.captureMismatch
  exact .ite hs.mk.setF.setF.setF.setF.setF.setF.setF hs

theorem State.canon.compareRuns (hs : s.canon ps) {seg at_ : Nat} :
    (s.compareRuns seg at_).canon ps := by
  unfold State.compareRuns
  exact .ite hs.incWrap.setSelvValid (.ite hs.captureMismatch.setSelvValid.selvFails.raiseCls
    hs.captureMismatch.setSelvValid.selvFails.raise.faultFns)

theorem State.canon.finishRun (hs : s.canon ps) {seg : Nat} {runB aborted degraded : Bool} {at_ : Nat} :
    (s.finishRun seg runB aborted degraded at_).canon ps := by
  unfold State.finishRun
  exact .ite hs.setSig.compareRuns hs.setSig

theorem State.canon.setMark (hs : s.canon ps) {array index : Nat} {m : EccMark} :
    (s.setMark array index m).canon ps := by
  unfold State.setMark
  exact hs.mk

theorem State.canon.eccCorrected (hs : s.canon ps) {array index : Nat} :
    (s.eccCorrected array index).canon ps := by
  unfold State.eccCorrected
  exact (State.canon.ite hs.incSat.mk hs.incSat.incSat).raise

theorem State.canon.eccUncorrectable (hs : s.canon ps) {array index finder : Nat} :
    (s.eccUncorrectable array index finder).canon ps := by
  unfold State.eccUncorrectable
  exact .ite (State.canon.ite hs.incSat hs.incSat.setF.setF.setF.setF).raiseCls.moduleWide (State.canon.ite hs.incSat
    hs.incSat.setF.setF.setF.setF).raiseCls

theorem State.canon.eccReadWord (hs : s.canon ps) {a finder : Nat} :
    (s.eccReadWord a finder).2.canon ps := by
  unfold State.eccReadWord
  split
  · exact hs
  · split
    · exact hs
    · exact hs.eccCorrected
    · exact hs.eccUncorrectable

theorem State.canon.eccRead (hs : s.canon ps) {a n finder : Nat} :
    (s.eccRead a n finder).2.canon ps := by
  unfold State.eccRead
  exact State.canon_foldl_snd (fun _ _ hr => State.canon.ite_snd hr hr.eccReadWord) hs

theorem State.canon.eccClearArrays (hs : s.canon ps) {lo hi : Nat} :
    (s.eccClearArrays lo hi).canon ps := by
  unfold State.eccClearArrays
  exact hs.mk

theorem State.canon.eccClearWords (hs : s.canon ps) {a n : Nat} :
    (s.eccClearWords a n).canon ps := by
  unfold State.eccClearWords
  exact .foldl (fun _ _ hs => by split; exacts [hs, hs.setMark]) hs

theorem State.canon.load (hs : s.canon ps) {a : Nat} {bs : Bytes} :
    (s.load a bs).canon ps := by
  unfold State.load
  exact hs.wrBytes.eccClearWords

theorem State.canon.engRead (hs : s.canon ps) {a n : Nat} :
    (s.engRead a n).canon ps := by
  unfold State.engRead
  exact hs.eccRead

theorem State.canon.storePart (hs : s.canon ps) {a : Nat} {bs : Bytes} :
    (s.storePart a bs).canon ps := by
  unfold State.storePart
  refine .ite hs.load ?_
  split
  · next heq =>
      exact (State.canon_snd heq hs.eccReadWord)
  · next heq =>
      exact (State.canon_snd heq hs.eccReadWord).wrBytes.eccClearWords

theorem State.canon.engStore (hs : s.canon ps) {a : Nat} {bs : Bytes} :
    (s.engStore a bs).canon ps := by
  unfold State.engStore
  exact .ite hs (.foldl (fun _ _ hs => hs.storePart) hs)

theorem State.canon.queueStore (hs : s.canon ps) {p : Pattern} {q : Nat} {e : Bytes} :
    (s.queueStore p q e).2.canon ps := by
  unfold State.queueStore
  exact State.canon.ite_snd hs.queuePut.eccClearWords hs.queuePut

theorem State.canon.queueTake (hs : s.canon ps) {p : Pattern} {q : Nat} :
    (s.queueTake p q).2.canon ps := by
  unfold State.queueTake
  exact State.canon.ite_snd hs hs.engRead.queueGet


/-! ### Images -/

theorem State.canon.setHold (hs : s.canon ps) {off : Nat} {h : HoldState} :
    (s.setHold off h).canon ps := by
  unfold State.setHold
  exact hs.mk

theorem State.canon.latchItem (hs : s.canon ps) {off : Nat} {val : Option Bytes} {single : Bool} {c : SubstCfg} :
    (s.latchItem off val single c).canon ps := by
  unfold State.latchItem
  split
  · exact hs.engStore
  · split
    · exact hs.engStore.setHold
    · exact hs.engStore.setHold

theorem State.canon.halfRead (hs : s.canon ps) {p : Pattern} {k : Nat} {half : Option Nat} {off n : Nat} :
    (s.halfRead p k half off n).canon ps := by
  unfold State.halfRead
  split
  · exact hs.engRead
  · exact hs

theorem State.canon.outputRead (hs : s.canon ps) {p : Pattern} {k off n : Nat} :
    (s.outputRead p k off n).canon ps := by
  unfold State.outputRead
  exact hs.halfRead


/-! ### FieldOps -/

theorem State.canon.setDio (hs : s.canon ps) {n : Nat} {x : DioCh} :
    (s.setDio n x).canon ps := by
  unfold State.setDio
  exact hs.mk

theorem State.canon.setGrp (hs : s.canon ps) {g : Nat} {x : Group} :
    (s.setGrp g x).canon ps := by
  unfold State.setGrp
  exact hs.mk

theorem State.canon.setClo (hs : s.canon ps) {o : Nat} {x : CloOut} :
    (s.setClo o x).canon ps := by
  unfold State.setClo
  exact hs.mk

theorem State.canon.switch (hs : s.canon ps) {n : Nat} {on : Bool} :
    (s.switch n on).canon ps := by
  unfold State.switch
  exact .ite hs (State.canon.ite hs.setF hs).setB.setDio

theorem State.canon.endPulse (hs : s.canon ps) {t n : Nat} :
    (s.endPulse t n).canon ps := by
  unfold State.endPulse
  dsimp only
  split
  · exact .ite hs.setF.setDio hs
  · exact hs

theorem State.canon.endGroupTest (hs : s.canon ps) {t g : Nat} :
    (s.endGroupTest t g).canon ps := by
  unfold State.endGroupTest
  dsimp only
  split
  · exact .ite (.foldl (fun _ _ hs => hs.setDio) (.ite hs.setGrp.setDisconnect hs.setGrp)) hs
  · exact hs

theorem State.canon.settleField (hs : s.canon ps) {t : Nat} :
    (s.settleField t).canon ps := by
  unfold State.settleField
  exact .foldl (fun _ _ hs => hs.endGroupTest) (.foldl (fun _ _ hs => hs.endPulse) hs)

theorem State.canon.tripFn (hs : s.canon ps) {f input : Nat} :
    (s.tripFn f input).canon ps := by
  unfold State.tripFn
  exact .ite hs.setFnState.incSat.raise hs

theorem State.canon.latchOff (hs : s.canon ps) {n : Nat} {c : LatchCause} :
    (s.latchOff n c).canon ps := by
  unfold State.latchOff
  dsimp only
  split
  · exact hs.switch.setF.setDio.tripFn
  · exact hs.switch.setF.setDio

theorem State.canon.unlatch (hs : s.canon ps) {n : Nat} :
    (s.unlatch n).canon ps := by
  unfold State.unlatch
  exact hs.setF.setDio

theorem State.canon.unlatchAll (hs : s.canon ps) :
    s.unlatchAll.canon ps := by
  unfold State.unlatchAll
  exact .foldl (fun _ _ hs => hs.unlatch.setF.setDio) hs

theorem State.canon.releaseByReset (hs : s.canon ps) {f : Nat} :
    (s.releaseByReset f).canon ps := by
  unfold State.releaseByReset
  exact .foldl (fun _ _ hs => .ite hs.unlatch hs) hs

theorem State.canon.waitReturn (hs : s.canon ps) {n : Nat} :
    (s.waitReturn n).canon ps := by
  unfold State.waitReturn
  exact .ite hs (.ite hs.setDio (.ite hs hs.setDio))

theorem State.canon.darkGroup (hs : s.canon ps) {g : Nat} :
    (s.darkGroup g).canon ps := by
  unfold State.darkGroup
  exact .foldl (fun _ _ hs => .ite hs.switch.waitReturn hs) hs

theorem State.canon.cloOff (hs : s.canon ps) {o : Nat} :
    (s.cloOff o).canon ps := by
  unfold State.cloOff
  exact hs.setF.setF.setF.setF.setClo

theorem State.canon.cloTransfer (hs : s.canon ps) {o : Nat} :
    (s.cloTransfer o).canon ps := by
  unfold State.cloTransfer
  exact hs.setF.setClo

theorem State.canon.cloApply (hs : s.canon ps) {p : Pattern} {o v : Nat} :
    (s.cloApply p o v).canon ps := by
  unfold State.cloApply
  exact (State.canon.ite hs.setF hs).setF.setB.setF.setClo

theorem State.canon.cloSet (hs : s.canon ps) {p : Pattern} {o v : Nat} :
    (s.cloSet p o v).canon ps := by
  unfold State.cloSet
  exact .ite hs.setF (.ite hs.setClo.cloOff hs.cloTransfer.cloApply)

theorem State.canon.testFail (hs : s.canon ps) {n : Nat} {ua : Int} :
    (s.testFail n ua).canon ps := by
  unfold State.testFail
  exact hs.setF.latchOff.raiseCls.faultFns

theorem State.canon.openGroupDark (hs : s.canon ps) {g : Nat} :
    (s.openGroupDark g).canon ps := by
  unfold State.openGroupDark
  exact .ite hs.openGroup.darkGroup hs.openGroup

end

end Sys2Proof.Machine
end

section
/-!
PROOFS. The canonical form, operation by operation: MACsec, ship time, safe communication, cores and their slots, Ethernet, CAN.
Each proof follows the definition of its operation, branch by branch.
-/

namespace Sys2Proof.Machine

-- One proof after another: a side condition by `decide` waits for every proof before it, on a thread of its own.
set_option Elab.async false

section
variable {s : State} {ps : List Instr}

/-! ### PairMsg -/

theorem State.canon.setRole (hs : s.canon ps) {r : Role} :
    (s.setRole r).canon ps := by
  unfold State.setRole
  exact .ite hs (State.canon.ite hs.setF.setF hs.setF.setF.setF).raise

theorem State.canon.setPair (hs : s.canon ps) {x : Pair} :
    (s.setPair x).canon ps := by
  unfold State.setPair
  exact hs.mk

theorem State.canon.toSyncing (hs : s.canon ps) :
    s.toSyncing.canon ps := by
  unfold State.toSyncing
  exact hs.setRole.setPair

theorem State.canon.setWaiting (hs : s.canon ps) {port : Nat} {l : List Waiting} :
    (s.setWaiting port l).canon ps := by
  unfold State.setWaiting
  exact hs.mk

theorem State.canon.enqueue (hs : s.canon ps) {port : Nat} {w : Waiting} :
    (s.enqueue port w).canon ps := by
  unfold State.enqueue
  exact .ite hs.incSat hs.setWaiting

theorem State.canon.sendPair (hs : s.canon ps) {port station : Nat} {m : Bytes} :
    (s.sendPair port station m).canon ps := by
  unfold State.sendPair
  split
  · exact hs
  · exact .ite hs hs.enqueue


/-! ### Macsec -/

theorem State.canon.setMacsec (hs : s.canon ps) {port : Nat} {x : MacsecPort} :
    (s.setMacsec port x).canon ps := by
  unfold State.setMacsec
  exact hs.mk

theorem State.canon.emit (hs : s.canon ps) {port : Nat} {f : Bytes} :
    (s.emit port f).canon ps := by
  unfold State.emit
  refine .ite ?_ hs.mk.incWrap
  dsimp only
  split
  · exact .ite hs.setMacsec.mk.incWrap hs
  · exact hs

theorem State.canon.secOpen (hs : s.canon ps) {port : Nat} {f : Bytes} {x : Bytes × State} (h : s.secOpen port f = some
    x) :
    x.2.canon ps := by
  unfold State.secOpen at h
  dsimp only at h
  split at h
  · cases h
  · split at h
    · cases h
    · obtain ⟨m, -, rfl⟩ := Option.map_eq_some_iff.1 h
      exact hs.setMacsec


/-! ### PtpOps -/

theorem State.canon.ptpLock (hs : s.canon ps) {source : Nat} :
    (s.ptpLock source).canon ps := by
  unfold State.ptpLock
  exact .ite hs hs.setF.setF.raise

theorem State.canon.ptpUnlock (hs : s.canon ps) {cause : Nat} :
    (s.ptpUnlock cause).canon ps := by
  unfold State.ptpUnlock
  exact .ite hs.setF.raise hs

theorem State.canon.ptpUnusable (hs : s.canon ps) :
    s.ptpUnusable.canon ps := by
  unfold State.ptpUnusable
  exact .ite hs.mk.setF.raise.ptpUnlock hs.mk

theorem State.canon.referenceLost (hs : s.canon ps) :
    s.referenceLost.canon ps := by
  unfold State.referenceLost
  exact hs.setF.setF.setF.raise.ptpUnusable.mk

theorem State.canon.commitIncr (hs : s.canon ps) {v : Nat} :
    (s.commitIncr v).canon ps := by
  unfold State.commitIncr
  exact .ite hs.mk hs.mk.setF.raise

theorem State.canon.timeCommand (hs : s.canon ps) {req : Requester} {t : State} (ht : t.canon ps) :
    (s.timeCommand req t).canon ps := by
  unfold State.timeCommand
  split
  · exact ht
  · exact ht
  · exact hs.accErr

theorem State.canon.incrLoWrite (hs : s.canon ps) {value : BitVec 32} :
    (s.incrLoWrite value).canon ps := by
  unfold State.incrLoWrite
  exact hs.mk

theorem State.canon.incrHiWrite (hs : s.canon ps) {value : BitVec 32} :
    (s.incrHiWrite value).canon ps := by
  unfold State.incrHiWrite
  exact hs.commitIncr

theorem execPtpIncrLoWrite_canon (hs : s.canon ps) {req : Requester} {value : BitVec 32} :
    (execPtpIncrLoWrite req value s).canon ps := by
  unfold execPtpIncrLoWrite
  exact .next (hs.writing (hs.timeCommand hs.incrLoWrite))

theorem execPtpIncrHiWrite_canon (hs : s.canon ps) {req : Requester} {value : BitVec 32} :
    (execPtpIncrHiWrite req value s).canon ps := by
  unfold execPtpIncrHiWrite
  exact .next (hs.writing (hs.timeCommand hs.incrHiWrite))

theorem State.canon.refuseStep (hs : s.canon ps) {code : Nat} {d : Int} :
    (s.refuseStep code d).canon ps := by
  unfold State.refuseStep
  exact (State.canon.ite hs.setF.raise.setF hs.setF.raise).timeMark

theorem State.canon.stepCmd (hs : s.canon ps) {d : Int} :
    (s.stepCmd d).canon ps := by
  unfold State.stepCmd
  exact .ite hs.setF (.ite hs.refuseStep (.ite hs.refuseStep (.ite hs.refuseStep hs.setF.setF.mk)))

theorem State.canon.rebaseCmd (hs : s.canon ps) {ns : Nat} {keeps : Bool} :
    (s.rebaseCmd ns keeps).canon ps := by
  unfold State.rebaseCmd
  exact .ite hs.setF (.ite hs.setF hs.setF.setF.mk)

theorem State.canon.ptpStep (hs : s.canon ps) :
    s.ptpStep.canon ps := by
  unfold State.ptpStep
  exact hs.stepCmd

theorem State.canon.ptpRebase (hs : s.canon ps) :
    s.ptpRebase.canon ps := by
  unfold State.ptpRebase
  exact hs.rebaseCmd

theorem State.canon.ptpCancel (hs : s.canon ps) :
    s.ptpCancel.canon ps := by
  unfold State.ptpCancel
  exact hs.setF.setF.mk

theorem execStep_canon (hs : s.canon ps) {req : Requester} :
    (execStep req s).canon ps := by
  unfold execStep
  exact .next (hs.writing (hs.timeCommand hs.ptpStep))

theorem execRebase_canon (hs : s.canon ps) {req : Requester} :
    (execRebase req s).canon ps := by
  unfold execRebase
  exact .next (hs.writing (hs.timeCommand hs.ptpRebase))

theorem execPtpCancel_canon (hs : s.canon ps) {req : Requester} :
    (execPtpCancel req s).canon ps := by
  unfold execPtpCancel
  exact .next (hs.writing (hs.timeCommand hs.ptpCancel))

theorem State.canon.applyStep (hs : s.canon ps) :
    s.applyStep.canon ps := by
  unfold State.applyStep
  split
  · exact hs
  · exact hs.mk.setF.setF.raise.timeMark

theorem State.canon.postponeRegion (hs : s.canon ps) {r cause : Nat} :
    (s.postponeRegion r cause).canon ps := by
  unfold State.postponeRegion
  exact .ite hs.setF.setF.raise hs

theorem State.canon.postponeTriggers (hs : s.canon ps) :
    s.postponeTriggers.canon ps := by
  unfold State.postponeTriggers
  exact .foldl (fun _ _ hs => .ite hs.setF.setF.postponeRegion hs) hs

theorem State.canon.applyRebase (hs : s.canon ps) :
    s.applyRebase.canon ps := by
  unfold State.applyRebase
  split
  · exact hs
  · exact (State.canon.ite hs.mk.setF.setF hs.mk.setF.setF.setF).postponeTriggers.raise.timeMark

theorem State.canon.setPtpState (hs : s.canon ps) {port st : Nat} :
    (s.setPtpState port st).canon ps := by
  unfold State.setPtpState
  exact hs.setF

theorem State.canon.setForeign (hs : s.canon ps) {port : Nat} {l : List PtpForeign} :
    (s.setForeign port l).canon ps := by
  unfold State.setForeign
  exact hs.mk

theorem State.canon.announceWait (hs : s.canon ps) {port : Nat} :
    (s.announceWait port).canon ps := by
  unfold State.announceWait
  exact hs.mk

theorem State.canon.masterStep (hs : s.canon ps) :
    s.masterStep.canon ps := by
  unfold State.masterStep
  split
  · exact hs
  · exact .ite (State.canon.ite hs hs.setF).ptpLock (.ite hs hs.setF)

theorem State.canon.ptpAnnounce (hs : s.canon ps) {it : Bytes} {port : Nat} {own new : PtpForeign} :
    (s.ptpAnnounce it port own new).canon ps := by
  unfold State.ptpAnnounce
  dsimp only
  split
  · exact hs.setForeign
  · exact (State.canon.ite hs.setForeign.announceWait hs.setForeign).setPtpState.masterStep

theorem State.canon.announceLost (hs : s.canon ps) {it : Bytes} {port : Nat} :
    (s.announceLost it port).canon ps := by
  unfold State.announceLost
  exact hs.setForeign.setPtpState.announceWait

theorem State.canon.announceStep (hs : s.canon ps) :
    s.announceStep.canon ps := by
  unfold State.announceStep
  split
  · exact hs
  · exact .foldl (fun _ _ hs => by split; exacts [hs, .ite hs.announceLost.masterStep hs]) hs

theorem State.canon.ptpBegin (hs : s.canon ps) {port : Nat} :
    (s.ptpBegin port).canon ps := by
  unfold State.ptpBegin
  exact hs.setForeign.announceWait.setPtpState

theorem State.canon.ptpLockStep (hs : s.canon ps) {port lockNs : Nat} {offset : Int} :
    (s.ptpLockStep port lockNs offset).canon ps := by
  unfold State.ptpLockStep
  exact .ite (.ite hs.mk.ptpLock hs.mk) (.ite hs.mk.ptpUnlock hs.mk)

theorem execPtpSync_canon (hs : s.canon ps) {port : Nat} {offsetNs : Int} {delayNs : Nat} {incr : BitVec 36} :
    (execPtpSync port offsetNs delayNs incr s).canon ps := by
  unfold execPtpSync
  refine onUnit_canon ?_
  split
  · exact hs
  · exact .ite hs (.ite hs.setF.setF.setF (State.canon.ite (State.canon.ite hs.setF.setF.setF.mk.setF.commitIncr
      hs.setF.setF.setF.mk.setF).rebaseCmd (.ite (State.canon.ite hs.setF.setF.setF.mk.setF.commitIncr
      hs.setF.setF.setF.mk.setF).setF.stepCmd (.ite hs.setF.setF.setF.mk.setF.commitIncr
      hs.setF.setF.setF.mk.setF))).ptpLockStep)

theorem execPtpAnnounceTimeout_canon (hs : s.canon ps) :
    (execPtpAnnounceTimeout s).canon ps := by
  unfold execPtpAnnounceTimeout
  refine .next ?_
  split
  · exact hs
  · exact State.canon.masterStep (.ite (.foldl (fun _ _ hs => by
        split
        · exact hs
        · exact .ite hs hs.announceLost) hs) (State.canon.ptpUnlock (.foldl (fun _ _ hs => by
              split
              · exact hs
              · exact .ite hs hs.announceLost) hs)))

theorem State.canon.trigFire (hs : s.canon ps) {k : Nat} :
    (s.trigFire k).2.canon ps := by
  unfold State.trigFire
  exact State.canon.ite_snd hs.advanceTo.setF.setF.raise hs.advanceTo.setF.setF

theorem State.canon.setCaptures (hs : s.canon ps) {c : Nat} {l : List (BitVec 64)} :
    (s.setCaptures c l).canon ps := by
  unfold State.setCaptures
  exact hs.mk.setF

theorem State.canon.setCan (hs : s.canon ps) {n : Nat} {x : CanCtrl} :
    (s.setCan n x).canon ps := by
  unfold State.setCan
  exact hs.mk

theorem State.canon.canSof (hs : s.canon ps) {n : Nat} :
    (s.canSof n).canon ps := by
  unfold State.canSof
  exact .ite hs hs.setCan

theorem execCapture_canon (hs : s.canon ps) {ch : Nat} {rising : Bool} {ageNs : Nat} :
    (execCapture ch rising ageNs s).canon ps := by
  unfold execCapture
  exact onUnit_canon (.ite (.ite (State.canon.ite hs hs.canSof).mk.setCaptures (State.canon.ite hs
    hs.canSof).mk.incSat) (State.canon.ite hs hs.canSof).mk)

theorem State.canon.captureTake (hs : s.canon ps) {c : Nat} :
    (s.captureTake c).2.canon ps := by
  unfold State.captureTake
  split
  · exact hs
  · exact hs.setCaptures


/-! ### PtpMsg -/

theorem State.canon.ptpQueue (hs : s.canon ps) {it : Bytes} {port typ flags seq log : Nat} {body : Bytes} :
    (s.ptpQueue it port typ flags seq log body).canon ps := by
  unfold State.ptpQueue
  exact hs.enqueue

theorem State.canon.ptpSeq (hs : s.canon ps) {port kind : Nat} :
    (s.ptpSeq port kind).2.canon ps := by
  unfold State.ptpSeq
  exact hs.mk

theorem State.canon.ptpInterval (hs : s.canon ps) {it : Bytes} {port : Nat} {kind : PtpTxKind} :
    (s.ptpInterval it port kind).canon ps := by
  unfold State.ptpInterval
  dsimp only
  split
  · exact .ite hs.ptpSeq.ptpQueue hs
  · exact .ite hs.ptpSeq.ptpQueue hs
  · exact .ite hs.ptpSeq.ptpQueue (.ite hs.ptpSeq.ptpQueue hs)

theorem State.canon.ptpFollow (hs : s.canon ps) {port : Nat} {f : Bytes} :
    (s.ptpFollow port f).canon ps := by
  unfold State.ptpFollow
  split
  · exact hs
  · exact .ite hs (.ite hs.ptpQueue (.ite hs.ptpQueue hs))

theorem State.canon.ptpDelayResp (hs : s.canon ps) {it : Bytes} {port : Nat} {m : Bytes} {at_ : Nat} :
    (s.ptpDelayResp it port m at_).canon ps := by
  unfold State.ptpDelayResp
  exact .ite hs.incSat hs.mk.ptpQueue

theorem State.canon.ptpIn (hs : s.canon ps) {p : Pattern} {port : Nat} {m : Bytes} {at_ : Nat} :
    (s.ptpIn p port m at_).canon ps := by
  unfold State.ptpIn
  split
  · exact hs
  · exact .ite hs (.ite hs.ptpDelayResp (.ite hs.ptpQueue (.ite hs.ptpAnnounce hs)))


/-! ### SafeComm -/

theorem State.canon.setRx (hs : s.canon ps) {set : Nat} {x : RxSet} :
    (s.setRx set x).canon ps := by
  unfold State.setRx
  exact hs.mk

theorem State.canon.setTx (hs : s.canon ps) {set : Nat} {x : TxBuf} :
    (s.setTx set x).canon ps := by
  unfold State.setTx
  exact hs.mk

theorem State.canon.setTp (hs : s.canon ps) {c : Nat} {x : TpConn} :
    (s.setTp c x).canon ps := by
  unfold State.setTp
  exact hs.mk

theorem State.canon.setFilled (hs : s.canon ps) {k : Nat} {b : Bool} :
    (s.setFilled k b).canon ps := by
  unfold State.setFilled
  exact hs.mk

theorem State.canon.fillEth (hs : s.canon ps) {p : Pattern} {src ref : Nat} :
    (s.fillEth p src ref).canon ps := by
  unfold State.fillEth
  exact .foldl (fun _ _ hs => .foldl (fun _ _ hs => .ite hs.setFilled hs) hs) hs

theorem State.canon.setLast (hs : s.canon ps) {i set : Nat} {l : Option (BitVec 32)} :
    (s.setLast i set l).canon ps := by
  unfold State.setLast
  exact hs.setF.setRx

theorem State.canon.resolveSingle (hs : s.canon ps) {it : Bytes} {i : Nat} :
    (s.resolveSingle it i).canon ps := by
  unfold State.resolveSingle
  dsimp only
  split
  · exact hs
  · exact hs.setF.setF.incSat.setF.raise.setRx.setLast

theorem State.canon.holdCopy (hs : s.canon ps) {it : Bytes} {i port : Nat} {r : Bytes} :
    (s.holdCopy it i port r).canon ps := by
  unfold State.holdCopy
  exact hs.setF.setRx

theorem State.canon.resolvePair (hs : s.canon ps) {it : Bytes} {i : Nat} {hr r : Bytes} :
    (s.resolvePair it i hr r).canon ps := by
  unfold State.resolvePair
  exact .ite hs.setF.setF.setRx.setLast hs.setF.setF.incSat.raise.setRx.setLast

theorem State.canon.pdCopy (hs : s.canon ps) {p : Pattern} {port i : Nat} {r : Bytes} :
    (s.pdCopy p port i r).canon ps := by
  unfold State.pdCopy
  refine .ite hs.incSat ?_
  refine .ite hs.incSat.raise ?_
  refine .ite hs.incSat ?_
  split
  · exact hs.holdCopy
  · exact .ite (.ite hs.incSat hs.resolvePair) (.ite hs.incSat hs.resolveSingle.holdCopy)

theorem execPdCopy_canon (hs : s.canon ps) {port set : Nat} {record : Bytes} :
    (execPdCopy port set record s).canon ps := by
  unfold execPdCopy
  refine onUnit_canon ?_
  split
  · exact hs
  · exact .ite hs.pdCopy hs

theorem State.canon.setStops (hs : s.canon ps) {p : Pattern} {it : Bytes} :
    (s.setStops p it).canon ps := by
  unfold State.setStops
  dsimp only
  split
  · exact (State.canon.ite hs hs.raise).setLast
  · exact hs.raise

theorem State.canon.latchSet (hs : s.canon ps) {p : Pattern} {it : Bytes} :
    (s.latchSet p it).2.canon ps := by
  unfold State.latchSet
  exact State.canon.latchItem (State.canon.ite_snd (.ite (State.canon.setStops (by
      split
      · exact State.canon.setB (State.canon.setRx (by split; exacts [.ite hs.setRx.resolveSingle hs.setRx, hs]))
      · exact State.canon.setRx (by split; exacts [.ite hs.setRx.resolveSingle hs.setRx, hs]))) (by
            split
            · exact State.canon.setB (State.canon.setRx (by split; exacts [.ite hs.setRx.resolveSingle hs.setRx, hs]))
            · exact State.canon.setRx (by
                  split
                  · exact .ite hs.setRx.resolveSingle hs.setRx
                  · exact hs))) (State.canon.fresh (.ite (State.canon.setStops (by
                  split
                  · exact State.canon.setB (State.canon.setRx (by
                        split
                        · exact .ite hs.setRx.resolveSingle hs.setRx
                        · exact hs))
                  · exact State.canon.setRx (by split; exacts [.ite hs.setRx.resolveSingle hs.setRx, hs]))) (by
                        split
                        · exact State.canon.setB (State.canon.setRx (by
                              split
                              · exact .ite hs.setRx.resolveSingle hs.setRx
                              · exact hs))
                        · exact State.canon.setRx (by split; exacts [.ite hs.setRx.resolveSingle hs.setRx, hs])))))

theorem execPdSingle_canon (hs : s.canon ps) {set : Nat} :
    (execPdSingle set s).canon ps := by
  unfold execPdSingle
  refine onUnit_canon ?_
  split
  · exact hs
  · exact .ite hs.resolveSingle hs

theorem execPdStale_canon (hs : s.canon ps) {set : Nat} :
    (execPdStale set s).canon ps := by
  unfold execPdStale
  refine onUnit_canon ?_
  split
  · exact hs
  · exact .ite hs.setRx.setF.setStops.fresh.latchItem hs

theorem State.canon.payloadRead (hs : s.canon ps) {p : Pattern} {writer seg off len : Nat} :
    (s.payloadRead p writer seg off len).canon ps := by
  unfold State.payloadRead
  exact .ite (.ite hs.engRead hs) hs.outputRead

theorem State.canon.sendSet (hs : s.canon ps) {p : Pattern} {it : Bytes} :
    (s.sendSet p it).canon ps := by
  unfold State.sendSet
  refine .ite ?_ hs
  split
  · exact hs
  · exact .ite (State.canon.fillEth (by
        split
        · exact hs.payloadRead.setTx.setF
        · exact hs.payloadRead.setTx)) hs.payloadRead.setTx.fillEth

theorem State.canon.sendSets (hs : s.canon ps) {p : Pattern} :
    (s.sendSets p).canon ps := by
  unfold State.sendSets
  exact .ite (.foldl (fun _ _ hs => hs.sendSet) hs) hs

theorem State.canon.setTpState (hs : s.canon ps) {c st : Nat} :
    (s.setTpState c st).canon ps := by
  unfold State.setTpState
  exact hs.setF.setF

theorem State.canon.tpFail (hs : s.canon ps) {c cause : Nat} :
    (s.tpFail c cause).canon ps := by
  unfold State.tpFail
  exact .ite hs hs.setTpState.setF.incSat

theorem State.canon.tpCrcCheck (hs : s.canon ps) {it : Bytes} {c : Nat} :
    (s.tpCrcCheck it c).canon ps := by
  unfold State.tpCrcCheck
  exact .ite hs.tpFail.raise hs

theorem State.canon.tpTimeoutCheck (hs : s.canon ps) {it : Bytes} {c : Nat} :
    (s.tpTimeoutCheck it c).canon ps := by
  unfold State.tpTimeoutCheck
  exact .ite (.ite hs.tpFail.raise hs) (.ite hs.tpFail.raise hs)

theorem State.canon.tpMessage (hs : s.canon ps) {it : Bytes} {c path : Nat} {m : Bytes} :
    (s.tpMessage it c path m).canon ps := by
  unfold State.tpMessage
  exact .ite hs.incSat.incSat.tpCrcCheck (.ite hs.tpFail.raise hs.setTp)

theorem State.canon.onTp (hs : s.canon ps) {c : Nat} {f : State → Bytes → State} (hf : ∀ s0 u1, s0.canon ps → (f s0
    u1).canon ps) :
    (s.onTp c f).canon ps := by
  unfold State.onTp
  refine onUnit_canon ?_
  split
  · exact hf _ _ hs
  · exact hs

theorem execTpMessage_canon (hs : s.canon ps) {conn path : Nat} {message : Bytes} :
    (execTpMessage conn path message s).canon ps := by
  unfold execTpMessage
  exact hs.onTp (fun _ _ hs => .ite hs.tpMessage hs)

theorem execTpTimeout_canon (hs : s.canon ps) {conn : Nat} :
    (execTpTimeout conn s).canon ps := by
  unfold execTpTimeout
  exact hs.onTp (fun _ _ hs => hs.tpTimeoutCheck)

theorem execTpCrcLimit_canon (hs : s.canon ps) {conn : Nat} :
    (execTpCrcLimit conn s).canon ps := by
  unfold execTpCrcLimit
  exact hs.onTp (fun _ _ hs => hs.tpCrcCheck)

theorem State.canon.tpFill (hs : s.canon ps) {p : Pattern} {it : Bytes} :
    (s.tpFill p it).canon ps := by
  unfold State.tpFill
  exact .ite hs.setFilled hs.fillEth

theorem State.canon.tpAccept (hs : s.canon ps) {p : Pattern} {it : Bytes} {path : Nat} {m : Bytes} :
    (s.tpAccept p it path m).canon ps := by
  unfold State.tpAccept
  exact (State.canon.ite hs.setF.setF.setF.setB.setTp.raise hs.setF.setF.setF.setB.setTp).tpFill

theorem State.canon.tpData (hs : s.canon ps) {p : Pattern} {it : Bytes} {path : Nat} {m : Bytes} :
    (s.tpData p it path m).2.canon ps := by
  unfold State.tpData
  exact State.canon.ite_snd hs.setTpState.incSat.raise.tpAccept (State.canon.ite_snd hs (State.canon.ite_snd
    hs.tpAccept (State.canon.ite_snd hs.tpFill hs.tpFail.raise)))

theorem State.canon.latchConsumer (hs : s.canon ps) {p : Pattern} {it : Bytes} :
    (s.latchConsumer p it).2.canon ps := by
  unfold State.latchConsumer
  refine State.canon.latchItem (State.canon.tpTimeoutCheck ?_)
  exact State.canon_foldl_snd (fun _ _ hr => hr.tpData) hs.setTp.incSat

theorem State.canon.latchProducer (hs : s.canon ps) {it : Bytes} :
    (s.latchProducer it).canon ps := by
  unfold State.latchProducer
  exact .ite hs.setTp.setTpState (.ite hs.setTp.setTpState.setF hs.setTp.incSat.tpTimeoutCheck)

theorem State.canon.tpSnapshot (hs : s.canon ps) {p : Pattern} {it : Bytes} {seq : Nat} {restart : Bool} :
    (s.tpSnapshot p it seq restart).canon ps := by
  unfold State.tpSnapshot
  exact .ite hs (State.canon.ite (State.canon.ite hs hs.payloadRead).setF.setB.setTpState.incSat (State.canon.ite hs
    hs.payloadRead).setF.setB).setTp

theorem State.canon.tpProduce (hs : s.canon ps) {p : Pattern} {it : Bytes} :
    (s.tpProduce p it).canon ps := by
  unfold State.tpProduce
  exact .ite (.ite (.ite hs.fresh.tpSnapshot (.ite hs.tpSnapshot hs)) (State.canon.ite hs.fresh.tpSnapshot (.ite
    hs.tpSnapshot hs)).setTp.tpFill) hs

theorem State.canon.tpProduceAll (hs : s.canon ps) {p : Pattern} :
    (s.tpProduceAll p).canon ps := by
  unfold State.tpProduceAll
  exact .ite (.foldl (fun _ _ hs => hs.tpProduce) hs) hs

theorem State.canon.tpTake (hs : s.canon ps) {it : Bytes} :
    (s.tpTake it).2.canon ps := by
  unfold State.tpTake
  exact State.canon.ite_snd hs (State.canon.ite_snd hs.setTp (State.canon.ite_snd hs hs))

theorem State.canon.safeCommRestart (hs : s.canon ps) {p : Pattern} :
    (s.safeCommRestart p).canon ps := by
  unfold State.safeCommRestart
  exact .foldl (fun _ _ hs => hs.setF.setF.setF.setTp.setTpState) (.foldl (fun _ _ hs => .ite hs hs.setLast) hs)

theorem State.canon.safeCommTakeover (hs : s.canon ps) {p : Pattern} :
    (s.safeCommTakeover p).canon ps := by
  unfold State.safeCommTakeover
  exact .foldl (fun _ _ hs => .ite hs.setTp.setTpState (.ite hs.setTpState hs)) (.foldl (fun _ _ hs => .ite
    hs.setTx.setF hs) hs)

theorem State.canon.safeCommConfigure (hs : s.canon ps) {p : Pattern} :
    (s.safeCommConfigure p).canon ps := by
  unfold State.safeCommConfigure
  exact .foldl (fun _ _ hs => hs.setB.setB) (.foldl (fun _ _ hs => hs.setB.setB.setF) hs.setF.setF)


/-! ### Operands -/

theorem State.canon.record (hs : s.canon ps) {x : Core} {off n v : Nat} :
    (s.record x off n v).canon ps := by
  unfold State.record
  exact hs.setSig

theorem State.canon.signLocal (hs : s.canon ps) {x : Core} {off n v : Nat} :
    (s.signLocal x off n v).canon ps := by
  unfold State.signLocal
  exact .ite hs.record hs

theorem State.canon.signShared (hs : s.canon ps) {x : Core} {off n v : Nat} :
    (s.signShared x off n v).canon ps := by
  unfold State.signShared
  exact .ite hs.record hs

theorem State.canon.loadAt (hs : s.canon ps) {ma n addr : Nat} : (∀ e, s.loadAt ma n addr = .inl e → e.canon ps) ∧
    ∀ x, s.loadAt ma n addr = .inr x → x.2.canon ps := by
  unfold State.loadAt
  split
  · next heq => exact ⟨fun e he => Sum.inl.inj he ▸ State.canon_snd heq hs.eccRead, fun x hx => nomatch hx⟩
  · next heq => exact ⟨fun e he => (nomatch he), fun x hx => Sum.inr.inj hx ▸ State.canon_snd heq hs.eccRead⟩

theorem State.canon.storeAt (hs : s.canon ps) {ma n v addr : Nat} : (∀ e, s.storeAt ma n v addr = .inl e → e.canon ps) ∧
    ∀ t, s.storeAt ma n v addr = .inr t → t.canon ps := by
  unfold State.storeAt
  split_ifs
  · exact ⟨fun e he => (nomatch he), fun t ht => Sum.inr.inj ht ▸ hs.wrLe.eccClearWords⟩
  · split
    · next heq => exact ⟨fun e he => Sum.inl.inj he ▸ State.canon_snd heq hs.eccRead, fun x hx => nomatch hx⟩
    · next heq =>
      exact ⟨fun e he => (nomatch he), fun x hx => Sum.inr.inj hx ▸ (State.canon_snd heq hs.eccRead).wrLe.eccClearWords⟩


/-! ### CoreOps -/

theorem State.canon.coreIdle (hs : s.canon ps) {c : Nat} {r : Running} :
    (s.coreIdle c r).canon ps := by
  unfold State.coreIdle
  exact hs.setSelv.finishEntry

theorem State.canon.abortCore (hs : s.canon ps) {c : Nat} {r : Running} {degraded : Bool} {at_ : Nat} :
    (s.abortCore c r degraded at_).canon ps := by
  unfold State.abortCore
  exact State.canon.coreIdle (by split; exacts [hs.cutTask, hs.cutTask, hs.finishRun, hs])

theorem State.canon.takeCoreException (hs : s.canon ps) {c : Nat} {r : Running} {cause : ExcCause} {addr : Nat} :
    (s.takeCoreException c r cause addr).canon ps := by
  unfold State.takeCoreException
  exact (State.canon.ite hs.abortCore hs.abortCore.setF.setF.setF.setF.setF.setF.setF).incSat.raiseCls

theorem State.canon.fetch (hs : s.canon ps) {c : Nat} {pc : BitVec 32} :
    (s.fetch c pc).2.canon ps := by
  unfold State.fetch
  refine State.canon.ite_snd ?_ hs
  split
  · next heq =>
      exact (State.canon_snd heq hs.eccReadWord)
  · next heq =>
      exact (State.canon_snd heq hs.eccReadWord)

theorem State.canon.spend (hs : s.canon ps) {c cost : Nat} :
    (s.spend c cost).canon ps := by
  unfold State.spend
  exact hs.setCore

theorem State.canon.coreRun (hs : s.canon ps) {c cost : Nat} {f : Core → State → CoreStep} (hf : ∀ u0 s1, s1.canon ps →
    (f u0 s1).canon ps) :
    (s.coreRun c cost f).canon ps := by
  unfold State.coreRun
  split
  · exact hs
  · refine .ite hs ?_
    split
    · next heq => exact (State.canon_snd heq hs.fetch).takeCoreException
    · next heq =>
      have hu := State.canon_snd heq hs.fetch
      split
      · next heq => exact State.canon.takeCoreException (CoreStep.canon_exc (heq ▸ hf _ _ hu))
      · next heq => exact .ite hu.spend (State.canon.setCore (CoreStep.canon_ok (heq ▸ hf _ _ hu))).spend

theorem State.canon.coreReg (hs : s.canon ps) {c cost : Nat} {f : Core → Core} :
    (s.coreReg c cost f).canon ps := by
  unfold State.coreReg
  exact hs.coreRun (fun _ _ hs => hs.setCore)

theorem onCore_canon {c : Nat} {t : State} (ht : t.canon ps) :
    (onCore c t).canon ps := by
  unfold onCore
  exact onUnit_canon ht


/-! ### Slots -/

theorem State.canon.startCore (hs : s.canon ps) {c : Nat} {r : Running} {x : Core} :
    (s.startCore c r x).canon ps := by
  unfold State.startCore
  exact hs.beginEntry.setCore.setSelv

theorem State.canon.uncut (hs : s.canon ps) {k : Nat} :
    (s.uncut k).canon ps := by
  unfold State.uncut
  exact hs.mk

theorem State.canon.coreSegStart (hs : s.canon ps) {c k : Nat} {r : Running} {p : Pattern} :
    (s.coreSegStart c k r p).canon ps := by
  unfold State.coreSegStart
  refine .ite hs.atTick.passEntry ?_
  split
  · exact hs.atTick.countOverrun.cutTask.passEntry
  · exact (State.canon.ite hs.atTick.uncut hs.atTick).startCore

theorem State.canon.selvSegStart (hs : s.canon ps) {c k : Nat} {r : Running} {p : Pattern} :
    (s.selvSegStart c k r p).canon ps := by
  unfold State.selvSegStart
  refine .ite hs.atTick.passEntry ?_
  split
  · exact hs.atTick.countOverrun.finishRun.passEntry
  · exact hs.atTick.setSig.startCore

theorem State.canon.evtSlotStart (hs : s.canon ps) {c k : Nat} {r : Running} {p : Pattern} :
    (s.evtSlotStart c k r p).canon ps := by
  unfold State.evtSlotStart
  refine .ite hs.atTick.passEntry ?_
  split
  · exact hs.atTick.passEntry
  · refine .ite ?_ hs.atTick.passEntry
    split
    · exact hs.atTick.setTriggers.countOverrun.cutTask.passEntry
    · exact hs.atTick.setTriggers.uncut.startCore

theorem State.canon.coreEntry (hs : s.canon ps) {c k : Nat} {kind : EntryKind} {f : State → Nat → Nat → Running →
    Pattern → State} (hf : ∀ s0 u1 u2 u3 u4, s0.canon ps → (f s0 u1 u2 u3 u4).canon ps) :
    (s.coreEntry c k kind f).canon ps := by
  unfold State.coreEntry
  split
  · exact .ite (.ite (hf _ _ _ _ _ hs) hs.atTick.passEntry) hs
  · exact hs

theorem execCoreSeg_canon (hs : s.canon ps) {c k : Nat} :
    (execCoreSeg c k s).canon ps := by
  unfold execCoreSeg
  exact onCore_canon (hs.coreEntry (fun _ _ _ _ _ h => h.coreSegStart))

theorem execSelvSeg_canon (hs : s.canon ps) {c k : Nat} :
    (execSelvSeg c k s).canon ps := by
  unfold execSelvSeg
  exact onCore_canon (hs.coreEntry (fun _ _ _ _ _ h => h.selvSegStart))

theorem execEvtSlot_canon (hs : s.canon ps) {c k : Nat} :
    (execEvtSlot c k s).canon ps := by
  unfold execEvtSlot
  exact onCore_canon (hs.coreEntry (fun _ _ _ _ _ h => h.evtSlotStart))


/-! ### Ethernet -/

theorem onPort_canon {port : Nat} {t : State} (ht : t.canon ps) :
    (onPort port t).canon ps := by
  unfold onPort
  exact onUnit_canon ht

theorem execEthLinkUp_canon (hs : s.canon ps) {port speed : Nat} {full matched : Bool} :
    (execEthLinkUp port speed full matched s).canon ps := by
  unfold execEthLinkUp
  exact onPort_canon (.ite hs (.ite hs (.ite (.ite hs.setF.setF.setB.setF.raise.ptpBegin hs.setF.setF.setB.setF.raise)
    (.ite hs.setF.raise hs))))

theorem execEthLinkDown_canon (hs : s.canon ps) {port : Nat} :
    (execEthLinkDown port s).canon ps := by
  unfold execEthLinkDown
  exact onPort_canon (.ite (.ite hs.setF.incSat.raise.setForeign.setPtpState hs.setF.incSat.raise) hs)

theorem execEthMacsecSecured_canon (hs : s.canon ps) {install : SakInstall} :
    (execEthMacsecSecured install s).canon ps := by
  unfold execEthMacsecSecured
  exact onUnit_canon (.ite hs.setMacsec.setF.raise hs)

theorem execEthMacsecLost_canon (hs : s.canon ps) {port : Nat} :
    (execEthMacsecLost port s).canon ps := by
  unfold execEthMacsecLost
  exact onUnit_canon (.ite hs.setMacsec.setF.raise hs)

theorem State.canon.ethTake (hs : s.canon ps) {p : Pattern} {port : Nat} {it : Bytes} :
    (s.ethTake p port it).2.canon ps := by
  unfold State.ethTake
  refine State.canon.ite_snd hs ?_
  split
  · exact hs
  · dsimp only
    split
    · exact hs
    · exact hs
  · split
    · exact hs
    · exact hs.tpTake
  · exact hs

theorem State.canon.ethNoData (hs : s.canon ps) {port : Nat} :
    (s.ethNoData port).canon ps := by
  unfold State.ethNoData
  exact hs.mk

theorem State.canon.ethSlotStart (hs : s.canon ps) {port k : Nat} {r : Running} {p : Pattern} :
    (s.ethSlotStart port k r p).canon ps := by
  unfold State.ethSlotStart
  dsimp only
  split
  · exact hs.atTick.finishEntry
  · refine .ite hs.atTick.ethNoData.finishEntry ?_
    split
    · next heq =>
        exact (State.canon_snd heq hs.atTick.setFilled.ethTake).ethNoData.finishEntry
    · next heq =>
        exact .ite (State.canon_snd heq hs.atTick.setFilled.ethTake).emit.finishEntry (State.canon_snd heq
          hs.atTick.setFilled.ethTake).countOverrun.finishEntry

theorem execEthSlotStart_canon (hs : s.canon ps) {port entry : Nat} :
    (execEthSlotStart port entry s).canon ps := by
  unfold execEthSlotStart
  refine onUnit_canon ?_
  split
  · exact .ite hs (.ite hs.ethSlotStart hs.atTick.passEntry)
  · exact hs

theorem execUnscheduledSend_canon (hs : s.canon ps) {port : Nat} :
    (execUnscheduledSend port s).canon ps := by
  unfold execUnscheduledSend
  refine onUnit_canon ?_
  refine .ite hs ?_
  split
  · exact hs
  · exact .ite hs.setWaiting.emit.ptpFollow hs

theorem State.canon.setBuffer (hs : s.canon ps) {port cls n : Nat} :
    (s.setBuffer port cls n).canon ps := by
  unfold State.setBuffer
  exact hs.mk

theorem State.canon.drainBuffers (hs : s.canon ps) :
    s.drainBuffers.canon ps := by
  unfold State.drainBuffers
  exact hs.mk

theorem State.canon.takeBuffer (hs : s.canon ps) {port cls n : Nat} {full : Fld} :
    (s.takeBuffer port cls n full).2.canon ps := by
  unfold State.takeBuffer
  exact State.canon.ite_snd hs.incSat hs.setBuffer.incWrap

theorem State.canon.plainCopy (hs : s.canon ps) {port : Nat} {it : Bytes} {len : Nat} {stitch : BitVec 32} {payload :
    Bytes} :
    (s.plainCopy port it len stitch payload).canon ps := by
  unfold State.plainCopy
  exact .ite hs.incSat hs.setRx.incWrap

theorem State.canon.dunhelIn (hs : s.canon ps) {p : Pattern} {port : Nat} {f h : Bytes} :
    (s.dunhelIn p port f h).canon ps := by
  unfold State.dunhelIn
  exact .ite (.ite (State.canon.ite hs hs.mk).plainCopy (State.canon.ite hs hs.mk).incWrap) (.ite (State.canon.ite hs
    hs.mk).incWrap (.ite (.ite (.ite hs.takeBuffer hs.takeBuffer.mk) hs.takeBuffer) hs.incSat))

theorem State.canon.openFrame (hs : s.canon ps) {port : Nat} {f : Bytes} {at_ : Nat} :
    (s.openFrame port f at_).canon ps := by
  unfold State.openFrame
  dsimp only
  split
  · exact hs.incSat
  · exact .ite (.ite hs.takeBuffer.ptpIn hs.takeBuffer) (.ite hs.dunhelIn hs.incSat)

theorem State.canon.keyFrame (hs : s.canon ps) {port : Nat} :
    (s.keyFrame port).canon ps := by
  unfold State.keyFrame
  exact .ite hs.takeBuffer.fresh.enqueue hs.takeBuffer

theorem State.canon.plantFrame (hs : s.canon ps) {port : Nat} {f : Bytes} {st : EthRxStatus} :
    (s.plantFrame port f st).canon ps := by
  unfold State.plantFrame
  refine .ite hs.incSat (.ite hs.incSat (.ite hs.keyFrame (.ite ?_ hs.openFrame)))
  split
  · exact hs.incSat
  · next heq => exact (hs.secOpen heq).openFrame

theorem State.canon.svcSend (hs : s.canon ps) {f : Bytes} :
    (s.svcSend f).canon ps := by
  unfold State.svcSend
  exact hs.emit

theorem State.canon.svcArp (hs : s.canon ps) {f h : Bytes} :
    (s.svcArp f h).canon ps := by
  unfold State.svcArp
  exact .ite hs.svcSend hs

theorem State.canon.svcEcho (hs : s.canon ps) {f h : Bytes} :
    (s.svcEcho f h).canon ps := by
  unfold State.svcEcho
  exact .ite hs.svcSend hs

theorem State.canon.svcFrame (hs : s.canon ps) {f : Bytes} :
    (s.svcFrame f).canon ps := by
  unfold State.svcFrame
  exact .ite hs.incWrap.svcArp (.ite hs.incWrap.svcEcho hs.incSat)

theorem execEthFrameReceived_canon (hs : s.canon ps) {port : Nat} {frame : Bytes} {status : EthRxStatus} :
    (execEthFrameReceived port frame status s).canon ps := by
  unfold execEthFrameReceived
  exact onPort_canon (.ite hs (.ite hs.plantFrame (.ite hs.incSat hs.svcFrame)))

theorem execPtpMessageInterval_canon (hs : s.canon ps) {port : Nat} {kind : PtpTxKind} :
    (execPtpMessageInterval port kind s).canon ps := by
  unfold execPtpMessageInterval
  refine onUnit_canon ?_
  split
  · exact hs
  · exact .ite hs.ptpInterval hs


/-! ### Can -/

theorem State.canon.setMb (hs : s.canon ps) {n m : Nat} {x : Mailbox} :
    (s.setMb n m x).canon ps := by
  unfold State.setMb
  exact hs.mk

theorem State.canon.canOff (hs : s.canon ps) {n : Nat} :
    (s.canOff n).canon ps := by
  unfold State.canOff
  exact hs.setF.setF.setF.setF.setF.setF.setCan

theorem State.canon.canLoosen (hs : s.canon ps) {n m : Nat} :
    (s.canLoosen n m).canon ps := by
  unfold State.canLoosen
  exact (State.canon.ite hs.setF hs).setF.setF

theorem State.canon.canTighten (hs : s.canon ps) {n m : Nat} :
    (s.canTighten n m).canon ps := by
  unfold State.canTighten
  exact .ite hs.canOff hs.setF

theorem State.canon.canTightenDue (hs : s.canon ps) {n m : Nat} :
    (s.canTightenDue n m).canon ps := by
  unfold State.canTightenDue
  exact .ite hs.setCan hs.canTighten

theorem State.canon.canModeBoundary (hs : s.canon ps) {n : Nat} :
    (s.canModeBoundary n).canon ps := by
  unfold State.canModeBoundary
  dsimp only
  split
  · exact .ite hs.canTightenDue hs
  · exact .ite hs.canTightenDue (.ite hs hs.canLoosen)

theorem State.canon.canFrameEnd (hs : s.canon ps) {n : Nat} :
    (s.canFrameEnd n).canon ps := by
  unfold State.canFrameEnd
  dsimp only
  split
  · exact hs.setCan.canTighten
  · exact hs.setCan

theorem onCan_canon {n : Nat} {t : State} (ht : t.canon ps) :
    (onCan n t).canon ps := by
  unfold onCan
  exact onUnit_canon ht

theorem execIntegrationEnd_canon (hs : s.canon ps) {n : Nat} :
    (execIntegrationEnd n s).canon ps := by
  unfold execIntegrationEnd
  exact onCan_canon hs.setF.canFrameEnd

theorem State.canon.canWithdraw (hs : s.canon ps) {n slot : Nat} {r : Running} :
    (s.canWithdraw n slot r).canon ps := by
  unfold State.canWithdraw
  exact hs.countOverrun.incSat.raise

theorem State.canon.canSlotTake (hs : s.canon ps) {p : Pattern} {n slot : Nat} {it : Bytes} :
    (s.canSlotTake p n slot it).2.canon ps := by
  unfold State.canSlotTake
  split
  · exact hs.queueTake
  · exact hs.halfRead
  · refine State.canon.ite_snd ?_ hs
    split
    · exact hs
    · exact hs.setFilled.tpTake

theorem State.canon.canSlotStart (hs : s.canon ps) {n k : Nat} {r : Running} {p : Pattern} :
    (s.canSlotStart n k r p).canon ps := by
  unfold State.canSlotStart
  dsimp only
  split
  · exact hs.atTick.finishEntry
  · split
    · next heq =>
        exact (State.canon_snd heq hs.atTick.canSlotTake).incSat.finishEntry
    · next heq =>
        exact .ite (State.canon_snd heq hs.atTick.canSlotTake).incSat.finishEntry (State.canon_snd heq
          hs.atTick.canSlotTake).setCan.beginEntry

theorem execCanSlotStart_canon (hs : s.canon ps) {ctrl entry : Nat} :
    (execCanSlotStart ctrl entry s).canon ps := by
  unfold execCanSlotStart
  refine onCan_canon ?_
  split
  · exact .ite hs (.ite hs.atTick.passEntry (.ite hs.atTick.countOverrun.passEntry hs.canSlotStart))
  · exact hs

theorem State.canon.canSlotOver (hs : s.canon ps) {n : Nat} {r : Running} :
    (s.canSlotOver n r).canon ps := by
  unfold State.canSlotOver
  dsimp only
  split
  · exact hs
  · split
    · exact .ite hs.setCan hs.setCan.canWithdraw
    · exact hs.setCan.canWithdraw

theorem execCanSlotEnd_canon (hs : s.canon ps) {ctrl : Nat} :
    (execCanSlotEnd ctrl s).canon ps := by
  unfold execCanSlotEnd
  refine onCan_canon ?_
  split
  · exact hs
  · exact hs.atTick.canSlotOver.finishEntry

theorem State.canon.canHeadRead (hs : s.canon ps) {n : Nat} :
    (s.canHeadRead n).canon ps := by
  unfold State.canHeadRead
  split
  · exact hs
  · exact hs.engRead

theorem State.canon.canPop (hs : s.canon ps) {n : Nat} :
    (s.canPop n).canon ps := by
  unfold State.canPop
  split
  · exact hs
  · exact .ite hs hs.queueGet

theorem State.canon.canAttemptFails (hs : s.canon ps) {n : Nat} {t : CanSending} :
    (s.canAttemptFails n t).canon ps := by
  unfold State.canAttemptFails
  dsimp only
  split
  · exact hs.setCan.canWithdraw
  · exact hs.setCan
  · exact .ite hs.setCan.canPop hs.setCan

theorem State.canon.canOffer (hs : s.canon ps) {n : Nat} {slot : Option Nat} {rec : Bytes} :
    (s.canOffer n slot rec).canon ps := by
  unfold State.canOffer
  exact hs.setCan

theorem State.canon.canStart (hs : s.canon ps) {n : Nat} :
    (s.canStart n).canon ps := by
  unfold State.canStart
  refine .ite hs ?_
  split
  · exact hs.canOffer
  · split
    · exact hs
    · exact .ite hs.canHeadRead.incSat.canPop hs.canHeadRead.canOffer

theorem execCanArbitration_canon (hs : s.canon ps) {ctrl : Nat} {moment : CanArbitration} :
    (execCanArbitration ctrl moment s).canon ps := by
  unfold execCanArbitration
  refine onCan_canon ?_
  dsimp only
  split
  · exact hs.canStart.setCan
  · exact .ite hs.canStart hs.canStart.incSat.canAttemptFails
  · exact hs.canStart

theorem State.canon.canConfine (hs : s.canon ps) {n : Nat} :
    (s.canConfine n).canon ps := by
  unfold State.canConfine
  exact .ite hs.setF.incSat.raise (.ite hs.setF.raise hs)

theorem State.canon.canBusOff (hs : s.canon ps) {n : Nat} :
    (s.canBusOff n).canon ps := by
  unfold State.canBusOff
  exact hs.setF.setF.incSat.setB.raise

theorem State.canon.canTecUp (hs : s.canon ps) {n : Nat} :
    (s.canTecUp n).canon ps := by
  unfold State.canTecUp
  exact .ite hs.canBusOff hs.setF.canConfine

theorem State.canon.canRecUp (hs : s.canon ps) {n k : Nat} :
    (s.canRecUp n k).canon ps := by
  unfold State.canRecUp
  exact hs.addSat.canConfine

theorem State.canon.canTecDown (hs : s.canon ps) {n : Nat} :
    (s.canTecDown n).canon ps := by
  unfold State.canTecDown
  exact hs.decF.canConfine

theorem State.canon.canRecDown (hs : s.canon ps) {n : Nat} :
    (s.canRecDown n).canon ps := by
  unfold State.canRecDown
  exact .ite hs (.ite hs.setF.canConfine hs.fresh.setF.canConfine)

theorem State.canon.canTdc (hs : s.canon ps) {n : Nat} {rec : Bytes} {echoes : List Nat} :
    (s.canTdc n rec echoes).canon ps := by
  unfold State.canTdc
  exact .ite (.ite hs.setF.setF hs.setF.setF.setF.raise) hs

theorem execCanError_canon (hs : s.canon ps) {ctrl : Nat} {kind : CanErrKind} {effect : CanErrEffect} {place :
    CanErrPlace} :
    (execCanError ctrl kind effect place s).canon ps := by
  unfold execCanError
  exact onCan_canon (.ite hs (.ite hs (State.canon.canFrameEnd (.ite (State.canon.setF (by
      split
      · exact State.canon.canTecUp (by
            split
            · exact State.canon.canAttemptFails (by split; exacts [hs.setF.setB.canTdc, hs.setF.setB])
            · exact .ite hs.setF.setB.incSat hs.setF.setB)
      · exact State.canon.canRecUp (by
            split
            · exact State.canon.canAttemptFails (by split; exacts [hs.setF.setB.canTdc, hs.setF.setB])
            · exact .ite hs.setF.setB.incSat hs.setF.setB)
      · exact State.canon.canRecUp (by
            split
            · exact State.canon.canAttemptFails (by split; exacts [hs.setF.setB.canTdc, hs.setF.setB])
            · exact .ite hs.setF.setB.incSat hs.setF.setB)
      · split
        · exact State.canon.canAttemptFails (by split; exacts [hs.setF.setB.canTdc, hs.setF.setB])
        · exact .ite hs.setF.setB.incSat hs.setF.setB)) (by
              split
              · exact State.canon.canTecUp (by
                    split
                    · exact State.canon.canAttemptFails (by split; exacts [hs.setF.setB.canTdc, hs.setF.setB])
                    · exact .ite hs.setF.setB.incSat hs.setF.setB)
              · exact State.canon.canRecUp (by
                    split
                    · exact State.canon.canAttemptFails (by split; exacts [hs.setF.setB.canTdc, hs.setF.setB])
                    · exact .ite hs.setF.setB.incSat hs.setF.setB)
              · exact State.canon.canRecUp (by
                    split
                    · exact State.canon.canAttemptFails (by split; exacts [hs.setF.setB.canTdc, hs.setF.setB])
                    · exact .ite hs.setF.setB.incSat hs.setF.setB)
              · split
                · exact State.canon.canAttemptFails (by split; exacts [hs.setF.setB.canTdc, hs.setF.setB])
                · exact .ite hs.setF.setB.incSat hs.setF.setB)))))

theorem State.canon.canRecover (hs : s.canon ps) {n : Nat} :
    (s.canRecover n).canon ps := by
  unfold State.canRecover
  exact .ite hs.setF hs

theorem State.canon.canClearCounts (hs : s.canon ps) {n : Nat} :
    (s.canClearCounts n).canon ps := by
  unfold State.canClearCounts
  exact hs.setR.setR.setR

theorem execRecover_canon (hs : s.canon ps) {req : Requester} {ctrl : Nat} :
    (execRecover req ctrl s).canon ps := by
  unfold execRecover
  exact onUnit_canon (hs.commanded hs.canRecover)

theorem execClearCounts_canon (hs : s.canon ps) {req : Requester} {ctrl : Nat} :
    (execClearCounts req ctrl s).canon ps := by
  unfold execClearCounts
  exact onUnit_canon (hs.commanded hs.canClearCounts)

theorem execBusOffRecoveryEnd_canon (hs : s.canon ps) {ctrl : Nat} :
    (execBusOffRecoveryEnd ctrl s).canon ps := by
  unfold execBusOffRecoveryEnd
  exact onCan_canon (.ite hs.setF.setF.setF.setF.raise hs)

theorem execCanProtocolExc_canon (hs : s.canon ps) {ctrl : Nat} :
    (execCanProtocolExc ctrl s).canon ps := by
  unfold execCanProtocolExc
  exact onCan_canon (.ite hs.setF.incSat.raise.canFrameEnd hs)

theorem State.canon.mbOverrun (hs : s.canon ps) {n m : Nat} :
    (s.mbOverrun n m).canon ps := by
  unfold State.mbOverrun
  exact hs.setF.incSat.raise

theorem State.canon.mbPut (hs : s.canon ps) {n m : Nat} {rec : Bytes} :
    (s.mbPut n m rec).canon ps := by
  unfold State.mbPut
  exact .ite (State.canon.ite hs.mbOverrun hs).setF.setMb (State.canon.ite hs.mbOverrun hs).setF.setMb

theorem State.canon.mbUnlock (hs : s.canon ps) {n m : Nat} :
    (s.mbUnlock n m).canon ps := by
  unfold State.mbUnlock
  dsimp only
  split
  · exact hs.setF.setF.setMb
  · exact hs.setF

theorem State.canon.mbLockWrite (hs : s.canon ps) {n : Nat} {v : BitVec 32} :
    (s.mbLockWrite n v).canon ps := by
  unfold State.mbLockWrite
  exact (State.canon.ite hs.mbUnlock hs).setB.setF

theorem execMbLockWrite_canon (hs : s.canon ps) {req : Requester} {ctrl : Nat} {value : BitVec 32} :
    (execMbLockWrite req ctrl value s).canon ps := by
  unfold execMbLockWrite
  exact onUnit_canon (hs.commanded hs.mbLockWrite)

theorem State.canon.canPlace (hs : s.canon ps) {p : Pattern} {n : Nat} {f : CanFrame} :
    (s.canPlace p n f).canon ps := by
  unfold State.canPlace
  dsimp only
  split
  · exact hs.mbPut.incWrap
  · exact .ite (.ite hs.queueStore.incWrap hs.queueStore.incSat.raise) hs.incSat

theorem execCanFrameSent_canon (hs : s.canon ps) {ctrl : Nat} {echoes : List Nat} :
    (execCanFrameSent ctrl echoes s).canon ps := by
  unfold execCanFrameSent
  refine onCan_canon ?_
  dsimp only
  split
  · exact hs
  · exact State.canon.canFrameEnd (State.canon.canTecDown (State.canon.canTdc (.ite (by
        split
        · exact (State.canon.ite hs.setCan.canPop hs.setCan).incWrap.canPlace
        · exact (State.canon.ite hs.setCan.canPop hs.setCan).incWrap) (State.canon.ite hs.setCan.canPop
            hs.setCan).incWrap.mk)))

theorem execCanFrameReceived_canon (hs : s.canon ps) {ctrl : Nat} {frame : CanFrame} {own : Bool} :
    (execCanFrameReceived ctrl frame own s).canon ps := by
  unfold execCanFrameReceived
  refine onCan_canon ?_
  split
  · exact hs
  · exact .ite hs (.ite hs.canPlace hs.canPlace.canRecDown.canFrameEnd)

theorem State.canon.latchMailbox (hs : s.canon ps) {p : Pattern} {n : Nat} {it : Bytes} :
    (s.latchMailbox p n it).2.canon ps := by
  unfold State.latchMailbox
  exact (State.canon.ite_snd (.ite (State.canon.ite hs.setF hs).setMb.setB.raise (State.canon.ite hs.setF
    hs).setMb.setB) (State.canon.ite (State.canon.ite hs.setF hs).setMb.setB.raise (State.canon.ite hs.setF
    hs).setMb.setB).fresh).latchItem

theorem State.canon.canRestart (hs : s.canon ps) {p : Pattern} :
    (s.canRestart p).canon ps := by
  unfold State.canRestart
  exact .foldl (fun _ _ hs => .foldl (fun _ _ hs => hs.setMb) hs) hs

theorem State.canon.canConfigure (hs : s.canon ps) {p : Pattern} :
    (s.canConfigure p).canon ps := by
  unfold State.canConfigure
  exact .foldl (fun _ _ hs => .foldl (fun _ _ hs => .ite hs.setF hs.setR) hs.setF) hs

end

end Sys2Proof.Machine
end

section
/-!
PROOFS. The canonical form, operation by operation: the recorder, the loop engine, the solver, safety functions, the Lining.
Each proof follows the definition of its operation, branch by branch.
-/

namespace Sys2Proof.Machine

-- One proof after another: a side condition by `decide` waits for every proof before it, on a thread of its own.
set_option Elab.async false

section
variable {s : State} {ps : List Instr}

/-! ### Recorder -/

theorem State.canon.fillTokens (hs : s.canon ps) :
    s.fillTokens.canon ps := by
  unfold State.fillTokens
  exact hs.mk

theorem State.canon.refillTokens (hs : s.canon ps) :
    s.refillTokens.canon ps := by
  unfold State.refillTokens
  exact .foldl (fun _ _ hs => .ite hs.mk hs) hs.mk

theorem State.canon.setNextSeq (hs : s.canon ps) {n : Nat} :
    (s.setNextSeq n).canon ps := by
  unfold State.setNextSeq
  exact hs.setF.setF

theorem State.canon.raiseNext (hs : s.canon ps) {n : Nat} :
    (s.raiseNext n).canon ps := by
  unfold State.raiseNext
  exact .ite hs.setNextSeq.wrLe hs.setNextSeq

theorem State.canon.bootScan (hs : s.canon ps) :
    s.bootScan.canon ps := by
  unfold State.bootScan
  exact hs.mk.raiseNext.setF

theorem State.canon.writeRecord (hs : s.canon ps) {e : Staged} {snap : List (BitVec 32)} :
    (s.writeRecord e snap).canon ps := by
  unfold State.writeRecord
  exact hs.wrLe.wrBytes.wrLe.raiseNext.mk

theorem State.canon.orderRaises (hs : s.canon ps) {n : Nat} :
    (s.orderRaises n).canon ps := by
  unfold State.orderRaises
  exact hs.mk

theorem State.canon.unstage (hs : s.canon ps) :
    s.unstage.canon ps := by
  unfold State.unstage
  exact hs.mk.setF

theorem execEventRaise_canon (hs : s.canon ps) {code source : BitVec 16} {payload : List (BitVec 32)} :
    (execEventRaise code source payload s).canon ps := by
  unfold execEventRaise
  exact .next (.ite (hs.access hs.raise) hs)

theorem State.canon.timeMarkCmd (hs : s.canon ps) :
    s.timeMarkCmd.canon ps := by
  unfold State.timeMarkCmd
  exact hs.timeMark

theorem execTimeMark_canon (hs : s.canon ps) {req : Requester} :
    (execTimeMark req s).canon ps := by
  unfold execTimeMark
  exact hs.command hs.timeMarkCmd

theorem execTimeMarkPeriodic_canon (hs : s.canon ps) :
    (execTimeMarkPeriodic s).canon ps := by
  unfold execTimeMarkPeriodic
  exact .next (.ite hs.timeMark hs)


/-! ### LoopOps -/

theorem State.canon.setLpWord (hs : s.canon ps) {c off v : Nat} :
    (s.setLpWord c off v).canon ps := by
  unfold State.setLpWord
  exact hs.engStore

theorem State.canon.setLpCh (hs : s.canon ps) {c : Nat} {x : LoopCh} :
    (s.setLpCh c x).canon ps := by
  unfold State.setLpCh
  exact hs.mk

theorem State.canon.setLpMode (hs : s.canon ps) {c mode bank : Nat} :
    (s.setLpMode c mode bank).canon ps := by
  unfold State.setLpMode
  exact hs.setF.setF.setLpWord

theorem State.canon.setLpVars (hs : s.canon ps) {c : Nat} {v : LoopVars} :
    (s.setLpVars c v).canon ps := by
  unfold State.setLpVars
  exact hs.engStore

theorem State.canon.lpLoadStore (hs : s.canon ps) {p : Pattern} {c : Nat} :
    (s.lpLoadStore p c).canon ps := by
  unfold State.lpLoadStore
  exact .ite (.ite hs.clearRange.eccClearWords.wrBytes.wrBytes hs.clearRange.eccClearWords.wrBytes)
    hs.clearRange.eccClearWords

theorem State.canon.lpEnter (hs : s.canon ps) {p : Pattern} {c : Nat} :
    (s.lpEnter p c).canon ps := by
  unfold State.lpEnter
  exact .ite hs.setR.setB.setLpMode.setLpWord.setLpCh hs.setR.setF.setLpCh

theorem State.canon.lpLoad (hs : s.canon ps) {p : Pattern} {c : Nat} :
    (s.lpLoad p c).canon ps := by
  unfold State.lpLoad
  exact hs.lpLoadStore.lpEnter

theorem State.canon.lpRestart (hs : s.canon ps) {p : Pattern} {warm : Bool} :
    (s.lpRestart p warm).canon ps := by
  unfold State.lpRestart
  exact .foldl (fun _ _ hs => hs.setF) (.foldl (fun _ _ hs => .ite hs.setF hs.lpLoad) hs)

theorem State.canon.setBobArea (hs : s.canon ps) {j : Nat} {x : BobArea} :
    (s.setBobArea j x).canon ps := by
  unfold State.setBobArea
  exact hs.mk

theorem State.canon.endInjection (hs : s.canon ps) {why : Nat} :
    (s.endInjection why).canon ps := by
  unfold State.endInjection
  exact .ite hs.mk.setF.raise hs

theorem State.canon.bobDone (hs : s.canon ps) {st : Nat} :
    (s.bobDone st).canon ps := by
  unfold State.bobDone
  exact hs.setF.raise

theorem State.canon.bobRecord (hs : s.canon ps) {c flags : Nat} {words : List Nat} :
    (s.bobRecord c flags words).canon ps := by
  unfold State.bobRecord
  split
  · exact hs
  · exact .ite (.ite (State.canon.ite (State.canon.ite hs.setF hs).setBobArea.load.setF.setF (State.canon.ite hs.setF
      hs).setBobArea.load.setF).bobDone (.ite (State.canon.ite hs.setF hs).setBobArea.load.setF.setF (State.canon.ite
      hs.setF hs).setBobArea.load.setF)) (State.canon.ite hs.setF hs).setBobArea

theorem State.canon.lpFetch (hs : s.canon ps) {p : Pattern} {c k : Nat} {d : Bytes} :
    (s.lpFetch p c k d).2.2.canon ps := by
  unfold State.lpFetch
  split
  · exact hs
  · exact hs.engRead
  · exact hs.engRead
  · split
    · next heq =>
        exact (State.canon_snd heq hs.queueTake).setLpCh
    · next heq =>
        exact (State.canon_snd heq hs.queueTake)
  · exact hs

theorem State.canon.lpWrite (hs : s.canon ps) {p : Pattern} {it : Bytes} {u : Nat} :
    (s.lpWrite p it u).canon ps := by
  unfold State.lpWrite
  dsimp only
  split
  · exact hs.setLpWord
  · exact hs.cloSet
  · exact hs.engStore
  · exact hs.queueStore
  · exact hs

theorem State.canon.lpCounted (hs : s.canon ps) {p : Pattern} {c : Nat} :
    (s.lpCounted p c).canon ps := by
  unfold State.lpCounted
  exact hs.incWrap.setLpCh

theorem State.canon.lpHeldSample (hs : s.canon ps) {p : Pattern} {c : Nat} {it : Bytes} {srcInv : Bool} :
    (s.lpHeldSample p c it srcInv).canon ps := by
  unfold State.lpHeldSample
  exact hs.setF.lpCounted.bobRecord.lpWrite

theorem State.canon.lpNumeric (hs : s.canon ps) {p : Pattern} {c : Nat} {it : Bytes} {u : Nat} {rec : State → State}
    (hrec : ∀ s0, s0.canon ps → (rec s0).canon ps) :
    (s.lpNumeric p c it u rec).canon ps := by
  unfold State.lpNumeric
  exact (hrec _ hs.setF.lpCounted).lpWrite.raise

theorem State.canon.lpRead (hs : s.canon ps) {c : Nat} {ws : List Nat} :
    (s.lpRead c ws).2.canon ps := by
  unfold State.lpRead
  exact State.canon_foldl_snd (fun _ _ hr => State.canon.ite_snd hr (by
      split
      · next heq =>
          exact (State.canon_snd heq hr.eccReadWord)
      · next heq =>
          exact (State.canon_snd heq hr.eccReadWord))) hs

theorem State.canon.lpFault (hs : s.canon ps) {c word : Nat} :
    (s.lpFault c word).canon ps := by
  unfold State.lpFault
  exact (State.canon.ite hs.setF hs.setLpMode).raise

theorem State.canon.lpReading (hs : s.canon ps) {c : Nat} {ws : List Nat} {f : State → State} (hf : ∀ s0, s0.canon ps →
    (f s0).canon ps) :
    (s.lpReading c ws f).canon ps := by
  unfold State.lpReading
  split
  · next heq =>
      exact (State.canon_snd heq hs.lpRead).lpFault
  · next heq =>
      exact hf _ (State.canon_snd heq hs.lpRead)

theorem State.canon.lpToPrev (hs : s.canon ps) {c : Nat} :
    (s.lpToPrev c).canon ps := by
  unfold State.lpToPrev
  exact hs.lpReading (fun _ hs => hs.setLpWord.setLpCh)

theorem State.canon.lpLeftOut (hs : s.canon ps) {c : Nat} :
    (s.lpLeftOut c).canon ps := by
  unfold State.lpLeftOut
  exact .ite hs.setLpCh hs

theorem State.canon.lpClosingSample (hs : s.canon ps) {p : Pattern} {c : Nat} {it : Bytes} {w : Nat → Nat} {y r vdc acc
    : Nat} {srcInv : Bool} :
    (s.lpClosingSample p c it w y r vdc acc srcInv).canon ps := by
  unfold State.lpClosingSample
  exact .ite hs.eccClearWords.setLpVars.setF.setF.setF.setLpCh.lpCounted.bobRecord.lpWrite (hs.lpReading (fun _ hs =>
    hs.lpNumeric (fun _ hs => hs.bobRecord)))

theorem State.canon.lpInjDone (hs : s.canon ps) {j : Nat} :
    (s.lpInjDone j).canon ps := by
  unfold State.lpInjDone
  exact .ite (State.canon.ite hs.setBobArea hs.setBobArea.setF).endInjection (.ite hs.setBobArea hs.setBobArea.setF)

theorem State.canon.lpComputed (hs : s.canon ps) {p : Pattern} {tick c : Nat} {it : Bytes} {w : Nat → Nat} {y rRaw vdc
    acc : Nat} {srcInv : Bool} :
    (s.lpComputed p tick c it w y rRaw vdc acc srcInv).canon ps := by
  have hdone {u : State} {j : Option (Nat × Nat)} (hu : u.canon ps) : (match j with
      | some (j, _) => u.lpInjDone j
      | none => u).canon ps := by
    split
    · exact hu.lpInjDone
    · exact hu
  have hvdc (b : Prop) [Decidable b] : (if b then s.setF (F.LPE_CH_STATUS_VDC_LOW c) 1 else s).canon ps := .ite hs.setF
    hs
  have hlimits {a b d : Prop} [Decidable a] [Decidable b] [Decidable d] {u : State} {x y z x' y' z' : Nat} (hu :
    u.canon ps) :
      (if a then if b then u.postTriggerAt x y z else if d then u.postTriggerAt x' y' z' else u else u).canon ps :=
    .ite (.ite hu.postTriggerAt (.ite hu.postTriggerAt hu)) hu
  unfold State.lpComputed
  refine .ite ?_ (hdone ((hvdc _).lpNumeric fun _ hu => hu.bobRecord))
  exact hlimits (State.canon.lpWrite (hdone ((hvdc _).setLpVars.setB.setB.setB.lpCounted.bobRecord)))

theorem State.canon.lpCmdEnd (hs : s.canon ps) {c last : Nat} :
    (s.lpCmdEnd c last).canon ps := by
  unfold State.lpCmdEnd
  exact hs.setF.setF

theorem State.canon.lpCmdReading (hs : s.canon ps) {c : Nat} {ws : List Nat} {f : State → State} (hf : ∀ s0, s0.canon
    ps → (f s0).canon ps) :
    (s.lpCmdReading c ws f).canon ps := by
  unfold State.lpCmdReading
  split
  · next heq =>
      exact (State.canon_snd heq hs.lpRead).lpFault.lpCmdEnd
  · next heq =>
      exact hf _ (State.canon_snd heq hs.lpRead)

theorem State.canon.lpHoldNow (hs : s.canon ps) {c : Nat} :
    (s.lpHoldNow c).canon ps := by
  unfold State.lpHoldNow
  exact .ite (hs.lpCmdReading (fun _ hs => hs.setLpWord.setLpMode.setLpCh.lpCmdEnd)) (.ite (hs.lpCmdReading (fun _ hs
    => hs.setF.engStore.setLpCh.lpCmdEnd)) hs)

theorem State.canon.lpCloseNow (hs : s.canon ps) {c : Nat} {it : Bytes} :
    (s.lpCloseNow c it).canon ps := by
  unfold State.lpCloseNow
  exact .ite (hs.lpCmdReading (fun _ hs => .ite hs.setLpMode.setLpCh.setF.lpCmdEnd hs.setF.lpCmdEnd.raise)) hs

theorem State.canon.lpSwapNow (hs : s.canon ps) {c : Nat} {it : Bytes} :
    (s.lpSwapNow c it).canon ps := by
  unfold State.lpSwapNow
  exact .ite (hs.lpCmdReading (fun _ hs => .ite hs.setLpMode.setF.lpCmdEnd hs.lpCmdEnd)) hs

theorem State.canon.lpCommand (hs : s.canon ps) {c : Nat} {it : Bytes} :
    (s.lpCommand c it).canon ps := by
  unfold State.lpCommand
  split
  · exact hs.lpHoldNow
  · exact hs.lpCloseNow
  · exact hs.lpSwapNow
  · exact hs

theorem State.canon.lpSampled (hs : s.canon ps) {p : Pattern} {tick c : Nat} {it : Bytes} :
    (s.lpSampled p tick c it).canon ps := by
  unfold State.lpSampled
  split
  next heq =>
  have h0 := State.canon_snd_snd heq hs.lpFetch
  split
  next heq =>
  have h1 := State.canon_snd_snd heq h0.lpFetch
  split
  next heq =>
  have h2 := State.canon_snd_snd heq h1.lpFetch
  split
  next u heq =>
  have h3 := State.canon_snd_snd heq h2.lpFetch
  have hinv {b : Prop} [Decidable b] : (if b then u.setF (F.LPE_CH_STATUS_SRC_INVALID c) 1 else u).canon ps := .ite
    h3.setF h3
  exact .ite hinv.lpHeldSample (.ite (.ite hinv.lpToPrev hinv.lpToPrev.lpHeldSample)
    (.ite hinv.lpClosingSample hinv.lpComputed))

theorem State.canon.lpResume (hs : s.canon ps) {c : Nat} :
    (s.lpResume c).canon ps := by
  unfold State.lpResume
  exact .ite hs.lpToPrev hs

theorem State.canon.lpDueSample (hs : s.canon ps) {p : Pattern} {tick c : Nat} :
    (s.lpDueSample p tick c).canon ps := by
  unfold State.lpDueSample
  exact .ite hs (.ite hs.setF.lpLeftOut (.ite hs.setF.lpCommand.lpResume (hs.setF.lpCommand.lpResume.lpReading (fun _
    hs => hs.lpSampled))))

theorem State.canon.lpNotComputed (hs : s.canon ps) {p : Pattern} {c : Nat} :
    (s.lpNotComputed p c).canon ps := by
  unfold State.lpNotComputed
  exact .ite hs hs.setF.incSat.lpLeftOut


/-! ### Solver -/

theorem State.canon.setQpCtx (hs : s.canon ps) {c : Nat} {x : QpCtx} :
    (s.setQpCtx c x).canon ps := by
  unfold State.setQpCtx
  exact hs.setF.mk

theorem State.canon.setQpMode (hs : s.canon ps) {c m : Nat} :
    (s.setQpMode c m).canon ps := by
  unfold State.setQpMode
  exact hs.setF.setF

theorem State.canon.qpCopy (hs : s.canon ps) {p : Pattern} {c : Nat} :
    (s.qpCopy p c).canon ps := by
  unfold State.qpCopy
  exact hs.load

theorem State.canon.qpStoreJ0 (hs : s.canon ps) {c : Nat} {o : (Nat × Nat) ⊕ QMat} :
    (s.qpStoreJ0 c o).canon ps := by
  unfold State.qpStoreJ0
  split
  · exact hs
  · exact hs.load

theorem State.canon.qpLoaded (hs : s.canon ps) {c : Nat} {o : (Nat × Nat) ⊕ QMat} :
    (s.qpLoaded c o).canon ps := by
  unfold State.qpLoaded
  dsimp only
  split
  · exact hs.setF.setQpCtx.setQpCtx.setQpMode.raise
  · exact hs.setF.setQpCtx.setQpMode

theorem State.canon.qpLoad (hs : s.canon ps) {p : Pattern} {c : Nat} :
    (s.qpLoad p c).canon ps := by
  unfold State.qpLoad
  exact hs.qpStoreJ0.qpLoaded

theorem State.canon.qpExport (hs : s.canon ps) {it : Bytes} {buf : Nat} :
    (s.qpExport it buf).canon ps := by
  unfold State.qpExport
  exact .ite hs hs.load

theorem State.canon.qpDescribe (hs : s.canon ps) {c : Nat} {it : Bytes} {status buf : Nat} {f : QpFlags} {passes : Nat}
    {start : BitVec 64} {cycles : Nat} :
    (s.qpDescribe c it status buf f passes start cycles).canon ps := by
  unfold State.qpDescribe
  exact hs.load.setF.setF.setF.postTrigger

theorem State.canon.qpDeliver (hs : s.canon ps) {c : Nat} {it : Bytes} {status buf : Nat} {f : QpFlags} {passes : Nat}
    {start : BitVec 64} {cycles : Nat} :
    (s.qpDeliver c it status buf f passes start cycles).canon ps := by
  unfold State.qpDeliver
  exact hs.qpExport.qpDescribe

theorem State.canon.qpMiss (hs : s.canon ps) {p : Pattern} {c : Nat} {it : Bytes} {status : Nat} :
    (s.qpMiss p c it status).canon ps := by
  unfold State.qpMiss
  exact .ite (.ite hs.incSat.incSat.raise.raiseCls.faultFns hs.incSat.incSat.raise.raiseCls) hs.incSat.incSat.raise

theorem State.canon.qpMissDelivery (hs : s.canon ps) {p : Pattern} {c : Nat} {it : Bytes} {status : Nat} {f : QpFlags}
    {passes : Nat} {start : BitVec 64} :
    (s.qpMissDelivery p c it status f passes start).canon ps := by
  unfold State.qpMissDelivery
  exact State.canon.qpMiss (by split; exacts [.ite hs.qpDeliver hs.qpDeliver, hs.qpDeliver])

theorem State.canon.qpLoadStore (hs : s.canon ps) {p : Pattern} {c : Nat} :
    (s.qpLoadStore p c).canon ps := by
  unfold State.qpLoadStore
  exact hs.load.load.qpCopy.qpStoreJ0

theorem State.canon.qpEnter (hs : s.canon ps) {p : Pattern} {c : Nat} :
    (s.qpEnter p c).canon ps := by
  unfold State.qpEnter
  exact .ite hs.setR.setR.setF.setF.setR.setQpCtx.setF.qpLoaded hs.setR.setR.setF.setF.setR.setQpCtx

theorem State.canon.qpRestartCtx (hs : s.canon ps) {p : Pattern} {c : Nat} :
    (s.qpRestartCtx p c).canon ps := by
  unfold State.qpRestartCtx
  exact (State.canon.ite hs.qpLoadStore hs).qpEnter

theorem State.canon.qpRestart (hs : s.canon ps) {p : Pattern} :
    (s.qpRestart p).canon ps := by
  unfold State.qpRestart
  exact (State.canon.foldl (fun _ _ hs => hs.qpRestartCtx) hs).setF.setF.mk

theorem State.canon.qpInput (hs : s.canon ps) {p : Pattern} {c : Nat} {it : Bytes} :
    (s.qpInput p c it).2.2.canon ps := by
  unfold State.qpInput
  refine State.canon.ite_snd_snd hs.setQpCtx ?_
  refine State.canon.ite_snd_snd hs.setQpCtx ?_
  refine State.canon.ite_snd_snd ?_ hs.setQpCtx.engRead.setQpCtx
  split
  · next heq =>
      exact (State.canon_snd heq hs.setQpCtx.queueTake).setQpCtx
  · next heq =>
      exact (State.canon_snd heq hs.setQpCtx.queueTake)

theorem State.canon.qpBegin (hs : s.canon ps) {p : Pattern} {c : Nat} {it : Bytes} :
    (s.qpBegin p c it).canon ps := by
  unfold State.qpBegin
  exact hs.qpInput.setF.setF.mk

theorem State.canon.qpCycles (hs : s.canon ps) {bound : Nat} :
    (s.qpCycles bound).2.canon ps := by
  unfold State.qpCycles
  exact hs.fresh

theorem State.canon.qpPendingLoad (hs : s.canon ps) {p : Pattern} {c : Nat} {it : Bytes} {st : BitVec 64} :
    (s.qpPendingLoad p c it st).canon ps := by
  obtain ⟨m, hm⟩ : ∃ m, Mem.solver c = m := ⟨_, rfl⟩
  rw [State.qpPendingLoad, hm]
  split
  next heq =>
  have hu := State.canon_snd heq hs.eccRead
  split
  · exact hu.setQpCtx.qpMissDelivery
  · extract_lets w
    split
    next heq => exact (State.canon_snd heq hu.qpLoad.qpCycles).qpDeliver

theorem State.canon.qpStart (hs : s.canon ps) {p : Pattern} {c : Nat} {r : Running} :
    (s.qpStart p c r).canon ps := by
  unfold State.qpStart
  exact .ite hs.qpDeliver (.ite hs.setQpCtx.qpDeliver (.ite hs.countOverrun.qpMissDelivery (.ite hs.qpPendingLoad
    hs.qpBegin)))

theorem State.canon.qpStartEntry (hs : s.canon ps) {p : Pattern} {k : Nat} {r : Running} :
    (s.qpStartEntry p k r).canon ps := by
  unfold State.qpStartEntry
  exact (State.canon.ite hs.atTick hs.atTick.qpStart).finishEntry

theorem execQpStart_canon (hs : s.canon ps) {k : Nat} :
    (execQpStart k s).canon ps := by
  unfold execQpStart
  refine .next ?_
  split
  · exact .ite hs.qpStartEntry hs
  · exact hs

theorem State.canon.qpReads (hs : s.canon ps) {p : Pattern} {v : Solve} {badRow : Option Nat} :
    (s.qpReads p v badRow).canon ps := by
  unfold State.qpReads
  exact .ite hs (.foldl (fun _ _ hs => hs.eccRead) (.foldl (fun _ _ hs => hs.eccRead) hs))

theorem State.canon.qpFree (hs : s.canon ps) {p : Pattern} {c : Nat} {warm : List Nat} :
    (s.qpFree p c warm).canon ps := by
  unfold State.qpFree
  exact .ite hs.mk.setF.setQpCtx.setF.setQpMode hs.mk.setF.setQpCtx.setF

theorem State.canon.qpSettle (hs : s.canon ps) {p : Pattern} {c : Nat} {warm : List Nat} {q passes : Nat} :
    (s.qpSettle p c warm q passes).canon ps := by
  unfold State.qpSettle
  exact hs.setF.setF.qpFree

theorem State.canon.qpDrop (hs : s.canon ps) :
    s.qpDrop.canon ps := by
  unfold State.qpDrop
  split
  · exact hs.qpFree
  · exact hs.mk.setF

theorem State.canon.qpEnd (hs : s.canon ps) {p : Pattern} {v : Solve} :
    (s.qpEnd p v).canon ps := by
  unfold State.qpEnd
  dsimp only
  exact .ite hs.qpReads.load.setQpCtx.qpCycles.qpSettle.setF.qpDeliver hs.qpReads.qpSettle.qpMissDelivery

theorem State.canon.qpAbandon (hs : s.canon ps) {p : Pattern} {v : Solve} :
    (s.qpAbandon p v).canon ps := by
  unfold State.qpAbandon
  dsimp only
  exact hs.qpCycles.qpSettle.qpMissDelivery

theorem execSolveEnd_canon (hs : s.canon ps) :
    (execSolveEnd s).canon ps := by
  unfold execSolveEnd
  refine .next ?_
  split
  · exact .ite hs hs.qpEnd
  · exact hs

theorem execQpDeadline_canon (hs : s.canon ps) :
    (execQpDeadline s).canon ps := by
  unfold execQpDeadline
  refine .next ?_
  split
  · exact .ite hs.qpAbandon hs
  · exact hs

theorem State.canon.qpCmdResult (hs : s.canon ps) {c code : Nat} :
    (s.qpCmdResult c code).canon ps := by
  unfold State.qpCmdResult
  exact hs.setF.setF

theorem State.canon.qpCmd (hs : s.canon ps) {c op : Nat} :
    (s.qpCmd c op).canon ps := by
  unfold State.qpCmd
  exact .ite hs.qpCmdResult (.ite hs.qpCmdResult (.ite (.ite (State.canon.ite hs.setF.setQpCtx
    hs.setQpMode).qpCmdResult hs.qpCmdResult) (.ite (.ite hs.setQpMode.qpCmdResult hs.qpCmdResult) (.ite
    (State.canon.ite hs.setF.setQpCtx hs.setQpCtx).qpCmdResult hs.qpCmdResult))))

theorem execQpDisable_canon (hs : s.canon ps) {req : Requester} {c : BitVec 3} :
    (execQpDisable req c s).canon ps := by
  unfold execQpDisable
  exact hs.command hs.qpCmd

theorem execQpEnable_canon (hs : s.canon ps) {req : Requester} {c : BitVec 3} :
    (execQpEnable req c s).canon ps := by
  unfold execQpEnable
  exact hs.command hs.qpCmd

theorem execQpClearWarm_canon (hs : s.canon ps) {req : Requester} {c : BitVec 3} :
    (execQpClearWarm req c s).canon ps := by
  unfold execQpClearWarm
  exact hs.command hs.qpCmd

theorem execDisableCopyEnd_canon (hs : s.canon ps) {c : Nat} :
    (execDisableCopyEnd c s).canon ps := by
  unfold execDisableCopyEnd
  refine onUnit_canon ?_
  split
  · exact .ite hs.qpCopy.setQpMode hs
  · exact hs

theorem State.canon.qpWindowWrite (hs : s.canon ps) {req : Requester} {off : Nat} {v : BitVec 32} :
    (s.qpWindowWrite req off v).canon ps := by
  unfold State.qpWindowWrite
  exact .ite hs.accErr (.ite hs.engStore hs)

theorem execProblemWindowWrite_canon (hs : s.canon ps) {req : Requester} {off : Nat} {v : BitVec 32} :
    (execProblemWindowWrite req off v s).canon ps := by
  unfold execProblemWindowWrite
  exact onUnit_canon (hs.accessBy (.ite hs.accErr (.ite hs (.ite hs.accErr hs.qpWindowWrite))))


/-! ### LoopEngine -/

theorem State.canon.grpCompute (hs : s.canon ps) {p : Pattern} {start : Nat} {cs : List Nat} :
    (s.grpCompute p start cs).2.canon ps := by
  unfold State.grpCompute
  exact State.canon_foldl_snd (fun _ _ hr => hr.lpDueSample) hs

theorem State.canon.grpNotComputed (hs : s.canon ps) {p : Pattern} {cs : List Nat} :
    (s.grpNotComputed p cs).canon ps := by
  unfold State.grpNotComputed
  exact .foldl (fun _ _ hs => hs.lpNotComputed) hs

theorem State.canon.grpCut (hs : s.canon ps) {p : Pattern} {e : SlotEntry} :
    (s.grpCut p e).canon ps := by
  unfold State.grpCut
  exact hs.fresh.grpCompute.grpNotComputed

theorem State.canon.loopGrpStart (hs : s.canon ps) {l k : Nat} {r : Running} {p : Pattern} :
    (s.loopGrpStart l k r p).canon ps := by
  unfold State.loopGrpStart
  dsimp only
  split
  · exact hs.atTick.countOverrun.grpNotComputed.passEntry
  · exact .ite hs.atTick.setB.finishEntry hs.atTick.setB.grpCompute.finishEntry

theorem execLoopGrp_canon (hs : s.canon ps) {l k : Nat} :
    (execLoopGrp l k s).canon ps := by
  unfold execLoopGrp
  refine onUnit_canon ?_
  split
  · exact .ite hs (.ite hs.loopGrpStart hs.atTick.passEntry)
  · exact hs

theorem State.canon.lpResult (hs : s.canon ps) {c code : Nat} :
    (s.lpResult c code).canon ps := by
  unfold State.lpResult
  exact hs.setF.setF

theorem State.canon.lpCmd (hs : s.canon ps) {c op : Nat} :
    (s.lpCmd c op).canon ps := by
  unfold State.lpCmd
  split
  · exact hs.lpResult
  · exact .ite hs.lpResult (.ite hs.lpResult (.ite hs.lpResult (.ite hs.setF.setF.lpResult hs.setF.lpResult)))

theorem execHold_canon (hs : s.canon ps) {req : Requester} {c : BitVec 8} :
    (execHold req c s).canon ps := by
  unfold execHold
  exact hs.command hs.lpCmd

theorem execClose_canon (hs : s.canon ps) {req : Requester} {c : BitVec 8} :
    (execClose req c s).canon ps := by
  unfold execClose
  exact hs.command hs.lpCmd

theorem execSwap_canon (hs : s.canon ps) {req : Requester} {c : BitVec 8} :
    (execSwap req c s).canon ps := by
  unfold execSwap
  exact hs.command hs.lpCmd

theorem State.canon.lpWriteWord (hs : s.canon ps) {c off : Nat} {v : BitVec 32} :
    (s.lpWriteWord c off v).canon ps := by
  unfold State.lpWriteWord
  exact .ite hs.setLpWord hs

theorem State.canon.storeWindow (hs : s.canon ps) {req : Requester} {off : Nat} {v : BitVec 32} :
    (s.storeWindow req off v).canon ps := by
  unfold State.storeWindow
  dsimp only
  split
  · exact .ite hs.lpWriteWord hs.accErr
  · exact .ite hs.accErr hs.lpWriteWord
  · exact hs.accErr
  · exact hs.accErr

theorem execStoreWindowWrite_canon (hs : s.canon ps) {req : Requester} {off : Nat} {v : BitVec 32} :
    (execStoreWindowWrite req off v s).canon ps := by
  unfold execStoreWindowWrite
  exact onUnit_canon (hs.accessBy (.ite hs.accErr (.ite hs (.ite hs.accErr hs.storeWindow))))

theorem State.canon.bobCode (hs : s.canon ps) {code : Nat} :
    (s.bobCode code).canon ps := by
  unfold State.bobCode
  exact hs.setF

theorem State.canon.bobArm (hs : s.canon ps) :
    s.bobArm.canon ps := by
  unfold State.bobArm
  exact .ite hs.bobCode (.ite hs.bobCode (.ite hs.bobCode (.ite hs.bobCode (State.canon.foldl (fun _ _ hs =>
    hs.setF.setF.setBobArea) hs.endInjection).mk.setF.bobCode)))

theorem State.canon.bobStop (hs : s.canon ps) :
    s.bobStop.canon ps := by
  unfold State.bobStop
  exact .ite hs.endInjection.bobDone.bobCode (.ite hs.endInjection.bobCode hs.bobCode)

theorem State.canon.bobClear (hs : s.canon ps) :
    s.bobClear.canon ps := by
  unfold State.bobClear
  exact .ite hs.bobCode hs.clearRange.eccClearArrays.setF.bobCode

theorem execArm_canon (hs : s.canon ps) {req : Requester} :
    (execArm req s).canon ps := by
  unfold execArm
  exact hs.command hs.bobArm

theorem execLpeBobStop_canon (hs : s.canon ps) {req : Requester} :
    (execLpeBobStop req s).canon ps := by
  unfold execLpeBobStop
  exact hs.command hs.bobStop

theorem execBobbinClear_canon (hs : s.canon ps) {req : Requester} :
    (execBobbinClear req s).canon ps := by
  unfold execBobbinClear
  exact hs.command hs.bobClear


/-! ### SafetyFns -/

theorem State.canon.latchDiscrepancy (hs : s.canon ps) {i : Nat} :
    (s.latchDiscrepancy i).canon ps := by
  unfold State.latchDiscrepancy
  exact .ite hs.setF hs.setF.setF.raise.faultFns

theorem State.canon.setDiscWait (hs : s.canon ps) {i n : Nat} :
    (s.setDiscWait i n).canon ps := by
  unfold State.setDiscWait
  exact hs.mk

theorem State.canon.discPhase (hs : s.canon ps) {i d : Nat} {a b : Bool} :
    (s.discPhase i d a b).canon ps := by
  unfold State.discPhase
  exact .ite hs (.ite (.ite hs.setF.setDiscWait hs) (.ite (.ite hs.setDiscWait (.ite (.ite hs.setF.setDiscWait
    hs.setF.setDiscWait) hs.setDiscWait)) hs))

theorem State.canon.evalInput (hs : s.canon ps) {p : Pattern} {i : Nat} :
    (s.evalInput p i).canon ps := by
  unfold State.evalInput
  split
  · exact hs
  · exact .ite hs.setB (.ite hs.setB.setF.discPhase.latchDiscrepancy hs.setB.setF.discPhase)

theorem State.canon.resetFn (hs : s.canon ps) {p : Pattern} {r f : Nat} :
    (s.resetFn p r f).canon ps := by
  unfold State.resetFn
  exact .ite hs (.ite hs.releaseByReset (.ite hs.incSat.raise (.ite (State.canon.foldl (fun _ _ hs => .ite
    hs.setF.setF.raise hs) hs.setFnState.edgeTaken.raise).releaseByReset (.ite hs (.ite (State.canon.foldl (fun _ _ hs
    => .ite hs.setF.setF.raise hs) hs.setFnState.edgeTaken.raise).releaseByReset hs)))))

theorem State.canon.stepFn (hs : s.canon ps) {p : Pattern} {f : Nat} :
    (s.stepFn p f).canon ps := by
  unfold State.stepFn
  refine .ite hs ?_
  split
  · exact hs.tripFn
  · exact .ite hs.setFnState hs

theorem State.canon.setResetRun (hs : s.canon ps) {r n : Nat} :
    (s.setResetRun r n).canon ps := by
  unfold State.setResetRun
  exact hs.mk

theorem State.canon.setResetSeen (hs : s.canon ps) {r : Nat} {b : Bool} :
    (s.setResetSeen r b).canon ps := by
  unfold State.setResetSeen
  exact hs.mk

theorem State.canon.holdReset (hs : s.canon ps) {p : Pattern} {r : Nat} :
    (s.holdReset p r).canon ps := by
  unfold State.holdReset
  exact hs.setF.setF.raise

theorem State.canon.updateConfirmed (hs : s.canon ps) :
    s.updateConfirmed.canon ps := by
  unfold State.updateConfirmed
  exact hs.setB.setB

theorem State.canon.confirmCheck (hs : s.canon ps) {p : Pattern} :
    (s.confirmCheck p).canon ps := by
  unfold State.confirmCheck
  exact hs.wrBytes.setF.updateConfirmed.mk.raise

theorem State.canon.resetEdge (hs : s.canon ps) {p : Pattern} {r : Nat} :
    (s.resetEdge p r).canon ps := by
  unfold State.resetEdge
  exact .ite (.ite hs.incSat.confirmCheck hs.incSat) (.foldl (fun _ _ hs => hs.resetFn) hs.incSat)

theorem State.canon.evalReset (hs : s.canon ps) {p : Pattern} {r : Nat} :
    (s.evalReset p r).canon ps := by
  unfold State.evalReset
  exact .ite (.ite hs.setResetRun.setF.setResetSeen hs.setResetRun.setF) (.ite (.ite (State.canon.ite (State.canon.ite
    hs.setResetSeen.setResetRun.setF hs.setResetSeen.setResetRun).mk (.ite hs.setResetSeen.setResetRun.setF
    hs.setResetSeen.setResetRun)).holdReset (.ite (State.canon.ite hs.setResetSeen.setResetRun.setF
    hs.setResetSeen.setResetRun).mk (.ite hs.setResetSeen.setResetRun.setF hs.setResetSeen.setResetRun))) (.ite
    hs.setResetSeen.setResetRun.setF (.ite hs.setResetSeen.setResetRun.setF.incSat
    hs.setResetSeen.setResetRun.setF.resetEdge)))

theorem State.canon.evalFunctions (hs : s.canon ps) {p : Pattern} :
    (s.evalFunctions p).canon ps := by
  unfold State.evalFunctions
  exact .ite hs (.foldl (fun _ _ hs => hs.stepFn) (.foldl (fun _ _ hs => hs.evalReset) (.foldl (fun _ _ hs =>
    hs.evalInput) (.foldl (fun _ _ hs => hs.engRead) hs))))

theorem State.canon.stepDisconnects (hs : s.canon ps) :
    s.stepDisconnects.canon ps := by
  unfold State.stepDisconnects
  exact .foldl (fun _ _ hs => .ite (.ite hs hs.closeGroup) (.ite hs.openGroupDark hs)) hs

theorem execDiscrepancy_canon (hs : s.canon ps) {i : Nat} :
    (execDiscrepancy i s).canon ps := by
  unfold execDiscrepancy
  refine onUnit_canon ?_
  split
  · exact .ite hs.latchDiscrepancy hs
  · exact hs

theorem execResetHeld_canon (hs : s.canon ps) {r : Nat} :
    (execResetHeld r s).canon ps := by
  unfold execResetHeld
  refine onUnit_canon ?_
  split
  · exact hs
  · exact .ite hs.holdReset hs

theorem execDisconnectDrop_canon (hs : s.canon ps) {g : Nat} :
    (execDisconnectDrop g s).canon ps := by
  unfold execDisconnectDrop
  exact onUnit_canon (.ite hs (.ite hs.setDisconnect.darkGroup hs))

theorem execSupplyFail_canon (hs : s.canon ps) {rail : Nat} :
    (execSupplyFail rail s).canon ps := by
  unfold execSupplyFail
  exact .next hs.raise.moduleWide

theorem State.canon.refFails (hs : s.canon ps) :
    s.refFails.canon ps := by
  unfold State.refFails
  exact hs.raiseCls.referenceLost

theorem State.canon.refReturns (hs : s.canon ps) :
    s.refReturns.canon ps := by
  unfold State.refReturns
  exact hs.setF.setF.setF.setF

theorem execClockVote_canon (hs : s.canon ps) {refHz monHz rcHz : Nat} :
    (execClockVote refHz monHz rcHz s).canon ps := by
  unfold execClockVote
  exact .ite (.ite (.next hs) (.next hs.raise.moduleWide)) (.next (.ite (.ite (.ite (.ite hs.causeGone.setB
    hs.causeGone.setB.refFails) (.ite hs.causeGone.setB.refReturns hs.causeGone.setB)) (State.canon.ite (.ite
    hs.causeGone.setB hs.causeGone.setB.refFails) (.ite hs.causeGone.setB.refReturns
    hs.causeGone.setB)).setF.raise.moduleWide) (State.canon.ite (.ite hs.causeGone.setB hs.causeGone.setB.refFails)
    (.ite hs.causeGone.setB.refReturns hs.causeGone.setB)).setF.causeGone))

theorem execMonitorSelftest_canon (hs : s.canon ps) {test : Nat} {pass : Bool} :
    (execMonitorSelftest test pass s).canon ps := by
  unfold execMonitorSelftest
  exact .ite (.next hs.mk.causeGone) (.next hs.mk.raise.moduleWide)

theorem State.canon.safResult (hs : s.canon ps) {op code : Nat} :
    (s.safResult op code).canon ps := by
  unfold State.safResult
  exact hs.setF.setF.setF

theorem State.canon.safConfirm (hs : s.canon ps) :
    s.safConfirm.canon ps := by
  unfold State.safConfirm
  exact .ite hs.safResult (.ite hs.safResult hs.setF.safResult.mk)

theorem State.canon.safClearHalt (hs : s.canon ps) :
    s.safClearHalt.canon ps := by
  unfold State.safClearHalt
  exact .ite hs.safResult (.ite hs.safResult hs.setF.safResult.mk.updateModOk.raise)

theorem State.canon.closeWindow (hs : s.canon ps) :
    s.closeWindow.canon ps := by
  unfold State.closeWindow
  exact hs.setF.mk

theorem State.canon.safCancel (hs : s.canon ps) :
    s.safCancel.canon ps := by
  unfold State.safCancel
  exact hs.closeWindow.safResult

theorem execConfirm_canon (hs : s.canon ps) {req : Requester} :
    (execConfirm req s).canon ps := by
  unfold execConfirm
  exact hs.command hs.safConfirm

theorem execClearHalt_canon (hs : s.canon ps) {req : Requester} :
    (execClearHalt req s).canon ps := by
  unfold execClearHalt
  exact hs.command hs.safClearHalt

theorem execSafCancel_canon (hs : s.canon ps) {req : Requester} :
    (execSafCancel req s).canon ps := by
  unfold execSafCancel
  exact hs.command hs.safCancel

theorem execCheckWindowExpired_canon (hs : s.canon ps) :
    (execCheckWindowExpired s).canon ps := by
  unfold execCheckWindowExpired
  exact .next (.ite hs.closeWindow.raise hs)


/-! ### Lining -/

theorem State.canon.applySafety (hs : s.canon ps) {b : Bytes} :
    (s.applySafety b).canon ps := by
  unfold State.applySafety
  exact .foldl (fun _ _ hs => hs.setB.setDio) (.foldl (fun _ _ hs => hs.setResetRun.setF) (.foldl (fun _ _ hs =>
    hs.setF.setF.setF) (.foldl (fun _ _ hs => hs.setFnState.setF) hs)))

theorem State.canon.solverBytes (hs : s.canon ps) {p : Pattern} {c : Nat} :
    (s.solverBytes p c).2.canon ps := by
  unfold State.solverBytes
  exact hs.engRead

theorem State.canon.applySolver (hs : s.canon ps) {p : Pattern} {c : Nat} {b : Bytes} :
    (s.applySolver p c b).canon ps := by
  unfold State.applySolver
  exact hs.setQpCtx.setF.setF.setF.engStore

theorem State.canon.applyPdSeq (hs : s.canon ps) {p : Pattern} {b : Bytes} :
    (s.applyPdSeq p b).canon ps := by
  unfold State.applyPdSeq
  exact .foldl (fun _ _ hs => .ite hs.setTx.setF hs) hs

theorem State.canon.linkRead (hs : s.canon ps) {a n : Nat} :
    (s.linkRead a n).2.canon ps := by
  unfold State.linkRead
  exact hs.engRead

theorem State.canon.liningRead (hs : s.canon ps) {p : Pattern} {it : Bytes} :
    (s.liningRead p it).2.canon ps := by
  unfold State.liningRead
  split
  · exact hs.linkRead
  · exact hs.linkRead
  · exact hs.solverBytes
  · exact hs.linkRead
  · dsimp only
    split
    · exact hs
    · exact hs.linkRead
  · exact hs
  · exact hs

theorem State.canon.liningReads (hs : s.canon ps) {p : Pattern} {items : List Bytes} :
    (s.liningReads p items).2.canon ps := by
  unfold State.liningReads
  exact State.canon_foldl_snd (fun _ _ hr => hr.liningRead) hs

theorem State.canon.liningWrite (hs : s.canon ps) {p : Pattern} {it b : Bytes} :
    (s.liningWrite p it b).canon ps := by
  unfold State.liningWrite
  split
  · exact hs.engStore
  · exact hs.engStore
  · exact hs.applySolver
  · exact hs.engStore.setF.setF
  · exact hs.engStore
  · exact hs.applySafety
  · exact hs.applyPdSeq

theorem State.canon.mirrorRead (hs : s.canon ps) {p : Pattern} {half : Bool} {first len : Nat} :
    (s.mirrorRead p half first len).2.canon ps := by
  unfold State.mirrorRead
  exact .foldl (fun _ _ hs => hs.engRead) hs

theorem State.canon.applySlot (hs : s.canon ps) {p : Pattern} {half : Bool} {slot : Nat} :
    (s.applySlot p half slot).canon ps := by
  unfold State.applySlot
  exact State.canon_foldl_snd (fun _ _ hr => hr.mirrorRead.liningWrite) hs

end

end Sys2Proof.Machine
end

section
/-!
PROOFS. The canonical form, operation by operation: redundancy, resets, the door panel, Patterns.
Each proof follows the definition of its operation, branch by branch.
-/

namespace Sys2Proof.Machine

-- One proof after another: a side condition by `decide` waits for every proof before it, on a thread of its own.
set_option Elab.async false

section
variable {s : State} {ps : List Instr}

/-! ### PairKey -/

theorem State.canon.laneOut (hs : s.canon ps) {lane : Nat} {l : List NymilBlock} :
    (s.laneOut lane l).canon ps := by
  unfold State.laneOut
  exact hs.mk

theorem State.canon.nymilPut (hs : s.canon ps) {ptype epoch pktNo : Nat} {valid : Bytes} :
    (s.nymilPut ptype epoch pktNo valid).canon ps := by
  unfold State.nymilPut
  exact hs.laneOut.laneOut.setPair

theorem State.canon.nymilFlush (hs : s.canon ps) {l : List NymilPacket} : (State.nymilFlush l s).canon ps := by
  induction l generalizing s with
  | nil => exact hs.setPair
  | cons x l ih =>
    unfold State.nymilFlush
    exact .ite hs.setPair (ih hs.nymilPut)

theorem State.canon.nymilWaiting (hs : s.canon ps) :
    s.nymilWaiting.canon ps := hs.nymilFlush

theorem State.canon.addCredits (hs : s.canon ps) {k : Nat} :
    (s.addCredits k).canon ps := by
  unfold State.addCredits
  exact hs.setPair

theorem State.canon.takeRxBuffer (hs : s.canon ps) {ptype : Nat} :
    (s.takeRxBuffer ptype).canon ps := by
  unfold State.takeRxBuffer
  exact .ite hs hs.setPair

theorem State.canon.returnCredits (hs : s.canon ps) :
    s.returnCredits.canon ps := by
  unfold State.returnCredits
  exact .ite hs hs.laneOut.setPair

theorem State.canon.sendKey (hs : s.canon ps) :
    s.sendKey.canon ps := by
  unfold State.sendKey
  exact hs.fresh.fresh.setPair.nymilWaiting

theorem State.canon.deriveKey (hs : s.canon ps) {value : Bytes} :
    (s.deriveKey value).canon ps := by
  unfold State.deriveKey
  split
  · exact hs
  · split
    · exact hs.authFail
    · exact hs.setPair

theorem State.canon.keyJudge (hs : s.canon ps) {m : Bytes} :
    (s.keyJudge m).canon ps := by
  unfold State.keyJudge
  exact .ite (.ite (State.canon.ite hs hs.sendKey).deriveKey hs.authFail) hs

theorem State.canon.keyIn (hs : s.canon ps) {x : NymilPacket} :
    (s.keyIn x).canon ps := by
  unfold State.keyIn
  exact .ite hs.setPair hs.setPair.keyJudge


/-! ### Redundancy -/

theorem State.canon.putHealth (hs : s.canon ps) :
    s.putHealth.canon ps := by
  unfold State.putHealth
  split
  · exact hs.faultCounts.setPair.nymilPut
  · exact hs

theorem State.canon.dropHealth (hs : s.canon ps) :
    s.dropHealth.canon ps := by
  unfold State.dropHealth
  exact .ite hs.setPair.incSat hs

theorem State.canon.flushHealth (hs : s.canon ps) :
    s.flushHealth.canon ps := by
  unfold State.flushHealth
  split
  · exact hs
  · exact .ite hs.dropHealth (.ite hs hs.setPair.putHealth)

theorem State.canon.sendWaiting (hs : s.canon ps) :
    s.sendWaiting.canon ps := by
  unfold State.sendWaiting
  exact hs.flushHealth.nymilWaiting

theorem State.canon.sendHealth (hs : s.canon ps) {endTick : Nat} :
    (s.sendHealth endTick).canon ps := by
  unfold State.sendHealth
  exact .ite hs.setPair hs.setPair.flushHealth

theorem execOwnSenseEdge_canon (hs : s.canon ps) {level : Bool} :
    (execOwnSenseEdge level s).canon ps := by
  unfold execOwnSenseEdge
  exact .next (.ite hs hs.setPair)

theorem execNymilLinkUp_canon (hs : s.canon ps) :
    (execNymilLinkUp s).canon ps := by
  unfold execNymilLinkUp
  exact .next (.ite hs hs.setF.setF.setPair.sendWaiting)

theorem execNymilLinkLost_canon (hs : s.canon ps) {lane : Nat} :
    (execNymilLinkLost lane s).canon ps := by
  unfold execNymilLinkLost
  exact onUnit_canon hs.setF.setF.setPair

theorem State.canon.endRound (hs : s.canon ps) :
    s.endRound.canon ps := by
  unfold State.endRound
  exact hs.setF.setPair

theorem State.canon.isolate (hs : s.canon ps) {r sil : Nat} :
    (s.isolate r sil).canon ps := by
  unfold State.isolate
  exact .ite hs.endRound hs.endRound.raise.setRole

theorem State.canon.startRound (hs : s.canon ps) {p : Pattern} :
    (s.startRound p).canon ps := by
  unfold State.startRound
  exact .ite hs.isolate (.foldl (fun _ _ hs => hs.sendPair.sendPair) hs.setF.setF.setF.incSat.setPair)

theorem State.canon.decideRound (hs : s.canon ps) {p : Pattern} :
    (s.decideRound p).canon ps := by
  unfold State.decideRound
  split
  · exact hs
  · exact .ite hs.endRound.setPair (.ite hs.isolate (.ite (.ite hs.endRound.setPair hs.isolate) hs))

theorem execWitWaitExpiry_canon (hs : s.canon ps) :
    (execWitWaitExpiry s).canon ps := by
  unfold execWitWaitExpiry
  refine .next ?_
  split
  · exact hs
  · exact hs.setPair

theorem execIsolatedRound_canon (hs : s.canon ps) :
    (execIsolatedRound s).canon ps := by
  unfold execIsolatedRound
  refine .next ?_
  split
  · exact hs
  · exact .ite hs.startRound hs

theorem State.canon.pairResult (hs : s.canon ps) {op code : Nat} :
    (s.pairResult op code).canon ps := by
  unfold State.pairResult
  exact hs.setF.setF.setF

theorem State.canon.pairClaim (hs : s.canon ps) :
    s.pairClaim.canon ps := by
  unfold State.pairClaim
  exact .ite hs.pairResult (.ite hs.pairResult hs.raise.setPair.pairResult)

theorem State.canon.pairRelease (hs : s.canon ps) :
    s.pairRelease.canon ps := by
  unfold State.pairRelease
  exact .ite hs.pairResult (.ite hs.pairResult (.ite hs.pairResult hs.setPair.pairResult))

theorem State.canon.pairWitness (hs : s.canon ps) :
    s.pairWitness.canon ps := by
  unfold State.pairWitness
  split
  · exact hs.pairResult
  · exact .ite hs.pairResult (.ite hs.pairResult hs.startRound.pairResult)

theorem execClaim_canon (hs : s.canon ps) {req : Requester} :
    (execClaim req s).canon ps := by
  unfold execClaim
  exact hs.command hs.pairClaim

theorem execRelease_canon (hs : s.canon ps) {req : Requester} :
    (execRelease req s).canon ps := by
  unfold execRelease
  exact hs.command hs.pairRelease

theorem execWitness_canon (hs : s.canon ps) {req : Requester} :
    (execWitness req s).canon ps := by
  unfold execWitness
  exact hs.command hs.pairWitness

theorem State.canon.releaseNext (hs : s.canon ps) {cause : Nat} :
    (s.releaseNext cause).canon ps := by
  unfold State.releaseNext
  refine .ite ?_ hs
  split
  · exact hs
  · exact hs
  · exact hs.setPair

theorem State.canon.partnerHeard (hs : s.canon ps) {b : Bytes} :
    (s.partnerHeard b).canon ps := by
  unfold State.partnerHeard
  exact .ite (State.canon.ite (.ite (State.canon.ite hs.setF.setF.setF.setF.setPair.endRound
    hs.setF.setF.setF.setF.setPair).raise.releaseNext (State.canon.ite hs.setF.setF.setF.setF.setPair.endRound
    hs.setF.setF.setF.setF.setPair).raise) (.ite hs.setF.setF.setF.setF.setPair.endRound
    hs.setF.setF.setF.setF.setPair)).setPair (.ite (.ite (State.canon.ite hs.setF.setF.setF.setF.setPair.endRound
    hs.setF.setF.setF.setF.setPair).raise.releaseNext (State.canon.ite hs.setF.setF.setF.setF.setPair.endRound
    hs.setF.setF.setF.setF.setPair).raise) (.ite hs.setF.setF.setF.setF.setPair.endRound
    hs.setF.setF.setF.setF.setPair))

theorem State.canon.discardEpoch (hs : s.canon ps) {p : Pattern} {epoch reason : Nat} :
    (s.discardEpoch p epoch reason).canon ps := by
  unfold State.discardEpoch
  exact hs.incSat.raise.setPair

theorem State.canon.dataPacket (hs : s.canon ps) {p : Pattern} {x : NymilPacket} :
    (s.dataPacket p x).canon ps := by
  unfold State.dataPacket
  exact .ite hs (State.canon.ite hs hs.setPair).load.setPair

theorem State.canon.rxBytes (hs : s.canon ps) {p : Pattern} {n : Nat} :
    (s.rxBytes p n).2.canon ps := by
  unfold State.rxBytes
  exact .foldl (fun _ _ ht => ht.engRead) hs

theorem State.canon.commitEpoch (hs : s.canon ps) {p : Pattern} {epoch : Nat} :
    (s.commitEpoch p epoch).canon ps := by
  unfold State.commitEpoch
  exact hs.setF.setF.setPair

theorem State.canon.endMark (hs : s.canon ps) {p : Pattern} {x : NymilPacket} :
    (s.endMark p x).canon ps := by
  unfold State.endMark
  exact .ite hs.discardEpoch (.ite hs.discardEpoch (.ite hs.discardEpoch (.ite hs.discardEpoch (.ite
    hs.rxBytes.discardEpoch hs.rxBytes.commitEpoch))))

theorem State.canon.healthIn (hs : s.canon ps) {x : NymilPacket} :
    (s.healthIn x).canon ps := by
  unfold State.healthIn
  dsimp only
  split
  · exact hs.setF
  · exact .ite (.ite hs.setF.setF.setF.setF.setPair hs.setF.setF.setF) hs.setF

theorem State.canon.nymilHeard (hs : s.canon ps) {b : Bytes} :
    (s.nymilHeard b).canon ps := by
  unfold State.nymilHeard
  exact hs.setPair.partnerHeard

theorem State.canon.nymilTake (hs : s.canon ps) {p : Pattern} {x : NymilPacket} :
    (s.nymilTake p x).canon ps := by
  unfold State.nymilTake
  split
  · exact hs.nymilHeard
  · exact .ite hs.dataPacket hs
  · exact .ite hs.endMark hs
  · exact .ite hs.healthIn hs
  · exact hs.keyIn
  · exact hs

theorem State.canon.nymilPacketIn (hs : s.canon ps) {p : Pattern} {x : NymilPacket} :
    (s.nymilPacketIn p x).canon ps := by
  unfold State.nymilPacketIn
  exact .ite hs hs.addCredits.takeRxBuffer.nymilTake.sendWaiting.returnCredits

theorem execNymilPacket_canon (hs : s.canon ps) {a : NymilArrival} :
    (execNymilPacket a s).canon ps := by
  unfold execNymilPacket
  refine .next (.ite hs ?_)
  split
  · exact hs.addCredits.sendWaiting
  · exact .ite hs.incSat hs.nymilPacketIn
  · exact hs

theorem execEpochDiscard_canon (hs : s.canon ps) :
    (execEpochDiscard s).canon ps := by
  unfold execEpochDiscard
  refine .next ?_
  split
  · exact hs
  · exact .ite hs.discardEpoch hs

theorem State.canon.slotPackets (hs : s.canon ps) {p : Pattern} {slot : Nat} :
    (s.slotPackets p slot).2.canon ps := by
  unfold State.slotPackets
  exact (State.canon.ite hs.setPair hs).liningReads.setPair

theorem State.canon.markSent (hs : s.canon ps) {p : Pattern} :
    (s.markSent p).canon ps := by
  unfold State.markSent
  exact hs.setF.setF.setPair

theorem State.canon.stallEntry (hs : s.canon ps) {p : Pattern} {slot : Nat} :
    (s.stallEntry p slot).canon ps := by
  unfold State.stallEntry
  exact .ite hs.incSat.incSat.raise hs.incSat

theorem State.canon.nymilSend (hs : s.canon ps) {returned : Nat} {p : Pattern} {slot : Nat} :
    (State.nymilSend returned s p slot).canon ps := by
  unfold State.nymilSend
  exact .ite (State.canon.foldl (fun _ _ hs => hs.nymilPut) hs.slotPackets.setPair).addCredits.stallEntry (.ite
    (State.canon.foldl (fun _ _ hs => hs.nymilPut) hs.slotPackets.setPair).addCredits.markSent (State.canon.foldl (fun
    _ _ hs => hs.nymilPut) hs.slotPackets.setPair).addCredits)

theorem State.canon.nymilEntry (hs : s.canon ps) {k : Nat} {apply : Bool} {f : Nat → State → Pattern → Nat → State} (hf
    : ∀ u0 s1 u2 u3, s1.canon ps → (f u0 s1 u2 u3).canon ps) :
    (s.nymilEntry k apply f).canon ps := by
  unfold State.nymilEntry
  split
  · exact .ite hs (.ite (hf _ _ _ _ hs.atTick.dropHealth).finishEntry hs.atTick.passEntry)
  · exact hs

theorem execNymilSendEntry_canon (hs : s.canon ps) {send : NymilSend} :
    (execNymilSendEntry send s).canon ps := .next (hs.nymilEntry fun _ _ _ _ hu => .ite hu.nymilSend hu)

theorem State.canon.nymilApply (hs : s.canon ps) {endTick : Nat} {p : Pattern} {slot : Nat} :
    (State.nymilApply endTick s p slot).canon ps := by
  unfold State.nymilApply
  refine .ite ?_ ?_
  · split
    · exact hs.setPair
    · exact hs
  · split
    · exact hs
    · exact .ite (.ite hs.applySlot.setPair.sendHealth hs.applySlot.setPair) hs

theorem execNymilApplyEntry_canon (hs : s.canon ps) {entry : Nat} :
    (execNymilApplyEntry entry s).canon ps := by
  unfold execNymilApplyEntry
  exact .next (hs.nymilEntry (fun _ _ _ _ h => h.nymilApply))

theorem State.canon.checkReady (hs : s.canon ps) {p : Pattern} :
    (s.checkReady p).canon ps := by
  unfold State.checkReady
  exact .ite hs.setF.raise hs

theorem execPartnerReadyLost_canon (hs : s.canon ps) :
    (execPartnerReadyLost s).canon ps := by
  unfold execPartnerReadyLost
  refine .next ?_
  split
  · exact hs
  · exact .ite hs.checkReady hs

theorem State.canon.sendOn (hs : s.canon ps) {ports station : Nat} {m : Bytes} :
    (s.sendOn ports station m).canon ps := by
  unfold State.sendOn
  exact .ite (State.canon.ite hs.sendPair hs).sendPair (.ite hs.sendPair hs)

theorem State.canon.witnessQuery (hs : s.canon ps) {port from_ qst qpos qseq : Nat} :
    (s.witnessQuery port from_ qst qpos qseq).canon ps := by
  unfold State.witnessQuery
  exact .ite hs.setPair.sendPair (.ite hs hs.setPair.sendPair)

theorem State.canon.witnessReply (hs : s.canon ps) {v : Served} {verdict : Nat} :
    (s.witnessReply v verdict).canon ps := by
  unfold State.witnessReply
  exact hs.setPair.sendOn

theorem State.canon.witnessIn (hs : s.canon ps) {p : Pattern} {station qseq verdict : Nat} :
    (s.witnessIn p station qseq verdict).canon ps := by
  unfold State.witnessIn
  split
  · exact hs
  · refine .ite hs ?_
    split
    · exact hs
    · exact .ite hs (.ite hs.setPair.setF.setF hs.setPair.setF)

theorem execPairMessage_canon (hs : s.canon ps) {port station : Nat} {msg : Bytes} :
    (execPairMessage port station msg s).canon ps := by
  unfold execPairMessage
  refine onUnit_canon ?_
  split
  · exact hs
  · dsimp only
    split
    · exact .ite hs.mk.setPair.partnerHeard hs.mk
    · exact .ite hs.mk.witnessQuery hs.mk
    · exact .ite hs.mk.sendPair hs.mk
    · split
      · exact .ite hs.mk.witnessReply hs.mk
      · exact hs.mk
    · exact .ite hs.mk.witnessIn hs.mk
    · exact hs.mk

theorem execWitnessProbeTimeout_canon (hs : s.canon ps) {station qpos qseq : Nat} :
    (execWitnessProbeTimeout station qpos qseq s).canon ps := by
  unfold execWitnessProbeTimeout
  refine .next ?_
  split
  · exact hs.witnessReply
  · exact hs

theorem State.canon.lpTakeover (hs : s.canon ps) {c : Nat} :
    (s.lpTakeover c).canon ps := by
  unfold State.lpTakeover
  exact hs.setF.lpReading (fun _ hs => hs.setF.setF.lpLeftOut)

theorem State.canon.fnTakeover (hs : s.canon ps) {f : Nat} :
    (s.fnTakeover f).canon ps := by
  unfold State.fnTakeover
  split
  · exact hs
  · exact .ite hs.setFnState hs

theorem State.canon.cutTasks (hs : s.canon ps) :
    s.cutTasks.canon ps := by
  unfold State.cutTasks
  exact .foldl (fun _ _ hs => hs.setTriggers.mk) hs

theorem State.canon.becomeActive (hs : s.canon ps) :
    s.becomeActive.canon ps := by
  unfold State.becomeActive
  exact hs.setRole.setPair.cutTasks

theorem State.canon.takeOver (hs : s.canon ps) {p : Pattern} {cause : Nat} :
    (s.takeOver p cause).canon ps := by
  unfold State.takeOver
  exact State.canon.safeCommTakeover (.foldl (fun _ _ hu => hu.fnTakeover) (.foldl (fun _ _ hs => by
      split
      · exact .foldl (fun _ _ hs => hs.lpTakeover) hs
      · exact hs.setQpCtx
      · exact hs.mk
      · exact hs) hs.endRound.becomeActive.setF.setF.raise))

theorem State.canon.pairCount (hs : s.canon ps) :
    s.pairCount.canon ps := by
  unfold State.pairCount
  exact (State.canon.ite hs.setB.setB.setF hs.setB.setB.incSat).setB.setF.incSat.setPair

theorem State.canon.mismatchStep (hs : s.canon ps) :
    s.mismatchStep.canon ps := by
  unfold State.mismatchStep
  exact (State.canon.ite hs.raise hs).setPair

theorem State.canon.staleStep (hs : s.canon ps) {p : Pattern} {skew : Bool} :
    (s.staleStep p skew).canon ps := by
  unfold State.staleStep
  exact .ite (State.canon.ite hs.setPair.setF.raise hs.setPair.setF).raise.setRole (.ite (State.canon.ite
    hs.setPair.setF.raise hs.setPair.setF).setRole (.ite hs.setPair.setF.raise hs.setPair.setF))

theorem State.canon.takeoverStep (hs : s.canon ps) {p : Pattern} :
    (s.takeoverStep p).canon ps := by
  unfold State.takeoverStep
  split
  · exact .ite hs.setPair (.ite hs.takeOver hs)
  · exact hs

theorem State.canon.takeoverDecision (hs : s.canon ps) {p : Pattern} {heard : Bool} :
    (s.takeoverDecision p heard).canon ps := by
  unfold State.takeoverDecision
  exact .ite hs (.ite hs.setPair.takeoverStep (.ite hs (.ite (.ite hs.setPair hs) (.ite hs (.ite hs.startRound hs)))))

theorem State.canon.syncStep (hs : s.canon ps) {p : Pattern} :
    (s.syncStep p).canon ps := by
  unfold State.syncStep
  exact .ite (.ite hs.setPair.setPair (.ite hs.setPair.setPair.raise.setRole (.ite hs.setPair.setPair.sendKey
    hs.setPair.setPair))) (.ite hs.setPair.setPair (.ite hs.setPair (.ite hs.setPair.setPair (.ite
    hs.setPair.raise.startRound hs.setPair.raise.becomeActive))))

theorem State.canon.ownStep (hs : s.canon ps) :
    s.ownStep.canon ps := by
  unfold State.ownStep
  refine .ite hs.setPair ?_
  refine .ite ?_ hs.setPair
  split
  · exact hs.raise.setPair
  · exact hs.toSyncing.setPair
  · exact hs.setPair

theorem State.canon.sendHeartbeat (hs : s.canon ps) {p : Pattern} :
    (s.sendHeartbeat p).canon ps := by
  unfold State.sendHeartbeat
  exact .ite hs (State.canon.ite hs hs.nymilPut).fillEth

theorem State.canon.pairBoundary (hs : s.canon ps) {p : Pattern} :
    (s.pairBoundary p).canon ps := by
  unfold State.pairBoundary
  exact .ite hs.pairCount.ownStep (State.canon.sendHeartbeat (State.canon.ownStep (.ite (.ite
    hs.pairCount.dropHealth.mismatchStep hs.pairCount.dropHealth.mismatchStep.endRound.toSyncing) (.ite
    hs.pairCount.dropHealth.mismatchStep.checkReady (.ite (.ite (State.canon.takeoverDecision (State.canon.staleStep
    (.ite (by
      split
      · exact hs.pairCount.dropHealth.mismatchStep.takeOver
      · exact hs.pairCount.dropHealth.mismatchStep.toSyncing
      · exact hs.pairCount.dropHealth.mismatchStep) (State.canon.takeoverStep (by
            split
            · exact hs.pairCount.dropHealth.mismatchStep.takeOver
            · exact hs.pairCount.dropHealth.mismatchStep.toSyncing
            · exact hs.pairCount.dropHealth.mismatchStep))))) (State.canon.decideRound (State.canon.takeoverDecision
                (State.canon.staleStep (.ite (by
                  split
                  · exact hs.pairCount.dropHealth.mismatchStep.takeOver
                  · exact hs.pairCount.dropHealth.mismatchStep.toSyncing
                  · exact hs.pairCount.dropHealth.mismatchStep) (State.canon.takeoverStep (by
                        split
                        · exact hs.pairCount.dropHealth.mismatchStep.takeOver
                        · exact hs.pairCount.dropHealth.mismatchStep.toSyncing
                        · exact hs.pairCount.dropHealth.mismatchStep))))))) (.ite (State.canon.decideRound (.ite (by
                              split
                              · exact hs.pairCount.dropHealth.mismatchStep.takeOver
                              · exact hs.pairCount.dropHealth.mismatchStep.toSyncing
                              · exact hs.pairCount.dropHealth.mismatchStep) (State.canon.takeoverStep (by
                                    split
                                    · exact hs.pairCount.dropHealth.mismatchStep.takeOver
                                    · exact hs.pairCount.dropHealth.mismatchStep.toSyncing
                                    · exact hs.pairCount.dropHealth.mismatchStep)))) (.ite (State.canon.decideRound
                                        (State.canon.syncStep (.ite (by
                                          split
                                          · exact hs.pairCount.dropHealth.mismatchStep.takeOver
                                          · exact hs.pairCount.dropHealth.mismatchStep.toSyncing
                                          · exact hs.pairCount.dropHealth.mismatchStep) (State.canon.takeoverStep (by
                                                split
                                                · exact hs.pairCount.dropHealth.mismatchStep.takeOver
                                                · exact hs.pairCount.dropHealth.mismatchStep.toSyncing
                                                · exact hs.pairCount.dropHealth.mismatchStep))))) (.ite (by
                                                      split
                                                      · exact hs.pairCount.dropHealth.mismatchStep.takeOver
                                                      · exact hs.pairCount.dropHealth.mismatchStep.toSyncing
                                                      · exact hs.pairCount.dropHealth.mismatchStep)
                                                          (State.canon.takeoverStep (by
                                                            split
                                                            · exact hs.pairCount.dropHealth.mismatchStep.takeOver
                                                            · exact hs.pairCount.dropHealth.mismatchStep.toSyncing
                                                            · exact hs.pairCount.dropHealth.mismatchStep))))))))))


/-! ### StationOps -/

theorem State.canon.stopTables (hs : s.canon ps) :
    s.stopTables.canon ps := by
  unfold State.stopTables
  exact (State.canon.foldl (fun _ _ hs => hs.setSelv) (.foldl (fun _ _ hs => hs.setAgent.setBusy)
    hs.setF.setF)).qpDrop.mk

theorem State.canon.dropOutputs (hs : s.canon ps) :
    s.dropOutputs.canon ps := by
  unfold State.dropOutputs
  exact .foldl (fun _ _ hs => hs.cloOff) (.foldl (fun _ _ hs => .ite hs.switch hs) hs)

theorem State.canon.releaseForces (hs : s.canon ps) :
    s.releaseForces.canon ps := by
  unfold State.releaseForces
  exact hs.mk.setF.raise

theorem State.canon.patEnd (hs : s.canon ps) {op code detail : Nat} :
    (s.patEnd op code detail).canon ps := by
  unfold State.patEnd
  exact hs.setF.setF.setF.setF.setF.mk

theorem State.canon.olcDrop (hs : s.canon ps) {st : Nat} :
    (s.olcDrop st).canon ps := by
  unfold State.olcDrop
  exact .ite hs.mk.setF.patEnd hs.mk.setF

theorem State.canon.olcLeave (hs : s.canon ps) :
    s.olcLeave.canon ps := by
  unfold State.olcLeave
  exact .ite hs.olcDrop hs

theorem State.canon.startEnd (hs : s.canon ps) {op code : Nat} :
    (s.startEnd op code).canon ps := by
  unfold State.startEnd
  exact hs.mk.setF.setF.setF.setF

theorem State.canon.lbEnd (hs : s.canon ps) {code : Nat} :
    (s.lbEnd code).canon ps := by
  unfold State.lbEnd
  split
  · exact hs
  · exact State.canon.mk (State.canon.raise (State.canon.setF (State.canon.setF (by split; exacts [hs.setF, hs]))))

theorem State.canon.clearLoops (hs : s.canon ps) :
    s.clearLoops.canon ps := by
  unfold State.clearLoops
  exact .foldl (fun _ _ hs => by split; exacts [hs.setF, hs]) hs

theorem State.canon.setStation (hs : s.canon ps) {dst : StationState} :
    (s.setStation dst).canon ps := by
  unfold State.setStation
  exact (State.canon.ite hs hs.lbEnd).mk

theorem State.canon.leaveOperation (hs : s.canon ps) {dst : StationState} :
    (s.leaveOperation dst).canon ps := by
  unfold State.leaveOperation
  exact (State.canon.ite (State.canon.ite hs.releaseNext.stopTables.olcLeave
    hs.releaseNext.stopTables.olcLeave.startEnd).endInjection.releaseForces.closeWindow (.ite
    hs.releaseNext.stopTables.olcLeave hs.releaseNext.stopTables.olcLeave.startEnd)).setStation.dropOutputs.updateModOk


/-! ### RegRead -/

theorem State.canon.busRead (hs : s.canon ps) {a : Nat} :
    (s.busRead a).2.canon ps := by
  unfold State.busRead
  refine State.canon.ite_snd hs ?_
  dsimp only
  split
  · split
    · exact State.canon.eccRead (by split; exacts [hs.mk.captureTake, hs.mk])
    · split
      · exact hs.mk.captureTake
      · exact hs.mk
  · split
    · exact hs.mk.captureTake
    · exact hs.mk

theorem State.canon.snapRun (hs : s.canon ps) {p : Pattern} {r : Nat × Nat × Nat} :
    (s.snapRun p r).2.canon ps := by
  unfold State.snapRun
  refine State.canon.ite_snd (State.canon_foldl_snd (fun _ _ hx => hx.busRead) hs) ?_
  split
  · exact hs
  · exact hs.eccRead

theorem State.canon.snapshot (hs : s.canon ps) {code : Nat} :
    (s.snapshot code).2.canon ps := by
  unfold State.snapshot
  split
  · exact hs
  · split
    · exact hs
    · exact State.canon_foldl_snd (fun _ _ hx => hx.snapRun) hs

theorem State.canon.commitOne (hs : s.canon ps) :
    s.commitOne.canon ps := by
  unfold State.commitOne
  split
  · exact hs
  · exact .ite hs.snapshot.writeRecord.unstage hs

theorem execRecordCommit_canon (hs : s.canon ps) :
    (execRecordCommit s).canon ps := by
  unfold execRecordCommit
  exact .next (hs.access hs.commitOne)

theorem State.canon.commitAll (hs : s.canon ps) :
    s.commitAll.canon ps := by
  unfold State.commitAll
  exact .foldl (fun _ _ hs => hs.commitOne) hs


/-! ### ResetOps -/

theorem State.canon.afterReset (hs : s.canon ps) :
    s.afterReset.canon ps := by
  obtain ⟨hp, hm, hr⟩ := State.canon_iff.1 hs
  refine State.canon_iff.2 ⟨hp, wf_filter _ s.mem hm, Store.wf_set regReset _ _ _ ?_⟩
  exact Store.wf_set _ _ _ _ (Store.wf_set _ _ _ _ (Store.wf_set _ _ _ _ rfl))

theorem State.canon.fullReset (hs : s.canon ps) {c : ResetCause} :
    (s.fullReset c).canon ps := by
  unfold State.fullReset
  exact hs.afterReset.mk

theorem State.canon.powerOff (hs : s.canon ps) :
    s.powerOff.canon ps := by
  unfold State.powerOff
  exact hs.afterReset.mk

theorem State.canon.resetBy (hs : s.canon ps) {c : ResetCause} :
    (s.resetBy c).canon ps := by
  unfold State.resetBy
  exact .ite hs hs.fullReset


/-! ### Owner -/

theorem State.canon.ownerUse (hs : s.canon ps) :
    s.ownerUse.canon ps := by
  unfold State.ownerUse
  exact .ite hs.authFail hs


/-! ### Panel -/

theorem State.canon.setPnlState (hs : s.canon ps) {n : Nat} :
    (s.setPnlState n).canon ps := by
  unfold State.setPnlState
  exact hs.setF

theorem State.canon.setPnl (hs : s.canon ps) {x : Panel} :
    (s.setPnl x).canon ps := by
  unfold State.setPnl
  exact hs.mk

theorem State.canon.verifyAssets (hs : s.canon ps) :
    s.verifyAssets.canon ps := by
  unfold State.verifyAssets
  refine .ite hs ?_
  dsimp only
  split
  · exact hs.ownerUse.setF.setPnlState
  · exact hs.ownerUse.setF.raise.setPnlState

theorem State.canon.panelPowerUp (hs : s.canon ps) :
    s.panelPowerUp.canon ps := by
  unfold State.panelPowerUp
  exact .ite hs.load hs

theorem State.canon.setPanelWord (hs : s.canon ps) {w : Nat} :
    (s.setPanelWord w).canon ps := by
  unfold State.setPanelWord
  exact hs.wrLe.setF.setF

theorem State.canon.setPanelPending (hs : s.canon ps) :
    s.setPanelPending.canon ps := by
  unfold State.setPanelPending
  exact hs.setB

theorem State.canon.requestUpdate (hs : s.canon ps) {j : PanelJob} :
    (s.requestUpdate j).canon ps := by
  unfold State.requestUpdate
  exact hs.setPnl.setPanelPending

theorem State.canon.checkLayout (hs : s.canon ps) {p : Pattern} :
    (s.checkLayout p).canon ps := by
  unfold State.checkLayout
  exact .ite hs.raise hs

theorem State.canon.alarmReads (hs : s.canon ps) {p : Pattern} :
    (s.alarmReads p).canon ps := by
  unfold State.alarmReads
  exact .foldl (fun _ _ hs => by split; exacts [hs, hs.engRead]) hs

theorem State.canon.panelRender (hs : s.canon ps) :
    s.panelRender.canon ps := by
  unfold State.panelRender
  refine .ite hs ?_
  dsimp only
  split
  · exact State.canon.faultCounts (by split; exacts [.ite hs.alarmReads hs, hs])
  · exact State.canon.requestUpdate (State.canon.setPnl (State.canon.faultCounts (by
        split
        · exact .ite hs.alarmReads hs
        · exact hs)))

theorem execPanelRender_canon (hs : s.canon ps) :
    (execPanelRender s).canon ps := by
  unfold execPanelRender
  exact .next hs.panelRender

theorem State.canon.requestRefresh (hs : s.canon ps) :
    s.requestRefresh.canon ps := by
  unfold State.requestRefresh
  exact hs.requestUpdate

theorem execRefreshInterval_canon (hs : s.canon ps) :
    (execRefreshInterval s).canon ps := by
  unfold execRefreshInterval
  refine .next ?_
  split
  · exact .ite hs.requestRefresh hs
  · exact hs

theorem State.canon.panelTemperature (hs : s.canon ps) {a : Pattern} {ntc : Int} :
    (s.panelTemperature a ntc).2.canon ps := by
  unfold State.panelTemperature
  exact State.canon.ite_snd hs.setF.raise hs.setF

theorem State.canon.railOn (hs : s.canon ps) {r : PanelRail} :
    (s.railOn r).canon ps := by
  unfold State.railOn
  exact hs.setPnl

theorem State.canon.railOff (hs : s.canon ps) {r : PanelRail} :
    (s.railOff r).canon ps := by
  unfold State.railOff
  exact hs.setPnl

theorem State.canon.railsOn (hs : s.canon ps) {vcomMv : Int} :
    (s.railsOn vcomMv).canon ps := by
  unfold State.railsOn
  exact (State.canon.foldl (fun _ _ hu => hu.railOn) hs).setPnl

theorem State.canon.discharge (hs : s.canon ps) :
    s.discharge.canon ps := by
  unfold State.discharge
  exact .ite hs hs.setPnl.railOff.railOff.setPnl.railOff.railOff.railOff

theorem State.canon.dischargeNow (hs : s.canon ps) :
    s.dischargeNow.canon ps := by
  unfold State.dischargeNow
  exact hs.discharge.setPnlState.setPnl

theorem State.canon.dischargeStep (hs : s.canon ps) :
    s.dischargeStep.canon ps := by
  unfold State.dischargeStep
  split
  · exact .ite (.ite hs.setPnl.setPnlState hs.setPnl) hs
  · exact hs

theorem State.canon.panelStart (hs : s.canon ps) {j : PanelJob} {ntc : Int} :
    (s.panelStart j ntc).canon ps := by
  unfold State.panelStart
  exact (State.canon.ite (State.canon.ite hs.panelTemperature.setPnl.setB.setF.setF.load
    hs.panelTemperature.setPnl.setB.setF.setF.load.wrBytes).setPanelWord.setPnl.setF.setF.railsOn.setPnlState
    (State.canon.ite hs.panelTemperature.setPnl.setB.setF.setF.load
    hs.panelTemperature.setPnl.setB.setF.setF.load.wrBytes).setPanelWord.setPnl.setF.setF.setPnlState).setPanelPending

theorem State.canon.takeAssets (hs : s.canon ps) :
    s.takeAssets.canon ps := by
  unfold State.takeAssets
  dsimp only
  split
  · exact hs.setPnl.verifyAssets.panelPowerUp.checkLayout
  · exact hs.setPnl.verifyAssets.panelPowerUp

theorem State.canon.panelStartNew (hs : s.canon ps) {ntc : Int} :
    (s.panelStartNew ntc).canon ps := by
  unfold State.panelStartNew
  refine .ite ?_ hs.takeAssets.setPnl.setPanelPending
  dsimp only
  split
  · exact hs.takeAssets.requestRefresh.panelStart
  · exact hs.takeAssets.requestRefresh

theorem execPanelUpdateStart_canon (hs : s.canon ps) {ntc : Int} :
    (execPanelUpdateStart ntc s).canon ps := by
  unfold execPanelUpdateStart
  refine .next ?_
  split
  · exact .ite hs (.ite hs.panelStartNew hs.panelStart)
  · exact hs

theorem State.canon.activateAssets (hs : s.canon ps) {slot : Nat} :
    (s.activateAssets slot).canon ps := by
  unfold State.activateAssets
  exact .ite hs.mk (.ite hs.mk.requestRefresh (.ite hs.mk.takeAssets.setPnlState.setPnl hs.mk.takeAssets))

theorem State.canon.panelInterrupted (hs : s.canon ps) :
    s.panelInterrupted.canon ps := by
  unfold State.panelInterrupted
  exact hs.incSat.raise.dischargeNow.setPnl.setPanelPending

theorem State.canon.panelFrame (hs : s.canon ps) {j : PanelJob} :
    (s.panelFrame j).canon ps := by
  unfold State.panelFrame
  exact .ite (State.canon.ite hs.setPnl.setPnlState hs.setPnl).panelInterrupted (.ite (State.canon.ite
    hs.setPnl.setPnlState hs.setPnl).setF (.ite (State.canon.ite hs.setPnl.setPnlState hs.setPnl).setPnl
    (State.canon.ite hs.setPnl.setPnlState hs.setPnl).setPnl.discharge.setPnlState))

theorem execPanelFrame_canon (hs : s.canon ps) :
    (execPanelFrame s).canon ps := by
  unfold execPanelFrame
  refine .next ?_
  split
  · exact .ite hs hs.panelFrame
  · exact hs

theorem State.canon.pnlResult (hs : s.canon ps) {op code : Nat} :
    (s.pnlResult op code).canon ps := by
  unfold State.pnlResult
  exact hs.setF.setF.setF

theorem State.canon.panelOff (hs : s.canon ps) :
    s.panelOff.canon ps := by
  unfold State.panelOff
  exact hs.discharge.setPnl.setPnlState.setPanelPending.pnlResult

theorem State.canon.panelCommit (hs : s.canon ps) {j : PanelJob} :
    (s.panelCommit j).canon ps := by
  unfold State.panelCommit
  exact .ite (State.canon.ite (State.canon.ite hs.setPanelWord.incSat.raise hs.setPanelWord.incSat).setPnl.setPnlState
    (State.canon.ite hs.setPanelWord.incSat.raise hs.setPanelWord.incSat).setPnl).panelOff (State.canon.ite
    (State.canon.ite hs.setPanelWord.incSat.raise hs.setPanelWord.incSat).setPnl.setPnlState (State.canon.ite
    hs.setPanelWord.incSat.raise hs.setPanelWord.incSat).setPnl).setPanelPending

theorem execPanelUpdateCommit_canon (hs : s.canon ps) :
    (execPanelUpdateCommit s).canon ps := by
  unfold execPanelUpdateCommit
  refine .next ?_
  split
  · exact .ite hs.panelCommit hs
  · exact hs

theorem State.canon.updateLost (hs : s.canon ps) :
    s.updateLost.canon ps := by
  unfold State.updateLost
  exact hs.setPnl

theorem State.canon.railFault (hs : s.canon ps) {j : PanelJob} {rail : Nat} :
    (s.railFault j rail).canon ps := by
  unfold State.railFault
  exact .ite (State.canon.ite hs.dischargeNow.setPanelWord.incSat.setF.raise.updateLost.setPnl.setPnl.setPnlState.raise
    hs.dischargeNow.setPanelWord.incSat.setF.raise.updateLost.setPnl).panelOff (State.canon.ite
    hs.dischargeNow.setPanelWord.incSat.setF.raise.updateLost.setPnl.setPnl.setPnlState.raise
    hs.dischargeNow.setPanelWord.incSat.setF.raise.updateLost.setPnl).setPanelPending

theorem execPnlRailFault_canon (hs : s.canon ps) {rail : Nat} :
    (execPnlRailFault rail s).canon ps := by
  unfold execPnlRailFault
  refine onUnit_canon ?_
  split
  · exact .ite hs hs.railFault
  · exact hs

theorem execRailFaultRetry_canon (hs : s.canon ps) :
    (execRailFaultRetry s).canon ps := by
  unfold execRailFaultRetry
  exact .next (.ite hs.setPnl.setPanelPending hs)

theorem State.canon.panelBoot (hs : s.canon ps) :
    s.panelBoot.canon ps := by
  unfold State.panelBoot
  exact .ite hs.setF.setF (.ite hs.setF.setF.wrBytes.requestRefresh (.ite hs.setF.setF (State.canon.ite hs.setF.setF
    hs.setF.setF.raise).setPnl))

theorem State.canon.panelFeedLoss (hs : s.canon ps) :
    s.panelFeedLoss.canon ps := by
  unfold State.panelFeedLoss
  dsimp only
  split
  · exact .ite hs.setPnl.setPanelWord.panelInterrupted hs.setPnl.setPanelWord
  · exact hs.setPnl.discharge

theorem State.canon.pnlRefresh (hs : s.canon ps) :
    s.pnlRefresh.canon ps := by
  unfold State.pnlRefresh
  exact .ite hs.pnlResult (.ite hs.pnlResult (.ite hs.pnlResult hs.requestRefresh.pnlResult))

theorem State.canon.pnlDisableCmd (hs : s.canon ps) :
    s.pnlDisableCmd.canon ps := by
  unfold State.pnlDisableCmd
  exact .ite hs.pnlResult (.ite hs.pnlResult (.ite (.ite hs.setF.setF.setF.setPnl.discharge.setPnlState
    hs.setF.setF.setF.setPnl) hs.panelOff))

theorem State.canon.pnlEnableCmd (hs : s.canon ps) :
    s.pnlEnableCmd.canon ps := by
  unfold State.pnlEnableCmd
  exact .ite hs.pnlResult (.ite hs.pnlResult (.ite hs.pnlResult (State.canon.ite hs.setPnl.requestRefresh
    hs.setPnl).setPnlState.pnlResult))

theorem execRefresh_canon (hs : s.canon ps) {req : Requester} :
    (execRefresh req s).canon ps := by
  unfold execRefresh
  exact hs.command hs.pnlRefresh

theorem execPnlDisable_canon (hs : s.canon ps) {req : Requester} :
    (execPnlDisable req s).canon ps := by
  unfold execPnlDisable
  exact hs.command hs.pnlDisableCmd

theorem execPnlEnable_canon (hs : s.canon ps) {req : Requester} :
    (execPnlEnable req s).canon ps := by
  unfold execPnlEnable
  exact hs.command hs.pnlEnableCmd


/-! ### PatternOps -/

theorem State.canon.showRoles (hs : s.canon ps) :
    s.showRoles.canon ps := by
  unfold State.showRoles
  exact hs.setF.setF.setF.setB

theorem State.canon.writeRoles (hs : s.canon ps) {r : PatRoles} :
    (s.writeRoles r).canon ps := by
  unfold State.writeRoles
  exact hs.wrLe.showRoles

theorem State.canon.setRegion (hs : s.canon ps) {r st : Nat} :
    (s.setRegion r st).canon ps := by
  unfold State.setRegion
  exact hs.setF

theorem State.canon.setShadow (hs : s.canon ps) {sh rg : Nat} :
    (s.setShadow sh rg).canon ps := by
  unfold State.setShadow
  exact hs.setF.setRegion

theorem State.canon.shadowGone (hs : s.canon ps) :
    s.shadowGone.canon ps := by
  unfold State.shadowGone
  exact hs.setShadow.setF

theorem State.canon.mirrorHalf (hs : s.canon ps) {p : Pattern} {k off : Nat} {bs : Bytes} :
    (s.mirrorHalf p k off bs).canon ps := by
  unfold State.mirrorHalf
  exact .ite hs.load hs

theorem State.canon.initRun (hs : s.canon ps) {p : Pattern} {it : Bytes} :
    (s.initRun p it).canon ps := by
  unfold State.initRun
  exact .ite (.foldl (fun _ _ hs => hs.mirrorHalf) hs.load) hs.load

theorem State.canon.initData (hs : s.canon ps) {p : Pattern} :
    (s.initData p).canon ps := by
  unfold State.initData
  exact .foldl (fun _ _ hs => hs.initRun) (.foldl (fun _ _ hs => hs.clearRange.eccClearWords)
    hs.clearRange.eccClearArrays)

theorem State.canon.clearPatternFields (hs : s.canon ps) :
    s.clearPatternFields.canon ps := by
  unfold State.clearPatternFields
  exact .foldl (fun _ _ hs => .foldl (fun _ _ hs => hs.setF) hs) (.foldl (fun _ _ hs => hs.setF) (.foldl (fun _ _ hs =>
    hs.setF) (.foldl (fun _ _ hs => hs.setF) (.foldl (fun _ _ hs => hs.setF) (.foldl (fun _ _ hs => hs.setF) (.foldl
    (fun _ _ hs => hs.setF) (.foldl (fun _ _ hs => hs.setF) (.foldl (fun _ _ hs => hs.setF) (.foldl (fun _ _ hs =>
    hs.setF) (.foldl (fun _ _ hs => hs.setF) (.foldl (fun _ _ hs => hs.setF) (.foldl (fun _ _ hs => hs.setF) (.foldl
    (fun _ _ hs => hs.setF) (.foldl (fun _ _ hs => hs.setF) hs.setR.setF))))))))))))))

theorem State.canon.headerFields (hs : s.canon ps) {p : Pattern} :
    (s.headerFields p).canon ps := by
  unfold State.headerFields
  exact .foldl (fun _ _ hs => hs.setF) hs.setF.setF.setF.setF.setF.setF.setF.setF

theorem State.canon.clearCounts (hs : s.canon ps) :
    s.clearCounts.canon ps := by
  unfold State.clearCounts
  exact (State.canon.foldl (fun _ _ hs => hs.setF) (.foldl (fun _ _ hs => hs.setF) (.foldl (fun _ _ hs => hs.setF)
    (.foldl (fun _ _ hs => hs.setF) hs)))).setR

theorem State.canon.unitFields (hs : s.canon ps) {p : Pattern} :
    (s.unitFields p).canon ps := by
  unfold State.unitFields
  exact (State.canon.foldl (fun _ _ hs => hs.setF) (.foldl (fun _ _ hs => hs.setF)
    hs)).safeCommConfigure.canConfigure.setF.setB

theorem State.canon.loadCode (hs : s.canon ps) {p : Pattern} :
    (s.loadCode p).canon ps := by
  unfold State.loadCode
  exact .foldl (fun _ _ hs => hs.load) hs.eccClearArrays

theorem State.canon.restartFns (hs : s.canon ps) {p : Pattern} :
    (s.restartFns p).canon ps := by
  unfold State.restartFns
  exact .foldl (fun _ _ hs => hs.setF.setF) (.foldl (fun _ _ hs => hs.setF.setF.setFnState) hs.mk)

theorem State.canon.clearTasks (hs : s.canon ps) :
    s.clearTasks.canon ps := by
  unfold State.clearTasks
  exact (State.canon.foldl (fun _ _ hs => hs.setR) hs).mk

theorem State.canon.restartUnits (hs : s.canon ps) {p : Pattern} :
    (s.restartUnits p).canon ps := by
  unfold State.restartUnits
  exact .foldl (fun _ _ hs => hs.setGrp) hs.safeCommRestart.canRestart.unlatchAll

theorem State.canon.setPeriod (hs : s.canon ps) {ns : Nat} :
    (s.setPeriod ns).canon ps := by
  unfold State.setPeriod
  exact hs.mk

theorem State.canon.loadPattern (hs : s.canon ps) {p : Pattern} :
    (s.loadPattern p).canon ps := by
  unfold State.loadPattern
  exact (State.canon.ite
    hs.mk.clearPatternFields.headerFields.unitFields.setF.ptpBegin.ptpBegin.loadCode.initData.lpRestart.qpRestart.clearTasks.restartUnits.restartFns.fillTokens.clearCounts.toSyncing hs.mk.clearPatternFields.headerFields.unitFields.setF.ptpBegin.ptpBegin.loadCode.initData.lpRestart.qpRestart.clearTasks.restartUnits.restartFns.fillTokens.clearCounts.setRole).updateConfirmed.checkLayout.setPeriod

theorem State.canon.unpattern (hs : s.canon ps) {code detail : Nat} :
    (s.unpattern code detail).canon ps := by
  unfold State.unpattern
  exact (State.canon.foldl (fun _ _ hs => hs.setFnState) (State.canon.foldl (fun _ _ hs => hs.openGroupDark)
    hs.leaveOperation).mk.clearPatternFields.setF.clearTasks.ptpBegin.ptpBegin).setRole.updateConfirmed.setPeriod.updateModOk

theorem State.canon.startPattern (hs : s.canon ps) :
    s.startPattern.2.canon ps := by
  unfold State.startPattern
  dsimp only
  split
  · exact hs.ownerUse.unpattern.raise
  · exact hs.ownerUse.loadPattern.setStation.updateModOk

theorem State.canon.patRefuse (hs : s.canon ps) {op : Nat} {c : PatCode} :
    (s.patRefuse op c).canon ps := by
  unfold State.patRefuse
  exact hs.setF.setF.setF.setF

theorem State.canon.patBegin (hs : s.canon ps) {op : Nat} :
    (s.patBegin op).canon ps := by
  unfold State.patBegin
  exact hs.setF.setF.setF.setF.setF.mk

theorem State.canon.patCmd (hs : s.canon ps) {op : Nat} {ok : Bool} {f : State → State} (hf : ∀ s0, s0.canon ps → (f
    s0).canon ps) :
    (s.patCmd op ok f).canon ps := by
  unfold State.patCmd
  exact .ite hs.patRefuse (.ite hs.patRefuse (hf _ hs.patBegin))

theorem State.canon.dropStart (hs : s.canon ps) :
    s.dropStart.canon ps := by
  unfold State.dropStart
  exact .ite hs hs.setF.startEnd.mk

theorem State.canon.patVerify (hs : s.canon ps) :
    s.patVerify.canon ps := by
  unfold State.patVerify
  exact hs.patCmd (fun _ hs => hs.setShadow)

theorem State.canon.verificationEnd (hs : s.canon ps) :
    s.verificationEnd.canon ps := by
  unfold State.verificationEnd
  refine .ite hs ?_
  dsimp only
  split
  · exact hs.ownerUse.setShadow.patEnd
  · exact hs.ownerUse.setShadow.patEnd

theorem State.canon.barAutoStart (hs : s.canon ps) :
    s.barAutoStart.canon ps := by
  unfold State.barAutoStart
  exact hs.mk

theorem State.canon.patActivate (hs : s.canon ps) :
    s.patActivate.canon ps := by
  unfold State.patActivate
  exact hs.patCmd (fun _ hs => hs.dropStart.barAutoStart.writeRoles.shadowGone)

theorem State.canon.patRevert (hs : s.canon ps) :
    s.patRevert.canon ps := by
  unfold State.patRevert
  exact hs.patCmd (fun _ hs => hs.dropStart.barAutoStart.writeRoles)

theorem State.canon.patternLoadEnd (hs : s.canon ps) :
    s.patternLoadEnd.canon ps := by
  unfold State.patternLoadEnd
  refine .ite hs ?_
  split
  · next heq =>
      exact (State.canon_snd heq hs.startPattern).patEnd
  · next heq =>
      exact (State.canon_snd heq hs.startPattern).patEnd

theorem State.canon.patClear (hs : s.canon ps) :
    s.patClear.canon ps := by
  unfold State.patClear
  exact hs.patCmd (fun _ hs => hs.dropStart.writeRoles.unpattern.patEnd)

theorem execVerify_canon (hs : s.canon ps) {req : Requester} :
    (execVerify req s).canon ps := by
  unfold execVerify
  exact hs.command hs.patVerify

theorem execVerificationEnd_canon (hs : s.canon ps) :
    (execVerificationEnd s).canon ps := by
  unfold execVerificationEnd
  exact .next hs.verificationEnd

theorem execActivate_canon (hs : s.canon ps) {req : Requester} :
    (execActivate req s).canon ps := by
  unfold execActivate
  exact hs.command hs.patActivate

theorem execPatternLoadEnd_canon (hs : s.canon ps) :
    (execPatternLoadEnd s).canon ps := by
  unfold execPatternLoadEnd
  exact .next hs.patternLoadEnd

theorem execRevert_canon (hs : s.canon ps) {req : Requester} :
    (execRevert req s).canon ps := by
  unfold execRevert
  exact hs.command hs.patRevert

theorem execClear_canon (hs : s.canon ps) {req : Requester} :
    (execClear req s).canon ps := by
  unfold execClear
  exact hs.command hs.patClear

end

end Sys2Proof.Machine
end

section
/-!
PROOFS. The canonical form, operation by operation: restarts, power and WATCH, control flow of cores, on-line change, updates.
Each proof follows the definition of its operation, branch by branch.
-/

namespace Sys2Proof.Machine

-- One proof after another: a side condition by `decide` waits for every proof before it, on a thread of its own.
set_option Elab.async false

section
variable {s : State} {ps : List Instr}

/-! ### Restart -/

theorem State.canon.retainBoot (hs : s.canon ps) :
    s.retainBoot.canon ps := by
  unfold State.retainBoot
  exact .foldl (fun _ _ hs => .ite hs.raise hs) hs

theorem State.canon.retainedReads (hs : s.canon ps) {p : Pattern} :
    (s.retainedReads p).canon ps := by
  unfold State.retainedReads
  exact .foldl (fun _ _ hs => hs.eccRead) hs

theorem State.canon.retainCommit (hs : s.canon ps) {p : Pattern} :
    (s.retainCommit p).canon ps := by
  unfold State.retainCommit
  exact hs.retainedReads.wrBytes.wrBytes

theorem State.canon.writeMark (hs : s.canon ps) :
    s.writeMark.canon ps := by
  unfold State.writeMark
  split
  · exact hs
  · exact hs.writeRoles.shadowGone.mk

theorem State.canon.abandonCommit (hs : s.canon ps) {r : Running} :
    (s.abandonCommit r).canon ps := by
  unfold State.abandonCommit
  exact (State.canon.ite hs.olcDrop hs).passEntry

theorem execRetainCommit_canon (hs : s.canon ps) :
    (execRetainCommit s).canon ps := by
  unfold execRetainCommit
  refine .next ?_
  split
  · exact .ite hs.atTick.passEntry (State.canon.ite hs.atTick.retainCommit.writeMark hs.atTick.retainCommit).passEntry
  · exact hs

theorem State.canon.advanceTimers (hs : s.canon ps) {p : Pattern} {which : Nat → Bool} {ns : Nat} :
    (s.advanceTimers p which ns).canon ps := by
  unfold State.advanceTimers
  exact .foldl (fun _ _ hs => .ite hs.engRead.load hs) hs

theorem State.canon.dropBanks (hs : s.canon ps) :
    s.dropBanks.canon ps := by
  unfold State.dropBanks
  exact .foldl (fun _ _ hs => hs.wrLe) hs

theorem State.canon.restoreRetained (hs : s.canon ps) {p : Pattern} {b : Nat} :
    (s.restoreRetained p b).canon ps := by
  unfold State.restoreRetained
  exact State.canon_foldl_fst (fun _ _ hx => hx.load) hs

theorem State.canon.firstScan (hs : s.canon ps) {p : Pattern} :
    (s.firstScan p).canon ps := by
  unfold State.firstScan
  exact .foldl (fun _ _ hs => .ite (.foldl (fun _ _ hs => hs.engStore) hs) hs) hs

theorem State.canon.withdrawVotes (hs : s.canon ps) :
    s.withdrawVotes.canon ps := by
  unfold State.withdrawVotes
  exact .foldl (fun _ _ hs => hs.setR) hs

theorem State.canon.retainedBack (hs : s.canon ps) {p : Pattern} {b : Nat} :
    (s.retainedBack p b).canon ps := by
  unfold State.retainedBack
  exact .ite hs.restoreRetained.advanceTimers hs.restoreRetained

theorem State.canon.restartSteps (hs : s.canon ps) {p : Pattern} {warm : Option Nat} :
    (s.restartSteps p warm).canon ps := by
  unfold State.restartSteps
  dsimp only
  split
  · exact State.canon.raise (State.canon.firstScan (State.canon.setF (State.canon.withdrawVotes (State.canon.restartFns
      (State.canon.restartUnits (State.canon.clearLoops (State.canon.setF (State.canon.mk (State.canon.clearTasks
      (State.canon.qpRestart (State.canon.lpRestart (State.canon.mk (by
        split
        · exact hs.initData.dropBanks
        · exact hs.initData.retainedBack)))))))))))))
  · exact State.canon.raise (State.canon.firstScan (State.canon.setF (State.canon.withdrawVotes (State.canon.restartFns
      (State.canon.restartUnits (State.canon.clearLoops (State.canon.setF (State.canon.mk (State.canon.clearTasks
      (State.canon.qpRestart (State.canon.lpRestart (State.canon.mk (by
        split
        · exact hs.initData.dropBanks
        · exact hs.initData.retainedBack)))))))))))))

theorem State.canon.startTables (hs : s.canon ps) {op : Nat} {dst : StationState} {auto : Bool} :
    (s.startTables op dst auto).canon ps := by
  unfold State.startTables
  exact hs.setF.setF.setF.setF.setB.setF.mk

theorem State.canon.startRefuse (hs : s.canon ps) {op code : Nat} :
    (s.startRefuse op code).canon ps := by
  unfold State.startRefuse
  exact hs.setF.setF.setF

theorem State.canon.wakeTimers (hs : s.canon ps) :
    s.wakeTimers.canon ps := by
  unfold State.wakeTimers
  split
  · exact .ite hs.advanceTimers.raise.mk hs
  · exact hs

theorem State.canon.restart (hs : s.canon ps) {op : Nat} {warm : Bool} {dst : StationState} {auto : Bool} :
    (s.restart op warm dst auto).canon ps := by
  unfold State.restart
  refine .ite hs.startRefuse ?_
  refine .ite hs.startRefuse ?_
  split
  · refine .ite ?_ hs.wakeTimers.restartSteps.startTables
    split
    · exact hs.startRefuse
    · exact hs.wakeTimers.restartSteps.startTables
  · exact hs.startRefuse

theorem State.canon.atBoundary (hs : s.canon ps) {op : Nat} {dst : StationState} :
    (s.atBoundary op dst).canon ps := by
  unfold State.atBoundary
  exact hs.setF.setF.setF.setF.mk

theorem State.canon.startCmd (hs : s.canon ps) {op : Nat} :
    (s.startCmd op).canon ps := by
  unfold State.startCmd
  split
  · exact hs.restart
  · exact hs.restart
  · exact hs.restart
  · exact hs.restart
  · exact .ite hs.startRefuse (.ite hs.atBoundary hs.startRefuse)
  · exact .ite hs.startRefuse (.ite hs.startRefuse (.ite hs.startRefuse hs.atBoundary))
  · exact .ite hs.startRefuse (.ite hs.atBoundary hs.startRefuse)
  · exact hs

theorem execColdRestartToRun_canon (hs : s.canon ps) {req : Requester} :
    (execColdRestartToRun req s).canon ps := by
  unfold execColdRestartToRun
  exact hs.command hs.startCmd

theorem execWarmRestartToRun_canon (hs : s.canon ps) {req : Requester} :
    (execWarmRestartToRun req s).canon ps := by
  unfold execWarmRestartToRun
  exact hs.command hs.startCmd

theorem execColdRestartToTacking_canon (hs : s.canon ps) {req : Requester} :
    (execColdRestartToTacking req s).canon ps := by
  unfold execColdRestartToTacking
  exact hs.command hs.startCmd

theorem execWarmRestartToTacking_canon (hs : s.canon ps) {req : Requester} :
    (execWarmRestartToTacking req s).canon ps := by
  unfold execWarmRestartToTacking
  exact hs.command hs.startCmd

theorem execStop_canon (hs : s.canon ps) {req : Requester} :
    (execStop req s).canon ps := by
  unfold execStop
  exact hs.command hs.startCmd

theorem execLeaveTackingForRun_canon (hs : s.canon ps) {req : Requester} :
    (execLeaveTackingForRun req s).canon ps := by
  unfold execLeaveTackingForRun
  exact hs.command hs.startCmd

theorem execEnterTackingFromRun_canon (hs : s.canon ps) {req : Requester} :
    (execEnterTackingFromRun req s).canon ps := by
  unfold execEnterTackingFromRun
  exact hs.command hs.startCmd

theorem State.canon.autoRestart (hs : s.canon ps) {mode : Nat} {auto : Bool} :
    (s.autoRestart mode auto).canon ps := by
  unfold State.autoRestart
  refine .ite hs ?_
  split
  · exact hs.restart
  · exact .ite hs.restart hs.restart
  · exact hs

theorem execAutoStart_canon (hs : s.canon ps) :
    (execAutoStart s).canon ps := by
  unfold execAutoStart
  refine .next ?_
  refine .ite ?_ hs
  dsimp only
  split
  · exact .ite hs.mk hs.mk.autoRestart
  · exact hs.mk

theorem State.canon.forceEnd (hs : s.canon ps) {code : Nat} :
    (s.forceEnd code).canon ps := by
  unfold State.forceEnd
  exact hs.setF.setF.setF

theorem State.canon.forceCmd (hs : s.canon ps) {f : Pattern → State} (hf : ∀ u0, (f u0).canon ps) :
    (s.forceCmd f).canon ps := by
  unfold State.forceCmd
  refine .ite hs.forceEnd ?_
  refine .ite hs.forceEnd ?_
  split
  · exact hf _
  · exact hs.forceEnd

theorem State.canon.setForces (hs : s.canon ps) {l : List (BitVec 32 × BitVec 64)} :
    (s.setForces l).canon ps := by
  unfold State.setForces
  exact hs.mk

theorem State.canon.forceSet (hs : s.canon ps) :
    s.forceSet.canon ps := by
  unfold State.forceSet
  exact hs.forceCmd (fun _ => .ite hs.forceEnd (by
      dsimp only
      split
      · exact hs.forceEnd
      · exact .ite hs.forceEnd (.ite hs.forceEnd (.ite hs.forceEnd hs.setForces.raise.forceEnd))))

theorem State.canon.forceRelease (hs : s.canon ps) :
    s.forceRelease.canon ps := by
  unfold State.forceRelease
  exact hs.forceCmd (fun _ => .ite hs.setForces.raise.forceEnd hs.forceEnd)

theorem State.canon.forceReleaseAll (hs : s.canon ps) :
    s.forceReleaseAll.canon ps := by
  unfold State.forceReleaseAll
  exact hs.forceCmd (fun _ => hs.releaseForces.forceEnd)

theorem execForceSet_canon (hs : s.canon ps) {req : Requester} :
    (execForceSet req s).canon ps := by
  unfold execForceSet
  exact hs.command hs.forceSet

theorem execForceRelease_canon (hs : s.canon ps) {req : Requester} :
    (execForceRelease req s).canon ps := by
  unfold execForceRelease
  exact hs.command hs.forceRelease

theorem execReleaseAll_canon (hs : s.canon ps) {req : Requester} :
    (execReleaseAll req s).canon ps := by
  unfold execReleaseAll
  exact hs.command hs.forceReleaseAll


/-! ### Power -/

theorem State.canon.setDomain (hs : s.canon ps) {d : Nat} {on : Bool} :
    (s.setDomain d on).canon ps := by
  unfold State.setDomain
  exact hs.setF

theorem State.canon.setHeld (hs : s.canon ps) {d : Nat} {on : Bool} :
    (s.setHeld d on).canon ps := by
  unfold State.setHeld
  exact hs.setF

theorem State.canon.setPwr (hs : s.canon ps) {x : Power} :
    (s.setPwr x).canon ps := by
  unfold State.setPwr
  exact hs.mk

theorem State.canon.resetRegs (hs : s.canon ps) {lo n : Nat} :
    (s.resetRegs lo n).canon ps := by
  obtain ⟨hp, hm, hr⟩ := State.canon_iff.1 hs
  exact State.canon_iff.2 ⟨hp, hm, Store.wf_filter _ hr⟩

theorem State.canon.portOff (hs : s.canon ps) {port : Nat} :
    (s.portOff port).canon ps := by
  unfold State.portOff
  exact .ite (State.canon.ite hs.incSat.raise hs).resetRegs.mk.ptpBegin.setF.setF (State.canon.ite hs.incSat.raise
    hs).resetRegs.mk.mk

theorem State.canon.panelPowerOff (hs : s.canon ps) :
    s.panelPowerOff.canon ps := by
  unfold State.panelPowerOff
  dsimp only
  split
  · exact hs.clearRange.eccClearArrays.discharge.updateLost.setPnl.setPnlState.setPanelPending
  · exact hs.clearRange.eccClearArrays.discharge

theorem State.canon.canDomainOff (hs : s.canon ps) :
    s.canDomainOff.canon ps := by
  unfold State.canDomainOff
  dsimp only
  split
  · exact (State.canon.foldl (fun _ _ hs => hs.canOff) hs).resetRegs.mk.canConfigure
  · exact (State.canon.foldl (fun _ _ hs => hs.canOff) hs).resetRegs.mk

theorem State.canon.solverOff (hs : s.canon ps) :
    s.solverOff.canon ps := by
  unfold State.solverOff
  dsimp only
  split
  · exact .foldl (fun _ _ hs => .ite hs.setF.setF hs) hs.clearRange.eccClearArrays.resetRegs.mk
  · exact hs.clearRange.eccClearArrays.resetRegs.mk

theorem State.canon.dioOff (hs : s.canon ps) :
    s.dioOff.canon ps := by
  unfold State.dioOff
  exact .foldl (fun _ _ hs => hs.setF) (State.canon.foldl (fun _ _ hs => .ite hs.switch hs) hs).resetRegs.mk

theorem State.canon.domainOff (hs : s.canon ps) {d : Nat} :
    (s.domainOff d).canon ps := by
  unfold State.domainOff
  exact .ite hs.setDomain.clearRange.clearRange.eccClearArrays.eccClearArrays.setCore (.ite
    hs.setDomain.clearRange.clearRange.eccClearArrays.eccClearArrays.mk (.ite hs.setDomain.solverOff (.ite
    hs.setDomain.portOff (.ite hs.setDomain.canDomainOff (.ite hs.setDomain.dioOff (.ite (.foldl (fun _ _ hs =>
    hs.cloOff.setClo) hs.setDomain) (.ite hs.setDomain.panelPowerOff hs.setDomain.setF.setF)))))))

theorem State.canon.domainStart (hs : s.canon ps) {d : Nat} :
    (s.domainStart d).canon ps := by
  unfold State.domainStart
  refine .ite ?_ (.ite (.foldl (fun _ _ hs => hs.setClo) hs.setDomain) (.ite hs.setDomain.panelPowerUp hs.setDomain))
  split
  · exact hs.setDomain.load
  · exact hs.setDomain

theorem State.canon.domainBoundary (hs : s.canon ps) {d : Nat} :
    (s.domainBoundary d).canon ps := by
  unfold State.domainBoundary
  exact .ite (.ite hs.setHeld hs.setHeld.setPwr) (.ite hs.setHeld.setPwr.domainOff hs.setHeld.setPwr)

theorem State.canon.domainStep (hs : s.canon ps) :
    s.domainStep.canon ps := by
  unfold State.domainStep
  exact .foldl (fun _ _ hs => hs.domainBoundary) hs

theorem execDomainReportsOn_canon (hs : s.canon ps) {d : Nat} :
    (execDomainReportsOn d s).canon ps := by
  unfold execDomainReportsOn
  exact onUnit_canon (.ite (.ite hs.setPwr hs.setPwr.domainStart) hs)

theorem State.canon.domainFault (hs : s.canon ps) {d : Nat} {offFailed : Bool} :
    (s.domainFault d offFailed).canon ps := by
  unfold State.domainFault
  exact (State.canon.ite hs.domainOff hs).setPwr.raise

theorem execPwrDomainFault_canon (hs : s.canon ps) {d : Nat} {offFailed : Bool} :
    (execPwrDomainFault d offFailed s).canon ps := by
  unfold execPwrDomainFault
  exact onUnit_canon (.ite (.ite hs hs.domainFault) (.ite hs.domainFault hs))

theorem State.canon.voteWrite (hs : s.canon ps) {req : Requester} {core : Nat} {value : BitVec 32} :
    (s.voteWrite req core value).canon ps := by
  unfold State.voteWrite
  exact .ite hs.setR hs.accErr

theorem execPwrVoteWrite_canon (hs : s.canon ps) {req : Requester} {core : Nat} {value : BitVec 32} :
    (execPwrVoteWrite req core value s).canon ps := by
  unfold execPwrVoteWrite
  exact onUnit_canon (hs.writing hs.voteWrite)

theorem State.canon.pwrResult (hs : s.canon ps) {op code abort : Nat} :
    (s.pwrResult op code abort).canon ps := by
  unfold State.pwrResult
  exact hs.setF.setF.setF.setF

theorem State.canon.addWake (hs : s.canon ps) {bits : Nat} :
    (s.addWake bits).canon ps := by
  unfold State.addWake
  exact hs.setPwr.setF

theorem State.canon.watchCmd (hs : s.canon ps) {req : Requester} :
    (s.watchCmd req).canon ps := by
  unfold State.watchCmd
  exact .ite hs.pwrResult (.ite hs.pwrResult (.ite hs.pwrResult (.ite hs.pwrResult
    hs.pwrResult.setF.setPwr.setPnl.withdrawVotes.setF.raise)))

theorem State.canon.watchCancel (hs : s.canon ps) :
    s.watchCancel.canon ps := by
  unfold State.watchCancel
  exact .ite hs.addWake.pwrResult hs.pwrResult

theorem execWatch_canon (hs : s.canon ps) {req : Requester} :
    (execWatch req s).canon ps := by
  unfold execWatch
  exact hs.command hs.watchCmd

theorem execWatchCancel_canon (hs : s.canon ps) {req : Requester} :
    (execWatchCancel req s).canon ps := by
  unfold execWatchCancel
  exact hs.command hs.watchCancel

theorem State.canon.watchStopStep (hs : s.canon ps) :
    s.watchStopStep.canon ps := by
  unfold State.watchStopStep
  exact .ite hs.leaveOperation hs

theorem State.canon.prepareFirst (hs : s.canon ps) :
    s.prepareFirst.canon ps := by
  unfold State.prepareFirst
  exact hs.postponeTriggers.setPnl.panelRender

theorem State.canon.prepareLast (hs : s.canon ps) :
    s.prepareLast.canon ps := by
  unfold State.prepareLast
  exact hs.commitAll.withdrawVotes.setF.setF

theorem State.canon.watchOff (hs : s.canon ps) :
    s.watchOff.canon ps := by
  unfold State.watchOff
  exact hs.setPnl.setF.pwrResult

theorem execWatchPreparation_canon (hs : s.canon ps) {wakeBits : BitVec 6} :
    (execWatchPreparation wakeBits s).canon ps := by
  unfold execWatchPreparation
  refine .next ?_
  refine .ite hs ?_
  refine .ite hs.watchOff ?_
  dsimp only
  split
  · exact .ite (State.canon.ite hs.addWake.prepareFirst hs.addWake).prepareLast (.ite hs.addWake.prepareFirst
      hs.addWake)
  · exact .ite hs.addWake.prepareFirst hs.addWake

theorem State.canon.allOff (hs : s.canon ps) :
    s.allOff.canon ps := by
  unfold State.allOff
  exact .foldl (fun _ _ hs => .ite hs.domainOff hs) hs.setPwr

theorem State.canon.enterWatch (hs : s.canon ps) :
    s.enterWatch.canon ps := by
  unfold State.enterWatch
  exact (State.canon.foldl (fun _ _ hs => hs.openGroupDark) hs).commitAll.setStation.setF.setF.setF.setF.updateModOk.mk

theorem State.canon.wakeStartNow (hs : s.canon ps) :
    s.wakeStartNow.canon ps := by
  unfold State.wakeStartNow
  split
  · exact hs
  · exact .ite hs hs.autoRestart

theorem State.canon.abandonWatch (hs : s.canon ps) {k : Nat} :
    (s.abandonWatch k).canon ps := by
  unfold State.abandonWatch
  exact (State.canon.ite (.foldl (fun _ _ hs => hs.openGroupDark) (.ite hs.mk hs)) (.ite hs.mk
    hs)).setPnl.setF.pwrResult.raise.setPwr.wakeStartNow

theorem State.canon.abortPoints (hs : s.canon ps) {n : Nat} {flags : List (BitVec 6)} :
    (State.abortPoints n flags s).2.canon ps := by
  induction n generalizing s flags with
  | zero => exact hs
  | succ n ih =>
    unfold State.abortPoints
    dsimp only
    split
    · exact hs.addWake
    · exact ih hs.addWake

theorem execWatchEntry_canon (hs : s.canon ps) {wakeAt : List (BitVec 6)} {offFailed : Option Nat} :
    (execWatchEntry wakeAt offFailed s).canon ps := by
  unfold execWatchEntry
  refine .next (.ite hs ?_)
  dsimp only
  split
  · exact hs.allOff.domainFault.addWake.abandonWatch
  · split
    · next heq => exact (State.canon_snd heq hs.allOff.abortPoints).abandonWatch
    · next heq => exact (State.canon_snd heq hs.allOff.abortPoints).enterWatch

theorem State.canon.compareWindow (hs : s.canon ps) {p : Pattern} {v : Nat} :
    (s.compareWindow p v).canon ps := by
  unfold State.compareWindow
  exact .ite hs.setF.setF (.ite hs.setF.setF.addWake hs.setF.setF)

theorem execWatchSample_canon (hs : s.canon ps) {inputMv : List Nat} {fsaMv : Nat} :
    (execWatchSample inputMv fsaMv s).canon ps := by
  unfold execWatchSample
  refine .next ?_
  split
  · exact .ite hs (.ite (.ite hs.setPwr.incSat.addWake hs.setPwr.incSat) hs.setPwr.fresh.compareWindow)
  · exact hs

theorem execWakePin_canon (hs : s.canon ps) :
    (execWakePin s).canon ps := by
  unfold execWakePin
  exact .next (.ite hs.addWake hs)

theorem execWakeAlarm_canon (hs : s.canon ps) :
    (execWakeAlarm s).canon ps := by
  unfold execWakeAlarm
  refine .next ?_
  split
  · exact .ite hs hs.setPwr.addWake
  · exact hs

theorem execWakeFeed_canon (hs : s.canon ps) :
    (execWakeFeed s).canon ps := by
  unfold execWakeFeed
  refine .next ?_
  split
  · exact .ite hs.addWake hs
  · exact hs

theorem execRtcCrystalStopped_canon (hs : s.canon ps) :
    (execRtcCrystalStopped s).canon ps := by
  unfold execRtcCrystalStopped
  exact .next (.ite hs.setPwr hs)

theorem execWakeRegRetry_canon (hs : s.canon ps) :
    (execWakeRegRetry s).canon ps := by
  unfold execWakeRegRetry
  exact .next (.ite hs.setPwr.setF hs)

theorem execWakeRegReset_canon (hs : s.canon ps) :
    (execWakeRegReset s).canon ps := by
  unfold execWakeRegReset
  exact .next (.ite hs.fullReset hs)

theorem execRefclkLost_canon (hs : s.canon ps) :
    (execRefclkLost s).canon ps := by
  unfold execRefclkLost
  exact .next (.ite hs.setPwr.setF.referenceLost hs)

theorem execWatchBrownout_canon (hs : s.canon ps) :
    (execWatchBrownout s).canon ps := by
  unfold execWatchBrownout
  exact .next (.ite hs.fullReset hs)

theorem State.canon.wakeUp (hs : s.canon ps) {extraTicks : Nat} :
    (s.wakeUp extraTicks).canon ps := by
  unfold State.wakeUp
  exact (State.canon.ite hs.setPwr.setF.setF.setF.setB.setB.setF.setF.setF.raise
    hs.setPwr.setF.setF.setF.setB.setB.setF.setF).mk.setPnl.setStation.pwrResult.updateModOk.timeMark.raise.setPwr

theorem execWake_canon (hs : s.canon ps) {extraTicks : Nat} :
    (execWake extraTicks s).canon ps := by
  unfold execWake
  exact .next (.ite hs.wakeUp hs)

theorem execWakeTimeSet_canon (hs : s.canon ps) {master : Option (BitVec 64)} :
    (execWakeTimeSet master s).canon ps := by
  unfold execWakeTimeSet
  refine .next ?_
  refine .ite ?_ hs
  refine .ite ?_ (State.canon.wakeStartNow (State.canon.wakeTimers (by
      split
      · exact hs.setPwr.rebaseCmd
      · exact hs.setPwr.rebaseCmd)))
  split
  · exact hs.setPwr.rebaseCmd
  · exact hs.setPwr.rebaseCmd


/-! ### CoreFlow -/

theorem State.canon.branch (hs : s.canon ps) {c : Nat} {cond : BitVec 64 → BitVec 64 → Bool} {a b : GReg} {off : BitVec
    14} :
    (s.branch c cond a b off).canon ps := by
  unfold State.branch
  exact hs.coreRun (fun _ _ hs => hs)

theorem execBcEq_canon (hs : s.canon ps) {c : Nat} {a b : GReg} {off : BitVec 14} :
    (execBcEq c a b off s).canon ps := by
  unfold execBcEq
  exact onCore_canon hs.branch

theorem execBcNe_canon (hs : s.canon ps) {c : Nat} {a b : GReg} {off : BitVec 14} :
    (execBcNe c a b off s).canon ps := by
  unfold execBcNe
  exact onCore_canon hs.branch

theorem execBcLts_canon (hs : s.canon ps) {c : Nat} {a b : GReg} {off : BitVec 14} :
    (execBcLts c a b off s).canon ps := by
  unfold execBcLts
  exact onCore_canon hs.branch

theorem execBcGes_canon (hs : s.canon ps) {c : Nat} {a b : GReg} {off : BitVec 14} :
    (execBcGes c a b off s).canon ps := by
  unfold execBcGes
  exact onCore_canon hs.branch

theorem execBcLtu_canon (hs : s.canon ps) {c : Nat} {a b : GReg} {off : BitVec 14} :
    (execBcLtu c a b off s).canon ps := by
  unfold execBcLtu
  exact onCore_canon hs.branch

theorem execBcGeu_canon (hs : s.canon ps) {c : Nat} {a b : GReg} {off : BitVec 14} :
    (execBcGeu c a b off s).canon ps := by
  unfold execBcGeu
  exact onCore_canon hs.branch

theorem execGo_canon (hs : s.canon ps) {c : Nat} {off : BitVec 24} :
    (execGo c off s).canon ps := by
  unfold execGo
  exact onCore_canon (hs.coreRun (fun _ _ hs => hs))

theorem execCall_canon (hs : s.canon ps) {c : Nat} {off : BitVec 24} :
    (execCall c off s).canon ps := by
  unfold execCall
  exact onCore_canon (hs.coreRun (fun _ _ hs => hs.setCore))

theorem execGor_canon (hs : s.canon ps) {c : Nat} {a : GReg} {k : BitVec 14} :
    (execGor c a k s).canon ps := by
  unfold execGor
  exact onCore_canon (hs.coreRun (fun _ _ hs => by split; exacts [hs, hs]))

theorem execCallr_canon (hs : s.canon ps) {c : Nat} {a : GReg} {k : BitVec 14} :
    (execCallr c a k s).canon ps := by
  unfold execCallr
  exact onCore_canon (hs.coreRun (fun _ _ hs => by split; exacts [hs, hs.setCore]))

theorem execRet_canon (hs : s.canon ps) {c : Nat} :
    (execRet c s).canon ps := by
  unfold execRet
  exact onCore_canon (hs.coreRun (fun _ _ hs => hs))

theorem execCallb_canon (hs : s.canon ps) {c : Nat} {a : GReg} {off : BitVec 19} :
    (execCallb c a off s).canon ps := by
  unfold execCallb
  exact onCore_canon (hs.coreRun (fun _ _ hs => by
      dsimp only
      split
      · exact hs
      · split
        · exact hs
        · split
          · exact hs
          · exact hs.wrLe.wrLe.eccClearWords.setCore))

theorem execRetb_canon (hs : s.canon ps) {c : Nat} :
    (execRetb c s).canon ps := by
  obtain ⟨m, hm⟩ := dram_opaque c
  obtain ⟨b, hb⟩ := localBase_opaque
  unfold execRetb
  rw [hm, hb]
  refine onCore_canon (hs.coreRun fun x u hu => ?_)
  refine CoreStep.canon_ite hu ?_
  dsimp only
  split
  · next heq => exact State.canon_snd heq hu.eccRead
  · next heq => exact (State.canon_snd heq hu.eccRead).setCore

theorem State.canon.publish (hs : s.canon ps) {k : Nat} :
    (s.publish k).canon ps := by
  unfold State.publish
  exact hs.setF.setF

theorem State.canon.publishAfter (hs : s.canon ps) {k : Nat} :
    (s.publishAfter k).canon ps := by
  unfold State.publishAfter
  exact hs.mk.publish

theorem State.canon.publishAt (hs : s.canon ps) {k at_ : Nat} :
    (s.publishAt k at_).canon ps := by
  unfold State.publishAt
  exact .ite hs.publishAfter hs.publish

theorem State.canon.selvAt (hs : s.canon ps) {seg at_ : Nat} :
    (s.selvAt seg at_).canon ps := by
  unfold State.selvAt
  exact .ite hs.setSelvValid.mk hs

theorem State.canon.endOf (hs : s.canon ps) {r : Running} {at_ : Nat} :
    (s.endOf r at_).canon ps := by
  unfold State.endOf
  dsimp only
  split
  · exact .ite hs.publishAt hs
  · exact hs.publishAt
  · exact hs.finishRun.selvAt
  · exact hs

theorem execEndEntry_canon (hs : s.canon ps) {c : Nat} :
    (execEndEntry c s).canon ps := by
  unfold execEndEntry
  exact onCore_canon (by
      split
      · exact hs
      · refine .ite hs ?_
        split
        · next heq =>
            exact (State.canon_snd heq hs.fetch).takeCoreException
        · next heq =>
            exact .ite (State.canon_snd heq hs.fetch).spend (State.canon_snd heq hs.fetch).spend.endOf.coreIdle)

theorem execIllegalEncoding_canon (hs : s.canon ps) {c : Nat} {word : BitVec 32} :
    (execIllegalEncoding c word s).canon ps := by
  unfold execIllegalEncoding
  exact onCore_canon (.ite hs (hs.coreRun (fun _ _ hs => hs)))

theorem execSysBad_canon (hs : s.canon ps) {c : Nat} {service : BitVec 9} {_arg : BitVec 15} :
    (execSysBad c service _arg s).canon ps := by
  unfold execSysBad
  exact onCore_canon (.ite hs (hs.coreRun (fun _ _ hs => hs)))


/-! ### OnlineChange -/

theorem State.canon.patPrepare (hs : s.canon ps) :
    s.patPrepare.canon ps := by
  unfold State.patPrepare
  exact hs.patCmd (fun _ hs => by split; exacts [hs.patEnd, by dsimp only; split; exacts [hs.patEnd, hs.setF.mk]])

theorem State.canon.prepareLoad (hs : s.canon ps) {a b : Pattern} :
    (s.prepareLoad a b).canon ps := by
  unfold State.prepareLoad
  exact .foldl (fun _ _ hs => .ite hs.qpLoadStore hs) (.foldl (fun _ _ hs => .ite hs.lpLoadStore hs) (.foldl (fun _ _
    hs => hs.initRun) (.foldl (fun _ _ hs => hs.load) hs)))

theorem State.canon.finishPrepare (hs : s.canon ps) :
    s.finishPrepare.canon ps := by
  unfold State.finishPrepare
  refine .ite hs ?_
  split
  · exact hs.mk.prepareLoad.setF.patEnd
  · exact hs

theorem State.canon.prepareLoadEnd (hs : s.canon ps) {loaded : Bool} :
    (s.prepareLoadEnd loaded).canon ps := by
  unfold State.prepareLoadEnd
  refine .ite hs ?_
  split
  · exact .ite hs.mk.finishPrepare hs.olcDrop.patEnd
  · exact hs

theorem State.canon.prepareTimeout (hs : s.canon ps) :
    s.prepareTimeout.canon ps := by
  unfold State.prepareTimeout
  exact .ite hs.olcDrop.patEnd hs

theorem State.canon.patCommit (hs : s.canon ps) :
    s.patCommit.canon ps := by
  unfold State.patCommit
  exact hs.patCmd (fun _ hs => by dsimp only; split; exacts [.ite hs.setF.patEnd.mk hs.patEnd, hs.patEnd])

theorem State.canon.patAbort (hs : s.canon ps) :
    s.patAbort.canon ps := by
  unfold State.patAbort
  exact .ite hs.olcDrop.patEnd (.ite hs.patRefuse hs.patRefuse)

theorem execPrepare_canon (hs : s.canon ps) {req : Requester} :
    (execPrepare req s).canon ps := by
  unfold execPrepare
  exact hs.command hs.patPrepare

theorem execPrepareLoadEnd_canon (hs : s.canon ps) {loaded : Bool} :
    (execPrepareLoadEnd loaded s).canon ps := by
  unfold execPrepareLoadEnd
  exact .next hs.prepareLoadEnd

theorem execPrepareTimeout_canon (hs : s.canon ps) :
    (execPrepareTimeout s).canon ps := by
  unfold execPrepareTimeout
  exact .next hs.prepareTimeout

theorem execCommit_canon (hs : s.canon ps) {req : Requester} :
    (execCommit req s).canon ps := by
  unfold execCommit
  exact hs.command hs.patCommit

theorem execAbort_canon (hs : s.canon ps) {req : Requester} :
    (execAbort req s).canon ps := by
  unfold execAbort
  exact hs.command hs.patAbort

theorem State.canon.dropForces (hs : s.canon ps) {b : Pattern} :
    (s.dropForces b).canon ps := by
  unfold State.dropForces
  exact (State.canon.foldl (fun _ _ hs => hs.raise) hs.setForces).setF

theorem State.canon.switchUnits (hs : s.canon ps) {a b : Pattern} :
    (s.switchUnits a b).canon ps := by
  unfold State.switchUnits
  exact (State.canon.foldl (fun _ _ hs => .ite hs (.ite hs.qpEnter hs)) (.foldl (fun _ _ hs => .ite hs (.ite hs.lpEnter
    hs)) hs)).setF

theorem State.canon.switchOutputs (hs : s.canon ps) {b : Pattern} :
    (s.switchOutputs b).canon ps := by
  unfold State.switchOutputs
  exact .foldl (fun _ _ hs => hs.cloOff.setClo) (.foldl (fun _ _ hs => hs.switch) hs)

theorem State.canon.switchTasks (hs : s.canon ps) {a b : Pattern} :
    (s.switchTasks a b).canon ps := by
  unfold State.switchTasks
  exact .foldl (fun _ _ hs => .ite hs hs.setR.setTriggers) hs

theorem State.canon.switchSets (hs : s.canon ps) {a b : Pattern} :
    (s.switchSets a b).canon ps := by
  unfold State.switchSets
  exact .foldl (fun _ _ ht => ht.setR) hs.mk

theorem State.canon.olcSwitch (hs : s.canon ps) :
    s.olcSwitch.canon ps := by
  unfold State.olcSwitch
  split
  · exact .ite (State.canon.foldl (fun _ _ hs => hs.setF)
      hs.mk.mk.switchSets.headerFields.unitFields.switchUnits).switchTasks.switchOutputs.dropForces.updateConfirmed.setF.checkLayout (.ite hs.olcDrop hs)
  · exact hs


/-! ### Update -/

theorem State.canon.markFwWritten (hs : s.canon ps) {k : Nat} :
    (s.markFwWritten k).canon ps := by
  unfold State.markFwWritten
  exact hs.mk

theorem State.canon.showFw (hs : s.canon ps) :
    s.showFw.canon ps := by
  unfold State.showFw
  exact hs.setF

theorem State.canon.writeFw (hs : s.canon ps) {r : FwRoles} :
    (s.writeFw r).canon ps := by
  unfold State.writeFw
  exact hs.wrLe.showFw

theorem State.canon.showBlocks (hs : s.canon ps) {r : Nat} :
    (s.showBlocks r).canon ps := by
  unfold State.showBlocks
  exact hs.setF.setF

theorem State.canon.clearBitmap (hs : s.canon ps) {r : Nat} :
    (s.clearBitmap r).canon ps := by
  unfold State.clearBitmap
  exact hs.mk

theorem State.canon.updResult (hs : s.canon ps) {op r : Nat} {c : UpdCode} :
    (s.updResult op r c).canon ps := by
  unfold State.updResult
  exact hs.setF.setF.setF.setF.setF

theorem State.canon.updOpen (hs : s.canon ps) {r len : Nat} :
    (s.updOpen r len).canon ps := by
  unfold State.updOpen
  exact (State.canon.ite (State.canon.ite hs.writeFw hs).setF.mk (.ite hs.writeFw
    hs)).clearBitmap.mk.setRegion.setF.showBlocks.raise

theorem State.canon.updBegin (hs : s.canon ps) {r : Nat} :
    (s.updBegin r).canon ps := by
  unfold State.updBegin
  exact .ite hs.updResult (.ite hs.updResult (.ite hs.updResult hs.updOpen.updResult))

theorem State.canon.updResume (hs : s.canon ps) {r : Nat} :
    (s.updResume r).canon ps := by
  unfold State.updResume
  exact .ite hs.updResult.setF hs.updResult

theorem State.canon.regionDisarm (hs : s.canon ps) {r : Nat} :
    (s.regionDisarm r).canon ps := by
  unfold State.regionDisarm
  exact .ite hs.setF hs

theorem State.canon.updFinish (hs : s.canon ps) {r : Nat} :
    (s.updFinish r).canon ps := by
  unfold State.updFinish
  exact .ite hs.updResult (.ite hs.updResult (.ite hs.regionDisarm.setShadow.updResult
    hs.regionDisarm.setRegion.updResult.setF))

theorem State.canon.updVerifyEnd (hs : s.canon ps) {r : Nat} :
    (s.updVerifyEnd r).canon ps := by
  unfold State.updVerifyEnd
  refine .ite hs ?_
  dsimp only
  split
  · exact (State.canon.ite (State.canon.ite hs.ownerUse hs).writeFw (.ite hs.ownerUse hs)).setRegion.raise.updResult
  · exact (State.canon.ite hs.ownerUse hs).setRegion.setF.raise.updResult

theorem State.canon.updCancel (hs : s.canon ps) {r : Nat} :
    (s.updCancel r).canon ps := by
  unfold State.updCancel
  exact .ite hs.updResult (.ite hs.updResult (State.canon.ite (State.canon.ite hs.regionDisarm.clearBitmap.writeFw
    hs.regionDisarm.clearBitmap).mk.shadowGone (State.canon.ite hs.regionDisarm.clearBitmap.writeFw
    hs.regionDisarm.clearBitmap).mk.setRegion).showBlocks.raise.updResult)

theorem State.canon.answer (hs : s.canon ps) {c : UpdCode} :
    (s.answer c).canon ps := by
  unfold State.answer
  exact hs.mk

theorem State.canon.programBlock (hs : s.canon ps) {r k : Nat} {bytes : Bytes} :
    (s.programBlock r k bytes).canon ps := by
  unfold State.programBlock
  exact (State.canon.ite hs.markFwWritten hs).wrBytes

theorem State.canon.updBlock (hs : s.canon ps) {m readBack : Bytes} :
    (s.updBlock m readBack).canon ps := by
  unfold State.updBlock
  exact .ite hs.answer (.ite hs.answer (.ite hs.answer (.ite hs.programBlock.mk.showBlocks.answer
    hs.programBlock.incSat.setF.raise.answer)))

theorem execUpdBlock_canon (hs : s.canon ps) {message readBack : Bytes} :
    (execUpdBlock message readBack s).canon ps := by
  unfold execUpdBlock
  exact .next (.ite hs.updBlock hs)

theorem State.canon.updArm (hs : s.canon ps) {r : Nat} :
    (s.updArm r).canon ps := by
  unfold State.updArm
  exact .ite hs.updResult (.ite hs.updResult hs.setF.setF.setF.setF.setRegion.raise.updResult)

theorem State.canon.updDisarm (hs : s.canon ps) {r : Nat} :
    (s.updDisarm r).canon ps := by
  unfold State.updDisarm
  exact .ite hs.updResult hs.regionDisarm.setRegion.updResult

theorem State.canon.activateRegion (hs : s.canon ps) {r : Nat} :
    (s.activateRegion r).canon ps := by
  unfold State.activateRegion
  exact .ite hs.raise.commitAll.writeFw.setRegion.fullReset (.ite hs.patActivate hs.activateAssets.setRegion)

theorem State.canon.updActivateNow (hs : s.canon ps) {r : Nat} :
    (s.updActivateNow r).canon ps := by
  unfold State.updActivateNow
  exact .ite hs.updResult hs.updResult.activateRegion

theorem State.canon.trigger (hs : s.canon ps) {k : Nat} :
    (s.trigger k).canon ps := by
  unfold State.trigger
  split
  · next heq =>
      exact .ite (.ite (State.canon_snd heq hs.trigFire).postponeRegion (.ite (State.canon_snd heq
        hs.trigFire).setRegion.activateRegion (State.canon_snd heq hs.trigFire).postponeRegion)) (State.canon_snd heq
        hs.trigFire)

theorem execPtpTrigger_canon (hs : s.canon ps) {k : Nat} :
    (execPtpTrigger k s).canon ps := by
  unfold execPtpTrigger
  exact onUnit_canon (.ite hs.trigger hs)

theorem State.canon.updOn (hs : s.canon ps) {r : BitVec 2} {f : State → Nat → State} (hf : ∀ s0 u1, s0.canon ps → (f s0
    u1).canon ps) :
    (s.updOn r f).canon ps := by
  unfold State.updOn
  exact .ite hs (hf _ _ hs)

theorem execUpdBegin_canon (hs : s.canon ps) {req : Requester} {r : BitVec 2} :
    (execUpdBegin req r s).canon ps := by
  unfold execUpdBegin
  exact hs.command (hs.updOn (fun _ _ h => h.updBegin))

theorem execUpdResume_canon (hs : s.canon ps) {req : Requester} {r : BitVec 2} :
    (execUpdResume req r s).canon ps := by
  unfold execUpdResume
  exact hs.command (hs.updOn (fun _ _ h => h.updResume))

theorem execUpdFinish_canon (hs : s.canon ps) {req : Requester} {r : BitVec 2} :
    (execUpdFinish req r s).canon ps := by
  unfold execUpdFinish
  exact hs.command (hs.updOn (fun _ _ h => h.updFinish))

theorem execUpdArm_canon (hs : s.canon ps) {req : Requester} {r : BitVec 2} :
    (execUpdArm req r s).canon ps := by
  unfold execUpdArm
  exact hs.command (hs.updOn (fun _ _ h => h.updArm))

theorem execUpdDisarm_canon (hs : s.canon ps) {req : Requester} {r : BitVec 2} :
    (execUpdDisarm req r s).canon ps := by
  unfold execUpdDisarm
  exact hs.command (hs.updOn (fun _ _ h => h.updDisarm))

theorem execUpdActivateNow_canon (hs : s.canon ps) {req : Requester} {r : BitVec 2} :
    (execUpdActivateNow req r s).canon ps := by
  unfold execUpdActivateNow
  exact hs.command (hs.updOn (fun _ _ h => h.updActivateNow))

theorem execUpdCancel_canon (hs : s.canon ps) {req : Requester} {r : BitVec 2} :
    (execUpdCancel req r s).canon ps := by
  unfold execUpdCancel
  exact hs.command (hs.updOn (fun _ _ h => h.updCancel))

theorem execUpdVerifyEnd_canon (hs : s.canon ps) {region : Nat} :
    (execUpdVerifyEnd region s).canon ps := by
  unfold execUpdVerifyEnd
  exact onUnit_canon hs.updVerifyEnd

end

end Sys2Proof.Machine
end

section
/-!
PROOFS. The canonical form, operation by operation: security, the boot, field channels, diagnosis, apply points, boundaries.
Each proof follows the definition of its operation, branch by branch.
-/

namespace Sys2Proof.Machine

-- One proof after another: a side condition by `decide` waits for every proof before it, on a thread of its own.
set_option Elab.async false

section
variable {s : State} {ps : List Instr}

/-! ### Security -/

theorem State.canon.setSec (hs : s.canon ps) {x : Security} :
    (s.setSec x).canon ps := by
  unfold State.setSec
  exact hs.mk

theorem State.canon.secResult (hs : s.canon ps) {op : Nat} {c : SecCode} :
    (s.secResult op c).canon ps := by
  unfold State.secResult
  exact .foldl (fun _ _ hs => hs.setF) hs.setF.setF.setF

theorem State.canon.showKeys (hs : s.canon ps) :
    s.showKeys.canon ps := by
  unfold State.showKeys
  exact hs.setB.setF.setF.setF.setB.setB

theorem State.canon.enrol (hs : s.canon ps) {wakeMs : Nat} :
    (s.enrol wakeMs).canon ps := by
  unfold State.enrol
  exact .ite hs.secResult (.ite hs.secResult (.ite hs.secResult (.ite hs.secResult
    hs.setSec.showKeys.setF.raise.secResult)))

theorem State.canon.rotateOwner (hs : s.canon ps) :
    s.rotateOwner.canon ps := by
  unfold State.rotateOwner
  exact .ite hs.ownerUse.secResult (.ite hs.ownerUse.secResult hs.ownerUse.setSec.showKeys.raise.secResult)

theorem State.canon.setNonce (hs : s.canon ps) {n : Option (Bytes × Nat)} :
    (s.setNonce n).canon ps := by
  unfold State.setNonce
  exact .foldl (fun _ _ hs => hs.setF) hs.setSec

theorem State.canon.random (hs : s.canon ps) {n : Nat} : (s.random n).2.canon ps := by
  induction n with
  | zero => exact hs
  | succ n ih => exact State.canon.fresh ih

theorem State.canon.dbgChallenge (hs : s.canon ps) :
    s.dbgChallenge.canon ps := by
  unfold State.dbgChallenge
  refine .ite hs.secResult (.ite hs.secResult ?_)
  split
  next heq => exact (State.canon_snd heq hs.random).setNonce.secResult

theorem State.canon.dbgUnlock (hs : s.canon ps) :
    s.dbgUnlock.canon ps := by
  unfold State.dbgUnlock
  dsimp only
  split
  · exact hs.ownerUse.secResult
  · exact .ite hs.ownerUse.setNonce.setF.raise.secResult hs.ownerUse.secResult

theorem State.canon.dbgLock (hs : s.canon ps) :
    s.dbgLock.canon ps := by
  unfold State.dbgLock
  exact .ite hs.setF.raise.secResult hs.secResult

theorem execNonceExpiry_canon (hs : s.canon ps) :
    (execNonceExpiry s).canon ps := by
  unfold execNonceExpiry
  exact .next (.ite hs.setNonce hs)

theorem State.canon.restartMka (hs : s.canon ps) {port : Nat} :
    (s.restartMka port).canon ps := by
  unfold State.restartMka
  exact .ite hs.setMacsec.setF.raise hs

theorem State.canon.putCak (hs : s.canon ps) {port : Nat} {k : Option Cak} :
    (s.putCak port k).canon ps := by
  unfold State.putCak
  exact hs.setSec.showKeys.restartMka.raise

theorem State.canon.cakSet (hs : s.canon ps) :
    s.cakSet.canon ps := by
  unfold State.cakSet
  exact .ite hs.secResult hs.putCak.secResult

theorem State.canon.cakClear (hs : s.canon ps) :
    s.cakClear.canon ps := by
  unfold State.cakClear
  exact .ite hs.secResult hs.putCak.secResult

theorem execEnrol_canon (hs : s.canon ps) {req : Requester} {wakeMs : Nat} :
    (execEnrol req wakeMs s).canon ps := by
  unfold execEnrol
  exact .next (hs.accessBy (.ite hs.accErr (.ite hs.enrol hs)))

theorem execRotate_canon (hs : s.canon ps) {req : Requester} :
    (execRotate req s).canon ps := by
  unfold execRotate
  exact hs.command hs.rotateOwner

theorem execDbgChallenge_canon (hs : s.canon ps) {req : Requester} :
    (execDbgChallenge req s).canon ps := by
  unfold execDbgChallenge
  exact hs.command hs.dbgChallenge

theorem execDbgUnlock_canon (hs : s.canon ps) {req : Requester} :
    (execDbgUnlock req s).canon ps := by
  unfold execDbgUnlock
  exact hs.command hs.dbgUnlock

theorem execLock_canon (hs : s.canon ps) {req : Requester} :
    (execLock req s).canon ps := by
  unfold execLock
  exact hs.command hs.dbgLock

theorem execCakSet_canon (hs : s.canon ps) {req : Requester} :
    (execCakSet req s).canon ps := by
  unfold execCakSet
  exact hs.command hs.cakSet

theorem execCakClear_canon (hs : s.canon ps) {req : Requester} :
    (execCakClear req s).canon ps := by
  unfold execCakClear
  exact hs.command hs.cakClear

theorem State.canon.sessionFailed (hs : s.canon ps) :
    s.sessionFailed.canon ps := by
  unfold State.sessionFailed
  exact hs.setSec.authFail

theorem execSessionConnect_canon (hs : s.canon ps) {signedByOwner proofOfPossession dateOk : Bool} :
    (execSessionConnect signedByOwner proofOfPossession dateOk s).canon ps := by
  unfold execSessionConnect
  exact .next (.ite hs (.ite hs.ownerUse.setSec hs.ownerUse.sessionFailed))

theorem execAuthLockoutEnd_canon (hs : s.canon ps) :
    (execAuthLockoutEnd s).canon ps := by
  unfold execAuthLockoutEnd
  exact .next hs.setSec

theorem execTrngFail_canon (hs : s.canon ps) {test : Nat} :
    (execTrngFail test s).canon ps := by
  unfold execTrngFail
  exact .next (.ite hs.setF.raise hs)


/-! ### Boot -/

theorem State.canon.setRst (hs : s.canon ps) {x : ResetState} :
    (s.setRst x).canon ps := by
  unfold State.setRst
  exact hs.mk

theorem State.canon.setFeeds (hs : s.canon ps) {a b : Nat} :
    (s.setFeeds a b).canon ps := by
  unfold State.setFeeds
  exact hs.setPwr.setF

theorem State.canon.powerOn (hs : s.canon ps) :
    s.powerOn.canon ps := by
  unfold State.powerOn
  exact hs.mk

theorem execFeedRise_canon (hs : s.canon ps) {feed mv : Nat} :
    (execFeedRise feed mv s).canon ps := by
  unfold execFeedRise
  exact onUnit_canon (.ite (State.canon.ite hs.fresh.setFeeds hs.fresh.setFeeds).powerOn (.ite hs.fresh.setFeeds
    hs.fresh.setFeeds))

theorem execFeedLoss_canon (hs : s.canon ps) {mvA mvB : Nat} :
    (execFeedLoss mvA mvB s).canon ps := by
  unfold execFeedLoss
  exact .next (.ite hs.setFeeds (.ite hs.setFeeds.powerOff (.ite hs.setFeeds (.ite hs.setFeeds.setRst
    hs.setFeeds.setRst.panelFeedLoss.commitAll.releaseNext))))

theorem execHoldUpEnd_canon (hs : s.canon ps) {storeExhausted : Bool} :
    (execHoldUpEnd storeExhausted s).canon ps := by
  unfold execHoldUpEnd
  exact .next (.ite hs (.ite hs.powerOff (.ite hs.fresh.fullReset.setRst hs)))

theorem execSupervisorWdt_canon (hs : s.canon ps) :
    (execSupervisorWdt s).canon ps := by
  unfold execSupervisorWdt
  exact .next (.ite hs.fullReset hs)

theorem execBrownout_canon (hs : s.canon ps) :
    (execBrownout s).canon ps := by
  unfold execBrownout
  exact .next (.ite hs hs.fullReset)

theorem execRstPin_canon (hs : s.canon ps) {low : Bool} :
    (execRstPin low s).canon ps := by
  unfold execRstPin
  exact .next (.ite hs.setRst.resetBy hs.setRst)

theorem execThermalShutdown_canon (hs : s.canon ps) :
    (execThermalShutdown s).canon ps := by
  unfold execThermalShutdown
  exact .next hs.setRst.resetBy

theorem execThermalRestart_canon (hs : s.canon ps) :
    (execThermalRestart s).canon ps := by
  unfold execThermalRestart
  exact .next hs.setRst

theorem execVioLost_canon (hs : s.canon ps) :
    (execVioLost s).canon ps := by
  unfold execVioLost
  exact .next (.ite hs (.ite hs.setRst (State.canon.foldl (fun _ _ hs => hs.canOff) hs.setRst).raise))

theorem execVioRestored_canon (hs : s.canon ps) :
    (execVioRestored s).canon ps := by
  unfold execVioRestored
  exact .next hs.setRst

theorem State.canon.sampleStraps (hs : s.canon ps) {x : StrapSamples} :
    (s.sampleStraps x).canon ps := by
  unfold State.sampleStraps
  exact .ite hs.setR.setF hs.setR.setF.setF.raise

theorem State.canon.setMemory (hs : s.canon ps) {m : SettingsMemory} :
    (s.setMemory m).canon ps := by
  unfold State.setMemory
  exact hs.setRst

theorem State.canon.defaultItem (hs : s.canon ps) {id : Nat} :
    (s.defaultItem id).canon ps := by
  unfold State.defaultItem
  dsimp only
  split
  · exact hs.setF.setF
  · exact hs.setF.setF.setF
  · exact hs.setRst
  · exact hs.setF
  · exact hs.setF
  · exact hs.setRst
  · exact hs

theorem State.canon.applyItem (hs : s.canon ps) {it : Nat × Bytes × Bool} :
    (s.applyItem it).canon ps := by
  unfold State.applyItem
  refine .ite (.ite hs.defaultItem.raise hs) ?_
  split
  · exact hs.setF.setF
  · exact hs.setF.setF.setF
  · exact hs.setRst
  · exact hs.setF
  · exact hs.setF
  · exact hs.setRst
  · exact hs

theorem State.canon.readSettings (hs : s.canon ps) :
    s.readSettings.canon ps := by
  unfold State.readSettings
  dsimp only
  split
  · exact (State.canon.foldl (fun _ _ hs => hs.defaultItem) hs).setF.setF.setRst.raise
  · exact .foldl (fun _ _ hs => hs.applyItem) (State.canon.foldl (fun _ _ hs => hs.defaultItem)
      hs).setF.setF.setF.setRst

theorem State.canon.note (hs : s.canon ps) {code : Nat} {payload : List Nat} :
    (s.note code payload).canon ps := by
  unfold State.note
  exact hs.setRst

theorem State.canon.countTrial (hs : s.canon ps) :
    s.countTrial.canon ps := by
  unfold State.countTrial
  exact .ite hs (.ite (.ite hs.writeFw.note.setRegion hs.writeFw.note) hs.writeFw)

theorem State.canon.loadComponent (hs : s.canon ps) {slot t : Nat} :
    (s.loadComponent slot t).canon ps := by
  unfold State.loadComponent
  split
  · exact hs.setRst
  · exact hs

theorem State.canon.startSupervisor (hs : s.canon ps) {slot : Nat} :
    (s.startSupervisor slot).canon ps := by
  unfold State.startSupervisor
  dsimp only
  split
  · exact .ite hs.loadComponent.setF.wrBytes hs.loadComponent.setF
  · exact hs.loadComponent.setF

theorem State.canon.loadEngines (hs : s.canon ps) {slot : Nat} :
    (s.loadEngines slot).canon ps := by
  unfold State.loadEngines
  exact .foldl (fun _ _ hs => hs.loadComponent) hs

theorem State.canon.bootSlot (hs : s.canon ps) :
    s.bootSlot.2.canon ps := by
  unfold State.bootSlot
  split
  · exact hs
  · exact hs
  · exact State.canon.ite_snd hs (State.canon.ite_snd (.ite hs.writeFw.setRegion hs.writeFw) hs)

theorem State.canon.raiseCounter (hs : s.canon ps) {svn : Nat} :
    (s.raiseCounter svn).canon ps := by
  unfold State.raiseCounter
  exact hs.setSec.setF

theorem State.canon.fwConfirm (hs : s.canon ps) {slot : Nat} :
    (s.fwConfirm slot).canon ps := by
  unfold State.fwConfirm
  exact .ite (.ite (State.canon.ite hs.writeFw.raiseCounter.writeFw hs.writeFw.raiseCounter).raise.setRegion
    (State.canon.ite hs.writeFw.raiseCounter.writeFw hs.writeFw.raiseCounter).raise) (.ite hs.raiseCounter hs)

theorem State.canon.bootDomains (hs : s.canon ps) :
    s.bootDomains.canon ps := by
  unfold State.bootDomains
  exact .foldl (fun _ _ hs => hs.setHeld.setDomain) hs.setPwr

theorem State.canon.bootFirst (hs : s.canon ps) {straps : StrapSamples} {refOk : Bool} :
    (s.bootFirst straps refOk).canon ps := by
  unfold State.bootFirst
  exact (State.canon.ite hs.setRst.setF.setF.setFeeds
    hs.setRst.setF.setF.setFeeds.referenceLost).sampleStraps.bootDomains.showKeys.showFw.setF.setF.setF.setF.setF.showRoles

theorem State.canon.resumeRegion (hs : s.canon ps) {r : Nat} :
    (s.resumeRegion r).canon ps := by
  unfold State.resumeRegion
  exact .ite (State.canon.ite hs.setRegion hs.postponeRegion).showBlocks.setF (State.canon.ite hs.setRegion
    hs.postponeRegion).showBlocks

theorem State.canon.bootPattern (hs : s.canon ps) :
    s.bootPattern.canon ps := by
  unfold State.bootPattern
  exact .ite hs.unpattern (.ite hs.startPattern hs.unpattern.raise)

theorem State.canon.bootSteps (hs : s.canon ps) {slot : Nat} :
    (s.bootSteps slot).canon ps := by
  unfold State.bootSteps
  exact (State.canon.foldl (fun _ _ hs => hs.resumeRegion) (State.canon.foldl (fun _ _ hs => hs.raise)
    hs.fillTokens.bootScan.raise.timeMark).setRst.setPnl.verifyAssets.panelPowerUp.panelBoot.retainBoot).bootPattern.fwConfirm.setRst

theorem State.canon.bootRest (hs : s.canon ps) :
    s.bootRest.canon ps := by
  unfold State.bootRest
  split
  · next heq =>
      exact (State.canon_snd heq hs.countTrial.bootSlot).startSupervisor.readSettings.loadEngines.bootSteps
  · next heq =>
      exact (State.canon_snd heq hs.countTrial.bootSlot).setF

theorem execResetRelease_canon (hs : s.canon ps) {straps : StrapSamples} {refOk : Bool} :
    (execResetRelease straps refOk s).canon ps := by
  unfold execResetRelease
  exact .next (.ite (.ite hs.bootFirst hs.bootFirst.bootRest) hs)

theorem State.canon.setDgt (hs : s.canon ps) {x : Diagnosis} :
    (s.setDgt x).canon ps := by
  unfold State.setDgt
  exact hs.mk

theorem State.canon.enterPtest (hs : s.canon ps) :
    s.enterPtest.canon ps := by
  unfold State.enterPtest
  exact hs.setDgt.setF.setF.raise

theorem execPtestEntry_canon (hs : s.canon ps) :
    (execPtestEntry s).canon ps := by
  unfold execPtestEntry
  refine .next (.ite hs (.ite hs.enterPtest ?_))
  split
  next heq => exact (State.canon_snd heq hs.random).setDgt

theorem State.canon.ptestRefused (hs : s.canon ps) :
    s.ptestRefused.canon ps := by
  unfold State.ptestRefused
  exact hs.fresh.setDgt.note.bootRest

theorem execPtAuth_canon (hs : s.canon ps) {sigR sigS : Bytes} :
    (execPtAuth sigR sigS s).canon ps := by
  unfold execPtAuth
  refine .next (.ite hs ?_)
  split
  · exact .ite hs.enterPtest hs.ptestRefused
  · exact hs.ptestRefused

theorem execPtestAuthTimeout_canon (hs : s.canon ps) :
    (execPtestAuthTimeout s).canon ps := by
  unfold execPtestAuthTimeout
  exact .next (.ite hs.ptestRefused hs)

theorem State.canon.ptFlash (hs : s.canon ps) {slot : Nat} {image : Bytes} :
    (s.ptFlash slot image).canon ps := by
  unfold State.ptFlash
  exact hs.clearRange.wrBytes.markFwWritten.writeFw

theorem execPtFlash_canon (hs : s.canon ps) {slot : Nat} {image : Bytes} :
    (execPtFlash slot image s).canon ps := by
  unfold execPtFlash
  exact onUnit_canon (.ite hs.ptFlash hs)

theorem State.canon.rstResult (hs : s.canon ps) {op code : Nat} :
    (s.rstResult op code).canon ps := by
  unfold State.rstResult
  exact hs.setF.setF.setF

theorem State.canon.smStore (hs : s.canon ps) {a : Nat} {bs : Bytes} :
    (s.smStore a bs).canon ps := by
  unfold State.smStore
  exact .ite hs.setMemory hs

theorem State.canon.settingsStart (hs : s.canon ps) {op : Nat} {items : Bytes} :
    (s.settingsStart op items).canon ps := by
  unfold State.settingsStart
  exact hs.rstResult.setF.setF.smStore.smStore.setRst

theorem State.canon.clearSetData (hs : s.canon ps) :
    s.clearSetData.canon ps := by
  unfold State.clearSetData
  exact .foldl (fun _ _ hs => hs.setF) hs

theorem State.canon.settingsWrite (hs : s.canon ps) {op len : Nat} :
    (s.settingsWrite op len).canon ps := by
  unfold State.settingsWrite
  exact .ite hs.rstResult (.ite hs.rstResult (.ite hs.rstResult (.ite hs.rstResult hs.settingsStart)))

theorem State.canon.smLost (hs : s.canon ps) {a n : Nat} :
    (s.smLost a n).canon ps := by
  unfold State.smLost
  split
  next heq => exact (State.canon_snd heq hs.random).smStore

theorem State.canon.settingsTimeout (hs : s.canon ps) {step : SettingsStep} {items : Bytes} :
    (s.settingsTimeout step items).canon ps := by
  unfold State.settingsTimeout
  split
  · exact hs.smLost
  · exact hs.smLost
  · exact hs.smLost

theorem State.canon.settingsEnd (hs : s.canon ps) {outcome : SettingsOutcome} :
    (s.settingsEnd outcome).canon ps := by
  unfold State.settingsEnd
  split
  · exact hs
  · dsimp only
    split
    · exact .ite hs (State.canon.ite hs.setF.setRst.clearSetData hs.setF.setRst).settingsTimeout.rstResult
    · exact .ite (State.canon.ite hs.setF.setRst.clearSetData hs.setF.setRst).smStore.setRst.raise.rstResult
        (State.canon.ite hs.setF.setRst.clearSetData hs.setF.setRst).smStore.rstResult
    · exact (State.canon.ite hs.setF.setRst.clearSetData hs.setF.setRst).smLost.rstResult

theorem State.canon.softReset (hs : s.canon ps) :
    s.softReset.canon ps := by
  unfold State.softReset
  exact .ite hs.rstResult (.ite hs.commitAll.fullReset hs.rstResult)

theorem execSettingsWrite_canon (hs : s.canon ps) {req : Requester} {len : Nat} :
    (execSettingsWrite req len s).canon ps := by
  unfold execSettingsWrite
  exact hs.command hs.settingsWrite

theorem execSettingsBlank_canon (hs : s.canon ps) {req : Requester} :
    (execSettingsBlank req s).canon ps := by
  unfold execSettingsBlank
  exact hs.command hs.settingsWrite

theorem execResetCmd_canon (hs : s.canon ps) {req : Requester} :
    (execResetCmd req s).canon ps := by
  unfold execResetCmd
  exact hs.command hs.softReset

theorem execSettingsWriteEnd_canon (hs : s.canon ps) {outcome : SettingsOutcome} :
    (execSettingsWriteEnd outcome s).canon ps := by
  unfold execSettingsWriteEnd
  exact .next hs.settingsEnd


/-! ### FieldIo -/

theorem State.canon.sweepCh (hs : s.canon ps) {p : Pattern} {n : Nat} {mv ua : Int} :
    (s.sweepCh p n mv ua).canon ps := by
  unfold State.sweepCh
  exact .ite hs (.ite hs.setF.setF.setF (.ite hs.setF.setF.setF.setDio (.ite hs.setF.setF.setF.setDio
    hs.setF.setF.setF.setDio)))

theorem State.canon.sweepRef (hs : s.canon ps) {p : Pattern} {g : Nat} {r25 r0 : Int} :
    (s.sweepRef p g r25 r0).canon ps := by
  unfold State.sweepRef
  exact .ite hs (.ite hs.setGrp.setF.raiseCls.faultFns hs.setGrp)

theorem execSweep_canon (hs : s.canon ps) {m : SweepMeas} :
    (execSweep m s).canon ps := by
  unfold execSweep
  split
  · exact .next hs
  · exact .ite (.next hs) (.next (State.canon.foldl (fun _ _ hs => hs.sweepCh) (State.canon.foldl (fun _ _ hs =>
      hs.sweepRef) (.foldl (fun _ _ hs => .ite hs.setF hs) (.foldl (fun _ _ hs => .ite hs.setF hs)
      hs))).settleField).settleField)

theorem execTestPulse_canon (hs : s.canon ps) {n : Nat} :
    (execTestPulse n s).canon ps := by
  unfold execTestPulse
  exact onUnit_canon (.ite (.ite hs.settleField.setF.setDio hs.settleField.setF) hs.settleField)

theorem State.canon.testSource (hs : s.canon ps) {p : Pattern} {src n : Nat} {ua : Int} :
    (s.testSource p src n ua).canon ps := by
  unfold State.testSource
  exact .ite (.ite hs.setF.setDio.raiseCls.faultFns hs.setDio) hs

theorem execTestSample_canon (hs : s.canon ps) {n : Nat} {mv ua : Int} {inputUa : List (Nat × Int)} :
    (execTestSample n mv ua inputUa s).canon ps := by
  unfold execTestSample
  refine onUnit_canon ?_
  split
  · exact hs
  · exact .ite (.foldl (fun _ _ hs => hs.testSource) (.ite hs.setDio.setF.setDio.testFail hs.setDio)) hs

theorem State.canon.cycleEndCh (hs : s.canon ps) {p : Pattern} {n : Nat} :
    (s.cycleEndCh p n).canon ps := by
  unfold State.cycleEndCh
  exact .ite (State.canon.ite hs.testFail hs).setDio hs

theorem execTestCycleEnd_canon (hs : s.canon ps) :
    (execTestCycleEnd s).canon ps := by
  unfold execTestCycleEnd
  split
  · exact .next hs
  · exact .next (State.canon.foldl (fun _ _ hs => hs.cycleEndCh) hs.settleField).incWrap.mk

theorem State.canon.openForTest (hs : s.canon ps) {g : Nat} :
    (s.openForTest g).canon ps := by
  unfold State.openForTest
  exact (State.canon.foldl (fun _ _ hs => .ite hs.setF.setF.setDio hs) hs.setGrp).setDisconnect

theorem execGroupTest_canon (hs : s.canon ps) {g : Nat} :
    (execGroupTest g s).canon ps := by
  unfold execGroupTest
  exact onUnit_canon (.ite hs.settleField.openForTest hs.settleField)

theorem execGroupTestSample_canon (hs : s.canon ps) {g busMv currentMa : Nat} :
    (execGroupTestSample g busMv currentMa s).canon ps := by
  unfold execGroupTestSample
  refine onUnit_canon ?_
  split
  · exact hs
  · exact .ite hs (.ite hs.setGrp (State.canon.foldl (fun _ _ hs => .ite hs.latchOff hs) hs.setGrp.setF).raise.faultFns)

theorem execShortGnd_canon (hs : s.canon ps) {n : Nat} :
    (execShortGnd n s).canon ps := by
  unfold execShortGnd
  exact onUnit_canon (.ite hs.setF.latchOff.raise hs)

theorem execGrpOverload_canon (hs : s.canon ps) {g currentMa : Nat} :
    (execGrpOverload g currentMa s).canon ps := by
  unfold execGrpOverload
  refine onUnit_canon ?_
  split
  · exact hs
  · exact (State.canon.foldl (fun _ _ hs => .ite hs.latchOff hs) hs.setF).raise

theorem execFsLow_canon (hs : s.canon ps) {k mv : Nat} :
    (execFsLow k mv s).canon ps := by
  unfold execFsLow
  exact onUnit_canon (.ite hs.setB.setB.raise hs.setB.setB)

theorem execFsCutoff_canon (hs : s.canon ps) {k : Nat} :
    (execFsCutoff k s).canon ps := by
  unfold execFsCutoff
  exact onUnit_canon (.ite hs (State.canon.foldl (fun _ _ hu => hu.darkGroup) hs.setF.setF.setF).raise)

theorem execFsReturn_canon (hs : s.canon ps) {k : Nat} :
    (execFsReturn k s).canon ps := by
  unfold execFsReturn
  exact onUnit_canon (.ite hs.setF.setF.setF.raise hs)

theorem State.canon.cloConv (hs : s.canon ps) {o : Nat} {c : Option (BitVec 32)} :
    (s.cloConv o c).canon ps := by
  unfold State.cloConv
  refine .ite hs ?_
  dsimp only
  split
  · exact hs.setClo.setF.raise
  · exact .ite hs.setClo.setF hs.setClo.setF.setF

theorem State.canon.cloSupply (hs : s.canon ps) {o mv : Nat} :
    (s.cloSupply o mv).canon ps := by
  unfold State.cloSupply
  exact .ite hs (.ite hs.setF hs.setF)

theorem execCloReadback_canon (hs : s.canon ps) {conv : List (Option (BitVec 32))} {terminalMv : List Nat} {tempC :
    List Int} :
    (execCloReadback conv terminalMv tempC s).canon ps := by
  unfold execCloReadback
  exact .next (.foldl (fun _ _ hu => hu.setF) (.foldl (fun _ _ hu => hu.cloSupply) (.foldl (fun _ _ hu => hu.cloConv)
    hs)))

theorem execCloStarted_canon (hs : s.canon ps) {o : Nat} :
    (execCloStarted o s).canon ps := by
  unfold execCloStarted
  exact onUnit_canon (.ite hs.setF hs)

theorem State.canon.cloCompliance (hs : s.canon ps) {o : Nat} :
    (s.cloCompliance o).canon ps := by
  unfold State.cloCompliance
  exact .ite hs hs.setF.setF.raise

theorem execCompliance_canon (hs : s.canon ps) {o : Nat} :
    (execCompliance o s).canon ps := by
  unfold execCompliance
  exact onUnit_canon (.ite hs.cloCompliance hs)

theorem State.canon.foldBack (hs : s.canon ps) {o : Nat} :
    (s.foldBack o).canon ps := by
  unfold State.foldBack
  split
  · exact .ite hs.setClo.cloCompliance hs
  · exact hs

theorem execThermal_canon (hs : s.canon ps) {o : Nat} {tempC : Int} :
    (execThermal o tempC s).canon ps := by
  unfold execThermal
  exact onUnit_canon (.ite hs (.ite hs.setF.setClo.setF.setF.raise (.ite hs.setF.foldBack.setClo.setF
    hs.setF.foldBack)))

theorem execLinkLost_canon (hs : s.canon ps) {o : Nat} :
    (execLinkLost o s).canon ps := by
  unfold execLinkLost
  exact onUnit_canon (.ite hs hs.setF.setF.setClo.cloOff.raise)


/-! ### Diagnosis -/

theorem State.canon.lbBegin (hs : s.canon ps) {target depth count : Nat} :
    (s.lbBegin target depth count).canon ps := by
  unfold State.lbBegin
  exact State.canon.setDgt (State.canon.setR (State.canon.setR (State.canon.setF (State.canon.setF (State.canon.setF (by
      split
      · exact hs.setF
      · exact hs))))))

theorem State.canon.lbStart (hs : s.canon ps) {target depth count : Nat} :
    (s.lbStart target depth count).canon ps := by
  unfold State.lbStart
  exact .ite hs.lbBegin hs.setF

theorem execLoopbackStart_canon (hs : s.canon ps) {req : Requester} {target depth count : Nat} :
    (execLoopbackStart req target depth count s).canon ps := by
  unfold execLoopbackStart
  exact hs.command hs.lbStart

theorem execLoopbackStop_canon (hs : s.canon ps) {req : Requester} :
    (execLoopbackStop req s).canon ps := by
  unfold execLoopbackStop
  exact hs.command hs.lbEnd

theorem State.canon.lbDrive (hs : s.canon ps) {t : LoopTest} {k : Nat} :
    (s.lbDrive t k).canon ps := by
  unfold State.lbDrive
  refine .ite ?_ hs
  split
  · exact hs.switch.switch
  · exact hs

theorem State.canon.lbJudge (hs : s.canon ps) {o : LbVerdict} :
    (s.lbJudge o).canon ps := by
  unfold State.lbJudge
  dsimp only
  split
  · exact hs.setF.incSat
  · exact .ite hs.setF.incSat.setF hs.setF.incSat
  · exact .ite hs.setF.incSat.setF hs.setF.incSat

theorem execLoopbackItem_canon (hs : s.canon ps) {outcome : LbOutcome} :
    (execLoopbackItem outcome s).canon ps := by
  unfold execLoopbackItem
  refine .next ?_
  split
  · exact hs
  · exact .ite hs.lbDrive.lbJudge.lbEnd hs.lbDrive.lbJudge

theorem State.canon.selftestResult (hs : s.canon ps) {agent test : Nat} {pass : Bool} :
    (s.selftestResult agent test pass).canon ps := by
  unfold State.selftestResult
  exact .ite hs.incWrap hs.incSat.raise

theorem State.canon.startGroupTest (hs : s.canon ps) :
    s.startGroupTest.canon ps := by
  unfold State.startGroupTest
  split
  · exact hs
  · exact hs.setDgt.openForTest

theorem State.canon.runSelftest (hs : s.canon ps) {agent test : Nat} {pass : Bool} :
    (s.runSelftest agent test pass).canon ps := by
  unfold State.runSelftest
  exact .ite hs.startGroupTest (State.canon.ite hs.setDgt hs).selftestResult

theorem State.canon.selftestEntry (hs : s.canon ps) {a k : Nat} {pass : Bool} {r : Running} :
    (s.selftestEntry a k pass r).canon ps := by
  unfold State.selftestEntry
  exact .ite hs.atTick.countOverrun.passEntry (.ite hs.atTick.passEntry hs.atTick.runSelftest.passEntry)

theorem execSelftest_canon (hs : s.canon ps) {agent entry : Nat} {pass : Bool} :
    (execSelftest agent entry pass s).canon ps := by
  unfold execSelftest
  refine onUnit_canon ?_
  split
  · exact .ite hs.selftestEntry hs
  · exact hs

theorem State.canon.groupReports (hs : s.canon ps) :
    s.groupReports.canon ps := by
  unfold State.groupReports
  exact .foldl (fun _ _ hs => hs.selftestResult) hs.setDgt

theorem State.canon.flipData (hs : s.canon ps) {a bits : Nat} :
    (s.flipData a bits).canon ps := by
  unfold State.flipData
  exact .ite hs.wrByte hs

theorem State.canon.injectWord (hs : s.canon ps) {array i mask : Nat} {fold : Bool} :
    (s.injectWord array i mask fold).canon ps := by
  unfold State.injectWord
  exact hs.flipData.flipData.setMark

theorem State.canon.eccInjectNow (hs : s.canon ps) :
    s.eccInjectNow.canon ps := by
  unfold State.eccInjectNow
  exact .ite hs.injectWord.raise hs.setF

theorem execEccInject_canon (hs : s.canon ps) {req : Requester} :
    (execEccInject req s).canon ps := by
  unfold execEccInject
  exact hs.command hs.eccInjectNow

theorem State.canon.enterScan (hs : s.canon ps) {c : BitVec 8} :
    (s.enterScan c).canon ps := by
  unfold State.enterScan
  exact .ite (State.canon.raise (State.canon.updateModOk (by
      split
      · exact (State.canon.foldl (fun _ _ hs => hs.cloOff) (.foldl (fun _ _ hs => hs.openGroupDark)
          hs.setF)).setPanelWord.panelInterrupted
      · exact (State.canon.foldl (fun _ _ hs => hs.cloOff) (.foldl (fun _ _ hs => hs.openGroupDark)
          hs.setF)).discharge))) hs.setF.updateModOk

theorem execTapInstruction_canon (hs : s.canon ps) {code : BitVec 8} :
    (execTapInstruction code s).canon ps := by
  unfold execTapInstruction
  exact .next (.ite hs (.ite hs.setDgt.fullReset (.ite hs.setDgt.enterScan hs.setDgt)))


/-! ### OutApply -/

theorem State.canon.selvApply (hs : s.canon ps) {p : Pattern} :
    (s.selvApply p).canon ps := by
  unfold State.selvApply
  exact .foldl (fun _ _ hs => hs.mk) hs

theorem State.canon.logicByte (hs : s.canon ps) {p : Pattern} {f : Nat} :
    (s.logicByte p f).2.canon ps := by
  unfold State.logicByte
  dsimp only
  split
  · exact hs
  · exact State.canon.ite_snd hs.engRead hs

theorem State.canon.applyLogic (hs : s.canon ps) {p : Pattern} {f : Nat} :
    (s.applyLogic p f).canon ps := by
  unfold State.applyLogic
  refine .ite hs ?_
  refine .ite ?_ (State.canon.tripFn (by
      split
      · next heq =>
          exact (State.canon_snd heq hs.logicByte).mk
      · next heq =>
          exact (State.canon_snd heq hs.logicByte)))
  split
  · next heq =>
      exact (State.canon_snd heq hs.logicByte).mk
  · next heq =>
      exact (State.canon_snd heq hs.logicByte)

theorem State.canon.outCommandRead (hs : s.canon ps) {p : Pattern} {n : Nat} :
    (s.outCommandRead p n).canon ps := by
  unfold State.outCommandRead
  exact .ite hs.outputRead (.ite hs.engRead hs)

theorem State.canon.takeEdge (hs : s.canon ps) {p : Pattern} {n : Nat} {pub : Option Bool} :
    (s.takeEdge p n pub).canon ps := by
  unfold State.takeEdge
  split
  · exact hs
  · exact (State.canon.ite hs.unlatch hs.setDio).setDio

theorem State.canon.applyOutput (hs : s.canon ps) {p : Pattern} {n : Nat} :
    (s.applyOutput p n).canon ps := by
  unfold State.applyOutput
  exact hs.outCommandRead.takeEdge.setB.switch

theorem State.canon.cloRefresh (hs : s.canon ps) {p : Pattern} {o : Nat} :
    (s.cloRefresh p o).canon ps := by
  unfold State.cloRefresh
  exact .ite hs.cloTransfer.cloApply hs.cloTransfer

theorem State.canon.applyClo (hs : s.canon ps) {p : Pattern} {o : Nat} :
    (s.applyClo p o).canon ps := by
  unfold State.applyClo
  refine .ite hs ?_
  refine .ite hs.cloOff ?_
  refine .ite ?_ hs.cloRefresh
  dsimp only
  split
  · exact hs.cloRefresh.outputRead.cloSet
  · exact hs.cloRefresh.outputRead.cloOff

theorem State.canon.applyPoint (hs : s.canon ps) {p : Pattern} :
    (s.applyPoint p).canon ps := by
  unfold State.applyPoint
  exact (State.canon.foldl (fun _ _ hs => hs.applyClo) (.foldl (fun _ _ hs => hs.applyOutput) (.ite hs.selvApply
    (.foldl (fun _ _ hs => hs.applyLogic) hs.selvApply)))).mk.sendSets.tpProduceAll.mk.selvNext

theorem execOutApply_canon (hs : s.canon ps) :
    (execOutApply s).canon ps := by
  unfold execOutApply
  refine .next ?_
  split
  · exact (State.canon.ite hs.atTick.settleField.applyPoint hs.atTick.settleField).passEntry
  · exact hs


/-! ### Overrun -/

theorem State.canon.overrunRunning (hs : s.canon ps) {a cause : Nat} {r : Running} :
    (s.overrunRunning a cause r).canon ps := by
  unfold State.overrunRunning
  exact .ite hs.canSlotOver.finishEntry (.ite hs.countOverrun.abortCore hs.countOverrun.finishEntry)

theorem State.canon.overrunNext (hs : s.canon ps) {a cause : Nat} {r : Running} :
    (s.overrunNext a cause r).canon ps := by
  unfold State.overrunNext
  split
  · split
    · exact .ite (State.canon.ite hs.countOverrun.grpNotComputed hs.countOverrun.grpCut).passEntry hs
    · exact hs
  · exact .ite hs.countOverrun.abandonCommit hs
  · exact .ite hs.countOverrun.passEntry hs
  · exact hs

theorem State.canon.overrun (hs : s.canon ps) {a cause : Nat} :
    (s.overrun a cause).canon ps := by
  unfold State.overrun
  split
  · exact hs.overrunRunning
  · split
    · exact hs.overrunNext
    · exact hs

theorem execBudgetExceeded_canon (hs : s.canon ps) {agent : Nat} :
    (execBudgetExceeded agent s).canon ps := by
  unfold execBudgetExceeded
  exact onUnit_canon (.ite hs (.ite hs.overrun hs))

theorem execEndTickOverrun_canon (hs : s.canon ps) {agent : Nat} :
    (execEndTickOverrun agent s).canon ps := by
  unfold execEndTickOverrun
  refine onUnit_canon ?_
  refine .ite ?_ (State.canon.overrun (by split; exacts [hs.atTick, hs]))
  split
  · exact hs.atTick
  · exact hs

theorem State.canon.scrubWord (hs : s.canon ps) {array i : Nat} :
    (s.scrubWord array i).canon ps := by
  unfold State.scrubWord
  split
  · exact hs
  · exact hs.setMark
  · exact hs.eccUncorrectable

theorem State.canon.sweepWord (hs : s.canon ps) {array : Nat} :
    (s.sweepWord array).canon ps := by
  unfold State.sweepWord
  exact .ite hs.scrubWord.mk.incWrap hs.scrubWord.mk

theorem execScrubStep_canon (hs : s.canon ps) {array : Nat} :
    (execScrubStep array s).canon ps := by
  unfold execScrubStep
  refine onUnit_canon ?_
  refine .ite hs ?_
  split
  · exact hs.mk.scrubWord
  · exact hs.sweepWord

theorem execScrubLate_canon (hs : s.canon ps) {array : Nat} :
    (execScrubLate array s).canon ps := by
  unfold execScrubLate
  exact onUnit_canon (.ite hs (.ite hs.raiseCls.moduleWide hs.raiseCls))


/-! ### Boundary -/

theorem State.canon.fireTriggers (hs : s.canon ps) :
    s.fireTriggers.canon ps := by
  unfold State.fireTriggers
  exact .foldl (fun _ _ hs => .ite hs.trigger hs) hs

theorem State.canon.edgeTime (hs : s.canon ps) :
    s.edgeTime.canon ps := by
  unfold State.edgeTime
  exact hs.mk.setF

theorem State.canon.endStitch (hs : s.canon ps) :
    s.endStitch.canon ps := by
  unfold State.endStitch
  exact .foldl (fun _ _ hs => .ite hs.overrun hs) hs

theorem State.canon.checkHeartbeat (hs : s.canon ps) {a : Nat} :
    (s.checkHeartbeat a).canon ps := by
  unfold State.checkHeartbeat
  exact .ite hs.setF.raise.moduleWide hs

theorem State.canon.checkHeartbeats (hs : s.canon ps) :
    s.checkHeartbeats.canon ps := by
  unfold State.checkHeartbeats
  exact .ite (.foldl (fun _ _ hu => hu.checkHeartbeat) hs) hs

theorem State.canon.classSeen (hs : s.canon ps) {n cls : Nat} :
    (s.classSeen n cls).canon ps := by
  unfold State.classSeen
  exact .ite hs.setF.raise (.ite hs.setF.raise hs)

theorem State.canon.latchDio (hs : s.canon ps) {p : Pattern} {n : Nat} :
    (s.latchDio p n).2.canon ps := by
  unfold State.latchDio
  exact State.canon.ite_snd hs (State.canon.ite_snd (State.canon.ite_snd (State.canon.ite hs.classSeen hs).setDio
    (State.canon.ite hs.classSeen hs).setDio.fresh).latchItem (State.canon.ite_snd (State.canon.ite hs.classSeen
    hs).setDio (State.canon.ite hs.classSeen hs).setDio.fresh).latchItem)

theorem State.canon.latchClo (hs : s.canon ps) {p : Pattern} {o : Nat} :
    (s.latchClo p o).canon ps := by
  unfold State.latchClo
  exact .ite hs hs.latchItem

theorem State.canon.latchEach (hs : s.canon ps) {α : Type} {l : List α} {code : α → Nat} {f : State → α → Bool × State}
    (hf : ∀ s0 u1, s0.canon ps → (f s0 u1).2.canon ps) :
    (s.latchEach l code f).2.canon ps := by
  unfold State.latchEach
  exact State.canon_foldl_snd (fun _ _ hr => hf _ _ hr) hs

theorem State.canon.latchImage (hs : s.canon ps) {p : Pattern} :
    (s.latchImage p).canon ps := by
  unfold State.latchImage
  refine .foldl (fun _ _ hu => hu.postTriggerAt) (.foldl (fun _ _ hu => hu.latchProducer) ?_)
  refine State.canon.latchEach ?_ (fun _ _ hu => hu.latchConsumer)
  refine State.canon.latchEach ?_ (fun _ _ hu => hu.latchMailbox)
  refine State.canon.latchEach ?_ (fun _ _ hu => hu.latchSet)
  exact .foldl (fun _ _ hu => hu.latchClo) (State.canon_foldl_snd (fun _ _ hr => hr.latchDio) hs)

theorem State.canon.noDrive (hs : s.canon ps) {n : Nat} :
    (s.noDrive n).canon ps := by
  unfold State.noDrive
  exact hs.setF.latchOff.raise

theorem State.canon.drivenExt (hs : s.canon ps) {p : Pattern} {n count : Nat} :
    (s.drivenExt p n count).canon ps := by
  unfold State.drivenExt
  exact (State.canon.ite hs.setF.raiseCls hs).faultFns

theorem State.canon.openLoad (hs : s.canon ps) {n : Nat} :
    (s.openLoad n).canon ps := by
  unfold State.openLoad
  exact hs.setF.raise

theorem State.canon.checkOutput (hs : s.canon ps) {p : Pattern} {n : Nat} :
    (s.checkOutput p n).canon ps := by
  unfold State.checkOutput
  exact .ite hs.setDio (.ite hs (.ite (State.canon.ite (State.canon.ite hs.setDio.noDrive hs.setDio).drivenExt (.ite
    hs.setDio.noDrive hs.setDio)).openLoad (.ite (State.canon.ite hs.setDio.noDrive hs.setDio).drivenExt (.ite
    hs.setDio.noDrive hs.setDio))))

theorem State.canon.checkOutputs (hs : s.canon ps) {p : Pattern} :
    (s.checkOutputs p).canon ps := by
  unfold State.checkOutputs
  exact .foldl (fun _ _ hs => hs.checkOutput) hs

theorem State.canon.faultAll (hs : s.canon ps) {c : FnCause} :
    (s.faultAll c).canon ps := by
  unfold State.faultAll
  exact hs.faultFns

theorem State.canon.refLostStep (hs : s.canon ps) :
    s.refLostStep.canon ps := by
  unfold State.refLostStep
  exact .ite hs.mk.faultAll.edgeAllDue hs

theorem State.canon.safeHaltStep (hs : s.canon ps) :
    s.safeHaltStep.canon ps := by
  unfold State.safeHaltStep
  split
  · exact .ite hs.leaveOperation.faultAll.edgeAllDue.setF.setF.raise hs
  · exact hs

theorem State.canon.beginTables (hs : s.canon ps) :
    s.beginTables.canon ps := by
  unfold State.beginTables
  exact .ite (.foldl (fun _ _ hs => .ite hs.postHeartbeat hs) (.foldl (fun _ _ hs => hs.setAgent) hs)) (.foldl (fun _ _
    hs => hs.setAgent) hs)

theorem State.canon.startStep (hs : s.canon ps) :
    s.startStep.canon ps := by
  unfold State.startStep
  split
  · exact .ite (State.canon.ite hs.setF.setF.mk.setStation.clearLoops hs.setF.setF.mk.setStation).startEnd.updateModOk
      hs
  · exact hs

theorem State.canon.stopStep (hs : s.canon ps) :
    s.stopStep.canon ps := by
  unfold State.stopStep
  split
  · exact hs
  · exact .ite hs.mk (.ite hs.mk.leaveOperation (State.canon.ite hs.mk.endInjection.closeWindow.clearLoops
      hs.mk).setStation.startEnd.updateModOk)

theorem State.canon.sampleConds (hs : s.canon ps) :
    s.sampleConds.canon ps := by
  unfold State.sampleConds
  exact hs.mk

theorem State.canon.newStitch (hs : s.canon ps) :
    s.newStitch.canon ps := by
  unfold State.newStitch
  exact hs.mk.selvNext

theorem State.canon.boundaryEdge (hs : s.canon ps) :
    s.boundaryEdge.canon ps := by
  unfold State.boundaryEdge
  exact State.canon.stepDisconnects (State.canon.safeHaltStep (State.canon.refLostStep (by
      split
      · exact (State.canon.foldl (fun _ _ hs => hs.canModeBoundary)
          hs.endStitch.checkHeartbeats.finishPrepare.edgeTime.newStitch.refillTokens.olcSwitch).pairBoundary
      · exact (State.canon.foldl (fun _ _ hs => hs.canModeBoundary)
          hs.endStitch.checkHeartbeats.finishPrepare.edgeTime.newStitch.refillTokens.olcSwitch).pairCount.ownStep)))

theorem State.canon.boundaryLatch (hs : s.canon ps) :
    s.boundaryLatch.canon ps := by
  unfold State.boundaryLatch
  split
  · exact hs
  · exact (State.canon.ite (.foldl (fun _ _ hu => hu.foldBack) hs.settleField.latchImage.checkOutputs)
      (State.canon.foldl (fun _ _ hu => hu.foldBack) hs.settleField.latchImage.checkOutputs).evalFunctions).orderRaises

theorem State.canon.boundary (hs : s.canon ps) :
    s.boundary.canon ps := by
  unfold State.boundary
  exact .ite hs.fireTriggers
    hs.fireTriggers.boundaryEdge.boundaryLatch.applyStep.applyRebase.watchStopStep.stopStep.startStep.dischargeStep.sampleConds.groupReports.announceStep.domainStep.drainBuffers.beginTables

theorem execStitchBoundary_canon (hs : s.canon ps) :
    (execStitchBoundary s).canon ps := by
  unfold execStitchBoundary
  exact .next (.ite hs.boundary hs)

end

end Sys2Proof.Machine
end

section
/-!
PROOFS. The canonical form, operation by operation: the carrier, instructions of cores, register accesses.
Each proof follows the definition of its operation, branch by branch.
-/

namespace Sys2Proof.Machine

-- One proof after another: a side condition by `decide` waits for every proof before it, on a thread of its own.
set_option Elab.async false

section
variable {s : State} {ps : List Instr}

/-! ### Carrier -/

theorem State.canon.mailRefused (hs : s.canon ps) {req : Requester} :
    (s.mailRefused req).canon ps := by
  unfold State.mailRefused
  exact hs.accErr

theorem State.canon.inPost (hs : s.canon ps) {req : Requester} {len : Nat} :
    (s.inPost req len).canon ps := by
  unfold State.inPost
  exact .ite hs.mailRefused hs.setF.setF

theorem State.canon.inTake (hs : s.canon ps) {req : Requester} {postSameCycle : Bool} :
    (s.inTake req postSameCycle).canon ps := by
  unfold State.inTake
  exact .ite hs.mailRefused hs.setF

theorem State.canon.outPost (hs : s.canon ps) {req : Requester} {len : Nat} :
    (s.outPost req len).canon ps := by
  unfold State.outPost
  exact .ite hs.mailRefused hs.setF.setF

theorem State.canon.outTake (hs : s.canon ps) {req : Requester} {postSameCycle : Bool} :
    (s.outTake req postSameCycle).canon ps := by
  unfold State.outTake
  exact .ite hs.mailRefused hs.setF

theorem execInPost_canon (hs : s.canon ps) {req : Requester} {len : BitVec 7} :
    (execInPost req len s).canon ps := by
  unfold execInPost
  exact .next (hs.writing hs.inPost)

theorem execInTake_canon (hs : s.canon ps) {req : Requester} {postSameCycle : Bool} :
    (execInTake req postSameCycle s).canon ps := by
  unfold execInTake
  exact .next (hs.writing hs.inTake)

theorem execOutPost_canon (hs : s.canon ps) {req : Requester} {len : BitVec 7} :
    (execOutPost req len s).canon ps := by
  unfold execOutPost
  exact .next (hs.writing hs.outPost)

theorem execOutTake_canon (hs : s.canon ps) {req : Requester} {postSameCycle : Bool} :
    (execOutTake req postSameCycle s).canon ps := by
  unfold execOutTake
  exact .next (hs.writing hs.outTake)

theorem State.canon.setTemp (hs : s.canon ps) {base die : Int} :
    (s.setTemp base die).canon ps := by
  unfold State.setTemp
  exact hs.setF.setF

theorem execTempHigh_canon (hs : s.canon ps) {baseQuarterC dieC : Int} :
    (execTempHigh baseQuarterC dieC s).canon ps := by
  unfold execTempHigh
  exact .next (.ite hs (.ite hs.setTemp.setF.mk.raise hs.setTemp.setF))

theorem execTempLimit_canon (hs : s.canon ps) {baseQuarterC dieC : Int} :
    (execTempLimit baseQuarterC dieC s).canon ps := by
  unfold execTempLimit
  exact .next (.ite hs (.ite hs.setTemp.setF.mk.raise hs.setTemp.setF))

theorem execTempBelowThreshold_canon (hs : s.canon ps) {baseQuarterC dieC : Int} :
    (execTempBelowThreshold baseQuarterC dieC s).canon ps := by
  unfold execTempBelowThreshold
  exact .next (.ite hs (State.canon.ite (State.canon.ite hs.setTemp.setF hs.setTemp).setF (.ite hs.setTemp.setF
    hs.setTemp)).mk)


/-! ### CoreArith -/

theorem State.canon.alu (hs : s.canon ps) {c cost : Nat} {f : BitVec 64 → BitVec 64 → BitVec 64} {d a b : GReg} :
    (s.alu c cost f d a b).canon ps := by
  unfold State.alu
  exact hs.coreReg

theorem State.canon.aluK (hs : s.canon ps) {c : Nat} {f : BitVec 64 → BitVec 64} {d a : GReg} :
    (s.aluK c f d a).canon ps := by
  unfold State.aluK
  exact hs.coreReg

theorem State.canon.divide (hs : s.canon ps) {c : Nat} {signed w32 rem : Bool} {d a b : GReg} :
    (s.divide c signed w32 rem d a b).canon ps := by
  unfold State.divide
  exact hs.coreReg

theorem execAdd_canon (hs : s.canon ps) {c : Nat} {w32 : Bool} {d a b : GReg} :
    (execAdd c w32 d a b s).canon ps := by
  unfold execAdd
  exact onCore_canon hs.alu

theorem execSub_canon (hs : s.canon ps) {c : Nat} {w32 : Bool} {d a b : GReg} :
    (execSub c w32 d a b s).canon ps := by
  unfold execSub
  exact onCore_canon hs.alu

theorem execAnd_canon (hs : s.canon ps) {c : Nat} {d a b : GReg} :
    (execAnd c d a b s).canon ps := by
  unfold execAnd
  exact onCore_canon hs.alu

theorem execIor_canon (hs : s.canon ps) {c : Nat} {d a b : GReg} :
    (execIor c d a b s).canon ps := by
  unfold execIor
  exact onCore_canon hs.alu

theorem execXor_canon (hs : s.canon ps) {c : Nat} {d a b : GReg} :
    (execXor c d a b s).canon ps := by
  unfold execXor
  exact onCore_canon hs.alu

theorem execShl_canon (hs : s.canon ps) {c : Nat} {w32 : Bool} {d a b : GReg} :
    (execShl c w32 d a b s).canon ps := by
  unfold execShl
  exact onCore_canon hs.alu

theorem execShr_canon (hs : s.canon ps) {c : Nat} {w32 : Bool} {d a b : GReg} :
    (execShr c w32 d a b s).canon ps := by
  unfold execShr
  exact onCore_canon hs.alu

theorem execSar_canon (hs : s.canon ps) {c : Nat} {w32 : Bool} {d a b : GReg} :
    (execSar c w32 d a b s).canon ps := by
  unfold execSar
  exact onCore_canon hs.alu

theorem execCmplt_canon (hs : s.canon ps) {c : Nat} {d a b : GReg} :
    (execCmplt c d a b s).canon ps := by
  unfold execCmplt
  exact onCore_canon hs.alu

theorem execCmpltu_canon (hs : s.canon ps) {c : Nat} {d a b : GReg} :
    (execCmpltu c d a b s).canon ps := by
  unfold execCmpltu
  exact onCore_canon hs.alu

theorem execCmpeq_canon (hs : s.canon ps) {c : Nat} {d a b : GReg} :
    (execCmpeq c d a b s).canon ps := by
  unfold execCmpeq
  exact onCore_canon hs.alu

theorem execMin_canon (hs : s.canon ps) {c : Nat} {d a b : GReg} :
    (execMin c d a b s).canon ps := by
  unfold execMin
  exact onCore_canon hs.alu

theorem execMax_canon (hs : s.canon ps) {c : Nat} {d a b : GReg} :
    (execMax c d a b s).canon ps := by
  unfold execMax
  exact onCore_canon hs.alu

theorem execMul_canon (hs : s.canon ps) {c : Nat} {w32 : Bool} {d a b : GReg} :
    (execMul c w32 d a b s).canon ps := by
  unfold execMul
  exact onCore_canon hs.alu

theorem execMulhs_canon (hs : s.canon ps) {c : Nat} {d a b : GReg} :
    (execMulhs c d a b s).canon ps := by
  unfold execMulhs
  exact onCore_canon hs.alu

theorem execMulhu_canon (hs : s.canon ps) {c : Nat} {d a b : GReg} :
    (execMulhu c d a b s).canon ps := by
  unfold execMulhu
  exact onCore_canon hs.alu

theorem execDivs_canon (hs : s.canon ps) {c : Nat} {w32 : Bool} {d a b : GReg} :
    (execDivs c w32 d a b s).canon ps := by
  unfold execDivs
  exact onCore_canon hs.divide

theorem execDivu_canon (hs : s.canon ps) {c : Nat} {w32 : Bool} {d a b : GReg} :
    (execDivu c w32 d a b s).canon ps := by
  unfold execDivu
  exact onCore_canon hs.divide

theorem execMods_canon (hs : s.canon ps) {c : Nat} {w32 : Bool} {d a b : GReg} :
    (execMods c w32 d a b s).canon ps := by
  unfold execMods
  exact onCore_canon hs.divide

theorem execModu_canon (hs : s.canon ps) {c : Nat} {w32 : Bool} {d a b : GReg} :
    (execModu c w32 d a b s).canon ps := by
  unfold execModu
  exact onCore_canon hs.divide

theorem execAddk_canon (hs : s.canon ps) {c : Nat} {d a : GReg} {k : BitVec 14} :
    (execAddk c d a k s).canon ps := by
  unfold execAddk
  exact onCore_canon hs.aluK

theorem execAndk_canon (hs : s.canon ps) {c : Nat} {d a : GReg} {k : BitVec 14} :
    (execAndk c d a k s).canon ps := by
  unfold execAndk
  exact onCore_canon hs.aluK

theorem execIork_canon (hs : s.canon ps) {c : Nat} {d a : GReg} {k : BitVec 14} :
    (execIork c d a k s).canon ps := by
  unfold execIork
  exact onCore_canon hs.aluK

theorem execXork_canon (hs : s.canon ps) {c : Nat} {d a : GReg} {k : BitVec 14} :
    (execXork c d a k s).canon ps := by
  unfold execXork
  exact onCore_canon hs.aluK

theorem execCmpltk_canon (hs : s.canon ps) {c : Nat} {d a : GReg} {k : BitVec 14} :
    (execCmpltk c d a k s).canon ps := by
  unfold execCmpltk
  exact onCore_canon hs.aluK

theorem execShk_canon (hs : s.canon ps) {c : Nat} {kind : ShiftKind} {w32 : Bool} {d a : GReg} {amount : BitVec 6} :
    (execShk c kind w32 d a amount s).canon ps := by
  unfold execShk
  exact onCore_canon hs.aluK

theorem execLih_canon (hs : s.canon ps) {c : Nat} {d : GReg} {k : BitVec 19} :
    (execLih c d k s).canon ps := by
  unfold execLih
  exact onCore_canon hs.coreReg

theorem execGets_canon (hs : s.canon ps) {c : Nat} {d : GReg} {k : BitVec 14} :
    (execGets c d k s).canon ps := by
  unfold execGets
  exact onCore_canon (hs.coreRun (fun _ _ hs => by split; exacts [hs, hs.setCore]))

theorem execPuts_canon (hs : s.canon ps) {c : Nat} {a : GReg} {k : BitVec 14} :
    (execPuts c a k s).canon ps := by
  unfold execPuts
  exact onCore_canon (hs.coreRun (fun _ _ hs => by split; exacts [hs, hs.setCore]))


/-! ### CoreFloat -/

theorem State.canon.fp2 (hs : s.canon ps) {c cost : Nat} {f64b : Bool} {f : FFmt → Nat → Nat → Nat × Nat} {d a b :
    GReg} :
    (s.fp2 c cost f64b f d a b).canon ps := by
  unfold State.fp2
  exact hs.coreReg

theorem State.canon.fp1 (hs : s.canon ps) {c cost : Nat} {f64b : Bool} {f : FFmt → Nat → Nat × Nat} {d a : GReg} :
    (s.fp1 c cost f64b f d a).canon ps := by
  unfold State.fp1
  exact hs.coreReg

theorem State.canon.fp3 (hs : s.canon ps) {c : Nat} {f64b : Bool} {f : FFmt → Nat → Nat → Nat → Nat × Nat} {d a b r :
    GReg} :
    (s.fp3 c f64b f d a b r).canon ps := by
  unfold State.fp3
  exact hs.coreReg

theorem execFadd_canon (hs : s.canon ps) {c : Nat} {w : Bool} {d a b : GReg} :
    (execFadd c w d a b s).canon ps := by
  unfold execFadd
  exact onCore_canon hs.fp2

theorem execFsub_canon (hs : s.canon ps) {c : Nat} {w : Bool} {d a b : GReg} :
    (execFsub c w d a b s).canon ps := by
  unfold execFsub
  exact onCore_canon hs.fp2

theorem execFmul_canon (hs : s.canon ps) {c : Nat} {w : Bool} {d a b : GReg} :
    (execFmul c w d a b s).canon ps := by
  unfold execFmul
  exact onCore_canon hs.fp2

theorem execFmin_canon (hs : s.canon ps) {c : Nat} {w : Bool} {d a b : GReg} :
    (execFmin c w d a b s).canon ps := by
  unfold execFmin
  exact onCore_canon hs.fp2

theorem execFmax_canon (hs : s.canon ps) {c : Nat} {w : Bool} {d a b : GReg} :
    (execFmax c w d a b s).canon ps := by
  unfold execFmax
  exact onCore_canon hs.fp2

theorem execFcmpeq_canon (hs : s.canon ps) {c : Nat} {w : Bool} {d a b : GReg} :
    (execFcmpeq c w d a b s).canon ps := by
  unfold execFcmpeq
  exact onCore_canon hs.fp2

theorem execFcmplt_canon (hs : s.canon ps) {c : Nat} {w : Bool} {d a b : GReg} :
    (execFcmplt c w d a b s).canon ps := by
  unfold execFcmplt
  exact onCore_canon hs.fp2

theorem execFcmple_canon (hs : s.canon ps) {c : Nat} {w : Bool} {d a b : GReg} :
    (execFcmple c w d a b s).canon ps := by
  unfold execFcmple
  exact onCore_canon hs.fp2

theorem execFdiv_canon (hs : s.canon ps) {c : Nat} {w : Bool} {d a b : GReg} :
    (execFdiv c w d a b s).canon ps := by
  unfold execFdiv
  exact onCore_canon hs.fp2

theorem execFneg_canon (hs : s.canon ps) {c : Nat} {w : Bool} {d a : GReg} :
    (execFneg c w d a s).canon ps := by
  unfold execFneg
  exact onCore_canon hs.fp1

theorem execFabs_canon (hs : s.canon ps) {c : Nat} {w : Bool} {d a : GReg} :
    (execFabs c w d a s).canon ps := by
  unfold execFabs
  exact onCore_canon hs.fp1

theorem execFsqrt_canon (hs : s.canon ps) {c : Nat} {w : Bool} {d a : GReg} :
    (execFsqrt c w d a s).canon ps := by
  unfold execFsqrt
  exact onCore_canon hs.fp1

theorem execFma_canon (hs : s.canon ps) {c : Nat} {w : Bool} {d a b r : GReg} :
    (execFma c w d a b r s).canon ps := by
  unfold execFma
  exact onCore_canon hs.fp3

theorem execFms_canon (hs : s.canon ps) {c : Nat} {w : Bool} {d a b r : GReg} :
    (execFms c w d a b r s).canon ps := by
  unfold execFms
  exact onCore_canon hs.fp3

theorem execFnma_canon (hs : s.canon ps) {c : Nat} {w : Bool} {d a b r : GReg} :
    (execFnma c w d a b r s).canon ps := by
  unfold execFnma
  exact onCore_canon hs.fp3

theorem State.canon.cvt (hs : s.canon ps) {c : Nat} {f : BitVec 64 → Nat × Nat} {d a : GReg} :
    (s.cvt c f d a).canon ps := by
  unfold State.cvt
  exact hs.coreReg

theorem execF64F32_canon (hs : s.canon ps) {c : Nat} {d a : GReg} :
    (execF64F32 c d a s).canon ps := by
  unfold execF64F32
  exact onCore_canon hs.cvt

theorem execF32F64_canon (hs : s.canon ps) {c : Nat} {d a : GReg} :
    (execF32F64 c d a s).canon ps := by
  unfold execF32F64
  exact onCore_canon hs.cvt

theorem execF64I64_canon (hs : s.canon ps) {c : Nat} {d a : GReg} :
    (execF64I64 c d a s).canon ps := by
  unfold execF64I64
  exact onCore_canon hs.cvt

theorem execF32I64_canon (hs : s.canon ps) {c : Nat} {d a : GReg} :
    (execF32I64 c d a s).canon ps := by
  unfold execF32I64
  exact onCore_canon hs.cvt

theorem execI64F64t_canon (hs : s.canon ps) {c : Nat} {d a : GReg} :
    (execI64F64t c d a s).canon ps := by
  unfold execI64F64t
  exact onCore_canon hs.cvt

theorem execI64F32t_canon (hs : s.canon ps) {c : Nat} {d a : GReg} :
    (execI64F32t c d a s).canon ps := by
  unfold execI64F32t
  exact onCore_canon hs.cvt

theorem execI64F64n_canon (hs : s.canon ps) {c : Nat} {d a : GReg} :
    (execI64F64n c d a s).canon ps := by
  unfold execI64F64n
  exact onCore_canon hs.cvt

theorem execI64F32n_canon (hs : s.canon ps) {c : Nat} {d a : GReg} :
    (execI64F32n c d a s).canon ps := by
  unfold execI64F32n
  exact onCore_canon hs.cvt


/-! ### CoreMemory -/

theorem State.canon.loadLocal (hs : s.canon ps) {c n : Nat} {signed : Bool} {d a : GReg} {k : BitVec 14} :
    (s.loadLocal c n signed d a k).canon ps := by
  unfold State.loadLocal
  obtain ⟨m, hm⟩ := dram_opaque c
  obtain ⟨b, hb⟩ := localBase_opaque
  rw [hm, hb]
  refine hs.coreRun fun x u hu => ?_
  split
  · exact hu
  · split
    · next heq => exact hu.loadAt.1 _ heq
    · next heq => exact (hu.loadAt.2 _ heq).setCore

theorem State.canon.loadShared (hs : s.canon ps) {c n : Nat} {signed : Bool} {d a : GReg} {k : BitVec 14} :
    (s.loadShared c n signed d a k).canon ps := by
  unfold State.loadShared
  refine hs.coreRun fun x u hu => ?_
  split
  · exact hu
  · split
    · next heq => exact hu.loadAt.1 _ heq
    · next heq => exact (hu.loadAt.2 _ heq).setCore

theorem State.canon.storeLocal (hs : s.canon ps) {c n : Nat} {t a : GReg} {k : BitVec 14} :
    (s.storeLocal c n t a k).canon ps := by
  unfold State.storeLocal
  refine hs.coreRun fun x u hu => ?_
  split
  · exact hu
  · dsimp only
    split
    · next heq => exact hu.storeAt.1 _ heq
    · next heq => exact (hu.storeAt.2 _ heq).signLocal

theorem State.canon.storeShared (hs : s.canon ps) {c n : Nat} {t a : GReg} {k : BitVec 14} :
    (s.storeShared c n t a k).canon ps := by
  unfold State.storeShared
  refine hs.coreRun fun x u hu => ?_
  split
  · exact hu
  · dsimp only
    split
    · next heq => exact hu.storeAt.1 _ heq
    · next heq => exact (hu.storeAt.2 _ heq).signShared

theorem State.canon.writeBlock (hs : s.canon ps) {ma : Nat} {bs : Bytes} {addr : Nat} :
    (∀ e, s.writeBlock ma bs addr = .inl e → e.canon ps) ∧ ∀ t, s.writeBlock ma bs addr = .inr t → t.canon ps := by
  unfold State.writeBlock
  dsimp only
  split_ifs
  · exact ⟨fun e he => (nomatch he), fun t ht => Sum.inr.inj ht ▸ hs.wrBytes.eccClearWords⟩
  · split
    · next heq => exact ⟨fun e he => Sum.inl.inj he ▸ State.canon_snd heq hs.eccReadWord, fun x hx => nomatch hx⟩
    · next heq =>
      exact ⟨fun e he => (nomatch he), fun x hx => Sum.inr.inj hx ▸ (State.canon_snd heq
        hs.eccReadWord).wrBytes.eccClearWords⟩

theorem State.canon.blockMove (hs : s.canon ps) {c : Nat} {toShared : Bool} {countM1 : BitVec 15} {sh lo : GReg} :
    (s.blockMove c toShared countM1 sh lo).canon ps := by
  unfold State.blockMove
  refine hs.coreRun fun x u hu => ?_
  split
  · exact hu
  · exact hu
  · dsimp only
    split
    · exact hu
    · split
      · next heq => exact State.canon_snd heq hu.eccRead
      · next heq =>
        have hv := State.canon_snd heq hu.eccRead
        split
        · next heq => exact hv.writeBlock.1 _ heq
        · next heq => exact .ite (.foldl (fun _ _ hw => hw.record) (hv.writeBlock.2 _ heq)) (hv.writeBlock.2 _ heq)

theorem execL8s_canon (hs : s.canon ps) {c : Nat} {d a : GReg} {k : BitVec 14} :
    (execL8s c d a k s).canon ps := by
  unfold execL8s
  exact onCore_canon hs.loadLocal

theorem execL8u_canon (hs : s.canon ps) {c : Nat} {d a : GReg} {k : BitVec 14} :
    (execL8u c d a k s).canon ps := by
  unfold execL8u
  exact onCore_canon hs.loadLocal

theorem execL16s_canon (hs : s.canon ps) {c : Nat} {d a : GReg} {k : BitVec 14} :
    (execL16s c d a k s).canon ps := by
  unfold execL16s
  exact onCore_canon hs.loadLocal

theorem execL16u_canon (hs : s.canon ps) {c : Nat} {d a : GReg} {k : BitVec 14} :
    (execL16u c d a k s).canon ps := by
  unfold execL16u
  exact onCore_canon hs.loadLocal

theorem execL32s_canon (hs : s.canon ps) {c : Nat} {d a : GReg} {k : BitVec 14} :
    (execL32s c d a k s).canon ps := by
  unfold execL32s
  exact onCore_canon hs.loadLocal

theorem execL32u_canon (hs : s.canon ps) {c : Nat} {d a : GReg} {k : BitVec 14} :
    (execL32u c d a k s).canon ps := by
  unfold execL32u
  exact onCore_canon hs.loadLocal

theorem execL64_canon (hs : s.canon ps) {c : Nat} {d a : GReg} {k : BitVec 14} :
    (execL64 c d a k s).canon ps := by
  unfold execL64
  exact onCore_canon hs.loadLocal

theorem execLs8s_canon (hs : s.canon ps) {c : Nat} {d a : GReg} {k : BitVec 14} :
    (execLs8s c d a k s).canon ps := by
  unfold execLs8s
  exact onCore_canon hs.loadShared

theorem execLs8u_canon (hs : s.canon ps) {c : Nat} {d a : GReg} {k : BitVec 14} :
    (execLs8u c d a k s).canon ps := by
  unfold execLs8u
  exact onCore_canon hs.loadShared

theorem execLs16s_canon (hs : s.canon ps) {c : Nat} {d a : GReg} {k : BitVec 14} :
    (execLs16s c d a k s).canon ps := by
  unfold execLs16s
  exact onCore_canon hs.loadShared

theorem execLs16u_canon (hs : s.canon ps) {c : Nat} {d a : GReg} {k : BitVec 14} :
    (execLs16u c d a k s).canon ps := by
  unfold execLs16u
  exact onCore_canon hs.loadShared

theorem execLs32s_canon (hs : s.canon ps) {c : Nat} {d a : GReg} {k : BitVec 14} :
    (execLs32s c d a k s).canon ps := by
  unfold execLs32s
  exact onCore_canon hs.loadShared

theorem execLs32u_canon (hs : s.canon ps) {c : Nat} {d a : GReg} {k : BitVec 14} :
    (execLs32u c d a k s).canon ps := by
  unfold execLs32u
  exact onCore_canon hs.loadShared

theorem execLs64_canon (hs : s.canon ps) {c : Nat} {d a : GReg} {k : BitVec 14} :
    (execLs64 c d a k s).canon ps := by
  unfold execLs64
  exact onCore_canon hs.loadShared

theorem execS8_canon (hs : s.canon ps) {c : Nat} {t a : GReg} {k : BitVec 14} :
    (execS8 c t a k s).canon ps := by
  unfold execS8
  exact onCore_canon hs.storeLocal

theorem execS16_canon (hs : s.canon ps) {c : Nat} {t a : GReg} {k : BitVec 14} :
    (execS16 c t a k s).canon ps := by
  unfold execS16
  exact onCore_canon hs.storeLocal

theorem execS32_canon (hs : s.canon ps) {c : Nat} {t a : GReg} {k : BitVec 14} :
    (execS32 c t a k s).canon ps := by
  unfold execS32
  exact onCore_canon hs.storeLocal

theorem execS64_canon (hs : s.canon ps) {c : Nat} {t a : GReg} {k : BitVec 14} :
    (execS64 c t a k s).canon ps := by
  unfold execS64
  exact onCore_canon hs.storeLocal

theorem execSs8_canon (hs : s.canon ps) {c : Nat} {t a : GReg} {k : BitVec 14} :
    (execSs8 c t a k s).canon ps := by
  unfold execSs8
  exact onCore_canon hs.storeShared

theorem execSs16_canon (hs : s.canon ps) {c : Nat} {t a : GReg} {k : BitVec 14} :
    (execSs16 c t a k s).canon ps := by
  unfold execSs16
  exact onCore_canon hs.storeShared

theorem execSs32_canon (hs : s.canon ps) {c : Nat} {t a : GReg} {k : BitVec 14} :
    (execSs32 c t a k s).canon ps := by
  unfold execSs32
  exact onCore_canon hs.storeShared

theorem execSs64_canon (hs : s.canon ps) {c : Nat} {t a : GReg} {k : BitVec 14} :
    (execSs64 c t a k s).canon ps := by
  unfold execSs64
  exact onCore_canon hs.storeShared

theorem execBmv_canon (hs : s.canon ps) {c : Nat} {toShared : Bool} {countM1 : BitVec 15} {sh lo : GReg} :
    (execBmv c toShared countM1 sh lo s).canon ps := by
  unfold execBmv
  exact onCore_canon hs.blockMove


/-! ### CoreSys -/

theorem State.canon.retVal (hs : s.canon ps) {v : Option (BitVec 64)} :
    (s.retVal v).2.canon ps := by
  unfold State.retVal
  split
  · exact hs
  · exact hs.fresh

theorem State.canon.sysReturn (hs : s.canon ps) {c : Nat} {x : Core} {code : Nat} {g2 g3 : Option (BitVec 64)} :
    (s.sysReturn c x code g2 g3).canon ps := by
  unfold State.sysReturn
  exact hs.retVal.retVal.setCore

theorem execQPut_canon (hs : s.canon ps) {c : Nat} {arg : BitVec 15} :
    (execQPut c arg s).canon ps := by
  unfold execQPut
  obtain ⟨m, hm⟩ := dram_opaque c
  obtain ⟨b, hb⟩ := localBase_opaque
  rw [hm, hb]
  refine onCore_canon (hs.coreRun fun x u hu => ?_)
  split
  · exact hu
  · split
    · exact hu.sysReturn
    · dsimp only
      split
      · exact hu.sysReturn
      · split
        · exact hu
        · split
          · next heq => exact State.canon_snd heq hu.eccRead
          · next heq => exact (State.canon_snd heq hu.eccRead).queueStore.sysReturn

theorem State.canon.mergeRead (hs : s.canon ps) {a n w : Nat} : (s.mergeRead a n w).2.canon ps :=
  .ite_snd hs.eccReadWord hs

theorem State.canon.storeBlock (hs : s.canon ps) {c off : Nat} {bs : Bytes} :
    (∀ e, s.storeBlock c off bs = .inl e → e.canon ps) ∧ ∀ t, s.storeBlock c off bs = .inr t → t.canon ps := by
  obtain ⟨a, ha⟩ : ∃ a, Mem.dram c + off = a := ⟨_, rfl⟩
  rw [s.storeBlock_eq c off bs ha]
  split
  next heq =>
  have hu := State.canon_snd heq hs.mergeRead
  split
  next heq =>
  have hv := State.canon_snd heq (.ite_snd hu hu.mergeRead)
  split_ifs
  · exact ⟨fun e he => Sum.inl.inj he ▸ hv, fun t ht => (nomatch ht)⟩
  · exact ⟨fun e he => (nomatch he), fun t ht => Sum.inr.inj ht ▸ hv.wrBytes.eccClearWords⟩

theorem execQGet_canon (hs : s.canon ps) {c : Nat} {arg : BitVec 15} :
    (execQGet c arg s).canon ps := by
  obtain ⟨b, hb⟩ := localBase_opaque
  obtain ⟨m, hm⟩ : ∃ m, Mem.shared = m := ⟨_, rfl⟩
  rw [execQGet, hb, hm]
  refine onCore_canon (hs.coreRun fun x u hu => ?_)
  split
  · exact hu.sysReturn
  · refine CoreStep.canon_ite hu.sysReturn ?_
    split
    · exact hu
    · refine CoreStep.canon_ite hu.sysReturn (CoreStep.canon_ite hu ?_)
      split
      · next heq => exact State.canon_snd heq hu.eccRead
      · next heq =>
        have hv := State.canon_snd heq hu.eccRead
        split
        · next heq => exact hv.storeBlock.1 _ heq
        · next heq => exact (hv.storeBlock.2 _ heq).queueGet.sysReturn

theorem execQStat_canon (hs : s.canon ps) {c : Nat} {arg : BitVec 15} :
    (execQStat c arg s).canon ps := by
  unfold execQStat
  exact onCore_canon (hs.coreRun (fun _ _ hs => by dsimp only; split; exacts [hs.sysReturn, hs.sysReturn]))

theorem execEvtRaise_canon (hs : s.canon ps) {c : Nat} {arg : BitVec 15} :
    (execEvtRaise c arg s).canon ps := by
  unfold execEvtRaise
  exact onCore_canon (hs.coreRun (fun _ _ hs => by
      split
      · exact hs
      · split
        · exact hs.sysReturn
        · exact hs.postAt.sysReturn))

theorem execEvtArg_canon (hs : s.canon ps) {c : Nat} {_arg : BitVec 15} :
    (execEvtArg c _arg s).canon ps := by
  unfold execEvtArg
  exact onCore_canon (hs.coreRun (fun _ _ hs => by split; exacts [hs.sysReturn, hs.sysReturn]))

theorem execRecRaise_canon (hs : s.canon ps) {c : Nat} {arg : BitVec 15} :
    (execRecRaise c arg s).canon ps := by
  unfold execRecRaise
  exact onCore_canon (hs.coreRun (fun _ _ hs => hs.raise.sysReturn))

theorem execTimeRd_canon (hs : s.canon ps) {c : Nat} {_arg : BitVec 15} :
    (execTimeRd c _arg s).canon ps := by
  unfold execTimeRd
  exact onCore_canon (hs.coreRun (fun _ _ hs => hs.sysReturn))


/-! ### RegisterAccess -/

theorem State.canon.fieldWrite (hs : s.canon ps) {req : Requester} {a : Nat} {r : RegDef} {v : BitVec 32} :
    (s.fieldWrite req a r v).canon ps := by
  unfold State.fieldWrite
  exact .ite hs.accErr hs.setR.accErr

theorem State.canon.opCommand (hs : s.canon ps) {req : Requester} {a : Nat} {v : BitVec 32} :
    (s.opCommand req a v).canon ps := by
  unfold State.opCommand
  refine .ite hs.startCmd ?_
  refine .ite ?_ ?_
  · split
    · exact hs.forceSet
    · exact hs.forceRelease
    · exact hs.forceReleaseAll
    · exact hs
  · refine .ite ?_ ?_
    · split
      · exact hs.patVerify
      · exact hs.patActivate
      · exact hs.patPrepare
      · exact hs.patCommit
      · exact hs.patAbort
      · exact hs.patRevert
      · exact hs.patClear
      · exact hs
    · refine .ite ?_ ?_
      · split
        · exact hs.bobArm
        · exact hs.bobStop
        · exact hs.bobClear
        · exact hs
      · refine .ite ?_ ?_
        · split
          · exact hs.safConfirm
          · exact hs.safClearHalt
          · exact hs.safCancel
          · exact hs
        · refine .ite ?_ ?_
          · split
            · exact hs.pairClaim
            · exact hs.pairRelease
            · exact hs.pairWitness
            · exact hs
          · refine .ite ?_ ?_
            · split
              · exact hs.timeCommand hs.ptpStep
              · exact hs.timeCommand hs.ptpRebase
              · exact hs.timeCommand hs.ptpCancel
              · exact hs.timeCommand hs
            · refine .ite ?_ ?_
              · split
                · exact hs.timeMarkCmd
                · exact hs
              · refine .ite ?_ ?_
                · split
                  · exact hs.pnlRefresh
                  · exact hs.pnlDisableCmd
                  · exact hs.pnlEnableCmd
                  · exact hs
                · refine .ite ?_ ?_
                  · split
                    · exact hs.watchCmd
                    · exact hs.watchCancel
                    · exact hs
                  · refine .ite ?_ hs
                    split
                    · exact hs.fresh.enrol
                    · exact hs.rotateOwner
                    · exact hs.dbgChallenge
                    · exact hs.dbgUnlock
                    · exact hs.dbgLock
                    · exact hs.cakSet
                    · exact hs.cakClear
                    · exact hs

theorem State.canon.unitCommand (hs : s.canon ps) {a : Nat} {v : BitVec 32} :
    (s.unitCommand a v).canon ps := by
  unfold State.unitCommand
  refine .ite (.ite hs.lpCmd hs) ?_
  refine .ite (.ite hs.qpCmd hs) ?_
  refine .ite ?_ ?_
  · dsimp only
    split
    · exact hs.updOn (fun _ _ h => h.updBegin)
    · exact hs.updOn (fun _ _ h => h.updResume)
    · exact hs.updOn (fun _ _ h => h.updFinish)
    · exact hs.updOn (fun _ _ h => h.updArm)
    · exact hs.updOn (fun _ _ h => h.updDisarm)
    · exact hs.updOn (fun _ _ h => h.updActivateNow)
    · exact hs
  · refine .ite (hs.updOn (fun _ _ h => h.updCancel)) ?_
    refine .ite ?_ ?_
    · split
      · exact hs.settingsWrite
      · exact hs.settingsWrite
      · exact hs.softReset
      · exact hs
    · refine .ite ?_ ?_
      · split
        · exact hs.lbStart
        · exact hs.lbEnd
        · exact hs
      · split
        · split
          · exact hs.canRecover
          · exact hs.canClearCounts
          · exact hs
        · exact hs

theorem State.canon.fieldActs (hs : s.canon ps) {a : Nat} {v : BitVec 32} :
    (s.fieldActs a v).canon ps := by
  unfold State.fieldActs
  split
  · exact hs.setR
  · exact .ite hs.setF hs
  · exact .ite hs.eccInjectNow hs

theorem State.canon.mailCommand (hs : s.canon ps) {req : Requester} {v : BitVec 32} :
    (s.mailCommand req v).canon ps := by
  unfold State.mailCommand
  dsimp only
  split
  · exact hs.inPost
  · exact hs.inTake
  · exact hs.outPost
  · exact hs.outTake
  · exact hs

theorem State.canon.mailWrite (hs : s.canon ps) {req : Requester} {a : Nat} {v : BitVec 32} {t : State}
    (h : s.mailWrite req a v = some t) : t.canon ps := by
  unfold State.mailWrite at h
  split at h
  · obtain rfl := Option.some.inj h
    exact hs.mailCommand
  · split at h
    · obtain rfl := Option.some.inj h
      exact .ite hs.setR hs.mailRefused
    · obtain rfl := Option.some.inj h
      exact .ite hs.setR hs.mailRefused
    · cases h

theorem State.canon.accerrWrite (hs : s.canon ps) {req : Requester} {v : BitVec 32} :
    (s.accerrWrite req v).canon ps := by
  unfold State.accerrWrite
  exact .ite (.ite hs.setR hs.setR.setF) (State.canon.ite hs.setR hs.setR.setF).accErr

theorem State.canon.ownWrite (hs : s.canon ps) {req : Requester} {a : Nat} {v : BitVec 32} {t : State}
    (h : s.ownWrite req a v = some t) : t.canon ps := by
  unfold State.ownWrite at h
  split_ifs at h
  · obtain rfl := Option.some.inj h
    exact hs.accerrWrite
  · obtain rfl := Option.some.inj h
    exact hs.timeCommand hs.incrLoWrite
  · obtain rfl := Option.some.inj h
    exact hs.timeCommand hs.incrHiWrite
  · split at h
    · obtain rfl := Option.some.inj h
      exact hs.voteWrite
    · obtain rfl := Option.some.inj h
      exact hs.mbLockWrite
    · exact hs.mailWrite h

theorem State.canon.windowWrite (hs : s.canon ps) {req : Requester} {w : Window} {off : Nat} {v : BitVec 32} :
    (s.windowWrite req w off v).canon ps := by
  unfold State.windowWrite
  split
  · exact hs.storeWindow
  · exact hs.qpWindowWrite
  · exact hs.accErr
  · exact hs.accErr
  · exact hs.accErr

theorem State.canon.busWrite (hs : s.canon ps) {req : Requester} {a : Nat} {v : BitVec 32} :
    (s.busWrite req a v).canon ps := by
  unfold State.busWrite
  split
  · exact hs.windowWrite
  · split
    · next heq => exact hs.ownWrite heq
    · split
      · exact hs.accErr
      · exact hs.fieldWrite.fieldActs.opCommand.unitCommand

theorem State.canon.portWrite (hs : s.canon ps) {a : Nat} {v : BitVec 32} :
    (s.portWrite a v).canon ps := by
  unfold State.portWrite
  split
  · next heq => exact hs.mailWrite heq
  · exact hs.accErr

theorem State.canon.regWrite (hs : s.canon ps) {req : Requester} {a : Nat} {v : BitVec 32} {nbytes : Nat} :
    (s.regWrite req a v nbytes).canon ps := by
  unfold State.regWrite
  exact .ite hs.accErr (.ite hs.portWrite hs.busWrite)

theorem execRegisterWrite_canon (hs : s.canon ps) {req : Requester} {addr value : BitVec 32} {nbytes : Nat} :
    (execRegisterWrite req addr value nbytes s).canon ps := by
  unfold execRegisterWrite
  exact .next (hs.accessBy (.ite hs.regWrite hs))

theorem execGlbAccerrWrite_canon (hs : s.canon ps) {req : Requester} {value : BitVec 32} :
    (execGlbAccerrWrite req value s).canon ps := by
  unfold execGlbAccerrWrite
  exact .next (hs.writing hs.regWrite)

theorem State.canon.portMissed (hs : s.canon ps) :
    s.portMissed.canon ps := by
  unfold State.portMissed
  exact hs.incSat.setF

theorem State.canon.portRead (hs : s.canon ps) {a : Nat} :
    (s.portRead a).2.canon ps := by
  unfold State.portRead
  exact State.canon.ite_snd hs.accErr (State.canon.ite_snd hs.portMissed (State.canon.ite_snd hs (State.canon.ite_snd
    hs hs.mk)))

theorem State.canon.portReads (hs : s.canon ps) {a n : Nat} : (s.portReads a n).2.canon ps := by
  induction n generalizing s a with
  | zero => exact hs
  | succ n ih => exact ih hs.portRead

theorem State.canon.portWrites (hs : s.canon ps) {a : Nat} {bs : Bytes} : (s.portWrites a bs).canon ps := by
  induction s, a, bs using State.portWrites.induct with
  | case1 s a b0 b1 b2 b3 rest ih => exact ih hs.regWrite
  | case2 s a => exact hs
  | case3 s a bs h1 h2 => 
    rw [State.portWrites]
    · exact hs.accErr
    all_goals assumption

theorem execCmpRead_canon (hs : s.canon ps) {addr : BitVec 32} {count : Nat} :
    (execCmpRead addr count s).canon ps := by
  unfold execCmpRead
  exact .next (.ite hs.portReads.mk hs)

theorem execCmpWrite_canon (hs : s.canon ps) {addr : BitVec 32} {data : Bytes} :
    (execCmpWrite addr data s).canon ps := .next (hs.accessBy hs.portWrites)

theorem State.canon.respond {r : BitVec 32 × State} (hr : r.2.canon ps) :
    (State.respond r).canon ps := by
  unfold State.respond
  exact hr.mk

theorem State.canon.regRead (hs : s.canon ps) {req : Requester} {a nbytes : Nat} :
    (s.regRead req a nbytes).2.canon ps := by
  unfold State.regRead
  exact State.canon.ite_snd hs.accErr (State.canon.ite_snd hs.portRead hs.busRead)

theorem State.canon.reading (hs : s.canon ps) {req : Requester} {a nbytes : Nat} :
    (s.reading req a nbytes).canon ps := hs.accessBy (.ite (State.canon.respond hs.regRead) hs)

theorem execRegisterRead_canon (hs : s.canon ps) {req : Requester} {addr : BitVec 32} {nbytes : Nat} :
    (execRegisterRead req addr nbytes s).canon ps := by
  unfold execRegisterRead
  exact .next hs.reading

theorem execCaptureRead_canon (hs : s.canon ps) {req : Requester} {ch : Nat} :
    (execCaptureRead req ch s).canon ps := by
  unfold execCaptureRead
  exact onUnit_canon hs.reading

theorem execRegRd_canon (hs : s.canon ps) {c : Nat} {arg : BitVec 15} :
    (execRegRd c arg s).canon ps := by
  unfold execRegRd
  exact onCore_canon (hs.coreRun (fun _ _ hs => by split; exacts [hs.sysReturn, hs.regRead.sysReturn]))

theorem execRegWr_canon (hs : s.canon ps) {c : Nat} {arg : BitVec 15} :
    (execRegWr c arg s).canon ps := by
  unfold execRegWr
  exact onCore_canon (hs.coreRun (fun _ _ hs => by
      split
      · exact hs
      · split
        · exact hs.sysReturn
        · exact hs.regWrite.sysReturn))

end

end Sys2Proof.Machine
end

section
/-!
PROOFS. Every command keeps memory and registers canonical and leaves the waiting commands alone.
-/

namespace Sys2Proof.Machine

-- One proof after another: a side condition by `decide` waits for every proof before it, on a thread of its own.
set_option Elab.async false

/-- Every command, by the row of the table. -/
theorem exec_canon {s : State} {ps : List Instr} (hs : s.canon ps) (i : Instr) : Result.canon (exec i s) ps := by
  cases i with
  | registerWrite => exact execRegisterWrite_canon hs
  | glbAccerrWrite => exact execGlbAccerrWrite_canon hs
  | stitchBoundary => exact execStitchBoundary_canon hs
  | coreSeg => exact execCoreSeg_canon hs
  | selvSeg => exact execSelvSeg_canon hs
  | evtSlot => exact execEvtSlot_canon hs
  | loopGrp => exact execLoopGrp_canon hs
  | qpStart => exact execQpStart_canon hs
  | outApply => exact execOutApply_canon hs
  | retainCommit => exact execRetainCommit_canon hs
  | selftest => exact execSelftest_canon hs
  | budgetExceeded => exact execBudgetExceeded_canon hs
  | endTickOverrun => exact execEndTickOverrun_canon hs
  | canSlotStart => exact execCanSlotStart_canon hs
  | canSlotEnd => exact execCanSlotEnd_canon hs
  | ethSlotStart => exact execEthSlotStart_canon hs
  | nymilSendEntry => exact execNymilSendEntry_canon hs
  | nymilApplyEntry => exact execNymilApplyEntry_canon hs
  | add => exact execAdd_canon hs
  | sub => exact execSub_canon hs
  | shl => exact execShl_canon hs
  | shr => exact execShr_canon hs
  | sar => exact execSar_canon hs
  | mul => exact execMul_canon hs
  | divs => exact execDivs_canon hs
  | divu => exact execDivu_canon hs
  | mods => exact execMods_canon hs
  | modu => exact execModu_canon hs
  | and => exact execAnd_canon hs
  | ior => exact execIor_canon hs
  | xor => exact execXor_canon hs
  | cmplt => exact execCmplt_canon hs
  | cmpltu => exact execCmpltu_canon hs
  | cmpeq => exact execCmpeq_canon hs
  | min => exact execMin_canon hs
  | max => exact execMax_canon hs
  | mulhs => exact execMulhs_canon hs
  | mulhu => exact execMulhu_canon hs
  | gets => exact execGets_canon hs
  | puts => exact execPuts_canon hs
  | addk => exact execAddk_canon hs
  | andk => exact execAndk_canon hs
  | iork => exact execIork_canon hs
  | xork => exact execXork_canon hs
  | cmpltk => exact execCmpltk_canon hs
  | shk => exact execShk_canon hs
  | lih => exact execLih_canon hs
  | fadd => exact execFadd_canon hs
  | fsub => exact execFsub_canon hs
  | fmul => exact execFmul_canon hs
  | fmin => exact execFmin_canon hs
  | fmax => exact execFmax_canon hs
  | fcmpeq => exact execFcmpeq_canon hs
  | fcmplt => exact execFcmplt_canon hs
  | fcmple => exact execFcmple_canon hs
  | fdiv => exact execFdiv_canon hs
  | fneg => exact execFneg_canon hs
  | fabs => exact execFabs_canon hs
  | fsqrt => exact execFsqrt_canon hs
  | fma => exact execFma_canon hs
  | fms => exact execFms_canon hs
  | fnma => exact execFnma_canon hs
  | f64F32 => exact execF64F32_canon hs
  | f32F64 => exact execF32F64_canon hs
  | f64I64 => exact execF64I64_canon hs
  | f32I64 => exact execF32I64_canon hs
  | i64F64t => exact execI64F64t_canon hs
  | i64F32t => exact execI64F32t_canon hs
  | i64F64n => exact execI64F64n_canon hs
  | i64F32n => exact execI64F32n_canon hs
  | l8s => exact execL8s_canon hs
  | l8u => exact execL8u_canon hs
  | l16s => exact execL16s_canon hs
  | l16u => exact execL16u_canon hs
  | l32s => exact execL32s_canon hs
  | l32u => exact execL32u_canon hs
  | l64 => exact execL64_canon hs
  | ls8s => exact execLs8s_canon hs
  | ls8u => exact execLs8u_canon hs
  | ls16s => exact execLs16s_canon hs
  | ls16u => exact execLs16u_canon hs
  | ls32s => exact execLs32s_canon hs
  | ls32u => exact execLs32u_canon hs
  | ls64 => exact execLs64_canon hs
  | s8 => exact execS8_canon hs
  | s16 => exact execS16_canon hs
  | s32 => exact execS32_canon hs
  | s64 => exact execS64_canon hs
  | ss8 => exact execSs8_canon hs
  | ss16 => exact execSs16_canon hs
  | ss32 => exact execSs32_canon hs
  | ss64 => exact execSs64_canon hs
  | bmv => exact execBmv_canon hs
  | bcEq => exact execBcEq_canon hs
  | bcNe => exact execBcNe_canon hs
  | bcLts => exact execBcLts_canon hs
  | bcGes => exact execBcGes_canon hs
  | bcLtu => exact execBcLtu_canon hs
  | bcGeu => exact execBcGeu_canon hs
  | go => exact execGo_canon hs
  | call => exact execCall_canon hs
  | gor => exact execGor_canon hs
  | callr => exact execCallr_canon hs
  | ret => exact execRet_canon hs
  | retb => exact execRetb_canon hs
  | endEntry => exact execEndEntry_canon hs
  | callb => exact execCallb_canon hs
  | illegalEncoding => exact execIllegalEncoding_canon hs
  | sysBad _ _ arg => exact execSysBad_canon hs (_arg := arg)
  | qPut => exact execQPut_canon hs
  | qGet => exact execQGet_canon hs
  | qStat => exact execQStat_canon hs
  | evtRaise => exact execEvtRaise_canon hs
  | evtArg _ arg => exact execEvtArg_canon hs (_arg := arg)
  | regRd => exact execRegRd_canon hs
  | regWr => exact execRegWr_canon hs
  | recRaise => exact execRecRaise_canon hs
  | timeRd _ arg => exact execTimeRd_canon hs (_arg := arg)
  | scrubStep => exact execScrubStep_canon hs
  | scrubLate => exact execScrubLate_canon hs
  | coldRestartToRun => exact execColdRestartToRun_canon hs
  | warmRestartToRun => exact execWarmRestartToRun_canon hs
  | coldRestartToTacking => exact execColdRestartToTacking_canon hs
  | warmRestartToTacking => exact execWarmRestartToTacking_canon hs
  | stop => exact execStop_canon hs
  | leaveTackingForRun => exact execLeaveTackingForRun_canon hs
  | enterTackingFromRun => exact execEnterTackingFromRun_canon hs
  | autoStart => exact execAutoStart_canon hs
  | forceSet => exact execForceSet_canon hs
  | forceRelease => exact execForceRelease_canon hs
  | releaseAll => exact execReleaseAll_canon hs
  | verify => exact execVerify_canon hs
  | activate => exact execActivate_canon hs
  | prepare => exact execPrepare_canon hs
  | commit => exact execCommit_canon hs
  | abort => exact execAbort_canon hs
  | revert => exact execRevert_canon hs
  | clear => exact execClear_canon hs
  | verificationEnd => exact execVerificationEnd_canon hs
  | patternLoadEnd => exact execPatternLoadEnd_canon hs
  | prepareTimeout => exact execPrepareTimeout_canon hs
  | prepareLoadEnd => exact execPrepareLoadEnd_canon hs
  | hold => exact execHold_canon hs
  | close => exact execClose_canon hs
  | swap => exact execSwap_canon hs
  | storeWindowWrite => exact execStoreWindowWrite_canon hs
  | problemWindowWrite => exact execProblemWindowWrite_canon hs
  | arm => exact execArm_canon hs
  | lpeBobStop => exact execLpeBobStop_canon hs
  | bobbinClear => exact execBobbinClear_canon hs
  | qpDisable => exact execQpDisable_canon hs
  | qpEnable => exact execQpEnable_canon hs
  | qpClearWarm => exact execQpClearWarm_canon hs
  | disableCopyEnd => exact execDisableCopyEnd_canon hs
  | solveEnd => exact execSolveEnd_canon hs
  | qpDeadline => exact execQpDeadline_canon hs
  | sweep => exact execSweep_canon hs
  | testPulse => exact execTestPulse_canon hs
  | shortGnd => exact execShortGnd_canon hs
  | testSample => exact execTestSample_canon hs
  | groupTest => exact execGroupTest_canon hs
  | groupTestSample => exact execGroupTestSample_canon hs
  | grpOverload => exact execGrpOverload_canon hs
  | fsLow => exact execFsLow_canon hs
  | fsCutoff => exact execFsCutoff_canon hs
  | fsReturn => exact execFsReturn_canon hs
  | cloReadback => exact execCloReadback_canon hs
  | cloStarted => exact execCloStarted_canon hs
  | compliance => exact execCompliance_canon hs
  | linkLost => exact execLinkLost_canon hs
  | thermal => exact execThermal_canon hs
  | discrepancy => exact execDiscrepancy_canon hs
  | resetHeld => exact execResetHeld_canon hs
  | disconnectDrop => exact execDisconnectDrop_canon hs
  | supplyFail => exact execSupplyFail_canon hs
  | clockVote => exact execClockVote_canon hs
  | monitorSelftest => exact execMonitorSelftest_canon hs
  | confirm => exact execConfirm_canon hs
  | clearHalt => exact execClearHalt_canon hs
  | safCancel => exact execSafCancel_canon hs
  | checkWindowExpired => exact execCheckWindowExpired_canon hs
  | pdCopy => exact execPdCopy_canon hs
  | pdSingle => exact execPdSingle_canon hs
  | pdStale => exact execPdStale_canon hs
  | tpMessage => exact execTpMessage_canon hs
  | tpTimeout => exact execTpTimeout_canon hs
  | tpCrcLimit => exact execTpCrcLimit_canon hs
  | recover => exact execRecover_canon hs
  | clearCounts => exact execClearCounts_canon hs
  | canArbitration => exact execCanArbitration_canon hs
  | canFrameSent => exact execCanFrameSent_canon hs
  | canFrameReceived => exact execCanFrameReceived_canon hs
  | canError => exact execCanError_canon hs
  | busOffRecoveryEnd => exact execBusOffRecoveryEnd_canon hs
  | integrationEnd => exact execIntegrationEnd_canon hs
  | canProtocolExc => exact execCanProtocolExc_canon hs
  | mbLockWrite => exact execMbLockWrite_canon hs
  | ethFrameReceived => exact execEthFrameReceived_canon hs
  | ethLinkUp => exact execEthLinkUp_canon hs
  | ethLinkDown => exact execEthLinkDown_canon hs
  | unscheduledSend => exact execUnscheduledSend_canon hs
  | ethMacsecSecured => exact execEthMacsecSecured_canon hs
  | ethMacsecLost => exact execEthMacsecLost_canon hs
  | ptpSync => exact execPtpSync_canon hs
  | ptpAnnounceTimeout => exact execPtpAnnounceTimeout_canon hs
  | ptpIncrLoWrite => exact execPtpIncrLoWrite_canon hs
  | ptpIncrHiWrite => exact execPtpIncrHiWrite_canon hs
  | step => exact execStep_canon hs
  | rebase => exact execRebase_canon hs
  | ptpCancel => exact execPtpCancel_canon hs
  | ptpTrigger => exact execPtpTrigger_canon hs
  | capture => exact execCapture_canon hs
  | captureRead => exact execCaptureRead_canon hs
  | ownSenseEdge => exact execOwnSenseEdge_canon hs
  | nymilLinkUp => exact execNymilLinkUp_canon hs
  | nymilLinkLost => exact execNymilLinkLost_canon hs
  | nymilPacket => exact execNymilPacket_canon hs
  | epochDiscard => exact execEpochDiscard_canon hs
  | partnerReadyLost => exact execPartnerReadyLost_canon hs
  | pairMessage => exact execPairMessage_canon hs
  | witnessProbeTimeout => exact execWitnessProbeTimeout_canon hs
  | witWaitExpiry => exact execWitWaitExpiry_canon hs
  | isolatedRound => exact execIsolatedRound_canon hs
  | claim => exact execClaim_canon hs
  | release => exact execRelease_canon hs
  | witness => exact execWitness_canon hs
  | eventRaise => exact execEventRaise_canon hs
  | recordCommit => exact execRecordCommit_canon hs
  | timeMark => exact execTimeMark_canon hs
  | timeMarkPeriodic => exact execTimeMarkPeriodic_canon hs
  | panelRender => exact execPanelRender_canon hs
  | panelUpdateStart => exact execPanelUpdateStart_canon hs
  | panelFrame => exact execPanelFrame_canon hs
  | panelUpdateCommit => exact execPanelUpdateCommit_canon hs
  | pnlRailFault => exact execPnlRailFault_canon hs
  | railFaultRetry => exact execRailFaultRetry_canon hs
  | refresh => exact execRefresh_canon hs
  | pnlDisable => exact execPnlDisable_canon hs
  | pnlEnable => exact execPnlEnable_canon hs
  | refreshInterval => exact execRefreshInterval_canon hs
  | watch => exact execWatch_canon hs
  | watchCancel => exact execWatchCancel_canon hs
  | watchPreparation => exact execWatchPreparation_canon hs
  | watchEntry => exact execWatchEntry_canon hs
  | watchSample => exact execWatchSample_canon hs
  | wakePin => exact execWakePin_canon hs
  | wakeAlarm => exact execWakeAlarm_canon hs
  | wakeFeed => exact execWakeFeed_canon hs
  | wake => exact execWake_canon hs
  | wakeRegRetry => exact execWakeRegRetry_canon hs
  | wakeRegReset => exact execWakeRegReset_canon hs
  | refclkLost => exact execRefclkLost_canon hs
  | wakeTimeSet => exact execWakeTimeSet_canon hs
  | watchBrownout => exact execWatchBrownout_canon hs
  | pwrVoteWrite => exact execPwrVoteWrite_canon hs
  | pwrDomainFault => exact execPwrDomainFault_canon hs
  | updBegin => exact execUpdBegin_canon hs
  | updResume => exact execUpdResume_canon hs
  | updFinish => exact execUpdFinish_canon hs
  | updArm => exact execUpdArm_canon hs
  | updDisarm => exact execUpdDisarm_canon hs
  | updActivateNow => exact execUpdActivateNow_canon hs
  | updCancel => exact execUpdCancel_canon hs
  | updVerifyEnd => exact execUpdVerifyEnd_canon hs
  | updBlock => exact execUpdBlock_canon hs
  | enrol => exact execEnrol_canon hs
  | rotate => exact execRotate_canon hs
  | dbgChallenge => exact execDbgChallenge_canon hs
  | dbgUnlock => exact execDbgUnlock_canon hs
  | lock => exact execLock_canon hs
  | cakSet => exact execCakSet_canon hs
  | cakClear => exact execCakClear_canon hs
  | nonceExpiry => exact execNonceExpiry_canon hs
  | authLockoutEnd => exact execAuthLockoutEnd_canon hs
  | sessionConnect => exact execSessionConnect_canon hs
  | trngFail => exact execTrngFail_canon hs
  | feedRise => exact execFeedRise_canon hs
  | resetRelease => exact execResetRelease_canon hs
  | rstPin => exact execRstPin_canon hs
  | feedLoss => exact execFeedLoss_canon hs
  | holdUpEnd => exact execHoldUpEnd_canon hs
  | supervisorWdt => exact execSupervisorWdt_canon hs
  | brownout => exact execBrownout_canon hs
  | vioLost => exact execVioLost_canon hs
  | vioRestored => exact execVioRestored_canon hs
  | settingsWrite => exact execSettingsWrite_canon hs
  | settingsBlank => exact execSettingsBlank_canon hs
  | resetCmd => exact execResetCmd_canon hs
  | settingsWriteEnd => exact execSettingsWriteEnd_canon hs
  | cmpRead => exact execCmpRead_canon hs
  | cmpWrite => exact execCmpWrite_canon hs
  | inPost => exact execInPost_canon hs
  | outPost => exact execOutPost_canon hs
  | inTake => exact execInTake_canon hs
  | outTake => exact execOutTake_canon hs
  | tempHigh => exact execTempHigh_canon hs
  | tempLimit => exact execTempLimit_canon hs
  | thermalShutdown => exact execThermalShutdown_canon hs
  | thermalRestart => exact execThermalRestart_canon hs
  | loopbackStart => exact execLoopbackStart_canon hs
  | loopbackStop => exact execLoopbackStop_canon hs
  | loopbackItem => exact execLoopbackItem_canon hs
  | eccInject => exact execEccInject_canon hs
  | tapInstruction => exact execTapInstruction_canon hs
  | ptestEntry => exact execPtestEntry_canon hs
  | ptAuth => exact execPtAuth_canon hs
  | ptFlash => exact execPtFlash_canon hs
  | registerRead => exact execRegisterRead_canon hs
  | testCycleEnd => exact execTestCycleEnd_canon hs
  | rtcCrystalStopped => exact execRtcCrystalStopped_canon hs
  | ptestAuthTimeout => exact execPtestAuthTimeout_canon hs
  | tempBelowThreshold => exact execTempBelowThreshold_canon hs
  | ptpMessageInterval => exact execPtpMessageInterval_canon hs
  | domainReportsOn => exact execDomainReportsOn_canon hs

/-- A state is canonical with the commands that wait in it. -/
theorem State.canon_of_wf {s : State} (h : s.storesWf = true) : s.canon s.pending := ⟨rfl, h⟩

theorem storesWf_of_exec {s t : State} {i : Instr} (h : s.storesWf = true) (hexec : exec i s = .next t) :
    t.storesWf = true ∧ t.pending = s.pending := (exec_canon (State.canon_of_wf h) i t hexec).symm

/-- Settles O60: the dispatch to the rows, and a step that takes the front of the queue first. -/
theorem everyCommandKeepsCanonicalForm : Obligations.EveryCommandKeepsCanonicalForm := by
  intro s t h
  refine ⟨fun i hexec => storesWf_of_exec h hexec, fun hstep => ?_⟩
  cases hwait : s.pending with
  | nil =>
    rw [step_of_nil hwait] at hstep
    obtain rfl := Host.Outcome.next.inj hstep
    exact ⟨h, hwait⟩
  | cons c rest =>
    rw [step_of_cons hwait] at hstep
    exact storesWf_of_exec (s := { s with pending := rest }) h hstep

/-- Settles O59: a core's instruction is a command. -/
theorem stitchCodeKeepsCanonicalForm : Obligations.StitchCodeKeepsCanonicalForm := by
  intro s t i _ _ h
  refine ⟨fun hexec => storesWf_of_exec h hexec, fun rest hwait hstep => ?_⟩
  rw [step_of_cons hwait] at hstep
  exact storesWf_of_exec (s := { s with pending := rest }) h hstep

end Sys2Proof.Machine
end

section
/-!
PROOFS. Frames, operation by operation: how a state that keeps all but some parts goes on to do so.
-/

namespace Sys2Proof.Machine

-- One proof after another: a side condition by `decide` waits for every proof before it, on a thread of its own.
set_option Elab.async false

section
variable {s₀ s t : State} {l : List Part}

theorem State.keeps.cond {c : Prop} [Decidable c] (hs : s₀.keeps s l) (ht : s₀.keeps t l) : s₀.keeps (if c then s else t) l := by
  split_ifs
  · exact hs
  · exact ht

theorem State.keeps_cond_snd {α : Type} {c : Prop} [Decidable c] {x y : α × State} (hx : s₀.keeps x.2 l) (hy : s₀.keeps y.2 l) :
    s₀.keeps (if c then x else y).2 l := by
  split_ifs
  · exact hx
  · exact hy

theorem State.keeps_cond_snd_snd {α β : Type} {c : Prop} [Decidable c] {x y : α × β × State} (hx : s₀.keeps x.2.2 l)
    (hy : s₀.keeps y.2.2 l) : s₀.keeps (if c then x else y).2.2 l := by
  split_ifs
  · exact hx
  · exact hy

theorem State.keeps.fold {α : Type} {f : State → α → State} {xs : List α} (hf : ∀ t x, s₀.keeps t l → s₀.keeps (f t x) l)
    (hs : s₀.keeps s l) : s₀.keeps (xs.foldl f s) l := by
  induction xs generalizing s with
  | nil => exact hs
  | cons x xs ih => exact ih (hf s x hs)

/-- A fold that carries a value beside the state. -/
theorem State.keeps_fold_snd {α β : Type} {f : β × State → α → β × State} {xs : List α} {x : β × State}
    (hf : ∀ x y, s₀.keeps x.2 l → s₀.keeps (f x y).2 l) (hx : s₀.keeps x.2 l) : s₀.keeps (xs.foldl f x).2 l := by
  induction xs generalizing x with
  | nil => exact hx
  | cons y xs ih => exact ih (hf x y hx)

/-- A fold whose state comes first. -/
theorem State.keeps_fold_fst {α β : Type} {f : State × β → α → State × β} {xs : List α} {x : State × β}
    (hf : ∀ x y, s₀.keeps x.1 l → s₀.keeps (f x y).1 l) (hx : s₀.keeps x.1 l) : s₀.keeps (xs.foldl f x).1 l := by
  induction xs generalizing x with
  | nil => exact hx
  | cons y xs ih => exact ih (hf x y hx)

theorem State.keeps_snd {α : Type} {x : α × State} {a : α} (heq : x = (a, s)) (h : s₀.keeps x.2 l) : s₀.keeps s l := by
  subst heq
  exact h

theorem State.keeps_snd_snd {α β : Type} {x : α × β × State} {a : α} {b : β} (heq : x = (a, b, s)) (h : s₀.keeps x.2.2 l) :
    s₀.keeps s l := by
  subst heq
  exact h

/-- Every part but one. -/
def Part.but (q : Part) : List Part :=
  [.pending, .station, .regs, .mem, .bus, .clock, .sched, .pat, .cores, .queues, .wsig, .ecc, .tasks, .evr, .saf, .fio, .lpe,
    .qps, .net, .can, .ptp, .pair, .pnl, .pwr, .upd, .sec, .rst, .tmp, .dgt, .free].filter (· ≠ q)

theorem State.keeps.same (h : s₀.keeps s l) (q : Part) (hq : q ∉ l := by decide) : q.same s₀ s := h q hq

/-! ### One part at a time -/

theorem State.keeps.setR (hs : s₀.keeps s l) {a : Nat} {w : BitVec 32} (hl : [.regs] ⊆ l := by decide) :
    s₀.keeps (s.setR a w) l := hs.step (s.alters_setR a w) hl

theorem State.keeps.setF (hs : s₀.keeps s l) {f : Fld} {v : Nat} (hl : [.regs] ⊆ l := by decide) : s₀.keeps (s.setF f v) l :=
  hs.step (s.alters_setF f v) hl

theorem State.keeps.wrBytes (hs : s₀.keeps s l) {a : Nat} {bs : Bytes} (hl : [.mem] ⊆ l := by decide) :
    s₀.keeps (s.wrBytes a bs) l := hs.step (s.alters_wrBytes a bs) hl

theorem State.keeps.withStation (hs : s₀.keeps s l) {x : StationState} (hl : [.station] ⊆ l := by decide) :
    s₀.keeps { s with station := x } l := hs.step (s.alters_station x) hl

theorem State.keeps.withBus (hs : s₀.keeps s l) {x : Bus} (hl : [.bus] ⊆ l := by decide) :
    s₀.keeps { s with bus := x } l := hs.step (s.alters_bus x) hl

theorem State.keeps.withClock (hs : s₀.keeps s l) {x : Clock} (hl : [.clock] ⊆ l := by decide) :
    s₀.keeps { s with clock := x } l := hs.step (s.alters_clock x) hl

theorem State.keeps.withSched (hs : s₀.keeps s l) {x : Sched} (hl : [.sched] ⊆ l := by decide) :
    s₀.keeps { s with sched := x } l := hs.step (s.alters_sched x) hl

theorem State.keeps.withPat (hs : s₀.keeps s l) {x : PatState} (hl : [.pat] ⊆ l := by decide) :
    s₀.keeps { s with pat := x } l := hs.step (s.alters_pat x) hl

theorem State.keeps.withWsig (hs : s₀.keeps s l) {x : Store WSig} (hl : [.wsig] ⊆ l := by decide) :
    s₀.keeps { s with wsig := x } l := hs.step (s.alters_wsig x) hl

theorem State.keeps.withEcc (hs : s₀.keeps s l) {x : EccState} (hl : [.ecc] ⊆ l := by decide) :
    s₀.keeps { s with ecc := x } l := hs.step (s.alters_ecc x) hl

theorem State.keeps.withTasks (hs : s₀.keeps s l) {x : Tasks} (hl : [.tasks] ⊆ l := by decide) :
    s₀.keeps { s with tasks := x } l := hs.step (s.alters_tasks x) hl

theorem State.keeps.withEvr (hs : s₀.keeps s l) {x : Recorder} (hl : [.evr] ⊆ l := by decide) :
    s₀.keeps { s with evr := x } l := hs.step (s.alters_evr x) hl

theorem State.keeps.withSaf (hs : s₀.keeps s l) {x : Safety} (hl : [.saf] ⊆ l := by decide) :
    s₀.keeps { s with saf := x } l := hs.step (s.alters_saf x) hl

theorem State.keeps.withFio (hs : s₀.keeps s l) {x : FieldIo} (hl : [.fio] ⊆ l := by decide) :
    s₀.keeps { s with fio := x } l := hs.step (s.alters_fio x) hl

theorem State.keeps.withLpe (hs : s₀.keeps s l) {x : LoopEng} (hl : [.lpe] ⊆ l := by decide) :
    s₀.keeps { s with lpe := x } l := hs.step (s.alters_lpe x) hl

theorem State.keeps.withQps (hs : s₀.keeps s l) {x : Solver} (hl : [.qps] ⊆ l := by decide) :
    s₀.keeps { s with qps := x } l := hs.step (s.alters_qps x) hl

theorem State.keeps.withNet (hs : s₀.keeps s l) {x : Network} (hl : [.net] ⊆ l := by decide) :
    s₀.keeps { s with net := x } l := hs.step (s.alters_net x) hl

theorem State.keeps.withCan (hs : s₀.keeps s l) {x : CanNet} (hl : [.can] ⊆ l := by decide) :
    s₀.keeps { s with can := x } l := hs.step (s.alters_can x) hl

theorem State.keeps.withPtp (hs : s₀.keeps s l) {x : Ptp} (hl : [.ptp] ⊆ l := by decide) :
    s₀.keeps { s with ptp := x } l := hs.step (s.alters_ptp x) hl

theorem State.keeps.withPair (hs : s₀.keeps s l) {x : Pair} (hl : [.pair] ⊆ l := by decide) :
    s₀.keeps { s with pair := x } l := hs.step (s.alters_pair x) hl

theorem State.keeps.withPnl (hs : s₀.keeps s l) {x : Panel} (hl : [.pnl] ⊆ l := by decide) :
    s₀.keeps { s with pnl := x } l := hs.step (s.alters_pnl x) hl

theorem State.keeps.withPwr (hs : s₀.keeps s l) {x : Power} (hl : [.pwr] ⊆ l := by decide) :
    s₀.keeps { s with pwr := x } l := hs.step (s.alters_pwr x) hl

theorem State.keeps.withUpd (hs : s₀.keeps s l) {x : Update} (hl : [.upd] ⊆ l := by decide) :
    s₀.keeps { s with upd := x } l := hs.step (s.alters_upd x) hl

theorem State.keeps.withSec (hs : s₀.keeps s l) {x : Security} (hl : [.sec] ⊆ l := by decide) :
    s₀.keeps { s with sec := x } l := hs.step (s.alters_sec x) hl

theorem State.keeps.withRst (hs : s₀.keeps s l) {x : ResetState} (hl : [.rst] ⊆ l := by decide) :
    s₀.keeps { s with rst := x } l := hs.step (s.alters_rst x) hl

theorem State.keeps.withTmp (hs : s₀.keeps s l) {x : Thermal} (hl : [.tmp] ⊆ l := by decide) :
    s₀.keeps { s with tmp := x } l := hs.step (s.alters_tmp x) hl

theorem State.keeps.withDgt (hs : s₀.keeps s l) {x : Diagnosis} (hl : [.dgt] ⊆ l := by decide) :
    s₀.keeps { s with dgt := x } l := hs.step (s.alters_dgt x) hl

theorem State.keeps.withFreecount (hs : s₀.keeps s l) {x : Nat} (hl : [.free] ⊆ l := by decide) :
    s₀.keeps { s with freeCount := x } l := hs.step (s.alters_freeCount x) hl

theorem State.keeps.setCore (hs : s₀.keeps s l) {c : Nat} {x : Core} (hl : [.cores] ⊆ l := by decide) :
    s₀.keeps (s.setCore c x) l := hs.step (s.alters_setCore c x) hl

theorem State.keeps.setQueue (hs : s₀.keeps s l) {q : Nat} {x : QueueState} (hl : [.queues] ⊆ l := by decide) :
    s₀.keeps (s.setQueue q x) l := hs.step (s.alters_setQueue q x) hl

end

end Sys2Proof.Machine
end

section
/-!
PROOFS. Frames of registers, events, the monitor, slot entries and ECC.
-/

namespace Sys2Proof.Machine

-- One proof after another: a side condition by `decide` waits for every proof before it, on a thread of its own.
set_option Elab.async false

section
variable {s₀ s : State} {ps : List Part}

theorem State.keeps.advanceTo (hs : s₀.keeps s ps) {ns : Nat} (hl : [.clock] ⊆ ps := by decide) :
    s₀.keeps (s.advanceTo ns) ps := by
  refine hs.next ?_ hl
  replace hs := s.keeps_refl [.clock]
  unfold State.advanceTo
  exact hs.withClock

theorem State.keeps.atTick (hs : s₀.keeps s ps) {k : Nat} (hl : [.clock] ⊆ ps := by decide) :
    s₀.keeps (s.atTick k) ps := by
  refine hs.next ?_ hl
  replace hs := s.keeps_refl [.clock]
  unfold State.atTick
  exact hs.advanceTo

theorem State.keeps.addSat (hs : s₀.keeps s ps) {f : Fld} {n : Nat} (hl : [.regs] ⊆ ps := by decide) :
    s₀.keeps (s.addSat f n) ps := by
  refine hs.next ?_ hl
  replace hs := s.keeps_refl [.regs]
  unfold State.addSat
  exact hs.setF

theorem State.keeps.incSat (hs : s₀.keeps s ps) {f : Fld} (hl : [.regs] ⊆ ps := by decide) :
    s₀.keeps (s.incSat f) ps := by
  refine hs.next ?_ hl
  replace hs := s.keeps_refl [.regs]
  unfold State.incSat
  exact hs.addSat

theorem State.keeps.incWrap (hs : s₀.keeps s ps) {f : Fld} (hl : [.regs] ⊆ ps := by decide) :
    s₀.keeps (s.incWrap f) ps := by
  refine hs.next ?_ hl
  replace hs := s.keeps_refl [.regs]
  unfold State.incWrap
  exact hs.setF

theorem State.keeps.decF (hs : s₀.keeps s ps) {f : Fld} (hl : [.regs] ⊆ ps := by decide) :
    s₀.keeps (s.decF f) ps := by
  refine hs.next ?_ hl
  replace hs := s.keeps_refl [.regs]
  unfold State.decF
  exact hs.setF

theorem State.keeps.setB (hs : s₀.keeps s ps) {f : Fld} {b : Bool} (hl : [.regs] ⊆ ps := by decide) :
    s₀.keeps (s.setB f b) ps := by
  refine hs.next ?_ hl
  replace hs := s.keeps_refl [.regs]
  unfold State.setB
  exact hs.setF

theorem State.keeps.setSuppressed (hs : s₀.keeps s ps) {code n : Nat} (hl : [.evr] ⊆ ps := by decide) :
    s₀.keeps (s.setSuppressed code n) ps := by
  refine hs.next ?_ hl
  replace hs := s.keeps_refl [.evr]
  unfold State.setSuppressed
  exact hs.withEvr

theorem State.keeps.stage (hs : s₀.keeps s ps) {code : Nat} {e : Staged} (hl : [.evr] ⊆ ps := by decide) :
    s₀.keeps (s.stage code e) ps := by
  refine hs.next ?_ hl
  replace hs := s.keeps_refl [.evr]
  unfold State.stage
  exact hs.withEvr

theorem State.keeps.raiseCls (hs : s₀.keeps s ps) {code source cls : Nat} {payload : List Nat} (hl : [.regs, .evr] ⊆ ps
    := by decide) :
    s₀.keeps (s.raiseCls code source cls payload) ps := by
  refine hs.next ?_ hl
  replace hs := s.keeps_refl [.regs, .evr]
  unfold State.raiseCls
  exact .cond hs.incSat.withEvr (.cond hs.setSuppressed hs.stage.setSuppressed.setF)

theorem State.keeps.raise (hs : s₀.keeps s ps) {code source : Nat} {payload : List Nat} (hl : [.regs, .evr] ⊆ ps := by
    decide) :
    s₀.keeps (s.raise code source payload) ps := by
  refine hs.next ?_ hl
  replace hs := s.keeps_refl [.regs, .evr]
  unfold State.raise
  exact hs.raiseCls

theorem State.keeps.updateModOk (hs : s₀.keeps s ps) (hl : [.regs] ⊆ ps := by decide) :
    s₀.keeps s.updateModOk ps := by
  refine hs.next ?_ hl
  replace hs := s.keeps_refl [.regs]
  unfold State.updateModOk
  exact hs.setB

theorem State.keeps.moduleWide (hs : s₀.keeps s ps) {c : HaltCause} (hl : [.regs, .saf] ⊆ ps := by decide) :
    s₀.keeps (s.moduleWide c) ps := by
  refine hs.next ?_ hl
  replace hs := s.keeps_refl [.regs, .saf]
  unfold State.moduleWide
  exact hs.withSaf.updateModOk

theorem State.keeps.setFnState (hs : s₀.keeps s ps) {f st : Nat} (hl : [.regs] ⊆ ps := by decide) :
    s₀.keeps (s.setFnState f st) ps := by
  refine hs.next ?_ hl
  replace hs := s.keeps_refl [.regs]
  unfold State.setFnState
  exact hs.setF.setF

theorem State.keeps.faultFn (hs : s₀.keeps s ps) {c : FnCause} {f : Nat} (hl : [.regs, .evr, .saf] ⊆ ps := by decide) :
    s₀.keeps (s.faultFn c f) ps := by
  refine hs.next ?_ hl
  replace hs := s.keeps_refl [.regs, .evr, .saf]
  unfold State.faultFn
  exact .cond hs.withSaf.setFnState.setF hs.withSaf.setFnState.setF.raise

theorem State.keeps.faultFns (hs : s₀.keeps s ps) {c : FnCause} {fs : List Nat} (hl : [.regs, .evr, .saf] ⊆ ps := by
    decide) :
    s₀.keeps (s.faultFns c fs) ps := by
  refine hs.next ?_ hl
  replace hs := s.keeps_refl [.regs, .evr, .saf]
  unfold State.faultFns
  exact .fold (fun _ _ hs => hs.faultFn) hs

theorem State.keeps.eccCorrected (hs : s₀.keeps s ps) {array index : Nat} (hl : [.regs, .ecc, .evr] ⊆ ps := by decide) :
    s₀.keeps (s.eccCorrected array index) ps := by
  refine hs.next ?_ hl
  replace hs := s.keeps_refl [.regs, .ecc, .evr]
  unfold State.eccCorrected
  exact (State.keeps.cond hs.incSat.withEcc hs.incSat.incSat).raise

theorem State.keeps.eccUncorrectable (hs : s₀.keeps s ps) {array index finder : Nat} (hl : [.regs, .evr, .saf] ⊆ ps :=
    by decide) :
    s₀.keeps (s.eccUncorrectable array index finder) ps := by
  refine hs.next ?_ hl
  replace hs := s.keeps_refl [.regs, .evr, .saf]
  unfold State.eccUncorrectable
  exact .cond (State.keeps.cond hs.incSat hs.incSat.setF.setF.setF.setF).raiseCls.moduleWide (State.keeps.cond
    hs.incSat hs.incSat.setF.setF.setF.setF).raiseCls

theorem State.keeps.eccReadWord (hs : s₀.keeps s ps) {a finder : Nat} (hl : [.regs, .ecc, .evr, .saf] ⊆ ps := by
    decide) :
    s₀.keeps (s.eccReadWord a finder).2 ps := by
  refine hs.next ?_ hl
  replace hs := s.keeps_refl [.regs, .ecc, .evr, .saf]
  unfold State.eccReadWord
  split
  · exact hs
  · split
    · exact hs
    · exact hs.eccCorrected
    · exact hs.eccUncorrectable

theorem State.keeps.eccRead (hs : s₀.keeps s ps) {a n finder : Nat} (hl : [.regs, .ecc, .evr, .saf] ⊆ ps := by decide) :
    s₀.keeps (s.eccRead a n finder).2 ps := by
  refine hs.next ?_ hl
  replace hs := s.keeps_refl [.regs, .ecc, .evr, .saf]
  unfold State.eccRead
  exact State.keeps_fold_snd (fun _ _ hr => State.keeps_cond_snd hr hr.eccReadWord) hs

theorem State.keeps.engRead (hs : s₀.keeps s ps) {a n : Nat} (hl : [.regs, .ecc, .evr, .saf] ⊆ ps := by decide) :
    s₀.keeps (s.engRead a n) ps := by
  refine hs.next ?_ hl
  replace hs := s.keeps_refl [.regs, .ecc, .evr, .saf]
  unfold State.engRead
  exact hs.eccRead

theorem State.keeps.setMark (hs : s₀.keeps s ps) {array index : Nat} {m : EccMark} (hl : [.ecc] ⊆ ps := by decide) :
    s₀.keeps (s.setMark array index m) ps := by
  refine hs.next ?_ hl
  replace hs := s.keeps_refl [.ecc]
  unfold State.setMark
  exact hs.withEcc

theorem State.keeps.eccClearWords (hs : s₀.keeps s ps) {a n : Nat} (hl : [.ecc] ⊆ ps := by decide) :
    s₀.keeps (s.eccClearWords a n) ps := by
  refine hs.next ?_ hl
  replace hs := s.keeps_refl [.ecc]
  unfold State.eccClearWords
  exact .fold (fun _ _ hs => by split; exacts [hs, hs.setMark]) hs

theorem State.keeps.load (hs : s₀.keeps s ps) {a : Nat} {bs : Bytes} (hl : [.mem, .ecc] ⊆ ps := by decide) :
    s₀.keeps (s.load a bs) ps := by
  refine hs.next ?_ hl
  replace hs := s.keeps_refl [.mem, .ecc]
  unfold State.load
  exact hs.wrBytes.eccClearWords

theorem State.keeps.storePart (hs : s₀.keeps s ps) {a : Nat} {bs : Bytes} (hl : [.regs, .mem, .ecc, .evr, .saf] ⊆ ps :=
    by decide) :
    s₀.keeps (s.storePart a bs) ps := by
  refine hs.next ?_ hl
  replace hs := s.keeps_refl [.regs, .mem, .ecc, .evr, .saf]
  unfold State.storePart
  refine .cond hs.load ?_
  split
  · next heq =>
      exact (State.keeps_snd heq hs.eccReadWord)
  · next heq =>
      exact (State.keeps_snd heq hs.eccReadWord).wrBytes.eccClearWords

theorem State.keeps.engStore (hs : s₀.keeps s ps) {a : Nat} {bs : Bytes} (hl : [.regs, .mem, .ecc, .evr, .saf] ⊆ ps :=
    by decide) :
    s₀.keeps (s.engStore a bs) ps := by
  refine hs.next ?_ hl
  replace hs := s.keeps_refl [.regs, .mem, .ecc, .evr, .saf]
  unfold State.engStore
  exact .cond hs (.fold (fun _ _ hs => hs.storePart) hs)

theorem State.keeps.queuePut (hs : s₀.keeps s ps) {p : Pattern} {q : Nat} {e : Bytes} (hl : [.mem, .queues] ⊆ ps := by
    decide) :
    s₀.keeps (s.queuePut p q e).2 ps := by
  refine hs.next ?_ hl
  replace hs := s.keeps_refl [.mem, .queues]
  unfold State.queuePut
  exact State.keeps_cond_snd hs.wrBytes.setQueue hs.setQueue

theorem State.keeps.queueStore (hs : s₀.keeps s ps) {p : Pattern} {q : Nat} {e : Bytes} (hl : [.mem, .queues, .ecc] ⊆
    ps := by decide) :
    s₀.keeps (s.queueStore p q e).2 ps := by
  refine hs.next ?_ hl
  replace hs := s.keeps_refl [.mem, .queues, .ecc]
  unfold State.queueStore
  exact State.keeps_cond_snd hs.queuePut.eccClearWords hs.queuePut

theorem State.keeps.queueGet (hs : s₀.keeps s ps) {p : Pattern} {q : Nat} (hl : [.queues] ⊆ ps := by decide) :
    s₀.keeps (s.queueGet p q).2 ps := by
  refine hs.next ?_ hl
  replace hs := s.keeps_refl [.queues]
  unfold State.queueGet
  exact State.keeps_cond_snd hs hs.setQueue

theorem State.keeps.queueTake (hs : s₀.keeps s ps) {p : Pattern} {q : Nat} (hl : [.regs, .queues, .ecc, .evr, .saf] ⊆
    ps := by decide) :
    s₀.keeps (s.queueTake p q).2 ps := by
  refine hs.next ?_ hl
  replace hs := s.keeps_refl [.regs, .queues, .ecc, .evr, .saf]
  unfold State.queueTake
  exact State.keeps_cond_snd hs hs.engRead.queueGet

theorem State.keeps.setAgent (hs : s₀.keeps s ps) {a : Nat} {x : Agent} (hl : [.sched] ⊆ ps := by decide) :
    s₀.keeps (s.setAgent a x) ps := by
  refine hs.next ?_ hl
  replace hs := s.keeps_refl [.sched]
  unfold State.setAgent
  exact hs.withSched

theorem State.keeps.setBusy (hs : s₀.keeps s ps) {a : Nat} {b : Bool} (hl : [.regs] ⊆ ps := by decide) :
    s₀.keeps (s.setBusy a b) ps := by
  refine hs.next ?_ hl
  replace hs := s.keeps_refl [.regs]
  unfold State.setBusy
  exact .cond hs.setF (.cond hs.setF hs)

theorem State.keeps.postHeartbeat (hs : s₀.keeps s ps) {a : Nat} (hl : [.sched] ⊆ ps := by decide) :
    s₀.keeps (s.postHeartbeat a) ps := by
  refine hs.next ?_ hl
  replace hs := s.keeps_refl [.sched]
  unfold State.postHeartbeat
  exact hs.setAgent

theorem State.keeps.finishEntry (hs : s₀.keeps s ps) {a k : Nat} (hl : [.regs, .sched] ⊆ ps := by decide) :
    s₀.keeps (s.finishEntry a k) ps := by
  refine hs.next ?_ hl
  replace hs := s.keeps_refl [.regs, .sched]
  unfold State.finishEntry
  exact .cond hs.setAgent.setBusy.postHeartbeat hs.setAgent.setBusy

theorem State.keeps.passEntry (hs : s₀.keeps s ps) {a k : Nat} (hl : [.sched] ⊆ ps := by decide) :
    s₀.keeps (s.passEntry a k) ps := by
  refine hs.next ?_ hl
  replace hs := s.keeps_refl [.sched]
  unfold State.passEntry
  exact .cond hs.setAgent.postHeartbeat hs.setAgent

theorem State.keeps.beginEntry (hs : s₀.keeps s ps) {a : Nat} {r : Running} (hl : [.regs, .sched] ⊆ ps := by decide) :
    s₀.keeps (s.beginEntry a r) ps := by
  refine hs.next ?_ hl
  replace hs := s.keeps_refl [.regs, .sched]
  unfold State.beginEntry
  exact hs.setAgent.setBusy

theorem State.keeps.countOverrun (hs : s₀.keeps s ps) {a cause : Nat} {r : Running} (hl : [.regs, .sched] ⊆ ps := by
    decide) :
    s₀.keeps (s.countOverrun a cause r) ps := by
  refine hs.next ?_ hl
  replace hs := s.keeps_refl [.regs, .sched]
  unfold State.countOverrun
  exact .cond hs.incSat.incSat.setAgent.withSched.setF.setF.setF.setF.setF.setF.setF.setF hs.incSat.incSat.setAgent

theorem State.keeps.cutTask (hs : s₀.keeps s ps) {k : Nat} (hl : [.regs, .tasks, .evr] ⊆ ps := by decide) :
    s₀.keeps (s.cutTask k) ps := by
  refine hs.next ?_ hl
  replace hs := s.keeps_refl [.regs, .tasks, .evr]
  unfold State.cutTask
  exact .cond hs.incSat.withTasks.setF.raise hs.incSat.withTasks

theorem State.keeps.setTriggers (hs : s₀.keeps s ps) {k : Nat} {l : List Trigger} (hl : [.regs, .tasks] ⊆ ps := by
    decide) :
    s₀.keeps (s.setTriggers k l) ps := by
  refine hs.next ?_ hl
  replace hs := s.keeps_refl [.regs, .tasks]
  unfold State.setTriggers
  exact hs.setF.withTasks

theorem State.keeps.postAt (hs : s₀.keeps s ps) {k code arg tick : Nat} (hl : [.regs, .tasks, .evr] ⊆ ps := by decide) :
    s₀.keeps (s.postAt k code arg tick).2 ps := by
  refine hs.next ?_ hl
  replace hs := s.keeps_refl [.regs, .tasks, .evr]
  unfold State.postAt
  exact State.keeps_cond_snd hs.setTriggers hs.incSat.raise

theorem State.keeps.postTriggerAt (hs : s₀.keeps s ps) {code arg tick : Nat} (hl : [.regs, .tasks, .evr] ⊆ ps := by
    decide) :
    s₀.keeps (s.postTriggerAt code arg tick) ps := by
  refine hs.next ?_ hl
  replace hs := s.keeps_refl [.regs, .tasks, .evr]
  unfold State.postTriggerAt
  exact .fold (fun _ _ hs => hs.postAt) hs

theorem State.keeps.fresh (hs : s₀.keeps s ps) (hl : [.free] ⊆ ps := by decide) :
    s₀.keeps s.fresh.2 ps := by
  refine hs.next ?_ hl
  replace hs := s.keeps_refl [.free]
  unfold State.fresh
  exact hs.withFreecount

theorem State.keeps.setSig (hs : s₀.keeps s ps) {seg : Nat} {runB : Bool} {x : WSig} (hl : [.wsig] ⊆ ps := by decide) :
    s₀.keeps (s.setSig seg runB x) ps := by
  refine hs.next ?_ hl
  replace hs := s.keeps_refl [.wsig]
  unfold State.setSig
  exact hs.withWsig

theorem State.keeps.setSelvValid (hs : s₀.keeps s ps) {seg : Nat} {v : Bool} (hl : [.sched] ⊆ ps := by decide) :
    s₀.keeps (s.setSelvValid seg v) ps := by
  refine hs.next ?_ hl
  replace hs := s.keeps_refl [.sched]
  unfold State.setSelvValid
  exact hs.withSched

theorem State.keeps.captureMismatch (hs : s₀.keeps s ps) {seg at_ reason : Nat} {a b : WSig} (hl : [.regs, .sched] ⊆ ps
    := by decide) :
    s₀.keeps (s.captureMismatch seg at_ reason a b) ps := by
  refine hs.next ?_ hl
  replace hs := s.keeps_refl [.regs, .sched]
  unfold State.captureMismatch
  exact .cond hs.withSched.setF.setF.setF.setF.setF.setF.setF hs

theorem State.keeps.selvFails (hs : s₀.keeps s ps) {seg : Nat} (hl : [.sched] ⊆ ps := by decide) :
    s₀.keeps (s.selvFails seg) ps := by
  refine hs.next ?_ hl
  replace hs := s.keeps_refl [.sched]
  unfold State.selvFails
  exact hs.withSched

theorem State.keeps.compareRuns (hs : s₀.keeps s ps) {seg at_ : Nat} (hl : [.regs, .sched, .evr, .saf] ⊆ ps := by
    decide) :
    s₀.keeps (s.compareRuns seg at_) ps := by
  refine hs.next ?_ hl
  replace hs := s.keeps_refl [.regs, .sched, .evr, .saf]
  unfold State.compareRuns
  exact .cond hs.incWrap.setSelvValid (.cond hs.captureMismatch.setSelvValid.selvFails.raiseCls
    hs.captureMismatch.setSelvValid.selvFails.raise.faultFns)

theorem State.keeps.finishRun (hs : s₀.keeps s ps) {seg : Nat} {runB aborted degraded : Bool} {at_ : Nat} (hl : [.regs,
    .sched, .wsig, .evr, .saf] ⊆ ps := by decide) :
    s₀.keeps (s.finishRun seg runB aborted degraded at_) ps := by
  refine hs.next ?_ hl
  replace hs := s.keeps_refl [.regs, .sched, .wsig, .evr, .saf]
  unfold State.finishRun
  exact .cond hs.setSig.compareRuns hs.setSig

end

end Sys2Proof.Machine
end

section
/-!
PROOFS. Frames of the loop engine's samples.
-/

namespace Sys2Proof.Machine

-- One proof after another: a side condition by `decide` waits for every proof before it, on a thread of its own.
set_option Elab.async false

section
variable {s₀ s : State} {ps : List Part}

theorem State.keeps.setLpCh (hs : s₀.keeps s ps) {c : Nat} {x : LoopCh} (hl : [.lpe] ⊆ ps := by decide) :
    s₀.keeps (s.setLpCh c x) ps := by
  refine hs.next ?_ hl
  replace hs := s.keeps_refl [.lpe]
  unfold State.setLpCh
  exact hs.withLpe

theorem State.keeps.lpLeftOut (hs : s₀.keeps s ps) {c : Nat} (hl : [.lpe] ⊆ ps := by decide) :
    s₀.keeps (s.lpLeftOut c) ps := by
  refine hs.next ?_ hl
  replace hs := s.keeps_refl [.lpe]
  unfold State.lpLeftOut
  exact .cond hs.setLpCh hs

theorem State.keeps.lpRead (hs : s₀.keeps s ps) {c : Nat} {ws : List Nat} (hl : [.regs, .ecc, .evr, .saf] ⊆ ps := by
    decide) :
    s₀.keeps (s.lpRead c ws).2 ps := by
  refine hs.next ?_ hl
  replace hs := s.keeps_refl [.regs, .ecc, .evr, .saf]
  unfold State.lpRead
  exact State.keeps_fold_snd (fun _ _ hr => State.keeps_cond_snd hr (by
      split
      · next heq =>
          exact (State.keeps_snd heq hr.eccReadWord)
      · next heq =>
          exact (State.keeps_snd heq hr.eccReadWord))) hs

theorem State.keeps.setLpWord (hs : s₀.keeps s ps) {c off v : Nat} (hl : [.regs, .mem, .ecc, .evr, .saf] ⊆ ps := by
    decide) :
    s₀.keeps (s.setLpWord c off v) ps := by
  refine hs.next ?_ hl
  replace hs := s.keeps_refl [.regs, .mem, .ecc, .evr, .saf]
  unfold State.setLpWord
  exact hs.engStore

theorem State.keeps.setLpMode (hs : s₀.keeps s ps) {c mode bank : Nat} (hl : [.regs, .mem, .ecc, .evr, .saf] ⊆ ps := by
    decide) :
    s₀.keeps (s.setLpMode c mode bank) ps := by
  refine hs.next ?_ hl
  replace hs := s.keeps_refl [.regs, .mem, .ecc, .evr, .saf]
  unfold State.setLpMode
  exact hs.setF.setF.setLpWord

theorem State.keeps.lpFault (hs : s₀.keeps s ps) {c word : Nat} (hl : [.regs, .mem, .ecc, .evr, .saf] ⊆ ps := by
    decide) :
    s₀.keeps (s.lpFault c word) ps := by
  refine hs.next ?_ hl
  replace hs := s.keeps_refl [.regs, .mem, .ecc, .evr, .saf]
  unfold State.lpFault
  exact (State.keeps.cond hs.setF hs.setLpMode).raise

theorem State.keeps.lpCmdEnd (hs : s₀.keeps s ps) {c last : Nat} (hl : [.regs] ⊆ ps := by decide) :
    s₀.keeps (s.lpCmdEnd c last) ps := by
  refine hs.next ?_ hl
  replace hs := s.keeps_refl [.regs]
  unfold State.lpCmdEnd
  exact hs.setF.setF

theorem State.keeps.lpCmdReading (hs : s₀.keeps s ps) {c : Nat} {ws : List Nat} {f : State → State}
    (hf : ∀ t, s₀.keeps t ps → s₀.keeps (f t) ps) (hl : [.regs, .mem, .ecc, .evr, .saf] ⊆ ps := by decide) : s₀.keeps
      (s.lpCmdReading c ws f) ps := by
  have hread := hs.lpRead (c := c) (ws := ws) (List.Subset.trans (by decide) hl)
  unfold State.lpCmdReading
  split
  · next heq =>
    exact ((State.keeps_snd heq hread).lpFault (List.Subset.trans (by decide) hl)).lpCmdEnd (List.Subset.trans (by
      decide) hl)
  · next heq => exact hf _ (State.keeps_snd heq hread)

theorem State.keeps.lpHoldNow (hs : s₀.keeps s ps) {c : Nat} (hl : [.regs, .mem, .ecc, .evr, .saf, .lpe] ⊆ ps := by
    decide) :
    s₀.keeps (s.lpHoldNow c) ps := by
  refine hs.next ?_ hl
  replace hs := s.keeps_refl [.regs, .mem, .ecc, .evr, .saf, .lpe]
  unfold State.lpHoldNow
  exact .cond (hs.lpCmdReading (fun _ hs => hs.setLpWord.setLpMode.setLpCh.lpCmdEnd)) (.cond (hs.lpCmdReading (fun _ hs
    => hs.setF.engStore.setLpCh.lpCmdEnd)) hs)

theorem State.keeps.lpCloseNow (hs : s₀.keeps s ps) {c : Nat} {it : Bytes} (hl : [.regs, .mem, .ecc, .evr, .saf, .lpe]
    ⊆ ps := by decide) :
    s₀.keeps (s.lpCloseNow c it) ps := by
  refine hs.next ?_ hl
  replace hs := s.keeps_refl [.regs, .mem, .ecc, .evr, .saf, .lpe]
  unfold State.lpCloseNow
  exact .cond (hs.lpCmdReading (fun _ hs => .cond hs.setLpMode.setLpCh.setF.lpCmdEnd hs.setF.lpCmdEnd.raise)) hs

theorem State.keeps.lpSwapNow (hs : s₀.keeps s ps) {c : Nat} {it : Bytes} (hl : [.regs, .mem, .ecc, .evr, .saf] ⊆ ps :=
    by decide) :
    s₀.keeps (s.lpSwapNow c it) ps := by
  refine hs.next ?_ hl
  replace hs := s.keeps_refl [.regs, .mem, .ecc, .evr, .saf]
  unfold State.lpSwapNow
  exact .cond (hs.lpCmdReading (fun _ hs => .cond hs.setLpMode.setF.lpCmdEnd hs.lpCmdEnd)) hs

theorem State.keeps.lpCommand (hs : s₀.keeps s ps) {c : Nat} {it : Bytes} (hl : [.regs, .mem, .ecc, .evr, .saf, .lpe] ⊆
    ps := by decide) :
    s₀.keeps (s.lpCommand c it) ps := by
  refine hs.next ?_ hl
  replace hs := s.keeps_refl [.regs, .mem, .ecc, .evr, .saf, .lpe]
  unfold State.lpCommand
  split
  · exact hs.lpHoldNow
  · exact hs.lpCloseNow
  · exact hs.lpSwapNow
  · exact hs

theorem State.keeps.lpReading (hs : s₀.keeps s ps) {c : Nat} {ws : List Nat} {f : State → State}
    (hf : ∀ t, s₀.keeps t ps → s₀.keeps (f t) ps) (hl : [.regs, .mem, .ecc, .evr, .saf] ⊆ ps := by decide) : s₀.keeps
      (s.lpReading c ws f) ps := by
  have hread := hs.lpRead (c := c) (ws := ws) (List.Subset.trans (by decide) hl)
  unfold State.lpReading
  split
  · next heq => exact (State.keeps_snd heq hread).lpFault (List.Subset.trans (by decide) hl)
  · next heq => exact hf _ (State.keeps_snd heq hread)

theorem State.keeps.lpToPrev (hs : s₀.keeps s ps) {c : Nat} (hl : [.regs, .mem, .ecc, .evr, .saf, .lpe] ⊆ ps := by
    decide) :
    s₀.keeps (s.lpToPrev c) ps := by
  refine hs.next ?_ hl
  replace hs := s.keeps_refl [.regs, .mem, .ecc, .evr, .saf, .lpe]
  unfold State.lpToPrev
  exact hs.lpReading (fun _ hs => hs.setLpWord.setLpCh)

theorem State.keeps.lpResume (hs : s₀.keeps s ps) {c : Nat} (hl : [.regs, .mem, .ecc, .evr, .saf, .lpe] ⊆ ps := by
    decide) :
    s₀.keeps (s.lpResume c) ps := by
  refine hs.next ?_ hl
  replace hs := s.keeps_refl [.regs, .mem, .ecc, .evr, .saf, .lpe]
  unfold State.lpResume
  exact .cond hs.lpToPrev hs

theorem State.keeps.lpFetch (hs : s₀.keeps s ps) {p : Pattern} {c k : Nat} {d : Bytes} (hl : [.regs, .queues, .ecc,
    .evr, .saf, .lpe] ⊆ ps := by decide) :
    s₀.keeps (s.lpFetch p c k d).2.2 ps := by
  refine hs.next ?_ hl
  replace hs := s.keeps_refl [.regs, .queues, .ecc, .evr, .saf, .lpe]
  unfold State.lpFetch
  split
  · exact hs
  · exact hs.engRead
  · exact hs.engRead
  · split
    · next heq =>
        exact (State.keeps_snd heq hs.queueTake).setLpCh
    · next heq =>
        exact (State.keeps_snd heq hs.queueTake)
  · exact hs

theorem State.keeps.lpCounted (hs : s₀.keeps s ps) {p : Pattern} {c : Nat} (hl : [.regs, .lpe] ⊆ ps := by decide) :
    s₀.keeps (s.lpCounted p c) ps := by
  refine hs.next ?_ hl
  replace hs := s.keeps_refl [.regs, .lpe]
  unfold State.lpCounted
  exact hs.incWrap.setLpCh

theorem State.keeps.setBobArea (hs : s₀.keeps s ps) {j : Nat} {x : BobArea} (hl : [.lpe] ⊆ ps := by decide) :
    s₀.keeps (s.setBobArea j x) ps := by
  refine hs.next ?_ hl
  replace hs := s.keeps_refl [.lpe]
  unfold State.setBobArea
  exact hs.withLpe

theorem State.keeps.bobDone (hs : s₀.keeps s ps) {st : Nat} (hl : [.regs, .evr] ⊆ ps := by decide) :
    s₀.keeps (s.bobDone st) ps := by
  refine hs.next ?_ hl
  replace hs := s.keeps_refl [.regs, .evr]
  unfold State.bobDone
  exact hs.setF.raise

theorem State.keeps.bobRecord (hs : s₀.keeps s ps) {c flags : Nat} {words : List Nat} (hl : [.regs, .mem, .ecc, .evr,
    .lpe] ⊆ ps := by decide) :
    s₀.keeps (s.bobRecord c flags words) ps := by
  refine hs.next ?_ hl
  replace hs := s.keeps_refl [.regs, .mem, .ecc, .evr, .lpe]
  unfold State.bobRecord
  split
  · exact hs
  · exact .cond (.cond (State.keeps.cond (State.keeps.cond hs.setF hs).setBobArea.load.setF.setF (State.keeps.cond
      hs.setF hs).setBobArea.load.setF).bobDone (.cond (State.keeps.cond hs.setF hs).setBobArea.load.setF.setF
      (State.keeps.cond hs.setF hs).setBobArea.load.setF)) (State.keeps.cond hs.setF hs).setBobArea

theorem State.keeps.setClo (hs : s₀.keeps s ps) {o : Nat} {x : CloOut} (hl : [.fio] ⊆ ps := by decide) :
    s₀.keeps (s.setClo o x) ps := by
  refine hs.next ?_ hl
  replace hs := s.keeps_refl [.fio]
  unfold State.setClo
  exact hs.withFio

theorem State.keeps.cloOff (hs : s₀.keeps s ps) {o : Nat} (hl : [.regs, .fio] ⊆ ps := by decide) :
    s₀.keeps (s.cloOff o) ps := by
  refine hs.next ?_ hl
  replace hs := s.keeps_refl [.regs, .fio]
  unfold State.cloOff
  exact hs.setF.setF.setF.setF.setClo

theorem State.keeps.cloTransfer (hs : s₀.keeps s ps) {o : Nat} (hl : [.regs, .fio] ⊆ ps := by decide) :
    s₀.keeps (s.cloTransfer o) ps := by
  refine hs.next ?_ hl
  replace hs := s.keeps_refl [.regs, .fio]
  unfold State.cloTransfer
  exact hs.setF.setClo

theorem State.keeps.cloApply (hs : s₀.keeps s ps) {p : Pattern} {o v : Nat} (hl : [.regs, .fio] ⊆ ps := by decide) :
    s₀.keeps (s.cloApply p o v) ps := by
  refine hs.next ?_ hl
  replace hs := s.keeps_refl [.regs, .fio]
  unfold State.cloApply
  exact (State.keeps.cond hs.setF hs).setF.setB.setF.setClo

theorem State.keeps.cloSet (hs : s₀.keeps s ps) {p : Pattern} {o v : Nat} (hl : [.regs, .fio] ⊆ ps := by decide) :
    s₀.keeps (s.cloSet p o v) ps := by
  refine hs.next ?_ hl
  replace hs := s.keeps_refl [.regs, .fio]
  unfold State.cloSet
  exact .cond hs.setF (.cond hs.setClo.cloOff hs.cloTransfer.cloApply)

theorem State.keeps.lpWrite (hs : s₀.keeps s ps) {p : Pattern} {it : Bytes} {u : Nat} (hl : [.regs, .mem, .queues,
    .ecc, .evr, .saf, .fio] ⊆ ps := by decide) :
    s₀.keeps (s.lpWrite p it u) ps := by
  refine hs.next ?_ hl
  replace hs := s.keeps_refl [.regs, .mem, .queues, .ecc, .evr, .saf, .fio]
  unfold State.lpWrite
  dsimp only
  split
  · exact hs.setLpWord
  · exact hs.cloSet
  · exact hs.engStore
  · exact hs.queueStore
  · exact hs

theorem State.keeps.lpHeldSample (hs : s₀.keeps s ps) {p : Pattern} {c : Nat} {it : Bytes} {srcInv : Bool} (hl :
    [.regs, .mem, .queues, .ecc, .evr, .saf, .fio, .lpe] ⊆ ps := by decide) :
    s₀.keeps (s.lpHeldSample p c it srcInv) ps := by
  refine hs.next ?_ hl
  replace hs := s.keeps_refl [.regs, .mem, .queues, .ecc, .evr, .saf, .fio, .lpe]
  unfold State.lpHeldSample
  exact hs.setF.lpCounted.bobRecord.lpWrite

theorem State.keeps.setLpVars (hs : s₀.keeps s ps) {c : Nat} {v : LoopVars} (hl : [.regs, .mem, .ecc, .evr, .saf] ⊆ ps
    := by decide) :
    s₀.keeps (s.setLpVars c v) ps := by
  refine hs.next ?_ hl
  replace hs := s.keeps_refl [.regs, .mem, .ecc, .evr, .saf]
  unfold State.setLpVars
  exact hs.engStore

theorem State.keeps.lpNumeric (hs : s₀.keeps s ps) {p : Pattern} {c : Nat} {it : Bytes} {v : Nat} {rec : State → State}
    (hrec : ∀ t, s₀.keeps t ps → s₀.keeps (rec t) ps) (hl : [.regs, .mem, .queues, .ecc, .evr, .saf, .fio, .lpe] ⊆ ps
      := by decide) : s₀.keeps (s.lpNumeric p c it v rec) ps := by
  have hcounted := (hs.setF (f := F.LPE_CH_STATUS_NUMERIC c) (v := 1) (List.Subset.trans (by decide) hl)).lpCounted (p
    := p) (c := c)
    (List.Subset.trans (by decide) hl)
  unfold State.lpNumeric
  exact ((hrec _ hcounted).lpWrite (List.Subset.trans (by decide) hl)).raise (List.Subset.trans (by decide) hl)

theorem State.keeps.lpClosingSample (hs : s₀.keeps s ps) {p : Pattern} {c : Nat} {it : Bytes} {w : Nat → Nat} {y r vdc
    acc : Nat} {srcInv : Bool} (hl : [.regs, .mem, .queues, .ecc, .evr, .saf, .fio, .lpe] ⊆ ps := by decide) :
    s₀.keeps (s.lpClosingSample p c it w y r vdc acc srcInv) ps := by
  refine hs.next ?_ hl
  replace hs := s.keeps_refl [.regs, .mem, .queues, .ecc, .evr, .saf, .fio, .lpe]
  unfold State.lpClosingSample
  exact .cond hs.eccClearWords.setLpVars.setF.setF.setF.setLpCh.lpCounted.bobRecord.lpWrite (hs.lpReading (fun _ hs =>
    hs.lpNumeric (fun _ hs => hs.bobRecord)))

theorem State.keeps.endInjection (hs : s₀.keeps s ps) {why : Nat} (hl : [.regs, .evr, .lpe] ⊆ ps := by decide) :
    s₀.keeps (s.endInjection why) ps := by
  refine hs.next ?_ hl
  replace hs := s.keeps_refl [.regs, .evr, .lpe]
  unfold State.endInjection
  exact .cond hs.withLpe.setF.raise hs

theorem State.keeps.lpInjDone (hs : s₀.keeps s ps) {j : Nat} (hl : [.regs, .evr, .lpe] ⊆ ps := by decide) :
    s₀.keeps (s.lpInjDone j) ps := by
  refine hs.next ?_ hl
  replace hs := s.keeps_refl [.regs, .evr, .lpe]
  unfold State.lpInjDone
  exact .cond (State.keeps.cond hs.setBobArea hs.setBobArea.setF).endInjection (.cond hs.setBobArea hs.setBobArea.setF)

theorem State.keeps.lpComputed (hs : s₀.keeps s ps) {p : Pattern} {tick c : Nat} {it : Bytes} {w : Nat → Nat} {y rRaw
    vdc acc : Nat}
    {srcInv : Bool} (hl : [.regs, .mem, .queues, .ecc, .tasks, .evr, .saf, .fio, .lpe] ⊆ ps := by decide) : s₀.keeps
      (s.lpComputed p tick c it w y rRaw vdc acc srcInv) ps := by
  refine hs.next ?_ hl
  replace hs := s.keeps_refl [.regs, .mem, .queues, .ecc, .tasks, .evr, .saf, .fio, .lpe]
  have hdone {t : State} {j : Option (Nat × Nat)} (ht : s.keeps t [.regs, .mem, .queues, .ecc, .tasks, .evr, .saf,
    .fio, .lpe]) :
      s.keeps (match j with
      | some (j, _) => t.lpInjDone j
      | none => t) [.regs, .mem, .queues, .ecc, .tasks, .evr, .saf, .fio, .lpe] := by
    split
    · exact ht.lpInjDone
    · exact ht
  have hvdc (b : Prop) [Decidable b] : s.keeps (if b then s.setF (F.LPE_CH_STATUS_VDC_LOW c) 1 else s) [.regs, .mem,
    .queues, .ecc, .tasks, .evr, .saf, .fio, .lpe] := .cond hs.setF hs
  have hlimits {a b d : Prop} [Decidable a] [Decidable b] [Decidable d] {t : State} {x y z x' y' z' : Nat}
      (ht : s.keeps t [.regs, .mem, .queues, .ecc, .tasks, .evr, .saf, .fio, .lpe]) :
      s.keeps (if a then if b then t.postTriggerAt x y z else if d then t.postTriggerAt x' y' z' else t else t) [.regs,
        .mem, .queues, .ecc, .tasks, .evr, .saf, .fio, .lpe] :=
    .cond (.cond ht.postTriggerAt (.cond ht.postTriggerAt ht)) ht
  unfold State.lpComputed
  refine .cond ?_ (hdone ((hvdc _).lpNumeric fun _ ht => ht.bobRecord))
  exact hlimits (State.keeps.lpWrite (hdone ((hvdc _).setLpVars.setB.setB.setB.lpCounted.bobRecord)))

theorem State.keeps.lpSampled (hs : s₀.keeps s ps) {p : Pattern} {tick c : Nat} {it : Bytes} (hl : [.regs, .mem,
    .queues, .ecc, .tasks, .evr, .saf, .fio, .lpe] ⊆ ps := by decide) :
    s₀.keeps (s.lpSampled p tick c it) ps := by
  refine hs.next ?_ hl
  replace hs := s.keeps_refl [.regs, .mem, .queues, .ecc, .tasks, .evr, .saf, .fio, .lpe]
  unfold State.lpSampled
  split
  next heq =>
  have h0 := State.keeps_snd_snd heq hs.lpFetch
  split
  next heq =>
  have h1 := State.keeps_snd_snd heq h0.lpFetch
  split
  next heq =>
  have h2 := State.keeps_snd_snd heq h1.lpFetch
  split
  next t heq =>
  have h3 := State.keeps_snd_snd heq h2.lpFetch
  have hinv {b : Prop} [Decidable b] : s.keeps (if b then t.setF (F.LPE_CH_STATUS_SRC_INVALID c) 1 else t) [.regs,
    .mem, .queues, .ecc, .tasks, .evr, .saf, .fio, .lpe] :=
    .cond h3.setF h3
  exact .cond hinv.lpHeldSample (.cond (.cond hinv.lpToPrev hinv.lpToPrev.lpHeldSample)
    (.cond hinv.lpClosingSample hinv.lpComputed))

theorem State.keeps.lpDueSample (hs : s₀.keeps s ps) {p : Pattern} {tick c : Nat} (hl : [.regs, .mem, .queues, .ecc,
    .tasks, .evr, .saf, .fio, .lpe] ⊆ ps := by decide) :
    s₀.keeps (s.lpDueSample p tick c) ps := by
  refine hs.next ?_ hl
  replace hs := s.keeps_refl [.regs, .mem, .queues, .ecc, .tasks, .evr, .saf, .fio, .lpe]
  unfold State.lpDueSample
  exact .cond hs (.cond hs.setF.lpLeftOut (.cond hs.setF.lpCommand.lpResume (hs.setF.lpCommand.lpResume.lpReading (fun
    _ hs => hs.lpSampled))))

theorem State.keeps.grpCompute (hs : s₀.keeps s ps) {p : Pattern} {start : Nat} {cs : List Nat} (hl : [.regs, .mem,
    .queues, .ecc, .tasks, .evr, .saf, .fio, .lpe] ⊆ ps := by decide) :
    s₀.keeps (s.grpCompute p start cs).2 ps := by
  refine hs.next ?_ hl
  replace hs := s.keeps_refl [.regs, .mem, .queues, .ecc, .tasks, .evr, .saf, .fio, .lpe]
  unfold State.grpCompute
  exact State.keeps_fold_snd (fun _ _ hr => hr.lpDueSample) hs

theorem State.keeps.lpNotComputed (hs : s₀.keeps s ps) {p : Pattern} {c : Nat} (hl : [.regs, .lpe] ⊆ ps := by decide) :
    s₀.keeps (s.lpNotComputed p c) ps := by
  refine hs.next ?_ hl
  replace hs := s.keeps_refl [.regs, .lpe]
  unfold State.lpNotComputed
  exact .cond hs hs.setF.incSat.lpLeftOut

theorem State.keeps.grpNotComputed (hs : s₀.keeps s ps) {p : Pattern} {cs : List Nat} (hl : [.regs, .lpe] ⊆ ps := by
    decide) :
    s₀.keeps (s.grpNotComputed p cs) ps := by
  refine hs.next ?_ hl
  replace hs := s.keeps_refl [.regs, .lpe]
  unfold State.grpNotComputed
  exact .fold (fun _ _ hs => hs.lpNotComputed) hs

end

end Sys2Proof.Machine
end

section
/-!
PROOFS. Entries of loop lanes (R135, R144) and of self-tests (R476, R477), and the scrubbers (R101 to R105).
-/

namespace Sys2Proof.Machine

-- One proof after another: a side condition by `decide` waits for every proof before it, on a thread of its own.
set_option Elab.async false

theorem onUnit_of {b : Bool} (h : b = true) (t : State) : onUnit b t = .next t := if_pos h

/-! ### Entries that run -/

/-- On the reference clock every entry may run (R52). -/
theorem State.entryMayRun_of {s : State} (h : s.getF F.SCH_STATUS_DEGRADED_CLK = 0) : s.entryMayRun = true := by
  simp [State.entryMayRun, State.isSet, h]

/-- The owner of the station is not passive. -/
theorem State.passive_of {s : State} (h : s.roleIs .solo = true ∨ s.roleIs .active = true) : s.passive = false := by
  simpa [State.passive, or_iff_not_imp_left] using h

/-! ### Lanes -/

theorem State.alters_setBusy_lane (s : State) {l : Nat} (hl : l < 8) (b : Bool) :
    s.alters (s.setBusy (8 + l) b) [F.LPE_STATUS_BUSY.addr] [.regs] := by
  rw [State.setBusy, if_neg (by omega), if_pos (by omega)]
  exact s.alters_setF _ _

theorem State.alters_finishEntry_lane (s : State) {l : Nat} (hl : l < 8) (k : Nat) :
    s.alters (s.finishEntry (8 + l) k) [F.LPE_STATUS_BUSY.addr] [.regs, .sched] :=
  have hset := ((s.alters_setAgent (8 + l) { s.agent (8 + l) with running := none, done := max (s.agent (8 + l)).done (k + 1) }).mono
    (a := []) (b := [F.LPE_STATUS_BUSY.addr]) (m := [.regs, .sched]) (by simp) (by decide)).step
    (alters_setBusy_lane _ hl false)
  .ite _ (hset.step (alters_postHeartbeat _ _)) hset

/-- Settles O20: the entry's samples are grpCompute's, which leave the agents alone; the end of the entry frees the lane. -/
theorem loopGroups : Obligations.LoopGroups := by
  intro l k s r p hl hsched hp hkind hfree howner hclock hpower chans
  let v := (s.atTick r.entry.start).setF F.LPE_STATUS_STANDBY_PASS 0
  let u := (v.grpCompute p r.entry.start (chans.filter (fun c => lpDue (p.loop c) s.seamPos))).2
  have hpassive : (s.atTick r.entry.start).passive = false := State.passive_of (s := s.atTick r.entry.start) howner
  have hstandby : (s.atTick r.entry.start).setB F.LPE_STATUS_STANDBY_PASS (s.atTick r.entry.start).passive = v := by
    rw [hpassive]
    rfl
  have hv : s.alters v [F.LPE_STATUS_STANDBY_PASS.addr] [.clock, .regs] :=
    ((s.alters_clock _).mono (by simp) (by decide)).step (State.alters_setF _ _ _)
  have hmay : v.entryMayRun = true := State.entryMayRun_of ((hv.getF (by decide)).trans hclock)
  have hown : v.passive = false := State.passive_of (by
    simpa only [State.roleIs, hv.getF (f := F.PAIR_STATUS_ROLE) (by decide)] using howner)
  have hdue : v.grpDue p r.entry.object = chans.filter (fun c => lpDue (p.loop c) s.seamPos) := by
    have hpos : v.seamPos = s.seamPos := hv.getF (by decide)
    simp only [State.grpDue, hpos]
    refine congrArg (List.filter _) (List.map_congr_left fun i _ => Nat.add_comm _ _)
  have hagent : u.agent (8 + l) = s.agent (8 + l) :=
    State.agent_of_sched (((v.keeps_refl (Part.but .sched)).grpCompute.same .sched).trans
      (hv.keeps .sched (by decide))) _
  have hexec : exec (.loopGrp l k) s = .next (u.finishEntry (8 + l) k) := by
    have hstart : s.loopGrpStart l k r p = u.finishEntry (8 + l) k := by
      have hrun : ((s.atTick r.entry.start).agent (8 + l)).running = none := hfree
      simp only [State.loopGrpStart, laneAgent, hrun, hstandby, hmay, hown, hdue, Bool.not_true, Bool.or_false,
        Bool.false_eq_true, if_false, u]
    have hrow : execLoopGrp l k s = .next (s.loopGrpStart l k r p) := by
      simp only [execLoopGrp, laneAgent, hsched, hp, hkind, hpower, ne_eq, not_true_eq_false, if_false, if_true]
      exact onUnit_of (decide_eq_true hl) _
    exact hrow.trans (congrArg _ hstart)
  obtain ⟨hrunning, hdone⟩ := u.agent_finishEntry (8 + l) k
  exact ⟨u, _, hexec, rfl, hrunning, by rw [hdone, hagent], (u.alters_finishEntry_lane hl k).regsBut,
    (u.alters_finishEntry_lane hl k).keeps⟩

/-! ### A self-test of the solver while it solves -/

/-- A schedule in which the solver (agent 16) has one entry, a self-test of kind 8 and object 0. -/
def solverTest : Section :=
  ⟨Pattern.SCHEDULE, 17, List.replicate 256 0#8 ++ [1, 0, 0, 0, 0, 0, 0, 0, 0x10, 1, 0, 0, 0, 0, 0, 0] ++
    [1, 0, 0, 0, 0x18, 1, 0, 0] ++ [0, 0, 0, 8, 0, 0, 0, 0]⟩

/-- The slot tables run, and the solver is in a solve that goes on. -/
def solving : State :=
  { State.reset with
    pat := { State.reset.pat with active := some ⟨[], [solverTest], []⟩ }
    qps := { State.reset.qps with run := some ⟨0, 0, [], [], false⟩ } }.setF F.SCH_STATUS_RUNNING 1

theorem solving_pass (t : State) (h : exec (.selftest 16 0 true) solving = .next t) : t.getF F.DGT_ST_PASS = 0 := by
  have hrun : (match exec (.selftest 16 0 true) solving with
    | .next t => t.getF F.DGT_ST_PASS
    | _ => 0) = 0 := by decide +kernel
  rwa [h] at hrun

/-- Refutes O26: no entry of agent 16 runs, but a solve that went on past its entry does, and the self-test overruns. -/
theorem not_selfTestsAndScrubbing : ¬ Obligations.SelfTestsAndScrubbing := by
  rintro ⟨htests, -⟩
  obtain ⟨⟨t, hexec, hpass, -⟩, -⟩ := htests 16 0 solving ⟨0, 0, slotEntry 0x8000000⟩ (by decide) (by decide +kernel) rfl
    (by decide +kernel) (by decide +kernel) (by decide)
  rw [solving_pass t hexec] at hpass
  exact absurd hpass (by decide +kernel)

end Sys2Proof.Machine
end

section
/-!
PROOFS. Overruns that the budget monitor counts (R49 to R51).
-/

namespace Sys2Proof.Machine

-- One proof after another: a side condition by `decide` waits for every proof before it, on a thread of its own.
set_option Elab.async false

theorem State.getF_incSat_natMin (s : State) {f : Fld} (hf : f.inWord) :
    (s.incSat f).getF f = Nat.min (2 ^ f.width - 1) (s.getF f + 1) := s.getF_incSat_same hf

theorem State.getF_incSat_byte (s : State) {f : Fld} (hf : f.inWord) (hw : f.width = 8) :
    (s.incSat f).getF f = Nat.min 255 (s.getF f + 1) := by
  rw [s.getF_incSat_natMin hf, hw, show 2 ^ 8 - 1 = 255 from rfl]

/-! ### The registers of an overrun -/

/-- The registers that count and capture an overrun of agent a. -/
abbrev overrunAddrs (a : Nat) : List Nat :=
  [F.SCH_OVR_COUNT_COUNT.addr, (F.SCH_AGENT_OVR_COUNT a).addr, F.SCH_OVR_FIRST_VALID.addr, F.SCH_OVR_FIRST_AT_STITCH.addr]

/-- What SCH_OVR_FIRST takes of an overrun. -/
def State.overrunShown (s : State) (a cause : Nat) (r : Running) : State :=
  (((((((s.setF F.SCH_OVR_FIRST_VALID 1).setF F.SCH_OVR_FIRST_AGENT a).setF F.SCH_OVR_FIRST_CAUSE cause).setF
    F.SCH_OVR_FIRST_KIND r.entry.kindNo).setF F.SCH_OVR_FIRST_TABLE r.table).setF
    F.SCH_OVR_FIRST_ENTRY r.index).setF F.SCH_OVR_FIRST_AT_STITCH s.clock.stitch.toNat).setF
    F.SCH_OVR_FIRST_AT_SEAM_POS s.seamPos

/-- The overrun is counted, of the station and of the agent. -/
def State.overrunCounted (s : State) (a : Nat) : State :=
  ((s.incSat F.SCH_OVR_COUNT_COUNT).incSat (F.SCH_AGENT_OVR_COUNT a)).setAgent a { s.agent a with overran := true }

theorem State.countOverrun_eq (s : State) (a cause : Nat) (r : Running) :
    s.countOverrun a cause r =
      if (s.overrunCounted a).firstOverrun a (overrunTick a cause r.entry) then
        State.overrunShown { s.overrunCounted a with sched := { (s.overrunCounted a).sched with
          firstAt := some (s.clock.stitch, overrunTick a cause r.entry) } } a cause r
      else s.overrunCounted a := rfl

section
variable (s : State) (a cause : Nat) (r : Running)

theorem State.alters_overrunShown :
    s.alters (s.overrunShown a cause r) [F.SCH_OVR_FIRST_VALID.addr, F.SCH_OVR_FIRST_AT_STITCH.addr] [.regs] :=
  have hvalid := (s.alters_setF F.SCH_OVR_FIRST_VALID 1).mono (a := [F.SCH_OVR_FIRST_VALID.addr])
    (b := [F.SCH_OVR_FIRST_VALID.addr, F.SCH_OVR_FIRST_AT_STITCH.addr]) (by simp) (fun _ h => h)
  (((((((hvalid.step (alters_setF _ F.SCH_OVR_FIRST_AGENT _) (by decide)).step
    (alters_setF _ F.SCH_OVR_FIRST_CAUSE _) (by decide)).step (alters_setF _ F.SCH_OVR_FIRST_KIND _) (by decide)).step
    (alters_setF _ F.SCH_OVR_FIRST_TABLE _) (by decide)).step (alters_setF _ F.SCH_OVR_FIRST_ENTRY _) (by decide)).step
    (alters_setF _ F.SCH_OVR_FIRST_AT_STITCH _) (by decide)).step (alters_setF _ F.SCH_OVR_FIRST_AT_SEAM_POS _) (by decide))

theorem State.alters_overrunCounted : s.alters (s.overrunCounted a) (overrunAddrs a) [.regs, .sched] :=
  (((s.alters_incSat _).mono (by simp) (by decide)).step (alters_incSat _ _)).step (alters_setAgent _ _ _)

theorem State.alters_countOverrun : s.alters (s.countOverrun a cause r) (overrunAddrs a) [.regs, .sched] := by
  rw [State.countOverrun_eq]
  exact .ite _ (((s.alters_overrunCounted a).step (State.alters_sched _ _)).step (alters_overrunShown _ _ _ _)
    (by simp)) (s.alters_overrunCounted a)

/-- What SCH_OVR_FIRST shows. -/
theorem State.getF_overrunShown (ha : a < 29) (hcause : cause < 4) :
    (s.overrunShown a cause r).getF F.SCH_OVR_FIRST_VALID = 1 ∧
    (s.overrunShown a cause r).getF F.SCH_OVR_FIRST_CAUSE = cause ∧
    (s.overrunShown a cause r).getF F.SCH_OVR_FIRST_AGENT = a := by
  refine ⟨?_, ?_, ?_⟩ <;> simp (disch := decide) only [State.overrunShown, State.getF_setF_other]
  · exact State.getF_setF_holds _ (by decide) (by decide)
  · exact State.getF_setF_holds _ (by decide) hcause
  · exact State.getF_setF_holds _ (by decide) (by simp only [Fld.width, F.SCH_OVR_FIRST_AGENT]; omega)

theorem State.getF_overrunCounted {f : Fld} (hf : f.addr ≠ (F.SCH_AGENT_OVR_COUNT a).addr) :
    (s.overrunCounted a).getF f = (s.incSat F.SCH_OVR_COUNT_COUNT).getF f := by
  rw [State.overrunCounted, (State.alters_setAgent _ _ _).getF (List.not_mem_nil),
    (State.alters_incSat _ (F.SCH_AGENT_OVR_COUNT a)).getF (by simpa using hf)]

theorem State.getF_countOverrun_count : (s.countOverrun a cause r).getF F.SCH_OVR_COUNT_COUNT =
    Nat.min (2 ^ F.SCH_OVR_COUNT_COUNT.width - 1) (s.getF F.SCH_OVR_COUNT_COUNT + 1) := by
  have hcounted : (s.overrunCounted a).getF F.SCH_OVR_COUNT_COUNT = (s.incSat F.SCH_OVR_COUNT_COUNT).getF F.SCH_OVR_COUNT_COUNT :=
    s.getF_overrunCounted a (by simp only [F.SCH_OVR_COUNT_COUNT, F.SCH_AGENT_OVR_COUNT]; omega)
  rw [← s.getF_incSat_natMin (f := F.SCH_OVR_COUNT_COUNT) ⟨by decide, by decide⟩, ← hcounted, State.countOverrun_eq]
  split_ifs
  · rw [(State.alters_overrunShown _ _ _ _).getF (by decide), (State.alters_sched _ _).getF List.not_mem_nil]
  · rfl

theorem State.getF_countOverrun_first (ha : a < 29) (hcause : cause < 4) (h : s.getF F.SCH_OVR_FIRST_VALID = 0) :
    (s.countOverrun a cause r).getF F.SCH_OVR_FIRST_VALID = 1 ∧
    (s.countOverrun a cause r).getF F.SCH_OVR_FIRST_CAUSE = cause ∧
    (s.countOverrun a cause r).getF F.SCH_OVR_FIRST_AGENT = a := by
  have hfree : (s.overrunCounted a).getF F.SCH_OVR_FIRST_VALID = 0 := by
    rw [s.getF_overrunCounted a (by simp only [F.SCH_OVR_FIRST_VALID, F.SCH_AGENT_OVR_COUNT]; omega),
      (s.alters_incSat _).getF (by decide), h]
  rw [State.countOverrun_eq, if_pos (by simp [State.firstOverrun, State.isSet, hfree])]
  exact State.getF_overrunShown _ _ _ _ ha hcause

omit s a cause r in
theorem State.agent_withFirstAt (u : State) (x : Option (BitVec 64 × Nat)) (j : Nat) :
    State.agent { u with sched := { u.sched with firstAt := x } } j = u.agent j := rfl

theorem State.agent_countOverrun (j : Nat) :
    (s.countOverrun a cause r).agent j = if j = a then { s.agent a with overran := true } else s.agent j := by
  have hcounted : (s.overrunCounted a).agent j = if j = a then { s.agent a with overran := true } else s.agent j := by
    split_ifs with hj
    · subst hj; exact State.agent_setAgent_same _ _ _
    · exact (State.agent_setAgent_ne _ _ hj)
  have hshown : ∀ u : State, (u.overrunShown a cause r).agent j = u.agent j := fun u =>
    State.agent_of_sched ((u.alters_overrunShown a cause r).keeps.same .sched) j
  rw [State.countOverrun_eq, ← hcounted]
  split_ifs
  · rw [hshown, State.agent_withFirstAt]
  · rfl

end

/-! ### A task cut short -/

/-- Without the SUSPEND action the activation is cut and counted, and nothing else happens. -/
theorem State.cutTask_eq {s : State} {p : Pattern} (hp : s.pat.active = some p) {k : Nat} (h : p.taskSuspend k = false) :
    s.cutTask k = { s.incSat (F.SCH_TASK_STATUS_ABORTS k) with
      tasks := { (s.incSat (F.SCH_TASK_STATUS_ABORTS k)).tasks with
        cut := Store.set (fun _ => false) (s.incSat (F.SCH_TASK_STATUS_ABORTS k)).tasks.cut k true } } := by
  generalize hu : s.incSat (F.SCH_TASK_STATUS_ABORTS k) = u
  have hpat : u.pat.active = some p := by rw [← hu]; exact hp
  simp only [State.cutTask, hu, hpat, Option.map_some, h, Option.getD_some, Bool.false_eq_true, if_false]

theorem State.alters_cutTask_plain {s : State} {p : Pattern} (hp : s.pat.active = some p) {k : Nat}
    (h : p.taskSuspend k = false) :
    s.alters (s.cutTask k) [(F.SCH_TASK_STATUS_ABORTS k).addr] [.regs, .tasks] := by
  rw [State.cutTask_eq hp h]
  exact ((s.alters_incSat _).mono (fun _ h => h) (by decide)).step (State.alters_tasks _ _)

/-- A task is cut by an overrun or by an exception: counted, marked, and its half and its publication are as they were. -/
theorem State.cutTask_shows {s : State} {p : Pattern} (hp : s.pat.active = some p) {k : Nat} (h : p.taskSuspend k = false) :
    Store.get (fun _ => false) (s.cutTask k).tasks.cut k = true ∧
    (s.cutTask k).getF (F.SCH_TASK_STATUS_ABORTS k) = Nat.min 255 (s.getF (F.SCH_TASK_STATUS_ABORTS k) + 1) ∧
    (s.cutTask k).getF (F.SCH_TASK_STATUS_PUBLISHED k) = s.getF (F.SCH_TASK_STATUS_PUBLISHED k) ∧
    (s.cutTask k).getF (F.SCH_TASK_STATUS_HALF k) = s.getF (F.SCH_TASK_STATUS_HALF k) := by
  have hreg : ∀ f, (s.cutTask k).getF f = (s.incSat (F.SCH_TASK_STATUS_ABORTS k)).getF f := fun f => by
    rw [State.cutTask_eq hp h, (State.alters_tasks _ _).getF List.not_mem_nil]
  refine ⟨?_, ?_, ?_, ?_⟩
  · rw [State.cutTask_eq hp h]
    exact Store.get_set_same (fun _ => false) (s.incSat (F.SCH_TASK_STATUS_ABORTS k)).tasks.cut k true
  · rw [hreg, s.getF_incSat_byte (by simp [Fld.inWord, F.SCH_TASK_STATUS_ABORTS]) (by simp [Fld.width, F.SCH_TASK_STATUS_ABORTS])]
  · rw [hreg]
    exact State.getF_setF_other _ _ (by simp [Fld.separate, Fld.fits, F.SCH_TASK_STATUS_ABORTS, F.SCH_TASK_STATUS_PUBLISHED])
  · rw [hreg]
    exact State.getF_setF_other _ _ (by simp [Fld.separate, Fld.fits, F.SCH_TASK_STATUS_ABORTS, F.SCH_TASK_STATUS_HALF])

/-- An agent that overran in this stitch has done so when its entry ends. -/
theorem State.overran_finishEntry (s : State) (a k : Nat) : ((s.finishEntry a k).agent a).overran = (s.agent a).overran := by
  unfold State.finishEntry
  dsimp only
  split_ifs <;> simp [State.postHeartbeat]

/-! ### The overrun of a core's entry -/

section
variable {c cause : Nat} {s : State} {q : Running} {p : Pattern}

/-- What is left when the monitor ends the task's entry that core c executes. -/
def State.coreOverrun (s : State) (c cause : Nat) (q : Running) : State :=
  ((s.countOverrun c cause q).cutTask (taskOf q.entry.object)).coreIdle c q

theorem State.overrun_coreSeg (hc : c < 8) (hq : (s.agent c).running = some q) (hkind : q.entry.kind = .coreSeg) :
    s.overrun c cause = s.coreOverrun c (if q.entry.budget < (s.core c).cyc then 0 else cause) q := by
  have hnet : ¬(17 ≤ c ∧ c < 25) := by omega
  simp only [State.overrun, hq, State.overrunRunning, if_neg hnet, if_pos hc, State.abortCore, hkind, overBudget,
    decide_eq_true_eq]
  rfl

/-- The status of a task lies apart from the registers that an overrun counts in and that show busy cores. -/
theorem taskStatus_notMem_overrunAddrs {k : Nat} (hc : c < 8) :
    (F.SCH_TASK_STATUS_ABORTS k).addr ∉ overrunAddrs c := by
  simp only [overrunAddrs, F.SCH_TASK_STATUS_ABORTS, F.SCH_OVR_COUNT_COUNT, F.SCH_AGENT_OVR_COUNT, F.SCH_OVR_FIRST_VALID,
    F.SCH_OVR_FIRST_AT_STITCH, List.mem_cons, List.not_mem_nil, or_false]
  omega

theorem coreOverrun_shows (hc : c < 8) (hp : s.pat.active = some p) (hcause : cause < 4)
    (hsuspend : p.taskSuspend (taskOf q.entry.object) = false) :
    let task := taskOf q.entry.object
    let t := s.coreOverrun c cause q
    (t.agent c).running = none ∧ (t.agent c).overran = true ∧ Store.get (fun _ => false) t.tasks.cut task = true ∧
      t.getF F.SCH_OVR_COUNT_COUNT = Nat.min (2 ^ F.SCH_OVR_COUNT_COUNT.width - 1) (s.getF F.SCH_OVR_COUNT_COUNT + 1) ∧
      t.getF (F.SCH_TASK_STATUS_ABORTS task) = Nat.min 255 (s.getF (F.SCH_TASK_STATUS_ABORTS task) + 1) ∧
      (s.getF F.SCH_OVR_FIRST_VALID = 0 → t.getF F.SCH_OVR_FIRST_VALID = 1 ∧ t.getF F.SCH_OVR_FIRST_CAUSE = cause ∧
        t.getF F.SCH_OVR_FIRST_AGENT = c) ∧
      t.getF (F.SCH_TASK_STATUS_PUBLISHED task) = s.getF (F.SCH_TASK_STATUS_PUBLISHED task) ∧
      t.getF (F.SCH_TASK_STATUS_HALF task) = s.getF (F.SCH_TASK_STATUS_HALF task) ∧
      s.keeps t [.sched, .regs, .tasks] := by
  intro task t
  have htask : task < 32 := bitsOf_lt _ _ _
  have hcount := s.alters_countOverrun c cause q
  have hpat : (s.countOverrun c cause q).pat.active = some p := by rw [hcount.keeps.same .pat]; exact hp
  have hcut := State.alters_cutTask_plain hpat hsuspend
  have hidle := ((s.countOverrun c cause q).cutTask task).alters_coreIdle hc q
  obtain ⟨hmark, haborts, hpub, hhalf⟩ := State.cutTask_shows hpat hsuspend
  -- the status of the task, through the end of the entry and back to the state before the overrun
  have hstatus : ∀ f : Fld, f.addr = (F.SCH_TASK_STATUS_ABORTS task).addr →
      t.getF f = ((s.countOverrun c cause q).cutTask task).getF f ∧ (s.countOverrun c cause q).getF f = s.getF f := fun f hf =>
    ⟨hidle.getF (by rw [hf]; exact taskStatus_ne_busy htask), hcount.getF (by rw [hf]; exact taskStatus_notMem_overrunAddrs hc)⟩
  -- the registers of the overrun, through the cut and the end of the entry
  have hovr : ∀ f : Fld, f.addr ∈ [F.SCH_OVR_COUNT_COUNT.addr, F.SCH_OVR_FIRST_VALID.addr] →
      t.getF f = (s.countOverrun c cause q).getF f := fun f hf => by
    simp only [List.mem_cons, List.not_mem_nil, or_false, F.SCH_OVR_COUNT_COUNT, F.SCH_OVR_FIRST_VALID] at hf
    refine (hidle.getF ?_).trans (hcut.getF ?_) <;>
      simp only [F.APC_STATUS_BUSY, F.SCH_TASK_STATUS_ABORTS, List.mem_singleton] <;> omega
  have hagent : ((s.countOverrun c cause q).cutTask task).agent c = { s.agent c with overran := true } :=
    (State.agent_of_sched (hcut.keeps.same .sched) c).trans ((s.agent_countOverrun c cause q c).trans (if_pos rfl))
  refine ⟨(State.agent_coreIdle _ c q).1, ?_, ?_, ?_, ?_, fun hfree => ?_, ?_, ?_, ?_⟩
  · exact (State.overran_finishEntry _ c q.index).trans (congrArg Agent.overran hagent)
  · have htasks : t.tasks = ((s.countOverrun c cause q).cutTask task).tasks := hidle.keeps.same .tasks
    rw [htasks]
    exact hmark
  · rw [hovr _ (by simp)]; exact s.getF_countOverrun_count c cause q
  · rw [(hstatus (F.SCH_TASK_STATUS_ABORTS task) rfl).1, haborts, (hstatus (F.SCH_TASK_STATUS_ABORTS task) rfl).2]
  · obtain ⟨hvalid, hfirst, hwho⟩ := s.getF_countOverrun_first c cause q (by omega) hcause hfree
    exact ⟨(hovr _ (by decide)).trans hvalid, (hovr _ (by decide)).trans hfirst, (hovr _ (by decide)).trans hwho⟩
  · exact (hstatus (F.SCH_TASK_STATUS_PUBLISHED task) rfl).1.trans (hpub.trans (hstatus (F.SCH_TASK_STATUS_PUBLISHED task) rfl).2)
  · exact (hstatus (F.SCH_TASK_STATUS_HALF task) rfl).1.trans (hhalf.trans (hstatus (F.SCH_TASK_STATUS_HALF task) rfl).2)
  · exact (hcount.keeps.mono (by decide)).step hcut |>.step hidle

end

/-- Settles O24: both commands are the monitor's overrun, the second at the END tick; within its budget the entry is left. -/
theorem overruns : Obligations.Overruns := by
  intro c s q p hc hq hp hkind task hsuspend ended
  have hagent : c < 29 := by omega
  have hbudget : s.overrun c 0 = s.coreOverrun c 0 q := by rw [State.overrun_coreSeg hc hq hkind, ite_self]
  have hend : exec (.endTickOverrun c) s = .next ((s.atTick q.entry.finish).coreOverrun c
      (if q.entry.budget < (s.core c).cyc then 0 else 1) q) := by
    have hrow : exec (.endTickOverrun c) s = .next ((s.atTick q.entry.finish).overrun c 1) := by
      show onUnit _ _ = _
      simp only [hq, onUnit_of (decide_eq_true hagent)]
      rw [if_neg fun h => absurd h.1 (by omega)]
    rw [hrow, State.overrun_coreSeg hc (by exact hq) hkind]
    rfl
  have hshows : ∀ cause, cause < 4 → exec (.endTickOverrun c) s = .next ((s.atTick q.entry.finish).coreOverrun c cause q) →
      ended (.endTickOverrun c) cause := fun cause hcause hexec => by
    obtain ⟨h1, h2, h3, h4, h5, h6, h7, h8, h9⟩ := coreOverrun_shows (s := s.atTick q.entry.finish) hc hp hcause hsuspend
    exact ⟨_, hexec, h1, h2, h3, h4, h5, h6, h7, h8, ((s.alters_clock _).keeps.mono (by decide)).next h9⟩
  refine ⟨fun hover => ⟨?_, hshows 0 (by decide) (by rw [hend, if_pos hover])⟩,
    fun hwithin => ⟨?_, hshows 1 (by decide) (by rw [hend, if_neg (by omega)])⟩⟩
  · obtain ⟨h1, h2, h3, h4, h5, h6, h7, h8, h9⟩ := coreOverrun_shows (s := s) hc hp (cause := 0) (by decide) hsuspend
    refine ⟨_, ?_, h1, h2, h3, h4, h5, h6, h7, h8, h9.mono (by decide)⟩
    show onUnit _ _ = _
    simp [hq, onUnit_of (decide_eq_true hagent), overBudget, hover, hbudget, show c ≤ 15 by omega]
  · show onUnit _ _ = _
    simp [hq, onUnit_of (decide_eq_true hagent), overBudget, hc, hwithin]

end Sys2Proof.Machine
end

section
/-!
PROOFS. The entries of cores at their start (R17, R46, R50, R82, R106, R122).
-/

namespace Sys2Proof.Machine

-- One proof after another: a side condition by `decide` waits for every proof before it, on a thread of its own.
set_option Elab.async false

/-! ### The core at the start of an entry -/

/-- The registers of R82. -/
def Core.startsAt (x : Core) (pc sp object : Nat) (run : RunKind) : Prop :=
  x.pc = BitVec.ofNat 32 pc ∧ x.rd 31 = BitVec.ofNat 64 sp ∧ (∀ q : GReg, q ≠ 31 → x.rd q = 0) ∧ x.ib = 0 ∧ x.fst = 0 ∧
    x.cyc = 0 ∧ x.object = BitVec.ofNat 16 object ∧ x.run = run

theorem Core.idle_rd (q : GReg) : Core.idle.rd q = 0 := by
  unfold Core.rd Core.idle
  simp

@[simp] theorem Core.wr_object (x : Core) (r : GReg) (v : BitVec 64) : (x.wr r v).object = x.object := by
  simp only [Core.wr]; split_ifs <;> rfl
@[simp] theorem Core.wr_run (x : Core) (r : GReg) (v : BitVec 64) : (x.wr r v).run = x.run := by
  simp only [Core.wr]; split_ifs <;> rfl
@[simp] theorem Core.wr_evt (x : Core) (r : GReg) (v : BitVec 64) : (x.wr r v).evt = x.evt := by
  simp only [Core.wr]; split_ifs <;> rfl

theorem Core.start_startsAt (pc sp len object : Nat) (run : RunKind) (evt : Option (BitVec 16 × BitVec 64)) :
    (Core.start pc sp len object run evt).startsAt pc sp object run := by
  unfold Core.start
  exact ⟨by simp, Core.rd_wr_same _ _ (by decide), fun q hq => (Core.rd_wr_ne _ _ hq).trans (Core.idle_rd q), by simp [Core.idle],
    by simp [Core.idle], by simp [Core.idle], by simp, by simp⟩

theorem Core.start_evt (pc sp len object : Nat) (run : RunKind) (evt : Option (BitVec 16 × BitVec 64)) :
    (Core.start pc sp len object run evt).evt = evt := by
  simp [Core.start]

section
variable {c k : Nat} {s : State} {r : Running} {p : Pattern}

theorem State.alters_startCore (s : State) (hc : c < 8) (r : Running) (x : Core) :
    s.alters (s.startCore c r x) [F.APC_STATUS_BUSY.addr] [.sched, .cores, .regs] :=
  ((((s.alters_setAgent c _).mono (List.nil_subset _) (by decide)).step (State.alters_setBusy_core _ hc _)
    (fun _ h => h)).step (State.alters_setCore _ c _) (List.nil_subset _)).step (State.alters_setSelv _ _ _) (by decide)

/-- A core that starts executes the entry with its registers set; the other cores go on. -/
theorem State.startCore_shows (s : State) (c : Nat) (r : Running) (x : Core) :
    ((s.startCore c r x).agent c).running = some r ∧ (s.startCore c r x).core c = x ∧
      (∀ j, j ≠ c → (s.startCore c r x).core j = s.core j) := by
  have hselv := (((s.beginEntry c r).setCore c x)).alters_setSelv c (x.run != .none)
  have hset := (s.beginEntry c r).alters_setCore c x
  have hbegin := s.alters_beginEntry c r
  refine ⟨?_, (hselv.keeps.same .cores (by decide) c).trans (State.core_setCore_same _ _ _), fun j hj =>
    (hselv.keeps.same .cores (by decide) j).trans ((State.core_setCore_ne _ _ hj).trans (hbegin.keeps.same .cores (by decide) j))⟩
  have hagent : (s.startCore c r x).agent c = (s.beginEntry c r).agent c :=
    State.agent_of_sched ((hselv.keeps.same .sched).trans (hset.keeps.same .sched)) c
  rw [hagent, State.beginEntry, State.agent_setBusy, State.agent_setAgent_same]

theorem State.startCore_startsAt (s : State) (c : Nat) (r : Running) (pc sp len object : Nat) (run : RunKind)
    (evt : Option (BitVec 16 × BitVec 64)) :
    ((s.startCore c r (Core.start pc sp len object run evt)).core c).startsAt pc sp object run := by
  rw [(s.startCore_shows c r _).2.1]
  exact Core.start_startsAt pc sp len object run evt

/-! ### From the table to the entry -/

theorem State.coreEntry_runs {kind : EntryKind} (f : State → Nat → Nat → Running → Pattern → State)
    (hs : s.scheduled c k = some r) (hp : s.pat.active = some p) (hkind : r.entry.kind = kind) (hon : s.domainOn c = true) :
    s.coreEntry c k kind f = f s c k r p := by
  simp only [State.coreEntry, hs, hp, hkind, hon, if_true]

theorem State.coreEntry_dark {kind : EntryKind} (f : State → Nat → Nat → Running → Pattern → State)
    (hs : s.scheduled c k = some r) (hp : s.pat.active = some p) (hkind : r.entry.kind = kind) (hon : s.domainOn c = false) :
    s.coreEntry c k kind f = (s.atTick r.entry.start).passEntry c k := by
  simp [State.coreEntry, hs, hp, hkind, hon]

/-- An entry that is passed over: it is done, and the agent goes on with what it executes. -/
theorem State.agent_passEntry (s : State) (a k : Nat) :
    ((s.passEntry a k).agent a).running = (s.agent a).running ∧ ((s.passEntry a k).agent a).done = k + 1 := by
  unfold State.passEntry State.postHeartbeat
  dsimp only
  split_ifs <;> simp

theorem State.passEntry_shows (s : State) (c k start : Nat) :
    (((s.atTick start).passEntry c k).agent c).running = (s.agent c).running ∧
    (((s.atTick start).passEntry c k).agent c).done = k + 1 ∧ s.keeps ((s.atTick start).passEntry c k) [.clock, .sched] := by
  obtain ⟨hrunning, hdone⟩ := (s.atTick start).agent_passEntry c k
  exact ⟨hrunning, hdone, ((s.alters_clock _).keeps.mono (by decide)).step (State.alters_passEntry _ _ _)⟩

/-! ### CORE_SEG -/

variable (howner : s.roleIs .solo = true ∨ s.roleIs .active = true)
  (hclock : s.getF F.SCH_STATUS_DEGRADED_CLK = 0)

/-- The entry may run at its tick. -/
theorem State.runs_atTick (howner : s.roleIs .solo = true ∨ s.roleIs .active = true)
    (hclock : s.getF F.SCH_STATUS_DEGRADED_CLK = 0) (start : Nat) :
    (s.atTick start).passive = false ∧ (s.atTick start).entryMayRun = true :=
  ⟨State.passive_of (s := s.atTick start) howner, State.entryMayRun_of (s := s.atTick start) hclock⟩

theorem State.taskSkips_of {task seg : Nat} (hsusp : s.getF (F.SCH_TASK_STATUS_SUSPENDED task) = 0)
    (hcut : seg = 0 ∨ Store.get (fun _ => false) s.tasks.cut task = false) : s.taskSkips task seg = false := by
  rcases hcut with rfl | hcut <;> simp [State.taskSkips, State.isSet, *]

include howner hclock in
theorem State.coreSegStart_free (hfree : (s.agent c).running = none)
    (hskip : s.taskSkips (taskOf r.entry.object) (segmentOf r.entry.object) = false) :
    s.coreSegStart c k r p =
      (if segmentOf r.entry.object = 0 then (s.atTick r.entry.start).uncut (taskOf r.entry.object)
        else s.atTick r.entry.start).startCore c r
      (Core.start (p.segEntry (taskOf r.entry.object) (segmentOf r.entry.object))
        (p.segStackTop (taskOf r.entry.object) (segmentOf r.entry.object))
        (p.segStackLen (taskOf r.entry.object) (segmentOf r.entry.object)) r.entry.object .none none) := by
  obtain ⟨hpassive, hmay⟩ := State.runs_atTick howner hclock r.entry.start
  have hfree' : ((s.atTick r.entry.start).agent c).running = none := hfree
  have hskip' : (s.atTick r.entry.start).taskSkips (taskOf r.entry.object) (segmentOf r.entry.object) = false := hskip
  simp [State.coreSegStart, hpassive, hmay, hskip', hfree']

include howner hclock in
theorem State.coreSegStart_busy {q : Running} (hq : (s.agent c).running = some q)
    (hskip : s.taskSkips (taskOf r.entry.object) (segmentOf r.entry.object) = false) :
    s.coreSegStart c k r p =
      (((s.atTick r.entry.start).countOverrun c 2 r).cutTask (taskOf r.entry.object)).passEntry c k := by
  obtain ⟨hpassive, hmay⟩ := State.runs_atTick howner hclock r.entry.start
  have hq' : ((s.atTick r.entry.start).agent c).running = some q := hq
  have hskip' : (s.atTick r.entry.start).taskSkips (taskOf r.entry.object) (segmentOf r.entry.object) = false := hskip
  simp [State.coreSegStart, hpassive, hmay, hskip', hq']

/-! ### SELV_SEG and EVT_SLOT -/

include howner hclock in
theorem State.selvSegStart_free (hfree : (s.agent c).running = none) :
    s.selvSegStart c k r p =
      ((s.atTick r.entry.start).setSig (selvSegOf r.entry.object) (selvRunB r.entry.object) WSig.clear).startCore c r
      (Core.start (runEntry (p.runRecord (selvSegOf r.entry.object) (selvRunB r.entry.object)))
        (runStackTop (p.runRecord (selvSegOf r.entry.object) (selvRunB r.entry.object)))
        (runStackLen (p.runRecord (selvSegOf r.entry.object) (selvRunB r.entry.object))) r.entry.object
        (if selvRunB r.entry.object then .runB else .runA) none) := by
  obtain ⟨hpassive, -⟩ := State.runs_atTick howner hclock r.entry.start
  have hfree' : ((s.atTick r.entry.start).agent c).running = none := hfree
  have hclock' : (s.atTick r.entry.start).isSet F.SCH_STATUS_DEGRADED_CLK = false := by
    have h : (s.atTick r.entry.start).getF F.SCH_STATUS_DEGRADED_CLK = 0 := hclock
    simp [State.isSet, h]
  simp [State.selvSegStart, hpassive, hclock', hfree']

include howner hclock in
theorem State.evtSlotStart_free (hfree : (s.agent c).running = none) {g : Trigger} {rest : List Trigger}
    (hsusp : s.getF (F.SCH_TASK_STATUS_SUSPENDED (taskOf r.entry.object)) = 0)
    (hg : s.triggersOf (taskOf r.entry.object) = g :: rest) (hpost : g.stitch ≠ s.clock.stitch ∨ g.tick < r.entry.start) :
    s.evtSlotStart c k r p =
      (((s.atTick r.entry.start).setTriggers (taskOf r.entry.object) rest).uncut (taskOf r.entry.object)).startCore c r
      (Core.start (p.segEntry (taskOf r.entry.object) 0) (p.segStackTop (taskOf r.entry.object) 0)
        (p.segStackLen (taskOf r.entry.object) 0) r.entry.object .none (some (g.code, g.arg))) := by
  obtain ⟨hpassive, hmay⟩ := State.runs_atTick howner hclock r.entry.start
  have hfree' : ((s.atTick r.entry.start).agent c).running = none := hfree
  have hsusp' : (s.atTick r.entry.start).isSet (F.SCH_TASK_STATUS_SUSPENDED (taskOf r.entry.object)) = false := by
    have h : (s.atTick r.entry.start).getF (F.SCH_TASK_STATUS_SUSPENDED (taskOf r.entry.object)) = 0 := hsusp
    simp [State.isSet, h]
  have hg' : (s.atTick r.entry.start).triggersOf (taskOf r.entry.object) = g :: rest := hg
  have hpost' : (s.atTick r.entry.start).postedBefore g r.entry.start = true := by
    have hstitch : (s.atTick r.entry.start).clock.stitch = s.clock.stitch := rfl
    simpa [State.postedBefore, hstitch] using hpost
  simp [State.evtSlotStart, hpassive, hmay, hsusp', hg', hpost', hfree']

omit howner hclock in
theorem State.evtSlotStart_idle (hg : s.triggersOf (taskOf r.entry.object) = []) :
    s.evtSlotStart c k r p = (s.atTick r.entry.start).passEntry c k := by
  have hg' : (s.atTick r.entry.start).triggersOf (taskOf r.entry.object) = [] := hg
  simp [State.evtSlotStart, hg']

/-! ### What an entry leaves -/

/-- Every other core and the memory are as they were, and no register changes but BUSY. -/
def State.coreAlone (s t : State) (c : Nat) : Prop :=
  (∀ j, j ≠ c → t.core j = s.core j) ∧ (∀ a, t.rdByte a = s.rdByte a) ∧ s.regsBut t [F.APC_STATUS_BUSY.addr]

/-- A core takes up its entry from a state u that differs from s in the parts named. -/
theorem State.startCore_from {u : State} {l : List Part} (hc : c < 8) (x : Core) (hu : s.alters u [] l) (hcores : Part.cores ∉ l)
    (hmem : Part.mem ∉ l) :
    ((u.startCore c r x).agent c).running = some r ∧ (u.startCore c r x).core c = x ∧
      s.coreAlone (u.startCore c r x) c ∧ s.keeps (u.startCore c r x) (l ++ [.sched, .cores, .regs]) := by
  obtain ⟨hrunning, hcore, hother⟩ := u.startCore_shows c r x
  have hstart := u.alters_startCore hc r x
  exact ⟨hrunning, hcore, ⟨fun j hj => (hother j hj).trans (hu.keeps .cores hcores j),
    fun a => (hstart.keeps.same .mem (by decide) a).trans (hu.keeps .mem hmem a), (hu.trans hstart).regsBut⟩,
    hu.keeps.trans hstart.keeps⟩

end

theorem State.sig_congr {s t : State} (h : t.wsig = s.wsig) (seg : Nat) (b : Bool) : t.sig seg b = s.sig seg b := by
  rw [State.sig, State.sig, h]

theorem State.triggersOf_congr {s t : State} (h : t.tasks = s.tasks) (k : Nat) : t.triggersOf k = s.triggersOf k := by
  rw [State.triggersOf, State.triggersOf, h]

theorem State.triggersOf_uncut (s : State) (k j : Nat) : (s.uncut k).triggersOf j = s.triggersOf j := rfl

/-- Settles O19: an entry that is free takes up its core, one that has no power or no trigger is passed over, and one whose
core is busy is an overrun of CAUSE 2. -/
theorem coreEntriesStart : Obligations.CoreEntriesStart := by
  intro c k s r p hc hsched hp obj task seg fresh owns clocked others
  have hrow : ∀ {i : Instr} {t : State}, exec i s = onCore c t → exec i s = .next t := fun h => h.trans (onUnit_of (decide_eq_true hc) _)
  refine ⟨fun hfree howner hclock hon => ⟨fun hkind hsusp hcut => ?coreSeg, fun hkind => ?selvSeg,
    fun g rest hkind hsusp hg hpost => ?evtSlot, fun hkind hg => ?idle⟩, fun hoff hkind => ?dark,
    fun q hq hkind howner hclock hon hsusp hcut => ?busy⟩
  case coreSeg =>
    have hexec : exec (.coreSeg c k) s = .next (s.coreSegStart c k r p) :=
      (hrow rfl).trans (congrArg _ (State.coreEntry_runs _ hsched hp hkind hon))
    rw [State.coreSegStart_free howner hclock hfree (State.taskSkips_of hsusp hcut)] at hexec
    have huncut : s.alters (if segmentOf r.entry.object = 0 then (s.atTick r.entry.start).uncut task else s.atTick r.entry.start)
        [] [.clock, .tasks] :=
      .ite _ (((s.alters_clock _).mono (fun _ h => h) (by decide)).step (State.alters_tasks _ _))
        ((s.alters_clock _).mono (fun _ h => h) (by decide))
    obtain ⟨hrunning, -, halone, hkeeps⟩ := State.startCore_from hc _ huncut (by decide) (by decide)
    exact ⟨_, hexec, hrunning, State.startCore_startsAt _ _ _ _ _ _ _ _ _, halone, hkeeps.mono (by decide)⟩
  case selvSeg =>
    have hexec : exec (.selvSeg c k) s = .next (s.selvSegStart c k r p) :=
      (hrow rfl).trans (congrArg _ (State.coreEntry_runs _ hsched hp hkind hon))
    rw [State.selvSegStart_free howner hclock hfree] at hexec
    have hsig : s.alters ((s.atTick r.entry.start).setSig (selvSegOf r.entry.object) (selvRunB r.entry.object) WSig.clear)
        [] [.clock, .wsig] :=
      ((s.alters_clock _).mono (fun _ h => h) (by decide)).step (State.alters_setSig _ _ _ _)
    obtain ⟨hrunning, -, halone, hkeeps⟩ := State.startCore_from hc _ hsig (by decide) (by decide)
    refine ⟨_, hexec, hrunning, ⟨State.startCore_startsAt _ _ _ _ _ _ _ _ _, ?_⟩, halone, hkeeps.mono (by decide)⟩
    have hwsig := (State.alters_startCore ((s.atTick r.entry.start).setSig (selvSegOf r.entry.object) (selvRunB r.entry.object)
      WSig.clear) hc r (Core.start (runEntry (p.runRecord (selvSegOf r.entry.object) (selvRunB r.entry.object)))
        (runStackTop (p.runRecord (selvSegOf r.entry.object) (selvRunB r.entry.object)))
        (runStackLen (p.runRecord (selvSegOf r.entry.object) (selvRunB r.entry.object))) r.entry.object
        (if selvRunB r.entry.object then .runB else .runA) none)).keeps.same .wsig
    exact (State.sig_congr hwsig _ _).trans (State.sig_setSig_same _ _ _ _)
  case evtSlot =>
    have hexec : exec (.evtSlot c k) s = .next (s.evtSlotStart c k r p) :=
      (hrow rfl).trans (congrArg _ (State.coreEntry_runs _ hsched hp hkind hon))
    rw [State.evtSlotStart_free howner hclock hfree hsusp hg hpost] at hexec
    generalize hu : ((s.atTick r.entry.start).setTriggers (taskOf r.entry.object) rest).uncut (taskOf r.entry.object) = u at hexec
    have hchange : s.keeps u [.clock, .regs, .tasks] := by
      rw [← hu]
      exact (((s.alters_clock _).keeps.mono (by decide)).step (State.alters_setTriggers _ _ _)).step (State.alters_tasks _ _)
    generalize hx : Core.start _ _ _ _ _ (some (g.code, g.arg)) = x at hexec
    obtain ⟨hrunning, hcore, -⟩ := u.startCore_shows c r x
    have hstart := u.alters_startCore hc r x
    refine ⟨_, hexec, hrunning, ?_, ?_, ?_, (hchange.mono (by decide)).step hstart⟩
    · rw [hcore, ← hx]; exact Core.start_startsAt _ _ _ _ _ _
    · rw [hcore, ← hx]; exact Core.start_evt _ _ _ _ _ _
    · rw [State.triggersOf_congr (hstart.keeps.same .tasks), ← hu, State.triggersOf_uncut]; exact State.triggersOf_setTriggers_same _ _ _
  case idle =>
    have hexec : exec (.evtSlot c k) s = .next (s.evtSlotStart c k r p) :=
      (hrow rfl).trans (congrArg _ (State.coreEntry_runs _ hsched hp hkind hon))
    rw [State.evtSlotStart_idle hg] at hexec
    obtain ⟨hrunning, hdone, hkeeps⟩ := s.passEntry_shows c k r.entry.start
    exact ⟨_, hexec, hrunning.trans hfree, hdone, hkeeps.same .cores, hkeeps.mono (by decide)⟩
  case dark =>
    have hexec : exec (.coreSeg c k) s = .next ((s.atTick r.entry.start).passEntry c k) :=
      (hrow rfl).trans (congrArg _ (State.coreEntry_dark _ hsched hp hkind hoff))
    obtain ⟨hrunning, hdone, hkeeps⟩ := s.passEntry_shows c k r.entry.start
    exact ⟨_, hexec, hrunning, hdone, hkeeps⟩
  case busy =>
    have hexec : exec (.coreSeg c k) s = .next (s.coreSegStart c k r p) :=
      (hrow rfl).trans (congrArg _ (State.coreEntry_runs _ hsched hp hkind hon))
    rw [State.coreSegStart_busy howner hclock hq (State.taskSkips_of hsusp hcut)] at hexec
    have hcount := (s.atTick r.entry.start).alters_countOverrun c 2 r
    have hcut' := ((s.atTick r.entry.start).countOverrun c 2 r).alters_cutTask task
    have hpass := State.alters_passEntry (((s.atTick r.entry.start).countOverrun c 2 r).cutTask task) c k
    have hovr : ∀ f : Fld, f.addr ∈ [F.SCH_OVR_COUNT_COUNT.addr, F.SCH_OVR_FIRST_VALID.addr] →
        ((((s.atTick r.entry.start).countOverrun c 2 r).cutTask task).passEntry c k).getF f =
          ((s.atTick r.entry.start).countOverrun c 2 r).getF f := fun f hf => by
      refine (hpass.getF List.not_mem_nil).trans (hcut'.getF ?_)
      simp only [List.mem_cons, List.not_mem_nil, or_false, F.SCH_OVR_COUNT_COUNT, F.SCH_OVR_FIRST_VALID] at hf
      simp only [F.SCH_TASK_STATUS_ABORTS, F.EVR_STATUS_STAGED, List.mem_cons, List.not_mem_nil, or_false]
      omega
    refine ⟨_, hexec, ?_, fun j => ?_, ?_, fun hfirst => ?_⟩
    · have hagent : (((s.atTick r.entry.start).countOverrun c 2 r).cutTask task).agent c = { s.agent c with overran := true } :=
        (State.agent_of_sched (hcut'.keeps.same .sched) c).trans
          (((s.atTick r.entry.start).agent_countOverrun c 2 r c).trans (if_pos rfl))
      exact (State.agent_passEntry _ c k).1.trans ((congrArg Agent.running hagent).trans hq)
    · exact (hpass.keeps.same .cores (by decide) j).trans ((hcut'.keeps.same .cores (by decide) j).trans
        (hcount.keeps.same .cores (by decide) j))
    · exact (hovr _ (by simp)).trans ((s.atTick r.entry.start).getF_countOverrun_count c 2 r)
    · obtain ⟨hvalid, hcause, hwho⟩ := (s.atTick r.entry.start).getF_countOverrun_first c 2 r (by omega) (by decide) hfirst
      exact ⟨(hovr _ (by decide)).trans hvalid, (hovr _ (by decide)).trans hcause, (hovr _ (by decide)).trans hwho⟩

end Sys2Proof.Machine
end
